-- ==== Sys2Proof/Word.lean ====
section
/-! DEFINITION.  The word types of the Itundax T9 model and their plainest arithmetic. -/

namespace Sys2Proof

/-- One byte of any store of the device. -/
abbrev Byte := BitVec 8

/-- One 32-bit register or memory word. -/
abbrev Word := BitVec 32

/-- One 64-bit quantity (timestamps, draw origins, digests). -/
abbrev DWord := BitVec 64

end Sys2Proof
end

