-- ==== Sys2Proof/Syntax.lean ====
section
/-! DEFINITION.  The commands of the Itundax T9 block, one constructor for each row of the opcode table,
with the operands that the outside gives each of them. -/

namespace Sys2Proof

/-- One answer of an ACK or REFUSE message (R286): sending core answered, REASON (0 for ACK), MSG_ID. -/
structure Answer where
  core : BitVec 7
  reason : BitVec 8
  msgId : Word
  deriving DecidableEq, Repr

/-- An Ethernet frame as an uplink receives it (R302, R312): its bytes, and how many codewords of its Ethernet FEC were
corrected and how many were bad. -/
structure FrameIn where
  frame : List Byte
  corrected : Nat
  bad : Nat
  deriving DecidableEq, Repr

/-- A fabric message (R283, R286): its header fields, its data bytes, and for RSP messages its answers. -/
structure Msg where
  vc : BitVec 2
  kind : BitVec 8
  ordered : Bool
  tracked : Bool
  rsig : Bool
  mcast : Bool
  parity : Bool
  escape : Bool
  dateline : Bool
  attempt : BitVec 4
  axis : BitVec 2
  minus : Bool
  dstDev : BitVec 16
  srcDev : BitVec 16
  dstCore : BitVec 7
  srcCore : BitVec 7
  job : BitVec 16
  group : BitVec 12
  seq : BitVec 16
  rank : BitVec 16
  fmt : BitVec 8
  space : BitVec 4
  hops : BitVec 3
  addr : BitVec 48
  poison : BitVec 32
  msgId : Word
  opinfo : BitVec 96
  crc : Word
  data : List Byte
  answers : List Answer
  /-- the bits of the header flit that its layout leaves reserved, as received (R285); 0 in what this device sends -/
  rsvd : BitVec 512
  deriving DecidableEq, Repr

/-- Who issues a request to a stack (R244, R245). -/
inductive Source where
  | engine (c : Fin 96)
  | firmware (p : Fin 12)
  | control (f : Fin 13)
  | fabric (dev : BitVec 16) (p : Fin 12)
  | debug
  | maintenance
  deriving DecidableEq, Repr

/-- What a sector read meets (R224, R225, R230): a single-bit error, an error that the stack's own ECC
corrected, an uncorrectable error whose retry is clean, is corrected, or fails too; and a
pseudo-channel that fails its interface checks. -/
inductive EccErr where
  | single
  | onDie
  | retryClean
  | retryCorrected
  | hard
  | interfaceFail
  deriving DecidableEq, Repr

/-- Who writes a register (R23, R251, R509, R570, R591): control firmware, or a management agent. -/
inductive Writer where
  | control
  | agentE
  | agentW
  deriving DecidableEq, Repr

/-- The register that a write reaches (R14): a register of a core window, by its offset in the window, written
through the control path or the debug port; one of the device control space, by its offset from
0x0200_0000_0000, with its writer; one of a function's BAR0 (R445, R446); the size of PF0's BAR2 as a power of
two, in PCIe configuration space (R443). -/
inductive RegAddr where
  | core (c : Fin 96) (off : BitVec 24) (gap : Nat)
  | block (w : Writer) (off : BitVec 40)
  | function (f : Fin 13) (off : BitVec 26)
  | bar2Size
  deriving DecidableEq, Repr

/-- The commands of the block: one constructor for each row of the opcode table. -/
inductive Instr where
  /-- KCI_CTRL_ENABLE (R447): A write of 1 to ENABLE makes firmware read ASQ, ACQ and A_CFG and start processing ring 0 of the function. -/
  | kciCtrlEnable (f : Fin 13)
  /-- FUNCTION_LEVEL_RESET (R456): A function-level reset or a write of 0 to ENABLE removes the function's rings, rolls back its transaction, drops unstarted commands and discards later completions. -/
  | functionLevelReset (f : Fin 13)
  /-- SQ_TAIL (R452): A doorbell write advances a submission tail, and firmware fetches, checks and starts the new commands in ring order. -/
  | sqTail (f : Fin 13) (r : Fin 32) (tail : BitVec 12) (entries : List (List Byte))
  /-- CQ_HEAD (R453): A doorbell write frees completion entries, and firmware posts held completions and a pending EVENT_LOST event. -/
  | cqHead (f : Fin 13) (r : Fin 32) (head : BitVec 12)
  /-- BAR2_READ (R444): A host read through BAR2 is checked as a control-path request and returns data, Completer Abort or a poisoned TLP. -/
  | bar2Read (f : Fin 13) (x : BitVec 38) (n : Nat)
  /-- BAR2_WRITE (R444): A host write through BAR2 is checked as a control-path request and is performed or dropped. -/
  | bar2Write (f : Fin 13) (x : BitVec 38) (bs : List Byte)
  /-- QUEUE_CREATE (R458): Creates a ring pair with the given ring number, vector, sizes and addresses. -/
  | queueCreate (f : Fin 13) (r : Fin 32) (host : List (DWord × List Byte))
  /-- QUEUE_DESTROY (R458): Removes a ring pair, or completes BUSY while it holds unfetched entries or open handles. -/
  | queueDestroy (f : Fin 13) (r : Fin 32) (host : List (DWord × List Byte))
  /-- DEV_QUERY (R459): Reports identity, cores, memory, partitions or the in-service block according to SEL. -/
  | devQuery (f : Fin 13) (r : Fin 32) (host : List (DWord × List Byte))
  /-- DEV_CAPS (R460): Writes the capability block to host memory. -/
  | devCaps (f : Fin 13) (r : Fin 32) (host : List (DWord × List Byte))
  /-- PART_CREATE (R458): Creates a partition on the named parcels and binds its VF. -/
  | partCreate (f : Fin 13) (r : Fin 32) (host : List (DWord × List Byte))
  /-- PART_DESTROY (R464): Aborts the partition's handles, stops its cores, drops its steps, unmaps and zeroes its ranges, zeroises its keys and frees its parcels. -/
  | partDestroy (f : Fin 13) (r : Fin 32) (host : List (DWord × List Byte))
  /-- PART_ASSIGN_PARCELS (R458): Assigns parcels to a partition, or completes BUSY while a step is unclosed. -/
  | partAssignParcels (f : Fin 13) (r : Fin 32) (host : List (DWord × List Byte))
  /-- PLAT_MAP (R243): Checks a plat entry and stages it for application at a chain count. -/
  | platMap (f : Fin 13) (r : Fin 32) (host : List (DWord × List Byte))
  /-- PLAT_UNMAP (R246): Removes a plat entry, waits for the drain of requests admitted under it and optionally zeroes the range. -/
  | platUnmap (f : Fin 13) (r : Fin 32) (host : List (DWord × List Byte))
  /-- MEM_COPY (R458): Copies between host and device memory or within the device under plat checks, reporting the first poisoned address. -/
  | memCopy (f : Fin 13) (r : Fin 32) (host : List (DWord × List Byte))
  /-- MEM_FILL (R458): Writes a 64-bit pattern over a device range. -/
  | memFill (f : Fin 13) (r : Fin 32) (host : List (DWord × List Byte))
  /-- MEM_SCRUB (R458): Writes zero over whole sectors of a range, clearing their poison. -/
  | memScrub (f : Fin 13) (r : Fin 32) (host : List (DWord × List Byte))
  /-- PROG_LOAD (R461): Checks a DTP image once and loads it into every named stopped core, returning the load report. -/
  | progLoad (f : Fin 13) (r : Fin 32) (host : List (DWord × List Byte))
  /-- PROG_START (R458): Starts the named cores and completes when every one has halted, faulted or been stopped. -/
  | progStart (f : Fin 13) (r : Fin 32) (host : List (DWord × List Byte))
  /-- PROG_STOP (R458): Stops the named cores and completes when every one is STOPPED. -/
  | progStop (f : Fin 13) (r : Fin 32) (host : List (DWord × List Byte))
  /-- PROG_STATUS (R458): Writes CORE_CTRL, SEQ_STATUS, FAULT and PHASE of each named core. -/
  | progStatus (f : Fin 13) (r : Fin 32) (host : List (DWord × List Byte))
  /-- STEP_OPEN (R346): Opens step k with its retained ranges if it is the successor step and a slot is free, and completes when the step closes. -/
  | stepOpen (f : Fin 13) (r : Fin 32) (host : List (DWord × List Byte))
  /-- STEP_CLOSE_RETRY (R367): Resets REPLAYS of a halted step and either resends the closure entry or starts a replay. -/
  | stepCloseRetry (f : Fin 13) (r : Fin 32) (host : List (DWord × List Byte))
  /-- STEP_CLOSE_ABANDON (R367): Closes a halted step under the abandon form of the commit sequence. -/
  | stepCloseAbandon (f : Fin 13) (r : Fin 32) (host : List (DWord × List Byte))
  /-- STEP_CLOSE_EVAL (R367): Requests evaluation after the commit of an unclosed step. -/
  | stepCloseEval (f : Fin 13) (r : Fin 32) (host : List (DWord × List Byte))
  /-- STEP_POLICY_SET (R372): Loads the step policy block and exchange-context fields, clears the delayed-scaling slots and performs the base commit. -/
  | stepPolicySet (f : Fin 13) (r : Fin 32) (host : List (DWord × List Byte))
  /-- STEP_RECORD_GET (R369): Copies a step record to the host and optionally releases it and all older records. -/
  | stepRecordGet (f : Fin 13) (r : Fin 32) (host : List (DWord × List Byte))
  /-- UPD_GROUP_SET (R408): Writes the fingerprint configuration of the partition's update context. -/
  | updGroupSet (f : Fin 13) (r : Fin 32) (host : List (DWord × List Byte))
  /-- EXPORT_WORKING (R403): Exports the committed state in the working format, holding the next gate closed until every byte is read. -/
  | exportWorking (f : Fin 13) (r : Fin 32) (host : List (DWord × List Byte))
  /-- EXPORT_LOGICAL (R405): Exports the committed state in the logical format, holding the next gate closed until every byte is read. -/
  | exportLogical (f : Fin 13) (r : Fin 32) (host : List (DWord × List Byte))
  /-- IMPORT_STATE (R407): Verifies and restores exported state, clears the delayed-scaling slots and performs the base commit. -/
  | importState (f : Fin 13) (r : Fin 32) (host : List (DWord × List Byte))
  /-- TXN_BEGIN (R466): Opens a transaction for the function and returns its TXN_ID. -/
  | txnBegin (f : Fin 13) (r : Fin 32) (host : List (DWord × List Byte))
  /-- TXN_COMMIT (R468): Prepares every staged command, rechecks epochs and fixes the commit count C. -/
  | txnCommit (f : Fin 13) (r : Fin 32) (host : List (DWord × List Byte)) (unit : Option Nat)
  /-- TXN_ROLLBACK (R469): Discards an open transaction and completes its staged commands with ROLLED_BACK. -/
  | txnRollback (f : Fin 13) (r : Fin 32) (host : List (DWord × List Byte))
  /-- TXN_TIMEOUT (R466): A transaction without TXN_COMMIT 10 s after TXN_BEGIN is rolled back. -/
  | txnTimeout (f : Fin 13)
  /-- TXN_SWITCH (R468): At the commit count every unit switches to the staged settings. -/
  | txnSwitch (f : Fin 13)
  /-- TXN_VERIFY_REPORT (R468): Each unit reports its switch; a fault schedules a revert count, otherwise the staged commands complete OK. -/
  | txnVerifyReport (f : Fin 13) (fault : Option Nat)
  /-- TXN_REVERT (R468): At the revert count every unit returns to its settings from before the commit count. -/
  | txnRevert (f : Fin 13)
  /-- POWER_LIMIT_SET (R26): Writes the host's PL_SUST and TH1 values, enforced as the lower of host value and ceiling. -/
  | powerLimitSet (f : Fin 13) (r : Fin 32) (host : List (DWord × List Byte))
  /-- PSTEP_POLICY_SET (R501): Writes CEIL, FLOOR and MSTEP into the power controller policy under the CLOCK_STEPS deed. -/
  | pstepPolicySet (f : Fin 13) (r : Fin 32) (host : List (DWord × List Byte))
  /-- LATTOL_SET (R473): Sets the function's latency tolerance and ALLOW_W4, which may wake the device. -/
  | lattolSet (f : Fin 13) (r : Fin 32) (host : List (DWord × List Byte))
  /-- FABRIC_CONFIG_IDENTITY (R273): Assigns the device ID and ring lengths, after which ports exchange IDs. -/
  | fabricConfigIdentity (f : Fin 13) (r : Fin 32) (host : List (DWord × List Byte))
  /-- FABRIC_CONFIG_JOB (R295): Sets a partition's JOB value, refusing duplicates. -/
  | fabricConfigJob (f : Fin 13) (r : Fin 32) (host : List (DWord × List Byte))
  /-- FABRIC_CONFIG_TIMERS (R298): Sets gap, resend, route-hold and barrier timeouts and the resend limit. -/
  | fabricConfigTimers (f : Fin 13) (r : Fin 32) (host : List (DWord × List Byte))
  /-- FABRIC_CONFIG_UPLINK (R303): Sets uplink addressing, encapsulation, MTU and PFC priorities. -/
  | fabricConfigUplink (f : Fin 13) (r : Fin 32) (host : List (DWord × List Byte))
  /-- FABRIC_CONFIG_BARRIER (R308): Configures or resets a barrier context. -/
  | fabricConfigBarrier (f : Fin 13) (r : Fin 32) (host : List (DWord × List Byte))
  /-- FABRIC_CONFIG_STAGING (R327): Sets a partition's reduction staging slots and base. -/
  | fabricConfigStaging (f : Fin 13) (r : Fin 32) (host : List (DWord × List Byte))
  /-- FABRIC_CONFIG_PORT (R281): Writes a port's PORT_CFG. -/
  | fabricConfigPort (f : Fin 13) (r : Fin 32) (host : List (DWord × List Byte))
  /-- ROUTE_TABLE_SET (R292): Stages in-tract or tract route-table entries for application at a chain count. -/
  | routeTableSet (f : Fin 13) (r : Fin 32) (host : List (DWord × List Byte))
  /-- LINK_STATUS (R458): Writes the port and router register blocks to host memory. -/
  | linkStatus (f : Fin 13) (r : Fin 32) (host : List (DWord × List Byte))
  /-- TESTPACK_LOAD (R436): Writes a test pack through the staging buffer, verifies it and stores it in a slot. -/
  | testpackLoad (f : Fin 13) (r : Fin 32) (host : List (DWord × List Byte))
  /-- TESTPACK_ACTIVATE (R437): Makes a held test pack active for each core's next round. -/
  | testpackActivate (f : Fin 13) (r : Fin 32) (host : List (DWord × List Byte))
  /-- OBS_LEVEL_SET (R430): Raises or lowers a core's observation level within the allowed moves, or admits a held-out core. -/
  | obsLevelSet (f : Fin 13) (r : Fin 32) (host : List (DWord × List Byte))
  /-- CORE_RETIRE (R432): Retires an enabled core, writing its soft fuse and following the retirement sequence if it holds step work. -/
  | coreRetire (f : Fin 13) (r : Fin 32) (host : List (DWord × List Byte))
  /-- SNAPSHOT_TAKE (R589): Writes the snapshot trigger and completes when the snapshot is captured. -/
  | snapshotTake (f : Fin 13) (r : Fin 32) (host : List (DWord × List Byte))
  /-- TRACE_CONFIG (R581): Sets field-book policy, pre-region, enable and ring on every named core. -/
  | traceConfig (f : Fin 13) (r : Fin 32) (host : List (DWord × List Byte))
  /-- COUNTER_READ (R463): Copies part of one register block into host memory, sampling activity counters first. -/
  | counterRead (f : Fin 13) (r : Fin 32) (host : List (DWord × List Byte))
  /-- TIME_SET (R564): Validates a date in seconds or calendar form and sets the UTC pair. -/
  | timeSet (f : Fin 13) (r : Fin 32) (host : List (DWord × List Byte))
  /-- TIME_GET (R563): Returns UTC seconds paired with the timestamp at the same instant. -/
  | timeGet (f : Fin 13) (r : Fin 32) (host : List (DWord × List Byte))
  /-- DEED_CLAIM (R470): Claims a deed resource for CONTROL when NONE holds it. -/
  | deedClaim (f : Fin 13) (r : Fin 32) (host : List (DWord × List Byte))
  /-- DEED_RELEASE (R470): Releases a deed held by CONTROL under the current epoch. -/
  | deedRelease (f : Fin 13) (r : Fin 32) (host : List (DWord × List Byte))
  /-- DEED_QUERY (R470): Reports a deed's holder, epoch and chain count of its last grant. -/
  | deedQuery (f : Fin 13) (r : Fin 32) (host : List (DWord × List Byte))
  /-- FW_STAGE (R550): Writes a chunk of a firmware image into the staging buffer and verifies it at CLOSE. -/
  | fwStage (f : Fin 13) (r : Fin 32) (host : List (DWord × List Byte))
  /-- FW_ACTIVATE (R550): Starts a live activation of the verified firmware image, pausing KCI. -/
  | fwActivate (f : Fin 13) (r : Fin 32) (host : List (DWord × List Byte))
  /-- KEY_PART_SET_LOAD (R555): Loads a plain or wrapped key, or performs the KWK exchange, into a slot the partition may own. -/
  | keyPartSetLoad (f : Fin 13) (r : Fin 32) (host : List (DWord × List Byte))
  /-- KEY_PART_SET_GENERATE (R555): Generates an XTS key or the partition's SRK and its certificate. -/
  | keyPartSetGenerate (f : Fin 13) (r : Fin 32) (host : List (DWord × List Byte)) (fail : Bool)
  /-- KEY_PART_SET_ZEROISE (R558): Overwrites a key slot with zeros, reads it back and frees it. -/
  | keyPartSetZeroise (f : Fin 13) (r : Fin 32) (host : List (DWord × List Byte))
  /-- CORE_CTRL_START (R88): A write of START to a stopped core clears FAULTED, empties the queues and starts the sequencer at START_INDEX. -/
  | coreCtrlStart (c : Fin 96) (v : Word) (gap : Nat)
  /-- CORE_CTRL_STOP (R88): A write of STOP stops fetching, discards queued instructions and closes incomplete XI groups. -/
  | coreCtrlStop (c : Fin 96) (v : Word) (gap : Nat)
  /-- CORE_CTRL_CLR_COUNTERS (R98): Clears the counters and flags of a stopped core, or is ignored with a CTRL_IGNORED record. -/
  | coreCtrlClrCounters (c : Fin 96) (v : Word) (gap : Nat)
  /-- CORE_STOPPED (R88): STOPPED is set once every engine of a stopping core is idle. -/
  | coreStopped (c : Fin 96) (gap : Nat)
  /-- SEQ_SIGNAL (R90): A firmware write adds its increment to a counter as engine 15 in the core's next cycle. -/
  | seqSignal (c : Fin 96) (n : Fin 64) (inc : BitVec 9) (gap : Nat)
  /-- STEP_TAG_WRITE (R102): A write of STEP_TAG takes effect for instructions starting three cycles later, resets SEQ counts and writes a TAG record. -/
  | stepTagWrite (c : Fin 96) (tag : Word) (gap : Nat)
  /-- ENG_CTRL_STEP (R82): With HOLD set, a write of STEP lets the engine's head instruction start once. -/
  | engCtrlStep (c : Fin 96) (e : Fin 10) (hold : Bool) (gap : Nat)
  /-- OLOG_WPTR_WRITE (R159): A write of OLOG_WPTR sets the next log entry and clears OLOG_DROPS. -/
  | ologWptrWrite (c : Fin 96) (v : BitVec 20) (gap : Nat)
  /-- VX_SEED_HI (R159): A write loads the VX bank state from the seed at the next CCLK edge. -/
  | vxSeedHi (c : Fin 96) (hi : Word) (gap : Nat)
  /-- EDGE_SEED_HI (R159): A write loads the edge bank state from the seed at the next CCLK edge. -/
  | edgeSeedHi (c : Fin 96) (hi : Word) (gap : Nat)
  /-- VX_STATE_LO (R159): A read returns the low half of the VX bank state and latches the high half. -/
  | vxStateLo (c : Fin 96) (gap : Nat)
  /-- EDGE_STATE_LO (R159): A read returns the low half of the edge bank state and latches the high half. -/
  | edgeStateLo (c : Fin 96) (gap : Nat)
  /-- AC_LO_READ (R578): A read of an activity-counter low register returns the sampled value and latches the high half. -/
  | acLoRead (c : Fin 96) (b : Fin 11) (i : Fin 12) (gap : Nat)
  /-- CLK_LO_READ (R534): A read of a clock-block low register latches the matching high register. -/
  | clkLoRead (r : Fin 3)
  /-- AC_CTRL_SAMPLE (R577): Copies every activity counter of the core into the readable view at one edge. -/
  | acCtrlSample (c : Fin 96) (gap : Nat)
  /-- AC_CTRL_CLEAR (R577): Zeroes every activity counter and the view. -/
  | acCtrlClear (c : Fin 96) (gap : Nat)
  /-- AC_SAMPLE_TICK (R577): Every 1 ms firmware writes SAMPLE into every core. -/
  | acSampleTick
  /-- FB_CTRL_ENABLE (R584): A write of ENABLE clears the field book, writes a SYNC record and starts recording. -/
  | fbCtrlEnable (c : Fin 96) (v : Word) (gap : Nat)
  /-- FB_CTRL_TRIGGER (R582): A write of TRIGGER fires a field-book trigger on the core. -/
  | fbCtrlTrigger (c : Fin 96) (v : Word) (gap : Nat)
  /-- XC_ATTEMPT (R325): Advancing ATTEMPT for a parity idles its tallies, frees its staged chunks and drops its stored copies. -/
  | xcAttempt (p : Fin 12) (even : BitVec 4) (odd : BitVec 4)
  /-- LIM_CTRL_COMMIT (R509): The primary agent commits the staged limits under its epoch for application 64 counts later. -/
  | limCtrlCommit (w : Writer) (epoch : Word)
  /-- LIMITS_APPLY (R509): At the chain count the staged limits become the active copy whole. -/
  | limitsApply
  /-- LIM_FLUSH (R571): A write by the primary agent under its epoch sets or clears STOP for the last-gasp flush at once. -/
  | limFlush (w : Writer) (epoch : Word) (stop : Bool)
  /-- PC_SNS (R480): A write of a sense pair's POINT_MASK, ignored when zero, is staged for the next chain count. -/
  | pcSns (n : Fin 8) (mask : BitVec 16)
  /-- POINT_MASK_APPLY (R480): At the chain count after the write a new sense-point mask takes effect. -/
  | pointMaskApply (n : Fin 8)
  /-- DEED_REQ_CLAIM (R538): A plane's request port claims a deed resource, granted by vote with a new epoch or refused. -/
  | deedReqClaim (w : Writer) (r : Fin 5)
  /-- DEED_REQ_RELEASE (R472): A plane's request port releases a deed under the matching epoch. -/
  | deedReqRelease (w : Writer) (r : Fin 5) (epoch : Word)
  /-- SB_CTRL_OPEN (R572): Begins a component in the firmware staging buffer under the FW_STAGE epoch. -/
  | sbCtrlOpen (w : Writer) (epoch : Word) (comp : BitVec 8) (slot : BitVec 2)
  /-- SB_CTRL_CLOSE (R572): Marks the last half written so that the security block verifies the component. -/
  | sbCtrlClose (w : Writer) (epoch : Word)
  /-- SB_CTRL_ACTIVATE (R572): Activates the verified component in the staging buffer. -/
  | sbCtrlActivate (w : Writer) (epoch : Word)
  /-- SB_CTRL_CANCEL (R572): Discards the component in the staging buffer. -/
  | sbCtrlCancel (w : Writer) (epoch : Word)
  /-- SB_HALF_FULL (R572): Setting FULL hands a half of the staging buffer to the security block, which clears it once consumed. -/
  | sbHalfFull (w : Writer) (epoch : Word) (h : Fin 2) (len : BitVec 18)
  /-- STAGE_VERIFY_COMPLETE (R550): The security block finishes verifying a closed image, writes it to the inactive bank and reports verified or rejected. -/
  | stageVerifyComplete (flash : Bool)
  /-- REGISTER_WRITE (R14): A write to any register without a row of its own stores RW fields, clears W1C bits, sets W1S bits and ignores the rest. -/
  | registerWrite (at_ : RegAddr) (value : Word)
  /-- SEQ_DISPATCH (R76): The sequencer fetches the next slot and dispatches it to its engine's queue once the queue has room. -/
  | seqDispatch (c : Fin 96) (gap : Nat)
  /-- NOP (R186): The sequencer waits on its waits and applies its signal. -/
  | nop (c : Fin 96) (gap : Nat)
  /-- LOOP (R187): The sequencer runs the body to END the given number of times. -/
  | loop (c : Fin 96) (gap : Nat)
  /-- HALT (R188): The sequencer stops fetching, and the program completes once every engine is idle. -/
  | halt (c : Fin 96) (gap : Nat)
  /-- LOAD (R200): LD converts a tensor from stack memory or SRAM into data SRAM, accumulator SRAM or the MV ring. -/
  | load (c : Fin 96) (gap : Nat)
  /-- FILL (R200): LD writes a pattern into every element of an SRAM tensor. -/
  | fill (c : Fin 96) (gap : Nat)
  /-- STORE (R200): ST converts an SRAM tensor into stack memory or the descriptor table. -/
  | store (c : Fin 96) (gap : Nat)
  /-- GATHER (R163): GX reads table rows named by an index list into data SRAM, converting them. -/
  | gather (c : Fin 96) (gap : Nat)
  /-- SCATTER (R165): GX writes SRAM rows into table rows named by an index list. -/
  | scatter (c : Fin 96) (gap : Nat)
  /-- SCATTER_ADD (R166): GX adds SRAM rows atomically into table rows in arrival or deterministic order. -/
  | scatterAdd (c : Fin 96) (gap : Nat)
  /-- CSR_EXPAND (R169): GX concatenates the neighbour lists of the listed vertices with their offsets. -/
  | csrExpand (c : Fin 96) (gap : Nat)
  /-- PUT (R313): XO converts a range and sends it in messages to a remote target. -/
  | put (c : Fin 96) (gap : Nat)
  /-- RED_PUT (R313): XO sends an FP32 reduction contribution at its rank to a remote buffer. -/
  | redPut (c : Fin 96) (gap : Nat)
  /-- MCAST (R329): XO multicasts a range along one ring of the tract. -/
  | mcast (c : Fin 96) (gap : Nat)
  /-- DISPATCH (R331): XO sends token rows to the experts named by route records under capacity and spill rules and writes the sent table. -/
  | dispatch (c : Fin 96) (gap : Nat)
  /-- COMBINE (R335): XO sends weighted expert output rows back to their origin tokens. -/
  | combine (c : Fin 96) (gap : Nat)
  /-- EXPECT (R320): XI waits for BYTES bytes of its group to land and then signals. -/
  | expect (c : Fin 96) (gap : Nat)
  /-- RED_EXPECT (R326): XI adds RANKS contributions in rank order into a reduction buffer, optionally gathering noise statistics. -/
  | redExpect (c : Fin 96) (gap : Nat)
  /-- TOKEN_RECV (R334): XI waits until every sender's rows and end markers have landed at the expert. -/
  | tokenRecv (c : Fin 96) (gap : Nat)
  /-- COMBINE_RECV (R336): XI waits for the combined rows and sums each token's ranks in rank order. -/
  | combineRecv (c : Fin 96) (gap : Nat)
  /-- MMUL (R108): MX loads a B tile unless reused, streams A rows and accumulates into C, whole or packed. -/
  | mmul (c : Fin 96) (gap : Nat)
  /-- CVT (R116): MX converts accumulator elements to a destination format in accumulator SRAM. -/
  | cvt (c : Fin 96) (gap : Nat)
  /-- MVMUL (R133): MV multiplies a weight chunk from its ring by up to eight vectors once the chunk is filled. -/
  | mvmul (c : Fin 96) (gap : Nat)
  /-- RING_SET (R131): MV sets the staging ring region and zeroes its pointers. -/
  | ringSet (c : Fin 96) (gap : Nat)
  /-- ADD (R205): VX adds two operands element by element. -/
  | add (c : Fin 96) (gap : Nat)
  /-- SUB (R205): VX subtracts two operands element by element. -/
  | sub (c : Fin 96) (gap : Nat)
  /-- MUL (R205): VX multiplies two operands element by element. -/
  | mul (c : Fin 96) (gap : Nat)
  /-- FMA (R205): VX computes a fused multiply-add element by element. -/
  | fma (c : Fin 96) (gap : Nat)
  /-- DIV (R205): VX divides element by element, strictly or by reciprocal in fast mode. -/
  | div (c : Fin 96) (gap : Nat)
  /-- MIN (R205): VX takes the element-wise minimum. -/
  | min (c : Fin 96) (gap : Nat)
  /-- MAX (R205): VX takes the element-wise maximum. -/
  | max (c : Fin 96) (gap : Nat)
  /-- ABS (R621): VX clears the sign bit of each element. -/
  | abs (c : Fin 96) (gap : Nat)
  /-- NEG (R621): VX flips the sign bit of each element. -/
  | neg (c : Fin 96) (gap : Nat)
  /-- SQRT (R205): VX takes the square root of each element. -/
  | sqrt (c : Fin 96) (gap : Nat)
  /-- COPY (R205): VX converts each element to the destination format. -/
  | copy (c : Fin 96) (gap : Nat)
  /-- SFU (R143): VX evaluates a special function through the special-function pipe. -/
  | sfu (c : Fin 96) (gap : Nat)
  /-- DROPOUT (R154): VX drops or scales each element by its draw. -/
  | dropout (c : Fin 96) (gap : Nat)
  /-- RAND_U (R154): VX writes uniform draws in [0, 1). -/
  | randU (c : Fin 96) (gap : Nat)
  /-- IADD (R205): VX adds INT32 elements under SAT. -/
  | iadd (c : Fin 96) (gap : Nat)
  /-- ISUB (R205): VX subtracts INT32 elements under SAT. -/
  | isub (c : Fin 96) (gap : Nat)
  /-- IMIN (R205): VX takes the INT32 minimum. -/
  | imin (c : Fin 96) (gap : Nat)
  /-- IMAX (R205): VX takes the INT32 maximum. -/
  | imax (c : Fin 96) (gap : Nat)
  /-- AND (R205): VX takes the bitwise AND of INT32 elements. -/
  | and (c : Fin 96) (gap : Nat)
  /-- OR (R205): VX takes the bitwise OR of INT32 elements. -/
  | or (c : Fin 96) (gap : Nat)
  /-- XOR (R205): VX takes the bitwise XOR of INT32 elements. -/
  | xor (c : Fin 96) (gap : Nat)
  /-- SOFTMAX (R147): VX computes a softmax over each row in fixed order. -/
  | softmax (c : Fin 96) (gap : Nat)
  /-- LNORM (R147): VX applies two-pass layer normalisation to each row. -/
  | lnorm (c : Fin 96) (gap : Nat)
  /-- RMSNORM (R147): VX applies RMS normalisation to each row. -/
  | rmsnorm (c : Fin 96) (gap : Nat)
  /-- OSM_UPDATE (R148): VX updates online-softmax state with one block of scores and writes its probabilities. -/
  | osmUpdate (c : Fin 96) (gap : Nat)
  /-- OSM_FINAL (R148): VX divides each accumulator row by its online-softmax sum. -/
  | osmFinal (c : Fin 96) (gap : Nat)
  /-- RSUM (R146): VX writes the ROWSUM of each row. -/
  | rsum (c : Fin 96) (gap : Nat)
  /-- RMAX (R146): VX writes the ROWMAX of each row. -/
  | rmax (c : Fin 96) (gap : Nat)
  /-- VLD (R205): VX loads one run into a vector register. -/
  | vld (c : Fin 96) (gap : Nat)
  /-- VST (R205): VX stores a vector register into one run, converting it. -/
  | vst (c : Fin 96) (gap : Nat)
  /-- UPD_APPLY (R383): UP applies the update rule to weights and optimiser state once the commit gate allows it. -/
  | updApply (c : Fin 96) (gap : Nat)
  /-- UPD_NORM (R386): UP combines gathered norm accumulators or adds sums of squares into the norm accumulator. -/
  | updNorm (c : Fin 96) (gap : Nat)
  /-- UPD_WCOPY (R394): UP converts the datum copy into a working copy once the commit gate allows it. -/
  | updWcopy (c : Fin 96) (gap : Nat)
  /-- SORT (R174): RK sorts each row of keys stably with optional payload. -/
  | sort (c : Fin 96) (gap : Nat)
  /-- MERGE (R173): RK merges two sorted lists stably. -/
  | merge (c : Fin 96) (gap : Nat)
  /-- UNION (R175): RK writes the duplicate-free union of two sorted lists. -/
  | union (c : Fin 96) (gap : Nat)
  /-- INTERSECT (R175): RK writes the duplicate-free intersection of two sorted lists. -/
  | intersect (c : Fin 96) (gap : Nat)
  /-- UNIQUE (R173): RK collapses runs of equal keys with optional run lengths. -/
  | unique (c : Fin 96) (gap : Nat)
  /-- TOPK (R176): RK selects the top K experts per row and writes route records or pairs. -/
  | topk (c : Fin 96) (gap : Nat)
  /-- SEGMENT (R177): RK reduces each run of equal segment ID. -/
  | segment (c : Fin 96) (gap : Nat)
  /-- HIST (R173): RK counts keys into bins. -/
  | hist (c : Fin 96) (gap : Nat)
  /-- INSTRUCTION_COMPLETE (R87): An engine completes an instruction in start order and applies its signal once its writes are visible. -/
  | instructionComplete (c : Fin 96) (e : Fin 10) (gap : Nat)
  /-- INSTRUCTION_FAULT (R87): An instruction faults, stopping its engine and the sequencer and recording FAULT and an event record. -/
  | instructionFault (c : Fin 96) (e : Fin 10) (k : Nat) (code : BitVec 8) (gap : Nat)
  /-- STACK_REQUEST (R245): A stack controller checks a request against the plat and retention guard and serves it in sector order with ECC handling. -/
  | stackRequest (src : Source) (a : BitVec 48) (write : Option (List Byte)) (n : Nat) (errs : List (BitVec 48 × Nat × EccErr))
  /-- ROW_REPAIR_COMPLETE (R228): The repair buffer is written into the repaired row and the row returns to service. -/
  | rowRepairComplete (n : Fin 6) (done : Bool)
  /-- SPARING_COMPLETE (R232): The sparing copy passes the last chunk and the stack serves from 31 pseudo-channels. -/
  | sparingComplete (n : Fin 6)
  /-- PATROL_SCRUB (R227): The patrol scrub reads sectors in each period and writes back corrected ones. -/
  | patrolScrub (n : Fin 6) (errs : List (BitVec 48 × Nat × EccErr)) (pass : Bool)
  /-- STACK_TEMP_READ (R239): Every 1 ms a stack controller reads its stack temperature and moves its throttle step. -/
  | stackTempRead (n : Fin 6) (t : BitVec 8)
  /-- TEMP_STALE (R241): A stack unread for 10 ms is held at throttle step 3 with TEMP_STALE set. -/
  | tempStale (n : Fin 6)
  /-- MEMORY_STEP_CHANGE (R221): At a chain count all six stacks stop serving and change their data rate. -/
  | memoryStepChange
  /-- MEMORY_STEP_DONE (R221): The stacks run at the new rate and resume serving queued requests. -/
  | memoryStepDone
  /-- MSTEP_AUTO_DECISION (R502): Under AUTO the device decides from stack traffic whether to move between M0 and M1. -/
  | mstepAutoDecision (delivered : List Nat) (admitted : List Nat)
  /-- PLAT_APPLY (R246): At the chain count the staged plat becomes active in all six stack controllers. -/
  | platApply
  /-- PARTITION_MAP_APPLY (R247): At the chain count the staged partition map becomes active. -/
  | partitionMapApply
  /-- ROUTE_TABLE_APPLY (R292): At the chain count the staged route tables come into force. -/
  | routeTableApply
  /-- PORT_TRAINED (R273): A port finishes training and exchanges device IDs, fencing itself if miswired. -/
  | portTrained (n : Fin 8) (peer : Option (BitVec 16))
  /-- CODEWORD_RECEIVE (R275): A receiver accepts a good codeword or discards a bad one and sends NAK. -/
  | codewordReceive (n : Fin 6) (count : BitVec 6) (good : Bool) (corrected : Bool) (flits : List (List Byte))
  /-- LINK_CONTROL_FLIT (R277): A link control flit delivers acknowledgements, credits, NAKs, lane reports and handshakes. -/
  | linkControlFlit (n : Fin 6) (ack : BitVec 6) (nak : Option (BitVec 6)) (hs : BitVec 8) (hsAt : BitVec 6) (lanes : BitVec 4) (dev : BitVec 16) (credits : List (BitVec 16))
  /-- LINK_RETRAIN_DONE (R279): A retrain ends and unacknowledged codewords are resent, or the retrain counts as failed. -/
  | linkRetrainDone (n : Fin 6) (ok : Bool)
  /-- LANE_FAULT (R280): A lane losing lock or giving too many bad codewords makes the receiver request DEGRADE. -/
  | laneFault (n : Fin 6) (lane : Fin 4)
  /-- HANDSHAKE_SWITCH (R280): At codeword count HS_AT both sides switch lanes or FEC mode as agreed. -/
  | handshakeSwitch (n : Fin 6)
  /-- LANE_RETRAINED (R280): Failed lanes finish background training and the sides return to four lanes by UPGRADE. -/
  | laneRetrained (n : Fin 6)
  /-- PARTNER_SILENCE (R282): A partner that sends no link control flit for 100 µs takes the link down. -/
  | partnerSilence (n : Fin 6)
  /-- PORT_IDLE_TWO_LANE (R505): In W3 a torus port idle for 100 µs moves to two lanes. -/
  | portIdleTwoLane (n : Fin 6)
  /-- MESSAGE_FORWARD (R290): A router takes a message header, routes it adaptively or by escape and forwards it whole. -/
  | messageForward (i : Nat)
  /-- NO_ROUTE_HOLD (R293): A message still blocked after the hold is dropped and refused with NO_ROUTE. -/
  | noRouteHold (i : Nat)
  /-- PUT_MESSAGE (R320): A PUT message lands at its target, ordered through the reorder store, and updates its group tally. -/
  | putMessage (m : Msg)
  /-- RED_PUT_MESSAGE (R326): A reduction chunk is added at NEXT_RANK, staged if early or discarded if a duplicate. -/
  | redPutMessage (m : Msg)
  /-- MCAST_MESSAGE (R294): A multicast copy lands on a device of the ring and is forwarded while devices remain. -/
  | mcastMessage (port : Fin 6) (m : Msg)
  /-- DISPATCH_MESSAGE (R333): A row piece or end marker lands at the expert core, filling slots and return records. -/
  | dispatchMessage (m : Msg)
  /-- COMBINE_MESSAGE (R335): A combine message lands an expert output row at its origin. -/
  | combineMessage (m : Msg)
  /-- ACK_MESSAGE (R296): An ACK removes answered messages from the retransmit store. -/
  | ackMessage (m : Msg)
  /-- REFUSE_MESSAGE (R297): A REFUSE schedules a resend or passes a final reason to XO. -/
  | refuseMessage (m : Msg)
  /-- BAR_ARRIVE_MESSAGE (R309): A child's barrier arrival is counted, and a complete context sends upward or releases. -/
  | barArriveMessage (port : Fin 9) (m : Msg)
  /-- BAR_RELEASE_MESSAGE (R309): A barrier release is passed to children, marked complete locally and GEN advanced. -/
  | barReleaseMessage (port : Fin 9) (m : Msg)
  /-- BARRIER_ARRIVE_LOCAL (R309): Partition firmware writes its local barrier arrival with GEN. -/
  | barrierArriveLocal (i : Fin 16) (gen : BitVec 16)
  /-- BAR_TIMEOUT (R309): A barrier not complete within BAR_TIMEOUT fails with TIMEOUT. -/
  | barTimeout (i : Fin 16)
  /-- ETHERNET_FRAME_RECEIVE (R304): An uplink receives a frame, checks encryption and counter, and delivers its messages. -/
  | ethernetFrameReceive (u : Fin 2) (payload : FrameIn)
  /-- PFC_FRAME (R307): A received PFC frame pauses or resumes one priority. -/
  | pfcFrame (u : Fin 2) (prio : BitVec 3) (xoff : Bool)
  /-- PAUSE_FRAME (R302): An IEEE 802.3x pause frame is ignored and counted. -/
  | pauseFrame (u : Fin 2)
  /-- GROUP_COMPLETE (R320): An XI instruction's group becomes complete and the instruction completes and signals. -/
  | groupComplete (c : Fin 96) (group : BitVec 12) (gap : Nat)
  /-- GAP_TIMEOUT (R323): A group gap open for GAP_TIMEOUT is closed with poisoned zeros and its instruction signals. -/
  | gapTimeout (c : Fin 96) (group : BitVec 12) (gap : Nat)
  /-- RESEND_TIMEOUT (R298): An unanswered tracked message is resent, or dropped as undeliverable after the limit. -/
  | resendTimeout (i : Nat)
  /-- DONE_SIGNAL (R350): A DONE signal on a step core reaches firmware, which releases the next step there and marks REDUCED when all have signalled. -/
  | doneSignal (c : Fin 96)
  /-- DIGEST_COMPLETE (R355): The closure digest engine finishes the shard digest and firmware sends its closure entry. -/
  | digestComplete (p : Fin 12)
  /-- BUDDY_HALT (R358): A buddy halts and firmware compares the digests of ORIG_RANGE and BUDDY_RANGE. -/
  | buddyHalt (b : Fin 96)
  /-- SUSPECT_TIMEOUT (R358): A buddy that has not halted sets SUSPECT without adding to the failure count. -/
  | suspectTimeout (c : Fin 96)
  /-- MAILBOX_POLL (R362): Firmware polls its mailbox and, with all entries counting, forms the verdict or replays on a failed peer entry. -/
  | mailboxPoll (p : Fin 12)
  /-- CLOSE_TIMEOUT (R363): A partition lacking an entry after CLOSE_TIMEOUT halts at CHECKED with PEER_TIMEOUT. -/
  | closeTimeout (p : Fin 12)
  /-- UPD_DONE_SIGNAL (R353): A core's UPD_DONE reaches firmware, which closes the gate, updates scales and writes the step record once all have signalled. -/
  | updDoneSignal (c : Fin 96)
  /-- EVAL_DONE_SIGNAL (R353): A core's EVAL_DONE reaches firmware, which signals COMMIT once all have signalled. -/
  | evalDoneSignal (c : Fin 96)
  /-- FP_DIGEST_DONE (R396): The digest engine finishes the fingerprints and the member sends its group array and root entry. -/
  | fpDigestDone (p : Fin 12)
  /-- FP_ROOTS_COMPLETE (R399): Every member's root entry for the round counts, and firmware resolves the pass or starts a round of leaf pages. -/
  | fpRootsComplete (p : Fin 12)
  /-- FP_BLOCK_RECEIVED (R400): A loser recomputes a refreshed block's leaf and accepts it or asks again. -/
  | fpBlockReceived (p : Fin 12) (b : Nat)
  /-- FP_TIMEOUT (R402): A member lacking a root entry after CLOSE_TIMEOUT halts the next step with PEER_TIMEOUT. -/
  | fpTimeout (p : Fin 12)
  /-- ROUND_OPEN (R424): A core's test round opens 7/8 of an interval after the last round. -/
  | roundOpen (c : Fin 96)
  /-- KERNEL_LAUNCH (R425): At a predicted idle window the scheduler launches the next kernel of the round. -/
  | kernelLaunch (c : Fin 96)
  /-- KERNEL_SET_HELD (R420): The hidden context holds the kernel's whole engine set and the kernel starts. -/
  | kernelSetHeld (c : Fin 96)
  /-- SET_ACQUIRE_TIMEOUT (R425): A kernel that does not hold its set within 20 µs releases its engines. -/
  | setAcquireTimeout (c : Fin 96)
  /-- KERNEL_HALT (R421): A kernel halts and its result digest is compared with the known answer. -/
  | kernelHalt (c : Fin 96) (result : Option DWord)
  /-- KERNEL_OVERRUN (R421): A kernel not halted within 4 × LENGTH is aborted and counts as a failure. -/
  | kernelOverrun (c : Fin 96)
  /-- ROUND_DUE (R426): A due round forces its remaining kernels within the per-second cap. -/
  | roundDue (c : Fin 96)
  /-- FORCED_KERNEL_RESUME (R426): A forced kernel held by the cap launches at the next second. -/
  | forcedKernelResume (c : Fin 96)
  /-- LOOPBACK_SUSPEND_END (R422): Loopback kernels resume 60 s after their suspension. -/
  | loopbackSuspendEnd
  /-- QUAR_HOLD_EXPIRY (R429): A quarantined core without failure for QUAR_HOLD_H hours moves to Watch with HELD_OUT set. -/
  | quarHoldExpiry (c : Fin 96)
  /-- FAIL_WINDOW_EXPIRY (R429): A failure older than FAIL_WINDOW_H leaves a core's FAILS count. -/
  | failWindowExpiry (c : Fin 96)
  /-- ESTIMATOR_TICK (R486): Every 1 µs the estimator, EWMAs, EDC loop, gated budget, allotment and buckets are updated. -/
  | estimatorTick (rails : List Nat) (matrix : Nat) (demand : List Nat) (slots : List (Fin 96 × Nat × Nat × Nat × Nat))
  /-- EASEMENT_LOAN (R499): A core idle or waiting for EASE_US becomes a lender at the floor share. -/
  | easementLoan (c : Fin 96)
  /-- POWER_DECISION (R492): Every 100 µs the primary agent judges limit trips and chooses the P-step. -/
  | powerDecision (dyn : Nat) (sram : Nat) (other : Nat) (leak : Nat)
  /-- TJ_LOOP (R494): Every 1 ms the Tj loop adjusts its allowance from the hottest sensor. -/
  | tjLoop (temps : List (BitVec 11))
  /-- POWER_FALLBACK (R490): Without a decision for 100 ms the hardware enters fallback at P5 or slower. -/
  | powerFallback (dyn : Nat) (sram : Nat) (other : Nat) (leak : Nat)
  /-- CALIBRATION_TICK (R487): Every 1 ms the estimate of each rail is calibrated against PMBus measurements. -/
  | calibrationTick (est : List Nat)
  /-- VOLTAGE_CORRECTION (R482): Every 1 ms the VLOG request is corrected from the lowest sense point. -/
  | voltageCorrection (lowest : Nat)
  /-- PMBUS_POLL (R483): The primary agent reads every rail's voltage, current and power once per millisecond. -/
  | pmbusPoll (reads : List (Option (Nat × Nat × Nat)))
  /-- AVS_WRITE_TIMEOUT (R481): An unconfirmed AVSBus Voltage write is retried once and then counts the rail as failed. -/
  | avsWriteTimeout (bus : Fin 4) (sel : Fin 16)
  /-- DROOP_TRIP (R484): A droop detector trips on local VLOG below its threshold and raises a skip request. -/
  | droopTrip (d : Fin 24) (mv : Nat) (cycles : Nat)
  /-- PSTEP_RAISE (R521): The controller raises the VLOG request by the next step once the previous one is reached. -/
  | pstepRaise (lowest : Nat)
  /-- PSTEP_VERIFY (R521): The new voltage verifies and the divider is armed for a target chain count. -/
  | pstepVerify (first : Nat) (second : Nat)
  /-- PSTEP_SWITCH (R521): The CCLK divider switches to the new D at the target count. -/
  | pstepSwitch
  /-- PSTEP_ABORT (R523): A step change not verified within 200 µs is abandoned. -/
  | pstepAbort
  /-- W_STATE_ENTRY (R504): After the idle dwell the device enters the next deeper W-state allowed by the tolerance. -/
  | wStateEntry (blocked : Bool)
  /-- WAKE (R508): A wake cause brings the device back toward W0 through the exit sequence. -/
  | wake (cause : Fin 6)
  /-- W_STATE_EXIT_DONE (R506): The exit sequence completes and the mesh is ungated at W0. -/
  | wStateExitDone
  /-- JITTER_ALARM (R518): A short period, escalated duty alarm or lock loss gates the meshes and resets the PLL. -/
  | jitterAlarm (m : Option (Fin 12))
  /-- DUTY_ALARM_ESCALATE (R517): A duty alarm not cleared within 10 µs becomes a jitter alarm. -/
  | dutyAlarmEscalate (m : Fin 12)
  /-- RELOCK_CHECK (R518): After lock and 4,096 clean cycles the root frequency is checked, failing after three attempts. -/
  | relockCheck (count : Nat)
  /-- RELOCK_RELEASE (R518): The NCLK mesh and then the ACLK and CCLK meshes are ungated at chain counts. -/
  | relockRelease
  /-- SENSOR_FAILED (R526): A sensor out of range or stuck is marked FAILED and replaced by a substitute reading. -/
  | sensorFailed (i : Fin 112)
  /-- TJ_WARN (R527): Tj_max reaching TH_WARN sets WARN and asserts ALERT_N. -/
  | tjWarn
  /-- THERMTRIP (R528): Four samples at 115 °C assert THERMTRIP_N, gate every mesh and latch the trip. -/
  | thermtrip (i : Fin 112)
  /-- KEEP_WARM_TICK (R529): Every 1 s in W3 or W4 the keep-warm loop sets the heater power and warming parcels. -/
  | keepWarmTick
  /-- AGENT_HEARTBEAT (R537): Every 10 ms an agent writes its heartbeat into the deed register file. -/
  | agentHeartbeat (i : Fin 2)
  /-- AGENT_CLAIM_TIMER (R538): An agent claims MGMT_PRIMARY when NONE holds it after 50 ms or the holder's heartbeat is 50 ms old. -/
  | agentClaimTimer (i : Fin 2)
  /-- THERMAL_RELEASE_TIMER (R541): The primary releases POWER_LIMITS once the condition has been clear for 60 s. -/
  | thermalReleaseTimer
  /-- FW_STAGE_IDLE_TIMEOUT (R541): The primary releases FW_STAGE after 10 minutes without a transfer. -/
  | fwStageIdleTimeout
  /-- SETDASA (R542): The I3C controller assigns the agent's dynamic address from its static address. -/
  | setdasa (stat : BitVec 7) (dyn : BitVec 7)
  /-- SET_ENDPOINT_ID (R543): The bus owner assigns the endpoint's MCTP endpoint ID. -/
  | setEndpointId (ep : Fin 3) (eid : BitVec 8)
  /-- GET_ENDPOINT_ID (R543): Returns the endpoint's MCTP endpoint ID. -/
  | getEndpointId (ep : Fin 3)
  /-- GET_ENDPOINT_UUID (R543): Returns the endpoint's UUID. -/
  | getEndpointUuid (ep : Fin 3)
  /-- GET_MCTP_VERSION_SUPPORT (R543): Returns the MCTP versions supported. -/
  | getMctpVersionSupport (ep : Fin 3) (type : BitVec 8)
  /-- GET_MESSAGE_TYPE_SUPPORT (R543): Returns the MCTP message types supported. -/
  | getMessageTypeSupport (ep : Fin 3)
  /-- GET_TID (R544): Returns the PLDM terminus ID. -/
  | getTid (ep : Fin 3)
  /-- GET_PLDM_VERSION (R544): Returns the supported PLDM versions. -/
  | getPldmVersion (ep : Fin 3) (type : BitVec 8)
  /-- GET_PLDM_TYPES (R544): Returns the supported PLDM types. -/
  | getPldmTypes (ep : Fin 3)
  /-- GET_PLDM_COMMANDS (R544): Returns the supported PLDM commands. -/
  | getPldmCommands (ep : Fin 3) (type : BitVec 8)
  /-- GET_PDR (R544): Returns platform descriptor records for the sensors and effecters. -/
  | getPdr (ep : Fin 3) (handle : Nat)
  /-- GET_SENSOR_READING (R544): Returns a numeric sensor reading. -/
  | getSensorReading (ep : Fin 3) (id : BitVec 16)
  /-- GET_STATE_SENSOR_READINGS (R544): Returns state sensor readings. -/
  | getStateSensorReadings (ep : Fin 3) (id : BitVec 16)
  /-- SET_NUMERIC_EFFECTER_VALUE (R544): The primary sets a power, thermal, TH1 or P-step ceiling effecter, claiming deeds as needed. -/
  | setNumericEffecterValue (ep : Fin 3) (id : BitVec 16) (v : Nat)
  /-- GET_NUMERIC_EFFECTER_VALUE (R544): The primary returns an effecter value. -/
  | getNumericEffecterValue (ep : Fin 3) (id : BitVec 16)
  /-- SET_EVENT_RECEIVER (R544): Names the receiver of PlatformEventMessages. -/
  | setEventReceiver (ep : Fin 3) (eid : BitVec 8)
  /-- PLATFORM_EVENT_ACK (R569): The event receiver's acknowledgement lets the primary clear the matching latched alert bit. -/
  | platformEventAck (n : Fin 8)
  /-- QUERY_DEVICE_IDENTIFIERS (R545): Returns the device identifiers for firmware update. -/
  | queryDeviceIdentifiers (ep : Fin 3)
  /-- GET_FIRMWARE_PARAMETERS (R545): Returns the component firmware parameters. -/
  | getFirmwareParameters (ep : Fin 3)
  /-- REQUEST_UPDATE (R545): Begins a PLDM update, claiming FW_STAGE. -/
  | requestUpdate (ep : Fin 3)
  /-- PASS_COMPONENT_TABLE (R545): Receives the table of components to update. -/
  | passComponentTable (ep : Fin 3)
  /-- UPDATE_COMPONENT (R545): Begins transfer of one component into the staging buffer. -/
  | updateComponent (ep : Fin 3) (id : BitVec 16) (size : Nat)
  /-- REQUEST_FIRMWARE_DATA (R545): A chunk of up to 1,024 bytes of component data arrives and is written to the staging buffer. -/
  | requestFirmwareData (ep : Fin 3) (data : List Byte)
  /-- TRANSFER_COMPLETE (R545): Reports the end of a component transfer. -/
  | transferComplete (ep : Fin 3)
  /-- VERIFY_COMPLETE (R545): Reports the result of component verification. -/
  | verifyComplete (ep : Fin 3)
  /-- APPLY_COMPLETE (R545): Reports that the component has been applied. -/
  | applyComplete (ep : Fin 3)
  /-- ACTIVATE_FIRMWARE (R545): Activates a held firmware image or test pack with self-contained activation. -/
  | activateFirmware (ep : Fin 3) (pack : Option (Fin 4))
  /-- GET_STATUS (R545): Returns the state of the update. -/
  | getStatus (ep : Fin 3)
  /-- CANCEL_UPDATE (R545): Cancels the update and releases FW_STAGE. -/
  | cancelUpdate (ep : Fin 3)
  /-- GET_VERSION (R547): An SPDM responder returns its versions. -/
  | getVersion (ep : Fin 3)
  /-- GET_CAPABILITIES (R547): An SPDM responder returns its capabilities. -/
  | getCapabilities (ep : Fin 3)
  /-- NEGOTIATE_ALGORITHMS (R547): An SPDM responder selects P-384 and SHA-384. -/
  | negotiateAlgorithms (ep : Fin 3)
  /-- GET_DIGESTS (R547): An SPDM responder returns its certificate chain digest. -/
  | getDigests (ep : Fin 3)
  /-- GET_CERTIFICATE (R547): An SPDM responder returns its slot-0 certificate chain. -/
  | getCertificate (ep : Fin 3) (slot : BitVec 4) (off : Nat) (len : Nat)
  /-- CHALLENGE (R547): An SPDM responder signs a challenge with its key. -/
  | challenge (ep : Fin 3) (slot : BitVec 4) (nonce : List Byte)
  /-- GET_MEASUREMENTS (R547): An SPDM responder returns signed measurements. -/
  | getMeasurements (ep : Fin 3) (index : BitVec 8) (nonce : List Byte)
  /-- NEW_CODE_ACCEPT (R550): The new control code accepts the sealed state block and KCI resumes. -/
  | newCodeAccept
  /-- ACTIVATION_FALLBACK (R551): New code not accepted 45 ms into the pause returns the control cores to the old code. -/
  | activationFallback
  /-- ACTIVATION_COMMIT (R550): After 10 s without fault the boot header names the new bank. -/
  | activationCommit
  /-- DEBUG_UNLOCK (R561): A signed token through JTAG zeroises the key store and unlocks debug. -/
  | debugUnlock (token : List Byte)
  /-- TRST_N (R620): TRST_N resets the test access port. -/
  | trstN (asserted : Bool)
  /-- PWR_LOSS_N_ASSERT (R565): Always-on hardware sheds load within 10 µs and the last-gasp flush begins. -/
  | pwrLossNAssert (mv : Nat)
  /-- FLUSH_PAGE (R566): The security block writes the next 4 KiB page of event records unless STOP is set. -/
  | flushPage
  /-- HOLDUP_TICK (R567): Every 100 µs the primary computes available hold-up energy and sets STOP. -/
  | holdupTick (mv : Nat)
  /-- PWR_LOSS_RECOVERY (R568): PWR_LOSS_N deasserted for 100 ms reverses the shedding. -/
  | pwrLossRecovery
  /-- TELEMETRY_RECORD_WRITE (R587): The ring writer takes a record from its queue, writes it and posts any KCI event completion. -/
  | telemetryRecordWrite
  /-- WATCHDOG (R588): A core making no progress for WDOG_MS is reported and triggers a snapshot. -/
  | watchdog (c : Fin 96)
  /-- SNAPSHOT_TRIGGER_WRITE (R25): The primary agent writes the snapshot trigger. -/
  | snapshotTriggerWrite (w : Writer)
  /-- SNAPSHOT_SAMPLE (R589): At the sample count every unit latches its snapshot state. -/
  | snapshotSample
  /-- SNAPSHOT_COPY_DONE (R589): The snapshot engine finishes copying, sets SNAP_SEQ and writes the SNAPSHOT record. -/
  | snapshotCopyDone
  /-- FIELD_BOOK_DRAIN (R581): The drain copies a 64-byte unit of records from the field book into the core's ring. -/
  | fieldBookDrain (c : Fin 96)
  /-- POR_N_ASSERT (R596): POR_N puts every domain into reset. -/
  | porNAssert
  /-- POR_N_DEASSERT (R599): POR_N deasserting latches the straps and starts the cold boot. -/
  | porNDeassert (straps : BitVec 8) (selftest : Bool)
  /-- CTRL_FIRMWARE_START (R599): The verified control firmware starts and answers configuration requests. -/
  | ctrlFirmwareStart
  /-- DATA_PLANE_BOOT_DONE (R599): Stacks are trained, repairs, sparing and fuses re-applied, and DP_BUSY cleared after any reset zeroisation. -/
  | dataPlaneBootDone
  /-- BOOT_RECOVERY (R600): With both banks failed the boot ROM accepts a verified image into bank A and resets the control domain. -/
  | bootRecovery (selftest : Bool)
  /-- SYS_RST_N (R604): SYS_RST_N resets the data plane, after which firmware zeroises keys and stacks. -/
  | sysRstN
  /-- PERST_N (R596): PERST_N resets the control domain and the PCIe link. -/
  | perstN
  /-- CONTROL_FAULT (R601): A control watchdog expiry or machine-check resets the control domain, keeping the link. -/
  | controlFault (selftest : Bool)
  /-- AGENT_WATCHDOG (R600): An agent without a heartbeat for 20 ms is reset by its own watchdog. -/
  | agentWatchdog (i : Fin 2)
  /-- PROG_STOP_TIMEOUT (R602): A PROG_STOP leaving a core short of STOPPED for 10 ms escalates to a partition reset. -/
  | progStopTimeout (p : Fin 12)
  /-- PARTITION_RESET_DRAINED (R602): Once the partition's stack requests complete its cores, tallies and step slots are cleared and landing resumes. -/
  | partitionResetDrained (p : Fin 12)
  /-- PERST_N_DEASSERT (R599): PERST_N deasserting takes the control domain out of reset, so the boot ROM runs and PCIe link training begins. -/
  | perstNDeassert (selftest : Bool)
  /-- SYS_RST_N_DEASSERT (R604): SYS_RST_N deasserting starts the data-plane boot with DP_BUSY set. -/
  | sysRstNDeassert
  /-- PWR_LOSS_N_DEASSERT (R571): PWR_LOSS_N deasserting clears STOP in LIM_FLUSH and starts the 100 ms wait before recovery. -/
  | pwrLossNDeassert
  /-- VAON_REMOVAL (R528): Removal of VAON, whole or from one half, clears the THERMTRIP_N latch or leaves that half's agent absent. -/
  | vaonRemoval (half : Option (Fin 2))
  /-- UPLINK_DOWN (R306): An Ethernet uplink loses its link, so routing to other tracts falls back to the tract overrides or to NO_ROUTE. -/
  | uplinkDown (u : Fin 2)
  /-- DUTY_ALARM (R517): A clock monitor measures a corrected duty cycle outside 46 to 54 percent over 1,024 periods and sets DUTY_ALARM. -/
  | dutyAlarm (m : Fin 12) (pct : BitVec 7) (corr : BitVec 5)
  /-- EXPORT_DONE (R403): An export finishes reading every byte, so the held gate may open again and the export's completion is posted. -/
  | exportDone (f : Fin 13) (handle : Word)
  /-- MEM_COPY_DONE (R255): A MEM_COPY, MEM_FILL or MEM_SCRUB transfer ends, and its completion is posted once its writes are visible. -/
  | memCopyDone (f : Fin 13) (handle : Word)
  deriving DecidableEq, Repr

end Sys2Proof
end

