-- ==== Sys2Proof/Decode.lean ====
section
/-! DEFINITION.  The command that a word spells.  No row of the opcode table carries bits (a command of
this block is an operation from outside, not a word), so no word spells one. -/

namespace Sys2Proof

/-- The command spelled by the `nbits` low bits of `w`: none for every word. -/
def decodeTableWord (nbits w : Nat) : Option Instr :=
  match nbits, w with
  | _, _ => none

end Sys2Proof
end

