-- ==== Sys2Proof/Machine/Bits.lean ====
section
/-! DEFINITION.  Bit fields, little-endian byte strings, fixed-length vectors, checksums and the other
small tools that the meanings share. -/

namespace Sys2Proof.Machine

/-- Reads entry `i` of a vector. -/
def vget {α : Type} {n : Nat} (v : Vector α n) (i : Fin n) : α := v[i.val]'i.isLt

/-- Writes entry `i` of a vector. -/
def vset {α : Type} {n : Nat} (v : Vector α n) (i : Fin n) (x : α) : Vector α n := v.set i.val x i.isLt

/-- Changes entry `i` of a vector by a function. -/
def vmod {α : Type} {n : Nat} (v : Vector α n) (i : Fin n) (f : α → α) : Vector α n := vset v i (f (vget v i))

/-- Field of `len` bits from bit `lo` of a number. -/
def field (w lo len : Nat) : Nat := (w >>> lo) % 2 ^ len

/-- A number whose field of `len` bits from bit `lo` is changed by a function. -/
def mapField (f : Nat → Nat) (w lo len : Nat) : Nat := w - field w lo len * 2 ^ lo + f (field w lo len) % 2 ^ len * 2 ^ lo

/-- Bit `i` of a number. -/
def bit (w i : Nat) : Bool := Nat.testBit w i

/-- One bit as a number. -/
def b2n (b : Bool) : Nat := if b then 1 else 0

/-- Quotient rounded upward; 0 for a divisor of 0. -/
def ceilDiv (a b : Nat) : Nat := if b = 0 then 0 else (a + b - 1) / b

/-- The `n` low bytes of a number, least significant first (R12: little-endian). -/
def leBytes : Nat → Nat → List Byte
  | 0, _ => []
  | n + 1, w => BitVec.ofNat 8 w :: leBytes n (w / 256)

/-- The number that little-endian bytes spell. -/
def leNat : List Byte → Nat
  | [] => 0
  | b :: bs => b.toNat + 256 * leNat bs

/-- Bytes `off` to `off + n - 1` of a byte string; missing bytes read as zero. -/
def bytesAt (bs : List Byte) (off n : Nat) : List Byte :=
  let t := (bs.drop off).take n
  t ++ List.replicate (n - t.length) 0

/-- Little-endian number of `n` bytes at `off`. -/
def natAt (bs : List Byte) (off n : Nat) : Nat := leNat (bytesAt bs off n)

/-- A byte string made exactly `n` bytes long (zero-filled). -/
def padTo (bs : List Byte) (n : Nat) : List Byte := bytesAt bs 0 n

/-- Every one of the bytes is zero. -/
def allZero (bs : List Byte) : Bool := bs.all (fun b => b = 0)

/-- Two's-complement reading of the low `w` bits of a number. -/
def sext (w v : Nat) : Int :=
  let u := v % 2 ^ w
  if u < 2 ^ (w - 1) then (u : Int) else (u : Int) - 2 ^ w

/-- Low `w` bits of an integer, as two's complement. -/
def tc (w : Nat) (i : Int) : Nat := (i % (2 ^ w : Int)).toNat

/-- Saturating addition at the top of `w` bits. -/
def satAdd {w : Nat} (x : BitVec w) (n : Nat) : BitVec w :=
  if x.toNat + n < 2 ^ w then BitVec.ofNat w (x.toNat + n) else BitVec.ofNat w (2 ^ w - 1)

/-- Restricts an integer to a range. -/
def clampInt (x lo hi : Int) : Int := if x < lo then lo else if hi < x then hi else x

/-- The mixing function of R153. -/
def mix64 (z : DWord) : DWord :=
  let a := (z ^^^ (z >>> 30)) * 0xBF58476D1CE4E5B9#64
  let b := (a ^^^ (a >>> 27)) * 0x94D049BB133111EB#64
  b ^^^ (b >>> 31)

/-- Remainder step of a reflected CRC of polynomial `poly`, one bit at a time. -/
def crcBits (poly : Nat) : Nat → Nat → Nat
  | 0, r => r
  | n + 1, r => crcBits poly n (if r % 2 = 1 then (r / 2) ^^^ poly else r / 2)

/-- CRC-32 register after the bytes (reflected polynomial 0xEDB8_8320). -/
def crc32From (r : Nat) : List Byte → Nat
  | [] => r
  | b :: bs => crc32From (crcBits 0xEDB88320 8 (r ^^^ b.toNat)) bs

/-- The CRC-32 of IEEE 802.3 over a byte string. -/
def crc32 (bs : List Byte) : Nat := crc32From 0xFFFFFFFF bs ^^^ 0xFFFFFFFF

/-- Integer square root of `n`, given a bound of `k` bits on the root: bit by bit from the top. -/
def isqrtFrom (n : Nat) : Nat → Nat → Nat
  | 0, acc => acc
  | k + 1, acc =>
    let t := acc + 2 ^ k
    isqrtFrom n k (if t * t ≤ n then t else acc)

/-- Integer square root. -/
def isqrt (n : Nat) : Nat := isqrtFrom n (Nat.log2 n / 2 + 1) 0

/-- Changes entry `i` of a list by a function; nothing happens outside the list. -/
def lmod {α : Type} : List α → Nat → (α → α) → List α
  | [], _, _ => []
  | x :: xs, 0, f => f x :: xs
  | x :: xs, i + 1, f => x :: lmod xs i f

/-- Association list read. -/
def aget {α β : Type} [DecidableEq α] (l : List (α × β)) (k : α) : Option β :=
  match l with
  | [] => none
  | (a, b) :: t => if a = k then some b else aget t k

/-- Association list write: the entry of `k` is replaced in place, or appended. -/
def aset {α β : Type} [DecidableEq α] (l : List (α × β)) (k : α) (v : β) : List (α × β) :=
  match l with
  | [] => [(k, v)]
  | (a, b) :: t => if a = k then (a, v) :: t else (a, b) :: aset t k v

/-- Association list removal. -/
def adel {α β : Type} [DecidableEq α] (l : List (α × β)) (k : α) : List (α × β) :=
  l.filter (fun p => decide (p.1 ≠ k))

/-- Inserts a number into a strictly rising list. -/
def insRise (l : List Nat) (x : Nat) : List Nat :=
  match l with
  | [] => [x]
  | y :: t => if x < y then x :: y :: t else if x = y then y :: t else y :: insRise t x

/-- The numbers `a`, `a + 1`, … (`n` of them). -/
def upFrom (a : Nat) : Nat → List Nat
  | 0 => []
  | n + 1 => a :: upFrom (a + 1) n

/-- Cuts a list into pieces of `k` elements (the last may be short), with fuel. -/
def chunksFuel {α : Type} (k : Nat) : Nat → List α → List (List α)
  | 0, _ => []
  | _ + 1, [] => []
  | f + 1, xs => xs.take k :: chunksFuel k f (xs.drop k)

/-- Cuts a list into pieces of `k` elements. -/
def chunks {α : Type} (k : Nat) (xs : List α) : List (List α) :=
  if k = 0 then [] else chunksFuel k xs.length xs

/-- Stable insertion of `x` before the first element that is strictly greater under `lt`. -/
def insStable {α : Type} (lt : α → α → Bool) (x : α) : List α → List α
  | [] => [x]
  | y :: t => if lt x y then x :: y :: t else y :: insStable lt x t

/-- Stable sort. -/
def sortStable {α : Type} (lt : α → α → Bool) (xs : List α) : List α :=
  xs.foldl (fun acc x => insStable lt x acc) []

/-- All the subranges [a, a + n) of two byte ranges that meet. -/
def overlap (a n b m : Nat) : Bool := decide (0 < n ∧ 0 < m ∧ a < b + m ∧ b < a + n)

end Sys2Proof.Machine
end

