-- ==== Sys2Proof/Machine/Num.lean ====
section
/-! DEFINITION.  Exact values, the number formats of R34, rounding (R47 to R49), element conversion
(R45, R51 to R56) and binary32/binary64 arithmetic (R61, R62). -/

namespace Sys2Proof.Machine

/-- A format code of R34. -/
inductive Fmt where
  | int8 | int4 | int2 | tern | bq8 | bq4 | bq2 | fp32 | bf16 | fp16 | int32
  deriving DecidableEq, Repr

/-- R34, R35: the format a code byte names; every other code is reserved. -/
def Fmt.ofCode (c : Nat) : Option Fmt :=
  if c = 0x01 then some .int8 else if c = 0x02 then some .int4 else if c = 0x03 then some .int2
  else if c = 0x04 then some .tern else if c = 0x11 then some .bq8 else if c = 0x12 then some .bq4
  else if c = 0x13 then some .bq2 else if c = 0x20 then some .fp32 else if c = 0x21 then some .bf16
  else if c = 0x22 then some .fp16 else if c = 0x30 then some .int32 else none

/-- R34: the code of a format. -/
def Fmt.code : Fmt → Nat
  | .int8 => 0x01 | .int4 => 0x02 | .int2 => 0x03 | .tern => 0x04 | .bq8 => 0x11 | .bq4 => 0x12
  | .bq2 => 0x13 | .fp32 => 0x20 | .bf16 => 0x21 | .fp16 => 0x22 | .int32 => 0x30

/-- R34: storage bits of one element. -/
def Fmt.width : Fmt → Nat
  | .int8 => 8 | .int4 => 4 | .int2 => 2 | .tern => 2 | .bq8 => 8 | .bq4 => 4 | .bq2 => 2
  | .fp32 => 32 | .bf16 => 16 | .fp16 => 16 | .int32 => 32

/-- R39: the format is block-quantised. -/
def Fmt.isBq : Fmt → Bool
  | .bq8 => true | .bq4 => true | .bq2 => true | _ => false

/-- The format is floating point. -/
def Fmt.isFloat : Fmt → Bool
  | .fp32 => true | .bf16 => true | .fp16 => true | _ => false

/-- The format is a plain integer in the sense of R52. -/
def Fmt.isPlainInt (f : Fmt) : Bool := !f.isBq && !f.isFloat

/-- An exact value: NaN, an infinity, or ±m × 2^e (m = 0: a signed zero). -/
inductive Num where
  | nan
  | inf (neg : Bool)
  | fin (neg : Bool) (m : Nat) (e : Int)
  deriving DecidableEq, Repr

/-- The positive zero. -/
def Num.zero : Num := .fin false 0 0

/-- The integer `i` as an exact value. -/
def Num.ofInt (i : Int) : Num := .fin (decide (i < 0)) i.natAbs 0

/-- The value is NaN. -/
def Num.isNan : Num → Bool
  | .nan => true | _ => false

/-- The value is an infinity. -/
def Num.isInf : Num → Bool
  | .inf _ => true | _ => false

/-- The value is a zero of either sign. -/
def Num.isZero : Num → Bool
  | .fin _ 0 _ => true | _ => false

/-- The value's sign bit (a NaN has none). -/
def Num.isNeg : Num → Bool
  | .nan => false | .inf n => n | .fin n _ _ => n

/-- Sign change. -/
def Num.neg : Num → Num
  | .nan => .nan | .inf n => .inf (!n) | .fin n m e => .fin (!n) m e

/-- Sign cleared. -/
def Num.abs : Num → Num
  | .nan => .nan | .inf _ => .inf false | .fin _ m e => .fin false m e

/-- A rounding mode of R47, with the 16-bit draw of a stochastic rounding. -/
inductive Rnd where
  | rne | rtz | up | down | rna
  | sr (draw : Nat)
  deriving DecidableEq, Repr

/-- R48: the magnitude, in units, of N/D units (D > 0) under a rounding mode. -/
def roundUnits (r : Rnd) (neg : Bool) (N D : Nat) : Nat :=
  let n := N / D
  let t := N % D
  let up := match r with
    | .rne => decide (2 * t > D) || (decide (2 * t = D) && n % 2 == 1)
    | .rtz => false
    | .up => decide (0 < t) && !neg
    | .down => decide (0 < t) && neg
    | .rna => decide (2 * t ≥ D)
    | .sr d => decide (d < t * 65536 / D)
  if up then n + 1 else n

/-- A binary floating-point format: precision, exponents of the least normal and greatest binade,
storage bits. -/
structure FFmt where
  p : Nat
  emin : Int
  emax : Int
  w : Nat
  deriving DecidableEq, Repr

/-- binary32. -/
def f32 : FFmt := ⟨24, -126, 127, 32⟩
/-- BF16 (R43). -/
def fbf16 : FFmt := ⟨8, -126, 127, 16⟩
/-- binary16. -/
def ff16 : FFmt := ⟨11, -14, 15, 16⟩
/-- binary64. -/
def f64 : FFmt := ⟨53, -1022, 1023, 64⟩

/-- x ≤ y for x = a × 2^ea, y = b × 2^eb. -/
def dyLe (a : Nat) (ea : Int) (b : Nat) (eb : Int) : Bool :=
  if eb ≤ ea then decide (a * 2 ^ (ea - eb).toNat ≤ b) else decide (a ≤ b * 2 ^ (eb - ea).toNat)

/-- Exponent of the binade that holds N/D × 2^e (N, D > 0). -/
def binade (N D : Nat) (e : Int) : Int :=
  let k : Int := (Nat.log2 N : Int) - (Nat.log2 D : Int)
  let ok := if 0 ≤ k then decide (D * 2 ^ k.toNat ≤ N) else decide (D ≤ N * 2 ^ (-k).toNat)
  (if ok then k else k - 1) + e

/-- N/D × 2^e in units of 2^q, rounded. -/
def roundAt (r : Rnd) (neg : Bool) (N D : Nat) (e q : Int) : Nat :=
  if q ≤ e then roundUnits r neg (N * 2 ^ (e - q).toNat) D
  else roundUnits r neg N (D * 2 ^ (q - e).toNat)

/-- N/D × 2^e is a whole number of units of 2^q. -/
def exactAt (N D : Nat) (e q : Int) : Bool :=
  if q ≤ e then (N * 2 ^ (e - q).toNat) % D == 0 else N % (D * 2 ^ (q - e).toNat) == 0

/-- What one rounding to a floating-point format gives. -/
structure RRes where
  num : Num
  inexact : Bool
  /-- the rounded magnitude, were the exponent unbounded, exceeds the largest finite value -/
  big : Bool
  /-- the exact magnitude exceeds the largest finite value -/
  above : Bool
  /-- tiny after rounding (R61) -/
  tiny : Bool
  deriving DecidableEq, Repr

/-- R48, R49: rounds ±N/D × 2^e (N, D > 0) to a floating-point format. -/
def roundFloat (f : FFmt) (r : Rnd) (neg : Bool) (N D : Nat) (e : Int) : RRes :=
  let E := binade N D e
  let pu : Int := (f.p : Int) - 1
  let qn := E - pu
  let mu := roundAt r neg N D e qn
  let big := decide (f.emax < E) || (decide (E = f.emax) && decide (mu = 2 ^ f.p))
  let tiny := decide (E < f.emin) && !(decide (E = f.emin - 1) && decide (mu = 2 ^ f.p))
  let maxm := 2 ^ f.p - 1
  let maxe := f.emax - pu
  let above := !dyLe N e (maxm * D) maxe
  if big then
    let toInf := match r with
      | .rne => true | .rna => true | .sr _ => true | .rtz => false | .up => !neg | .down => neg
    ⟨if toInf then .inf neg else .fin neg maxm maxe, true, true, true, false⟩
  else
    let q := (if E < f.emin then f.emin else E) - pu
    let m := roundAt r neg N D e q
    let ex := exactAt N D e q
    ⟨.fin neg m q, !ex, false, above, tiny⟩

/-- Bits of a value that the format holds exactly (R43: every NaN is the canonical quiet NaN). -/
def encodeFloat (f : FFmt) (x : Num) : Nat :=
  let pu := f.p - 1
  let sgn := fun (n : Bool) => if n then 2 ^ (f.w - 1) else 0
  let bias := f.emax
  match x with
  | .nan => ((2 * f.emax + 1).toNat) * 2 ^ pu + 2 ^ (pu - 1)
  | .inf n => sgn n + ((2 * f.emax + 1).toNat) * 2 ^ pu
  | .fin n 0 _ => sgn n
  | .fin n m e =>
    let E := (Nat.log2 m : Int) + e
    if E < f.emin then
      let q := f.emin - (pu : Int)
      sgn n + (if q ≤ e then m * 2 ^ (e - q).toNat else m / 2 ^ (q - e).toNat)
    else
      let q := E - (pu : Int)
      let s := if q ≤ e then m * 2 ^ (e - q).toNat else m / 2 ^ (q - e).toNat
      sgn n + ((E + bias).toNat) * 2 ^ pu + (s - 2 ^ pu)

/-- The value that bits of a format spell. -/
def decodeFloat (f : FFmt) (b : Nat) : Num :=
  let pu := f.p - 1
  let neg := bit b (f.w - 1)
  let ex := field b pu (f.w - f.p)
  let fr := b % 2 ^ pu
  if ex = 2 ^ (f.w - f.p) - 1 then (if fr = 0 then .inf neg else .nan)
  else if ex = 0 then .fin neg fr (f.emin - (pu : Int))
  else .fin neg (2 ^ pu + fr) ((ex : Int) - f.emax - (pu : Int))

/-- The bits spell a signalling NaN of binary32. -/
def isSnan32 (b : Nat) : Bool := decide (field b 23 8 = 255) && decide (b % 2 ^ 23 ≠ 0) && !bit b 22

/-- The floating-point format behind a format code, where there is one. -/
def Fmt.ffmt : Fmt → FFmt
  | .bf16 => fbf16 | .fp16 => ff16 | _ => f32

/-- R36, R40, R43: the value of stored element bits under a scale byte (used by BQ formats only). -/
def decodeElem (f : Fmt) (scale b : Nat) : Num :=
  match f with
  | .fp32 => decodeFloat f32 b
  | .bf16 => decodeFloat fbf16 b
  | .fp16 => decodeFloat ff16 b
  | .tern => if b = 1 then .fin false 1 0 else if b = 3 then .fin true 1 0 else Num.zero
  | .int8 => Num.ofInt (sext 8 b)
  | .int4 => Num.ofInt (sext 4 b)
  | .int2 => Num.ofInt (sext 2 b)
  | .int32 => Num.ofInt (sext 32 b)
  | .bq8 | .bq4 | .bq2 =>
    if scale = 0 then Num.zero else if scale = 255 then .nan
    else
      let i := sext f.width b
      .fin (decide (i < 0)) i.natAbs ((scale : Int) - 127)

/-- Conversion events (R45, R49, R52) and the observed maximum of R67 (magnitude bits of binary32). -/
structure Ev where
  sat : Nat := 0
  ovf : Nat := 0
  nan : Nat := 0
  inf : Nat := 0
  amax : Nat := 0
  deriving DecidableEq, Repr

/-- Sum of events, maximum of maxima (R67). -/
def Ev.add (a b : Ev) : Ev :=
  ⟨a.sat + b.sat, a.ovf + b.ovf, a.nan + b.nan, a.inf + b.inf, max a.amax b.amax⟩

/-- R67: |x| rounded toward +∞ into binary32, held at the largest finite value; 0 for non-finite. -/
def amaxOf (x : Num) : Nat :=
  match x with
  | .fin _ 0 _ => 0
  | .fin _ m e => min (encodeFloat f32 (roundFloat f32 .up false m 1 e).num) 0x7F7FFFFF
  | _ => 0

/-- R49, R52: conversion of one value to a floating-point format.  R49 names RTZ and SR for a magnitude that is held at the
largest finite value; that the directed modes 0b011 and 0b100 count one overflow for it too is a DESIGN CHOICE (log 91). -/
def toFloat (f : FFmt) (r : Rnd) (x : Num) : Nat × Ev :=
  match x with
  | .nan => (encodeFloat f .nan, { nan := 1 })
  | .inf n => (encodeFloat f (.inf n), { inf := 1 })
  | .fin n 0 e => (encodeFloat f (.fin n 0 e), {})
  | .fin n m e =>
    let k := roundFloat f r n m 1 e
    let held := k.above && (match r with | .rne => false | .rna => false | _ => true)
    (encodeFloat f k.num,
      { ovf := b2n (k.big || held), inf := b2n (k.big && k.num.isInf), amax := amaxOf x })

/-- R45: an integer result beyond `w` bits saturates or wraps. -/
def fitInt (w : Nat) (sat : Bool) (i : Int) : Int × Ev :=
  let lo : Int := -(2 ^ (w - 1))
  let hi : Int := 2 ^ (w - 1) - 1
  if lo ≤ i ∧ i ≤ hi then (i, {})
  else if sat then (clampInt i lo hi, { sat := 1 })
  else (sext w (tc w i), { ovf := 1 })

/-- R48: a finite value in units of 2^q, rounded to an integer. -/
def roundInt (r : Rnd) (neg : Bool) (m : Nat) (e q : Int) : Int :=
  let k := roundAt r neg m 1 e q
  if neg then -(k : Int) else (k : Int)

/-- R45, R48, R52: conversion of one value to a plain integer format. -/
def toPlain (f : Fmt) (sat : Bool) (r : Rnd) (x : Num) : Nat × Ev :=
  let w := f.width
  let ends := fun (n : Bool) => match f with
    | .tern => (if n then (-1 : Int) else 1)
    | _ => if n then -(2 ^ (w - 1) : Int) else 2 ^ (w - 1) - 1
  match x with
  | .nan => (0, { nan := 1 })
  | .inf n => (tc w (ends n), { inf := 1 })
  | .fin n m e =>
    let i := roundInt r n m e 0
    let (v, ev) : Int × Ev := match f with
      | .tern => if -1 ≤ i ∧ i ≤ 1 then (i, {}) else (clampInt i (-1) 1, { sat := 1 })
      | _ => fitInt w sat i
    (tc w v, { ev with amax := amaxOf x })

/-- R53: the largest positive element value of a BQ format. -/
def Fmt.qmax : Fmt → Nat
  | .bq8 => 127 | .bq4 => 7 | _ => 1

/-- R53: E(a), the smallest E with a ≤ qmax × 2^E, for a = m × 2^e, m > 0. -/
def scaleExp (qmax m : Nat) (e : Int) : Int :=
  let b : Int := (Nat.log2 m : Int) + e - (Nat.log2 qmax : Int) - 1
  if dyLe m e qmax b then b else if dyLe m e qmax (b + 1) then b + 1
  else if dyLe m e qmax (b + 2) then b + 2 else b + 3

/-- The larger of two dyadic magnitudes. -/
def dyMax (a b : Nat × Int) : Nat × Int := if dyLe a.1 a.2 b.1 b.2 then b else a

/-- Largest finite magnitude of a list of values. -/
def maxMag (xs : List Num) : Nat × Int :=
  xs.foldl (fun acc x => match x with | .fin _ m e => dyMax acc (m, e) | _ => acc) (0, 0)

/-- R52 to R56: conversion of the elements of one block to a BQ format, in BLOCK mode (`tens` none) or
TENSOR mode with its exponent.  Gives the scale byte, the element codes and the events.  An entry's EXP of −127 or −128,
outside the range of R65, gives the scale 0x01 (DESIGN CHOICE, log 91). -/
def toBlock (f : Fmt) (tens : Option Int) (sat : Bool) (rnd : List Rnd) (xs : List Num) :
    Nat × List Nat × Ev :=
  let mag := maxMag xs
  let base : Ev :=
    { nan := xs.countP Num.isNan, inf := xs.countP Num.isInf,
      amax := xs.foldl (fun a x => max a (amaxOf x)) 0 }
  if xs.any (fun x => x.isNan || x.isInf) then (255, xs.map (fun _ => 0), base)
  else if mag.1 = 0 then (0, xs.map (fun _ => 0), base)
  else
    let s : Nat := match tens with
      | none => (clampInt (127 + scaleExp f.qmax mag.1 mag.2) 1 254).toNat
      | some ex => (clampInt (127 + ex) 1 254).toNat
    let qs := (xs.zip rnd).map (fun (x, r) => match x with
      | .fin n m e =>
        let i := roundInt r n m e ((s : Int) - 127)
        (i, fitInt f.width sat i)
      | _ => ((0 : Int), ((0 : Int), ({} : Ev))))
    let ev := qs.foldl (fun a q => a.add q.2.2) base
    if qs.all (fun q => q.1 == 0) then (0, xs.map (fun _ => 0), ev)
    else (s, qs.map (fun q => tc f.width q.2.1), ev)

/-! ### Floating-point arithmetic -/

/-- The five IEEE exception flags of R61. -/
structure Fl where
  nv : Bool := false
  dz : Bool := false
  ofl : Bool := false
  ufl : Bool := false
  nx : Bool := false
  deriving DecidableEq, Repr

/-- Union of flags. -/
def Fl.or (a b : Fl) : Fl := ⟨a.nv || b.nv, a.dz || b.dz, a.ofl || b.ofl, a.ufl || b.ufl, a.nx || b.nx⟩

/-- Rounds an exact finite quotient ±N/D × 2^e to a format, with IEEE flags (R61). -/
def ieeeRound (f : FFmt) (r : Rnd) (neg : Bool) (N D : Nat) (e : Int) : Num × Fl :=
  if N = 0 then (.fin neg 0 0, {})
  else
    let k := roundFloat f r neg N D e
    (k.num, { ofl := k.big, ufl := k.tiny && k.inexact, nx := k.inexact || k.big })

/-- Rounding mode turns an exact zero sum of opposite signs into −0. -/
def zeroSumNeg (r : Rnd) : Bool := match r with | .down => true | _ => false

/-- Exact signed sum of two dyadics as sign, magnitude, exponent. -/
def addDy (n1 : Bool) (m1 : Nat) (e1 : Int) (n2 : Bool) (m2 : Nat) (e2 : Int) : Bool × Nat × Int :=
  let e := min e1 e2
  let a : Int := (m1 : Int) * 2 ^ (e1 - e).toNat
  let b : Int := (m2 : Int) * 2 ^ (e2 - e).toNat
  let s := (if n1 then -a else a) + (if n2 then -b else b)
  (decide (s < 0), s.natAbs, e)

/-- Sum under a rounding mode (R61). -/
def fAdd (f : FFmt) (r : Rnd) (x y : Num) : Num × Fl :=
  match x, y with
  | .nan, _ => (.nan, {})
  | _, .nan => (.nan, {})
  | .inf a, .inf b => if a = b then (.inf a, {}) else (.nan, { nv := true })
  | .inf a, _ => (.inf a, {})
  | _, .inf b => (.inf b, {})
  | .fin n1 m1 e1, .fin n2 m2 e2 =>
    let (n, m, e) := addDy n1 m1 e1 n2 m2 e2
    if m = 0 then
      (.fin (if m1 = 0 ∧ m2 = 0 ∧ n1 = n2 then n1 else zeroSumNeg r) 0 0, {})
    else ieeeRound f r n m 1 e

/-- Product under a rounding mode (R61). -/
def fMul (f : FFmt) (r : Rnd) (x y : Num) : Num × Fl :=
  match x, y with
  | .nan, _ => (.nan, {})
  | _, .nan => (.nan, {})
  | .inf a, .inf b => (.inf (a != b), {})
  | .inf a, .fin b m _ => if m = 0 then (.nan, { nv := true }) else (.inf (a != b), {})
  | .fin a m _, .inf b => if m = 0 then (.nan, { nv := true }) else (.inf (a != b), {})
  | .fin n1 m1 e1, .fin n2 m2 e2 => ieeeRound f r (n1 != n2) (m1 * m2) 1 (e1 + e2)

/-- Quotient under a rounding mode (R61). -/
def fDiv (f : FFmt) (r : Rnd) (x y : Num) : Num × Fl :=
  match x, y with
  | .nan, _ => (.nan, {})
  | _, .nan => (.nan, {})
  | .inf _, .inf _ => (.nan, { nv := true })
  | .inf a, .fin b _ _ => (.inf (a != b), {})
  | .fin a _ _, .inf b => (.fin (a != b) 0 0, {})
  | .fin n1 m1 e1, .fin n2 m2 e2 =>
    if m2 = 0 then (if m1 = 0 then (.nan, { nv := true }) else (.inf (n1 != n2), { dz := true }))
    else ieeeRound f r (n1 != n2) m1 m2 (e1 - e2)

/-- Square root under a rounding mode (R61): the root is taken with a sticky bit below every format. -/
def fSqrt (f : FFmt) (r : Rnd) (x : Num) : Num × Fl :=
  match x with
  | .nan => (.nan, {})
  | .inf n => if n then (.nan, { nv := true }) else (.inf false, {})
  | .fin n 0 _ => (.fin n 0 0, {})
  | .fin n m e =>
    if n then (.nan, { nv := true })
    else
      let (m0, e0) := if e % 2 = 0 then (m, e) else (2 * m, e - 1)
      let k := 2 * (f.p + 4)
      let N := m0 * 2 ^ (2 * k)
      let s := isqrt N
      let t := 2 * s + (if s * s = N then 0 else 1)
      ieeeRound f r false t 1 (e0 / 2 - k - 1)

/-- Fused multiply-add a × b + c under a rounding mode (R61, third point for 0 × ∞). -/
def fFma (f : FFmt) (r : Rnd) (a b c : Num) : Num × Fl :=
  let bad := (a.isInf && b.isZero) || (a.isZero && b.isInf)
  if bad then (.nan, { nv := true })
  else match a, b, c with
    | .nan, _, _ => (.nan, {})
    | _, .nan, _ => (.nan, {})
    | _, _, .nan => (.nan, {})
    | .fin n1 m1 e1, .fin n2 m2 e2, .fin n3 m3 e3 =>
      let pn := n1 != n2
      let (n, m, e) := addDy pn (m1 * m2) (e1 + e2) n3 m3 e3
      if m = 0 then
        (.fin (if m1 * m2 = 0 ∧ m3 = 0 ∧ pn = n3 then pn else zeroSumNeg r) 0 0, {})
      else ieeeRound f r n m 1 e
    | .fin _ _ _, .fin _ _ _, .inf n => (.inf n, {})
    | x, y, .inf n => if (x.isNeg != y.isNeg) = n then (.inf n, {}) else (.nan, { nv := true })
    | x, y, .fin _ _ _ => (.inf (x.isNeg != y.isNeg), {})

/-- x < y among non-NaN values. -/
def numLt (x y : Num) : Bool :=
  match x, y with
  | .nan, _ => false
  | _, .nan => false
  | .inf a, .inf b => a && !b
  | .inf a, .fin _ _ _ => a
  | .fin _ _ _, .inf b => !b
  | .fin n1 m1 e1, .fin n2 m2 e2 =>
    let (n, m, _) := addDy n1 m1 e1 (!n2) m2 e2
    n && decide (m ≠ 0)

/-- Equal as numbers (zeros of either sign are equal). -/
def numEq (x y : Num) : Bool := !x.isNan && !y.isNan && !numLt x y && !numLt y x

/-- binary32 sum under RNE. -/
def rAdd (x y : Num) : Num := (fAdd f32 .rne x y).1
/-- binary32 difference under RNE. -/
def rSub (x y : Num) : Num := (fAdd f32 .rne x y.neg).1
/-- binary32 product under RNE. -/
def rMul (x y : Num) : Num := (fMul f32 .rne x y).1
/-- binary32 quotient under RNE. -/
def rDiv (x y : Num) : Num := (fDiv f32 .rne x y).1
/-- binary32 fused multiply-add under RNE. -/
def rFma (a b c : Num) : Num := (fFma f32 .rne a b c).1

/-- A binary32 word's value. -/
def w32 (b : Nat) : Num := decodeFloat f32 b
/-- A value's binary32 word (the value must be a binary32 value). -/
def n32 (x : Num) : Nat := encodeFloat f32 x
/-- The integer as a binary32 value under RNE. -/
def int32f (i : Int) : Num := if i = 0 then Num.zero else (roundFloat f32 .rne (decide (i < 0)) i.natAbs 1 0).num

/-- R62: a subnormal value of binary32 becomes the zero of its sign. -/
def flush32 (x : Num) : Num :=
  match x with
  | .fin n m e => if m ≠ 0 ∧ (Nat.log2 m : Int) + e < -126 then .fin n 0 0 else x
  | _ => x

/-- Floor of a finite value. -/
def numFloor (n : Bool) (m : Nat) (e : Int) : Int :=
  let v : Int := if n then -(m : Int) else m
  if 0 ≤ e then v * 2 ^ e.toNat else v / (2 ^ (-e).toNat : Int)

end Sys2Proof.Machine
end

