-- ==== Sys2Proof/Machine/Dtp.lean ====
section
/-! DEFINITION.  The Delusk Tile Program format (07): fields of instruction words and descriptors, and
every check of R179 to R211.  A check answers the first fault code it finds, or none. -/

namespace Sys2Proof.Machine

/-! ### The instruction word (R182) -/

/-- A wait field (R92). -/
structure WaitF where
  ctr : Fin 64
  mode : Nat
  val : Nat
  deriving DecidableEq, Repr

/-- Engine of an instruction. -/
def insEng (w : Nat) : Nat := field w 0 4
/-- Operation. -/
def insOp (w : Nat) : Nat := field w 4 8
/-- ORIGIN_LOG. -/
def insOlog (w : Nat) : Bool := bit w 12
/-- SAT. -/
def insSat (w : Nat) : Bool := bit w 13
/-- ORDERED. -/
def insOrdered (w : Nat) : Bool := bit w 14
/-- PHASE_MARK. -/
def insPhaseMark (w : Nat) : Bool := bit w 15
/-- A counter number from six bits. -/
def ctrOf (n : Nat) : Fin 64 := ⟨n % 64, Nat.mod_lt _ (by decide)⟩
/-- WAIT_A. -/
def insWaitA (w : Nat) : WaitF := ⟨ctrOf (field w 16 6), field w 22 2, field w 24 24⟩
/-- WAIT_B. -/
def insWaitB (w : Nat) : WaitF := ⟨ctrOf (field w 48 6), field w 54 2, field w 56 24⟩
/-- SIGNAL counter. -/
def insSigCtr (w : Nat) : Fin 64 := ctrOf (field w 80 6)
/-- SIGNAL enable. -/
def insSigEn (w : Nat) : Bool := bit w 86
/-- SIGNAL increment. -/
def insSigInc (w : Nat) : Nat := field w 87 9
/-- DST. -/
def insDst (w : Nat) : Nat := field w 96 8
/-- SRC_A. -/
def insA (w : Nat) : Nat := field w 104 8
/-- SRC_B. -/
def insB (w : Nat) : Nat := field w 112 8
/-- AUX. -/
def insAux (w : Nat) : Nat := field w 120 8
/-- An immediate: bits [hi:lo] of the word. -/
def imm (w hi lo : Nat) : Nat := field w lo (hi + 1 - lo)
/-- RND (R183). -/
def insRnd (w : Nat) : Nat := field w 128 3
/-- SCALE_MODE (R183): TENSOR. -/
def insTensor (w : Nat) : Bool := bit w 131
/-- STRICT (R183). -/
def insStrict (w : Nat) : Bool := bit w 132
/-- PHASE_ID. -/
def insPhase (w : Nat) : Nat := field w 248 6
/-- RES_OFF (R199). -/
def insResOff (w : Nat) : Nat := imm w 157 136

/-! ### Descriptors (R189 to R198): a descriptor is its 512 bits -/

/-- Field of `n` bytes at byte `off`. -/
def dB (d off n : Nat) : Nat := field d (8 * off) (8 * n)
/-- TYPE. -/
def dType (d : Nat) : Nat := dB d 0 1
/-- FMT code. -/
def dFmtCode (d : Nat) : Nat := dB d 1 1
/-- FMT, INT8 where the code is reserved (a checked descriptor never has such a code). -/
def dFmt (d : Nat) : Fmt := (Fmt.ofCode (dFmtCode d)).getD .int8
/-- ASPACE. -/
def dSpace (d : Nat) : Nat := field d 16 4
/-- HAS_DS. -/
def dHasDs (d : Nat) : Bool := bit d 24
/-- DS_INDEX. -/
def dDs (d : Nat) : Nat := field d 32 12
/-- BASE. -/
def dBase (d : Nat) : Nat := dB d 6 6

/-- Layout of a tensor in some space (R192, R193, R197). -/
structure Lay where
  fmt : Fmt
  base : Nat
  n0 : Nat
  n1 : Nat
  n2 : Nat
  n3 : Nat
  st1 : Nat
  st2 : Nat
  st3 : Nat
  scalePtr : Nat
  start0 : Nat
  /-- SCALE_PITCH; 0 for the dense B0 -/
  pitch0 : Nat
  deriving DecidableEq, Repr

/-- The layout of a TENSOR descriptor (R192). -/
def tLay (d : Nat) : Lay :=
  ⟨dFmt d, dBase d, dB d 16 4, dB d 20 4, dB d 24 4, dB d 28 4, dB d 32 4, dB d 36 4, dB d 40 4,
    dB d 44 6, dB d 52 4, dB d 56 4⟩

/-- The layout of a REMOTE descriptor (R197). -/
def rLay (d : Nat) : Lay :=
  ⟨dFmt d, dBase d, dB d 24 4, dB d 28 4, dB d 32 4, dB d 36 4, dB d 40 4, dB d 44 4, dB d 48 4,
    dB d 52 6, 0, 0⟩

/-- Elements. -/
def Lay.count (l : Lay) : Nat := l.n0 * l.n1 * l.n2 * l.n3
/-- Runs of dimension 0. -/
def Lay.runs (l : Lay) : Nat := l.n1 * l.n2 * l.n3
/-- Scale bytes between runs (R41, R192). -/
def Lay.pitch (l : Lay) : Nat := if l.pitch0 = 0 then ceilDiv l.n0 32 else l.pitch0
/-- First byte of the view within a run. -/
def Lay.lead (l : Lay) : Nat := l.start0 * l.fmt.width / 8
/-- Address of run number `r`, counted with dimension 1 fastest (R193). -/
def Lay.runAddr (l : Lay) (r : Nat) : Nat :=
  let i1 := r % l.n1
  let i2 := r / l.n1 % l.n2
  let i3 := r / l.n1 / l.n2
  l.base + i1 * l.st1 + i2 * l.st2 + i3 * l.st3
/-- First byte of a run's view and the bytes it spans. -/
def Lay.runSpan (l : Lay) (r : Nat) : Nat × Nat :=
  (l.runAddr r + l.lead, ceilDiv ((l.start0 + l.n0) * l.fmt.width) 8 - l.lead)
/-- Extent: first byte and number of bytes (R193). -/
def Lay.extent (l : Lay) : Nat × Nat :=
  (l.base + l.lead,
    (l.n1 - 1) * l.st1 + (l.n2 - 1) * l.st2 + (l.n3 - 1) * l.st3 + ceilDiv (l.n0 * l.fmt.width) 8)
/-- Scale extent (R193): first byte and number of bytes, nothing for a plain format. -/
def Lay.scaleExtent (l : Lay) : Nat × Nat :=
  if l.fmt.isBq then (l.scalePtr, l.runs * l.pitch) else (0, 0)
/-- Address of the scale of block `k` of run `r` (R41). -/
def Lay.scaleAddr (l : Lay) (r k : Nat) : Nat := l.scalePtr + r * l.pitch + k
/-- A dense layout (R194). -/
def Lay.dense (l : Lay) : Bool :=
  let b1 := ceilDiv (l.n0 * l.fmt.width) 8
  decide (l.start0 = 0) && decide (l.st1 = b1) && decide (l.st2 = b1 * l.n1) &&
    decide (l.st3 = b1 * l.n1 * l.n2)
/-- Every element has bytes of its own (R194). -/
def Lay.distinct (l : Lay) : Bool :=
  let b1 := ceilDiv ((l.start0 + l.n0) * l.fmt.width) 8 - l.lead
  (l.n1 ≤ 1 || decide (b1 ≤ l.st1)) && (l.n2 ≤ 1 || decide (l.st1 * l.n1 ≤ l.st2)) &&
    (l.n3 ≤ 1 || decide (l.st2 * l.n2 ≤ l.st3))
/-- Bytes that a ring transfer of the layout moves, the padded scale array included (R132, R133). -/
def Lay.ringBytes (l : Lay) : Nat :=
  let data := l.runs * ceilDiv (l.n0 * l.fmt.width) 8
  if l.fmt.isBq then data + ceilDiv (l.runs * ceilDiv l.n0 32) 64 * 64 else data

/-- The window of a CONV descriptor (R195). -/
structure Conv where
  fmt : Fmt
  base : Nat
  c : Nat
  wIn : Nat
  hIn : Nat
  stW : Nat
  stH : Nat
  kw : Nat
  kh : Nat
  sw : Nat
  sh : Nat
  dw : Nat
  dh : Nat
  pl : Nat
  pr : Nat
  pt : Nat
  pb : Nat
  ndim : Nat
  scalePtr : Nat
  deriving DecidableEq, Repr

/-- CONV body (R195). -/
def cView (d : Nat) : Conv :=
  ⟨dFmt d, dBase d, dB d 16 2, dB d 18 2, dB d 20 2, dB d 24 4, dB d 28 4, dB d 32 1, dB d 33 1,
    dB d 34 1, dB d 35 1, dB d 36 1, dB d 37 1, dB d 38 1, dB d 39 1, dB d 40 1, dB d 41 1,
    dB d 42 1, dB d 44 6⟩

/-- R122: size of the output grid in one direction; 0 where the window does not fit. -/
def outSize (n p0 p1 d k s : Nat) : Nat :=
  if n + p0 + p1 < d * (k - 1) + 1 then 0 else (n + p0 + p1 - d * (k - 1) - 1) / s + 1

/-- W_out (R122). -/
def Conv.wOut (c : Conv) : Nat := outSize c.wIn c.pl c.pr c.dw c.kw c.sw
/-- H_out (R122). -/
def Conv.hOut (c : Conv) : Nat := outSize c.hIn c.pt c.pb c.dh c.kh c.sh
/-- K_total (R109). -/
def Conv.kTotal (c : Conv) : Nat := c.kw * c.kh * c.c

/-! ### Checks of descriptors -/

/-- The first fault code of a list of (failing condition, code). -/
def firstErr : List (Bool × Nat) → Option Nat
  | [] => none
  | (b, c) :: t => if b then some c else firstErr t

/-- Fault codes of R214. -/
def fENG : Nat := 0x01
def fOP : Nat := 0x02
def fRSVD : Nat := 0x03
def fFLAG : Nat := 0x04
def fWAIT : Nat := 0x05
def fSIGNAL : Nat := 0x06
def fDESC : Nat := 0x07
def fTYPE : Nat := 0x08
def fFORMAT : Nat := 0x09
def fSPACE : Nat := 0x0A
def fRANGE : Nat := 0x0B
def fSHAPE : Nat := 0x0C
def fALIGN : Nat := 0x0D
def fIMM : Nat := 0x0E
def fBUNDLE : Nat := 0x0F
def fCONV : Nat := 0x10
def fLOOP : Nat := 0x11
def fNODS : Nat := 0x12
def fOVERLAP : Nat := 0x13
def fNOHALT : Nat := 0x14
def fIMAGE : Nat := 0x15
def fUNSAT : Nat := 0x16
def fPLAT : Nat := 0x40
def fPARTITION : Nat := 0x41
def fABSENT : Nat := 0x42
def fINDEX : Nat := 0x43
def fRESERVE : Nat := 0x44
def fORIGIN : Nat := 0x45
def fRING : Nat := 0x46
def fFETCH : Nat := 0x47
def fREMOTE : Nat := 0x48

/-- First byte of the test reserve (R71): programs see data-SRAM offsets below it. -/
def dataTop : Nat := 0x3E0000
/-- Bytes of the accumulator SRAM. -/
def accTop : Nat := 0x40000
/-- Bytes of one stack's address range (R216). -/
def stackSpan : Nat := 0x600000000
/-- Mappable bytes of one stack (R217). -/
def stackTop : Nat := 0x5D0000000
/-- First address of the core windows. -/
def winBase : Nat := 0x10000000000
/-- Bytes of one core window. -/
def winSpan : Nat := 0x1000000

/-- R191: a DEV range [a, a + n) lies wholly in one stack's mappable part, or wholly in the program's
part of one store of one core window. -/
def devOk (a n : Nat) : Bool :=
  if a < 6 * stackSpan then decide (a % stackSpan + n ≤ stackTop)
  else if winBase ≤ a ∧ a < winBase + 96 * winSpan then
    let o := (a - winBase) % winSpan
    (decide (o + n ≤ dataTop)) || (decide (0x400000 ≤ o) && decide (o + n ≤ 0x400000 + accTop))
  else false

/-- The range lies in the stack range. -/
def inStack (a : Nat) : Bool := decide (a < 6 * stackSpan)

/-- R191, R193: an extent lies within its reach. -/
def reachOk (space a n : Nat) : Bool :=
  if space = 0 then devOk a n
  else if space = 1 then decide (a + n ≤ dataTop)
  else if space = 2 then decide (a + n ≤ accTop)
  else if space = 3 then decide (a = 0)
  else if space = 4 then decide (0x40 ≤ a) && decide (a + n ≤ 0x4000)
  else false

/-- R192: sizes, starts, strides and extents of a tensor layout in a space. -/
def layCheck (space : Nat) (l : Lay) : Option Nat :=
  let bq := l.fmt.isBq
  firstErr [
    (l.n0 == 0 || l.n1 == 0 || l.n2 == 0 || l.n3 == 0, fSHAPE),
    (!bq && l.scalePtr != 0, fRSVD), (!bq && l.pitch0 != 0, fRSVD),
    (bq && l.pitch0 != 0 && decide (l.pitch0 < ceilDiv l.n0 32), fSHAPE),
    (bq && l.start0 % 32 != 0, fALIGN),
    (l.fmt.width == 4 && l.start0 % 2 != 0, fALIGN), (l.fmt.width == 2 && l.start0 % 4 != 0, fALIGN),
    (space == 4 && l.base % 64 != 0, fALIGN),
    (space == 3 && l.base != 0, fRANGE), (space == 3 && !l.dense, fSHAPE),
    (space != 3 && !reachOk space l.extent.1 l.extent.2, fRANGE),
    (space != 3 && bq && !reachOk space l.scaleExtent.1 l.scaleExtent.2, fRANGE)]

/-- Reserved header bits (R189). -/
def hdrRsvd (d : Nat) : Bool :=
  field d 20 4 != 0 || field d 25 7 != 0 || field d 44 4 != 0 || dB d 12 4 != 0 ||
    (!dHasDs d && dDs d != 0)

/-- A binary32 pattern that is finite and at least 0. -/
def fGe0 (x : Nat) : Bool := decide (x < 0x7F800000) || decide (x = 0x80000000)
/-- A binary32 pattern in [0, 1). -/
def fUnit (x : Nat) : Bool := decide (x < 0x3F800000) || decide (x = 0x80000000)

/-- R381: a hyperparameter of an UPDATE descriptor is out of range, or set though its rule does not use it. -/
def updFields (d : Nat) : Bool :=
  let r := dB d 16 1
  let fl := dB d 17 1
  let bias := bit fl 2
  let adam := r == 4 || r == 5 || r == 8
  let use1 := (r != 1 && r != 6) || (r == 6 && dB d 18 1 != 0)
  let use2 := decide (4 ≤ r)
  let useE := adam || r == 6
  !fGe0 (dB d 24 4) || !(if use1 then fUnit (dB d 28 4) else dB d 28 4 == 0) ||
    !(if use2 then fUnit (dB d 32 4) else dB d 32 4 == 0) || !(if useE then fGe0 (dB d 36 4) else dB d 36 4 == 0) ||
    !fGe0 (dB d 40 4) || !(if bit fl 0 then fUnit (dB d 44 4) else dB d 44 4 == 0) || !fGe0 (dB d 48 4) ||
    (bias && !adam) || (!bias && dB d 52 4 != 0)

/-- R380, R381: an UPDATE descriptor names a state descriptor that its rule does not use. -/
def updSpare (d : Nat) : Bool :=
  let r := dB d 16 1
  (r == 1 && dB d 18 1 != 0) || ((r == 1 || r == 2 || r == 3 || r == 7) && dB d 19 1 != 0) || (r != 6 && dB d 20 1 != 0) ||
    (!bit (dB d 17 1) 0 && dB d 21 1 != 0)

/-- R189 to R198: the checks of one descriptor by itself.  An unset descriptor passes.  The codes of a reserved IWIDTH or OOB
(RSVD_SET), of a COUNT outside 1 to 65,536 and of HOPS that do not agree with MCAST (SHAPE_INVALID) are the model's choice
(DESIGN CHOICE, log 93: R160 and R197 name none).  The range of a REMOTE descriptor is
judged by the reach of its address space alone (R71, R72, R191; log 87): plat and partition map are the target's (R197). -/
def descCheck (d : Nat) : Option Nat :=
  let t := dType d
  let f := Fmt.ofCode (dFmtCode d)
  if t = 0 then (if d = 0 then none else some fTYPE)
  else if 6 < t then some fTYPE
  else match firstErr [(hdrRsvd d, fRSVD), (t != 1 && dHasDs d, fRSVD)] with
  | some c => some c
  | none =>
    if t = 1 then
      if f.isNone then some fFORMAT
      else if 4 < dSpace d then some fSPACE
      else (firstErr [(dB d 50 2 != 0 || dB d 60 4 != 0, fRSVD)]).orElse fun _ => layCheck (dSpace d) (tLay d)
    else if t = 2 then
      let c := cView d
      if f.isNone then some fFORMAT
      else
        let fm := dFmt d
        let nib := [c.kw, c.kh, c.sw, c.sh, c.dw, c.dh, c.pl, c.pr, c.pt, c.pb].any (fun x => decide (16 ≤ x))
        firstErr [
          (fm.isFloat || fm == .int32, fFORMAT), (dSpace d != 1, fSPACE),
          (dB d 22 2 != 0 || dB d 43 1 != 0 || dB d 50 8 != 0 || dB d 58 6 != 0 || nib, fRSVD),
          (!fm.isBq && c.scalePtr != 0, fRSVD),
          (c.c == 0 || decide (4096 < c.c) || c.wIn == 0 || decide (4096 < c.wIn) || c.hIn == 0 ||
            decide (4096 < c.hIn), fCONV),
          (c.kw == 0 || c.kh == 0 || c.sw == 0 || c.sh == 0 || c.dw == 0 || c.dh == 0, fCONV),
          ([c.sw, c.sh, c.dw, c.dh].any (fun x => decide (8 < x)), fCONV),
          (c.ndim != 1 && c.ndim != 2, fCONV),
          (c.ndim == 1 && (c.kh != 1 || c.sh != 1 || c.dh != 1 || c.pt != 0 || c.pb != 0 || c.hIn != 1), fCONV),
          (decide (65536 < c.kTotal), fCONV), (c.wOut == 0 || c.hOut == 0, fCONV),
          (decide (c.stW < ceilDiv (c.c * fm.width) 8) || decide (c.stH < c.stW * c.wIn), fCONV),
          (fm.isBq && c.c % 32 != 0, fCONV),
          (decide (dataTop < c.base + (c.hIn - 1) * c.stH + (c.wIn - 1) * c.stW + ceilDiv (c.c * fm.width) 8), fRANGE),
          (fm.isBq && decide (dataTop < c.scalePtr + c.wIn * c.hIn * ceilDiv c.c 32), fRANGE)]
    else if t = 3 then
      firstErr [(dFmtCode d != 0, fFORMAT), (dSpace d != 0, fSPACE), (dBase d != 0, fRANGE),
        ((List.range 4).any (fun i => field d (8 * (16 + 12 * i + 3) + 2) 6 != 0 || dB d (16 + 12 * i + 10) 2 != 0), fRSVD)]
    else if t = 4 then
      let iw := dB d 28 1
      let b := if iw = 0 then 2 else 4
      firstErr [(dFmtCode d != 0, fFORMAT), (dSpace d != 1, fSPACE), (dBase d != 0, fRANGE),
        (field d (8 * 16 + 22) 10 != 0 || field d (8 * 30 + 1) 7 != 0 || dB d 31 16 != 0 || dB d 47 17 != 0, fRSVD),
        (decide (1 < iw) || decide (2 < dB d 29 1), fRSVD),
        (dB d 20 4 == 0 || decide (65536 < dB d 20 4), fSHAPE),
        (field d 128 22 % b != 0, fALIGN),
        (decide (dataTop < field d 128 22 + dB d 20 4 * b), fRANGE)]
    else if t = 5 then
      let l := rLay d
      if f.isNone then some fFORMAT
      else firstErr [
        (decide (2 < dSpace d), fSPACE),
        (bit d (8 * 18 + 7) || field d (8 * 19 + 3) 5 != 0 || field d (8 * 20 + 2) 6 != 0 ||
          field d (8 * 22 + 12) 4 != 0 || dB d 60 4 != 0, fRSVD),
        (field d (8 * 20) 2 % 2 == 1, fRSVD), (field d (8 * 19 + 1) 2 == 3, fRSVD),
        (dSpace d == 0 && field d (8 * 18) 7 != 0, fRANGE), (decide (95 < field d (8 * 18) 7), fRANGE),
        (bit d (8 * 19) && (dB d 21 1 == 0 || decide (7 < dB d 21 1)), fSHAPE),
        (!bit d (8 * 19) && dB d 21 1 != 0, fSHAPE),
        (l.n0 == 0 || l.n1 == 0 || l.n2 == 0 || l.n3 == 0, fSHAPE),
        (!l.fmt.isBq && l.scalePtr != 0, fRSVD),
        (!reachOk (dSpace d) l.extent.1 l.extent.2, fRANGE),
        (l.fmt.isBq && !reachOk (dSpace d) l.scaleExtent.1 l.scaleExtent.2, fRANGE)]
    else
      firstErr [(dFmtCode d != 0, fFORMAT), (dSpace d != 0, fSPACE), (dBase d != 0, fRANGE),
        (field d (8 * 17 + 3) 5 != 0 || dB d 23 1 != 0 || dB d 56 8 != 0, fRSVD),
        (dB d 16 1 == 0 || decide (8 < dB d 16 1), fTYPE), (updFields d, fFORMAT), (updSpare d, fDESC)]

end Sys2Proof.Machine
end

