-- ==== Sys2Proof/Machine/Check.lean ====
section
/-! DEFINITION.  The checks of one instruction against the descriptors it names (R182 to R207, R210):
at load, where an unset descriptor defers what depends on it, and again at the start (R211).  An error is
a fault code of R214 together with the descriptor index that the load report names (R209). -/

namespace Sys2Proof.Machine

/-- A fault code with the index of the descriptor that fails (R209). -/
def fAt (code desc : Nat) : Nat := code + 256 * desc

/-- Fault code of an error. -/
def errCode (e : Nat) : Nat := e % 256
/-- Descriptor index of an error; 0 where the check names none. -/
def errDesc (e : Nat) : Nat := e / 256

/-- First error of two checks. -/
def orErr (a b : Option Nat) : Option Nat := match a with | some c => some c | none => b

/-- First error of a list of checks. -/
def errs (l : List (Option Nat)) : Option Nat := l.foldr orErr none

/-- A named TENSOR operand: present, of the type, in one of the spaces, of an allowed format, and with
bytes of its own where it is written.  An unset one is deferred at load (R211). -/
def needT (start : Bool) (i d : Nat) (spaces : List Nat) (dest : Bool) (fm : Fmt → Bool) : Option Nat :=
  if i = 0 then some fDESC
  else if d = 0 then (if start then some (fAt fTYPE i) else none)
  else if dType d ≠ 1 then some (fAt fTYPE i)
  else if !spaces.contains (dSpace d) then some (fAt fSPACE i)
  else if !fm (dFmt d) then some (fAt fFORMAT i)
  else if dest && !(tLay d).distinct then some (fAt fSHAPE i)
  else none

/-- An optional TENSOR operand. -/
def optT (start : Bool) (i d : Nat) (spaces : List Nat) (dest : Bool) (fm : Fmt → Bool) : Option Nat :=
  if i = 0 then none else needT start i d spaces dest fm

/-- A named descriptor of another type. -/
def needK (start : Bool) (i d ty : Nat) : Option Nat :=
  if i = 0 then some fDESC
  else if d = 0 then (if start then some (fAt fTYPE i) else none)
  else if dType d ≠ ty then some (fAt fTYPE i) else none

/-- A field that must be 0. -/
def needNone (i : Nat) : Option Nat := if i = 0 then none else some (fAt fDESC i)

/-- A condition on descriptors, judged only once every one of them is set (R211). -/
def onSet (ds : List Nat) (l : List (Bool × Nat)) : Option Nat :=
  if ds.contains 0 then none else firstErr l

/-- Bits [247:136] of an instruction with the fields `used`, each (high bit, low bit), set to zero. -/
def immOff (w : Nat) (used : List (Nat × Nat)) : Nat :=
  used.foldl (fun a (p : Nat × Nat) => a - field a (p.2 - 136) (p.1 + 1 - p.2) * 2 ^ (p.2 - 136)) (field w 136 112)

/-- Bits from 136 upward that no immediate of the operation takes are reserved and zero (R15, R185). -/
def immRest (w : Nat) (used : List (Nat × Nat)) : Option Nat := firstErr [(immOff w used != 0, fRSVD)]

/-- The immediates of VX: a bit that none of them takes is reserved, and one that the operation does not
use must be zero (R205). -/
def immVx (w : Nat) (used : List (Nat × Nat)) : Option Nat :=
  firstErr [(immOff w [(142, 136), (175, 144), (179, 176), (195, 180)] != 0, fRSVD), (immOff w used != 0, fIMM)]

/-- The conversion group of R183 of an operation that converts. -/
def cvgCheck (w : Nat) (vx : Bool) (i dst : Nat) : Option Nat :=
  let r := insRnd w
  orErr (firstErr [
    (field w 133 3 != 0, fRSVD), (decide (6 ≤ r), fIMM), (decide (3 ≤ r) && !(vx && insStrict w), fIMM),
    (insStrict w && !vx, fIMM)])
    (if i = 0 then firstErr [(insTensor w, fIMM)]
      else onSet [dst] [(insTensor w && !(dFmt dst).isBq, fIMM), (insTensor w && !dHasDs dst, fAt fNODS i)])

/-- The conversion group of an operation that converts nothing. -/
def cvgZero (w : Nat) : Option Nat := firstErr [(field w 133 3 != 0, fRSVD), (field w 128 5 != 0, fIMM)]

/-- Every format. -/
def anyFmt (_ : Fmt) : Bool := true
/-- Not BQ. -/
def plainFmt (f : Fmt) : Bool := !f.isBq
/-- INT32 only. -/
def isI32 (f : Fmt) : Bool := f == .int32
/-- FP32 only. -/
def isF32 (f : Fmt) : Bool := f == .fp32

/-- RES_OFF: aligned to 16 bytes, the record within banks 0 to 30 (R162). -/
def resCheck (w : Nat) : Option Nat :=
  firstErr [(insResOff w % 16 != 0, fALIGN), (decide (dataTop < insResOff w + 16), fRANGE)]

/-- Width class of R109; 0 for none. -/
def widthClass : Fmt → Nat
  | .int8 => 8 | .bq8 => 8 | .int4 => 4 | .bq4 => 4 | .int2 => 2 | .tern => 2 | .bq2 => 2 | _ => 0

/-- K per slot of a packing mode and width class (R107). -/
def kSlot (pack cls : Nat) : Nat := (if pack < 2 then 128 else 64) * (8 / cls)
/-- N per slot (R107). -/
def nSlot (pack : Nat) : Nat := if pack % 2 = 0 then 128 else 64
/-- Slots (R107). -/
def slotsOf (pack : Nat) : Nat := if pack = 0 then 1 else if pack = 3 then 4 else 2

/-- One slot of an MMUL (R113, R118). -/
structure MSlot where
  a : Nat
  b : Nat
  c : Nat
  valid : Bool
  accInit : Bool
  rows : Nat
  rowBase : Nat
  kBase : Nat
  deriving DecidableEq, Repr

/-- PACK of an MMUL. -/
def insPack (w : Nat) : Nat := imm w 137 136
/-- ACC_MODE: INT32 accumulation. -/
def insAccInt (w : Nat) : Bool := bit w 138
/-- B_REUSE. -/
def insReuse (w : Nat) : Bool := bit w 139
/-- ACC_INIT. -/
def insAccInit (w : Nat) : Bool := bit w 140

/-- Entry `i` of a bundle (R118). -/
def bundleSlot (d i : Nat) : MSlot :=
  let o := 16 + 12 * i
  ⟨dB d o 1, dB d (o + 1) 1, dB d (o + 2) 1, bit d (8 * (o + 3)), bit d (8 * (o + 3) + 1), dB d (o + 4) 2,
    dB d (o + 6) 2, dB d (o + 8) 2⟩

/-- The slots of an MMUL, from its word or its bundle. -/
def mmSlots (D : Nat → Nat) (w : Nat) : List MSlot :=
  if insPack w = 0 then
    [⟨insA w, insB w, insDst w, true, insAccInit w, imm w 188 176, imm w 175 160, imm w 159 144⟩]
  else (List.range (slotsOf (insPack w))).map (bundleSlot (D (insAux w)))

/-- Rows and K_total of an A operand (R108, R109, R122). -/
def aShape (d : Nat) : Nat × Nat :=
  if dType d = 2 then ((cView d).wOut * (cView d).hOut, (cView d).kTotal)
  else ((tLay d).runs, (tLay d).n0)

/-- Checks of one slot of an MMUL (R108 to R110), each judged once the descriptors that it looks at are set (R211).  That
dimensions 2 and 3 of B and of C have size 1 is the model's reading of their shapes (DESIGN CHOICE, log 93: R108 names
dimensions 0 and 1 only). -/
def slotCheck (start : Bool) (D : Nat → Nat) (w : Nat) (s : MSlot) : Option Nat :=
  let a := D s.a; let b := D s.b; let c := D s.c
  let cls := widthClass (dFmt b)
  let int := insAccInt w
  errs [
    (if s.a = 0 then some fDESC else if a = 0 then (if start then some (fAt fTYPE s.a) else none)
      else if dType a = 2 then none else needT start s.a a [1] false anyFmt),
    needT start s.b b [1] false (fun f => widthClass f != 0),
    needT start s.c c [2] true (fun f => if int then f == .int32 else f == .fp32),
    firstErr [(s.rows == 0 || decide (4096 < s.rows), fIMM)],
    onSet [a] [(widthClass (dFmt a) == 0, fAt fFORMAT s.a), (int && (dFmt a).isBq, fAt fFORMAT s.a)],
    onSet [b] [(int && (dFmt b).isBq, fAt fFORMAT s.b)],
    onSet [a, b] [(widthClass (dFmt a) != cls, fAt fFORMAT s.b), ((aShape a).2 != (tLay b).n0, fAt fSHAPE s.b)],
    onSet [a] [(decide ((aShape a).2 ≤ s.kBase), fIMM), ((dFmt a).isBq && s.kBase % 32 != 0, fIMM)],
    onSet [b] [(decide ((tLay b).n0 ≤ s.kBase), fIMM), ((dFmt b).isBq && s.kBase % 32 != 0, fIMM),
      (decide (nSlot (insPack w) < (tLay b).n1) || (tLay b).n2 != 1 || (tLay b).n3 != 1, fAt fSHAPE s.b)],
    onSet [a] [(decide ((aShape a).1 < s.rowBase + s.rows), fAt fSHAPE s.a)],
    onSet [b, c] [((tLay c).n0 != (tLay b).n1, fAt fSHAPE s.c)],
    onSet [c] [((tLay c).n1 != s.rows || (tLay c).n2 != 1 || (tLay c).n3 != 1, fAt fSHAPE s.c)]]

/-- A list of byte ranges meet one another. -/
def anyOverlap : List (Nat × Nat) → Bool
  | [] => false
  | x :: t => t.any (fun y => overlap x.1 x.2 y.1 y.2) || anyOverlap t

/-- Checks of an MMUL (R108 to R119, R204).  The C ranges of a bundle, like the source and destination of a CVT (R116), are
compared from their first byte to their last, so that ranges that interleave within their strides overlap (DESIGN CHOICE,
log 93: R119 and R116 do not say how a range with gaps counts). -/
def mmulCheck (start : Bool) (D : Nat → Nat) (w : Nat) : Option Nat :=
  let pk := insPack w
  if pk = 0 then
    errs [needNone (insAux w), immRest w [(138, 136), (139, 139), (140, 140), (159, 144), (175, 160), (188, 176)],
      (mmSlots D w).foldr (fun s r => orErr (slotCheck start D w s) r) none]
  else
    let d := D (insAux w)
    errs [needNone (insDst w), needNone (insA w), needNone (insB w), needK start (insAux w) d 3,
      firstErr [(immOff w [(139, 136), (247, 189), (143, 141)] != 0, fIMM)],
      immRest w [(188, 136)],
      (if d = 0 then none else
        let ss := mmSlots D w
        let live := ss.filter (fun s => s.valid)
        errs [
          firstErr [
            (live.isEmpty, fAt fBUNDLE (insAux w)),
            ((List.range 4).any (fun i => decide (slotsOf pk ≤ i) && dB d (16 + 12 * i) 12 != 0),
              fAt fBUNDLE (insAux w)),
            ((List.range (slotsOf pk)).any (fun i =>
              !bit d (8 * (16 + 12 * i + 3)) && (dB d (16 + 12 * i) 3 != 0 || dB d (16 + 12 * i + 4) 8 != 0)),
              fAt fBUNDLE (insAux w))],
          live.foldr (fun s r => orErr (slotCheck start D w s) r) none,
          onSet (live.map (fun s => D s.c))
            [(anyOverlap (live.map (fun s => (tLay (D s.c)).extent)), fAt fOVERLAP (insAux w))]])]

/-- The format is one of the stream formats of R621. -/
def streamFmt (f : Fmt) : Bool := f.isFloat

/-- The b operand of R205. -/
def bselCheck (start : Bool) (D : Nat → Nat) (w : Nat) (fm : Fmt → Bool) : Option Nat :=
  let s := imm w 137 136
  let a := D (insA w); let b := D (insB w)
  if s = 0 then errs [needT start (insB w) b [1, 2] false fm,
    onSet [a, b] [((tLay a).count != (tLay b).count, fAt fSHAPE (insB w))]]
  else if s = 3 then errs [needT start (insB w) b [1, 2] false fm,
    onSet [b] [((tLay b).n0 != 1, fAt fSHAPE (insB w))],
    onSet [a, b] [((tLay b).n1 != (tLay a).n1 || (tLay b).n2 != (tLay a).n2 || (tLay b).n3 != (tLay a).n3,
      fAt fSHAPE (insB w))]]
  else needNone (insB w)

/-- Checks of a VX operation (R205, R621, R140, R147, R148).  The state TENSOR of online softmax may have any format but a
block format, where a row of it has the 16 bytes of R148 (DESIGN CHOICE, log 93: R148 names no format). -/
def vxCheck (start : Bool) (D : Nat → Nat) (w : Nat) : Option Nat :=
  let op := insOp w
  let di := insDst w; let ai := insA w; let bi := insB w; let xi := insAux w
  let d := D di; let a := D ai; let x := D xi
  let same := onSet [d, a] [((tLay d).count != (tLay a).count, fAt fSHAPE di)]
  let rows := onSet [a] [(decide (65536 < (tLay a).n0), fAt fSHAPE ai)]
  let sameRows := onSet [d, a] [((tLay d).n0 != (tLay a).n0 || (tLay d).runs != (tLay a).runs, fAt fSHAPE di)]
  let g := cvgCheck w true di d
  let B : Nat × Nat := (137, 136); let R : Nat × Nat := (142, 138); let I : Nat × Nat := (175, 144)
  let sel := immVx w (B :: (if imm w 137 136 = 2 then [R] else if imm w 137 136 = 1 then [I] else []))
  if 1 ≤ op ∧ op ≤ 7 then
    errs [needT start di d [1, 2] true anyFmt, needT start ai a [1, 2] false streamFmt,
      bselCheck start D w streamFmt,
      (if op = 4 then errs [needT start xi x [1, 2] false streamFmt,
          onSet [a, x] [((tLay a).count != (tLay x).count, fAt fSHAPE xi)]] else needNone xi),
      g, sel, same]
  else if 8 ≤ op ∧ op ≤ 11 then
    errs [needT start di d [1, 2] true anyFmt,
      needT start ai a [1, 2] false (if op = 11 then anyFmt else streamFmt), needNone bi, needNone xi, g,
      immVx w [], same]
  else if op = 0x10 then
    errs [needT start di d [1, 2] true anyFmt, needT start ai a [1, 2] false streamFmt, needNone bi,
      needNone xi, g, immVx w [(179, 176)], firstErr [(decide (14 ≤ imm w 179 176), fIMM)], same]
  else if op = 0x11 then
    errs [needT start di d [1, 2] true anyFmt, needT start ai a [1, 2] false streamFmt, needNone bi,
      needNone xi, g, immVx w [I, (195, 180)], same]
  else if op = 0x12 then
    errs [needT start di d [1, 2] true anyFmt, needNone ai, needNone bi, needNone xi, g, immVx w []]
  else if 0x18 ≤ op ∧ op ≤ 0x1E then
    errs [needT start di d [1, 2] true isI32, needT start ai a [1, 2] false isI32,
      bselCheck start D w isI32, needNone xi, g, sel, same]
  else if op = 0x20 then
    errs [needT start di d [1, 2] true anyFmt, needT start ai a [1, 2] false streamFmt, needNone bi,
      needNone xi, g, immVx w [], rows, sameRows]
  else if op = 0x21 ∨ op = 0x22 then
    let vec := fun (f : Fmt) => f == .fp32 || f == .bf16
    errs [needT start di d [1, 2] true anyFmt, needT start ai a [1, 2] false streamFmt,
      optT start bi (D bi) [1, 2] false vec,
      (if op = 0x21 then optT start xi x [1, 2] false vec else needNone xi), g, immVx w [I],
      firstErr [((w32 (imm w 175 144)).isNan || (w32 (imm w 175 144)).isInf ||
        ((w32 (imm w 175 144)).isNeg && !(w32 (imm w 175 144)).isZero), fIMM)], rows, sameRows,
      (if bi = 0 then none else onSet [a, D bi] [((tLay (D bi)).count != (tLay a).n0, fAt fSHAPE bi)]),
      (if xi = 0 then none else onSet [a, x] [((tLay x).count != (tLay a).n0, fAt fSHAPE xi)])]
  else if op = 0x23 ∨ op = 0x24 then
    errs [needT start di d [1, 2] true anyFmt, needT start ai a [1, 2] false streamFmt, needNone bi,
      needT start xi x [1] (op == 0x23) plainFmt, g, immVx w [], rows, sameRows,
      onSet [x] [((tLay x).n0 * (dFmt x).width != 128, fAt fSHAPE xi)],
      onSet [a, x] [((tLay x).runs != (tLay a).runs, fAt fSHAPE xi)]]
  else if op = 0x25 ∨ op = 0x26 then
    errs [needT start di d [1, 2] true anyFmt, needT start ai a [1, 2] false streamFmt, needNone bi,
      needNone xi, g, immVx w [], rows,
      onSet [d] [((tLay d).n0 != 1, fAt fSHAPE di)],
      onSet [d, a] [((tLay d).runs != (tLay a).runs, fAt fSHAPE di)]]
  else if op = 0x30 then
    errs [needNone di, needT start ai a [1, 2] false (fun f => f.isFloat || f == .int32), needNone bi,
      needNone xi, g, immVx w [R],
      onSet [a] [((tLay a).runs != 1 || decide (64 < (tLay a).n0), fAt fSHAPE ai)]]
  else if op = 0x31 then
    errs [needT start di d [1, 2] true anyFmt, needNone ai, needNone bi, needNone xi, g, immVx w [R],
      onSet [d] [((tLay d).runs != 1 || decide (64 < (tLay d).n0), fAt fSHAPE di)]]
  else some fOP

/-- R172: a key format. -/
def keyFmt (f : Fmt) : Bool := f.isFloat || f == .int8 || f == .int32

/-- Capacity in 16-byte records of a tensor taken as bytes in element order. -/
def recCap (l : Lay) : Nat := l.count * l.fmt.width / 128

/-- Checks of an RK operation (R172 to R177, R207).  That DST of SEGMENT has the format of the values under SUM, MAX and MIN,
and that route records go to a DST of any format but a block format of 8 bits or more an element, taken as bytes, are the
model's reading (DESIGN CHOICE, log 93: R173 names no format). -/
def rkCheck (start : Bool) (D : Nat → Nat) (w : Nat) : Option Nat :=
  let op := insOp w
  let di := insDst w; let ai := insA w; let bi := insB w; let xi := insAux w
  let d := D di; let a := D ai; let b := D bi; let x := D xi
  let w32f := fun (f : Fmt) => decide (f.width = 32)
  let RO : Nat × Nat := (157, 136)
  let lim := onSet [a] [(decide (65536 < (tLay a).count), fAt fSHAPE ai)]
  if op = 1 then
    errs [needT start di d [1] true keyFmt, needT start ai a [1] false keyFmt,
      optT start bi b [1] false w32f, optT start xi x [1] true w32f, cvgZero w,
      immRest w [(159, 158)],
      onSet [a] [(decide (4096 < (tLay a).n0), fAt fSHAPE ai)],
      onSet [d, a] [(dFmt d != dFmt a, fAt fFORMAT di), ((tLay d).count != (tLay a).count || (tLay d).n0 != (tLay a).n0, fAt fSHAPE di)],
      (if bi = 0 then none else onSet [a, b] [((tLay b).count != (tLay a).count || (tLay b).n0 != (tLay a).n0, fAt fSHAPE bi)]),
      (if xi = 0 then none else onSet [a, x] [((tLay x).count != (tLay a).count || (tLay x).n0 != (tLay a).n0, fAt fSHAPE xi)])]
  else if 2 ≤ op ∧ op ≤ 4 then
    errs [needT start di d [1] true isI32, needT start ai a [1] false isI32, needT start bi b [1] false isI32,
      needNone xi, cvgZero w, immRest w [RO], resCheck w, lim,
      onSet [b] [(decide (65536 < (tLay b).count), fAt fSHAPE bi)]]
  else if op = 5 then
    errs [needT start di d [1] true isI32, needT start ai a [1] false isI32, needNone bi,
      optT start xi x [1] true isI32, cvgZero w, immRest w [RO], resCheck w, lim]
  else if op = 6 then
    let out := bit w 162
    let k := imm w 161 158 + 1
    errs [needT start di d [1] true (if out then isI32 else plainFmt),
      needT start ai a [1, 2] false streamFmt, optT start bi b [1] false isF32,
      (if out then needT start xi x [1] true isF32 else needNone xi), cvgZero w,
      immRest w [RO, (163, 158), (195, 164), (227, 196)], resCheck w,
      onSet [a] [(decide (4096 < (tLay a).n0), fAt fSHAPE ai)],
      onSet [d] [(!out && (dFmt d).width < 8, fAt fFORMAT di)],
      (if bi = 0 then none else onSet [a, b] [((tLay b).count != (tLay a).n0, fAt fSHAPE bi)]),
      firstErr [(decide (16 < k), fIMM)]]
  else if op = 7 then
    let red := imm w 159 158
    errs [needT start di d [1] true (fun f => f == .fp32 || f == .bf16 || f == .int32),
      needT start ai a [1] false isI32,
      needT start bi b [1] false (fun f => f == .fp32 || f == .bf16 || f == .int32),
      optT start xi x [1] true isI32, cvgZero w, immRest w [RO, (159, 158)], resCheck w, lim,
      onSet [a, b] [((tLay a).count != (tLay b).count, fAt fSHAPE bi)],
      onSet [d] [(red == 3 && dFmt d != .int32, fAt fFORMAT di)],
      onSet [d, b] [(red != 3 && dFmt d != dFmt b, fAt fFORMAT di)]]
  else if op = 8 then
    let nb := imm w 177 165
    errs [needT start di d [1] true isI32,
      needT start ai a [1, 2] false (fun f => f == .int8 || f == .int32), needNone bi, needNone xi,
      cvgZero w, immRest w [RO, (177, 158), (209, 178)], resCheck w,
      firstErr [(nb == 0 || decide (4096 < nb), fIMM)]]
  else some fOP

/-- The bytes of a tensor in DEV, its scales with them, lie in the stack range (R200, R202). -/
def stackOnly (l : Lay) : Bool :=
  inStack l.extent.1 && (!l.fmt.isBq || inStack l.scaleExtent.1)

/-- R163: a table in DEV that is read lies in stack memory or in a core's data SRAM, its scales with it. -/
def noAcc (l : Lay) : Bool :=
  let ok := fun (a : Nat) => inStack a || decide ((a - winBase) % winSpan < dataTop)
  ok l.extent.1 && (!l.fmt.isBq || ok l.scaleExtent.1)

/-- Checks of a GX operation (R160 to R170, R202). -/
def gxCheck (start : Bool) (D : Nat → Nat) (w : Nat) : Option Nat :=
  let op := insOp w
  let di := insDst w; let ai := insA w; let bi := insB w; let xi := insAux w
  let d := D di; let a := D ai; let b := D bi; let x := D xi
  let RO : Nat × Nat := (157, 136)
  let n := dB b 20 4
  let flat := fun (ti : Nat) => onSet [D ti] [((tLay (D ti)).n2 != 1 || (tLay (D ti)).n3 != 1, fAt fSHAPE ti)]
  let tab := fun (ti ri : Nat) => let t := D ti; let r := D ri; errs [flat ti,
    onSet [t] [((dFmt t).isBq && (tLay t).n0 % 32 != 0, fAt fSHAPE ti)],
    onSet [r] [((dFmt r).isBq && (tLay r).n0 % 32 != 0, fAt fSHAPE ri)],
    onSet [t, r] [((tLay r).n0 != (tLay t).n0, fAt fSHAPE ri)],
    onSet [r, b] [((tLay r).runs != n, fAt fSHAPE ri)]]
  let src := onSet [a] [(dSpace a == 0 && !noAcc (tLay a), fAt fRANGE ai)]
  let stk := onSet [d] [(dSpace d == 0 && !stackOnly (tLay d), fAt fRANGE di)]
  if op = 1 then
    errs [needT start di d [1] true anyFmt, needT start ai a [0, 1] false anyFmt, needK start bi b 4,
      needNone xi, cvgCheck w false di d, immRest w [RO], resCheck w, tab ai di, src]
  else if op = 2 then
    errs [needT start di d [0, 1] true anyFmt, needT start ai a [1] false anyFmt, needK start bi b 4,
      needNone xi, cvgCheck w false di d, immRest w [RO], resCheck w, tab di ai, stk]
  else if op = 3 then
    errs [needT start di d [0, 1] true (fun f => f == .fp32 || f == .bf16), needT start ai a [1] false anyFmt,
      needK start bi b 4, needNone xi, (if insTensor w then some fIMM else none), cvgCheck w false di d,
      immRest w [RO, (158, 158)], resCheck w, tab di ai, stk]
  else if op = 4 then
    let oi := imm w 167 160; let vs := imm w 175 168; let vd := imm w 183 176
    errs [needT start di d [1] true isI32, needT start ai a [0, 1] false isI32, needK start bi b 4,
      needT start xi x [0, 1] false isI32, cvgCheck w false vd (D vd),
      immRest w [RO, (183, 160)], resCheck w, flat ai, src,
      needT start oi (D oi) [1] true isI32,
      (if vs = 0 ∧ vd = 0 then none
        else errs [needT start vs (D vs) [0, 1] false anyFmt, needT start vd (D vd) [1] true anyFmt])]
  else some fOP

/-- Checks of an LD or ST operation (R200, R201). -/
def ldstCheck (start : Bool) (D : Nat → Nat) (w : Nat) : Option Nat :=
  let di := insDst w; let ai := insA w
  let d := D di; let a := D ai
  let rest := errs [needNone (insB w), needNone (insAux w)]
  let same := onSet [d, a] [((tLay d).count != (tLay a).count, fAt fSHAPE di)]
  if insEng w = 0 ∧ insOp w = 1 then
    errs [needT start di d [1, 2, 3] true anyFmt, needT start ai a [0, 1, 2] false anyFmt, rest,
      cvgCheck w false di d, immRest w [], same,
      onSet [d] [(dSpace d == 3 && decide (65536 < (tLay d).ringBytes), fAt fSHAPE di)]]
  else if insEng w = 0 ∧ insOp w = 2 then
    errs [needT start di d [1, 2] true plainFmt, needNone ai, rest, cvgZero w, immRest w [(167, 136)],
      onSet [d] [(dFmt d == .tern && imm w 167 136 % 4 == 2, fIMM)]]
  else if insEng w = 1 ∧ insOp w = 1 then
    errs [needT start di d [0, 4] true anyFmt, needT start ai a [1, 2] false anyFmt, rest,
      cvgCheck w false di d, immRest w [], same,
      onSet [d] [(dSpace d == 0 && !stackOnly (tLay d), fAt fRANGE di)],
      onSet [d] [(dSpace d == 4 && dFmt d != .int8, fAt fFORMAT di)],
      onSet [d] [(dSpace d == 4 && (!(tLay d).dense || (tLay d).count % 64 != 0), fAt fSHAPE di),
        (dSpace d == 4 && field w 128 8 != 0, fIMM)],
      onSet [d, a] [(dSpace d == 4 && dFmt a != .int8, fAt fFORMAT ai),
        (dSpace d == 4 && !(tLay a).dense, fAt fSHAPE ai)]]
  else some fOP

/-- MCAST flag of a REMOTE descriptor. -/
def rMcast (d : Nat) : Bool := bit d (8 * 19)

/-- GROUP of a REMOTE descriptor. -/
def rGroup (d : Nat) : Nat := field d (8 * 22) 12
/-- DEV_ID and CORE of a REMOTE descriptor. -/
def rDevCore (d : Nat) : Nat := dB d 16 3
/-- RANK of a REMOTE descriptor. -/
def rRank (d : Nat) : Nat := dB d 58 2
/-- The fields that R331 requires to be zero in a template: DEV_ID, CORE, BASE, GROUP, RANK. -/
def rTarget (d : Nat) : Nat := rDevCore d + dBase d + rGroup d + rRank d

/-- Checks of an XO or XI operation (R203, R313, R329 to R336). -/
def xCheck (start : Bool) (D : Nat → Nat) (w : Nat) : Option Nat :=
  let op := insOp w
  let di := insDst w; let ai := insA w; let bi := insB w; let xi := insAux w
  let d := D di; let a := D ai; let b := D bi; let x := D xi
  let RO : Nat × Nat := (157, 136)
  let tens := firstErr [(insTensor w, fAt fNODS di)]
  if insEng w = 3 then
    if 1 ≤ op ∧ op ≤ 3 then
      errs [needK start di d 5, needT start ai a [0, 1, 2] false anyFmt, needNone bi, needNone xi, tens,
        cvgCheck w false di d, immRest w [(158, 158)],
        onSet [d] [(rMcast d != (op == 3), fAt fSHAPE di), (op == 2 && dFmt d != .fp32, fAt fFORMAT di),
          (!bit w 158 && rGroup d != 0, fIMM), (op == 2 && !bit w 158, fIMM), (op == 2 && !(rLay d).dense, fAt fSHAPE di),
          (op != 2 && rRank d != 0, fAt fRSVD di)],
        onSet [d, a] [((rLay d).count != (tLay a).count, fAt fSHAPE di)]]
    else if op = 4 then
      errs [needK start di d 5, needT start ai a [1] false anyFmt, needT start bi b [1] false plainFmt,
        needT start xi x [1] false plainFmt, tens, cvgCheck w false di d, immRest w [RO, (158, 158), (174, 159)],
        resCheck w, firstErr [(imm w 174 159 == 0, fIMM)],
        onSet [d] [(dFmt d != .bq8, fAt fFORMAT di), (rMcast d, fAt fSHAPE di), (rTarget d != 0, fAt fSHAPE di),
          ((rLay d).n1 != 1 || (rLay d).n2 != 1 || (rLay d).n3 != 1, fAt fSHAPE di)],
        onSet [a] [((tLay a).n0 % 32 != 0 || decide (511 * 32 < (tLay a).n0), fAt fSHAPE ai),
          ((tLay a).n2 != 1 || (tLay a).n3 != 1 || decide (65536 < (tLay a).n1), fAt fSHAPE ai)],
        onSet [b] [(dFmt b != .int32, fAt fFORMAT bi), (!(tLay b).dense || (tLay b).n0 != 4 || (tLay b).n3 != 1 ||
          decide (16 < (tLay b).n1), fAt fSHAPE bi)],
        onSet [x] [(dFmt x != .int32, fAt fFORMAT xi), (!(tLay x).dense || (tLay x).n0 != 8 || (tLay x).n2 != 1 ||
          (tLay x).n3 != 1 || decide (4096 < (tLay x).n1), fAt fSHAPE xi)],
        onSet [a, b] [((tLay b).n2 != (tLay a).n1, fAt fSHAPE bi)],
        onSet [a] [(decide (dataTop < insResOff w + 16 + 2 * (tLay a).n1), fRANGE)],
        onSet [d, a] [((rLay d).n0 != (tLay a).n0, fAt fSHAPE di)]]
    else if op = 5 then
      errs [needK start di d 5, needT start ai a [1] false anyFmt, needT start bi b [1] false plainFmt,
        needNone xi, tens, cvgCheck w false di d, immRest w [RO], resCheck w,
        onSet [d] [(rMcast d, fAt fSHAPE di), (rDevCore d != 0 || rRank d != 0, fAt fSHAPE di), (!(rLay d).dense, fAt fSHAPE di),
          (dFmt d != .fp32 && dFmt d != .bf16, fAt fFORMAT di)],
        onSet [b] [(dFmt b != .int32, fAt fFORMAT bi), (!(tLay b).dense || (tLay b).n0 != 4, fAt fSHAPE bi)],
        onSet [a, b] [((tLay a).runs != (tLay b).runs, fAt fSHAPE bi)],
        onSet [d, a] [((rLay d).n0 != (tLay a).n0, fAt fSHAPE di)]]
    else some fOP
  else
    if op = 1 then
      errs [needT start di d [0, 1, 2] true anyFmt, needNone ai, needNone bi, needNone xi, cvgZero w,
        immRest w [(169, 158), (201, 170)], firstErr [(imm w 201 170 == 0, fIMM)]]
    else if op = 2 then
      let nz := bit w 186
      errs [needT start di d [0, 1, 2] true isF32, needNone ai, needNone bi,
        (if nz then needT start xi x [1] true plainFmt else needNone xi), cvgZero w,
        immRest w [(169, 158), (186, 170)], firstErr [(imm w 185 170 == 0, fIMM)],
        onSet [d] [(!(tLay d).dense, fAt fSHAPE di)],
        (if nz then onSet [x] [(dFmt x != .int8, fAt fFORMAT xi), (!(tLay x).dense || (tLay x).count != 48, fAt fSHAPE xi)] else none)]
    else if op = 3 ∨ op = 4 then
      errs [needT start di d [1] true (fun f => if op = 3 then f == .bq8 else f == .fp32 || f == .bf16),
        onSet [d] [(!(tLay d).dense, fAt fSHAPE di)], needNone ai, needNone bi, needNone xi, cvgZero w,
        immRest w [(169, 136)], resCheck w]
    else some fOP

/-- A state format of UP (R380). -/
def stateFmt (f : Fmt) : Bool := f == .fp32 || f == .bf16

/-- R380: a state descriptor that the rule requires, or that must be 0, by the UPDATE descriptor `x`. -/
def stateDesc (start : Bool) (D : Nat → Nat) (x : Nat) (need : Bool) (i : Nat) : Option Nat :=
  if decide (i ≠ 0) ≠ need then some (fAt fDESC x)
  else if need then needT start i (D i) [1] true stateFmt else none

/-- R380, R386: the norm accumulator. -/
def normDesc (start : Bool) (D : Nat → Nat) (x i : Nat) : Option Nat :=
  let l := tLay (D i)
  if i = 0 then some (fAt fDESC x)
  else orErr (needT start i (D i) [1] true isF32)
    (onSet [D i] [(!l.dense || l.n0 != 4 || l.n1 != 1 || l.n2 != 1 || l.n3 != 1, fAt fSHAPE i)])

/-- R380, R381, R384, R387: what the UPDATE descriptor asks of an UPD_APPLY. -/
def applyCheck (start : Bool) (D : Nat → Nat) (w : Nat) : Option Nat :=
  let xi := insAux w
  let x := D xi
  let d := D (insDst w)
  let a := D (insA w)
  let r := dB x 16 1
  let fl := dB x 17 1
  let mi := dB x 18 1; let vi := dB x 19 1; let ci := dB x 20 1; let ei := dB x 21 1; let ni := dB x 22 1
  let w16 := bit fl 1
  let needM := r == 2 || r == 3 || r == 4 || r == 5 || r == 7 || r == 8 || (r == 6 && mi != 0)
  let needV := r == 4 || r == 5 || r == 6 || r == 8
  let fact := r == 6 && ci != 0
  let n := (tLay d).count
  let cols := (tLay d).n0
  let rows := (tLay d).runs
  orErr (onSet [a] [(!(dFmt a == .fp32 || dFmt a == .bf16 || dFmt a == .fp16), fAt fFORMAT (insA w))])
  (if x = 0 then none
  else errs [
    onSet [d] [(dFmt d != (if w16 then .bf16 else .fp32), fAt fFORMAT (insDst w))],
    stateDesc start D xi needM mi, stateDesc start D xi needV vi, stateDesc start D xi fact ci,
    stateDesc start D xi (bit fl 0) ei, (if r == 8 then normDesc start D xi ni else none),
    (if mi = 0 then none else onSet [d, D mi] [((tLay (D mi)).count != n, fAt fSHAPE mi)]),
    (if vi = 0 then none else onSet [d, D vi] [((tLay (D vi)).count != (if fact then rows else n), fAt fSHAPE vi)]),
    (if fact then orErr (onSet [d] [(decide (65536 < cols) || decide (65536 < rows), fAt fSHAPE (insDst w))])
        (onSet [d, D ci] [((tLay (D ci)).count != cols, fAt fSHAPE ci)])
      else none),
    (if ei = 0 then none else onSet [d, D ei] [((tLay (D ei)).count != n, fAt fSHAPE ei)]),
    (if !w16 && insRnd w == 2 then some fIMM else none)])

/-- Checks of a UP operation (R206, R380 to R387, R394). -/
def upCheck (start : Bool) (D : Nat → Nat) (w : Nat) : Option Nat :=
  let op := insOp w
  let di := insDst w; let ai := insA w; let xi := insAux w
  let d := D di; let a := D ai; let x := D xi
  if op = 1 then
    errs [needT start di d [1] true anyFmt, needT start ai a [1, 2] false anyFmt, needNone (insB w),
      needK start xi x 6, cvgCheck w false di d, immRest w [],
      onSet [d, a] [((tLay d).count != (tLay a).count, fAt fSHAPE ai)], applyCheck start D w]
  else if op = 2 then
    let la := tLay a
    errs [needNone di, needT start ai a [1, 2] false anyFmt, needNone (insB w), needK start xi x 6,
      cvgZero w, immRest w [], (if x = 0 then none else normDesc start D xi (dB x 22 1)),
      onSet [a, x] [(dB x 16 1 == 8 && dFmt a != .fp32, fAt fFORMAT ai),
        (dB x 16 1 == 8 && (!la.dense || la.n0 != 4 || decide (4096 < la.n1) || la.n2 != 1 || la.n3 != 1), fAt fSHAPE ai)]]
  else if op = 3 then
    errs [needT start di d [1] true (fun f => f == .bf16 || f == .bq8 || f == .bq4),
      needT start ai a [1] false anyFmt, needNone (insB w), needNone xi, (if insTensor w then some fIMM else none),
      cvgCheck w false di d, immRest w [],
      onSet [d, a] [((tLay d).count != (tLay a).count, fAt fSHAPE ai)]]
  else some fOP

/-- Checks of an MX or MV operation (R204, R116, R133, R131).  That dimensions 2 and 3 of a weight chunk have size 1 is the
model's reading of its shape, and so is SHAPE_INVALID for a chunk of more than 64 KiB, which no ring can hold whole (DESIGN
CHOICE, log 93: R133 names dimensions 0 and 1 only and no code for such a chunk). -/
def mxCheck (start : Bool) (D : Nat → Nat) (w : Nat) : Option Nat :=
  let op := insOp w
  let di := insDst w; let ai := insA w; let bi := insB w; let xi := insAux w
  let d := D di; let a := D ai; let b := D bi
  if insEng w = 5 then
    if op = 1 then errs [firstErr [(field w 141 3 != 0, fRSVD)], cvgZero w, mmulCheck start D w]
    else if op = 2 then
      errs [needT start di d [2] true anyFmt,
        needT start ai a [2] false (fun f => f == .fp32 || f == .int32), needNone bi, needNone xi,
        cvgCheck w false di d, immRest w [],
        onSet [d, a] [((tLay d).count != (tLay a).count, fAt fSHAPE di),
          (anyOverlap [(tLay d).extent, (tLay a).extent] || anyOverlap [(tLay d).scaleExtent, (tLay a).extent],
            fAt fOVERLAP di)]]
    else some fOP
  else if op = 1 then
    let int := insAccInt w
    errs [firstErr [(field w 141 3 != 0, fRSVD)], cvgZero w,
      needT start di d [1] true (fun f => if int then f == .int32 else f == .fp32),
      needT start ai a [1] false (fun f => widthClass f != 0),
      needT start bi b [3] false (fun f => widthClass f != 0), needNone xi, immRest w [(138, 138), (140, 140)],
      onSet [a] [(int && (dFmt a).isBq, fAt fFORMAT ai), ((tLay a).runs == 0 || decide (8 < (tLay a).runs), fAt fSHAPE ai)],
      onSet [b] [(int && (dFmt b).isBq, fAt fFORMAT bi)],
      onSet [a, b] [(widthClass (dFmt a) != widthClass (dFmt b), fAt fFORMAT bi),
        ((tLay a).n0 != (tLay b).n0, fAt fSHAPE bi)],
      onSet [b] [((tLay b).n0 * widthClass (dFmt b) % 512 != 0, fAt fSHAPE bi), ((tLay b).n2 != 1 || (tLay b).n3 != 1, fAt fSHAPE bi),
        (decide (65536 < (tLay b).ringBytes), fAt fSHAPE bi)],
      onSet [b, d] [((tLay d).n0 != (tLay b).n1, fAt fSHAPE di)],
      onSet [a, d] [((tLay d).runs != (tLay a).runs, fAt fSHAPE di)]]
  else if op = 2 then
    errs [needT start di d [1] true (fun f => f == .int8), needNone ai, needNone bi, needNone xi, cvgZero w,
      immRest w [],
      onSet [d] [((tLay d).n0 != 65536 || (tLay d).runs != 1, fAt fSHAPE di), (dBase d % 65536 != 0, fAt fALIGN di)]]
  else some fOP

/-- The operation draws under the condition of its table (R199 to R207). -/
def insDraws (w : Nat) : Bool :=
  let e := insEng w; let op := insOp w
  let sr := decide (insRnd w = 2)
  if e = 0 then op == 1 && sr
  else if e = 1 then sr
  else if e = 2 then if op = 4 then sr && imm w 175 168 != 0 else sr
  else if e = 3 then sr
  else if e = 5 then op == 2 && sr
  else if e = 7 then sr || op == 0x11 || op == 0x12
  else if e = 8 then op != 2 && sr
  else false

/-- Wait and signal fields (R79, R92, R90, R185). -/
def waitSigCheck (w : Nat) : Option Nat :=
  let a := insWaitA w; let b := insWaitB w
  firstErr [
    (a.mode == 3 || b.mode == 3, fWAIT),
    (a.mode == 0 && (a.ctr.val != 0 || a.val != 0), fWAIT),
    (b.mode == 0 && (b.ctr.val != 0 || b.val != 0), fWAIT),
    (a.mode != 0 && b.mode != 0 && a.ctr == b.ctr, fWAIT),
    (insSigEn w && insSigInc w == 0, fSIGNAL),
    (!insSigEn w && ((insSigCtr w).val != 0 || insSigInc w != 0), fSIGNAL)]

/-- R182 to R207: the checks of one instruction, with the descriptor index that R209 reports. -/
def insCheck (start : Bool) (D : Nat → Nat) (w : Nat) : Option Nat :=
  let e := insEng w; let op := insOp w
  errs [
    firstErr [(decide (10 ≤ e) && decide (e ≤ 14), fENG), (field w 254 2 != 0, fRSVD)],
    waitSigCheck w,
    (if e = 15 then
      errs [
        firstErr [(op == 0 || decide (3 < op), fOP), (field w 12 4 != 0 || insPhase w != 0, fFLAG),
          (field w 96 32 != 0, fAt fDESC (([insDst w, insA w, insB w, insAux w].find? (fun i => i != 0)).getD 0))],
        (if op = 2 then firstErr [(field w 163 85 != 0, fRSVD)] else firstErr [(field w 128 120 != 0, fRSVD)])]
    else
      errs [
        firstErr [(!insPhaseMark w && insPhase w != 0, fFLAG), (insOrdered w && e != 3, fFLAG),
          (insOlog w && !insDraws w, fFLAG)],
        (if e ≤ 1 then ldstCheck start D w else if e = 2 then gxCheck start D w
          else if e ≤ 4 then xCheck start D w else if e ≤ 6 then mxCheck start D w
          else if e = 7 then vxCheck start D w else if e = 8 then upCheck start D w
          else rkCheck start D w)])]

end Sys2Proof.Machine
end

