-- ==== Sys2Proof/Machine/Load.lean ====
section
/-! DEFINITION.  The checks of a program image at load (R180, R187, R209, R210) and the wait check
(R212, R213). -/

namespace Sys2Proof.Machine

/-- The load report of R209: fault code (0 for a pass), slot, descriptor index, partly checked (R213). -/
structure LoadRep where
  code : Nat
  slot : Nat
  desc : Nat
  partly : Bool
  deriving DecidableEq, Repr

/-- A load that passed. -/
def LoadRep.ok (p : Bool) : LoadRep := ⟨0, 0, 0, p⟩

/-- A program image taken apart (R180). -/
structure Image where
  insnCount : Nat
  startIndex : Nat
  descFirst : Nat
  descCount : Nat
  extMask : Nat
  insns : List Nat
  descs : List Nat
  deriving DecidableEq, Repr

/-- Reads the fields of an image. -/
def Image.ofBytes (bs : List Byte) : Image :=
  let n := natAt bs 8 2
  let k := natAt bs 13 1
  ⟨n, natAt bs 10 2, natAt bs 12 1, k, natAt bs 16 8,
    (List.range n).map (fun i => natAt bs (64 + 32 * i) 32),
    (List.range k).map (fun j => natAt bs (64 + 32 * n + 64 * j) 64)⟩

/-- Descriptor `i` of an image (0 where it has none). -/
def Image.desc (im : Image) (i : Nat) : Nat :=
  if im.descFirst ≤ i ∧ i < im.descFirst + im.descCount then im.descs.getD (i - im.descFirst) 0 else 0

/-- R180: the header. -/
def headerCheck (bs : List Byte) : Option Nat :=
  let n := natAt bs 8 2
  let k := natAt bs 13 1
  let f := natAt bs 12 1
  firstErr [
    (natAt bs 0 4 != 0x31505444 || natAt bs 4 2 != 1, fIMAGE),
    (n == 0 || decide (2048 < n), fIMAGE), (decide (n ≤ natAt bs 10 2), fIMAGE),
    (if k = 0 then f != 0 else f == 0 || decide (256 < f + k), fIMAGE),
    (bs.length != 64 + 32 * n + 64 * k, fIMAGE),
    (natAt bs 6 2 != 0 || natAt bs 14 2 != 0 || !allZero (bytesAt bs 24 40), fRSVD)]

/-- The descriptors that an instruction names. -/
def namedDescs (w : Nat) : List Nat :=
  [insDst w, insA w, insB w, insAux w] ++
    (if insEng w = 2 ∧ insOp w = 4 then [imm w 167 160, imm w 175 168, imm w 183 176] else [])

/-- Lowest slot whose instruction names descriptor `i`; 0 where none does. -/
def lowestNaming (i : Nat) : Nat → List Nat → Nat
  | _, [] => 0
  | s, w :: t => if (namedDescs w).contains i && insEng w != 15 then s else lowestNaming i (s + 1) t

/-- LOOP fields. -/
def loopCount (w : Nat) : Nat := imm w 151 128
/-- END of a LOOP. -/
def loopEnd (w : Nat) : Nat := imm w 162 152
/-- The instruction is a LOOP. -/
def isLoop (w : Nat) : Bool := insEng w == 15 && insOp w == 2
/-- The instruction is a HALT. -/
def isHalt (w : Nat) : Bool := insEng w == 15 && insOp w == 3

/-- The LOOPs of a program: slot and END. -/
def loopsOf (ws : List Nat) : List (Nat × Nat) :=
  (ws.zipIdx.filter (fun p => isLoop p.1)).map (fun p => (p.2, loopEnd p.1))

/-- The slot lies in the body of a LOOP. -/
def inBody (s : Nat) (l : Nat × Nat) : Bool := decide (l.1 < s) && decide (s ≤ l.2)

/-- R187, R209: the slot reported for a broken loop structure, or none. -/
def loopCheck (im : Image) : Option Nat :=
  let ls := loopsOf im.insns
  let bad := im.insns.zipIdx.find? (fun (w, s) =>
    let outer := ls.filter (inBody s)
    if isLoop w then
      let e := loopEnd w
      decide (e ≤ s) || decide (im.insnCount ≤ e) || outer.any (fun l => decide (l.2 < e)) ||
        decide (4 ≤ outer.length)
    else isHalt w && !outer.isEmpty)
  match bad with
  | some (_, s) => some s
  | none =>
    match (ls.filter (inBody im.startIndex)).getLast? with
    | some l => some l.1
    | none => none

/-- A HALT lies at or above START_INDEX outside every loop body (R210). -/
def haltOk (im : Image) : Bool :=
  let ls := loopsOf im.insns
  im.insns.zipIdx.any (fun (w, s) => isHalt w && decide (im.startIndex ≤ s) && !ls.any (inBody s))

/-- R187: where fetching goes on after slot `i`, and the loops still open. -/
def advance : List (Nat × Nat × Nat) → Nat → Nat × List (Nat × Nat × Nat)
  | [], i => (i + 1, [])
  | (s, e, k) :: t, i =>
    if e = i then (if 1 < k then (s + 1, (s, e, k - 1) :: t) else advance t i)
    else (i + 1, (s, e, k) :: t)

/-- State of the model of R212. -/
structure WModel where
  ctr : List Nat
  queues : List (List (Nat × Nat))
  pc : Nat
  loops : List (Nat × Nat × Nat)
  halted : Bool
  starts : Nat
  deriving DecidableEq, Repr

/-- A wait holds in the model. -/
def WModel.waits (ext : Nat) (m : WModel) (w : Nat) : Bool :=
  let one := fun (f : WaitF) => f.mode == 0 || bit ext f.ctr.val || decide (f.val ≤ m.ctr.getD f.ctr.val 0)
  one (insWaitA w) && one (insWaitB w)

/-- Subtractions of mode 10, then the signal. -/
def WModel.fire (ext : Nat) (m : WModel) (w : Nat) : WModel :=
  let sub := fun (c : List Nat) (f : WaitF) =>
    if f.mode = 2 ∧ !bit ext f.ctr.val then lmod c f.ctr.val (fun v => v - f.val) else c
  let c := sub (sub m.ctr (insWaitA w)) (insWaitB w)
  let c := if insSigEn w then lmod c (insSigCtr w).val (fun v => min 0xFFFFFF (v + insSigInc w)) else c
  { m with ctr := c, starts := m.starts + 1 }

/-- One action of the sequencer, or none where it cannot act. -/
def WModel.seq (ws : List Nat) (ext : Nat) (m : WModel) : Option WModel :=
  if m.halted then none
  else
    let w := ws.getD m.pc 0
    if ws.length ≤ m.pc then none
    else if insEng w = 15 then
      if m.waits ext w then
        let m' := m.fire ext w
        if insOp w = 3 then some { m' with halted := true }
        else if insOp w = 2 then
          if loopCount w = 0 then
            let (pc, ls) := advance m.loops (loopEnd w)
            some { m' with pc := pc, loops := ls }
          else some { m' with pc := m.pc + 1, loops := (m.pc, loopEnd w, loopCount w) :: m.loops }
        else
          let (pc, ls) := advance m.loops m.pc
          some { m' with pc := pc, loops := ls }
      else none
    else
      let q := m.queues.getD (insEng w) []
      if q.length < 32 then
        let (pc, ls) := advance m.loops m.pc
        some { m with queues := lmod m.queues (insEng w) (fun q => q ++ [(m.pc, w)]), pc := pc, loops := ls }
      else none

/-- One engine's turn. -/
def WModel.eng (ext : Nat) (p : WModel × Bool) (e : Nat) : WModel × Bool :=
  match p.1.queues.getD e [] with
  | [] => p
  | (_, w) :: t =>
    if p.1.waits ext w then ({ p.1.fire ext w with queues := lmod p.1.queues e (fun _ => t) }, true) else p

/-- Runs the model: a pass, the slot of a failure, or, where a start beyond the bound of R213 is still to come, accepted as
partly checked. -/
def WModel.run (ws : List Nat) (ext : Nat) : Nat → WModel → LoadRep
  | 0, _ => LoadRep.ok true
  | k + 1, m =>
    if 1048576 < m.starts then LoadRep.ok true
    else match m.seq ws ext with
    | some m' => WModel.run ws ext k m'
    | none =>
      let (m', ch) := (List.range 10).foldl (WModel.eng ext) (m, false)
      if ch then WModel.run ws ext k m'
      else if m'.halted && m'.queues.all List.isEmpty then LoadRep.ok false
      else
        let heads := m'.queues.filterMap (fun q => q.head?.map Prod.fst)
        let all := if m'.halted then heads else m'.pc :: heads
        ⟨fUNSAT, all.foldl min (all.headD 0), 0, false⟩

/-- R212, R213: the wait check. -/
def waitCheck (im : Image) : LoadRep :=
  WModel.run im.insns im.extMask 4200000
    ⟨List.replicate 64 0, List.replicate 10 [], im.startIndex, [], false, 0⟩

/-- R209: steps 2 to 5 of the check of an image. -/
def imageCheck (im : Image) : LoadRep :=
  match im.descs.zipIdx.findSome? (fun (d, j) => (descCheck d).map (fun c => (c, im.descFirst + j))) with
  | some (c, i) => ⟨c, lowestNaming i 0 im.insns, i, false⟩
  | none =>
    match im.insns.zipIdx.findSome? (fun (w, s) => (insCheck false im.desc w).map (fun e => (e, s))) with
    | some (e, s) => ⟨errCode e, s, errDesc e, false⟩
    | none =>
      match loopCheck im with
      | some s => ⟨fLOOP, s, 0, false⟩
      | none => if haltOk im then waitCheck im else ⟨fNOHALT, im.insnCount - 1, 0, false⟩

/-- R209: the whole check of an image, first failure in the order of the rule. -/
def loadCheck (bs : List Byte) : LoadRep :=
  match headerCheck bs with
  | some c => ⟨c, 0, 0, false⟩
  | none => imageCheck (Image.ofBytes bs)

end Sys2Proof.Machine
end

