-- ==== Sys2Proof/Config.lean ====
section
/-! DEFINITION.  What one device is made with (fuses, fused tables, keys) and the FREE VALUES of the
model: constants without a body, of which no proof can see a value. -/

namespace Sys2Proof.Config

/-- The n-th free value: stands wherever the manual leaves a value open although the machine goes on.
DESIGN CHOICE, log 7, safe. -/
opaque freeValue : Nat → Nat

/-- The n-th free byte (contents that R215 and R406 leave undefined).  DESIGN CHOICE, log 7, safe. -/
opaque freeByte : Nat → Byte

/-- R2: the device is of grade T9-84.  Fuse, log 9. -/
opaque isT984 : Bool

/-- R2, R3: the slot fused off in each parcel of a T9-84.  Fuse, log 9. -/
opaque fusedSlot : Nat → Fin 8

/-- R144, R460: identifier of the special-function tables.  Fused table identity, log 9. -/
opaque sfuId : Word

/-- R400: where a member of a fingerprint group holds a block of the shard, in 4 KiB units: its entry of the peer table, the
block.  The spec gives the others no way to know it.  Free value, DESIGN CHOICE, log 104, safe. -/
opaque fpLoserBlock : Nat → Nat → BitVec 36

/-- R573: the fused security version number at manufacture.  Fuse, log 9. -/
opaque fusedSvn : BitVec 8

/-- R542, R553: the device serial number.  Fuse, log 9. -/
opaque serial : BitVec 64

/-- R543: the UUID of an MCTP endpoint (0 MA_E, 1 MA_W, 2 control plane).  Log 9. -/
opaque endpointUuid : Nat → BitVec 128

/-- R482: the fused trim of a rail in millivolts.  Fuse, log 9. -/
opaque railTrim : Nat → Int

/-- R486: energy of one issued slot of MX (engine 5) or MV (engine 6) in nanojoules, by P-step, width
class and packing mode.  Fused coefficients, log 9. -/
opaque slotEnergy : Nat → Nat → Nat → Nat → Nat

/-- R492: predicted package power in watts at a P-step from the demanded activity that the primary
agent read; the leakage model and energy coefficients are fused.  Log 9. -/
opaque leakFactor : Nat → Rat

/-- R498: greatest MX and MV power of one core at a P-step in watts.  Log 9. -/
opaque capPower : Nat → Rat

/-- R530: power in watts that a warming parcel with `n` enabled, unretired cores can draw; 5.0 W from seven
cores on.  Log 9. -/
opaque parcelHeat : Nat → Rat

/-- SHA-384 (FIPS 180-4).  The manual names the standard; the model keeps it opaque, log 8. -/
opaque sha384 : List Byte → BitVec 384

/-- HMAC-SHA-384 of a key and a message, log 8. -/
opaque hmac384 : BitVec 384 → List Byte → BitVec 384

/-- ECDSA P-384 verification of a digest and a 96-byte signature under key number `k`
(0 firmware signing, 1 pack signing, 2 debug), log 8. -/
opaque ecdsaVerify : Nat → BitVec 384 → List Byte → Bool

/-- ECDSA P-384 verification of a digest and a 96-byte signature under a given public key, log 8. -/
opaque ecdsaVerifyBy : BitVec 768 → BitVec 384 → List Byte → Bool

/-- ECDSA P-384 signature (r then s) of a digest under a private key, log 8. -/
opaque ecdsaSign : BitVec 384 → BitVec 384 → BitVec 768

/-- Public key of a P-384 private key, X then Y, log 8. -/
opaque p384Public : BitVec 384 → BitVec 768

/-- ECDH shared secret of a private key and a peer's public key, log 8. -/
opaque ecdh : BitVec 384 → BitVec 768 → BitVec 384

/-- AES-256 key unwrap (SP 800-38F); none where the integrity check fails, log 8. -/
opaque aesUnwrap : BitVec 256 → List Byte → Option (List Byte)

/-- AES-256-GCM opening of an uplink frame: key and salt, SEC field, additional data, body with tag;
none where the tag fails, log 8. -/
opaque gcmOpen : List Byte → List Byte → List Byte → List Byte → Option (List Byte)

/-- AES-256-GCM sealing of an uplink frame: ciphertext with tag, log 8. -/
opaque gcmSeal : List Byte → List Byte → List Byte → List Byte → List Byte

/-- The n-th 512-bit output of the security block's DRBG, log 8. -/
opaque drbg : Nat → BitVec 512

/-- The unique device secret (R552), fused, log 8. -/
opaque uds : BitVec 384

/-- DER bytes of a certificate that the device issues: kind, subject, public key, notBefore, log 8. -/
opaque certDer : Nat → Nat → BitVec 768 → Nat → List Byte

/-- Certificates at manufacture: the chain of a responder (0 security block, 1 MA_E, 2 MA_W), log 8. -/
opaque certChain : Nat → List Byte

/-- Fused private keys of the agents AK_E, AK_W (R552), log 8. -/
opaque agentKey : Nat → BitVec 384

/-- Digest of a fixed measured item: 0 boot ROM, 1 agent ROM (R547), log 8. -/
opaque romDigest : Nat → BitVec 384

/-- Version, digests and SVN of the firmware placed in flash at manufacture, log 9. -/
opaque factoryVersion : Word

opaque factoryDigest : Nat → BitVec 384

/-- Version of the base pack of the firmware release (R423), log 9. -/
opaque basePackVersion : Word

/-- Lowest version that may be activated after the base pack (R435), log 9. -/
opaque basePackMin : Word

/-- Image of the base pack's kernel with an ID (R423, R435), log 9. -/
opaque baseImage : Nat → List Byte

/-- Origins of VX-bank and of edge-bank draws of a kernel of the base pack (R158, R435), log 9. -/
opaque baseOrigins : Nat → DWord × DWord

/-- Result range of a kernel of the base pack, first and number of 32-byte units (R435), log 9. -/
opaque baseResult : Nat → Nat × Nat

/-- Known answer of a kernel of the base pack (R435), log 9. -/
opaque baseAnswer : Nat → DWord

/-- SHA-384 of the base pack, log 9. -/
opaque basePackDigest : BitVec 384

/-- R248: AES-256-XTS of one 32-byte sector under the 512-bit key and the tweak of the sector: the standard is named, not
given, so that nothing is known of it but that it can be undone.  Log 10. -/
opaque xts : List Byte → Nat → Equiv.Perm (BitVec 256)

/-- R305: the 14-bit flow hash of a message, of which the manual gives only the inputs: SRC_DEV, SRC_CORE,
DST_DEV, DST_CORE, VC and (0 for ORDERED messages) MSG_ID.  Log 28. -/
opaque flowHash : Nat → Nat → Nat → Nat → Nat → Nat → BitVec 14

/-- R288: flits that one unit of weight of the deficit round robin stands for; the manual gives the weights only.  Log 99. -/
opaque drrQuantum : Nat

/-- R302, R304: a field of an uplink frame to which the manual gives no value: 0 VLAN identifier and DEI, 1 IPv4
identification, 2 the don't-fragment bit, 3 TTL or hop limit, 4 flow label and the low traffic-class bits.  Log 98. -/
opaque frameField : Nat → Nat

/-- R304: the DSCP of a virtual channel, of which the manual says only that it is the VC's.  Log 98. -/
opaque dscp : BitVec 2 → BitVec 6

/-- R307: bytes of one priority in an uplink's receive buffer beyond which XOFF is sent; the manual
gives no number.  Log 29. -/
opaque pfcThreshold : Nat

/-- R546: the board description as the board is made.  Log 9. -/
opaque boardDescription : List Byte

/-- R546, R570: what a board description whose CRC-32 is right holds: version, HU_C, HU_VNOM, HU_VMIN, HU_RATIO
and HU_EFF in the units of R570; none where the CRC is wrong.  The manual gives no layout.  Log 16. -/
opaque boardParse : List Byte → Option (BitVec 8 × BitVec 16 × BitVec 8 × BitVec 8 × BitVec 16 × BitVec 7)

/-- R549: field `k` of a firmware image: 0 STEPPING, 1 SVN, 2 VERSION, 3 SEC digest, 4 CTRL digest.  The
manual gives no layout.  Log 16. -/
opaque imageField : List Byte → Nat → Nat

/-- R549: the signature of a firmware image verifies under the fused key.  Log 16. -/
opaque imageSigned : List Byte → Bool

/-- R433: the core that a soft-fuse clear request names, where its signature verifies.  Log 16. -/
opaque clearRequest : List Byte → Option (Fin 96)

/-- PLDM platform descriptor records, as bytes, by record handle (R544 gives no encoding), log 14. -/
opaque pdrBytes : Nat → List Byte

end Sys2Proof.Config
end

