-- ==== Sys2Proof/Machine/StateClosure.lean ====
section
/-! DEFINITION.  The state of step closure (12), of the update context (13) and of a partition. -/

namespace Sys2Proof.Machine

open Sys2Proof

/-- A suspect check (R356 to R358): the suspect, its buddy, 0 waiting, 1 running, 2 passed, 3 failed. -/
structure Suspect where
  core : Nat
  buddy : Option Nat
  status : Nat
  deriving DecidableEq, Repr

/-- A step slot (R344, R365, R376) with what firmware knows of its step. -/
structure Slot where
  stepId : Word
  state : BitVec 4
  replays : BitVec 4
  halted : Bool
  recordWait : Bool
  causes : BitVec 16
  /-- replays of every kind (ATTEMPTS, R369) -/
  attempts : Nat
  evalReq : Bool
  /-- step cores on which the step is released, that have signalled DONE for it (R350, R351) -/
  released : List Nat
  done : List Nat
  /-- numeric health, poison and fault have been read (R354) -/
  checked : Bool
  digest : Option DWord
  suspects : List Suspect
  /-- VERDICT bits of the own entry (R359), and whether it has been sent -/
  verdict : BitVec 8
  sent : Bool
  /-- 0 none; 1 verdict reached, the gate is to open; 2 gate open, UPD_DONE awaited; 3 the record is to
  be written; 4 closed, EVAL_DONE awaited (R353) -/
  pos : Nat
  abandoned : Bool
  /-- 0 none; 1 cores stopping, before REPLAY where one is to retire; 2 the barrier awaited; 3 held for PROG_LOAD;
  4 no barrier context is set up yet (R266, R267, R364) -/
  replayPos : Nat
  /-- a poisoned block is being refreshed from a replica before the replay (R259) -/
  curing : Bool
  /-- place of the step's REDUCED event among those of the device, 0 none (R355); its time, and that of the own entry
  (R358, R363) -/
  turn : Nat
  reducedAt : DWord
  sentAt : DWord
  /-- GEN of the barrier context when its replay arrived (R266) -/
  barGen : BitVec 16
  setDigest : DWord
  mNext : BitVec 12
  /-- the step has entered REPLAY (R341) -/
  replayed : Bool
  noiseSkipped : Bool
  bn : DWord
  evalRan : Bool
  /-- cores whose log half of the step's parity had OLOG_OVF set when they left it (R358, R360) -/
  ovfs : List Nat
  /-- entries that a core left in the log half of the step's parity, once rewound: core, entries (R370) -/
  logs : List (Nat × Nat)
  /-- cores that leave step work once the partition has stopped, and whether they retire (R267, R431) -/
  leaving : List (Nat × Bool)
  /-- step cores that still await a program before the replay goes on (R267) -/
  toLoad : List Nat
  /-- halted by PEER_TIMEOUT (R367) -/
  peerWait : Bool
  /-- noise totals of the closure set: SUMSQ, SQSUM, COUNT; whether they are invalid (R338, R362) -/
  sumsq : Nat
  sqsum : Nat
  ranks : Nat
  noiseBad : Bool
  deriving DecidableEq, Repr

/-- R376: an empty slot. -/
def Slot.reset : Slot :=
  { stepId := 0, state := 0, replays := 0, halted := false, recordWait := false, causes := 0, attempts := 0,
    evalReq := false, released := [], done := [], checked := false, digest := none, suspects := [],
    verdict := 0, sent := false, pos := 0, abandoned := false, replayPos := 0, curing := false, turn := 0, reducedAt := 0, sentAt := 0, barGen := 0,
    setDigest := 0, mNext := 0, replayed := false, noiseSkipped := false, bn := 0, evalRan := false,
    ovfs := [], logs := [], leaving := [], toLoad := [], peerWait := false, sumsq := 0, sqsum := 0,
    ranks := 0, noiseBad := false }

/-- A retention entry (R377). -/
structure RetEnt where
  valid : Bool
  addr : BitVec 32
  units : Word
  refused : Word
  deriving DecidableEq, Repr

/-- R377: reset values. -/
def RetEnt.reset : RetEnt := ⟨false, 0, 0, 0⟩

/-- A record held in the record ring (R369): step, offset, length. -/
structure StepRec where
  step : Word
  off : Nat
  len : Nat
  deriving DecidableEq, Repr

/-- The update context (R408) and the fingerprint pass (R397 to R402). -/
structure Upd where
  period : BitVec 16
  member : BitVec 3
  role : BitVec 2
  members : BitVec 4
  list : BitVec 48
  count : BitVec 9
  area : BitVec 48
  peers : BitVec 48
  state : BitVec 2
  revert : Bool
  timeout : Bool
  round : BitVec 8
  step : Word
  refreshed : Word
  passes : Word
  nonfinite : Word
  poisonSkip : Word
  /-- the commit of the running pass -/
  commit : Word
  /-- a pass is due under R390 -/
  due : Bool
  /-- the running pass serves a replay (R259) -/
  cure : Bool
  /-- when the own root entry was sent (R402) -/
  sentAt : DWord
  /-- differing groups of the pass not yet resolved (R399) -/
  groups : List Nat
  /-- blocks that this member awaits, with the winning leaf and the times asked (R400) -/
  blocks : List (Nat × DWord × Nat)
  /-- a block has been refreshed on some member (R400) -/
  anyRefresh : Bool
  /-- the closure entry of the next step is to carry SUSPECT (R400) -/
  taint : Bool
  deriving DecidableEq, Repr

/-- R408: reset values. -/
def Upd.reset : Upd :=
  { period := 0x40, member := 0, role := 0, members := 1, list := 0, count := 0, area := 0, peers := 0,
    state := 0, revert := false, timeout := false, round := 0, step := 0, refreshed := 0, passes := 0,
    nonfinite := 0, poisonSkip := 0, commit := 0, due := false, cure := false, sentAt := 0, groups := [], blocks := [],
    anyRefresh := false, taint := false }

/-- The closure context of a partition (R346 to R353, R376, R377). -/
structure Closure where
  slots : Vector Slot 2
  /-- CL_GATE: 0 CLOSED, 1 OPEN, 2 SKIP -/
  gate : BitVec 2
  gateTag : Word
  prev : Word
  commits : BitVec 16
  replays : BitVec 16
  ret : Vector RetEnt 16
  /-- the 128-byte step policy block in force (R372) -/
  policy : Option (List Byte)
  /-- the step ID that STEP_OPEN must carry next (R346) -/
  nextStep : Word
  /-- no step has been opened since STEP_POLICY_SET (R346, R351) -/
  first : Bool
  /-- step cores that have signalled UPD_DONE since the gate opened, EVAL_DONE since EVAL_GO -/
  updDone : List Nat
  evalDone : List Nat
  /-- EVAL_DONE awaited for: 0 nothing, 1 a base commit, 2 a commit, 3 a replay (R351, R353, R364) -/
  evalWait : Nat
  recOff : Nat
  recs : List StepRec
  /-- exports that hold the gate (R403) -/
  exports : Nat
  /-- a gated UP instruction has faulted while the gate was OPEN, and firmware has not acted on it (R345) -/
  upFault : Bool
  deriving DecidableEq, Repr

/-- R376, R377: reset values. -/
def Closure.reset : Closure :=
  { slots := Vector.replicate 2 .reset, gate := 0, gateTag := 0, prev := 0, commits := 0, replays := 0,
    ret := Vector.replicate 16 .reset, policy := none, nextStep := 0, first := false, updDone := [], evalDone := [],
    evalWait := 0, recOff := 0, recs := [], exports := 0, upFault := false }

end Sys2Proof.Machine
end

