-- ==== Sys2Proof/Machine/Mem.lean ====
section
/-! DEFINITION.  The byte memory of the device, in one canonical form: cells at strictly rising
addresses, none of them zero, because a byte nothing has written reads as 0x00 (DESIGN CHOICE, log 4).
Beside it the poison marks of R256: the numbers of the poisoned 32-byte units, strictly rising. -/

namespace Sys2Proof.Machine

/-- Bytes by 48-bit address. -/
abbrev Mem := List Host.Cell

/-- What an address that is not listed reads as (log 4). -/
def Mem.blank : Byte := 0

/-- One byte. -/
def Mem.read (m : Mem) (a : Nat) : Byte :=
  match m with
  | [] => Mem.blank
  | (k, b) :: t => if k = a then b else Mem.read t a

/-- The listed cells of a byte string that begins at `a`: those that are not blank. -/
def Mem.cells (a : Nat) : List Byte → Mem
  | [] => []
  | b :: bs => if b = Mem.blank then Mem.cells (a + 1) bs else (a, b) :: Mem.cells (a + 1) bs

/-- Writes a byte string at `a`. -/
def Mem.write (m : Mem) (a : Nat) (bs : List Byte) : Mem :=
  m.filter (fun c => decide (c.1 < a)) ++ Mem.cells a bs ++
    m.filter (fun c => decide (a + bs.length ≤ c.1))

/-- Bytes from `a` of a list whose cells below `a` are already dropped. -/
def Mem.spell : Mem → Nat → Nat → List Byte
  | _, _, 0 => []
  | [], _, n + 1 => List.replicate (n + 1) Mem.blank
  | (k, b) :: t, a, n + 1 =>
    if k = a then b :: Mem.spell t (a + 1) n else Mem.blank :: Mem.spell ((k, b) :: t) (a + 1) n

/-- `n` bytes from address `a`. -/
def Mem.readN (m : Mem) (a n : Nat) : List Byte :=
  Mem.spell (m.filter (fun c => decide (a ≤ c.1 ∧ c.1 < a + n))) a n

/-- Little-endian number of `n` bytes at `a`. -/
def Mem.nat (m : Mem) (a n : Nat) : Nat := leNat (m.readN a n)

/-- Sets `n` bytes from `a` to the blank value: they are no longer listed. -/
def Mem.clear (m : Mem) (a n : Nat) : Mem :=
  m.filter (fun c => decide (c.1 < a)) ++ m.filter (fun c => decide (a + n ≤ c.1))

/-- The canonical form. -/
def Mem.wf : Mem → Bool
  | [] => true
  | [c] => decide (c.2 ≠ Mem.blank)
  | c :: d :: t => decide (c.2 ≠ Mem.blank) && decide (c.1 < d.1) && Mem.wf (d :: t)

/-- Poison marks: numbers of 32-byte units (address / 32), strictly rising. -/
abbrev Marks := List Nat

/-- The unit of address `a` is marked. -/
def Marks.at (p : Marks) (a : Nat) : Bool := p.contains (a / 32)

/-- Some unit of the range [a, a + n) is marked. -/
def Marks.meets (p : Marks) (a n : Nat) : Bool :=
  decide (0 < n) && List.any p (fun u => decide (a / 32 ≤ u ∧ u ≤ (a + n - 1) / 32))

/-- Marks every unit that [a, a + n) touches. -/
def Marks.set (p : Marks) (a n : Nat) : Marks :=
  if n = 0 then p else
    p.filter (fun u => decide (u < a / 32)) ++ upFrom (a / 32) ((a + n - 1) / 32 - a / 32 + 1) ++
      p.filter (fun u => decide ((a + n - 1) / 32 < u))

/-- Clears the mark of every unit that [a, a + n) covers whole (R226, R257). -/
def Marks.clearWhole (p : Marks) (a n : Nat) : Marks :=
  p.filter (fun u => !(decide (a ≤ 32 * u ∧ 32 * u + 32 ≤ a + n)))

/-- Clears the mark of every unit that [a, a + n) touches. -/
def Marks.clearAny (p : Marks) (a n : Nat) : Marks :=
  p.filter (fun u => !(overlap a n (32 * u) 32))

/-- Strictly rising. -/
def Marks.wf : Marks → Bool
  | [] => true
  | [_] => true
  | x :: y :: t => decide (x < y) && Marks.wf (y :: t)

end Sys2Proof.Machine
end

