-- ==== Sys2Proof/Machine/StateCore.lean ====
section
/-! DEFINITION.  The state of one core (03 to 07, 11, 13, 20): sequencer, engines, counters, matrix
array, vector registers, lane generators, activity counters, field book control. -/

namespace Sys2Proof.Machine

/-- A sync counter (R92 to R100).  `val` is its value at the start of the running CCLK cycle and
`prev` at the start of the cycle before; `inc` and `sub` are the sums of the running cycle (R93). -/
structure Ctr where
  val : BitVec 24
  prev : BitVec 24
  inc : Nat
  sub : Nat
  sat : Bool
  under : Bool
  poison : Bool
  lastEng : BitVec 4
  lastIdx : BitVec 16
  lastValid : Bool
  /-- the last signaller signalled in the running cycle -/
  lastNow : Bool
  deriving DecidableEq, Repr

/-- R100: every field 0. -/
def Ctr.reset : Ctr := ⟨0, 0, 0, 0, false, false, false, 0, 0, false, false⟩

/-- An entry of an engine queue (R77): slot and instruction word. -/
structure QEnt where
  slot : BitVec 11
  word : BitVec 256
  deriving DecidableEq, Repr

/-- A byte range of the local address map. -/
structure Range where
  addr : Nat
  len : Nat
  deriving DecidableEq, Repr

/-- What an XI instruction in flight waits for (R320, R326, R334, R336). -/
structure XiWait where
  /-- 1 EXPECT, 2 RED_EXPECT, 3 TOKEN_RECV, 4 COMBINE_RECV -/
  kind : Nat
  group : Nat
  /-- BYTES of an EXPECT, RANKS of a RED_EXPECT, senders of a TOKEN_RECV, bytes of a COMBINE_RECV -/
  need : Nat
  /-- the group is complete and its effect is done -/
  done : Bool
  deriving DecidableEq, Repr

/-- An instruction in flight (R87): started, not yet complete. -/
structure Flight where
  ent : QEnt
  /-- STEP_TAG latched at the start (R66) -/
  tag : Word
  /-- the descriptors read at the start (R80): index and 512-bit contents -/
  descs : List (Nat × BitVec 512)
  reads : List Range
  writes : List Range
  /-- ranges on this device that its messages target: undefined should it fault (R215) -/
  remote : List Range
  /-- messages that the router has not taken yet, for want of room in its retransmit store (R296) -/
  unsent : List Msg
  /-- a byte it wrote is poisoned (R96) -/
  pois : Bool
  xi : Option XiWait
  /-- bytes by which FILL or CONS of the MV ring advance at completion (R132, R133) -/
  ringFill : Nat
  ringCons : Nat
  /-- counted CCLK cycles of the core (AC_CYCLES) at its start -/
  start : DWord
  deriving DecidableEq, Repr

/-- One engine (R77, R82, R87, R101). -/
structure Eng where
  queue : List QEnt
  flight : List Flight
  hold : Bool
  stepOnce : Bool
  /-- stopped by a fault (R87) -/
  faulted : Bool
  /-- taken by the hidden kernel context: nothing more starts, and it holds the engine once nothing is in flight (R89) -/
  kernel : Bool
  /-- CCLK cycles until the engine accepts its next instruction (R82, item 1; R117, R135); 1 after a start, so that no
  engine starts two in one cycle (R94) -/
  accept : Nat
  deriving DecidableEq, Repr

/-- An idle engine. -/
def Eng.reset : Eng := ⟨[], [], false, false, false, false, 0⟩

/-- NUM_STATUS (R101). -/
structure NumStatus where
  ternCode : Bool
  nv : Bool
  dz : Bool
  ofl : Bool
  ufl : Bool
  nx : Bool
  poisonNosig : Bool
  deriving DecidableEq, Repr

/-- All clear. -/
def NumStatus.reset : NumStatus := ⟨false, false, false, false, false, false, false⟩

/-- FAULT (R101). -/
structure FaultReg where
  code : BitVec 8
  valid : Bool
  index : BitVec 11
  eng : BitVec 4
  deriving DecidableEq, Repr

/-- No fault recorded. -/
def FaultReg.reset : FaultReg := ⟨0, false, 0, 0⟩

/-- One column of a B tile as the array holds it: element values, scale bytes (0x7F for a plain
operand) and whether a byte of it was poisoned. -/
structure BCol where
  vals : List Int
  scales : List (BitVec 8)
  poison : Bool
  deriving DecidableEq, Repr

/-- The B tile of one slot with the identity that R115 compares. -/
structure BTile where
  desc : BitVec 8
  kBase : BitVec 16
  cols : List BCol
  deriving DecidableEq, Repr

/-- A tile of MX (R103, R115): PACK and the tiles of its slots. -/
structure MxTile where
  pack : BitVec 2
  slots : List (Option BTile)
  deriving DecidableEq, Repr

/-- The two registers of the array's elements (R103) and the times of R129: the active tile (none after a clear, R115),
the shadow tile with the CCLK cycles until its instruction's first A row enters and makes it active (R106), and of the
last MMUL its PACK and the cycles until its stream and its last write end. -/
structure MxArray where
  active : Option MxTile
  shadow : Option (MxTile × Nat)
  pack : BitVec 2
  streamLeft : Nat
  doneLeft : Nat
  deriving DecidableEq, Repr

/-- No tile, nothing streaming. -/
def MxArray.reset : MxArray := ⟨none, none, 0, 0, 0⟩

/-- The MV staging ring (R131): region and pointers, counted modulo 128 KiB (64 KiB with a wrap bit). -/
structure MvRing where
  region : Option (BitVec 22)
  fill : BitVec 17
  cons : BitVec 17
  deriving DecidableEq, Repr

/-- No region, pointers zero. -/
def MvRing.reset : MvRing := ⟨none, 0, 0⟩

/-- One lane-generator bank (R151, R152, R159). -/
structure Bank where
  s : DWord
  seedLo : Word
  hiLatch : Word
  /-- seed written and waiting for the next CCLK edge -/
  pend : Option DWord
  deriving DecidableEq, Repr

/-- R159: zero. -/
def Bank.reset : Bank := ⟨0, 0, 0, none⟩

/-- The lane-generator registers of a core (R155 to R159). -/
structure LaneGen where
  vx : Bank
  edge : Bank
  replay : Bool
  ologOvf : Bool
  ologBase : BitVec 48
  ologSize : BitVec 20
  ologWptr : BitVec 20
  ologDrops : BitVec 16
  rplBase : BitVec 48
  rplSize : BitVec 20
  rplPtr : Vector (BitVec 20) 10
  originLast : Vector DWord 10
  logSeq : Vector (BitVec 16) 10
  seqFull : Vector Bool 10
  /-- engines of the origin-log entries in flight, oldest first, at most 8 (R155) -/
  logFly : List Nat
  /-- engines whose next replay entry is not fetched yet (R157) -/
  rplStale : List Nat
  deriving DecidableEq, Repr

/-- R159: every register at its reset value. -/
def LaneGen.reset : LaneGen :=
  ⟨.reset, .reset, false, false, 0, 0, 0, 0, 0, 0, Vector.replicate 10 0, Vector.replicate 10 0,
    Vector.replicate 10 0, Vector.replicate 10 false, [], []⟩

/-- Activity counters (R575 to R578): eleven blocks of eleven counters. -/
structure ActCtrs where
  blocks : Vector (Vector DWord 11) 11
  cycles : DWord
  view : Vector (Vector DWord 11) 11
  viewCycles : DWord
  hiLatch : Word
  deriving DecidableEq, Repr

/-- Zero. -/
def ActCtrs.reset : ActCtrs :=
  ⟨Vector.replicate 11 (Vector.replicate 11 0), 0, Vector.replicate 11 (Vector.replicate 11 0), 0, 0⟩

/-- Field-book control and state of a core (R580 to R584). -/
structure FieldBook where
  enable : Bool
  policy : BitVec 2
  pre : BitVec 4
  state : BitVec 3
  wptr : BitVec 12
  dptr : BitVec 12
  lost : Vector Word 4
  overwritten : Word
  trigExtra : Word
  ringAddr : BitVec 48
  ringSize : BitVec 16
  trigTs : DWord
  /-- a trigger has fired since ENABLE (R582) -/
  triggered : Bool
  /-- records lost and not yet reported by a LOSS record, per priority (R583) -/
  lostNew : Vector Nat 4
  /-- records kept and not yet drained (under TRIGGER: those of the post-region) -/
  held : Nat
  /-- records held in the pre-region, and its next slot (R582) -/
  preHeld : Nat
  prePtr : Nat
  /-- timestamp bits [63:40] of the last SYNC record (R579) -/
  syncTop : BitVec 24
  /-- record bytes written to the ring since ENABLE: WPTR of the ring header (R581) -/
  ringPos : Nat
  /-- the partition (0 to 11) or PF0 (15) whose TRACE_CONFIG named the ring -/
  owner : BitVec 4
  deriving DecidableEq, Repr

/-- R584: reset values. -/
def FieldBook.reset : FieldBook :=
  { enable := false, policy := 0, pre := 0, state := 0, wptr := 0, dptr := 0, lost := Vector.replicate 4 0,
    overwritten := 0, trigExtra := 0, ringAddr := 0, ringSize := 0, trigTs := 0, triggered := false,
    lostNew := Vector.replicate 4 0, held := 0, preHeld := 0, prePtr := 0, syncTop := 0, ringPos := 0,
    owner := 0xF }

/-- A group tally (R319). -/
structure Tally where
  /-- 0 idle, 1 BYTES, 2 RANKS, 3 TOKENS -/
  kind : Nat
  parity : Bool
  poison : Bool
  posted : Bool
  ends : Nat
  count : Nat
  nextRank : Nat
  curBytes : Nat
  landed : Nat
  announced : Nat
  /-- the last landing of the current use, from which the gap timer runs (R323) -/
  since : Option DWord
  deriving DecidableEq, Repr

/-- Idle. -/
def Tally.idle : Tally := ⟨0, false, false, false, 0, 0, 0, 0, 0, 0, none⟩

/-- Gradient-noise totals of a group in units of 2^−64 (R337): squared norms of the contributions, of
the buffer at the rank now added and at the rank before; for each whether it saturated and whether a NaN was met (log 21). -/
structure Noise where
  sumsq : Nat
  sat : Bool
  nan : Bool
  cur : Nat
  curSat : Bool
  curNan : Bool
  last : Nat
  lastSat : Bool
  lastNan : Bool
  deriving DecidableEq, Repr

/-- Nothing summed. -/
def Noise.zero : Noise := ⟨0, false, false, 0, false, false, 0, false, false⟩

/-- One XO start, kept for re-sending decisions and refusals (R316): slot and first MSG_ID. -/
structure XoMark where
  slot : BitVec 11
  firstMsg : Word
  deriving DecidableEq, Repr

/-- One core. -/
structure Core where
  ctr : Vector Ctr 64
  hidden : Vector (BitVec 24) 8
  stopped : Bool
  faulted : Bool
  /-- firmware has read the record of its fault (R24, R361) -/
  told : Bool
  retired : Bool
  startIndex : BitVec 11
  /-- STOP written, STOPPED not yet set (R88) -/
  stopping : Bool
  /-- the sequencer fetches -/
  fetching : Bool
  /-- HALT executed, program completion not yet reported (R188) -/
  halted : Bool
  fetchIndex : BitVec 12
  /-- the sequencer has dispatched or executed an instruction in the running CCLK cycle (R76) -/
  seqDone : Bool
  blockCause : BitVec 2
  blockEng : BitVec 4
  /-- open LOOPs, innermost first (R187): slot, END, iterations left -/
  loops : List (Nat × Nat × Nat)
  stepTag : Word
  /-- STEP_TAG writes not yet in force: value and CCLK cycles left (R102) -/
  tagPend : List (Word × Nat)
  num : NumStatus
  phaseId : BitVec 6
  phaseValid : Bool
  /-- engine that set PHASE in the running CCLK cycle (R208) -/
  phaseEng : Option (Fin 10)
  fault : FaultReg
  /-- fault stored by a failed load (R209): code and reported slot -/
  loadFault : Option (BitVec 8 × BitVec 11)
  eng : Vector Eng 10
  mx : MxArray
  mv : MvRing
  v : Vector (Vector Word 64) 32
  /-- poison of each lane of each vector register (R257) -/
  vPois : Vector (BitVec 64) 32
  lg : LaneGen
  ac : ActCtrs
  fb : FieldBook
  /-- MSG_ID of the core's next message (R283) -/
  msgId : Word
  /-- the last 64 XO starts (R316) -/
  xoHist : List XoMark
  /-- tallies that are not idle, by group (R319) -/
  tallies : List (Nat × Tally)
  /-- noise totals by group (R337) -/
  noise : List (Nat × Noise)
  /-- UPD_DONE has been signalled since the gate opened (R352) -/
  updDone : Bool
  /-- signals to DONE, UPD_DONE, EVAL_DONE whose records firmware has read and not yet acted on: role, STEP_TAG (R24, R350) -/
  sigs : List (Nat × Word)
  /-- EXT_MASK of the image last loaded (R180, R588) -/
  extMask : BitVec 64
  /-- watchdog (R588): already reported since the last progress -/
  wdogFired : Bool
  /-- timestamp of the last progress -/
  wdogMark : DWord
  deriving DecidableEq, Repr

/-- R101, R159, R584: a core after reset. -/
def Core.reset : Core :=
  { ctr := Vector.replicate 64 .reset, hidden := Vector.replicate 8 0, stopped := true, faulted := false, told := false,
    retired := false, startIndex := 0, stopping := false, fetching := false, halted := false,
    fetchIndex := 0, seqDone := false, blockCause := 0, blockEng := 0, loops := [], stepTag := 0, tagPend := [],
    num := .reset, phaseId := 0, phaseValid := false, phaseEng := none, fault := .reset, loadFault := none,
    eng := Vector.replicate 10 .reset, mx := .reset, mv := .reset,
    v := Vector.replicate 32 (Vector.replicate 64 0),
    vPois := Vector.replicate 32 0, lg := .reset, ac := .reset, fb := .reset,
    msgId := 0, xoHist := [], tallies := [], noise := [], updDone := false, sigs := [], extMask := 0, wdogFired := false, wdogMark := 0 }

end Sys2Proof.Machine
end

