-- ==== Sys2Proof/Machine/StateFabric.lean ====
section
/-! DEFINITION.  The state of the fabric (10) and of the exchange (11): ports, router, route tables,
transport stores, barriers, uplinks, exchange contexts. -/

namespace Sys2Proof.Machine

open Sys2Proof

/-- What codewords carry: a message, a link control flit, idle flits. -/
inductive TxBody where
  | message (m : Msg)
  | control (flit : List Byte)
  | idle
  deriving DecidableEq, Repr

/-- A codeword in a replay buffer (R278): its count, what it and the codewords sent with it carry, and its place among them. -/
structure TxEnt where
  count : BitVec 6
  part : Nat
  body : TxBody
  deriving DecidableEq, Repr

/-- A handshake agreed and not yet switched (R277, R280, R281): code, HS_AT, lanes reported, whether this side asked,
and the codewords still to pass before HS_AT, sent ones for its own and received ones for the partner's. -/
structure Hs where
  code : BitVec 8
  at_ : BitVec 6
  lanes : BitVec 4
  mine : Bool
  left : Nat
  deriving DecidableEq, Repr

/-- What the next link control flit has to report (R277): an acknowledgement, a NAK, handshakes, flits freed. -/
structure CtlDue where
  ack : Bool
  nak : Option (BitVec 6)
  hs : List (BitVec 8 × BitVec 6)
  credits : Vector Nat 12
  deriving DecidableEq, Repr

/-- Nothing. -/
def CtlDue.none : CtlDue := ⟨false, Option.none, [], Vector.replicate 12 0⟩

/-- A router port (R273 to R282, R312).  Uplinks use the fields that the manual gives them. -/
structure Port where
  state : BitVec 2
  miswired : Bool
  strong : Bool
  lanes : BitVec 2
  peerId : BitVec 16
  fec : BitVec 2
  enable : Bool
  retrySwitch : BitVec 8
  cwCorr : Word
  cwBad : Word
  retries : Word
  degrades : BitVec 8
  retrains : BitVec 8
  downs : BitVec 8
  pauses : BitVec 8
  /-- trained; the ID exchange is still to come (R273) -/
  trained : Bool
  /-- next codeword count to send, modulo 64 (R278) -/
  txCount : BitVec 6
  replay : List TxEnt
  /-- count of the next codeword expected -/
  rxCount : BitVec 6
  /-- a bad codeword was met: everything is discarded until the resend (R275) -/
  discarding : Bool
  /-- repeated NAKs that name one codeword: its count, how many, and whether a retrain came before (R279) -/
  nakSeq : BitVec 6
  nakRun : Nat
  afterRetrain : Bool
  retraining : Bool
  failedRetrains : Nat
  /-- times of the retries of the last millisecond (R281) -/
  retryTimes : List DWord
  /-- handshakes agreed and not yet switched, in order (R277, R280, R311) -/
  hs : List Hs
  /-- FEC handshakes of this side that the partner's DEGRADE has put off until it is done (R311) -/
  later : List (BitVec 8)
  /-- what waits for a link control flit, and the codewords sent since the last one (R277) -/
  due : CtlDue
  sinceCtl : Nat
  /-- the message whose flits are being received: its flits so far and the data flits still due (R276) -/
  rxHead : List Byte
  rxLeft : Nat
  /-- the deficit round robin of RSP, COLL and REQ (R288): whose turn it is, the flits each may still send -/
  drrTurn : Fin 3
  drrDeficit : Vector Nat 3
  /-- lanes that failed and retrain in the background -/
  laneDown : BitVec 4
  /-- the partner has reported a device ID since training (R273) -/
  peerKnown : Bool
  /-- credits of the downstream buffer, twelve VC and class counts (R277, R287) -/
  credits : Vector Nat 12
  /-- priorities that a received PFC frame has paused (uplinks, R307) -/
  paused : BitVec 8
  /-- priorities for which XOFF is sent (uplinks, R307) -/
  xoff : BitVec 8
  deriving DecidableEq, Repr

/-- R287: the input buffer of a torus port, in flits: REQ, COLL, RSP and CTRL, each adaptive, escape 0,
escape 1.  Reset credits are the partner's whole buffer (DEDUCED, log 11). -/
def bufferTable : Vector Nat 12 := #v[62, 17, 17, 46, 17, 17, 16, 8, 8, 0, 24, 24]

/-- R312: reset values. -/
def Port.reset : Port :=
  { state := 0, miswired := false, strong := false, lanes := 0, peerId := 0, fec := 2, enable := true,
    retrySwitch := 0x40, cwCorr := 0, cwBad := 0, retries := 0, degrades := 0, retrains := 0, downs := 0,
    pauses := 0, trained := false, txCount := 0, replay := [], rxCount := 0, discarding := false,
    nakSeq := 0, nakRun := 0, afterRetrain := false, retraining := false, failedRetrains := 0,
    retryTimes := [], hs := [], later := [], due := .none, sinceCtl := 0, rxHead := [], rxLeft := 0, drrTurn := 0,
    drrDeficit := Vector.replicate 3 0, laneDown := 0, peerKnown := false, credits := bufferTable,
    paused := 0, xoff := 0 }

/-- An entry of the in-tract route table (R292). -/
structure RouteEnt where
  override : Bool
  order : BitVec 3
  dirs : BitVec 3
  deriving DecidableEq, Repr

/-- An entry of the tract route table (R306). -/
structure TractEnt where
  valid : Bool
  exitDev : BitVec 16
  exitUp : Bool
  entryDev : BitVec 16
  entryUp : Bool
  deriving DecidableEq, Repr

/-- No override. -/
def RouteEnt.reset : RouteEnt := ⟨false, 0, 0⟩
/-- No entry. -/
def TractEnt.reset : TractEnt := ⟨false, 0, false, 0, false⟩

/-- A message waiting at the router (R288 to R293): the port it came in by (8 for this device itself; 16 + n for
its own that leaves by torus port n),
the class of that port's input buffer that it occupies (0 adaptive, 1 and 2 the escape classes), and
since when its route has been blocked; the entries of the route tables in force when its header arrived (R292, R306);
and whether it has still to land here, which waits during a memory-step change (R311). -/
structure Waiting where
  port : Nat
  cls : Nat
  msg : Msg
  blocked : Option DWord
  ent : RouteEnt
  tract : TractEnt
  land : Bool
  deriving DecidableEq, Repr

/-- A copy in the retransmit store (R296, R298). -/
structure RtxEnt where
  msg : Msg
  sends : Nat
  since : DWord
  deriving DecidableEq, Repr

/-- A duplicate window (R322). -/
structure DupWin where
  dev : BitVec 16
  core : BitVec 7
  highest : Word
  marks : List Nat
  since : DWord
  deriving DecidableEq, Repr

/-- Key of a sequence (R262): the other device, sending core, receiving core, virtual channel. -/
structure SeqKey where
  dev : BitVec 16
  src : BitVec 7
  dst : BitVec 7
  vc : BitVec 2
  deriving DecidableEq, Repr

/-- A barrier context (R308, R309). -/
structure Barrier where
  used : Bool
  job : BitVec 16
  /-- 0 to 5 a torus port, 6 or 7 an uplink, 15 none: the global root -/
  parent : BitVec 4
  parentDev : BitVec 16
  childMask : BitVec 6
  childTracts : BitVec 7
  gen : BitVec 16
  arrived : Bool
  fromPorts : BitVec 6
  fromTracts : Nat
  rootDevs : List (BitVec 16)
  /-- 0 running, 1 GEN_MISMATCH, 2 TIMEOUT -/
  failed : Nat
  since : DWord
  deriving DecidableEq, Repr

/-- Unassigned. -/
def Barrier.reset : Barrier := ⟨false, 0, 0xF, 0, 0, 0, 0, false, 0, 0, [], 0, 0⟩

/-- Uplink addressing and encapsulation (R303 to R307). -/
structure UplinkCfg where
  prefix24 : BitVec 24
  ipv4 : Word
  ipv6 : DWord
  udp : Bool
  useV6 : Bool
  udpPort : BitVec 16
  mtu9000 : Bool
  /-- the PFC priority of REQ, COLL, RSP and CTRL (R307) -/
  pfc : Vector (BitVec 3) 4
  deriving DecidableEq, Repr

/-- R304, R307 defaults; the addresses zero (DESIGN CHOICE, log 3). -/
def UplinkCfg.reset : UplinkCfg :=
  ⟨0, 0, 0, false, false, 0xC7A5, false, #v[3, 4, 5, 6]⟩

/-- What the device has sent on a port (log 12): codewords of a torus port with the count of the first, which carry a
message, a link control flit (R277) or idle flits; the bytes of an uplink frame (R304); a PFC frame (R307). -/
inductive Sent where
  | word (port : Nat) (w : TxEnt)
  | frame (uplink : Nat) (bytes : List Byte)
  | pfc (uplink : Nat) (priority : BitVec 3) (xoff : Bool)
  deriving DecidableEq, Repr

/-- The fabric. -/
structure Fabric where
  devId : BitVec 16
  idValid : Bool
  lenX : BitVec 4
  lenY : BitVec 4
  lenZ : BitVec 4
  ports : Vector Port 8
  routeS : Vector RouteEnt 512
  routeA : Vector RouteEnt 512
  tractS : Vector TractEnt 128
  tractA : Vector TractEnt 128
  routeDue : Option DWord
  waiting : List Waiting
  rtx : List RtxEnt
  /-- the reorder store (R262), with the time each message was first held -/
  held : List (Msg × DWord)
  /-- sequence numbers that are passed over when their turn comes (log 22) -/
  seqSkip : List (SeqKey × BitVec 16)
  nextSeq : List (SeqKey × BitVec 16)
  sendSeq : List (SeqKey × BitVec 16)
  dups : List DupWin
  bars : Vector Barrier 16
  /-- GAP_TIMEOUT, RESEND_TIMEOUT, NO_ROUTE_HOLD, BAR_TIMEOUT in microseconds, RESEND_LIMIT -/
  gapUs : Nat
  resendUs : Nat
  holdUs : Nat
  barUs : Nat
  resendLimit : Nat
  uplink : UplinkCfg
  lateDrop : Word
  resends : Word
  undeliv : Word
  refused : Word
  outbox : List Sent
  /-- MSG_ID of the control processor complex's next message (R283, R359) -/
  fwMsgId : Word
  /-- its messages that wait for room in the retransmit store (R296), with the port of each -/
  fwWait : List (Nat × Msg)
  deriving DecidableEq, Repr

/-- R312 and the defaults of R263, R293, R298, R309. -/
def Fabric.reset : Fabric :=
  { devId := 0, idValid := false, lenX := 0, lenY := 0, lenZ := 0, ports := Vector.replicate 8 .reset,
    routeS := Vector.replicate 512 .reset, routeA := Vector.replicate 512 .reset,
    tractS := Vector.replicate 128 .reset, tractA := Vector.replicate 128 .reset, routeDue := none,
    waiting := [], rtx := [], held := [], seqSkip := [], nextSeq := [], sendSeq := [], dups := [],
    bars := Vector.replicate 16 .reset, gapUs := 1000, resendUs := 40, holdUs := 50, barUs := 100000,
    resendLimit := 7, uplink := .reset, lateDrop := 0, resends := 0, undeliv := 0, refused := 0,
    outbox := [], fwMsgId := 0, fwWait := [] }

/-- A staged reduction chunk (R327): its slot of the staging and what it is. -/
structure Chunk where
  slot : Nat
  srcDev : BitVec 16
  srcCore : BitVec 7
  msgId : Word
  core : Nat
  group : Nat
  parity : Bool
  rank : Nat
  addr : Nat
  total : Nat
  bytes : Nat
  deriving DecidableEq, Repr

/-- The exchange context of a partition (R342). -/
structure Xc where
  attempt0 : BitVec 4
  attempt1 : BitVec 4
  slots : BitVec 13
  stageBase : BitVec 48
  mode : BitVec 2
  sums : Bool
  active : Bool
  warmup : BitVec 16
  noiseB : Word
  replicas : BitVec 16
  hold : BitVec 16
  beta : Word
  mbMin : BitVec 12
  mbMax : BitVec 12
  cur : BitVec 12
  steerSlot : BitVec 11
  slotValid : Bool
  dupDrop : Word
  staleDrop : Word
  mixedDrop : Word
  rankDrop : Word
  stageRefuse : Word
  gapClose : Word
  dispDrops : Word
  dispSpills : Word
  staged : List Chunk
  /-- gradient-noise averages G2e and Se, binary64 (R338) -/
  g2e : DWord
  se : DWord
  /-- committed steps since the last change of M_CUR, and counted for WARMUP (R339, R341) -/
  sinceChange : Nat
  warmed : Nat
  /-- a decided M_NEXT, to be applied at the commit after (R340) -/
  mNext : Option (BitVec 12)
  deriving DecidableEq, Repr

/-- R342: reset values. -/
def Xc.reset : Xc :=
  { attempt0 := 0, attempt1 := 0, slots := 0, stageBase := 0, mode := 0, sums := false, active := false,
    warmup := 0x64, noiseB := 0, replicas := 1, hold := 0x10, beta := 0x3F733333, mbMin := 1, mbMax := 1,
    cur := 1, steerSlot := 0, slotValid := false, dupDrop := 0, staleDrop := 0, mixedDrop := 0,
    rankDrop := 0, stageRefuse := 0, gapClose := 0, dispDrops := 0, dispSpills := 0, staged := [],
    g2e := 0, se := 0, sinceChange := 0, warmed := 0, mNext := none }

end Sys2Proof.Machine
end

