-- ==== Sys2Proof/Machine/StateKci.lean ====
section
/-! DEFINITION.  The state of the command interface (16): functions, ring pairs, commands without FINAL,
transactions, deeds. -/

namespace Sys2Proof.Machine

open Sys2Proof

/-- A fetched command (R448, R449): its function and ring, handle, its 64 bytes, the host bytes that its
DPTR named when it started (log 6), a chain count or place that its waiting needs, and its progress. -/
structure Cmd where
  fn : Fin 13
  /-- none once the function's rings are gone: its completions are discarded (R456) -/
  ring : Option (Fin 32)
  handle : Word
  raw : List Byte
  host : List Byte
  due : DWord
  aux : Nat
  /-- the ring's submission head after its fetch (R450) -/
  head : Nat := 0
  deriving DecidableEq, Repr

/-- A ring pair (R447, R449, R450). -/
structure Ring where
  sqLog2 : Nat
  cqLog2 : Nat
  vector : Nat
  sqAddr : DWord
  cqAddr : DWord
  tail : Nat
  head : Nat
  cqTail : Nat
  cqHead : Nat
  phase : Bool
  /-- SEQ of the next command fetched -/
  seq : Nat
  /-- fetched and not yet started -/
  fetched : List Cmd
  deriving DecidableEq, Repr

/-- A posting that waits for room (R453): ring, completion without PHASE, an event. -/
structure Post where
  ring : Fin 32
  bytes : List Byte
  event : Bool
  deriving DecidableEq, Repr

/-- A function (R446, R473). -/
structure Func where
  ready : Bool
  enable : Bool
  asq : DWord
  acq : DWord
  sqLog2 : BitVec 4
  cqLog2 : BitVec 4
  vector : BitVec 5
  bar2 : BitVec 48
  eventsLost : Bool
  /-- an EVENT_LOST event is owed (R453) -/
  lostOwed : Bool
  rings : Vector (Option Ring) 32
  held : List Post
  /-- MSI-X mask and pending bits (R445, R450) -/
  msixMask : Word
  msixPend : Word
  /-- MSI-X table: message addresses and data (R443, R445) -/
  msixAddr : Vector DWord 32
  msixData : Vector Word 32
  tolUs : Word
  allowW4 : Bool
  deriving DecidableEq, Repr

/-- R446 reset values; vectors masked (PRESUMED from PCIe, log 32). -/
def Func.reset : Func :=
  { ready := false, enable := false, asq := 0, acq := 0, sqLog2 := 6, cqLog2 := 6, vector := 0, bar2 := 0,
    eventsLost := false, lostOwed := false, rings := Vector.replicate 32 none, held := [],
    msixMask := 0xFFFFFFFF, msixPend := 0, msixAddr := Vector.replicate 32 0,
    msixData := Vector.replicate 32 0, tolUs := 0, allowW4 := false }

/-- A deed resource (R472). -/
structure Deed where
  holder : BitVec 2
  agree : BitVec 3
  lastBy : BitVec 2
  epoch : Word
  chain : DWord
  deriving DecidableEq, Repr

/-- R472: reset values. -/
def Deed.reset : Deed := ⟨0, 7, 0, 0, 0⟩

/-- The request port of a plane at the deed register file (R472). -/
structure DeedPort where
  epoch : Word
  outcome : BitVec 2
  pending : Bool
  deriving DecidableEq, Repr

/-- No request. -/
def DeedPort.reset : DeedPort := ⟨0, 0, false⟩

end Sys2Proof.Machine
end

