-- ==== Sys2Proof/Machine/StateMem.lean ====
section
/-! DEFINITION.  The state of the memory system (08): the plat, the partition map, the six stack
controllers, and of the telemetry ring (20 R585 to R587). -/

namespace Sys2Proof.Machine

/-- One plat entry (R242). -/
structure PlatEnt where
  valid : Bool
  stack : BitVec 3
  baseG : BitVec 14
  sizeG : BitVec 14
  part : BitVec 4
  rd : Bool
  wr : Bool
  hostRd : Bool
  hostWr : Bool
  fabRd : Bool
  fabWr : Bool
  enc : Bool
  keySlot : BitVec 5
  tag : Word
  deriving DecidableEq, Repr

/-- R242: every field 0. -/
def PlatEnt.reset : PlatEnt := ⟨false, 0, 0, 0, 0, false, false, false, false, false, false, false, 0, 0⟩

/-- One register of the partition map (R247). -/
structure PmapEnt where
  part : BitVec 4
  valid : Bool
  deriving DecidableEq, Repr

/-- R247: 0. -/
def PmapEnt.reset : PmapEnt := ⟨0, false⟩

/-- A row of a pseudo-channel. -/
structure RowId where
  pc : Nat
  row : Nat
  deriving DecidableEq, Repr

/-- One stack controller (R221 to R251). -/
structure Stack where
  temp : BitVec 8
  throttle : BitVec 2
  mstep : Bool
  spared : Bool
  sparePc : BitVec 5
  sparing : Bool
  degraded : Bool
  tempStale : Bool
  critical : Bool
  th1 : BitVec 8
  eccCe : Word
  eccUe : Word
  eccOde : Word
  scrubH : BitVec 8
  scrubEn : Bool
  passes : BitVec 16
  ceThresh : BitVec 4
  rprSoft : BitVec 10
  rprHard : BitVec 10
  rprUnrep : BitVec 10
  wmark : BitVec 21
  /-- corrected errors of the last 24 hours by row, with their times (R228) -/
  rowCe : List (RowId × DWord)
  /-- rows with an uncorrectable error whose retry failed, with the time (R228, R230) -/
  rowUe : List (RowId × DWord)
  /-- rows counted as unrepairable (R229) -/
  unrepRows : List RowId
  /-- the row under repair (R228) -/
  repairing : Option RowId
  /-- rows waiting for repair -/
  repairWait : List RowId
  /-- since when the temperature has been 3 K below the threshold of the throttle step (R239) -/
  coolSince : Option DWord
  deriving DecidableEq, Repr

/-- R251: reset values. -/
def Stack.reset : Stack :=
  { temp := 0, throttle := 0, mstep := false, spared := false, sparePc := 0, sparing := false,
    degraded := false, tempStale := false, critical := false, th1 := 0x55, eccCe := 0, eccUe := 0,
    eccOde := 0, scrubH := 0x18, scrubEn := true, passes := 0, ceThresh := 4, rprSoft := 0,
    rprHard := 0, rprUnrep := 0, wmark := 0, rowCe := [], rowUe := [], unrepRows := [],
    repairing := none, repairWait := [], coolSince := none }

/-- A requester of R245: its kind and which one it is. -/
structure Requester where
  kind : Nat
  id : Nat
  deriving DecidableEq, Repr

/-- A request that waits in a stack's queue (R221, R228): its source, address, bytes of a write, length of a read, the
errors that its sectors meet, and the keys of its sectors when it entered the front end (R246, R248; empty where it has not
waited). -/
structure StackReq where
  src : Source
  a : BitVec 48
  write : Option (List Byte)
  n : Nat
  errs : List (BitVec 48 × Nat × EccErr)
  keys : List (Option (List Byte)) := []
  deriving DecidableEq, Repr

/-- Bytes that a request covers. -/
def StackReq.len (r : StackReq) : Nat := match r.write with | some bs => bs.length | none => r.n

/-- The memory system. -/
structure MemSys where
  stk : Vector Stack 6
  platS : Vector PlatEnt 1024
  platA : Vector PlatEnt 1024
  /-- the staged plat waits for a chain count (R246) -/
  platDue : Option DWord
  pmapS : Vector PmapEnt 12
  pmapA : Vector PmapEnt 12
  /-- the staged partition map waits for a chain count (R247) -/
  pmapDue : Option DWord
  /-- a memory-step change in progress and its target (R221); stacks serve nothing meanwhile -/
  mstepTo : Option Bool
  /-- last record time and violations since, by requester (R245) -/
  limiter : List (Requester × (DWord × Nat))
  /-- soft repairs recorded in flash (R229): stack, row -/
  softRepairs : List (Nat × RowId)
  /-- requests that wait for a memory-step change or for a bank under repair, oldest first (R221, R228) -/
  waiting : List StackReq
  /-- 32-byte units of SRAM, by address / 32, that hold an uncorrectable error that nothing has read yet (R256) -/
  sramBad : List Nat
  deriving DecidableEq, Repr

/-- R242, R247, R251: reset values. -/
def MemSys.reset : MemSys :=
  { stk := Vector.replicate 6 .reset, platS := Vector.replicate 1024 .reset,
    platA := Vector.replicate 1024 .reset, platDue := none, pmapS := Vector.replicate 12 .reset,
    pmapA := Vector.replicate 12 .reset, pmapDue := none, mstepTo := none, limiter := [],
    softRepairs := [], waiting := [], sramBad := [] }

/-- An event record on its way to the telemetry ring (R586). -/
structure Rec where
  ts : DWord
  code : BitVec 16
  part : BitVec 4
  core : BitVec 7
  lostBefore : Bool
  body : List Byte
  deriving DecidableEq, Repr

/-- The telemetry ring (R585, R587). -/
structure Telemetry where
  nextSeq : Word
  lost : Word
  queue : List Rec
  lostBefore : Bool
  deriving DecidableEq, Repr

/-- Empty ring. -/
def Telemetry.reset : Telemetry := ⟨0, 0, [], false⟩

end Sys2Proof.Machine
end

