-- ==== Sys2Proof/Machine/StatePower.lean ====
section
/-! DEFINITION.  The state of the power controller (17), of the clock block and of the thermal block (18).
Powers are exact rationals in watts, currents in amperes, voltage requests in millivolts. -/

namespace Sys2Proof.Machine

open Sys2Proof

/-- One copy of the limits block (R509). -/
structure Limits where
  plSust : BitVec 9
  plShort : BitVec 9
  edc : BitVec 10
  tdc : BitVec 10
  tjReg : BitVec 7
  th1 : BitVec 7
  ease : BitVec 7
  droopMv : BitVec 6
  deriving DecidableEq, Repr

/-- R509: reset values. -/
def Limits.reset : Limits := ⟨0x15E, 0x1A4, 0x2F8, 0x1A4, 0x5F, 0x55, 0x04, 0x23⟩

/-- A limit of R491: TRIPPED, since when the limited quantity has stayed above it, when it tripped. -/
structure Trip where
  tripped : Bool
  above : Option DWord
  mark : DWord
  deriving DecidableEq, Repr

/-- ARMED. -/
def Trip.reset : Trip := ⟨false, none, 0⟩

/-- Calibration of a rail (R487, R488). -/
structure Cal where
  gain : Rat
  off : Rat
  /-- the most recent pairs, at most 64: estimate and measurement averaged over a millisecond -/
  pairs : List (Rat × Rat)
  /-- pairs fitted since the last loss -/
  fresh : Nat
  /-- last PMBus reading (R483): mV, A, W -/
  volt : Rat
  amp : Rat
  watt : Rat
  readAt : DWord
  /-- the last reading has not been paired yet (R487, R488) -/
  new : Bool
  /-- since when the rail is under telemetry loss (R481, R488) -/
  lossAt : Option DWord
  /-- a Voltage write of the rail has failed twice (R481) -/
  avsFailed : Bool
  /-- the 1 µs estimates since the last calibration: their sum and number (R487) -/
  sum : Rat
  count : Nat
  deriving DecidableEq, Repr

/-- R510: gain 1, offset 0. -/
def Cal.reset : Cal :=
  { gain := 1, off := 0, pairs := [], fresh := 0, volt := 0, amp := 0, watt := 0, readAt := 0, new := false, lossAt := none,
    avsFailed := false, sum := 0, count := 0 }

/-- A P-step change in progress (R521, R522): 0 raising the request, 1 armed. -/
structure StepMove where
  old : BitVec 4
  target : BitVec 4
  phase : Nat
  began : DWord
  deriving DecidableEq, Repr

/-- A visit of a core to a phase (R497): phase (64: none), since when, demanded energy so far in W × µs. -/
structure Visit where
  phase : Nat
  since : DWord
  energy : Rat
  deriving DecidableEq, Repr

/-- The power controller. -/
structure Power where
  limS : Limits
  limA : Limits
  /-- the committed copy that waits for its chain count (R509) -/
  limDue : Option (Limits × DWord)
  limOutcome : BitVec 2
  limEpoch : Word
  /-- STOP of LIM_FLUSH (R571) -/
  flushStop : Bool
  pstep : BitVec 4
  target : BitVec 4
  wstate : BitVec 3
  limiter : BitVec 4
  /-- a skip request of the EDC loop stands, and for how many µs its estimate has been low (R493) -/
  skipEdc : Bool
  skipLow : Nat
  calValid : Bool
  /-- calibrations in W0 without a break (R487) -/
  calRun : Nat
  fallback : Bool
  hostPl : BitVec 9
  hostTh1 : BitVec 7
  ceil : BitVec 4
  floor : BitVec 4
  mstepPol : BitVec 2
  /-- policy that management set while it holds CLOCK_STEPS (R501): CEIL, FLOOR, MSTEP -/
  mgmtPol : Option (BitVec 4 × BitVec 4 × BitVec 2)
  est : Rat
  vlogI : Rat
  ewmaShort : Rat
  ewmaSust : Rat
  tdcI : Rat
  t : Option Rat
  g : Rat
  tjActive : Bool
  aTj : Rat
  /-- since when Tj_max has been at or below TJ_REG − 5 K (R494) -/
  tjQuiet : Option DWord
  short : Trip
  sust : Trip
  tdc : Trip
  skipEdges : Word
  /-- edges are suppressed until then (R485) -/
  skipUntil : DWord
  droopTrips : Word
  easeLoans : Word
  stepChanges : Word
  cals : Vector Cal 10
  masks : Vector (BitVec 16) 8
  maskDue : Vector (Option (BitVec 16 × DWord)) 8
  /-- VLOG request and accumulated correction in mV (R482) -/
  vReq : Int
  corr : Int
  /-- AVSBus rails whose last Voltage write has been retried (R481): bus × 16 + select -/
  avsRetried : List Nat
  /-- AVSBus Voltage writes sent: bus × 16 + select, mV, oldest first (R481, log 12) -/
  avsSent : List (Nat × Int)
  move : Option StepMove
  lastDecision : DWord
  share : Vector Rat 96
  bucket : Vector Rat 96
  lender : Vector Bool 96
  demand : List ((Nat × Nat) × Rat)
  visits : Vector Visit 96
  lastMstep : DWord
  /-- chain count for the memory-step change (R221) -/
  mstepDue : Option (Bool × DWord)
  /-- a W-state exit in progress (R506) -/
  exiting : Bool
  /-- P-step in force before W3 (R506) -/
  stepBefore : BitVec 4
  /-- torus ports that W3 has moved to lanes 0 and 1 (R505) -/
  twoLane : BitVec 6
  /-- a management agent has held POWER_LIMITS, and CONTROL has not held it since (R26) -/
  hostOff : Bool
  deriving DecidableEq, Repr

/-- R480: every point of each pair's rail. -/
def allPoints : Vector (BitVec 16) 8 := #v[0xFFFF, 0x0FFF, 0x000F, 0x000F, 0x003F, 0x003F, 0x003F, 0x003F]

/-- R509, R510: reset values; what the manual leaves open is zero (log 3); the VLOG request is the boot voltage
(R597). -/
def Power.reset : Power :=
  { limS := .reset, limA := .reset, limDue := none, limOutcome := 0, limEpoch := 0, flushStop := false,
    pstep := 0, target := 0, wstate := 0, limiter := 0, skipEdc := false, skipLow := 0, calValid := false, calRun := 0,
    fallback := false, hostPl := 0x15E, hostTh1 := 0x55, ceil := 0, floor := 8, mstepPol := 2,
    mgmtPol := none, est := 0, vlogI := 0, ewmaShort := 0, ewmaSust := 0, tdcI := 0, t := none, g := 0,
    tjActive := false, aTj := 0, tjQuiet := none, short := .reset, sust := .reset, tdc := .reset,
    skipEdges := 0, skipUntil := 0, droopTrips := 0, easeLoans := 0, stepChanges := 0, cals := Vector.replicate 10 .reset,
    masks := allPoints, maskDue := Vector.replicate 8 none, vReq := 560, corr := 0, avsRetried := [], avsSent := [],
    move := none, lastDecision := 0, share := Vector.replicate 96 0, bucket := Vector.replicate 96 0,
    lender := Vector.replicate 96 false, demand := [], visits := Vector.replicate 96 ⟨64, 0, 0⟩,
    lastMstep := 0, mstepDue := none, exiting := false, stepBefore := 0, twoLane := 0, hostOff := false }

/-- A clock monitor (R516, R517, R534). -/
structure Mon where
  dutyPct : BitVec 7
  corr : BitVec 5
  shortAlarm : Bool
  dutyAlarm : Bool
  deriving DecidableEq, Repr

/-- R534: reset values. -/
def Mon.reset : Mon := ⟨0x32, 0, false, false⟩

/-- The clock block (R512 to R524, R534). -/
structure Clk where
  locked : Bool
  gated : Bool
  relocking : Bool
  refOk : Bool
  failed : Bool
  cur : BitVec 4
  armed : BitVec 4
  armValid : Bool
  armCount : DWord
  armHi : Word
  tsHi : Word
  chainHi : Word
  jitter : BitVec 8
  duty : BitVec 8
  relocks : BitVec 8
  aborts : BitVec 8
  mons : Vector Mon 12
  /-- failed frequency checks of the running relock (R520) -/
  tries : Nat
  /-- the frequency check has passed (R518 step 6) -/
  checked : Bool
  deriving DecidableEq, Repr

/-- R534: reset values. -/
def Clk.reset : Clk :=
  { locked := false, gated := true, relocking := false, refOk := false, failed := false, cur := 0, armed := 0,
    armValid := false, armCount := 0, armHi := 0, tsHi := 0, chainHi := 0, jitter := 0, duty := 0,
    relocks := 0, aborts := 0, mons := Vector.replicate 12 .reset, tries := 0, checked := false }

/-- A thermal sensor (R525, R526, R535). -/
structure Sensor where
  temp : BitVec 11
  failed : Bool
  deriving DecidableEq, Repr

/-- R535: 0. -/
def Sensor.reset : Sensor := ⟨0, false⟩

/-- The thermal block (R525 to R531, R535). -/
structure Therm where
  thWarn : BitVec 7
  kwEn : Bool
  kwFloor : BitVec 7
  kwDrop : BitVec 6
  kwPower : BitVec 8
  kwRate : BitVec 4
  warn : Bool
  tripped : Bool
  kwActive : Bool
  kwLimited : Bool
  tripSensor : BitVec 7
  tripValid : Bool
  sens : Vector Sensor 112
  /-- TJ_MEAN readings of the last 60 s spent in W0, newest first, in K (R529) -/
  means : List Rat
  kwRef : Rat
  floorEff : Rat
  heat : Rat
  deriving DecidableEq, Repr

/-- R535: reset values. -/
def Therm.reset : Therm :=
  { thWarn := 0x69, kwEn := true, kwFloor := 0x32, kwDrop := 0x14, kwPower := 0x3C, kwRate := 5, warn := false,
    tripped := false, kwActive := false, kwLimited := false, tripSensor := 0, tripValid := false,
    sens := Vector.replicate 112 .reset, means := [], kwRef := 0, floorEff := 0, heat := 0 }

end Sys2Proof.Machine
end

