-- ==== Sys2Proof/Machine/StateSec.lean ====
section
/-! DEFINITION.  The state of the security block and of the flash (19 R548 to R573), of the management
agents and their endpoints (R537 to R547, R565 to R571), of the reset block and the pins (21, 22). -/

namespace Sys2Proof.Machine

open Sys2Proof

/-- A key slot (R554 to R557, R573): key bytes, none where the key has been zeroised. -/
structure KeySlot where
  used : Bool
  /-- KTYPE of R555: 1 XTS, 2 GCM_UPLINK -/
  ktype : BitVec 3
  owner : BitVec 4
  job : BitVec 16
  key : List Byte
  deriving DecidableEq, Repr

/-- Free. -/
def KeySlot.reset : KeySlot := ⟨false, 0, 0, 0, []⟩

/-- A receive window of R557: source device, slot, highest counter, counters met below it. -/
structure RxWin where
  dev : BitVec 16
  slot : Nat
  highest : Nat
  marks : List Nat
  deriving DecidableEq, Repr

/-- A firmware image in a flash bank, or as verified in the staging buffer (R549). -/
structure FwImage where
  valid : Bool
  version : Word
  svn : BitVec 8
  secDigest : BitVec 384
  ctrlDigest : BitVec 384
  deriving DecidableEq, Repr

/-- No image. -/
def FwImage.none : FwImage := ⟨false, 0, 0, 0, 0⟩

/-- The image at manufacture (log 9). -/
def FwImage.factory : FwImage :=
  ⟨true, Config.factoryVersion, Config.fusedSvn, Config.factoryDigest 2, Config.factoryDigest 3⟩

/-- A page of the last-gasp log (R566): area, sequence number, index, first timestamp, contents. -/
structure GaspPage where
  area : Nat
  seq : Nat
  index : Nat
  first : DWord
  bytes : List Byte
  deriving DecidableEq, Repr

/-- The firmware staging buffer (R572). -/
structure Staging where
  component : BitVec 8
  packSlot : BitVec 2
  epoch : Word
  len : Vector (BitVec 18) 2
  full : Vector Bool 2
  state : BitVec 3
  reason : BitVec 8
  version : Word
  /-- bytes that the security block has consumed -/
  image : List Byte
  /-- the verified firmware image -/
  verified : FwImage
  deriving DecidableEq, Repr

/-- R572: reset values. -/
def Staging.reset : Staging :=
  { component := 0, packSlot := 0, epoch := 0, len := Vector.replicate 2 0, full := Vector.replicate 2 false,
    state := 0, reason := 0, version := 0, image := [], verified := .none }

/-- A live activation (R550, R551): when it began, when the new code accepted, the image it replaced. -/
structure Activation where
  began : DWord
  accepted : Option DWord
  old : FwImage
  deriving DecidableEq, Repr

/-- The security block. -/
structure Sec where
  slots : Vector KeySlot 32
  /-- frame counters by sending uplink and slot (R557) -/
  txFrames : List ((Nat × Nat) × Nat)
  rxWins : List RxWin
  selftestOk : Bool
  error : Bool
  nonapproved : Bool
  debugUnlocked : Bool
  /-- running bank (0 A, 1 B), its image, activation awaiting commit -/
  bank : BitVec 1
  running : FwImage
  act : Option Activation
  svn : BitVec 8
  utcBase : DWord
  tsBase : DWord
  timeValid : Bool
  dik : Option (BitVec 384)
  aak : Option (BitVec 384)
  /-- outputs drawn from the DRBG -/
  drawn : Nat
  sb : Staging
  /-- flash (R548): ACTIVE and PENDING of the boot header, its sequence number, the banks -/
  bootSeq : Nat
  bootActive : BitVec 1
  bootPending : Bool
  banks : Vector FwImage 2
  gasp : List GaspPage
  /-- area written last, sequence number of the next page -/
  gaspArea : Nat
  gaspSeq : Nat
  /-- the flush in progress: pages written so far (R566) -/
  flush : Option Nat
  deriving DecidableEq, Repr

/-- R573, R572; the flash as made at manufacture (log 9). -/
def Sec.reset : Sec :=
  { slots := Vector.replicate 32 .reset, txFrames := [], rxWins := [], selftestOk := false, error := false,
    nonapproved := false, debugUnlocked := false, bank := 0, running := .none, act := none,
    svn := Config.fusedSvn, utcBase := 0, tsBase := 0, timeValid := false, dik := none, aak := none,
    drawn := 0, sb := .reset, bootSeq := 0, bootActive := 0,
    bootPending := false, banks := #v[.factory, .none], gasp := [], gaspArea := 1, gaspSeq := 0,
    flush := none }

/-- A management agent (R537 to R540, R570). -/
structure Agent where
  role : BitVec 2
  /-- its start-up has completed, and when -/
  started : Bool
  startAt : DWord
  /-- its last heartbeat in the deed register file -/
  lastHb : Option DWord
  /-- MGMT_PRIMARY epoch it was granted -/
  epoch : Word
  /-- I3C dynamic address (R542) -/
  i3c : Option (BitVec 7)
  deriving DecidableEq, Repr

/-- R570: starting. -/
def Agent.reset : Agent := ⟨0, false, 0, none, 0, none⟩

/-- An MCTP endpoint (R543, R544, R547): endpoint ID, event receiver, progress of its SPDM responder
(0 start, 1 version, 2 capabilities, 3 algorithms), the last DIGESTS or CERTIFICATE asked. -/
structure Endpoint where
  eid : BitVec 8
  receiver : Option (BitVec 8)
  spdm : Nat
  deriving DecidableEq, Repr

/-- Unassigned. -/
def Endpoint.reset : Endpoint := ⟨0, none, 0⟩

/-- The PLDM Type 5 session of an endpoint (R545): state of DSP0267 (0 IDLE, 1 LEARN COMPONENTS, 2 READY
XFER, 3 DOWNLOAD, 4 VERIFY, 5 APPLY, 6 ACTIVATE). -/
structure Pldm5 where
  state : Nat
  component : Nat
  size : Nat
  offset : Nat
  lastXfer : DWord
  /-- reason that GetStatus reports: 0 initialisation, 6 activation failed -/
  failed : Bool
  /-- the board description as it arrives -/
  desc : List Byte
  deriving DecidableEq, Repr

/-- Idle. -/
def Pldm5.reset : Pldm5 := ⟨0, 0, 0, 0, 0, false, []⟩

/-- The management plane. -/
structure Mgmt where
  agents : Vector Agent 2
  ends : Vector Endpoint 3
  /-- sessions of the primary agent's endpoint and of the control plane's -/
  p5 : Vector Pldm5 2
  pmbWest : Bool
  failover : Bool
  holdup : Bool
  boardDesc : Bool
  mask : BitVec 8
  descValid : Bool
  descVersion : BitVec 8
  descDigest : BitVec 384
  huCap : BitVec 16
  huVnom : BitVec 8
  huVmin : BitVec 8
  huRatio : BitVec 16
  huEff : BitVec 7
  /-- energies in mJ (R567) -/
  eMeas : Rat
  eInt : Rat
  eStart : Rat
  shed : Bool
  senseOor : Bool
  disagree : Bool
  /-- a thermal claim of POWER_LIMITS stands (R541), and since when its conditions are clear -/
  thermalClaim : Bool
  clearSince : Option DWord
  /-- PL_SUST cap of effecter 0x0101 and P-step ceiling of effecter 0x0103 -/
  eff101 : Option Nat
  eff103 : Option Nat
  /-- contents of the board-description EEPROM (R546) -/
  eeprom : List Byte
  /-- alert causes of which the event receiver has been told (R544) -/
  notified : BitVec 8
  /-- messages that the endpoints have sent: endpoint and bytes (log 12) -/
  sent : List (Nat × List Byte)
  deriving DecidableEq, Repr

/-- R570: reset values. -/
def Mgmt.reset : Mgmt :=
  { agents := Vector.replicate 2 .reset, ends := Vector.replicate 3 .reset, p5 := Vector.replicate 2 .reset,
    pmbWest := false, failover := false, holdup := false, boardDesc := false, mask := 0, descValid := false,
    descVersion := 0, descDigest := 0, huCap := 0, huVnom := 0, huVmin := 0, huRatio := 0, huEff := 0,
    eMeas := 0, eInt := 0, eStart := 0, shed := false, senseOor := false, disagree := false,
    thermalClaim := false, clearSince := none, eff101 := none, eff103 := none, eeprom := Config.boardDescription, notified := 0, sent := [] }

/-- The reset block, the reset inputs and the GPIO block (R595, R596, R606, R613, R615). -/
structure Rst where
  causePor : Bool
  causeSys : Bool
  causePerst : Bool
  causeCp : Bool
  causeE : Bool
  causeW : Bool
  stage : BitVec 4
  bank : BitVec 1
  straps : BitVec 16
  sysCount : BitVec 8
  ctlCount : BitVec 8
  partCount : BitVec 8
  /-- inputs asserted -/
  por : Bool
  sys : Bool
  perst : Bool
  pwrLoss : Bool
  /-- domains out of reset: control (its firmware runs from STAGE 4 on), data plane -/
  ctlUp : Bool
  dpUp : Bool
  /-- PWR_LOSS_N deasserted at (R568) -/
  pwrClear : Option DWord
  tapReset : Bool
  gpioIn : BitVec 8
  gpioOut : BitVec 8
  gpioOe : BitVec 8
  deriving DecidableEq, Repr

/-- R606, R615: reset values; POR_N and PERST_N asserted (log 3). -/
def Rst.reset : Rst :=
  { causePor := true, causeSys := false, causePerst := false, causeCp := false, causeE := false,
    causeW := false, stage := 0, bank := 0, straps := 0, sysCount := 0, ctlCount := 0, partCount := 0,
    por := true, sys := false, perst := true, pwrLoss := false, ctlUp := false, dpUp := false,
    pwrClear := none, tapReset := true, gpioIn := 0, gpioOut := 0, gpioOe := 0 }

end Sys2Proof.Machine
end

