-- ==== Sys2Proof/Machine/StateServ.lean ====
section
/-! DEFINITION.  The state of the in-service tests (15): packs, rounds, levels; and of the snapshot control
(20 R589 to R591). -/

namespace Sys2Proof.Machine

open Sys2Proof

/-- A kernel of a test pack (R435). -/
structure Kernel where
  id : BitVec 16
  accSave : Bool
  loopback : Bool
  engMask : BitVec 10
  length : Nat
  image : List Byte
  resultOff : Nat
  resultLen : Nat
  originVx : DWord
  originEdge : DWord
  digest : DWord
  deriving DecidableEq, Repr

/-- A pack slot (R436, R437, R440): STATE 0 empty, 1 held, 2 active. -/
structure Pack where
  state : BitVec 2
  version : Word
  minVersion : Word
  sfuId : Word
  kernels : List Kernel
  digest : BitVec 384
  deriving DecidableEq, Repr

/-- Empty. -/
def Pack.reset : Pack := ⟨0, 0, 0, 0, [], 0⟩

/-- A kernel launched on a core (R420, R425, R426): whether forced, whether its set is held, when it was
launched and when its set was held; a second run of a loopback kernel names the first core (R422). -/
structure Run where
  kernel : Kernel
  forced : Bool
  held : Bool
  launched : DWord
  secondFor : Option Nat
  deriving DecidableEq, Repr

/-- What the in-service tests know of a core (R424 to R431, R440). -/
structure Tcore where
  level : BitVec 2
  heldOut : Bool
  /-- admitted; it becomes a step core at the next STEP_OPEN of its partition (R431) -/
  admitWait : Bool
  advised : Bool
  fails : List DWord
  lastKernel : BitVec 16
  /-- the last failure, or the entry into Quarantine, from which QUAR_HOLD_H counts (R429, R430) -/
  quiet : DWord
  clean : Word
  /-- consecutive clean rounds at Watch (R429) -/
  watchRun : Nat
  /-- completion of the last round, moved back by pauses and images (R424, R427, R441) -/
  lastRound : DWord
  /-- a round is open, and its kernels still to run -/
  isOpen : Bool
  todo : List Kernel
  due : Bool
  run : Option Run
  stolen : Word
  /-- forced kernels that ended within the last second: the end and the µs of each (R426) -/
  forcedLog : List (DWord × Nat)
  /-- a forced kernel waits for the next second -/
  capHeld : Bool
  /-- the wait the core is in, by phase (64: none) and counter, and its start (R425) -/
  wait : Option ((Nat × Nat) × DWord)
  /-- average length of the waits of each phase and counter, in NCLK cycles (R425) -/
  waitLens : List ((Nat × Nat) × Nat)
  /-- the first run of a loopback kernel failed here and its second run decides (R422) -/
  loopWait : Bool
  deriving DecidableEq, Repr

/-- R440: reset values. -/
def Tcore.reset : Tcore :=
  { level := 0, heldOut := false, admitWait := false, advised := false, fails := [], lastKernel := 0, quiet := 0, clean := 0,
    watchRun := 0, lastRound := 0, isOpen := false, todo := [], due := false, run := none, stolen := 0, forcedLog := [],
    capHeld := false, wait := none, waitLens := [], loopWait := false }

/-- The in-service test block. -/
structure Serv where
  autoRetire : Bool
  failQuar : BitVec 4
  retireThresh : BitVec 4
  failWindowH : BitVec 16
  normalS : BitVec 16
  watchS : BitVec 16
  watchPass : BitVec 16
  quarHoldH : BitVec 8
  capUs : BitVec 16
  activeSlot : BitVec 2
  packs : Vector Pack 4
  cores : Vector Tcore 96
  /-- loopback kernels are suspended since (R422) -/
  loopOff : Option DWord
  /-- cores retired in the persistent record log (R433) -/
  softFuses : List Nat
  /-- levels and failures in the persistent record log (R599) -/
  levelLog : List (Nat × (BitVec 2 × List DWord))
  deriving DecidableEq, Repr

/-- R440: reset values. -/
def Serv.reset : Serv :=
  { autoRetire := true, failQuar := 2, retireThresh := 3, failWindowH := 0xA8, normalS := 0x258,
    watchS := 0x4B, watchPass := 0x480, quarHoldH := 0x18, capUs := 0xFA0, activeSlot := 0,
    packs := Vector.replicate 4 .reset, cores := Vector.replicate 96 .reset, loopOff := none, softFuses := [],
    levelLog := [] }

/-- Snapshot control (R589, R591). -/
structure Snap where
  hold : Bool
  capturing : Bool
  seq : Word
  heldCount : Word
  wdogMs : BitVec 16
  /-- sources of the snapshot that waits for its sample count, and that count -/
  sources : BitVec 3
  sampleAt : Option DWord
  /-- sources that joined the snapshot being copied, and those of the next -/
  copying : BitVec 3
  next : BitVec 3
  /-- what the units latched at the sample count: store offset and bytes -/
  latched : List (Nat × List Byte)
  deriving DecidableEq, Repr

/-- R591: reset values. -/
def Snap.reset : Snap := ⟨false, false, 0, 0, 0x64, 0, none, 0, 0, []⟩

end Sys2Proof.Machine
end

