-- ==== Sys2Proof/Machine/State.lean ====
section
/-! DEFINITION.  The state of the block: plain data, all of it (INVENTORY.md lists every field with its
rule and its reset value). -/

namespace Sys2Proof.Machine

open Sys2Proof

/-- Why the machine stops with a fault.  Nothing stops this block: what the manual calls a fault is an effect on its
state, and every meaning answers a next state. -/
inductive Fault where
  /-- Raised by no command; it only keeps the type inhabited; safe. -/
  | unraised
  deriving DecidableEq, Repr

/-- Why a command has no outcome. -/
inductive Refusal where
  /-- An arm of `exec` whose command has no meaning yet; safe. -/
  | notModelled (mnemonic : String)
  deriving DecidableEq, Repr

/-- A partition. -/
structure Part where
  made : Bool
  /-- base of the delayed-scaling table (R64) -/
  dsBase : Option (BitVec 48)
  job : Option (BitVec 16)
  xc : Xc
  cl : Closure
  uc : Upd
  underReset : Bool
  /-- step-record key and its certificate, key-wrapping key (R552) -/
  srk : Option (BitVec 384)
  srkCert : List Byte
  kwk : Option (BitVec 256)
  deriving DecidableEq, Repr

/-- No partition. -/
def Part.reset : Part := ⟨false, none, none, .reset, .reset, .reset, false, none, [], none⟩

/-- Settings from before a commit count, to which a revert returns (R468). -/
structure Saved where
  ms : MemSys
  fab : Fabric
  parts : Vector Part 12
  fns : Vector Func 13
  pw : Power
  deriving DecidableEq, Repr

/-- A transaction (R466 to R469): 0 open, 1 prepared and waiting for C, 2 switched, 3 waiting for R. -/
structure Txn where
  id : BitVec 16
  fn : Fin 13
  /-- timestamp of TXN_BEGIN -/
  born : DWord
  staged : List Cmd
  phase : Nat
  c : DWord
  r : DWord
  commit : Option Cmd
  /-- handle of the command whose unit reported a fault -/
  culprit : Word
  saved : Option Saved
  deriving DecidableEq, Repr

/-- The command interface (16). -/
structure Kci where
  fns : Vector Func 13
  /-- started commands without FINAL -/
  live : List Cmd
  txns : List Txn
  nextTxn : BitVec 16
  paused : Bool
  dpBusy : Bool
  cpFault : Bool
  /-- size of PF0's BAR2 as a power of two (R443) -/
  bar2Log : Nat
  /-- MSI-X messages sent: function and vector, oldest first (log 12) -/
  irqs : List (Fin 13 × Nat)
  deeds : Vector Deed 5
  /-- request ports of CONTROL, MGMT_E and MGMT_W -/
  deedPorts : Vector DeedPort 3
  deriving DecidableEq, Repr

/-- R446, R472: reset values; the first TXN_ID and the size of PF0's BAR2 are a DESIGN CHOICE (log 3). -/
def Kci.reset : Kci :=
  { fns := Vector.replicate 13 .reset, live := [], txns := [], nextTxn := 1, paused := false,
    dpBusy := false, cpFault := false, bar2Log := 30, irqs := [], deeds := Vector.replicate 5 .reset,
    deedPorts := Vector.replicate 3 .reset }

/-- The whole block. -/
structure State where
  cores : Vector Core 96
  parts : Vector Part 12
  mem : Mem
  poison : Marks
  hostMem : Mem
  ms : MemSys
  tel : Telemetry
  fab : Fabric
  sec : Sec
  kci : Kci
  pw : Power
  clk : Clk
  th : Therm
  serv : Serv
  snap : Snap
  mg : Mgmt
  rst : Rst
  ts : DWord
  /-- data of the last register read (R159, R534, R578), as bytes -/
  readData : List Byte
  /-- how the last BAR2 read ended (R444): 0 data, 1 Completer Abort, 2 poisoned TLP -/
  busStatus : Nat
  freeCtr : Nat
  pending : List Instr
  deriving DecidableEq, Repr

/-- The machine right after reset. -/
def State.reset : State :=
  { cores := Vector.replicate 96 .reset, parts := Vector.replicate 12 .reset, mem := [], poison := [],
    hostMem := [], ms := .reset, tel := .reset, fab := .reset, sec := .reset, kci := .reset, pw := .reset,
    clk := .reset, th := .reset, serv := .reset, snap := .reset, mg := .reset, rst := .reset, ts := 0,
    readData := [], busStatus := 0, freeCtr := 0, pending := [] }

end Sys2Proof.Machine
end

