-- ==== Sys2Proof/Machine/Ops.lean ====
section
/-! DEFINITION.  The named operations over the whole state that every family shares: access to cores and
partitions, event records, free values, memory with its poison, and the access checks (08 R242 to R247). -/

namespace Sys2Proof.Machine

open Sys2Proof

/-- What a meaning answers. -/
abbrev Out := Host.Outcome State Fault Refusal

/-- Core `c`. -/
def State.core (s : State) (c : Fin 96) : Core := vget s.cores c
/-- Replaces core `c`. -/
def State.setCore (s : State) (c : Fin 96) (x : Core) : State := { s with cores := vset s.cores c x }
/-- Changes core `c`. -/
def State.modCore (s : State) (c : Fin 96) (f : Core → Core) : State := s.setCore c (f (s.core c))
/-- Partition `p`. -/
def State.part (s : State) (p : Fin 12) : Part := vget s.parts p
/-- Replaces partition `p`. -/
def State.setPart (s : State) (p : Fin 12) (x : Part) : State := { s with parts := vset s.parts p x }
/-- Changes partition `p`. -/
def State.modPart (s : State) (p : Fin 12) (f : Part → Part) : State := s.setPart p (f (s.part p))

/-- Engine `e` of a core. -/
def Core.engine (k : Core) (e : Fin 10) : Eng := vget k.eng e
/-- Changes engine `e` of a core. -/
def Core.modEng (k : Core) (e : Fin 10) (f : Eng → Eng) : Core := { k with eng := vmod k.eng e f }
/-- Changes counter `n` of a core. -/
def Core.modCtr (k : Core) (n : Fin 64) (f : Ctr → Ctr) : Core := { k with ctr := vmod k.ctr n f }

/-- The parcel of a core (R3). -/
def parcelOf (c : Fin 96) : Fin 12 := ⟨c.val / 8, by omega⟩
/-- A core from a number, where it is one. -/
def coreOf? (n : Nat) : Option (Fin 96) := if h : n < 96 then some ⟨n, h⟩ else none
/-- A partition from a number, where it is one. -/
def partOf? (n : Nat) : Option (Fin 12) := if h : n < 12 then some ⟨n, h⟩ else none
/-- An engine from a number, where it is one. -/
def engOf? (n : Nat) : Option (Fin 10) := if h : n < 10 then some ⟨n, h⟩ else none

/-- R2, R3: the slot is fused off. -/
def coreAbsent (c : Fin 96) : Bool := Config.isT984 && decide ((Config.fusedSlot (c.val / 8)).val = c.val % 8)

/-- Field of the step policy block in force (R372); 0 without one. -/
def polNat (s : State) (p : Fin 12) (off n : Nat) : Nat :=
  match (s.part p).cl.policy with | some b => natAt b off n | none => 0

/-- R75, R431: retired, quarantined or held out of work. -/
def coreOut (s : State) (c : Fin 96) : Bool :=
  (s.core c).retired || decide ((vget s.serv.cores c).level = 2) || (vget s.serv.cores c).heldOut

/-- R75, R431: the window of the core is closed to programs and to the control path. -/
def coreClosed (s : State) (c : Fin 96) : Bool := coreAbsent c || coreOut s c

/-- The partition that owns a core's parcel, from the active partition map (R247). -/
def ownerOf (s : State) (c : Fin 96) : Option (Fin 12) :=
  let e := vget s.ms.pmapA (parcelOf c)
  if e.valid then partOf? e.part.toNat else none
/-- The same as a number, 0xF for none. -/
def ownerNum (s : State) (c : Fin 96) : Nat := match ownerOf s c with | some p => p.val | none => 15

/-- The cores of a partition, ascending. -/
def coresOf (s : State) (p : Fin 12) : List (Fin 96) :=
  (List.finRange 96).filter (fun c => decide (ownerOf s c = some p))

/-- The core runs no cycle for its program: absent, retired, its clock gated or in reset (R75, R596). -/
def coreShut (s : State) (c : Fin 96) : Bool :=
  coreAbsent c || (s.core c).retired || s.clk.gated || !s.rst.dpUp

/-- R372: the core is in BUDDY_MASK of its partition. -/
def isBuddy (s : State) (c : Fin 96) : Bool :=
  match ownerOf s c with | some p => bit (polNat s p 78 12) c.val | none => false

/-- R344, R431: neither absent, retired, held out, admitted since the last STEP_OPEN, nor in BUDDY_MASK. -/
def isStepCore (s : State) (c : Fin 96) : Bool :=
  !coreAbsent c && !coreOut s c && !(vget s.serv.cores c).admitWait && !isBuddy s c

/-- The step cores of a partition (R344). -/
def stepCores (s : State) (p : Fin 12) : List (Fin 96) := (coresOf s p).filter (isStepCore s)

/-- Takes a fresh free value (log 7). -/
def State.fresh (s : State) : Nat × State := (Config.freeValue s.freeCtr, { s with freeCtr := s.freeCtr + 1 })

/-- `n` free bytes (log 7). -/
def State.freshBytes (s : State) (n : Nat) : List Byte × State :=
  ((List.range n).map (fun i => Config.freeByte (s.freeCtr + i)), { s with freeCtr := s.freeCtr + n })

/-- A fresh output of the DRBG. -/
def draw (s : State) : BitVec 512 × State :=
  (Config.drbg s.sec.drawn, { s with sec := { s.sec with drawn := s.sec.drawn + 1 } })

/-! ### Event records (R586, R587) -/

/-- Queues an event record for the telemetry ring; a full queue counts it in LOST. -/
def record (s : State) (code part core : Nat) (body : List Byte) : State :=
  if s.tel.queue.length < 256 then
    { s with tel := { s.tel with
        queue := s.tel.queue ++ [⟨s.ts, BitVec.ofNat 16 code, BitVec.ofNat 4 part, BitVec.ofNat 7 core,
          s.tel.lostBefore, padTo body 48⟩],
        lostBefore := false } }
  else { s with tel := { s.tel with lost := s.tel.lost + 1, lostBefore := true } }

/-- A record that names a core and the partition that owns it. -/
def recordCore (s : State) (code : Nat) (c : Fin 96) (body : List Byte) : State :=
  record s code (ownerNum s c) c.val body

/-- The CONTROL record of R586: its kind, where the table lists one, and a detail that the manual does not lay out
(free bytes, log 37). -/
def controlRecord (s : State) (kind : Option Byte) : State :=
  let (k, s) := match kind with | some k => ([k], s) | none => s.freshBytes 1
  let (d, s) := s.freshBytes 4
  record s 0x0702 15 0x7F (k ++ d)

/-- NCLK cycles (units of the timestamp, R524) in a second, in a millisecond and in a microsecond. -/
def secTicks : Nat := 1600000000
/-- See `secTicks`. -/
def msTicks : Nat := 1600000
/-- See `secTicks`. -/
def usTicks : Nat := 1600

/-- NCLK cycles from `t` to now. -/
def State.since (s : State) (t : DWord) : Nat := (s.ts - t).toNat

/-! ### Addresses -/

/-- First address of core `c`'s window (R70). -/
def winOf (c : Fin 96) : Nat := winBase + c.val * winSpan
/-- Address of a byte of a core's data SRAM. -/
def dataAddr (c : Fin 96) (o : Nat) : Nat := winOf c + o
/-- Address of a byte of a core's accumulator SRAM. -/
def accAddr (c : Fin 96) (o : Nat) : Nat := winOf c + 0x400000 + o
/-- Address of an instruction slot. -/
def progAddr (c : Fin 96) (i : Nat) : Nat := winOf c + 0x800000 + 32 * i
/-- Address of a descriptor entry. -/
def descAddr (c : Fin 96) (i : Nat) : Nat := winOf c + 0x810000 + 64 * i
/-- Address of a field-book record. -/
def fbAddr (c : Fin 96) (i : Nat) : Nat := winOf c + 0x820000 + 16 * i

/-- The address behind an offset in an address space of R191 (the ring is resolved elsewhere). -/
def spaceAddr (c : Fin 96) (space o : Nat) : Nat :=
  if space = 1 then dataAddr c o else if space = 2 then accAddr c o else if space = 4 then winOf c + 0x810000 + o
  else o

/-- The core whose window holds an address, and the offset in it. -/
def winSplit (a : Nat) : Option (Fin 96 × Nat) :=
  if h : winBase ≤ a ∧ a < winBase + 96 * winSpan then
    some (⟨(a - winBase) / winSpan, by
      have := h.2
      simp only [winBase, winSpan] at *
      omega⟩, (a - winBase) % winSpan)
  else none

/-! ### Memory with poison (R256, R257) -/

/-- R562, R574: a range that an encrypted plat entry covers, once the module is in its error state or its key
store has been zeroised by a debug unlock. -/
def sealedOff (s : State) (a n : Nat) : Bool :=
  (s.sec.error || s.sec.debugUnlocked) && s.ms.platA.toList.any (fun e =>
    e.valid && e.enc && overlap a n (e.stack.toNat * stackSpan + e.baseG.toNat * 0x200000) (e.sizeG.toNat * 0x200000))

/-- Some byte of a range is delivered poisoned (R256, R562). -/
def State.poisoned (s : State) (a n : Nat) : Bool := s.poison.meets a n || sealedOff s a n

/-- A byte as it is delivered: zero where its unit is poisoned (R256). -/
def State.byte (s : State) (a : Nat) : Byte := if s.poison.at a || sealedOff s a 1 then 0 else s.mem.read a

/-- Bytes as they are delivered. -/
def State.bytes (s : State) (a n : Nat) : List Byte :=
  let bs := s.mem.readN a n
  if s.poisoned a n then bs.zipIdx.map (fun p => if s.poison.at (a + p.2) || sealedOff s (a + p.2) 1 then 0 else p.1)
  else bs

/-- Little-endian number of `n` bytes. -/
def State.num (s : State) (a n : Nat) : Nat := leNat (s.bytes a n)

/-- Writes bytes; poisoned data marks every unit it touches, clean data clears the units it covers
whole (R226, R257). -/
def State.write (s : State) (a : Nat) (bs : List Byte) (pois : Bool) : State :=
  { s with
    mem := s.mem.write a bs
    poison := if pois then s.poison.set a bs.length else s.poison.clearWhole a bs.length }

/-- Marks the units of a range poisoned. -/
def State.mark (s : State) (a n : Nat) : State := { s with poison := s.poison.set a n }

/-- Copies `n` bytes at `a` of state `t` to `b` of state `s`, both multiples of 32, their poison bits with them. -/
def State.copyFrom (s t : State) (a b n : Nat) : State :=
  (t.poison.filter (fun u => decide (a ≤ 32 * u ∧ 32 * u < a + n))).foldl (fun s u => s.mark (b + (32 * u - a)) 32)
    (s.write b (t.mem.readN a n) false)

/-- Copies `n` bytes from `a` to `b`, both multiples of 32, their poison bits with them. -/
def State.copyMarked (s : State) (a b n : Nat) : State := s.copyFrom s a b n

/-- Writes a list of pieces: address, bytes, poisoned. -/
def State.writes (s : State) (l : List (Nat × List Byte × Bool)) : State :=
  l.foldl (fun s p => s.write p.1 p.2.1 p.2.2) s

/-- Bytes the device writes to host memory (log 6). -/
def State.hostWrite (s : State) (a : Nat) (bs : List Byte) : State := { s with hostMem := s.hostMem.write a bs }

/-- Fills ranges with free bytes (R215). -/
def State.spoil (s : State) (rs : List Range) : State :=
  rs.foldl (fun s r => let (bs, s') := s.freshBytes r.len; s'.write r.addr bs false) s

/-- R256: an SRAM word of core `c` at window offset `o` is uncorrectable: its 32 bytes are poisoned in the array. -/
def sramHit (s : State) (c : Fin 96) (o : Nat) : State :=
  recordCore (s.mark (winBase + c.val * winSpan + o / 32 * 32) 32) 0x0105 c (leBytes 4 o)

/-- R256: the uncorrectable SRAM words that a read of the ranges meets are poisoned, and reported, before they deliver. -/
def meetErrs (s : State) (rs : List Range) : State :=
  let hit := s.ms.sramBad.filter (fun u => rs.any (fun r => overlap r.addr r.len (32 * u) 32))
  if hit = [] then s
  else hit.foldl (fun s u => match winSplit (32 * u) with
      | some (d, o) => sramHit s d o
      | none => s)
    { s with ms := { s.ms with sramBad := s.ms.sramBad.filter (fun u => !hit.contains u) } }

/-! ### Waiting for a stack (R221, R238) -/

/-- Two ranges touch a common 32-byte sector. -/
def shareSector (a n b m : Nat) : Bool := decide (0 < n ∧ 0 < m ∧ a / 32 ≤ (b + m - 1) / 32 ∧ b / 32 ≤ (a + n - 1) / 32)

/-- R238: a request that waits in a stack goes to one of the sectors of [a, a + n). -/
def behindRequest (s : State) (a n : Nat) : Bool := s.ms.waiting.any (fun q => shareSector a n q.a.toNat q.len)

/-- R221, R238: an access to [a, a + n) waits: it goes to a stack, and the stacks change their step or a request to one of its
sectors waits already. -/
def stackWaits (s : State) (a n : Nat) : Bool :=
  overlap a n 0 (6 * stackSpan) && (s.ms.mstepTo.isSome || behindRequest s a n)

/-- None of the ranges has to wait for a stack. -/
def stackFree (s : State) (rs : List Range) : Bool :=
  (s.ms.mstepTo.isNone && s.ms.waiting.isEmpty) || rs.all (fun r => !stackWaits s r.addr r.len)

/-! ### Access checks -/

/-- The permission bits of R244. -/
inductive Perm where
  | rd | wr | hostRd | hostWr | fabRd | fabWr
  deriving DecidableEq, Repr

/-- An entry grants a permission. -/
def PlatEnt.grants (e : PlatEnt) : Perm → Bool
  | .rd => e.rd | .wr => e.wr | .hostRd => e.hostRd | .hostWr => e.hostWr | .fabRd => e.fabRd
  | .fabWr => e.fabWr

/-- First address and bytes of an entry's range (R242). -/
def PlatEnt.range (e : PlatEnt) : Nat × Nat :=
  (e.stack.toNat * stackSpan + e.baseG.toNat * 0x200000, e.sizeG.toNat * 0x200000)

/-- A valid entry covers [a, a + n). -/
def PlatEnt.covers (e : PlatEnt) (a n : Nat) : Bool :=
  e.valid && decide (e.range.1 ≤ a) && decide (a + n ≤ e.range.1 + e.range.2)

/-- R245: a valid active entry covers the bytes, is the partition's and grants the permission. -/
def platOk (s : State) (perm : Perm) (part a n : Nat) : Bool :=
  s.ms.platA.toList.any (fun e => e.covers a n && decide (e.part.toNat = part) && e.grants perm)

/-- A range cut at the granule boundaries of the plat, 2 MiB: every request lies in one piece. -/
def granules (a n : Nat) : List (Nat × Nat) :=
  if n = 0 then []
  else (upFrom (a / 0x200000) ((a + n - 1) / 0x200000 - a / 0x200000 + 1)).map (fun g =>
    let lo := max a (g * 0x200000)
    (lo, min (a + n) (g * 0x200000 + 0x200000) - lo))

/-- Every request of a range passes (R245). -/
def platAll (s : State) (perm : Perm) (part a n : Nat) : Bool :=
  (granules a n).all (fun g => platOk s perm part g.1 g.2)

/-- Entries of the retention tables whose ranges meet [a, a + n): partition, entry, first address (R347,
R377). -/
def retHits (s : State) (a n : Nat) : List (Fin 12 × Fin 16 × Nat) :=
  (List.finRange 12).flatMap (fun p => (List.finRange 16).filterMap (fun i =>
    let e := vget (s.part p).cl.ret i
    let b := e.addr.toNat * 65536
    if e.valid && overlap a n b (e.units.toNat * 65536) then some (p, i, b) else none))

/-- A permission that writes. -/
def Perm.writes : Perm → Bool
  | .wr => true | .hostWr => true | .fabWr => true | .rd => false | .hostRd => false | .fabRd => false

/-- R245, R347: the first request of [a, a + n) that fails, where one does. -/
def stackFail (s : State) (perm : Perm) (part a n : Nat) : Option Nat :=
  match (granules a n).find? (fun g => !platOk s perm part g.1 g.2) with
  | some g => some g.1
  | none => if perm.writes then (retHits s a n).head?.map (fun h => max a h.2.2) else none

/-- R245: one request for the whole of [a, a + n): where it fails, unless a single entry covers all its bytes. -/
def requestFail (s : State) (perm : Perm) (part a n : Nat) : Option Nat :=
  match stackFail s perm part a n with
  | some x => some x
  | none => if n = 0 ∨ platOk s perm part a n then none else some a

/-- R377: a write refused at `a` by the retention guard is counted. -/
def retCount (s : State) (part a : Nat) : State :=
  if platOk s .wr part a 1 || platOk s .hostWr part a 1 || platOk s .fabWr part a 1 then
    (retHits s a 1).foldl (fun s h => s.modPart h.1 (fun q => { q with
      cl := { q.cl with ret := vmod q.cl.ret h.2.1 (fun e => { e with refused := satAdd e.refused 1 }) } })) s
  else s

/-- TAG of an entry that covers an address, 0 where none does. -/
def platTag (s : State) (a : Nat) : Nat :=
  match s.ms.platA.toList.find? (fun e => e.covers a 1) with
  | some e => e.tag.toNat
  | none => 0

/-- R245: the record of a violation, at most one per requester and millisecond. -/
def violation (s : State) (rq : Requester) (part core a : Nat) : State :=
  let (due, k) := match aget s.ms.limiter rq with
    | some (t, k) => (decide (msTicks ≤ s.since t), k + 1)
    | none => (true, 1)
  if due then
    let s' := record s 0x0301 part core
      (leBytes 8 a ++ leBytes 1 rq.kind ++ leBytes 4 (platTag s a) ++ leBytes 4 k)
    { s' with ms := { s'.ms with limiter := aset s'.ms.limiter rq (s.ts, 0) } }
  else
    match aget s.ms.limiter rq with
    | some (t, _) => { s with ms := { s.ms with limiter := aset s.ms.limiter rq (t, k) } }
    | none => s

/-- R72, R219: the record of an access to an unmapped address. -/
def unmapped (s : State) (kind part core a : Nat) : State :=
  record s 0x0104 part core (leBytes 8 a ++ leBytes 1 kind)

/-- The record of an access that fails at `a`: a violation and its count by the retention guard in a
stack's mappable part (R217, R245, R377), UNMAPPED in a stack's spare region and elsewhere (R219). -/
def refusedAt (s : State) (rq : Requester) (part core a : Nat) : State :=
  if inStack a ∧ a % stackSpan < stackTop then retCount (violation s rq part core a) part a
  else unmapped s rq.kind part core a

/-- R247: what refuses an access to the window of a core by a requester that acts for `part` (15: PF0,
which reaches the windows of parcels that belong to no partition): PARTITION_VIOLATION, ABSENT_CORE. -/
def winFault (s : State) (part : Nat) (c : Fin 96) : Option Nat :=
  let e := vget s.ms.pmapA (parcelOf c)
  let mine := if part = 15 then !e.valid else e.valid && decide (e.part.toNat = part)
  if !mine then some fPARTITION
  else if coreAbsent c || coreOut s c then some fABSENT
  else none

/-- R70 to R73: the offsets of a core window that an engine reaches: data SRAM and accumulator SRAM, in its own window the
descriptor table too. -/
def engReaches (own : Bool) (o n : Nat) : Bool :=
  decide (o + n ≤ dataTop) || (decide (0x400000 ≤ o) && decide (o + n ≤ 0x400000 + accTop)) ||
    (own && decide (0x810000 ≤ o) && decide (o + n ≤ 0x814000))

/-- R70, R72: a store stands at the offset of a core window. -/
def storeAt (o : Nat) : Bool :=
  decide (o < 0x400000 + accTop) || (decide (0x800000 ≤ o) && decide (o < 0x814000)) ||
    (decide (0x820000 ≤ o) && decide (o < 0x831000)) || (decide (0x840000 ≤ o) && decide (o < 0x841000))

/-- An access by an engine of core `c` during its instruction: the fault it gives, or none (R71 to R73, R244, R245, R247).
Its own SRAM needs no check but the test reserve; no engine writes another core's SRAM but XI of that core (R73). -/
def engFault (s : State) (c : Fin 96) (wr : Bool) (a n : Nat) : Option Nat :=
  if n = 0 then none
  else if inStack a then
    if (stackFail s (if wr then .wr else .rd) (ownerNum s c) a n).isNone then none else some fPLAT
  else match winSplit a with
    | some (d, o) =>
      match (if d = c then none else winFault s (ownerNum s c) d) with
      | some f => some f
      | none =>
        if o < 0x400000 ∧ dataTop < o + n then some fRESERVE
        else if engReaches (d == c) o n && (d == c || !wr) then none else some fPLAT
    | none => some fPLAT

/-- Where an access of an engine that fails the check fails first. -/
def engFailAt (s : State) (c : Fin 96) (wr : Bool) (a n : Nat) : Nat :=
  if inStack a then (stackFail s (if wr then .wr else .rd) (ownerNum s c) a n).getD a else a

/-- The record that goes with an access of an engine that fails the check: a violation (R245) at an address where
something stands, UNMAPPED elsewhere (R72, R219). -/
def engViolation (s : State) (c : Fin 96) (a : Nat) : State :=
  if (winSplit a).any (fun p => storeAt p.2) then violation s ⟨0, c.val⟩ (ownerNum s c) c.val a
  else refusedAt s ⟨0, c.val⟩ (ownerNum s c) c.val a

/-- The pieces of ranges that an engine of core `c` could have written: in its own SRAM, or in stack memory that its partition
may write, by its engines or over the fabric (R9, R245). -/
def ownPieces (s : State) (c : Fin 96) (rs : List Range) : List Range :=
  rs.flatMap (fun r => ((granules r.addr r.len).filter (fun g => (engFault s c true g.1 g.2).isNone ||
    (inStack g.1 && (stackFail s .fabWr (ownerNum s c) g.1 g.2).isNone))).map (fun g => ⟨g.1, g.2⟩))

/-- R215, R9: what an instruction of core `c` was to write is undefined; a range that its partition cannot reach stays as it
is, since a refused access performs nothing (R245). -/
def State.spoilFor (s : State) (c : Fin 96) (rs : List Range) : State := s.spoil (ownPieces s c rs)

/-- R155, R157: an access to the origin log or the replay table, which lie in stack memory: refused elsewhere. -/
def logFault (s : State) (c : Fin 96) (wr : Bool) (a : Nat) : Option Nat :=
  if inStack a then (engFault s c wr a 16).map (fun _ => engFailAt s c wr a 16) else some a

end Sys2Proof.Machine
end

