-- ==== Sys2Proof/Machine/Trace.lean ====
section
/-! DEFINITION.  The field book of a core (R579 to R584): records, fill policies, triggers, the drain. -/

namespace Sys2Proof.Machine

open Sys2Proof

/-- PRIO of a record kind (R579). -/
def fbPrio (kind : Nat) : Fin 4 :=
  if kind = 1 ∨ kind = 2 then 0 else if kind = 5 ∨ kind = 6 then 1 else if kind = 7 ∨ kind = 8 then 2 else 3

/-- The 16 bytes of a record (R579). -/
def fbBytes (ts : DWord) (kind eng : Nat) (payload : List Byte) : List Byte :=
  leBytes 5 ts.toNat ++ leBytes 1 (kind + 16 * (fbPrio kind).val) ++ leBytes 1 eng ++ [0] ++ padTo payload 8

/-- Stores record bytes in a slot of the field book. -/
def fbStore (s : State) (c : Fin 96) (slot : Nat) (bs : List Byte) : State :=
  s.write (fbAddr c (slot % 4096)) bs false

/-- Counts a lost record of a priority (R583). -/
def FieldBook.lose (f : FieldBook) (p : Fin 4) : FieldBook :=
  { f with lost := vmod f.lost p (fun x => satAdd x 1), lostNew := vmod f.lostNew p (· + 1) }

/-- Records of the pre-region under TRIGGER (R582). -/
def FieldBook.preSize (f : FieldBook) : Nat := min (f.pre.toNat * 512) 4095

/-- Changes a core's field-book state. -/
def modFb (s : State) (c : Fin 96) (f : FieldBook → FieldBook) : State :=
  s.modCore c (fun k => { k with fb := f k.fb })

/-- One record kept: written at WPTR, which advances. -/
def fbAppend (s : State) (c : Fin 96) (bs : List Byte) : State :=
  let f := (s.core c).fb
  modFb (fbStore s c f.wptr.toNat bs) c (fun f => { f with wptr := f.wptr + 1, held := f.held + 1 })

/-- R583: the newest undrained record below PRIO 3, as its distance back from WPTR. -/
def newestLow (s : State) (c : Fin 96) (wptr : Nat) : Nat → Nat → Option Nat
  | _, 0 => none
  | d, n + 1 =>
    let slot := (wptr + 4096 - d) % 4096
    if field ((s.mem.read (fbAddr c slot + 5)).toNat) 4 2 < 3 then some d else newestLow s c wptr (d + 1) n

/-- Removes the record `d` places back from WPTR: those after it move one place down. -/
def fbRemove (s : State) (c : Fin 96) (wptr d : Nat) : State :=
  (List.range (d - 1)).foldl (fun s i =>
    let dst := (wptr + 4096 - d + i) % 4096
    fbStore s c dst (s.mem.readN (fbAddr c ((dst + 1) % 4096)) 16)) s

/-- R582, R583: one record judged against the fill policy. -/
def fbJudge (s : State) (c : Fin 96) (prio : Fin 4) (bs : List Byte) : State :=
  let f := (s.core c).fb
  let lose := modFb s c (fun f => f.lose prio)
  if f.state = 3 ∨ f.state = 4 ∨ f.state = 5 ∨ f.state = 6 then lose
  else if f.policy = 0 then
    if f.held < 4096 then fbAppend s c bs
    else modFb (fbAppend s c bs) c (fun f =>
      { f with dptr := f.dptr + 1, held := 4096, overwritten := satAdd f.overwritten 1 })
  else if f.policy = 1 then
    if f.held < 4096 then fbAppend s c bs else modFb lose c (fun f => { f with state := 3 })
  else if f.policy = 2 then
    let n := f.preSize
    if f.state = 2 then
      if n + f.held < 4096 then
        let s := fbStore s c (n + f.held) bs
        modFb s c (fun f => { f with
          held := f.held + 1, wptr := BitVec.ofNat 12 (n + f.held + 1),
          state := if n + f.held + 1 = 4096 then 4 else 2 })
      else lose
    else if n = 0 then lose
    else
      let s := fbStore s c f.prePtr bs
      modFb s c (fun f => { f with
        prePtr := (f.prePtr + 1) % n, preHeld := min n (f.preHeld + 1),
        wptr := BitVec.ofNat 12 ((f.prePtr + 1) % n) })
  else
    let u := f.held
    let drop := if prio.val = 0 then decide (3072 ≤ u) else if prio.val = 1 then decide (3584 ≤ u)
      else if prio.val = 2 then decide (4032 ≤ u) else decide (4096 ≤ u)
    if !drop then fbAppend s c bs
    else if prio.val < 3 then lose
    else match newestLow s c f.wptr.toNat 1 f.held with
      | none => lose
      | some d =>
        let slot := (f.wptr.toNat + 4096 - d) % 4096
        let q : Fin 4 := ⟨field ((s.mem.read (fbAddr c slot + 5)).toNat) 4 2, by
          have h := Nat.mod_lt ((s.mem.read (fbAddr c slot + 5)).toNat >>> 4) (by decide : 0 < 2 ^ 2)
          simpa [field] using h⟩
        let s := fbRemove s c f.wptr.toNat d
        let s := modFb s c (fun f => { f.lose q with wptr := f.wptr - 1, held := f.held - 1 })
        fbAppend s c bs

/-- R579: writes a record, after a SYNC record where timestamp bits [63:40] changed and after a LOSS
record where records were lost. -/
def fbPut (s : State) (c : Fin 96) (kind eng : Nat) (payload : List Byte) : State :=
  let f := (s.core c).fb
  if !f.enable then s
  else
    let top := BitVec.ofNat 24 (s.ts.toNat / 2 ^ 40)
    let s := if f.syncTop = top then s
      else modFb (fbJudge s c 3 (fbBytes s.ts 0xB 15 (leBytes 8 s.ts.toNat))) c (fun f => { f with syncTop := top })
    let ln := (s.core c).fb.lostNew
    let s := if (vget ln 0) + (vget ln 1) + (vget ln 2) + (vget ln 3) = 0 ∨ (s.core c).fb.state.toNat ≥ 3 then s
      else
        let w := fun (p : Fin 4) => leBytes 2 (min (vget ln p) 0xFFFF)
        fbJudge (modFb s c (fun f => { f with lostNew := Vector.replicate 4 0 })) c 3
          (fbBytes s.ts 0x9 15 (w 0 ++ w 1 ++ w 2 ++ w 3))
    fbJudge s c (fbPrio kind) (fbBytes s.ts kind eng payload)

/-- R582: a trigger on a core. -/
def fbTrigger (s : State) (c : Fin 96) (source : Nat) : State :=
  let f := (s.core c).fb
  if !f.enable then s
  else if f.triggered then modFb s c (fun f => { f with trigExtra := satAdd f.trigExtra 1 })
  else
    let s := modFb s c (fun f => { f with
      triggered := true, trigTs := s.ts
      state := if f.policy = 2 ∧ f.state = 1 then 2 else f.state })
    fbPut s c 0xA 15 (leBytes 1 source)

/-- R584: a write of ENABLE = 1 clears the field book and writes a SYNC record. -/
def fbEnable (s : State) (c : Fin 96) : State :=
  let s := { s with mem := s.mem.clear (fbAddr c 0) 0x10000 }
  let top := BitVec.ofNat 24 (s.ts.toNat / 2 ^ 40)
  let s := modFb s c (fun f => { f with
    enable := true, state := 1, wptr := 0, dptr := 0, lost := Vector.replicate 4 0, overwritten := 0,
    trigExtra := 0, triggered := false, lostNew := Vector.replicate 4 0, held := 0, preHeld := 0,
    prePtr := 0, syncTop := top, ringPos := 0 })
  fbPut s c 0xB 15 (leBytes 8 s.ts.toNat)

end Sys2Proof.Machine
end

