-- ==== Sys2Proof/Machine/Flags.lean ====
section
/-! DEFINITION.  Flag computations: sync counters with SAT, UNDER and POISON (R90 to R97), NUM_STATUS
(R101), and the passing of CCLK cycles of a core (R82, R93, R102, R151). -/

namespace Sys2Proof.Machine

open Sys2Proof

/-- R93: the counter after its running cycle, and the flags that the cycle newly set. -/
def Ctr.close (k : Ctr) : Ctr × Bool × Bool :=
  let up := k.val.toNat + k.inc
  let under := decide (up < k.sub)
  let sat := !under && decide (0xFFFFFF < up - k.sub)
  let v : BitVec 24 := if under then 0 else if sat then 0xFFFFFF else BitVec.ofNat 24 (up - k.sub)
  ({ k with val := v, inc := 0, sub := 0, sat := k.sat || sat, under := k.under || under, lastNow := false },
    sat && !k.sat, under && !k.under)

/-- The counter `g` CCLK cycles later (R82, R93): 0 leaves it in the same cycle. -/
def Ctr.pass (k : Ctr) (g : Nat) : Ctr :=
  match g with
  | 0 => k
  | 1 => { k.close.1 with prev := k.val }
  | _ => { k.close.1 with prev := k.close.1.val }

/-- The value the counter has once its running cycle ends: what a later reader sees. -/
def Ctr.now (k : Ctr) : BitVec 24 := k.close.1.val

/-- R97: the record of a flag of SC_VALUE that became set, and the trigger of R582. -/
def flagSet (s : State) (c : Fin 96) (n : Fin 64) (flagBit : Nat) : State :=
  fbTrigger (recordCore s 0x0103 c (leBytes 1 n.val ++ leBytes 1 flagBit)) c 0x02

/-- The flags that close in this cycle, by counter. -/
def newFlags (k : Core) : List (Fin 64 × Nat) :=
  (List.finRange 64).flatMap (fun n =>
    let r := (vget k.ctr n).close
    (if r.2.1 then [(n, 24)] else []) ++ (if r.2.2 then [(n, 25)] else []))

/-- R151, R152: a bank `g` CCLK edges later; a waiting seed is loaded at the first of them. -/
def Bank.pass (b : Bank) (g : Nat) : Bank :=
  match g with
  | 0 => b
  | n + 1 =>
    match b.pend with
    | some seed => { b with s := seed + BitVec.ofNat 64 (n * 0x9E3779B97F4A7C15), pend := none }
    | none => { b with s := b.s + BitVec.ofNat 64 ((n + 1) * 0x9E3779B97F4A7C15) }

/-- R102, R156: STEP_TAG writes whose three cycles have passed take effect in order; the SEQ counts of
the origin log then start again at 0. -/
def passTags (k : Core) (g : Nat) : Core :=
  match k.tagPend.filter (fun p => decide (p.2 ≤ g)) with
  | [] => { k with tagPend := k.tagPend.map (fun p => (p.1, p.2 - g)) }
  | due =>
    { k with
      stepTag := (due.getLast?.map Prod.fst).getD k.stepTag
      tagPend := (k.tagPend.filter (fun p => decide (g < p.2))).map (fun p => (p.1, p.2 - g))
      lg := { k.lg with logSeq := Vector.replicate 10 0, seqFull := Vector.replicate 10 false } }

/-- R90, R93, R96, R99: a signal of `eng` and `index` adds `inc` to counter `n`. -/
def Ctr.signal (k : Ctr) (eng index inc : Nat) (pois : Bool) : Ctr :=
  let takes := !k.lastNow || decide (k.lastEng.toNat ≤ eng)
  { k with
    inc := k.inc + inc
    poison := k.poison || pois
    lastEng := if takes then BitVec.ofNat 4 eng else k.lastEng
    lastIdx := if takes then BitVec.ofNat 16 index else k.lastIdx
    lastValid := true
    lastNow := true }

/-- R350: the role of a counter of a step core: 0 DONE, 1 UPD_DONE, 2 EVAL_DONE. -/
def sigRole (s : State) (c : Fin 96) (n : Fin 64) : Option Nat :=
  match ownerOf s c with
  | some p =>
    if (s.part p).cl.policy.isSome && isStepCore s c then
      if polNat s p 5 1 = n.val then some 0 else if polNat s p 6 1 = n.val then some 1
      else if polNat s p 8 1 = n.val then some 2 else none
    else none
  | none => none

/-- R350, R352: a signal to DONE, UPD_DONE or EVAL_DONE reaches firmware through its record; UPD_DONE
holds the gated instructions of the core's UP. -/
def stepSignal (s : State) (c : Fin 96) (n : Fin 64) : State :=
  match sigRole s c n with
  | some r =>
    let tag := (s.core c).stepTag
    (recordCore s 0x0106 c (leBytes 1 r ++ leBytes 4 tag.toNat)).modCore c (fun k => { k with updDone := k.updDone || r == 1 })
  | none => s

/-- R588: an instruction of the core starts or completes, or a counter of it is signalled. -/
def progress (s : State) (c : Fin 96) : State :=
  s.modCore c (fun k => { k with wdogFired := false, wdogMark := s.ts })

/-- A signal applied to a core's counter; POISON newly set gives a record (R97). -/
def signal (s : State) (c : Fin 96) (n : Fin 64) (eng index inc : Nat) (pois : Bool) : State :=
  let new := pois && !(vget (s.core c).ctr n).poison
  let s := stepSignal ((progress s c).modCore c (fun k => k.modCtr n (fun t => t.signal eng index inc pois))) c n
  if new then flagSet s c n 26 else s

/-- R92, R82: a wait field is satisfied at this cycle: against the value at its start and at the start
of the cycle before. -/
def waitMet (k : Core) (f : WaitF) : Bool :=
  f.mode == 0 || (decide (f.val ≤ (vget k.ctr f.ctr).val.toNat) && decide (f.val ≤ (vget k.ctr f.ctr).prev.toNat))

/-- Both waits of an instruction. -/
def waitsMet (k : Core) (w : Nat) : Bool := waitMet k (insWaitA w) && waitMet k (insWaitB w)

/-- R92: subtractions of mode 10 at a start. -/
def subWaits (k : Core) (w : Nat) : Core :=
  let one := fun (k : Core) (f : WaitF) =>
    if f.mode = 2 then k.modCtr f.ctr (fun t => { t with sub := t.sub + f.val }) else k
  one (one k (insWaitA w)) (insWaitB w)

/-- R98: every counter and every counter flag cleared. -/
def clearCtrs (k : Core) : Core := { k with ctr := Vector.replicate 64 .reset }

/-- R101: sticky bits of NUM_STATUS gain the flags of an instruction. -/
def NumStatus.raise (n : NumStatus) (f : Fl) (tern : Bool) : NumStatus :=
  { n with
    ternCode := n.ternCode || tern, nv := n.nv || f.nv, dz := n.dz || f.dz, ofl := n.ofl || f.ofl,
    ufl := n.ufl || f.ufl, nx := n.nx || f.nx }

/-- Raises NUM_STATUS bits of a core. -/
def raiseNum (s : State) (c : Fin 96) (f : Fl) (tern : Bool) : State :=
  s.modCore c (fun k => { k with num := k.num.raise f tern })

end Sys2Proof.Machine
end

