-- ==== Sys2Proof/Machine/Operands.lean ====
section
/-! DEFINITION.  Operand forms: reading and writing the elements of a tensor (R38 to R42, R193), draws
(R152 to R154), conversion of whole tensors (R51, R60), delayed-scaling slots (R64 to R67), the MV ring. -/

namespace Sys2Proof.Machine

open Sys2Proof

/-- One element as read: stored bits, value, scale byte, poisoned, TERN code 0b10. -/
structure Elem where
  raw : Nat
  val : Num
  scale : Nat
  pois : Bool
  tern : Bool
  deriving DecidableEq, Repr

/-- A layout of core `c` with absolute addresses. -/
def Lay.abs (c : Fin 96) (space : Nat) (l : Lay) : Lay :=
  { l with base := spaceAddr c space l.base, scalePtr := if l.fmt.isBq then spaceAddr c space l.scalePtr else 0 }

/-- The absolute layout of a TENSOR descriptor. -/
def absT (c : Fin 96) (d : Nat) : Lay := (tLay d).abs c (dSpace d)

/-- Bytes cut into elements of `w` bits (R38). -/
def splitElems (w : Nat) (bs : List Byte) : List Nat :=
  if 8 ≤ w then (chunks (w / 8) bs).map leNat
  else bs.flatMap (fun b => (List.range (8 / w)).map (fun j => field b.toNat (j * w) w))

/-- Elements of `w` bits packed into bytes, unused bits zero (R38). -/
def packElems (w : Nat) (cs : List Nat) : List Byte :=
  if 8 ≤ w then cs.flatMap (leBytes (w / 8))
  else (chunks (8 / w) cs).map (fun g =>
    BitVec.ofNat 8 ((g.zipIdx.map (fun p => (p.1 % 2 ^ w) * 2 ^ (p.2 * w))).foldl (· + ·) 0))

/-- Elements of one run from its bytes (`bs`, from the byte of the first element) and its scales;
`pb i n` tells whether bytes i to i + n − 1 of the data, `ps k` whether scale k, are poisoned. -/
def elemsOf (f : Fmt) (n : Nat) (bs : List Byte) (scales : List Nat) (pb : Nat → Nat → Bool)
    (ps : Nat → Bool) : List Elem :=
  ((splitElems f.width bs).take n).zipIdx.map (fun (raw, i) =>
    let sc := scales.getD (i / 32) 0
    let lo := i * f.width / 8
    ⟨raw, decodeElem f sc raw, sc, pb lo (max 1 (f.width / 8)) || (f.isBq && ps (i / 32)),
      f == .tern && raw == 2⟩)

/-- The elements of run `r` of an absolute layout. -/
def loadRun (s : State) (l : Lay) (r : Nat) : List Elem :=
  let (a, n) := l.runSpan r
  let bad := s.poisoned a n
  let nb := ceilDiv l.n0 32
  let sa := l.scaleAddr r 0
  let sbad := l.fmt.isBq && s.poisoned sa nb
  elemsOf l.fmt l.n0 (s.bytes a n) (if l.fmt.isBq then (s.bytes sa nb).map BitVec.toNat else [])
    (fun i k => bad && s.poisoned (a + i) k) (fun k => sbad && s.poisoned (sa + k) 1)

/-- Every element of a layout, in element order. -/
def loadAll (s : State) (l : Lay) : List Elem := (List.range l.runs).flatMap (loadRun s l)

/-- The byte spans that a layout covers, scales included. -/
def Lay.spans (l : Lay) : List (Nat × Nat) :=
  (List.range l.runs).map l.runSpan ++
    (if l.fmt.isBq then (List.range l.runs).map (fun r => (l.scaleAddr r 0, ceilDiv l.n0 32)) else [])

/-- The ranges of a layout. -/
def Lay.ranges (l : Lay) : List Range := l.spans.map (fun p => ⟨p.1, p.2⟩)

/-- First access of the spans that an engine of core `c` may not make: its fault and address. -/
def spanFault (s : State) (c : Fin 96) (wr : Bool) : List (Nat × Nat) → Option (Nat × Nat)
  | [] => none
  | (a, n) :: t => match engFault s c wr a n with
    | some f => some (f, engFailAt s c wr a n)
    | none => spanFault s c wr t

/-- One run converted: codes, scale bytes, poison of each element. -/
structure RunOut where
  codes : List Nat
  scales : List Nat
  pois : List Bool
  deriving DecidableEq, Repr

/-- Writes run `r` of an absolute layout; poisoned elements mark the units that hold them and their
scales (R257). -/
def storeRun (s : State) (l : Lay) (r : Nat) (o : RunOut) : State :=
  let (a, _) := l.runSpan r
  let s := s.write a (packElems l.fmt.width o.codes) false
  let s := if l.fmt.isBq then s.write (l.scaleAddr r 0) (o.scales.map (BitVec.ofNat 8)) false else s
  o.pois.zipIdx.foldl (fun s (p, i) =>
    if p then
      let s := s.mark (a + i * l.fmt.width / 8) (max 1 (l.fmt.width / 8))
      if l.fmt.isBq then s.mark (l.scaleAddr r (i / 32)) 1 else s
    else s) s

/-- Writes every run. -/
def storeAll (s : State) (l : Lay) (os : List RunOut) : State :=
  os.zipIdx.foldl (fun s (o, r) => storeRun s l r o) s

/-! ### Draws (R152 to R154) -/

/-- The 64-bit draw word W (R153). -/
def drawWord (origin : DWord) (lane e : Nat) : DWord :=
  mix64 (origin ^^^ mix64 (BitVec.ofNat 64 (e * 256 + lane + 1)))

/-- The rounding of element `e` under an RND code (R47, R154). -/
def rndFor (code : Nat) (origin : DWord) (lanes e : Nat) : Rnd :=
  if code = 0 then .rne else if code = 1 then .rtz
  else if code = 2 then .sr ((drawWord origin (e % lanes) e).toNat % 65536)
  else if code = 3 then .up else if code = 4 then .down else .rna

/-! ### Conversion of tensors (R48 to R56) -/

/-- How an instruction converts. -/
structure CvtMode where
  rnd : Nat
  sat : Bool
  /-- TENSOR mode with the exponent of the delayed-scaling entry (R55) -/
  tens : Option Int
  origin : DWord
  /-- 64 lanes of the VX bank, 128 of the edge bank (R153) -/
  lanes : Nat
  deriving DecidableEq, Repr

/-- One run of values converted to a format; `e0` is the element index of its first element. -/
def convRun (f : Fmt) (m : CvtMode) (e0 : Nat) (xs : List (Num × Bool)) : RunOut × Ev :=
  let rnd := fun i => rndFor m.rnd m.origin m.lanes (e0 + i)
  if f.isBq then
    let blocks := (chunks 32 xs).zipIdx.map (fun (b, k) =>
      toBlock f m.tens m.sat ((List.range b.length).map (fun i => rnd (32 * k + i))) (b.map Prod.fst))
    (⟨blocks.flatMap (fun b => b.2.1), blocks.map (fun b => b.1), xs.map Prod.snd⟩,
      blocks.foldl (fun a b => a.add b.2.2) {})
  else
    let os := xs.zipIdx.map (fun (x, i) =>
      if f.isFloat then toFloat f.ffmt (rnd i) x.1 else toPlain f m.sat (rnd i) x.1)
    (⟨os.map Prod.fst, [], xs.map Prod.snd⟩, os.foldl (fun a o => a.add o.2) {})

/-- A tensor of values converted run by run (runs of `n0`). -/
def convAll (f : Fmt) (m : CvtMode) (n0 : Nat) (xs : List (Num × Bool)) : List RunOut × Ev :=
  let rs := (chunks n0 xs).zipIdx.map (fun (r, i) => convRun f m (i * n0) r)
  (rs.map Prod.fst, rs.foldl (fun a r => a.add r.2) {})

/-- R51: a move of one format into the same format copies its bits. -/
def copies (src dst : Lay) (tensor : Bool) : Bool :=
  src.fmt == dst.fmt && (!src.fmt.isBq || (decide (src.n0 = dst.n0) && !tensor))

/-- R51: what a copy counts. -/
def copyEv (es : List Elem) : Ev :=
  es.foldl (fun a e => a.add
    { nan := b2n e.val.isNan, inf := b2n e.val.isInf, amax := amaxOf e.val }) {}

/-- R51: the runs of a copy. -/
def copyRuns (f : Fmt) (n0 : Nat) (es : List Elem) : List RunOut :=
  (chunks n0 es).map (fun r =>
    ⟨r.map (fun e => if e.tern then 0 else e.raw),
      if f.isBq then (chunks 32 r).map (fun b => (b.head?.map (fun e => e.scale)).getD 0) else [],
      r.map (fun e => e.pois)⟩)

/-- R51: elements moved into a destination layout, by copy or by conversion. -/
def moveRuns (src dst : Lay) (tensor : Bool) (m : CvtMode) (es : List Elem) : List RunOut × Ev :=
  if copies src dst tensor then (copyRuns dst.fmt dst.n0 es, copyEv es)
  else convAll dst.fmt m dst.n0 (es.map (fun e => (e.val, e.pois)))

/-- Any element of the runs is poisoned. -/
def runsPois (rs : List RunOut) : Bool := rs.any (fun r => r.pois.any id)

/-! ### Delayed-scaling slots (R64 to R67) -/

/-- Base of a partition's delayed-scaling table while it holds one. -/
def dsBaseOf (s : State) (c : Fin 96) : Option Nat :=
  match ownerOf s c with
  | some p => (s.part p).dsBase.map BitVec.toNat
  | none => none

/-- EXP of an entry (R55, R65). -/
def dsExp (s : State) (base idx : Nat) : Int := sext 8 (s.num (base + 64 * idx) 1)

/-- R66, R67: the read-modify-write of one slot, as bytes of the entry. -/
def dsBytes (old : List Byte) (tag : Nat) (tensor : Bool) (elems : Nat) (ev : Ev) : List Byte :=
  let par := tag % 2
  let o := 16 + 24 * par
  let fl := natAt old 3 1
  let fl := if natAt old o 4 = tag then fl else fl ||| 2 ^ (1 + par)
  let fl := if tensor then fl ||| 2 ^ (3 + par) else fl
  let cap := fun (off n add : Nat) => leBytes n (min (natAt old off n + add) (2 ^ (8 * n) - 1))
  let slot := bytesAt old o 4 ++ cap (o + 4) 8 elems ++ cap (o + 12) 4 (ev.sat + ev.ovf) ++
    cap (o + 16) 2 ev.nan ++ cap (o + 18) 2 ev.inf ++ leBytes 4 (max (natAt old (o + 20) 4) ev.amax)
  bytesAt old 0 3 ++ leBytes 1 fl ++ bytesAt old 4 12 ++
    (if par = 0 then slot ++ bytesAt old 40 24 else bytesAt old 16 24 ++ slot)

/-- A conversion's counts added to the entry that a descriptor names; none where the access fails. -/
def dsUpdate (s : State) (c : Fin 96) (d : Nat) (tag : Word) (tensor : Bool) (elems : Nat) (ev : Ev) :
    Option State :=
  if !dHasDs d || isBuddy s c then some s
  else match dsBaseOf s c with
    | none => none
    | some base =>
      let a := base + 64 * dDs d
      if (engFault s c true a 64).isSome then none
      else
        let keep := s.poison
        let s' := s.write a (dsBytes (s.bytes a 64) tag.toNat tensor elems ev) false
        some { s' with poison := keep }

/-- Where the slot update of a conversion through a descriptor is refused (R67, R245). -/
def dsBad (s : State) (c : Fin 96) (d : Nat) : Option Nat :=
  if !dHasDs d || isBuddy s c then none
  else match dsBaseOf s c with
    | none => none
    | some base =>
      let a := base + 64 * dDs d
      if (engFault s c true a 64).isSome then some (engFailAt s c true a 64) else none

/-- The first such place of several descriptors. -/
def dsBadAny (s : State) (c : Fin 96) (ds : List Nat) : Option Nat := ds.findSome? (dsBad s c)

/-- The conversion mode of an instruction that writes through descriptor `d`. -/
def cvtMode (s : State) (c : Fin 96) (w d : Nat) (origin : DWord) (lanes : Nat) : CvtMode :=
  ⟨insRnd w, insSat w,
    if insTensor w then some (match dsBaseOf s c with | some b => dsExp s b (dDs d) | none => 0) else none,
    origin, lanes⟩

/-! ### The MV ring (R131 to R133) -/

/-- The pieces of data SRAM behind ring bytes [off, off + n). -/
def ringPieces (c : Fin 96) (region off n : Nat) : List (Nat × Nat) :=
  let o := off % 65536
  if o + n ≤ 65536 then [(dataAddr c (region + o), n)]
  else [(dataAddr c (region + o), 65536 - o), (dataAddr c region, n - (65536 - o))]

/-- Ring bytes. -/
def ringRead (s : State) (c : Fin 96) (region off n : Nat) : List Byte :=
  (ringPieces c region off n).flatMap (fun p => s.bytes p.1 p.2)

/-- A ring byte is poisoned. -/
def ringPois (s : State) (c : Fin 96) (region off n : Nat) : Bool :=
  (ringPieces c region off n).any (fun p => s.poisoned p.1 p.2)

/-- Writes ring bytes, then marks the poisoned ones. -/
def ringWrite (s : State) (c : Fin 96) (region off : Nat) (bs : List Byte) (marks : List (Nat × Nat)) : State :=
  let ps := ringPieces c region off bs.length
  let s := (ps.foldl (fun (acc : State × List Byte) p =>
    (acc.1.write p.1 (acc.2.take p.2) false, acc.2.drop p.2)) (s, bs)).1
  marks.foldl (fun s m => (ringPieces c region (off + m.1) m.2).foldl (fun s p => s.mark p.1 p.2) s) s

/-- The elements of run `r` of a dense ring chunk that begins at `off`. -/
def ringRun (s : State) (c : Fin 96) (region off : Nat) (l : Lay) (r : Nat) : List Elem :=
  let row := ceilDiv (l.n0 * l.fmt.width) 8
  let nb := ceilDiv l.n0 32
  let a := off + r * row
  let sa := off + l.runs * row + r * nb
  elemsOf l.fmt l.n0 (ringRead s c region a row)
    (if l.fmt.isBq then (ringRead s c region sa nb).map BitVec.toNat else [])
    (fun i k => ringPois s c region (a + i) k) (fun k => ringPois s c region (sa + k) 1)

end Sys2Proof.Machine
end

