-- ==== Sys2Proof/Machine/Resident.lean ====
section
/-! DEFINITION.  What keeps the head instruction of an engine from starting: residency and reservation
(R84), the MV ring (R131 to R133), the commit gate (R352), the group of XI (R320), and the engine status
that shows it (R101). -/

namespace Sys2Proof.Machine

open Sys2Proof

/-- R84: no write of another engine in flight on the reads, no access of one on the writes. -/
def resident (k : Core) (e : Fin 10) (reads writes : List Range) : Bool :=
  let meets := fun (a b : List Range) => a.any (fun x => b.any (fun y => overlap x.addr x.len y.addr y.len))
  (List.finRange 10).all (fun f => decide (f = e) ||
    (vget k.eng f).flight.all (fun i => !meets i.writes reads && !meets i.writes writes && !meets i.reads writes))

/-- R85: a write in flight on engine `e` that meets a range of a compute instruction of another engine: it is held until
that instruction completes.  Such an instruction started first, since R84 lets none start over a write in flight. -/
def heldWrite (k : Core) (e : Fin 10) (f : Flight) : Bool :=
  (List.finRange 10).any (fun d => decide (d ≠ e) && decide (5 ≤ d.val) && (vget k.eng d).flight.any (fun i =>
    (i.reads ++ i.writes).any (fun x => f.writes.any (fun y => overlap x.addr x.len y.addr y.len))))

/-- Descriptor `i` of a core, as the engines read it at a start (R80). -/
def descOf (s : State) (c : Fin 96) (i : Nat) : Nat := if i = 0 then 0 else s.num (descAddr c i) 64

/-- The ranges that a descriptor of a compute engine names in the core's own SRAM. -/
def descRanges (c : Fin 96) (d : Nat) : List Range :=
  if dType d = 1 then
    if dSpace d = 1 ∨ dSpace d = 2 then
      let l := absT c d
      ⟨l.extent.1, l.extent.2⟩ :: (if l.fmt.isBq then [⟨l.scaleExtent.1, l.scaleExtent.2⟩] else [])
    else []
  else if dType d = 2 then
    let v := cView d
    ⟨dataAddr c v.base, (v.hIn - 1) * v.stH + (v.wIn - 1) * v.stW + ceilDiv (v.c * v.fmt.width) 8⟩ ::
      (if v.fmt.isBq then [⟨dataAddr c v.scalePtr, v.wIn * v.hIn * ceilDiv v.c 32⟩] else [])
  else if dType d = 4 then
    [⟨dataAddr c (field d 128 22), dB d 20 4 * (if dB d 28 1 = 0 then 2 else 4)⟩]
  else []

/-- M_DESC, V_DESC, VC_DESC and EMA_DESC of an UPDATE descriptor (R198). -/
def updState (D : Nat → Nat) (w : Nat) : List Nat := [18, 19, 20, 21].map (fun i => dB (D (insAux w)) i 1)

/-- The descriptors that a compute instruction writes. -/
def destDescs (D : Nat → Nat) (w : Nat) : List Nat :=
  if insEng w = 5 ∧ insOp w = 1 then (mmSlots D w).filterMap (fun m => if m.valid then some m.c else none)
  else if insEng w = 7 ∧ insOp w = 0x23 then [insDst w, insAux w]
  else if insEng w = 8 ∧ insOp w = 1 then insDst w :: updState D w
  else if insEng w = 8 ∧ insOp w = 2 then [dB (D (insAux w)) 22 1]
  else [insDst w]

/-- The descriptors that a compute instruction reads. -/
def sourceDescs (D : Nat → Nat) (w : Nat) : List Nat :=
  if insEng w = 5 ∧ insOp w = 1 then (mmSlots D w).flatMap (fun m => if m.valid then [m.a, m.b] else [])
  else (namedDescs w).filter (fun i => decide (i ≠ insDst w))

/-- R385: the norm accumulator of a LAMB UPD_APPLY: its descriptor, and whether the instruction writes it (the gather
pass, where STATE is not +1.0). -/
def lambNorm (s : State) (c : Fin 96) (w : Nat) : Option (Nat × Bool) :=
  let u := descOf s c (insAux w)
  if insEng w = 8 ∧ insOp w = 1 ∧ dB u 16 1 = 8 then
    let n := dB u 22 1
    some (n, decide (s.num ((absT c (descOf s c n)).base + 12) 4 ≠ 0x3F800000))
  else none

/-- R84: the ranges that the instruction names are resident and its output range is free. -/
def residentFor (s : State) (c : Fin 96) (e : Fin 10) (w : Nat) : Bool :=
  let D := descOf s c
  let of := fun (is : List Nat) => is.flatMap (fun i => descRanges c (D i))
  let norm := fun (wr : Bool) => match lambNorm s c w with
    | some (n, g) => if wr && !g then [] else descRanges c (D n)
    | none => []
  resident (s.core c) e (of (sourceDescs D w) ++ norm false) (of (destDescs D w) ++ norm true)

/-- The range of the result record. -/
def resRange (c : Fin 96) (w : Nat) : Range := ⟨dataAddr c (insResOff w), 16⟩

/-! ### The MV ring -/

/-- Bytes of the ring that loads in flight have reserved beyond FILL. -/
def ringReserved (k : Core) : Nat := ((k.engine 0).flight.map (fun f => f.ringFill)).foldl (· + ·) 0
/-- Bytes of the ring that MVMULs in flight consume beyond CONS. -/
def ringTaken (k : Core) : Nat := ((k.engine 6).flight.map (fun f => f.ringCons)).foldl (· + ·) 0
/-- FILL − CONS. -/
def MvRing.level (r : MvRing) : Nat := (r.fill - r.cons).toNat

/-- R132: an LD into the ring waits for its space. -/
def loadReady (s : State) (c : Fin 96) (w : Nat) : Bool :=
  let d := descOf s c (insDst w)
  if dSpace d = 3 ∧ dType d = 1 then
    decide ((s.core c).mv.level + ringReserved (s.core c) + (tLay d).ringBytes ≤ 65536) ||
      decide (65536 < (tLay d).ringBytes) || (s.core c).mv.region.isNone
  else true

/-- R133: the whole chunk is filled, and R84 holds. -/
def mvReady (s : State) (c : Fin 96) (w : Nat) : Bool :=
  let k := s.core c
  (k.mv.region.isNone ||
    decide ((tLay (descOf s c (insB w))).ringBytes + ringTaken k ≤ k.mv.level)) && residentFor s c 6 w

/-- R131, R84: no LD or MV instruction that uses the ring is in flight, and the region named is free. -/
def ringSetReady (s : State) (c : Fin 96) (w : Nat) : Bool :=
  ((s.core c).engine 0).flight.all (fun f => f.ringFill == 0) &&
    ((s.core c).engine 6).flight.all (fun f => f.ringCons == 0) && residentFor s c 6 w

/-! ### Conditions of single operations -/

/-- R167: under DET an instruction begins once the GX instructions before it have completed. -/
def scatterAddReady (s : State) (c : Fin 96) (w : Nat) : Bool :=
  !bit w 158 || ((s.core c).engine 2).flight.isEmpty

/-- R84 for RK: DST, AUX and the result record are its output. -/
def rkReady (s : State) (c : Fin 96) (w : Nat) : Bool :=
  let D := descOf s c
  resident (s.core c) 9 (descRanges c (D (insA w)) ++ descRanges c (D (insB w)))
    (descRanges c (D (insDst w)) ++ descRanges c (D (insAux w)) ++ (if insOp w = 1 then [] else [resRange c w]))

/-- GROUP of an XI instruction. -/
def insGroup (w : Nat) : Nat := imm w 169 158

/-- R320: no XI instruction in flight names the group. -/
def xiReady (s : State) (c : Fin 96) (w : Nat) : Bool :=
  ((s.core c).engine 4).flight.all (fun f => match f.xi with
    | some x => decide (x.group ≠ insGroup w)
    | none => true)

/-- R296, R315: XO has handed every message of its instructions to the router. -/
def xoReady (s : State) (c : Fin 96) (_ : Nat) : Bool :=
  ((s.core c).engine 3).flight.all (fun f => f.unsent.isEmpty)

/-! ### The gate (R352) -/

/-- State of the gate of the partition that owns a core: 0 CLOSED, 1 OPEN, 2 SKIP. -/
def gateOf (s : State) (c : Fin 96) : BitVec 2 :=
  match ownerOf s c with | some p => (s.part p).cl.gate | none => 0

/-- R352: the gate lets UP start a gated instruction. -/
def gatePasses (s : State) (c : Fin 96) : Bool :=
  (gateOf s c == 1 || gateOf s c == 2) && isStepCore s c && !(s.core c).updDone

/-- R84 and R352 for UPD_APPLY and UPD_WCOPY. -/
def gateReady (s : State) (c : Fin 96) (w : Nat) : Bool := gatePasses s c && residentFor s c 8 w

/-! ### ENG_STATUS (R101) -/

/-- The instruction has a range in a stack. -/
def Flight.onStack (f : Flight) : Bool :=
  (f.reads ++ f.writes).any (fun r => overlap r.addr r.len 0 (6 * stackSpan))

/-- R221: an instruction with a range in a stack does not complete while the stacks change their step. -/
def Flight.stalled (s : State) (f : Flight) : Bool := s.ms.mstepTo.isSome && f.onStack

/-- What holds a head instruction whose waits are met, beside kernels and HOLD: 2 residency (R84), 3 the group of XI
(R320), 0 nothing. -/
def startBlock (s : State) (c : Fin 96) (e : Fin 10) (w : Nat) : Nat :=
  if e = 6 then (if (if insOp w = 2 then ringSetReady s c w else mvReady s c w) then 0 else 2)
  else if e = 9 then (if rkReady s c w then 0 else 2)
  else if 5 ≤ e.val then (if residentFor s c e w then 0 else 2)
  else if e = 3 then (if xoReady s c w then 0 else 3)
  else if e = 4 then (if xiReady s c w then 0 else 3)
  else if e = 0 then (if loadReady s c w then 0 else 2)
  else 0

/-- R82, item 1: the engine accepts its next instruction.  A traverse or exchange engine has room for eight in flight
(R87); MX and MV accept at the points of R117 and R135; the others once the one before is complete. -/
def accepts (n : Eng) (e : Fin 10) : Bool :=
  decide (n.accept = 0) &&
    (if e.val < 5 then decide (n.flight.length < 8) else if e.val < 7 then true else n.flight.isEmpty)

/-- The head instruction of an engine cannot start (HEAD_BLOCKED): its waits, a hold, a kernel, a fault, an engine that does
not accept yet, its residency, or for SCATTER_ADD the adds before it (R167). -/
def headBlocked (s : State) (c : Fin 96) (e : Fin 10) (w : Nat) : Bool :=
  let k := s.core c
  let n := k.engine e
  n.kernel || (n.hold && !n.stepOnce) || !waitsMet k w || n.faulted || k.faulted || !accepts n e ||
    (decide (e = 8) && decide (insOp w ≠ 2) && !gatePasses s c) || decide (startBlock s c e w ≠ 0) ||
    (decide (e = 2) && decide (insOp w = 3) && !scatterAddReady s c w)

/-- BLOCK_CAUSE of an engine: 1 a wait or the commit gate, 2 residency, the MV ring or a write held under R85, 3 stack
memory, the fabric group of XI, a kernel or HOLD; 0 where the head is held by none of them.  Where several hold at once, a
kernel or HOLD goes first, then a wait or the gate, then residency, then what the engine's oldest instruction waits for
(DESIGN CHOICE, log 92: R101 gives no priority). -/
def blockCauseOf (s : State) (c : Fin 96) (e : Fin 10) : Nat :=
  let k := s.core c
  let n := k.engine e
  match n.queue with
  | [] => 0
  | q :: _ =>
    let w := q.word.toNat
    if n.kernel || (n.hold && !n.stepOnce) then 3
    else if !waitsMet k w || (decide (e = 8) && decide (insOp w ≠ 2) && !gatePasses s c) then 1
    else if n.faulted || k.faulted then 0
    else if startBlock s c e w ≠ 0 then startBlock s c e w
    else match n.flight with
      | [] => 0
      | f :: _ =>
        if accepts n e then 0
        else if heldWrite k e f then 2
        else if e.val < 5 && (f.xi.isSome || f.onStack) then 3
        else 0

/-- ENG_STATUS as a word. -/
def engStatus (s : State) (c : Fin 96) (e : Fin 10) : Nat :=
  let n := (s.core c).engine e
  let act := !n.flight.isEmpty
  match n.queue with
  | [] => b2n act * 64
  | q :: _ =>
    let b := blockCauseOf s c e
    n.queue.length + b2n act * 64 + b2n (headBlocked s c e q.word.toNat) * 128 + q.slot.toNat * 256 + 2 ^ 19 + b * 2 ^ 20

end Sys2Proof.Machine
end

