-- ==== Sys2Proof/Machine/Engine.lean ====
section
/-! DEFINITION.  Starting, completing and faulting an instruction of an engine (R76 to R102, R155 to
R157, R211, R214, R215), once for every engine. -/

namespace Sys2Proof.Machine

open Sys2Proof

/-! ### Views (R101) -/

/-- No engine of the core executes. -/
def Core.idle (k : Core) : Bool := k.eng.toList.all (fun e => e.flight.isEmpty)
/-- Every queue is empty. -/
def Core.drained (k : Core) : Bool := k.eng.toList.all (fun e => e.queue.isEmpty)
/-- RUNNING: the sequencer fetches or an engine is active. -/
def Core.running (k : Core) : Bool := k.fetching || !k.idle

/-- R89: the hidden context holds the engine: it has taken it, and what the program had started is complete. -/
def Eng.stolen (n : Eng) : Bool := n.kernel && n.flight.isEmpty

/-- CORE_CTRL as it reads. -/
def coreCtrlWord (s : State) (c : Fin 96) : Nat :=
  let k := s.core c
  b2n k.stopped * 8 + b2n k.running * 16 + b2n k.faulted * 32 + b2n (coreAbsent c) * 64 +
    b2n k.retired * 128 + b2n (k.eng.toList.any Eng.stolen) * 256 + k.startIndex.toNat * 65536

/-- FAULT as a word. -/
def FaultReg.word (f : FaultReg) : Nat :=
  f.code.toNat + b2n f.valid * 256 + f.index.toNat * 65536 + f.eng.toNat * 2 ^ 27

/-- The traverse and exchange engines LD, ST, GX, XO and XI (R83). -/
def isTraverse (e : Fin 10) : Bool := decide (e.val < 5)

/-! ### The passing of cycles -/

/-- R83, R171, R241, R576 line 7: the classes of a cycle in which an instruction's request waits on the stacks that its
ranges touch: STACK, or THERMAL at a stack whose throttle step is above 0. -/
def stackClasses (s : State) (f : Flight) : List (Fin 11) :=
  (List.finRange 6).filterMap (fun n =>
    if (f.reads ++ f.writes).any (fun r => overlap r.addr r.len (n.val * stackSpan) stackSpan) then
      some (if (vget s.ms.stk n).throttle = 0 then 4 else 8)
    else none)

/-- R155, R157: an ORIGIN_LOG instruction of engine `e` finds room among the 8 entries in flight and, under REPLAY, its entry
fetched. -/
def LaneGen.canLog (g : LaneGen) (e : Fin 10) : Bool := decide (g.logFly.length < 8) && !(g.replay && g.rplStale.contains e.val)

/-- R485: CCLK edges are being suppressed. -/
def skipping (s : State) : Bool := decide (s.ts < s.pw.skipUntil)

/-- R576: the counters that an engine may add to in a counted cycle.  Which of several it is only timing decides (R7):
whether a running instruction progresses or waits for a stack (R83, R171), for fabric credit (R278, R296) or for a slot
that issue gating withholds (R130, R135, R496), THERMAL while the Tj loop sets T (R494). -/
def cycleClasses (s : State) (c : Fin 96) (e : Fin 10) : List (Fin 11) :=
  let k := s.core c
  let n := k.engine e
  if n.stolen then [9]
  else match n.flight with
    | i :: _ =>
      if heldWrite k e i && (match i.xi with | some x => x.done | none => n.flight.all (heldWrite k e)) then [3]
      else if i.xi.isSome || n.flight.any (fun f => !f.unsent.isEmpty) then [5]
      else if e.val = 5 ∨ e.val = 6 then
        (if s.pw.t.isSome then [if s.pw.limiter = 5 then 8 else 6, 0] else [0])
      else if n.flight.all (Flight.stalled s) then [4]
      else if e.val < 5 then
        (n.flight.flatMap (stackClasses s)).eraseDups ++ (if e.val = 3 then [5, 0] else [0])
      else [0]
    | [] => match n.queue with
      | [] => [1]
      | q :: _ =>
        let w := q.word.toNat
        if !waitsMet k w || (decide (e = 8) && decide (insOp w ≠ 2) && !gatePasses s c) then [2]
        else if n.hold || k.stopped then (if startBlock s c e w = 2 then [3] else [1])
        else if insOlog w && !k.lg.canLog e then [3]
        else (if s.ms.mstepTo.isSome || !s.ms.waiting.isEmpty then [4] else []) ++ (if e.val = 3 ∨ e.val = 4 then [5] else [3])

/-- `g` cycles divided among the classes that they may count in, by free values (log 7). -/
def splitCycles : List (Fin 11) → Nat → State → List (Fin 11 × Nat) × State
  | [], _, s => ([], s)
  | [x], g, s => ([(x, g)], s)
  | x :: y :: t, g, s =>
    let (v, s) := s.fresh
    let n := v % (g + 1)
    let (r, s) := splitCycles (y :: t) (g - n) s
    ((x, n) :: r, s)

/-- The sequencer's cycles (R576), of which `blocked` are those of the engine whose full queue blocks it. -/
def seqSplit (k : Core) (g : Nat) (blocked : List (Fin 11 × Nat)) : List (Fin 11 × Nat) :=
  if !k.fetching then [(1, g)] else if k.blockCause = 2 then [(2, g)] else if k.blockCause = 1 then blocked else [(0, g)]

/-- Cycles added to one block of the activity counters. -/
def ActCtrs.add (a : ActCtrs) (b : Fin 11) (l : List (Fin 11 × Nat)) : ActCtrs :=
  { a with blocks := vmod a.blocks b (fun v => l.foldl (fun v p => vmod v p.1 (fun x => x + BitVec.ofNat 64 p.2)) v) }

/-- R485: the counters of a core for `g` cycles whose edges are suppressed: CLOCK_SKIP, but TEST_STEAL and IDLE
stay what they are (R576, lines 1, 2 and 9). -/
def skipAct (s : State) (c : Fin 96) (g : Nat) : State :=
  if g = 0 ∨ s.pw.wstate ≠ 0 ∨ coreShut s c then s
  else
    let k := s.core c
    let of := fun (l : List (Fin 11)) => if l = [9] then (9 : Fin 11) else if l = [1] then 1 else 7
    let a := (List.finRange 10).foldl (fun (a : ActCtrs) e =>
      a.add ⟨e.val, by omega⟩ [(of (cycleClasses s c e), g)]) k.ac
    let a := a.add 10 [(if k.fetching then 7 else 1, g)]
    s.setCore c { k with ac := { a with cycles := a.cycles + BitVec.ofNat 64 g } }

/-- R575: `g` counted cycles, in W0 only; while edges are suppressed, one goes with each (R485). -/
def passAct (s : State) (c : Fin 96) (g : Nat) : State :=
  if s.pw.wstate ≠ 0 then s
  else
    let k := s.core c
    let r := (List.finRange 10).foldl (fun (acc : (ActCtrs × List (Fin 11 × Nat)) × State) e =>
      let l := splitCycles (cycleClasses s c e) g acc.2
      ((acc.1.1.add ⟨e.val, by omega⟩ l.1, if e.val = k.blockEng.toNat then l.1 else acc.1.2), l.2))
      ((k.ac, [(0, g)]), s)
    let a := r.1.1.add 10 (seqSplit k g r.1.2)
    let s := r.2.setCore c { k with ac := { a with cycles := a.cycles + BitVec.ofNat 64 g } }
    if skipping s then skipAct s c g else s

/-- `g` cycles nearer to the point at which the engine accepts its next instruction (R82). -/
def Eng.pass (n : Eng) (g : Nat) : Eng := { n with accept := n.accept - g }

/-- `g` cycles of the array (R106, R129): the shadow tile becomes active with its instruction's first A row. -/
def MxArray.pass (x : MxArray) (g : Nat) : MxArray :=
  let x := { x with streamLeft := x.streamLeft - g, doneLeft := x.doneLeft - g }
  match x.shadow with
  | none => x
  | some (t, n) => if n ≤ g then { x with active := some t, shadow := none } else { x with shadow := some (t, n - g) }

/-- R155, R157: while cycles pass, some of the oldest entries in flight reach memory and some replay entries are fetched; which,
is timing (free values, log 7). -/
def passLog (s : State) (c : Fin 96) : State :=
  let g := (s.core c).lg
  if g.logFly = [] ∧ g.rplStale = [] then s
  else
    let (v, s) := s.fresh
    let (m, s) := s.fresh
    s.modCore c (fun k => { k with lg := { k.lg with
      logFly := k.lg.logFly.drop (v % 9), rplStale := k.lg.rplStale.filter (fun e => bit m e) } })

/-- R155: of the entries in flight of engine `e`, no more stay than it has instructions in flight that log. -/
def landLog (s : State) (c : Fin 96) (e : Fin 10) : State :=
  s.modCore c (fun k =>
    if ((k.engine e).flight.countP (fun f => insOlog f.ent.word.toNat)) < k.lg.logFly.count e.val then
      { k with lg := { k.lg with logFly := k.lg.logFly.erase e.val } }
    else k)

/-- `g` CCLK cycles of core `c` pass: counters close their cycle (R93), lane banks advance (R151), a
waiting STEP_TAG comes into force (R102), engines come nearer to accepting (R82), activity counters count (R575). -/
def passCore (s : State) (c : Fin 96) (g : Nat) : State :=
  if g = 0 then s
  else
    let s := passLog (passAct s c g) c
    let k := s.core c
    let fl := newFlags k
    let k' := passTags { k with
      ctr := k.ctr.map (fun t => t.pass g)
      lg := { k.lg with vx := k.lg.vx.pass g, edge := k.lg.edge.pass g }
      eng := k.eng.map (fun n => n.pass g), mx := k.mx.pass g, seqDone := false, phaseEng := none } g
    fl.foldl (fun s p => flagSet s c p.1 p.2) (s.setCore c k')

/-! ### Faults (R87) -/

/-- R87: engine `e` (15 for the sequencer) faults with `code` at `slot`; `more` ends the event record. -/
def faultWith (s : State) (c : Fin 96) (e : Nat) (slot : Nat) (code : Nat) (more : List Byte) : State :=
  let k := s.core c
  let f : FaultReg := ⟨BitVec.ofNat 8 code, true, BitVec.ofNat 11 slot, BitVec.ofNat 4 e⟩
  let k := match engOf? e with
    | some e => k.modEng e (fun n => { n with faulted := true })
    | none => k
  let k := { k with
    fault := if k.faulted then k.fault else f
    faulted := true, stopped := true, fetching := false, halted := false, blockCause := 3 }
  let s := s.setCore c k
  let st := match engOf? e with | some e => engStatus s c e | none => 0
  let s := recordCore s 0x0101 c (leBytes 4 f.word ++ leBytes 4 st ++ more)
  let s := fbPut s c 0x3 e (leBytes 2 slot ++ leBytes 1 code)
  fbTrigger s c 0x01

/-- R87: engine `e` (15 for the sequencer) faults with `code` at `slot`. -/
def faultCore (s : State) (c : Fin 96) (e : Nat) (slot : Nat) (code : Nat) : State := faultWith s c e slot code []

/-- R87, R215: of the instructions in flight on a faulting engine, those from position `i` on complete
nothing, and what they write, here or at a remote range on this device, is undefined. -/
def dropFlights (s : State) (c : Fin 96) (e : Fin 10) (i : Nat) : State :=
  let lost := ((s.core c).engine e).flight.drop i
  let s := s.modCore c (fun k => k.modEng e (fun n => { n with flight := n.flight.take i }))
  (s.spoilFor c (lost.flatMap (fun f => f.writes))).spoil (lost.flatMap (fun f => f.remote))

/-! ### Draw origins (R152, R155 to R157) -/

/-- An origin, or the fault that its replay or its log gives. -/
inductive OriginRes where
  | ok (s : State) (o : DWord)
  | bad (s : State) (code : Nat)
  deriving Repr

/-- The tag an instruction carries in the origin log: STEP_TAG, the gate tag for a gated one of UP (R352). -/
def tagFor (s : State) (c : Fin 96) (e : Fin 10) : Word :=
  if e.val = 8 then (match ownerOf s c with | some p => (s.part p).cl.gateTag | none => 0) else (s.core c).stepTag

/-- R155, R156: one entry of the origin log, or a counted drop.  A refused log write leaves SEQ as it is, so that only starts
that went on count in it, and ORIGIN_LAST_e with the origin that the instruction had latched (DESIGN CHOICE, log 93: R155 and
R159 do not say). -/
def logOrigin (s : State) (c : Fin 96) (e : Fin 10) (slot : Nat) (o : DWord) (tag : Word) : OriginRes :=
  let k := s.core c
  let g := k.lg
  let seq := (vget g.logSeq e)
  let full := vget g.seqFull e
  let step := fun (s : State) => s.modCore c (fun k => { k with
    lg := { k.lg with
      logSeq := vset k.lg.logSeq e (if seq = 0xFFFF then 0xFFFF else seq + 1)
      seqFull := vset k.lg.seqFull e (full || decide (seq = 0xFFFF)) } })
  if full || decide (g.ologSize.toNat ≤ g.ologWptr.toNat) then
    .ok (step (s.modCore c (fun k => { k with
      lg := { k.lg with ologDrops := satAdd k.lg.ologDrops 1, ologOvf := true } }))) o
  else
    let a := g.ologBase.toNat + 16 * g.ologWptr.toNat
    match logFault s c true a with
    | some x => .bad (engViolation s c x) fPLAT
    | none =>
      let bs := leBytes 8 o.toNat ++ leBytes 2 (slot + e.val * 2048) ++ leBytes 2 seq.toNat ++
        leBytes 4 tag.toNat
      .ok (step ((s.write a bs false).modCore c (fun k => { k with
        lg := { k.lg with ologWptr := k.lg.ologWptr + 1, logFly := k.lg.logFly ++ [e.val] } }))) o

/-- R152, R157: the origin of an instruction that draws: from the replay table under REPLAY with ORIGIN_LOG, else latched
from its bank; logged where it carries ORIGIN_LOG.  A replay entry is compared with all 16 bits of its INDEX, ENG halfword, so
that a set reserved bit 15 is a mismatch, and RPL_PTR_e stays incremented where the log write of the supplied origin is then
refused (DESIGN CHOICE, log 93: R157 says neither). -/
def takeOrigin (s : State) (c : Fin 96) (e : Fin 10) (w slot : Nat) : OriginRes :=
  let k := s.core c
  let g := k.lg
  let use := fun (s : State) (o : DWord) =>
    let s := s.modCore c (fun k => { k with lg := { k.lg with originLast := vset k.lg.originLast e o } })
    if insOlog w then logOrigin s c e slot o (tagFor s c e) else .ok s o
  if insOlog w ∧ g.replay then
    let p := vget g.rplPtr e
    let a := g.rplBase.toNat + 16 * p.toNat
    if g.rplSize.toNat ≤ p.toNat then .bad s fORIGIN
    else if (logFault s c false a).isSome then .bad (engViolation s c a) fPLAT
    else if s.num (a + 8) 2 = slot + e.val * 2048 ∧ s.num (a + 10) 2 = (vget g.logSeq e).toNat then
      use (s.modCore c (fun k => { k with lg := { k.lg with
        rplPtr := vset k.lg.rplPtr e (p + 1), rplStale := insRise k.lg.rplStale e.val } }))
        (BitVec.ofNat 64 (s.num a 8))
    else .bad s fORIGIN
  else
    let b := if e.val = 5 then g.edge.s else g.vx.s
    use s (b ^^^ BitVec.ofNat 64 (e.val * 2 ^ 60))

/-! ### Starting (R82, R211) -/

/-- What the work of an instruction gives. -/
structure Eff where
  st : State
  reads : List Range
  writes : List Range
  /-- ranges on this device that the instruction's messages target (R215) -/
  remote : List Range
  /-- messages that the router had no room for yet (R296) -/
  unsent : List Msg
  pois : Bool
  /-- fault during the run, with the address of a refused access -/
  fault : Option (Nat × Option Nat)
  xi : Option XiWait
  fill : Nat
  cons : Nat
  /-- CCLK cycles from the start to the point at which the engine accepts its next instruction (R82, item 1) -/
  accept : Nat

/-- Work that went through. -/
def Eff.done (s : State) (reads writes : List Range) (pois : Bool) : Eff :=
  ⟨s, reads, writes, [], [], pois, none, none, 0, 0, 1⟩
/-- Work that faulted. -/
def Eff.bad (s : State) (writes : List Range) (code : Nat) (a : Option Nat) : Eff :=
  ⟨s, [], writes, [], [], false, some (code, a), none, 0, 0, 1⟩

/-- R73, R75, R87: a DEV operand in a core window, checked at the start. -/
def windowCheck (s : State) (c : Fin 96) (d : Nat) : Option Nat :=
  if dType d = 1 ∧ dSpace d = 0 then
    (dBase d :: (if (dFmt d).isBq then [(tLay d).scalePtr] else [])).findSome? (fun a =>
      (winSplit a).bind (fun p => winFault s (ownerNum s c) p.1))
  else none

/-- The checks at a start (R211, R64, R131, R132, R73): the fault code, or none. -/
def startCheck (s : State) (c : Fin 96) (w : Nat) : Option Nat :=
  let D := descOf s c
  let ds := (namedDescs w).map D
  let bundle := if insEng w = 5 ∧ insOp w = 1 then
      (mmSlots D w).flatMap (fun m => if m.valid then [D m.a, D m.b, D m.c] else []) else []
  let ups := if insEng w = 8 ∧ insOp w = 1 then [18, 19, 20, 21, 22].map (fun i => D (dB (D (insAux w)) i 1))
    else if insEng w = 8 ∧ insOp w = 2 then [D (dB (D (insAux w)) 22 1)] else []
  let states := if insEng w = 8 ∧ insOp w = 1 then (updState D w).map D else []
  let all := ds ++ bundle ++ ups
  let dests :=
    (if (insEng w = 0 ∧ insOp w = 2) ∨ (insEng w = 9 ∧ insOp w < 7) ∨ (insEng w = 4 ∧ insOp w ≠ 4) ∨
        (insEng w = 2 ∧ insOp w = 4) ∨ (insEng w = 6 ∧ insOp w = 2)
      then states else D (insDst w) :: states) ++
    (if insEng w = 5 ∧ insOp w = 1 then (mmSlots D w).filterMap (fun m => if m.valid then some (D m.c) else none)
      else if insEng w = 2 ∧ insOp w = 4 then [D (imm w 183 176)] else [])
  errs ([(if s.num (descAddr c 0) 64 ≠ 0 then some fDESC else none),
    all.foldr (fun d r => orErr (descCheck d) r) none, (insCheck true D w).map errCode,
    all.foldr (fun d r => orErr (windowCheck s c d) r) none,
    (if dests.any (fun d => dHasDs d && dType d == 1) && (dsBaseOf s c).isNone then some fNODS else none),
    (if (insEng w = 0 ∧ insOp w = 1 ∧ dSpace (D (insDst w)) = 3) ∨ (insEng w = 6 ∧ insOp w = 1) then
      (if (s.core c).mv.region.isNone then some fRING else none) else none)])

/-- R82, items 1, 2, 4 and 5, and R87: the head instruction of engine `e`, where it may start as far as its
queue, its waits, holds and faults go. -/
def headReady (s : State) (c : Fin 96) (e : Fin 10) (op : Nat) : Option QEnt :=
  let k := s.core c
  let n := k.engine e
  match n.queue with
  | [] => none
  | q :: _ =>
    let w := q.word.toNat
    if insEng w = e.val ∧ insOp w = op ∧ k.faulted = false ∧ n.faulted = false ∧ n.kernel = false ∧
        (n.hold = false ∨ n.stepOnce = true) ∧ accepts n e = true ∧ waitsMet k w = true ∧
        (insOlog w = true → k.lg.canLog e = true) then
      some q
    else none

/-- The head instruction leaves its queue: subtractions, STEP, phase mark, STARTS, START record
(R81, R82, R92, R208, R575, R579). -/
def beginStart (s : State) (c : Fin 96) (e : Fin 10) (q : QEnt) : State :=
  let w := q.word.toNat
  let k := subWaits (s.core c) w
  let k := k.modEng e (fun n => { n with queue := n.queue.tail, stepOnce := false, accept := 1 })
  let k := if insPhaseMark w && k.phaseEng.all (fun f => decide (f.val < e.val)) then
      { k with phaseId := BitVec.ofNat 6 (insPhase w), phaseValid := true, phaseEng := some e }
    else k
  let k := { k with ac := { k.ac with
    blocks := vmod k.ac.blocks ⟨e.val, by omega⟩ (fun v => vmod v 10 (· + 1)) } }
  fbPut (progress (s.setCore c k) c) c 0x1 e.val
    (leBytes 2 q.slot.toNat ++ leBytes 1 (k.phaseId.toNat + 64 * b2n k.phaseValid) ++ [0] ++ leBytes 4 k.stepTag.toNat)

/-- A fault of the instruction just taken from the queue: it stays at the head (R87). -/
def faultHead (s : State) (c : Fin 96) (e : Fin 10) (q : QEnt) (code : Nat) : State :=
  faultCore (s.modCore c (fun k => k.modEng e (fun n => { n with queue := q :: n.queue }))) c e.val
    q.slot.toNat code

/-- The work of an instruction: the state, its core, its word, its slot, its draw origin. -/
abbrev Work := State → Fin 96 → Nat → Nat → DWord → Eff

/-- R215: what an instruction of core `c` has not written for a fault during its run is undefined. -/
def Eff.lost (f : Eff) (s : State) (c : Fin 96) : State := (s.spoilFor c f.writes).spoil f.remote

/-- Starts the head instruction `q`, its start conditions met. -/
def startHead (s : State) (c : Fin 96) (e : Fin 10) (q : QEnt) (work : Work) : State :=
  let w := q.word.toNat
  let tag := (s.core c).stepTag
  let D := descOf s c
  let descs := (namedDescs w).filterMap (fun i => if i = 0 then none else some (i, BitVec.ofNat 512 (D i)))
  let s := beginStart s c e q
  match startCheck s c w with
  | some code => faultHead s c e q code
  | none =>
    match (if insDraws w then takeOrigin s c e w q.slot.toNat else .ok s 0) with
    | .bad s code =>
      faultHead (if code = fPLAT then (work s c w q.slot.toNat 0).lost s c else s) c e q code
    | .ok s o =>
      let s := meetErrs s (work s c w q.slot.toNat o).reads
      let f := work s c w q.slot.toNat o
      match f.fault with
      | some (code, a) =>
        let s := f.lost f.st c
        let s := match a with
          | some a => if code = fPLAT then engViolation s c a else s
          | none => s
        faultHead s c e q code
      | none =>
        let fl : Flight :=
          { ent := q, tag := tag, descs := descs, reads := f.reads, writes := f.writes, remote := f.remote, unsent := f.unsent,
            pois := f.pois,
            xi := f.xi, ringFill := f.fill, ringCons := f.cons, start := (s.core c).ac.cycles }
        f.st.modCore c (fun k => k.modEng e (fun n => { n with flight := n.flight ++ [fl], accept := max 1 f.accept }))

/-- What an instruction reads and writes when it starts: the ranges of its work, its entries of the origin log and of the replay
table (R155, R157), and the delayed-scaling entries that its descriptors name (R67). -/
def startRanges (s : State) (c : Fin 96) (e : Fin 10) (q : QEnt) (work : Work) : List Range :=
  let w := q.word.toNat
  let g := (s.core c).lg
  let f := work s c w q.slot.toNat 0
  let D := descOf s c
  f.reads ++ f.writes ++
    (if insOlog w then ⟨g.ologBase.toNat + 16 * g.ologWptr.toNat, 16⟩ ::
      (if g.replay then [⟨g.rplBase.toNat + 16 * (vget g.rplPtr e).toNat, 16⟩] else []) else []) ++
    (match dsBaseOf s c with
      | some b => ((namedDescs w).filter (fun i => dHasDs (D i))).map (fun i => ⟨b + 64 * dDs (D i), 64⟩)
      | none => [])

/-- R221, R238: the stacks take at once what the instruction reads and writes when it starts; where they do not, its start
waits (DESIGN CHOICE, log 103). -/
def stacksTake (s : State) (c : Fin 96) (e : Fin 10) (q : QEnt) (work : Work) : Bool :=
  (s.ms.mstepTo.isNone && s.ms.waiting.isEmpty) || stackFree s (startRanges s c e q work)

/-- The command that starts an instruction of engine `e` and operation `op`: cycles pass; the head
instruction starts where R82 lets it. -/
def startCmd (s : State) (c : Fin 96) (e : Fin 10) (op gap : Nat)
    (ready : State → Fin 96 → Nat → Bool) (work : Work) : State :=
  if coreShut s c then s
  else
  let s := passCore s c gap
  match headReady s c e op with
  | none => s
  | some q => if ready s c q.word.toNat && stacksTake s c e q work then startHead s c e q work else s

/-! ### Completing (R87, R91, R96, R188) -/

/-- R188: a program that has executed its HALT is complete once every engine is idle. -/
def progDone (s : State) (c : Fin 96) : State :=
  let k := s.core c
  if k.halted && k.idle && k.drained then
    let s := s.setCore c { k with halted := false, stopped := true }
    recordCore s 0x0102 c (leBytes 4 (coreCtrlWord s c))
  else s

/-- The signal of a completing instruction; poisoned writes without one set POISON_NOSIG (R96). -/
def completeSignal (s : State) (c : Fin 96) (e : Fin 10) (f : Flight) : State :=
  let w := f.ent.word.toNat
  if insSigEn w then signal s c (insSigCtr w) e.val f.ent.slot.toNat (insSigInc w) f.pois
  else if f.pois then s.modCore c (fun k => { k with num := { k.num with poisonNosig := true } })
  else s

/-- The oldest instruction in flight on engine `e` completes. -/
def completeOldest (s : State) (c : Fin 96) (e : Fin 10) : State :=
  match ((s.core c).engine e).flight with
  | [] => s
  | f :: _ =>
    let s := s.modCore c (fun k =>
      { k.modEng e (fun n => { n with flight := n.flight.tail }) with
        mv := { k.mv with
          fill := k.mv.fill + BitVec.ofNat 17 f.ringFill
          cons := k.mv.cons + BitVec.ofNat 17 f.ringCons } })
    let s := completeSignal (progress (landLog s c e) c) c e f
    let s := fbPut s c 0x2 e.val
      (leBytes 2 f.ent.slot.toNat ++ leBytes 1 (b2n f.pois) ++ [0] ++ leBytes 4 (min ((s.core c).ac.cycles - f.start).toNat 0xFFFFFFFF))
    progDone s c

end Sys2Proof.Machine
end

