-- ==== Sys2Proof/Machine/Traverse.lean ====
section
/-! DEFINITION.  The traverse engines LD, ST and GX (R160 to R171, R200 to R202). -/

namespace Sys2Proof.Machine

open Sys2Proof

/-- No condition beyond R82. -/
def always (_ : State) (_ : Fin 96) (_ : Nat) : Bool := true

/-- Raises TERN_CODE where an element read was the reserved code (R37). -/
def noteTern (s : State) (c : Fin 96) (es : List Elem) : State :=
  if es.any (fun e => e.tern) then raiseNum s c {} true else s

/-! ### LD and ST -/

/-- R51, R200: a whole tensor moved from `src` to `dst` (absolute layouts) through descriptor `d`. -/
def moveWork (s : State) (c : Fin 96) (w d : Nat) (o : DWord) (src dst : Lay) : Eff :=
  match orElseFault (spanFault s c false src.spans) (spanFault s c true dst.spans) with
  | some (f, a) => .bad s dst.ranges f (some a)
  | none =>
    let es := loadAll s src
    let (rs, ev) := moveRuns src dst (insTensor w) (cvtMode s c w d o 64) es
    match dsUpdate s c d (s.core c).stepTag (insTensor w) es.length ev with
    | none => .bad s dst.ranges fPLAT (dsBad s c d)
    | some s => .done (noteTern (storeAll s dst rs) c es) src.ranges dst.ranges (runsPois rs)
where
  /-- The first of two faults. -/
  orElseFault (a b : Option (Nat × Nat)) : Option (Nat × Nat) := match a with | some x => some x | none => b

/-- R132: a tensor moved into the MV ring at FILL. -/
def loadRing (s : State) (c : Fin 96) (w d : Nat) (o : DWord) (src : Lay) : Eff :=
  let k := s.core c
  let l := tLay d
  let region := (k.mv.region.map BitVec.toNat).getD 0
  let off := k.mv.fill.toNat + ringReserved k
  let n := l.ringBytes
  let writes := (ringPieces c region off n).map (fun p => (⟨p.1, p.2⟩ : Range))
  match spanFault s c false src.spans with
  | some (f, a) => .bad s writes f (some a)
  | none =>
    let es := loadAll s src
    let (rs, ev) := moveRuns src l (insTensor w) (cvtMode s c w d o 64) es
    match dsUpdate s c d k.stepTag (insTensor w) es.length ev with
    | none => .bad s writes fPLAT (dsBad s c d)
    | some s =>
      let row := ceilDiv (l.n0 * l.fmt.width) 8
      let data := rs.flatMap (fun r => packElems l.fmt.width r.codes)
      let sc := rs.flatMap (fun r => r.scales.map (BitVec.ofNat 8))
      let bs := padTo (data ++ sc) n
      let marks := rs.zipIdx.flatMap (fun (r, i) => r.pois.zipIdx.flatMap (fun (p, j) =>
        if p then
          (i * row + j * l.fmt.width / 8, max 1 (l.fmt.width / 8)) ::
            (if l.fmt.isBq then [(data.length + i * ceilDiv l.n0 32 + j / 32, 1)] else [])
        else []))
      { Eff.done (noteTern (ringWrite s c region off bs marks) c es) src.ranges writes (runsPois rs) with fill := n }

/-- LOAD (R200). -/
def workLoad : Work := fun s c w _ o =>
  let d := descOf s c (insDst w)
  let src := absT c (descOf s c (insA w))
  if dSpace d = 3 then loadRing s c w d o src else moveWork s c w d o src (absT c d)

/-- FILL (R200): the low bits of PATTERN into every element. -/
def workFill : Work := fun s c w _ _ =>
  let l := absT c (descOf s c (insDst w))
  let code := imm w 167 136 % 2 ^ l.fmt.width
  let run : RunOut := ⟨List.replicate l.n0 code, [], List.replicate l.n0 false⟩
  .done (storeAll s l (List.replicate l.runs run)) [] l.ranges false

/-- STORE (R200, R201). -/
def workStore : Work := fun s c w _ o =>
  let d := descOf s c (insDst w)
  moveWork s c w d o (absT c (descOf s c (insA w))) (absT c d)

/-! ### GX -/

/-- The outcome of one index (R161). -/
inductive IdxOut where
  | row (r : Nat)
  | pad
  | zero
  | skip
  | bad
  deriving DecidableEq, Repr

/-- Index list of an INDEX descriptor (R160). -/
def idxList (s : State) (c : Fin 96) (d : Nat) : List Nat :=
  let b := if dB d 28 1 = 0 then 2 else 4
  (chunks b (s.bytes (dataAddr c (field d 128 22)) (dB d 20 4 * b))).map leNat

/-- The range of an index list (R160). -/
def idxRange (c : Fin 96) (d : Nat) : Range := ⟨dataAddr c (field d 128 22), dB d 20 4 * (if dB d 28 1 = 0 then 2 else 4)⟩

/-- R161: resolution of an index against a table of `rows` rows. -/
def resolve (d rows i : Nat) : IdxOut :=
  let ones := if dB d 28 1 = 0 then 0xFFFF else 0xFFFFFFFF
  if bit d (8 * 30) ∧ i = ones then .pad
  else
    let r := (i + 2 ^ 32 - dB d 24 4) % 2 ^ 32
    if r < rows then .row r
    else if dB d 29 1 = 0 then .bad else if dB d 29 1 = 1 then .zero else .skip

/-- The outcomes of a list. -/
def outcomes (s : State) (c : Fin 96) (d rows : Nat) : List IdxOut := (idxList s c d).map (resolve d rows)

/-- The 16 bytes of a result record (R162). -/
def resBytes (out need aux flags : Nat) : List Byte :=
  leBytes 4 out ++ leBytes 4 need ++ leBytes 4 (min aux 0xFFFFFFFF) ++ leBytes 4 flags

/-- Writes the result record of an instruction at RES_OFF. -/
def putResult (s : State) (c : Fin 96) (w out need aux flags : Nat) (pois : Bool) : State :=
  s.write (dataAddr c (insResOff w)) (resBytes out need aux flags) pois

/-- Bytes of one run of a layout, scales included. -/
def Lay.runSpans (l : Lay) (r : Nat) : List (Nat × Nat) :=
  l.runSpan r :: (if l.fmt.isBq then [(l.scaleAddr r 0, ceilDiv l.n0 32)] else [])

/-- A row of zeros. -/
def zeroRun (l : Lay) : RunOut :=
  ⟨List.replicate l.n0 0, if l.fmt.isBq then List.replicate (ceilDiv l.n0 32) 0 else [],
    List.replicate l.n0 false⟩

/-- Indices counted in AUX_COUNT (R163). -/
def auxCount (os : List IdxOut) : Nat :=
  os.countP (fun o => match o with | .row _ => false | _ => true)

/-- One row converted into row `e0 / Lrow` of the destination numbering (R164). -/
def rowOut (src dst : Lay) (tensor : Bool) (m : CvtMode) (e0 : Nat) (es : List Elem) : RunOut × Ev :=
  if copies src dst tensor then
    ((copyRuns dst.fmt dst.n0 es).headD (zeroRun dst), copyEv es)
  else convRun dst.fmt m e0 (es.map (fun e => (e.val, e.pois)))

/-- Progress of a gather or scatter over its list. -/
structure GxAcc where
  st : State
  ev : Ev
  pois : Bool
  tern : Bool
  rows : Nat
  elems : Nat
  fault : Option (Nat × Option Nat)

/-- A start of `GxAcc`. -/
def GxAcc.init (s : State) : GxAcc := ⟨s, {}, false, false, 0, 0, none⟩

/-- Moves row `rs` of `src`, as it stood in `s0` when the instruction started (log 40), into row `rd` of `dst`, as list
position `p`. -/
def GxAcc.move (s0 : State) (c : Fin 96) (src dst : Lay) (tensor : Bool) (m : CvtMode) (p rs rd : Nat) (a : GxAcc) :
    GxAcc :=
  match (match spanFault a.st c false (src.runSpans rs) with
      | some f => some f
      | none => spanFault a.st c true (dst.runSpans rd)) with
  | some (f, x) => { a with fault := some (f, some x) }
  | none =>
    let es := loadRun s0 src rs
    let (o, ev) := rowOut src dst tensor m (p * dst.n0) es
    { st := storeRun a.st dst rd o, ev := a.ev.add ev, pois := a.pois || o.pois.any id,
      tern := a.tern || es.any (fun e => e.tern), rows := a.rows + 1, elems := a.elems + dst.n0, fault := none }

/-- Ends a gather or scatter: slot update, flags, result record. -/
def GxAcc.finish (c : Fin 96) (w d : Nat) (tag : Word) (aux : Nat) (reads writes : List Range) (a : GxAcc) : Eff :=
  match a.fault with
  | some (f, x) => .bad a.st (resRange c w :: writes) f x
  | none =>
    match dsUpdate a.st c d tag (insTensor w) a.elems a.ev with
    | none => .bad a.st (resRange c w :: writes) fPLAT (dsBad a.st c d)
    | some s =>
      let s := if a.tern then raiseNum s c {} true else s
      .done (putResult s c w a.rows a.rows aux 0 false) reads (resRange c w :: writes) a.pois

/-- The table rows that a list names. -/
def rowRanges (tab : Lay) (os : List IdxOut) : List Range :=
  os.flatMap (fun o => match o with
    | .row r => (tab.runSpans r).map (fun p => ⟨p.1, p.2⟩)
    | _ => [])

/-- GATHER (R163). -/
def workGather : Work := fun s c w _ o =>
  let d := descOf s c (insDst w); let t := descOf s c (insA w); let i := descOf s c (insB w)
  let dst := absT c d; let tab := absT c t
  let os := outcomes s c i tab.n1
  let m := cvtMode s c w d o 64
  let acc := os.zipIdx.foldl (fun (a : GxAcc) (p : IdxOut × Nat) =>
    if a.fault.isSome then a
    else match p.1 with
    | .row r => a.move s c tab dst (insTensor w) m p.2 r p.2
    | .bad => { a with fault := some (fINDEX, none) }
    | .skip => a
    | _ => { a with st := storeRun a.st dst p.2 (zeroRun dst), rows := a.rows + 1 }) (GxAcc.init s)
  acc.finish c w d (s.core c).stepTag (auxCount os) (idxRange c i :: rowRanges tab os) dst.ranges

/-- SCATTER (R163, R165): rows written in list order. -/
def workScatter : Work := fun s c w _ o =>
  let d := descOf s c (insDst w); let a := descOf s c (insA w); let i := descOf s c (insB w)
  let tab := absT c d; let src := absT c a
  let os := outcomes s c i tab.n1
  let m := cvtMode s c w d o 64
  let acc := os.zipIdx.foldl (fun (x : GxAcc) (p : IdxOut × Nat) =>
    if x.fault.isSome then x
    else match p.1 with
    | .row r => x.move s c src tab (insTensor w) m p.2 p.2 r
    | .bad => { x with fault := some (fINDEX, none) }
    | _ => x) (GxAcc.init s)
  acc.finish c w d (s.core c).stepTag (auxCount os) (idxRange c i :: src.ranges) (rowRanges tab os)

/-- One add of a scatter-add: list position, table row, element, addend, addend poisoned. -/
structure AddOne where
  pos : Nat
  row : Nat
  col : Nat
  x : Num
  pois : Bool
  deriving DecidableEq, Repr

/-- Takes the elements of a list in an order that free values choose (R167, ARRIVAL). -/
def shuffle {α : Type} : Nat → List α → State → List α × State
  | 0, xs, s => (xs, s)
  | _ + 1, [], s => ([], s)
  | n + 1, x :: xs, s =>
    let (v, s) := s.fresh
    let i := v % (xs.length + 1)
    let y := (x :: xs).getD i x
    let (r, s) := shuffle n ((x :: xs).eraseIdx i) s
    (y :: r, s)

/-- R166: one atomic add into a table element.  R166 has the source element converted exactly to FP32; an element that FP32
cannot hold is rounded under RNE first, and that rounding counts nothing.  R166 names the NaNs, infinities and overflows that
count into the entry of DST and no others, so that an add leaves its ELEM_COUNT and AMAX as they are, although R64 and R65 let
every conversion count there (DESIGN CHOICE, log 91). -/
def addElem (c : Fin 96) (tab : Lay) (rnd : Nat) (o : DWord) (g : GxAcc) (a : AddOne) : GxAcc :=
  let w := tab.fmt.width
  let (base, _) := tab.runSpan a.row
  let addr := base + a.col * (w / 8)
  match engFault g.st c true addr (w / 8) with
  | some f => { g with fault := some (f, some addr) }
  | none =>
    let old := decodeFloat tab.fmt.ffmt (g.st.num addr (w / 8))
    let wasPois := g.st.poisoned addr (w / 8)
    let x32 := match a.x with
      | .fin n m e => (ieeeRound f32 .rne n m 1 e).1
      | v => v
    let sum := rAdd old x32
    let (code, ev) := toFloat tab.fmt.ffmt (rndFor rnd o 64 (a.pos * tab.n0 + a.col)) sum
    let newNan := b2n sum.isNan
    let newInf := if sum.isInf then 1 else ev.inf
    let s := g.st.write addr (leBytes (w / 8) code) false
    let s := if wasPois || a.pois then s.mark addr (w / 8) else s
    { g with
             st := s, pois := g.pois || wasPois || a.pois,
             ev := g.ev.add { ovf := ev.ovf, nan := newNan, inf := newInf } }

/-- SCATTER_ADD (R163, R166, R167). -/
def workScatterAdd : Work := fun s c w _ o =>
  let d := descOf s c (insDst w); let a := descOf s c (insA w); let i := descOf s c (insB w)
  let tab := absT c d; let src := absT c a
  let os := outcomes s c i tab.n1
  let writes := rowRanges tab os
  match spanFault s c false src.spans with
  | some (f, x) => .bad s (resRange c w :: writes) f (some x)
  | none =>
    let bad := os.any (fun o => match o with | .bad => true | _ => false)
    let adds := os.zipIdx.flatMap (fun (p : IdxOut × Nat) => match p.1 with
      | .row r => (loadRun s src p.2).zipIdx.map (fun e => (⟨p.2, r, e.2, e.1.val, e.1.pois⟩ : AddOne))
      | _ => [])
    let tern := os.zipIdx.any (fun (p : IdxOut × Nat) => match p.1 with
      | .row _ => (loadRun s src p.2).any (fun e => e.tern)
      | _ => false)
    if bad then .bad s (resRange c w :: writes) fINDEX none
    else
      let (adds, s) := if bit w 158 then (adds, s) else shuffle adds.length adds s
      let g := adds.foldl (fun g x => if g.fault.isSome then g else addElem c tab (insRnd w) o g x) (GxAcc.init s)
      let rows := os.length - auxCount os
      ({ g with rows := rows, tern := tern }).finish c w d (s.core c).stepTag (auxCount os)
        (idxRange c i :: (src.ranges ++ writes)) writes

/-- Address of element `i` of a layout in element order (byte-wide formats). -/
def Lay.flatAddr (l : Lay) (i : Nat) : Nat := (l.runSpan (i / l.n0)).1 + i % l.n0 * l.fmt.width / 8

/-- Writes the first codes of a layout in element order, from element `i0`. -/
def storeFlat (s : State) (l : Lay) (codes : List Nat) (pois : Bool) : State :=
  (chunks l.n0 codes).zipIdx.foldl (fun s (cs, r) =>
    storeRun s l r ⟨cs, [], cs.map (fun _ => pois)⟩) s

/-- Progress of CSR_EXPAND. -/
structure CsrAcc where
  cols : List Nat
  pos : List Nat
  offs : List Nat
  need : Nat
  stopped : Bool
  fault : Option (Nat × Option Nat)

/-- CSR_EXPAND (R163, R169, R170).  A VAL_DST of fewer elements than DST receives the leading ones, without TRUNC,
which stands for DST (DESIGN CHOICE, log 93: R169 does not say).  Edge values of a BQ format are converted: a block of
VAL_DST holds elements of several source blocks, so that the copy of R51 has no scale to keep. -/
def workCsrExpand : Work := fun s c w _ o =>
  let d := descOf s c (insDst w); let a := descOf s c (insA w); let i := descOf s c (insB w)
  let x := descOf s c (insAux w); let od := descOf s c (imm w 167 160)
  let vs := imm w 175 168; let vd := imm w 183 176
  let dst := absT c d; let rp := absT c a; let ci := absT c x; let off := absT c od
  let vsl := absT c (descOf s c vs); let vdl := absT c (descOf s c vd)
  let cap := dst.count
  let os := outcomes s c i (rp.count - 1)
  let writes := resRange c w :: (dst.ranges ++ off.ranges ++ (if vd = 0 then [] else vdl.ranges))
  let word := fun (l : Lay) (n : Nat) => s.num (l.flatAddr n) 4
  let acc := os.foldl (fun (g : CsrAcc) o =>
    if g.fault.isSome then g
    else match o with
    | .bad => { g with fault := some (fINDEX, none) }
    | .row v =>
      match spanFault s c false [(rp.flatAddr v, 4), (rp.flatAddr (v + 1), 4)] with
      | some (f, y) => { g with fault := some (f, some y) }
      | none =>
        let p := word rp v; let q := word rp (v + 1)
        if q < p ∨ cap < q - p then { g with fault := some (fINDEX, none) }
        else if g.stopped ∨ cap < g.cols.length + (q - p) then
          { g with need := g.need + (q - p), stopped := true }
        else
          let ps := upFrom p (q - p)
          match spanFault s c false (ps.map (fun n => (ci.flatAddr n, 4))) with
          | some (f, y) => { g with fault := some (f, some y) }
          | none =>
            { g with
              cols := g.cols ++ ps.map (word ci), pos := g.pos ++ ps
              offs := g.offs ++ [g.cols.length + (q - p)], need := g.need + (q - p) }
    | _ => if g.stopped then g else { g with offs := g.offs ++ [g.cols.length] })
    ⟨[], [], [0], 0, false, none⟩
  match acc.fault with
  | some (f, y) => .bad s writes f y
  | none =>
    let bad := acc.pos.any (fun n => s.poisoned (ci.flatAddr n) 4)
    let s1 := storeFlat s dst acc.cols bad
    let s1 := storeFlat s1 off (acc.offs.take off.count) false
    let fin := fun (s2 : State) (p : Bool) =>
      Eff.done (putResult s2 c w acc.cols.length acc.need (auxCount os) (b2n acc.stopped) false)
        (idxRange c i :: (rp.ranges ++ ci.ranges ++ (if vs = 0 then [] else
          (acc.pos.take vdl.count).map (fun n => ⟨vsl.flatAddr n, max 1 (vsl.fmt.width / 8)⟩)))) writes p
    if vs = 0 then fin s1 bad
    else
      match spanFault s c false ((acc.pos.take vdl.count).map (fun n => (vsl.flatAddr n, max 1 (vsl.fmt.width / 8)))) with
      | some (f, y) => .bad s1 writes f (some y)
      | none =>
        let es := (acc.pos.take vdl.count).map (fun n =>
          (loadRun s vsl (n / vsl.n0)).getD (n % vsl.n0) ⟨0, Num.zero, 0, false, false⟩)
        let dv := descOf s c vd
        let m := cvtMode s c w dv o 64
        let (rs, ev) := if vdl.fmt.isBq then convAll vdl.fmt m vdl.n0 (es.map (fun e => (e.val, e.pois)))
          else moveRuns vsl vdl (insTensor w) m es
        match dsUpdate s1 c dv (s.core c).stepTag (insTensor w) es.length ev with
        | none => .bad s1 writes fPLAT (dsBad s1 c dv)
        | some s2 => fin (noteTern (storeAll s2 vdl rs) c es) (bad || runsPois rs)

/-! ### The commands -/

/-- LOAD. -/
def execLoad (c : Fin 96) (gap : Nat) (s : State) : Out := .next (startCmd s c 0 1 gap loadReady workLoad)
/-- FILL. -/
def execFill (c : Fin 96) (gap : Nat) (s : State) : Out := .next (startCmd s c 0 2 gap always workFill)
/-- STORE. -/
def execStore (c : Fin 96) (gap : Nat) (s : State) : Out := .next (startCmd s c 1 1 gap always workStore)
/-- GATHER. -/
def execGather (c : Fin 96) (gap : Nat) (s : State) : Out := .next (startCmd s c 2 1 gap always workGather)
/-- SCATTER. -/
def execScatter (c : Fin 96) (gap : Nat) (s : State) : Out := .next (startCmd s c 2 2 gap always workScatter)
/-- SCATTER_ADD. -/
def execScatterAdd (c : Fin 96) (gap : Nat) (s : State) : Out :=
  .next (startCmd s c 2 3 gap scatterAddReady workScatterAdd)
/-- CSR_EXPAND. -/
def execCsrExpand (c : Fin 96) (gap : Nat) (s : State) : Out := .next (startCmd s c 2 4 gap always workCsrExpand)

end Sys2Proof.Machine
end

