-- ==== Sys2Proof/Machine/Matrix.lean ====
section
/-! DEFINITION.  The matrix array MX and the matrix-vector unit MV (R103 to R135, with the array edge of
R57 to R60). -/

namespace Sys2Proof.Machine

open Sys2Proof

/-! ### Operands -/

/-- Integer value of a matrix operand's element (R36, R40): its scale stands apart. -/
def intVal (f : Fmt) (raw : Nat) : Int :=
  match f with
  | .tern => if raw = 1 then 1 else if raw = 3 then -1 else 0
  | _ => sext f.width raw

/-- The part of an A row or B column that one pass covers: values, a scale for each block of 32
positions, poison (R105, R109, R128). -/
structure Strip where
  vals : List Int
  scales : List Nat
  pois : Bool
  deriving DecidableEq, Repr

/-- A strip of the elements of one run, from K position `k0` over `keff` positions. -/
def stripOf (f : Fmt) (k0 keff : Nat) (es : List Elem) : Strip :=
  let es := (es.drop k0).take keff
  ⟨es.map (fun e => intVal f e.raw),
    (chunks 32 es).map (fun b => if f.isBq then (b.head?.map (fun e => e.scale)).getD 0 else 0x7F),
    es.any (fun e => e.pois)⟩

/-- R121 to R123: element `k` of A row `p` of a convolution; none for a padded position. -/
def convElem (s : State) (c : Fin 96) (v : Conv) (p k : Nat) : Option Elem :=
  let ch := k % v.c
  let kx := k / v.c % v.kw
  let ky := k / v.c / v.kw
  let x := p % v.wOut * v.sw + kx * v.dw
  let y := p / v.wOut * v.sh + ky * v.dh
  if x < v.pl ∨ y < v.pt ∨ v.wIn ≤ x - v.pl ∨ v.hIn ≤ y - v.pt then none
  else
    let ix := x - v.pl
    let iy := y - v.pt
    let wd := v.fmt.width
    let a := dataAddr c (v.base + iy * v.stH + ix * v.stW + ch * wd / 8)
    let sa := dataAddr c (v.scalePtr + (iy * v.wIn + ix) * ceilDiv v.c 32 + ch / 32)
    let raw := field (s.num a (max 1 (wd / 8))) (ch * wd % 8) wd
    let sc := if v.fmt.isBq then (s.byte sa).toNat else 0
    some ⟨raw, .nan, sc, s.poisoned a (max 1 (wd / 8)) || (v.fmt.isBq && s.poisoned sa 1),
      v.fmt == .tern && raw == 2⟩

/-- R122: the scale of a padded block of channels at K position `k`: that of the block which holds these channels at the nearest
position of the tile; a padded block contributes zero, so that the scale of a NaN block becomes 0x7F (DEDUCED, log 20). -/
def padScale (s : State) (c : Fin 96) (v : Conv) (p k : Nat) : Nat :=
  let x := p % v.wOut * v.sw + k / v.c % v.kw * v.dw
  let y := p / v.wOut * v.sh + k / v.c / v.kw * v.dh
  let sc := (s.byte (dataAddr c (v.scalePtr + (min (y - v.pt) (v.hIn - 1) * v.wIn + min (x - v.pl) (v.wIn - 1)) * ceilDiv v.c 32 +
    k % v.c / 32))).toNat
  if sc = 255 then 0x7F else sc

/-- The A row `p` of a convolution: a padded position is the value zero (R122). -/
def convStrip (s : State) (c : Fin 96) (v : Conv) (p k0 keff : Nat) : Strip × Bool :=
  let es := (upFrom k0 keff).map (convElem s c v p)
  (⟨es.map (fun e => match e with | some e => intVal v.fmt e.raw | none => 0),
    (chunks 32 es).zipIdx.map (fun b => if v.fmt.isBq then
      (match b.1.find? (fun e => e.isSome) with | some (some e) => e.scale | _ => padScale s c v p (k0 + 32 * b.2)) else 0x7F),
    es.any (fun e => match e with | some e => e.pois | none => false)⟩,
   es.any (fun e => match e with | some e => e.tern | none => false))

/-- Row `p` of an A operand, with the TERN code flag of R37. -/
def aStrip (s : State) (c : Fin 96) (d p k0 keff : Nat) : Strip × Bool :=
  if dType d = 2 then convStrip s c (cView d) p k0 keff
  else
    let es := loadRun s (absT c d) p
    (stripOf (dFmt d) k0 keff es, ((es.drop k0).take keff).any (fun e => e.tern))

/-! ### The array edge (R57 to R59) -/

/-- Exact sum of products of one block. -/
def dot (xs ys : List Int) : Int := ((xs.zip ys).map (fun p => p.1 * p.2)).foldl (· + ·) 0

/-- An accumulator element on its way: bits, value, counts. -/
structure Acc where
  bits : Nat
  val : Num
  ev : Ev
  deriving DecidableEq, Repr

/-- R57, R58: one block pair added in FP32 mode. -/
def accStep (a : Acc) (p : Int) (sa sb : Nat) : Acc :=
  if sa = 0 ∨ sb = 0 then a
  else if a.val.isNan then { a with bits := encodeFloat f32 .nan }
  else if sa = 255 ∨ sb = 255 then
    ⟨encodeFloat f32 .nan, .nan, a.ev.add { nan := 1 }⟩
  else
    let x := if p = 0 then Num.zero
      else (roundFloat f32 .rne (decide (p < 0)) p.natAbs 1 ((sa : Int) + sb - 254)).num
    let y := rAdd a.val x
    let grew := x.isInf || (!a.val.isInf && y.isInf)
    ⟨encodeFloat f32 y, y,
      a.ev.add { ovf := b2n grew, inf := b2n grew, nan := b2n y.isNan }⟩

/-- Block partials with the scales of their blocks, in increasing K. -/
def partials (a b : Strip) : List (Int × Nat × Nat) :=
  (((chunks 32 a.vals).zip (chunks 32 b.vals)).zip (a.scales.zip b.scales)).map
    (fun p => (dot p.1.1 p.1.2, p.2.1, p.2.2))

/-- R57 to R59, R114: one accumulator element: the bits it is given and its counts. -/
def accElem (int sat init : Bool) (old : Nat) (a b : Strip) : Nat × Ev :=
  let ps := partials a b
  if int then
    let r := ps.foldl (fun (acc : Int × Ev) p =>
      let (v, ev) := fitInt 32 sat (acc.1 + p.1)
      (v, acc.2.add ev)) (if init then 0 else sext 32 old, {})
    (tc 32 r.1, r.2)
  else
    let old := if init then 0 else old
    let r := ps.foldl (fun acc p => accStep acc p.1 p.2.1 p.2.2) ⟨old, w32 old, {}⟩
    (r.bits, r.ev)

/-- R127: the TILE_STAT record of a tile with a count that is not zero, and its trigger (R582). -/
def tileStat (s : State) (c : Fin 96) (e slot tile : Nat) (ev : Ev) : State :=
  let m := fun n => leBytes 1 (min n 255)
  if ev.sat + ev.ovf + ev.nan + ev.inf = 0 then s
  else
    let s := fbPut s c 0x7 e (leBytes 2 slot ++ leBytes 1 tile ++ [0] ++ m ev.sat ++ m ev.ovf ++ m ev.nan ++ m ev.inf)
    if ev.nan + ev.inf = 0 then s else fbTrigger s c 0x03

/-! ### MMUL -/

/-- K_eff (R109). -/
def kEff (pack cls kTotal kBase : Nat) : Nat := min (kSlot pack cls) (kTotal - kBase)

/-- A column of a tile filled up to `k` positions (R110): zeros; the blocks beyond the load carry the implicit scale of a
plain operand, and the scale 0 of a zero block for a BQ one, which the manual leaves open (DESIGN CHOICE, log 91). -/
def fillCol (bq : Bool) (k : Nat) (b : BCol) : BCol :=
  ⟨b.vals ++ List.replicate (k - b.vals.length) 0,
    b.scales ++ List.replicate (ceilDiv k 32 - b.scales.length) (if bq then 0 else 0x7F), b.poison⟩

/-- R106, R110: the B tile of a slot, as the loader leaves it, and the TERN code flag: positions beyond K_eff and columns
beyond N_eff hold zero. -/
def loadTile (s : State) (c : Fin 96) (w : Nat) (m : MSlot) : BTile × Bool :=
  let d := descOf s c m.b
  let l := absT c d
  let keff := kEff (insPack w) (widthClass l.fmt) l.n0 m.kBase
  let cols := (List.range l.n1).map (fun n =>
    let es := loadRun s l n
    let t := stripOf l.fmt m.kBase keff es
    ((⟨t.vals, t.scales.map (BitVec.ofNat 8), t.pois⟩ : BCol), ((es.drop m.kBase).take keff).any (fun e => e.tern)))
  let full := fillCol l.fmt.isBq (kSlot (insPack w) (widthClass l.fmt))
  (⟨BitVec.ofNat 8 m.b, BitVec.ofNat 16 m.kBase,
    cols.map (fun p => full p.1) ++
      List.replicate (nSlot (insPack w) - cols.length) (full ⟨[], [], false⟩)⟩, cols.any Prod.snd)

/-- R115: the active tile is the one that the slots name. -/
def tileFits (t : MxTile) (pack : Nat) (ms : List MSlot) : Bool :=
  decide (t.pack.toNat = pack) && decide (t.slots.length = ms.length) &&
    (t.slots.zip ms).all (fun (t, m) => match t with
      | some t => m.valid && decide (t.desc.toNat = m.b) && decide (t.kBase.toNat = m.kBase)
      | none => !m.valid)

/-- The tile that an MMUL streams against, whether it is loaded, and the TERN code flag of its load.  A reused tile keeps
the values and scales that its load decoded, also where the B descriptor was rewritten to another format since (R115 says
that the tile stays as its last load left it; DEDUCED, log 91). -/
def tileFor (s : State) (c : Fin 96) (w : Nat) (ms : List MSlot) : MxTile × Bool × Bool :=
  let load := fun (_ : Unit) =>
    let ts := ms.map (fun m => if m.valid then some (loadTile s c w m) else none)
    ((⟨BitVec.ofNat 2 (insPack w), ts.map (Option.map Prod.fst)⟩ : MxTile), true,
      ts.any (fun t => match t with | some t => t.2 | none => false))
  match (s.core c).mx.active with
  | some t => if insReuse w && tileFits t (insPack w) ms then (t, false, false) else load ()
  | none => load ()

/-- Column `n` of a tile as a strip. -/
def BTile.strip (t : BTile) (n : Nat) : Strip :=
  match t.cols[n]? with
  | some b => ⟨b.vals, b.scales.map BitVec.toNat, b.poison⟩
  | none => ⟨[], [], false⟩

/-- One slot of an MMUL: its rows streamed, its elements written (R108, R110, R114, R128). -/
def mmSlot (s : State) (c : Fin 96) (w : Nat) (m : MSlot) (t : BTile) : State × Ev × Bool × Bool :=
  let D := descOf s c
  let lc := absT c (D m.c)
  let a := D m.a
  let keff := kEff (insPack w) (widthClass (dFmt a)) (aShape a).2 m.kBase
  let bp := t.cols.any (fun b => b.poison)
  (List.range m.rows).foldl (fun (acc : State × Ev × Bool × Bool) r =>
    let (as, tern) := aStrip s c a (m.rowBase + r) m.kBase keff
    let es := loadRun acc.1 lc r
    let os := es.zipIdx.map (fun (e, n) =>
      let (v, ev) := accElem (insAccInt w) (insSat w) m.accInit e.raw as (t.strip n)
      (v, ev, bp || as.pois || (!m.accInit && e.pois)))
    (storeRun acc.1 lc r ⟨os.map Prod.fst, [], os.map (fun o => o.2.2)⟩,
      os.foldl (fun a o => a.add o.2.1) acc.2.1, acc.2.2.1 || os.any (fun o => o.2.2), acc.2.2.2 || tern))
    (s, {}, false, false)

/-- R129: the rows that an MMUL streams (R120). -/
def streamRows (ms : List MSlot) : Nat := ms.foldl (fun n m => if m.valid then max n m.rows else n) 0

/-- R129: fill-and-drain time of a packing mode. -/
def drainTime (pack : Nat) : Nat := if pack = 0 then 280 else if pack = 3 then 152 else 216

/-- R106, R129: the array once an MMUL has started: its tile goes into the shadow register and becomes active with the
first A row, whose cycle is counted from the start; slots that are withheld only make it later. -/
def MxArray.start (x : MxArray) (tile : MxTile) (loaded : Bool) (pack rows : Nat) : MxArray × Nat :=
  let b := max (if loaded then 128 else 0) x.streamLeft
  let b := if x.pack.toNat = pack then b else max b x.doneLeft
  ({ active := if loaded then x.active else some tile
     shadow := if loaded then some (tile, b) else none
     pack := BitVec.ofNat 2 pack, streamLeft := b + rows, doneLeft := b + rows + drainTime pack }, b)

/-- MMUL (R108 to R120, R127, R128); MX accepts its next instruction when the first A row enters (R117). -/
def workMmul : Work := fun s c w slot _ =>
  let D := descOf s c
  let ms := mmSlots D w
  let live := ms.filter (fun m => m.valid)
  let crows := fun (m : MSlot) =>
    (List.range m.rows).map (fun r => (⟨((absT c (D m.c)).runSpan r).1, ((absT c (D m.c)).runSpan r).2⟩ : Range))
  let reads := live.flatMap (fun m =>
    descRanges c (D m.a) ++ descRanges c (D m.b) ++ (if m.accInit then [] else crows m))
  let writes := live.flatMap crows
  let tag := (s.core c).stepTag
  let (tile, loaded, tern) := tileFor s c w ms
  let (mx, beg) := (s.core c).mx.start tile loaded (insPack w) (streamRows ms)
  let s := s.modCore c (fun k => { k with mx := mx })
  let r := ((ms.zip tile.slots).zipIdx).foldl (fun (acc : Option (State × Bool × Bool)) p =>
    match acc, p.1.2 with
    | some (s, po, te), some t =>
      if p.1.1.valid then
        let (s, ev, po', te') := mmSlot s c w p.1.1 t
        match dsUpdate s c (D p.1.1.c) tag false 0 ev with
        | none => none
        | some s => some (tileStat s c 5 slot p.2 ev, po || po', te || te')
      else acc
    | _, _ => acc) (some (s, false, tern))
  match r with
  | none => .bad s writes fPLAT (dsBadAny s c (live.map (fun m => D m.c)))
  | some (s, po, te) => { Eff.done (if te then raiseNum s c {} true else s) reads writes po with accept := beg }

/-- CVT (R113, R116, R126, R127): conversion in the edge converter; MX accepts its next instruction in the second cycle
after (R117). -/
def workCvt : Work := fun s c w slot o =>
  let d := descOf s c (insDst w)
  let src := absT c (descOf s c (insA w))
  let dst := absT c d
  let es := loadAll s src
  let (rs, ev) := moveRuns src dst (insTensor w) (cvtMode s c w d o 128) es
  match dsUpdate s c d (s.core c).stepTag (insTensor w) es.length ev with
  | none => .bad s dst.ranges fPLAT (dsBad s c d)
  | some s =>
    { Eff.done (tileStat (storeAll s dst rs) c 5 slot 0xFF ev) src.ranges dst.ranges (runsPois rs) with
      accept := 2 }

/-! ### MV -/

/-- MVMUL (R133, R134); MV accepts its next instruction once the last byte is consumed (R135). -/
def workMvmul : Work := fun s c w slot _ =>
  let k := s.core c
  let d := descOf s c (insDst w)
  let x := absT c (descOf s c (insA w))
  let y := absT c d
  let chunk := tLay (descOf s c (insB w))
  let region := (k.mv.region.map BitVec.toNat).getD 0
  let off := k.mv.cons.toNat + ringTaken k
  let n := chunk.ringBytes
  let cols := (List.range chunk.n1).map (fun j =>
    let es := ringRun s c region off chunk j
    (stripOf chunk.fmt 0 chunk.n0 es, es.any (fun e => e.tern)))
  let acc := (List.range y.runs).foldl (fun (acc : State × Ev × Bool × Bool) v =>
    let xs := loadRun s x v
    let xa := stripOf x.fmt 0 x.n0 xs
    let es := loadRun s y v
    let os := (es.zip cols).map (fun (e, b) =>
      let (o, ev) := accElem (insAccInt w) (insSat w) (insAccInit w) e.raw xa b.1
      (o, ev, xa.pois || b.1.pois || (!insAccInit w && e.pois)))
    (storeRun acc.1 y v ⟨os.map Prod.fst, [], os.map (fun o => o.2.2)⟩,
      os.foldl (fun a o => a.add o.2.1) acc.2.1, acc.2.2.1 || os.any (fun o => o.2.2),
      acc.2.2.2 || xs.any (fun e => e.tern))) (s, {}, false, cols.any Prod.snd)
  match dsUpdate acc.1 c d k.stepTag false 0 acc.2.1 with
  | none => .bad acc.1 y.ranges fPLAT (dsBad acc.1 c d)
  | some s =>
    let s := tileStat s c 6 slot 0xFF acc.2.1
    let s := if acc.2.2.2 then raiseNum s c {} true else s
    { Eff.done s (x.ranges ++ (ringPieces c region off n).map (fun p => ⟨p.1, p.2⟩) ++
        (if insAccInit w then [] else y.ranges)) y.ranges acc.2.2.1 with
      cons := n, accept := ceilDiv (chunk.runs * ceilDiv (chunk.n0 * chunk.fmt.width) 8) 64 }

/-- RING_SET (R131). -/
def workRingSet : Work := fun s c w _ _ =>
  .done (s.modCore c (fun k => { k with mv := ⟨some (BitVec.ofNat 22 (dBase (descOf s c (insDst w)))), 0, 0⟩ })) [] [] false

/-! ### The commands -/

/-- R84 for MX. -/
def mxReady (s : State) (c : Fin 96) (w : Nat) : Bool := residentFor s c 5 w

/-- MMUL. -/
def execMmul (c : Fin 96) (gap : Nat) (s : State) : Out := .next (startCmd s c 5 1 gap mxReady workMmul)
/-- CVT. -/
def execCvt (c : Fin 96) (gap : Nat) (s : State) : Out := .next (startCmd s c 5 2 gap mxReady workCvt)
/-- MVMUL. -/
def execMvmul (c : Fin 96) (gap : Nat) (s : State) : Out := .next (startCmd s c 6 1 gap mvReady workMvmul)
/-- RING_SET. -/
def execRingSet (c : Fin 96) (gap : Nat) (s : State) : Out :=
  .next (startCmd s c 6 2 gap ringSetReady workRingSet)

end Sys2Proof.Machine
end

