-- ==== Sys2Proof/Machine/Sfu.lean ====
section
/-! DEFINITION.  The special-function pipe (R140 to R145): segment tables, reductions, special values. -/

namespace Sys2Proof.Machine

/-- R142: knot values of the exp2 segment table; the last is the end of the domain, which RNE(x − n) reaches for a
negative x near zero (R143; DEDUCED, log 91). -/
def exp2Knots : List Nat :=
  [0x3F800000, 0x3F82CD87, 0x3F85AAC3, 0x3F88980F, 0x3F8B95C2, 0x3F8EA43A, 0x3F91C3D3, 0x3F94F4F0] ++
  [0x3F9837F0, 0x3F9B8D3A, 0x3F9EF532, 0x3FA27043, 0x3FA5FED7, 0x3FA9A15B, 0x3FAD583F, 0x3FB123F6] ++
  [0x3FB504F3, 0x3FB8FBAF, 0x3FBD08A4, 0x3FC12C4D, 0x3FC5672A, 0x3FC9B9BE, 0x3FCE248C, 0x3FD2A81E] ++
  [0x3FD744FD, 0x3FDBFBB8, 0x3FE0CCDF, 0x3FE5B907, 0x3FEAC0C7, 0x3FEFE4BA, 0x3FF5257D, 0x3FFA83B3] ++
  [0x40000000]

/-- R142: slope terms of the exp2 segment table. -/
def exp2Slopes : List Nat :=
  [0x3CB361A6, 0x3CB74F34, 0x3CBB52C6, 0x3CBF6CD9, 0x3CC39DEA, 0x3CC7E67A, 0x3CCC470D, 0x3CD0C02A] ++
  [0x3CD5525A, 0x3CD9FE2A, 0x3CDEC429, 0x3CE3A4EA, 0x3CE8A103, 0x3CEDB90D, 0x3CF2EDA6, 0x3CF83F6D] ++
  [0x3CFDAF05, 0x3D019E8B, 0x3D047525, 0x3D075BA9, 0x3D0A526F, 0x3D0D59D2, 0x3D107230, 0x3D139BE7] ++
  [0x3D16D75A, 0x3D1A24EB, 0x3D1D84FF, 0x3D20F800, 0x3D247E56, 0x3D28186F, 0x3D2BC6B9, 0x3D2F89A5]

/-- R142: knot values of the log2 segment table. -/
def log2Knots : List Nat :=
  [0x00000000, 0x3D35D69C, 0x3DB31FB8, 0x3E0462C4, 0x3E2E00D2, 0x3E567AF1, 0x3E7DE0B6, 0x3E92203D] ++
  [0x3EA4D3C2, 0x3EB7110E, 0x3EC8DDD4, 0x3EDA3F60, 0x3EEB3A9F, 0x3EFBD42B, 0x3F060828, 0x3F0DF989] ++
  [0x3F15C01A, 0x3F1D5DA0, 0x3F24D3C2, 0x3F2C2411, 0x3F335004, 0x3F3A58FF, 0x3F41404F, 0x3F480731] ++
  [0x3F4EAED0, 0x3F553848, 0x3F5BA4A4, 0x3F61F4E5, 0x3F6829FB, 0x3F6E44CD, 0x3F744636, 0x3F7A2F04]

/-- R142: slope terms of the log2 segment table. -/
def log2Slopes : List Nat :=
  [0x3D35D69C, 0x3D3068D4, 0x3D2B4BA2, 0x3D267836, 0x3D21E87E, 0x3D1D9711, 0x3D197F14, 0x3D159C28] ++
  [0x3D11EA60, 0x3D0E662F, 0x3D0B0C5C, 0x3D07D9FA, 0x3D04CC62, 0x3D01E126, 0x3CFE2C1E, 0x3CF8D229] ++
  [0x3CF3B0B3, 0x3CEEC451, 0x3CEA09DB, 0x3CE57E68, 0x3CE11F48, 0x3CDCE9FF, 0x3CD8DC40, 0x3CD4F3E7] ++
  [0x3CD12EF8, 0x3CCD8B9A, 0x3CCA0814, 0x3CC6A2CA, 0x3CC35A3E, 0x3CC02D08, 0x3CBD19D8, 0x3CBA1F74]

/-- R142: knot values of the recip segment table. -/
def recipKnots : List Nat :=
  [0x3F800000, 0x3F783E10, 0x3F70F0F1, 0x3F6A0EA1, 0x3F638E39, 0x3F5D67C9, 0x3F579436, 0x3F520D21] ++
  [0x3F4CCCCD, 0x3F47CE0C, 0x3F430C31, 0x3F3E82FA, 0x3F3A2E8C, 0x3F360B61, 0x3F321643, 0x3F2E4C41] ++
  [0x3F2AAAAB, 0x3F272F05, 0x3F23D70A, 0x3F20A0A1, 0x3F1D89D9, 0x3F1A90E8, 0x3F17B426, 0x3F14F209] ++
  [0x3F124925, 0x3F0FB824, 0x3F0D3DCB, 0x3F0AD8F3, 0x3F088889, 0x3F064B8A, 0x3F042108, 0x3F020821]

/-- R142: slope terms of the recip segment table. -/
def recipSlopes : List Nat :=
  [0xBCF83E10, 0xBCE9A3D2, 0xBCDC4A01, 0xBCD00D01, 0xBCC4CE08, 0xBCBA7258, 0xBCB0E2A2, 0xBCA80A81] ++
  [0xBC9FD80A, 0xBC983B77, 0xBC9126D7, 0xBC8A8DCD, 0xBC84655E, 0xBC7D477B, 0xBC72805B, 0xBC6865AC] ++
  [0xBC5EE95C, 0xBC55FEBF, 0xBC4D9A67, 0xBC45B201, 0xBC3E3C31, 0xBC37307B, 0xBC308727, 0xBC2A392F] ++
  [0xBC244029, 0xBC1E9639, 0xBC193603, 0xBC141A9D, 0xBC0F3F83, 0xBC0AA08F, 0xBC0639F0, 0xBC020821]

/-- R142: knot values of the rsqrt segment table. -/
def rsqrtKnots : List Nat :=
  [0x3F800000, 0x3F785B42, 0x3F715BEF, 0x3F6AEBF5, 0x3F64F92E, 0x3F5F7483, 0x3F5A514A, 0x3F5584CD] ++
  [0x3F5105EC, 0x3F4CCCCD, 0x3F48D2AB, 0x3F4511A3, 0x3F41848F, 0x3F3E26EB, 0x3F3AF4BA, 0x3F37EA74] ++
  [0x3F3504F3, 0x3F2F9D53, 0x3F2AAAAB, 0x3F261D5F, 0x3F21E89B, 0x3F1E01B3, 0x3F1A5FB2, 0x3F16FB06] ++
  [0x3F13CD3A, 0x3F10D0C3, 0x3F0E00D5, 0x3F0B5948, 0x3F08D677, 0x3F067532, 0x3F0432A5, 0x3F020C52]

/-- R142: slope terms of the rsqrt segment table. -/
def rsqrtSlopes : List Nat :=
  [0xBCF497B7, 0xBCDFEA6B, 0xBCCDFF35, 0xBCBE58E3, 0xBCB0956F, 0xBCA4671B, 0xBC998F8E, 0xBC8FDC3F] ++
  [0xBC8723D6, 0xBC7E8871, 0xBC704209, 0xBC6344EC, 0xBC576901, 0xBC4C8C3F, 0xBC42919B, 0xBC396025] ++
  [0xBCACF3FF, 0xBC9E5512, 0xBC91A96C, 0xBC869887, 0xBC79BA23, 0xBC688028, 0xBC592AEE, 0xBC4B7301] ++
  [0xBC3F1DE7, 0xBC33FB64, 0xBC29E356, 0xBC20B420, 0xBC185168, 0xBC10A31D, 0xBC0994B6, 0xBC031490]

/-- R142: knot values of the erf segment table. -/
def erfKnots : List Nat :=
  [0x00000000, 0x3E0FAF0D, 0x3E8D7AA7, 0x3ECEE869, 0x3F053F7B, 0x3F1F8CB7, 0x3F360E4C, 0x3F48B925] ++
  [0x3F57BB3D, 0x3F636D69, 0x3F6C432F, 0x3F72BB46, 0x3F7752AB, 0x3F7A7B4A, 0x3F7C9684, 0x3F7DF30F] ++
  [0x3F7ECD71, 0x3F7F5211, 0x3F7FA024, 0x3F7FCCB0, 0x3F7FE554, 0x3F7FF28A, 0x3F7FF968, 0x3F7FFCDD] ++
  [0x3F7FFE8D, 0x3F7FFF5A, 0x3F7FFFB8, 0x3F7FFFE2, 0x3F7FFFF4, 0x3F7FFFFB, 0x3F7FFFFE, 0x3F7FFFFF]

/-- R142: slope terms of the erf segment table. -/
def erfSlopes : List Nat :=
  [0x3E0FAF0D, 0x3E0B4641, 0x3E02DB85, 0x3DEE5A32, 0x3DD269E0, 0x3DB40CA6, 0x3D9556C8, 0x3D702189] ++
  [0x3D3B22C0, 0x3D0D5C59, 0x3CCF02EA, 0x3C92EC93, 0x3C4A27C9, 0x3C06CE79, 0x3BAE45DC, 0x3B5A612A] ++
  [0x3B04A025, 0x3A9C25D3, 0x3A323327, 0x39C52003, 0x39535E39, 0x38DBAF47, 0x385D5239, 0x37D82081] ++
  [0x374C93D0, 0x36BBB3B5, 0x3626EEE4, 0x358FE7EE, 0x34F07EE7, 0x3442CA68, 0x3398EDEF, 0x32E8C23E]

/-- R143: the binary32 value nearest the constant log2e. -/
def cLog2e : Nat := 0x3FB8AA3B

/-- R143: the binary32 value nearest the constant ln2. -/
def cLn2 : Nat := 0x3F317218

/-- R143: the binary32 value nearest the constant c044715. -/
def cC044715 : Nat := 0x3D372713

/-- R143: the binary32 value nearest the constant sqrt2pi. -/
def cSqrt2pi : Nat := 0x3F4C422A

/-- R143: the binary32 value nearest the constant sqrtHalf. -/
def cSqrtHalf : Nat := 0x3F3504F3

/-- R142: P(r) from the segment index `i` and the exact position `t` in the segment. -/
def segEval (knots slopes : List Nat) (i : Nat) (t : Num) : Num :=
  rFma (w32 (slopes.getD i 0)) t (w32 (knots.getD i 0))

/-- R142: segment index and position of r − a = m × 2^e in segments of width 2^(−k). -/
def segPos (k : Nat) (m : Nat) (e : Int) : Nat × Num :=
  let s := e + k
  if 0 ≤ s then (m * 2 ^ s.toNat, Num.zero)
  else
    let d := 2 ^ (-s).toNat
    (m / d, .fin false (m % d) s)

/-- A value times 2^n, one binary32 operation under RNE. -/
def scale2 (x : Num) (n : Int) : Num :=
  match x with
  | .fin s m e => (ieeeRound f32 .rne s m 1 (e + n)).1
  | _ => x

/-- One. -/
def one : Num := .fin false 1 0

/-- m in [1, 2) and n with m × 2^n the magnitude `a × 2^e` (a > 0): the exponent of the unit of m is
returned with it. -/
def mantissa (a : Nat) (e : Int) : Nat × Int × Int :=
  let k : Int := Nat.log2 a
  (a, -k, k + e)

/-- R143, R145: EXP2. -/
def sfExp2 (x0 : Num) : Num :=
  match flush32 x0 with
  | .nan => .nan
  | .inf n => if n then Num.zero else .inf false
  | .fin _ 0 _ => one
  | .fin n m e =>
    let x : Num := .fin n m e
    if !numLt x (.fin false 128 0) then .inf false
    else if numLt x (.fin true 126 0) then Num.zero
    else
      let k := numFloor n m e
      match rSub x (Num.ofInt k) with
      | .fin _ fm fe =>
        let (i, t) := segPos 5 fm fe
        flush32 (scale2 (segEval exp2Knots exp2Slopes i t) k)
      | y => y

/-- R143: EXP. -/
def sfExp (x0 : Num) : Num :=
  match flush32 x0 with
  | .nan => .nan
  | .inf n => if n then Num.zero else .inf false
  | x => sfExp2 (rMul x (w32 cLog2e))

/-- R143, R145: LOG2. -/
def sfLog2 (x0 : Num) : Num :=
  match flush32 x0 with
  | .nan => .nan
  | .inf n => if n then .nan else .inf false
  | .fin _ 0 _ => .inf true
  | .fin true _ _ => .nan
  | .fin false m e =>
    let (a, ue, n) := mantissa m e
    let (_, fm, fe) := addDy false a ue true 1 0
    let (i, t) := segPos 5 fm fe
    flush32 (rAdd (Num.ofInt n) (segEval log2Knots log2Slopes i t))

/-- R143, R145: LOG. -/
def sfLog (x0 : Num) : Num :=
  match sfLog2 x0 with
  | .fin n m e => flush32 (rMul (.fin n m e) (w32 cLn2))
  | y => y

/-- R143, R145: RECIP. -/
def sfRecip (x0 : Num) : Num :=
  match flush32 x0 with
  | .nan => .nan
  | .inf n => .fin n 0 0
  | .fin n 0 _ => .inf n
  | .fin n m e =>
    let (a, ue, k) := mantissa m e
    let (_, fm, fe) := addDy false a ue true 1 0
    let (i, t) := segPos 5 fm fe
    let r0 := segEval recipKnots recipSlopes i t
    let er := rFma (.fin true a ue) r0 one
    let r := rFma r0 er r0
    flush32 (scale2 (if n then r.neg else r) (-k))

/-- R143, R145: RSQRT. -/
def sfRsqrt (x0 : Num) : Num :=
  match flush32 x0 with
  | .nan => .nan
  | .inf n => if n then .nan else Num.zero
  | .fin n 0 _ => .inf n
  | .fin true _ _ => .nan
  | .fin false m e =>
    let (a, ue, n) := mantissa m e
    let odd := n % 2 ≠ 0
    let j := if odd then (n - 1) / 2 else n / 2
    let me := if odd then ue + 1 else ue
    let r0 :=
      if odd then
        let (_, fm, fe) := addDy false a me true 2 0
        let (i, t) := segPos 3 fm fe
        segEval rsqrtKnots rsqrtSlopes (16 + i) t
      else
        let (_, fm, fe) := addDy false a me true 1 0
        let (i, t) := segPos 4 fm fe
        segEval rsqrtKnots rsqrtSlopes i t
    let mv : Num := .fin false a me
    let p := rMul mv r0
    let er := rFma p.neg r0 one
    let r := rFma (rMul (.fin false 1 (-1)) r0) er r0
    flush32 (scale2 r (-j))

/-- R143, R145: SQRT. -/
def sfSqrt (x0 : Num) : Num :=
  match flush32 x0 with
  | .inf false => .inf false
  | .fin n 0 _ => .fin n 0 0
  | x => flush32 (rMul x (sfRsqrt x))

/-- R143, R145: SIGMOID. -/
def sfSigmoid (x0 : Num) : Num :=
  let x := flush32 x0
  match x with
  | .nan => .nan
  | .inf n => if n then Num.zero else one
  | _ => sfRecip (rAdd one (sfExp x.neg))

/-- R143, R145: TANH. -/
def sfTanh (x0 : Num) : Num :=
  let x := flush32 x0
  match x with
  | .nan => .nan
  | .inf n => .fin n 1 0
  | .fin n 0 _ => .fin n 0 0
  | .fin n _ _ =>
    if numLt x.abs (.fin false 1 (-12)) then x
    else
      let s := sfSigmoid (rMul (.fin true 2 0) x.abs)
      let y := rSub one (rMul (.fin false 2 0) s)
      flush32 (if n then y.neg else y)

/-- R143, R145: ERF. -/
def sfErf (x0 : Num) : Num :=
  match flush32 x0 with
  | .nan => .nan
  | .inf n => .fin n 1 0
  | .fin n 0 _ => .fin n 0 0
  | .fin n m e =>
    if !numLt (.fin false m e) (.fin false 4 0) then .fin n 1 0
    else
      let (i, t) := segPos 3 m e
      let y := segEval erfKnots erfSlopes i t
      flush32 (if n then y.neg else y)

/-- R143, R145: GELU_TANH. -/
def sfGeluTanh (x0 : Num) : Num :=
  let x := flush32 x0
  match x with
  | .nan => .nan
  | .inf n => if n then .fin true 0 0 else .inf false
  | .fin n 0 _ => .fin n 0 0
  | _ =>
    let q := rMul x x
    let v := rFma (rMul (w32 cC044715) q) x x
    let u := rMul (w32 cSqrt2pi) v
    flush32 (rMul (rMul (.fin false 1 (-1)) x) (rAdd one (sfTanh u)))

/-- R143, R145: GELU_ERF. -/
def sfGeluErf (x0 : Num) : Num :=
  let x := flush32 x0
  match x with
  | .nan => .nan
  | .inf n => if n then .fin true 0 0 else .inf false
  | .fin n 0 _ => .fin n 0 0
  | _ =>
    flush32 (rMul (rMul (.fin false 1 (-1)) x) (rAdd one (sfErf (rMul x (w32 cSqrtHalf)))))

/-- R143, R145: SILU. -/
def sfSilu (x0 : Num) : Num :=
  let x := flush32 x0
  match x with
  | .nan => .nan
  | .inf n => if n then .fin true 0 0 else .inf false
  | .fin n 0 _ => .fin n 0 0
  | _ => flush32 (rMul x (sfSigmoid x))

/-- R143, R145: SOFTPLUS. -/
def sfSoftplus (x0 : Num) : Num :=
  let x := flush32 x0
  match x with
  | .nan => .nan
  | .inf n => if n then Num.zero else .inf false
  | .fin _ 0 _ => w32 cLn2
  | _ =>
    if numLt (.fin false 20 0) x then x
    else if numLt x (.fin true 15 0) then sfExp x
    else sfLog (rAdd one (sfExp x))

/-- R140: the function a FUNC code selects (0xE and 0xF fail validation). -/
def sfuEval (func : Nat) (x : Num) : Num :=
  if func = 0 then sfExp2 x else if func = 1 then sfExp x else if func = 2 then sfLog2 x
  else if func = 3 then sfLog x else if func = 4 then sfRecip x else if func = 5 then sfRsqrt x
  else if func = 6 then sfSqrt x else if func = 7 then sfSigmoid x else if func = 8 then sfTanh x
  else if func = 9 then sfGeluTanh x else if func = 10 then sfGeluErf x else if func = 11 then sfSilu x
  else if func = 12 then sfSoftplus x else sfErf x

/-- R62, R144: fast-mode division, RNE(a × RECIP(b)). -/
def fastDiv (a b : Num) : Num := flush32 (rMul (flush32 a) (sfRecip b))

end Sys2Proof.Machine
end

