-- ==== Sys2Proof/Machine/Vector.lean ====
section
/-! DEFINITION.  The vector unit VX (R137 to R150, R205, R621). -/

namespace Sys2Proof.Machine

open Sys2Proof

/-- An operand element in binary32: value, signalling NaN, poisoned. -/
structure VIn where
  x : Num
  snan : Bool
  pois : Bool
  deriving DecidableEq, Repr

/-- R63: an element enters exactly. -/
def vIn (f : Fmt) (e : Elem) : VIn := ⟨e.val, f == .fp32 && isSnan32 e.raw, e.pois⟩
/-- 32 bits read as FP32. -/
def vInBits (b : Nat) (pois : Bool) : VIn := ⟨w32 b, isSnan32 b, pois⟩

/-- A VX register number. -/
def regOf (n : Nat) : Fin 32 := ⟨n % 32, Nat.mod_lt _ (by decide)⟩
/-- BSEL. -/
def insBsel (w : Nat) : Nat := imm w 137 136
/-- BREG. -/
def insBreg (w : Nat) : Fin 32 := regOf (imm w 142 138)
/-- IMM32. -/
def insImm32 (w : Nat) : Nat := imm w 175 144

/-- Lane `j` of a vector register, with its poison. -/
def laneOf (k : Core) (r : Fin 32) (j : Nat) : Nat × Bool :=
  ((vget (vget k.v r) ⟨j % 64, Nat.mod_lt _ (by decide)⟩).toNat, (vget k.vPois r).getLsbD (j % 64))

/-- The b operand under BSEL (R205), one 32-bit word or element for each of `n` elements of a. -/
def bOperand (s : State) (c : Fin 96) (w : Nat) (la : Lay) (word : Nat → Bool → α) (elem : Fmt → Elem → α) :
    List α :=
  let n := la.count
  let lb := absT c (descOf s c (insB w))
  if insBsel w = 0 then (loadAll s lb).map (elem lb.fmt)
  else if insBsel w = 1 then List.replicate n (word (insImm32 w) false)
  else if insBsel w = 2 then
    (List.range n).map (fun i => let l := laneOf (s.core c) (insBreg w) (i % la.n0 % 64); word l.1 l.2)
  else (loadAll s lb).flatMap (fun e => List.replicate la.n0 (elem lb.fmt e))

/-- R621: the rounding of the arithmetic stage. -/
def arithRnd (w : Nat) : Rnd := if insRnd w = 2 then .rne else rndFor (insRnd w) 0 64 0

/-- MIN or MAX (R205): NaN when either is, −0 below +0. -/
def minMax (wantMax : Bool) (a b : Num) : Num :=
  if a.isNan || b.isNan then .nan
  else if numLt a b then (if wantMax then b else a)
  else if numLt b a then (if wantMax then a else b)
  else if a.isNeg == wantMax then b else a

/-- An operand of the arithmetic stage (R62). -/
def stageIn (strict : Bool) (x : Num) : Num := if strict then x else flush32 x

/-- The arithmetic stage of ADD to MAX and SQRT (R61, R62, R205): `c` is the addend of FMA. -/
def vArith (op : Nat) (strict : Bool) (r : Rnd) (a b c : Num) : Num × Fl :=
  let a := stageIn strict a
  let b := stageIn strict b
  let c := stageIn strict c
  let y : Num × Fl :=
    if op = 1 then fAdd f32 r a b
    else if op = 2 then fAdd f32 r a b.neg
    else if op = 3 then fMul f32 r a b
    else if op = 4 then fFma f32 r a b c
    else if op = 5 then (if strict then fDiv f32 r a b else (fastDiv a b, {}))
    else if op = 6 then (minMax false a b, {})
    else if op = 7 then (minMax true a b, {})
    else if strict then fSqrt f32 r a else (sfSqrt a, {})
  if strict then y else (flush32 y.1, {})

/-- The conversion stage, the slot update and the flags of an element-wise operation (R621). -/
def vxOut (s : State) (c : Fin 96) (w : Nat) (o : DWord) (reads extra : List Range) (vals : List (Num × Bool))
    (fl : Fl) : Eff :=
  let d := descOf s c (insDst w)
  let dst := absT c d
  let (rs, ev) := convAll dst.fmt (cvtMode s c w d o 64) dst.n0 vals
  match dsUpdate s c d (s.core c).stepTag (insTensor w) vals.length ev with
  | none => .bad s (dst.ranges ++ extra) fPLAT (dsBad s c d)
  | some s => .done (raiseNum (storeAll s dst rs) c fl false) reads (dst.ranges ++ extra) (runsPois rs)

/-- Flags of a list of results. -/
def anyFl (l : List Fl) : Fl := l.foldl Fl.or {}

/-- ADD, SUB, MUL, FMA, DIV, MIN, MAX (operations 1 to 7). -/
def workArith (op : Nat) : Work := fun s c w _ o =>
  let la := absT c (descOf s c (insA w))
  let lx := absT c (descOf s c (insAux w))
  let as := (loadAll s la).map (vIn la.fmt)
  let bs := bOperand s c w la vInBits vIn
  let cs := if op = 4 then (loadAll s lx).map (vIn lx.fmt)
    else List.replicate as.length ⟨Num.zero, false, false⟩
  let strict := insStrict w
  let r := arithRnd w
  let ys := ((as.zip bs).zip cs).map (fun ((a, b), z) =>
    let y := vArith op strict r a.x b.x z.x
    let sn := strict && decide (op < 6) && (a.snan || b.snan || z.snan)
    (y.1, a.pois || b.pois || z.pois, y.2.or { nv := sn }))
  vxOut s c w o (la.ranges ++ descRanges c (descOf s c (insB w)) ++ descRanges c (descOf s c (insAux w))) []
    (ys.map (fun y => (y.1, y.2.1))) (anyFl (ys.map (fun y => y.2.2)))

/-- A VX operation of one operand. -/
def workUnary (f : Nat → VIn → Num × Fl) : Work := fun s c w _ o =>
  let la := absT c (descOf s c (insA w))
  let as := (loadAll s la).map (vIn la.fmt)
  let ys := as.map (fun a => f w a)
  vxOut s c w o la.ranges [] ((ys.zip as).map (fun p => (p.1.1, p.2.pois))) (anyFl (ys.map Prod.snd))

/-- ABS (R621). -/
def workAbs : Work := workUnary (fun _ a => (a.x.abs, {}))
/-- NEG (R621). -/
def workNeg : Work := workUnary (fun _ a => (a.x.neg, {}))
/-- SQRT (R205). -/
def workSqrt : Work := workUnary (fun w a =>
  let y := vArith 10 (insStrict w) (arithRnd w) a.x Num.zero Num.zero
  (y.1, y.2.or { nv := insStrict w && a.snan }))
/-- SFU (R143, R145). -/
def workSfu : Work := workUnary (fun w a => (sfuEval (imm w 179 176) a.x, {}))

/-- COPY (R51, R205). -/
def workCopy : Work := fun s c w _ o =>
  let d := descOf s c (insDst w)
  moveWork s c w d o (absT c (descOf s c (insA w))) (absT c d)

/-- DROPOUT (R154, R621). -/
def workDropout : Work := fun s c w _ o =>
  let la := absT c (descOf s c (insA w))
  let as := (loadAll s la).map (vIn la.fmt)
  let strict := insStrict w
  let keep := insImm32 w
  let ys := as.zipIdx.map (fun (a, e) =>
    let dropped := decide (field (drawWord o (e % 64) e).toNat 16 16 < imm w 195 180)
    let y := vArith 3 strict (arithRnd w) a.x (if dropped then Num.zero else w32 keep) Num.zero
    (y.1, y.2.or { nv := strict && (a.snan || (!dropped && isSnan32 keep)) }))
  vxOut s c w o la.ranges [] ((ys.zip as).map (fun p => (p.1.1, p.2.pois))) (anyFl (ys.map Prod.snd))

/-- RAND_U (R154). -/
def workRandU : Work := fun s c w _ o =>
  let n := (absT c (descOf s c (insDst w))).count
  vxOut s c w o [] []
    ((List.range n).map (fun e => (.fin false (field (drawWord o (e % 64) e).toNat 40 24) (-24), false))) {}

/-- The INT32 operations (R205, R45). -/
def workInt (f : Bool → Int → Int → Int × Ev) : Work := fun s c w _ _ =>
  let d := descOf s c (insDst w)
  let dst := absT c d
  let la := absT c (descOf s c (insA w))
  let as := loadAll s la
  let bs := bOperand s c w la (fun b p => (sext 32 b, p)) (fun _ e => (sext 32 e.raw, e.pois))
  let ys := (as.zip bs).map (fun (a, b) =>
    let (v, ev) := f (insSat w) (sext 32 a.raw) b.1
    (tc 32 v, ev, a.pois || b.2))
  let rs := (chunks dst.n0 ys).map (fun r => (⟨r.map Prod.fst, [], r.map (fun y => y.2.2)⟩ : RunOut))
  match dsUpdate s c d (s.core c).stepTag (insTensor w) ys.length (ys.foldl (fun a y => a.add y.2.1) {}) with
  | none => .bad s dst.ranges fPLAT (dsBad s c d)
  | some s => .done (storeAll s dst rs) (la.ranges ++ descRanges c (descOf s c (insB w))) dst.ranges (runsPois rs)

/-- The exact INT32 result under SAT, with its observed magnitude. -/
def intRes (sat : Bool) (i : Int) : Int × Ev :=
  let r := fitInt 32 sat i
  (r.1, { r.2 with amax := amaxOf (Num.ofInt i) })

/-- A bitwise operation on two INT32 values. -/
def bitRes (f : Nat → Nat → Nat) (_ : Bool) (a b : Int) : Int × Ev :=
  intRes false (sext 32 (f (tc 32 a) (tc 32 b)))

/-! ### Row operations (R146 to R149) -/

/-- R146: ROWSUM in its fixed order. -/
def rowSum (vs : List Num) : Num :=
  let accs := (chunks 64 vs).foldl (fun (acc : List Num) ch =>
    acc.zipIdx.map (fun (a, l) => match ch[l]? with | some v => rAdd a v | none => a))
    (List.replicate 64 Num.zero)
  let half := fun (acc : List Num) (w : Nat) => (List.range w).map (fun l =>
    rAdd (acc.getD l Num.zero) (acc.getD (l + w) Num.zero))
  ([32, 16, 8, 4, 2, 1].foldl half accs).headD Num.zero

/-- R146: ROWMAX. -/
def rowMax : List Num → Num
  | [] => .inf true
  | x :: t => t.foldl (minMax true) x

/-- SFU functions by name. -/
def vExp (x : Num) : Num := sfuEval 1 x

/-- A value is +∞. -/
def posInf (x : Num) : Bool := match x with | .inf false => true | _ => false
/-- A value is −∞. -/
def negInf (x : Num) : Bool := match x with | .inf true => true | _ => false

/-- SOFTMAX of one row (R147, R149). -/
def rowSoftmax (xs : List Num) : List Num :=
  if xs.any (fun x => x.isNan || posInf x) then xs.map (fun _ => .nan)
  else if xs.all negInf then xs.map (fun _ => Num.zero)
  else
    let m := rowMax xs
    let es := xs.map (fun x => vExp (rSub x m))
    let r := sfRecip (rowSum es)
    es.map (fun e => rMul e r)

/-- LNORM of one row (R147, R149). -/
def rowLnorm (eps : Num) (xs gamma beta : List Num) : List Num :=
  if xs.any Num.isNan then xs.map (fun _ => .nan)
  else
    let n := Num.ofInt xs.length
    let mean := rDiv (rowSum xs) n
    let ds := xs.map (fun x => rSub x mean)
    let var := rDiv (rowSum (ds.map (fun d => rMul d d))) n
    let r := sfRsqrt (rAdd var eps)
    ((ds.zip gamma).zip beta).map (fun ((d, g), b) => rFma (rMul d r) g b)

/-- RMSNORM of one row (R147, R149). -/
def rowRmsnorm (eps : Num) (xs gamma : List Num) : List Num :=
  if xs.any Num.isNan then xs.map (fun _ => .nan)
  else
    let ms := rDiv (rowSum (xs.map (fun x => rMul x x))) (Num.ofInt xs.length)
    let r := sfRsqrt (rAdd ms eps)
    (xs.zip gamma).map (fun (x, g) => rMul (rMul x r) g)

/-- A row operation that writes rows of the length it reads: the function of a row's number and its
elements gives the values and whether something beside the row was poisoned. -/
def workRows (f : Nat → List Num → List (Num × Bool)) (extraReads : List Range) : Work := fun s c w _ o =>
  let la := absT c (descOf s c (insA w))
  let ys := (List.range la.runs).flatMap (fun r =>
    let es := loadRun s la r
    let p := es.any (fun e => e.pois)
    (f r (es.map (fun e => e.val))).map (fun y => (y.1, y.2 || p)))
  vxOut s c w o (la.ranges ++ extraReads) [] ys {}

/-- SOFTMAX. -/
def workSoftmax : Work := workRows (fun _ xs => (rowSoftmax xs).map (fun y => (y, false))) []

/-- A parameter vector of LNORM or RMSNORM, or a constant for index 0 (R147). -/
def rowParam (s : State) (c : Fin 96) (i n : Nat) (dflt : Num) : List (Num × Bool) :=
  if i = 0 then List.replicate n (dflt, false)
  else (loadAll s (absT c (descOf s c i))).map (fun e => (e.val, e.pois))

/-- LNORM and RMSNORM. -/
def workNorm (rms : Bool) : Work := fun s c w slot o =>
  let n := (absT c (descOf s c (insA w))).n0
  let g := rowParam s c (insB w) n one
  let b := rowParam s c (insAux w) n Num.zero
  let eps := w32 (insImm32 w)
  let p := g.any Prod.snd || b.any Prod.snd
  workRows (fun _ xs =>
    (if rms then rowRmsnorm eps xs (g.map Prod.fst)
      else rowLnorm eps xs (g.map Prod.fst) (b.map Prod.fst)).map (fun y => (y, p)))
    (descRanges c (descOf s c (insB w)) ++ descRanges c (descOf s c (insAux w))) s c w slot o

/-- RSUM and RMAX: one element for each row. -/
def workReduce (f : List Num → Num) : Work := workRows (fun _ xs => [(f xs, false)]) []

/-- The softmax state of row `r` (R148): address, m, s, poison. -/
def osmState (s : State) (l : Lay) (r : Nat) : Nat × Num × Num × Bool :=
  let a := (l.runSpan r).1
  (a, w32 (s.num a 4), w32 (s.num (a + 4) 4), s.poisoned a 16)

/-- R148: one block of scores: probabilities, new m, s and c. -/
def osmStep (m sum : Num) (xs : List Num) : List Num × Num × Num × Num :=
  let b := rowMax xs
  let m' := minMax true m b
  let dead := negInf m'
  let c := if dead then one else vExp (rSub m m')
  let ps := xs.map (fun x => if dead then Num.zero else vExp (rSub x m'))
  let s' := rAdd (rMul sum c) (rowSum ps)
  (if xs.any (fun x => x.isNan || posInf x) then xs.map (fun _ => .nan) else ps, m', s', c)

/-- OSM_UPDATE (R148, R149, R257). -/
def workOsmUpdate : Work := fun s c w _ o =>
  let la := absT c (descOf s c (insA w))
  let lx := absT c (descOf s c (insAux w))
  let rows := (List.range la.runs).map (fun r =>
    let es := loadRun s la r
    let (a, m, sum, sp) := osmState s lx r
    let (ps, m', s', k) := osmStep m sum (es.map (fun (e : Elem) => e.val))
    let p := sp || es.any (fun (e : Elem) => e.pois)
    ((a, leBytes 4 (n32 m') ++ leBytes 4 (n32 s') ++ leBytes 4 (n32 k), p), ps.map (fun y => (y, p))))
  let s1 := rows.foldl (fun s r =>
    let s := s.write r.1.1 r.1.2.1 false
    if r.1.2.2 then s.mark r.1.1 16 else s) s
  let f := vxOut s1 c w o la.ranges lx.ranges (rows.flatMap (fun r => r.2)) {}
  { f with pois := f.pois || rows.any (fun r => r.1.2.2) }

/-- OSM_FINAL (R148, R149). -/
def workOsmFinal : Work := fun s c w slot o =>
  let lx := absT c (descOf s c (insAux w))
  workRows (fun r xs =>
    let (_, _, sum, p) := osmState s lx r
    (if xs.any Num.isNan then xs.map (fun _ => Num.nan)
      else if sum.isZero && !sum.isNeg then xs.map (fun _ => Num.zero)
      else xs.map (fun x => rMul x (sfRecip sum))).map (fun y => (y, p)))
    lx.ranges s c w slot o

/-- VLD (R205, R257). -/
def workVld : Work := fun s c w _ _ =>
  let la := absT c (descOf s c (insA w))
  let es := loadAll s la
  let bits := es.map (fun (e : Elem) => if la.fmt = .int32 then e.raw else n32 e.val)
  let lanes : Vector Word 64 := Vector.ofFn (fun (j : Fin 64) => BitVec.ofNat 32 (bits.getD j.val 0))
  let pois := (es.zipIdx.map (fun (e, j) => b2n e.pois * 2 ^ j)).foldl (· + ·) 0
  .done (s.modCore c (fun k => { k with
    v := vset k.v (insBreg w) lanes
    vPois := vset k.vPois (insBreg w) (BitVec.ofNat 64 pois) })) la.ranges [] false

/-- VST (R205, R621). -/
def workVst : Work := fun s c w _ o =>
  let d := descOf s c (insDst w)
  let dst := absT c d
  let ls := (List.range dst.n0).map (laneOf (s.core c) (insBreg w))
  if dst.fmt = .int32 then
    let r : RunOut := ⟨ls.map Prod.fst, [], ls.map Prod.snd⟩
    let ev : Ev := { amax := ls.foldl (fun a l => max a (amaxOf (Num.ofInt (sext 32 l.1)))) 0 }
    match dsUpdate s c d (s.core c).stepTag (insTensor w) ls.length ev with
    | none => .bad s dst.ranges fPLAT (dsBad s c d)
    | some s => .done (storeRun s dst 0 r) [] dst.ranges (r.pois.any id)
  else vxOut s c w o [] [] (ls.map (fun l => (w32 l.1, l.2))) {}

/-! ### The commands -/

/-- R84 for VX. -/
def vxReady (s : State) (c : Fin 96) (w : Nat) : Bool := residentFor s c 7 w

/-- Starts the head instruction of VX where it is operation `op`. -/
def vxCmd (op : Nat) (work : Work) (c : Fin 96) (gap : Nat) (s : State) : Out :=
  .next (startCmd s c 7 op gap vxReady work)

/-- ADD. -/
def execAdd (c : Fin 96) (gap : Nat) (s : State) : Out := vxCmd 0x01 (workArith 1) c gap s
/-- SUB. -/
def execSub (c : Fin 96) (gap : Nat) (s : State) : Out := vxCmd 0x02 (workArith 2) c gap s
/-- MUL. -/
def execMul (c : Fin 96) (gap : Nat) (s : State) : Out := vxCmd 0x03 (workArith 3) c gap s
/-- FMA. -/
def execFma (c : Fin 96) (gap : Nat) (s : State) : Out := vxCmd 0x04 (workArith 4) c gap s
/-- DIV. -/
def execDiv (c : Fin 96) (gap : Nat) (s : State) : Out := vxCmd 0x05 (workArith 5) c gap s
/-- MIN. -/
def execMin (c : Fin 96) (gap : Nat) (s : State) : Out := vxCmd 0x06 (workArith 6) c gap s
/-- MAX. -/
def execMax (c : Fin 96) (gap : Nat) (s : State) : Out := vxCmd 0x07 (workArith 7) c gap s
/-- ABS. -/
def execAbs (c : Fin 96) (gap : Nat) (s : State) : Out := vxCmd 0x08 workAbs c gap s
/-- NEG. -/
def execNeg (c : Fin 96) (gap : Nat) (s : State) : Out := vxCmd 0x09 workNeg c gap s
/-- SQRT. -/
def execSqrt (c : Fin 96) (gap : Nat) (s : State) : Out := vxCmd 0x0A workSqrt c gap s
/-- COPY. -/
def execCopy (c : Fin 96) (gap : Nat) (s : State) : Out := vxCmd 0x0B workCopy c gap s
/-- SFU. -/
def execSfu (c : Fin 96) (gap : Nat) (s : State) : Out := vxCmd 0x10 workSfu c gap s
/-- DROPOUT. -/
def execDropout (c : Fin 96) (gap : Nat) (s : State) : Out := vxCmd 0x11 workDropout c gap s
/-- RAND_U. -/
def execRandU (c : Fin 96) (gap : Nat) (s : State) : Out := vxCmd 0x12 workRandU c gap s
/-- IADD. -/
def execIadd (c : Fin 96) (gap : Nat) (s : State) : Out :=
  vxCmd 0x18 (workInt (fun sat a b => intRes sat (a + b))) c gap s
/-- ISUB. -/
def execIsub (c : Fin 96) (gap : Nat) (s : State) : Out :=
  vxCmd 0x19 (workInt (fun sat a b => intRes sat (a - b))) c gap s
/-- IMIN. -/
def execImin (c : Fin 96) (gap : Nat) (s : State) : Out :=
  vxCmd 0x1A (workInt (fun sat a b => intRes sat (min a b))) c gap s
/-- IMAX. -/
def execImax (c : Fin 96) (gap : Nat) (s : State) : Out :=
  vxCmd 0x1B (workInt (fun sat a b => intRes sat (max a b))) c gap s
/-- AND. -/
def execAnd (c : Fin 96) (gap : Nat) (s : State) : Out := vxCmd 0x1C (workInt (bitRes (· &&& ·))) c gap s
/-- OR. -/
def execOr (c : Fin 96) (gap : Nat) (s : State) : Out := vxCmd 0x1D (workInt (bitRes (· ||| ·))) c gap s
/-- XOR. -/
def execXor (c : Fin 96) (gap : Nat) (s : State) : Out := vxCmd 0x1E (workInt (bitRes (· ^^^ ·))) c gap s
/-- SOFTMAX. -/
def execSoftmax (c : Fin 96) (gap : Nat) (s : State) : Out := vxCmd 0x20 workSoftmax c gap s
/-- LNORM. -/
def execLnorm (c : Fin 96) (gap : Nat) (s : State) : Out := vxCmd 0x21 (workNorm false) c gap s
/-- RMSNORM. -/
def execRmsnorm (c : Fin 96) (gap : Nat) (s : State) : Out := vxCmd 0x22 (workNorm true) c gap s
/-- OSM_UPDATE. -/
def execOsmUpdate (c : Fin 96) (gap : Nat) (s : State) : Out := vxCmd 0x23 workOsmUpdate c gap s
/-- OSM_FINAL. -/
def execOsmFinal (c : Fin 96) (gap : Nat) (s : State) : Out := vxCmd 0x24 workOsmFinal c gap s
/-- RSUM. -/
def execRsum (c : Fin 96) (gap : Nat) (s : State) : Out := vxCmd 0x25 (workReduce rowSum) c gap s
/-- RMAX. -/
def execRmax (c : Fin 96) (gap : Nat) (s : State) : Out := vxCmd 0x26 (workReduce rowMax) c gap s
/-- VLD. -/
def execVld (c : Fin 96) (gap : Nat) (s : State) : Out := vxCmd 0x30 workVld c gap s
/-- VST. -/
def execVst (c : Fin 96) (gap : Nat) (s : State) : Out := vxCmd 0x31 workVst c gap s

end Sys2Proof.Machine
end

