-- ==== Sys2Proof/Machine/Rank.lean ====
section
/-! DEFINITION.  The rank engine RK (R172 to R177, R207). -/

namespace Sys2Proof.Machine

open Sys2Proof

/-- R172: order of two keys; every NaN is equal to every other and above +∞. -/
def keyLt (a b : Num) : Bool :=
  if a.isNan then false else if b.isNan then true else numLt a b

/-- R172: the value of a key; KSIGN 0 reads an integer as unsigned. -/
def keyVal (f : Fmt) (ksign : Bool) (e : Elem) : Num :=
  if f.isFloat then e.val else if ksign then Num.ofInt (sext f.width e.raw) else Num.ofInt (e.raw : Int)

/-- KSIGN of SORT and HIST. -/
def insKsign (w : Nat) : Bool := bit w 159

/-- Any element poisoned. -/
def anyPois (es : List Elem) : Bool := es.any (fun e => e.pois)

/-- The unsigned 32-bit keys of a list. -/
def listKeys (es : List Elem) : List Nat := es.map (fun e => e.raw)

/-- A key is smaller than the key before it (UNSORTED). -/
def unsorted : List Nat → Bool
  | x :: y :: t => decide (y < x) || unsorted (y :: t)
  | _ => false

/-- What an RK operation reads and writes, as layouts. -/
structure RkOps where
  dst : Lay
  a : Lay
  b : Lay
  aux : Lay

/-- The four operands of an instruction. -/
def rkOps (s : State) (c : Fin 96) (w : Nat) : RkOps :=
  ⟨absT c (descOf s c (insDst w)), absT c (descOf s c (insA w)), absT c (descOf s c (insB w)),
    absT c (descOf s c (insAux w))⟩

/-- Ranges of an optional operand. -/
def optRanges (i : Nat) (l : Lay) : List Range := if i = 0 then [] else l.ranges

/-- R257, R162: the end of an RK operation with a result record. -/
def rkFinish (s : State) (c : Fin 96) (w : Nat) (o : RkOps) (out need aux flags : Nat) (p : Bool) : Eff :=
  .done (putResult s c w out need aux flags p) (o.a.ranges ++ optRanges (insB w) o.b)
    (resRange c w :: (o.dst.ranges ++ optRanges (insAux w) o.aux)) p

/-! ### SORT -/

/-- SORT (R173, R174). -/
def workSort : Work := fun s c w _ _ =>
  let o := rkOps s c w
  let desc := bit w 158
  let rows := (List.range o.a.runs).map (fun r =>
    let ks := loadRun s o.a r
    let ps := if insB w = 0 then (List.range o.a.n0).map (fun i => (i, false))
      else (loadRun s o.b r).map (fun e => (e.raw, e.pois))
    let lt := fun (x y : Num × Nat × Nat) => if desc then keyLt y.1 x.1 else keyLt x.1 y.1
    (sortStable lt ((ks.zip ps).map (fun (k, p) => (keyVal o.a.fmt (insKsign w) k, k.raw, p.1))),
      anyPois ks || ps.any Prod.snd))
  let p := rows.any Prod.snd
  let mk := fun (cs : List Nat) => (⟨cs, [], cs.map (fun _ => p)⟩ : RunOut)
  let s := storeAll s o.dst (rows.map (fun r => mk (r.1.map (fun k => k.2.1))))
  let s := if insAux w = 0 then s else storeAll s o.aux (rows.map (fun r => mk (r.1.map (fun k => k.2.2))))
  .done s (o.a.ranges ++ optRanges (insB w) o.b) (o.dst.ranges ++ optRanges (insAux w) o.aux) p

/-! ### Lists -/

/-- R173: stable merge; on equal keys the first list's go first. -/
def mergeKeys : Nat → List Nat → List Nat → List Nat
  | 0, _, _ => []
  | _ + 1, [], ys => ys
  | _ + 1, xs, [] => xs
  | n + 1, x :: xs, y :: ys =>
    if y < x then y :: mergeKeys n (x :: xs) ys else x :: mergeKeys n xs (y :: ys)

/-- Progress of a set operation: keys emitted (last first), matched pairs. -/
structure SetAcc where
  out : List Nat
  pairs : Nat

/-- emit of R175. -/
def SetAcc.emit (a : SetAcc) (x : Nat) : SetAcc :=
  if a.out.head? = some x then a else { a with out := x :: a.out }

/-- R175: the walk over both lists, with fuel. -/
def setWalk (union : Bool) : Nat → List Nat → List Nat → SetAcc → SetAcc
  | 0, _, _, a => a
  | n + 1, x :: xs, y :: ys, a =>
    if x < y then setWalk union n xs (y :: ys) (if union then a.emit x else a)
    else if y < x then setWalk union n (x :: xs) ys (if union then a.emit y else a)
    else setWalk union n xs ys { a.emit x with pairs := a.pairs + 1 }
  | _ + 1, xs, ys, a => if union then (xs ++ ys).foldl SetAcc.emit a else a

/-- MERGE, UNION, INTERSECT: the keys they give and AUX_COUNT. -/
def workList (f : List Nat → List Nat → List Nat × Nat) : Work := fun s c w _ _ =>
  let o := rkOps s c w
  let as := loadAll s o.a
  let bs := loadAll s o.b
  let p := anyPois as || anyPois bs
  let (ks, aux) := f (listKeys as) (listKeys bs)
  let out := min ks.length o.dst.count
  let s := storeFlat s o.dst (ks.take out) p
  rkFinish s c w o out ks.length aux
    (b2n (decide (out < ks.length)) + 2 * b2n (unsorted (listKeys as) || unsorted (listKeys bs))) p

/-- MERGE (R173); its AUX_COUNT is 0 (DESIGN CHOICE, log 93: R162 and R173 state none for it). -/
def mergeLists (xs ys : List Nat) : List Nat × Nat := (mergeKeys (xs.length + ys.length + 1) xs ys, 0)
/-- UNION and INTERSECT (R175). -/
def setLists (union : Bool) (xs ys : List Nat) : List Nat × Nat :=
  let a := setWalk union (xs.length + ys.length + 1) xs ys ⟨[], 0⟩
  (a.out.reverse, if union then xs.length + ys.length - a.out.length else a.pairs)

/-- Runs of equal keys: key and positions of its elements. -/
def keyRuns : List (Nat × α) → List (Nat × List α)
  | [] => []
  | (k, x) :: t =>
    match keyRuns t with
    | (k', xs) :: r => if k = k' then (k, x :: xs) :: r else (k, [x]) :: (k', xs) :: r
    | [] => [(k, [x])]

/-- UNIQUE (R173).  An AUX of fewer elements than DST receives the leading ones, without TRUNC, which stands for DST, as those of
SEGMENT and TOPK and the offsets of CSR_EXPAND do (DESIGN CHOICE, log 93: R162 and R173 speak of DST only). -/
def workUnique : Work := fun s c w _ _ =>
  let o := rkOps s c w
  let as := loadAll s o.a
  let p := anyPois as
  let rs := keyRuns ((listKeys as).map (fun k => (k, ())))
  let out := min rs.length o.dst.count
  let s := storeFlat s o.dst ((rs.map Prod.fst).take out) p
  let s := if insAux w = 0 then s
    else storeFlat s o.aux ((rs.map (fun r => r.2.length)).take (min out o.aux.count)) p
  rkFinish s c w o out rs.length (as.length - rs.length)
    (b2n (decide (out < rs.length)) + 2 * b2n (unsorted (listKeys as))) p

/-! ### TOPK -/

/-- A selected rank: expert number and weight; none for a rank without a candidate. -/
abbrev Pick := Option (Nat × Num)

/-- R176: the ranks of one row of scores, and the NaNs passed over. -/
def topkRow (k : Nat) (wnorm : Bool) (scores : List Num) (bias : Option (List Num)) : List Pick × Nat :=
  let sel := match bias with
    | none => scores
    | some bs => (scores.zip bs).map (fun (x, b) => rAdd x b)
  let cand := ((scores.zip sel).zipIdx).filter (fun p => !p.1.1.isNan && !p.1.2.isNan)
  let top := (sortStable (fun a b => numLt b.1.2 a.1.2) cand).take k
  let ws := top.map (fun p => p.1.1)
  let sum := ws.foldl rAdd Num.zero
  let bad := sum.isZero || sum.isInf || sum.isNan
  let w' := fun (x : Num) => if wnorm then (if bad then Num.zero else rDiv x sum) else x
  (top.map (fun p => some (p.2, w' p.1.1)) ++ List.replicate (k - top.length) none,
    scores.length - cand.length)

/-- R176: the 16 bytes of a route record. -/
def routeBytes (tokenBase expertBase row rank : Nat) (p : Pick) : List Byte :=
  let t := leBytes 4 (tokenBase + row)
  match p with
  | some (x, wt) => t ++ leBytes 4 (expertBase + x) ++ leBytes 4 (n32 wt) ++ leBytes 1 rank ++ [0, 0, 0]
  | none => t ++ leBytes 4 0xFFFFFFFF ++ leBytes 4 0 ++ leBytes 1 rank ++ [1, 0, 0]

/-- TOPK (R173, R176).  INVALID_OUT stands for the ranks written; with OUT = 1, which writes no record, an expert index of
0xFFFF_FFFF sets it as R176 has it (DESIGN CHOICE, log 93: R162 speaks of records only). -/
def workTopk : Work := fun s c w _ _ =>
  let o := rkOps s c w
  let k := imm w 161 158 + 1
  let tb := imm w 195 164
  let eb := imm w 227 196
  let bs := if insB w = 0 then [] else loadAll s o.b
  let bias := if insB w = 0 then none else some (bs.map (fun e => e.val))
  let rows := (List.range o.a.runs).map (fun r =>
    let es := loadRun s o.a r
    (topkRow k (bit w 163) (es.map (fun e => e.val)) bias, anyPois es))
  let p := rows.any Prod.snd || anyPois bs
  let nan := (rows.map (fun r => r.1.2)).foldl (· + ·) 0
  let recs := rows.zipIdx.flatMap (fun (r, i) => r.1.1.zipIdx.map (fun (x, rank) => (i, rank, x)))
  let outIdx := bit w 162
  let cap := if outIdx then o.dst.count else recCap o.dst
  let out := min recs.length cap
  let kept := recs.take out
  let inval := kept.any (fun r => r.2.2.isNone)
  let s :=
    if outIdx then
      let s := storeFlat s o.dst (kept.map (fun r => match r.2.2 with
        | some (x, _) => (eb + x) % 2 ^ 32 | none => 0xFFFFFFFF)) p
      storeFlat s o.aux ((kept.map (fun r => match r.2.2 with | some (_, wt) => n32 wt | none => 0)).take o.aux.count) p
    else
      storeFlat s o.dst (splitElems o.dst.fmt.width
        (kept.flatMap (fun r => routeBytes tb eb r.1 r.2.1 r.2.2))) p
  rkFinish s c w o out recs.length nan (b2n (decide (out < recs.length)) + 4 * b2n inval) p

/-! ### SEGMENT and HIST -/

/-- R45, R64: the events of `n` results written to DST go to the entry that it names, before `fin` writes them. -/
def rkCounted (s : State) (c : Fin 96) (w : Nat) (o : RkOps) (n : Nat) (ev : Ev) (fin : State → Eff) : Eff :=
  let d := descOf s c (insDst w)
  match dsUpdate s c d (s.core c).stepTag false n ev with
  | none => .bad s (resRange c w :: (o.dst.ranges ++ optRanges (insAux w) o.aux)) fPLAT (dsBad s c d)
  | some s => fin s

/-- R45, R177: the reduction of one segment, as a code of the destination's format, and its events. -/
def segReduce (red : Nat) (f : Fmt) (sat : Bool) (es : List Elem) : Nat × Ev :=
  if red = 3 then (es.length, {})
  else if f = .int32 then
    match es.map (fun e => sext 32 e.raw) with
    | [] => (0, {})
    | x :: t =>
      let r := t.foldl (fun (a : Int × Ev) y =>
        if red = 0 then (let q := fitInt 32 sat (a.1 + y); (q.1, a.2.add q.2))
        else (if red = 1 then max a.1 y else min a.1 y, a.2)) (x, {})
      (tc 32 r.1, { r.2 with amax := amaxOf (Num.ofInt r.1) })
  else
    match es.map (fun e => e.val) with
    | [] => (0, {})
    | x :: t => toFloat f.ffmt .rne (t.foldl (fun a y => if red = 0 then rAdd a y else minMax (red == 1) a y) x)

/-- SEGMENT (R173, R177). -/
def workSegment : Work := fun s c w _ _ =>
  let o := rkOps s c w
  let as := loadAll s o.a
  let bs := loadAll s o.b
  let p := anyPois as || anyPois bs
  let rs := keyRuns ((listKeys as).zip bs)
  let out := min rs.length o.dst.count
  let red := imm w 159 158
  let res := (rs.map (fun r => segReduce red o.b.fmt (insSat w) r.2)).take out
  rkCounted s c w o out (res.foldl (fun a r => a.add r.2) {}) (fun s =>
    let s := storeFlat s o.dst (res.map Prod.fst) p
    let s := if insAux w = 0 then s else storeFlat s o.aux ((rs.map Prod.fst).take (min out o.aux.count)) p
    rkFinish s c w o out rs.length rs.length
      (b2n (decide (out < rs.length)) + 2 * b2n (unsorted (listKeys as))) p)

/-- R45, R173: a counter incremented `n` times, each time under SAT, and the events. -/
def bumped (sat : Bool) (base : Int) (n : Nat) : Nat × Ev :=
  let r := fitInt 32 sat (base + n)
  (tc 32 r.1, { (if sat then { sat := (base + n - 0x7FFFFFFF).toNat } else r.2 : Ev) with amax := amaxOf (Num.ofInt r.1) })

/-- HIST (R173): a DST of fewer than NB counters receives the leading ones and sets TRUNC. -/
def workHist : Work := fun s c w _ _ =>
  let o := rkOps s c w
  let ks := loadAll s o.a
  let old := loadAll s o.dst
  let acc := bit w 158
  let nb := imm w 177 165
  let bins := ks.map (fun e =>
    let v := if insKsign w then sext o.a.fmt.width e.raw else (e.raw : Int)
    tc 32 (v - (imm w 209 178 : Int)) / 2 ^ (imm w 164 160))
  let p := anyPois ks || (acc && anyPois old)
  let out := min nb o.dst.count
  let res := (List.range out).map (fun b =>
    bumped (insSat w) (if acc then sext 32 ((old.map (fun e => e.raw)).getD b 0) else 0) (bins.countP (fun x => x == b)))
  rkCounted s c w o out (res.foldl (fun a r => a.add r.2) {}) (fun s =>
    let f := rkFinish (storeFlat s o.dst (res.map Prod.fst) p) c w o out nb (bins.countP (fun x => decide (nb ≤ x)))
      (b2n (decide (out < nb))) p
    if acc then { f with reads := f.reads ++ o.dst.ranges } else f)

/-! ### The commands -/

/-- Starts the head instruction of RK where it is operation `op`. -/
def rkCmd (op : Nat) (work : Work) (c : Fin 96) (gap : Nat) (s : State) : Out :=
  .next (startCmd s c 9 op gap rkReady work)

/-- SORT. -/
def execSort (c : Fin 96) (gap : Nat) (s : State) : Out := rkCmd 1 workSort c gap s
/-- MERGE. -/
def execMerge (c : Fin 96) (gap : Nat) (s : State) : Out := rkCmd 2 (workList mergeLists) c gap s
/-- UNION. -/
def execUnion (c : Fin 96) (gap : Nat) (s : State) : Out := rkCmd 3 (workList (setLists true)) c gap s
/-- INTERSECT. -/
def execIntersect (c : Fin 96) (gap : Nat) (s : State) : Out := rkCmd 4 (workList (setLists false)) c gap s
/-- UNIQUE. -/
def execUnique (c : Fin 96) (gap : Nat) (s : State) : Out := rkCmd 5 workUnique c gap s
/-- TOPK. -/
def execTopk (c : Fin 96) (gap : Nat) (s : State) : Out := rkCmd 6 workTopk c gap s
/-- SEGMENT. -/
def execSegment (c : Fin 96) (gap : Nat) (s : State) : Out := rkCmd 7 workSegment c gap s
/-- HIST. -/
def execHist (c : Fin 96) (gap : Nat) (s : State) : Out := rkCmd 8 workHist c gap s

end Sys2Proof.Machine
end

