-- ==== Sys2Proof/Machine/Landing.lean ====
section
/-! DEFINITION.  Messages at the device router and at XI: headers and their CRC (R283, R285), answers and
refusals (R286, R296, R297), tracked copies, the reorder store (R262), duplicate windows (R322), group
tallies (R319 to R321), the ordered reduction (R326 to R328), landings (R333), the barrier (R308, R309). -/

namespace Sys2Proof

open Sys2Proof.Machine

/-! ### Headers -/

/-- MFLAGS with ESCAPE and DATELINE taken as zero (R283). -/
def Msg.flags (m : Msg) : Nat :=
  b2n m.ordered + 2 * b2n m.tracked + 4 * b2n m.rsig + 8 * b2n m.mcast + 16 * b2n m.parity

/-- Bytes [59:0] of the header flit with the reserved bits, ESCAPE and DATELINE zero (R283). -/
def Msg.layout (m : Msg) : List Byte :=
  leBytes 1 (2 + 4 * m.vc.toNat) ++ leBytes 1 m.kind.toNat ++ leBytes 1 m.flags ++
  leBytes 1 (m.attempt.toNat + 16 * m.axis.toNat + 64 * b2n m.minus) ++ leBytes 2 m.dstDev.toNat ++
  leBytes 2 m.srcDev.toNat ++ leBytes 1 m.dstCore.toNat ++ leBytes 1 m.srcCore.toNat ++
  leBytes 2 m.job.toNat ++ leBytes 2 m.group.toNat ++ leBytes 2 m.seq.toNat ++ leBytes 2 m.rank.toNat ++
  leBytes 2 m.data.length ++ leBytes 1 m.fmt.toNat ++ leBytes 1 (m.space.toNat + 16 * m.hops.toNat) ++
  leBytes 6 m.addr.toNat ++ leBytes 4 m.poison.toNat ++ leBytes 4 m.msgId.toNat ++
  leBytes 12 m.opinfo.toNat ++ List.replicate 12 0

/-- Bytes [59:0] of the header flit, ESCAPE and DATELINE zero (R283), with the reserved bits as they were received. -/
def Msg.header (m : Msg) : List Byte :=
  if m.rsvd = 0 then m.layout else leBytes 60 (leNat m.layout ^^^ (m.rsvd.toNat % 2 ^ 480))

/-- The header flit of a message without its reserved bits (R283, R286). -/
def Msg.flit0 (m : Msg) : List Byte :=
  let dyn := b2n m.escape * 32 + b2n m.dateline * 64
  if m.vc = 1 then
    padTo (leBytes 1 (2 + 4 * m.vc.toNat) ++ leBytes 1 m.kind.toNat ++ [BitVec.ofNat 8 dyn, 0] ++ leBytes 2 m.dstDev.toNat ++
      leBytes 2 m.srcDev.toNat ++ leBytes 1 m.answers.length ++ List.replicate 7 0 ++
      m.answers.flatMap (fun a => leBytes 1 a.core.toNat ++ leBytes 1 a.reason.toNat ++ [0, 0] ++ leBytes 4 a.msgId.toNat)) 64
  else
    let h := m.layout
    h.take 2 ++ leBytes 1 (m.flags + dyn) ++ h.drop 3 ++ leBytes 4 m.crc.toNat

/-- E2E_CRC (R283, R285). -/
def Msg.e2e (m : Msg) : Word := BitVec.ofNat 32 (crc32 (m.header ++ m.data))

/-- Flits of a message: header and data (R283). -/
def Msg.flits (m : Msg) : Nat := 1 + ceilDiv m.data.length 64

/-- Field of OPINFO (R318). -/
def Msg.op (m : Msg) (lo n : Nat) : Nat := field m.opinfo.toNat lo n

end Sys2Proof

namespace Sys2Proof.Machine

open Sys2Proof

/-- A message with every field zero. -/
def blankMsg : Msg :=
  ⟨0, 0, false, false, false, false, false, false, false, 0, 0, false, 0, 0, 0, 0, 0, 0, 0, 0, 0, 0, 0, 0,
    0, 0, 0, 0, [], [], 0⟩

/-- Tract of a device ID (R270). -/
def tractOf (d : BitVec 16) : Nat := d.toNat / 512
/-- Coordinate of a device ID on axis 0, 1, 2 (R270). -/
def coordOf (d : BitVec 16) (axis : Nat) : Nat := field d.toNat (3 * axis) 3

/-- KIND is one of the table's, on a VC that it names, with no more data than a message carries (R283, R284). -/
def kindOk (m : Msg) : Bool :=
  let k := m.kind.toNat
  let v := m.vc.toNat
  if 1024 < m.data.length then false
  else if 1 ≤ k ∧ k ≤ 5 then v == 0 || v == 2
  else if k = 0x10 ∨ k = 0x11 then v == 1
  else if k = 0x20 ∨ k = 0x21 then v == 3 else false

/-! ### The router's own traffic -/

/-- Changes the fabric. -/
def State.modFab (s : State) (f : Fabric → Fabric) : State := { s with fab := f s.fab }

/-- A message whose header reaches the router now by a port: it is routed under the tables now in force (R292, R306). -/
def Waiting.of (f : Fabric) (port cls : Nat) (m : Msg) : Waiting :=
  let t := vget f.tractA ⟨m.dstDev.toNat / 512 % 128, Nat.mod_lt _ (by decide)⟩
  let d := if tractOf m.dstDev ≠ tractOf f.devId ∧ t.valid = true then t.exitDev else m.dstDev
  ⟨port, cls, m, none, vget f.routeA ⟨d.toNat % 512, Nat.mod_lt _ (by decide)⟩, t, false⟩

/-- Hands a message to the router at a port: 8 for one that begins in this device. -/
def injectAt (s : State) (port : Nat) (m : Msg) : State :=
  s.modFab (fun f => { f with waiting := f.waiting ++ [Waiting.of f port 0 m] })

/-- Hands a message to the router, as one that begins in this device (port 8). -/
def inject (s : State) (m : Msg) : State := injectAt s 8 m

/-- R286, R296: one answer to the sender of a message; each goes in an RSP message of its own (log 23). -/
def answer (s : State) (m : Msg) (reason : Nat) : State :=
  inject s { blankMsg with
    vc := 1, kind := if reason = 0 then 0x10 else 0x11, dstDev := m.srcDev, srcDev := s.fab.devId,
    answers := [⟨m.srcCore, BitVec.ofNat 8 reason, m.msgId⟩] }

/-- R297: a refusal, counted in REFUSED. -/
def refuse (s : State) (m : Msg) (reason : Nat) : State :=
  answer (s.modFab (fun f => { f with refused := satAdd f.refused 1 })) m reason

/-- ACK of a tracked message. -/
def ack (s : State) (m : Msg) : State := if m.tracked then answer s m 0 else s

/-- Reasons of R297. -/
def rSTORE : Nat := 0x01
def rCRC : Nat := 0x02
def rROUTE : Nat := 0x03
def rRESET : Nat := 0x04
def rJOB : Nat := 0x10
def rPLAT : Nat := 0x11
def rPARTITION : Nat := 0x12
def rABSENT : Nat := 0x13
def rMCAST : Nat := 0x14
def rDEVICE : Nat := 0x15

/-- R297: a final reason. -/
def finalReason (r : Nat) : Bool := decide (0x10 ≤ r)

/-- R316: a final refusal reaches XO of a core; `target` is the refused message's target, device and core, which ends the
event record after MSG_ID and reason (log 100). -/
def remoteReject (s : State) (c : Fin 96) (a : Answer) (target : List Byte) : State :=
  let k := s.core c
  let more := leBytes 4 a.msgId.toNat ++ leBytes 1 a.reason.toNat ++ target
  match k.xoHist.reverse.find? (fun x => decide ((a.msgId - x.firstMsg).toNat < 2 ^ 31)) with
  | some x => faultWith s c 3 x.slot.toNat fREMOTE more
  | none => match (k.engine 3).queue with
    | q :: _ => faultWith s c 3 q.slot.toNat fREMOTE more
    | [] => let (v, s) := s.fresh; faultWith s c 3 (v % 2048) fREMOTE more

/-- R296, R297: one answer from device `dev` that reaches the sending router.  The target of a message without a stored copy
is the answering device, its core a free value (log 7). -/
def takeAnswer (dev : BitVec 16) (s : State) (a : Answer) : State :=
  let mine := fun (r : RtxEnt) => decide (r.msg.srcCore = a.core ∧ r.msg.msgId = a.msgId)
  if a.reason = 0 then s.modFab (fun f => { f with rtx := f.rtx.filter (fun r => !mine r) })
  else if finalReason a.reason.toNat then
    let (target, s) := match s.fab.rtx.find? mine with
      | some r => (leBytes 2 r.msg.dstDev.toNat ++ leBytes 1 r.msg.dstCore.toNat, s)
      | none => let (v, s) := s.fresh; (leBytes 2 dev.toNat ++ leBytes 1 (v % 128), s)
    let s := s.modFab (fun f => { f with rtx := f.rtx.filter (fun r => !mine r) })
    match coreOf? a.core.toNat with
    | some c => remoteReject s c a target
    | none => s
  else s.modFab (fun f => { f with rtx := f.rtx.map (fun r => if mine r then { r with since := s.ts } else r) })

/-- The partition that holds a JOB (R295). -/
def partOfJob (s : State) (job : BitVec 16) : Option (Fin 12) :=
  (List.finRange 12).find? (fun p => decide ((s.part p).job = some job))

/-- A message crosses an uplink on its way (R296). -/
def crosses (s : State) (m : Msg) : Bool := decide (tractOf m.dstDev ≠ tractOf s.fab.devId)

/-- R296, R315: the sending router keeps a copy of the message. -/
def tracks (s : State) (m : Msg) : Bool := !m.mcast && (m.tracked || m.ordered || crosses s m)

/-- Bytes of the retransmit store in use (RTX_OCC). -/
def rtxOcc (s : State) : Nat := (s.fab.rtx.map (fun r => 64 * r.msg.flits)).foldl (· + ·) 0

/-- R296: the 1 MiB retransmit store has room for the message, or it needs none. -/
def rtxRoom (s : State) (m : Msg) : Bool := !tracks s m || decide (rtxOcc s + 64 * m.flits ≤ 2 ^ 20)

/-- Ring length of an axis. -/
def Fabric.len (f : Fabric) (axis : Nat) : Nat :=
  (if axis = 0 then f.lenX else if axis = 1 then f.lenY else f.lenZ).toNat

/-- R271, R294: the device `d` hops away along the ring of an axis. -/
def Fabric.ringDev (f : Fabric) (axis : Nat) (minus : Bool) (d : Nat) : BitVec 16 :=
  let l := f.len axis
  let a := coordOf f.devId axis
  let b := if l = 0 then a else (a + d * (if minus then l - 1 else 1)) % l
  BitVec.ofNat 16 (f.devId.toNat - a * 2 ^ (3 * axis) + b * 2 ^ (3 * axis))

/-- The devices that a message of this device reaches (R294). -/
def Fabric.reaches (f : Fabric) (m : Msg) : List (BitVec 16) :=
  if !m.mcast then [m.dstDev]
  else if m.dstDev ≠ f.devId then []
  else (upFrom 1 ((m.hops.toNat + 1) / 2)).map (f.ringDev m.axis.toNat false) ++
    (upFrom 1 (m.hops.toNat / 2)).map (f.ringDev m.axis.toNat true)

/-- The furthest of several sequence numbers (modulo 65,536). -/
def furthest : List (BitVec 16) → BitVec 16
  | [] => 0
  | x :: t => t.foldl (fun a b => if (b - a).toNat < 2 ^ 15 then b else a) x

/-- R283, R285, R296, R262: the sending router completes a message of sending core number `src`
(0x7F for firmware) and takes it at a port: sequence number, TRACKED, CRC, stored copy.  The copies of a multicast share one
header, so that its number is the furthest of those due at the cores it reaches (DEDUCED, log 97). -/
def routerSend (s : State) (port : Nat) (src : BitVec 7) (m : Msg) : State × Msg :=
  let keys := (s.fab.reaches m).map (fun d => (⟨d, src, m.dstCore, m.vc⟩ : SeqKey))
  let seq := furthest (keys.map (fun k => (aget s.fab.sendSeq k).getD 0))
  let m := { m with
    srcCore := src, srcDev := s.fab.devId
    seq := if m.ordered then seq else 0
    msgId := if src = 0x7F then s.fab.fwMsgId else m.msgId
    tracked := tracks s m }
  let m := { m with crc := m.e2e }
  let s := s.modFab (fun f => { f with
    sendSeq := if m.ordered then keys.foldl (fun l k => aset l k (seq + 1)) f.sendSeq else f.sendSeq
    fwMsgId := if src = 0x7F then f.fwMsgId + 1 else f.fwMsgId
    rtx := if m.tracked then f.rtx ++ [⟨m, 0, s.ts⟩] else f.rtx })
  (injectAt s port m, m)

/-- R296: the control processor complex sends a message by a port, or it waits for room in the retransmit store. -/
def fwSend (s : State) (port : Nat) (m : Msg) : State :=
  if rtxRoom s m && (!tracks s m || s.fab.fwWait.isEmpty) then (routerSend s port 0x7F m).1
  else s.modFab (fun f => { f with fwWait := f.fwWait ++ [(port, m)] })

/-- MSG_ID given, the message handed to the router, its SEND record written (R283, R579). -/
def sendOne (s : State) (c : Fin 96) (m : Msg) : State :=
  let id := (s.core c).msgId
  let (s, m) := routerSend (s.modCore c (fun k => { k with msgId := id + 1 })) 8 (BitVec.ofNat 7 c.val)
    { m with msgId := id }
  fbPut s c 0x5 3 (leBytes 4 id.toNat ++ leBytes 2 m.dstDev.toNat ++ leBytes 1 m.dstCore.toNat ++
    leBytes 1 (m.vc.toNat + 4 * b2n m.ordered + 8 * b2n m.tracked))

/-- R296: XO of a core hands messages over in order, until one finds no room; with those that wait. -/
def sendMsgs (c : Fin 96) : State → List Msg → State × List Msg
  | s, [] => (s, [])
  | s, m :: t => if rtxRoom s m then sendMsgs c (sendOne s c m) t else (s, m :: t)

/-- The firmware's waiting messages, as far as there is room. -/
def pumpFw : Nat → State → State
  | 0, s => s
  | n + 1, s => match s.fab.fwWait with
    | [] => s
    | x :: t =>
      if rtxRoom s x.2 then pumpFw n (routerSend (s.modFab (fun f => { f with fwWait := t })) x.1 0x7F x.2).1 else s

/-- The waiting messages of a core's XO, as far as there is room. -/
def pumpCore (s : State) (c : Fin 96) : State :=
  match ((s.core c).engine 3).flight.zipIdx.find? (fun x => !x.1.unsent.isEmpty) with
  | none => s
  | some (f, i) =>
    let r := sendMsgs c s f.unsent
    r.1.modCore c (fun k => k.modEng 3 (fun n => { n with flight := lmod n.flight i (fun f => { f with unsent := r.2 }) }))

/-- R296: room has come in the retransmit store; the firmware goes first, then the cores in order (DESIGN CHOICE, log 51). -/
def pumpSends (s : State) : State := (List.finRange 96).foldl pumpCore (pumpFw s.fab.fwWait.length s)

/-! ### Tallies -/

/-- The tally of a group (R319). -/
def Core.tally (k : Core) (g : Nat) : Tally := (aget k.tallies g).getD .idle

/-- Replaces the tally of a group; an idle one is not kept. -/
def Core.setTally (k : Core) (g : Nat) (t : Tally) : Core :=
  { k with tallies := if t = .idle then adel k.tallies g else aset k.tallies g t }

/-- Changes the tally of a group of core `c`. -/
def modTally (s : State) (c : Fin 96) (g : Nat) (f : Tally → Tally) : State :=
  s.modCore c (fun k => k.setTally g (f (k.tally g)))

/-- Changes an exchange context. -/
def modXc (s : State) (p : Fin 12) (f : Xc → Xc) : State := s.modPart p (fun q => { q with xc := f q.xc })

/-- The XI instruction in flight that names a group and is not done, with its place in flight. -/
def xiOf (k : Core) (g : Nat) : Option (Nat × XiWait) :=
  ((k.engine 4).flight.zipIdx.filterMap (fun (f, i) => match f.xi with
    | some x => if x.group = g ∧ x.done = false then some (i, x) else none
    | none => none)).head?

/-- Header bytes [15:0] of an event record (R586). -/
def exchDrop (s : State) (p : Fin 12) (m : Msg) (cause : Nat) : State :=
  record s 0x0204 p.val m.dstCore.toNat (leBytes 1 cause ++ m.header.take 16)

/-! ### Landing bytes -/

/-- Bytes of a message written at an address; `off` is their place in the message's data, which decides
the poison half they belong to (R256, R257, R283). -/
def landBytes (s : State) (a : Nat) (bs : List Byte) (off : Nat) (poison : Nat) : State :=
  let n := bs.length
  (List.range ((off + n + 31) / 32)).foldl (fun s h =>
    let lo := max (32 * h) off
    let hi := min (32 * h + 32) (off + n)
    if lo < hi ∧ bit poison h then s.mark (a + lo - off) (hi - lo) else s) (s.write a bs false)

/-- The address that ADDR names under the target's ASPACE (R197). -/
def landAddr (c : Fin 96) (m : Msg) (o : Nat) : Nat := spaceAddr c m.space.toNat o

/-- R295, R297, R244, R247, R347: the check of one range that a landing writes under partition `p`: the
reason that refuses it and the first address that fails. -/
def landCheckAt (s : State) (p : Fin 12) (a n : Nat) (rd : Bool) : Option (Nat × Nat) :=
  if n = 0 then none
  else if inStack a then
    match stackFail s .fabWr p.val a n with
    | some b => some (rPLAT, b)
    | none => if rd then (stackFail s .fabRd p.val a n).map (fun b => (rPLAT, b)) else none
  else match winSplit a with
    | none => some (rPLAT, a)
    | some (d, o) =>
      match winFault s p.val d with
      | some f => some (if f = fABSENT then rABSENT else rPARTITION, a)
      | none =>
        if (o < 0x400000 ∧ o + n ≤ dataTop) ∨ (0x400000 ≤ o ∧ o + n ≤ 0x400000 + accTop) then none
        else some (rPLAT, a)

/-- The ranges that a message writes (R313, R333): address and bytes. -/
def landRanges (c : Fin 96) (m : Msg) : List (Nat × Nat) :=
  if m.kind = 0x04 then
    let data := field m.addr.toNat 0 16 * 64
    let sc := field m.addr.toNat 16 16 * 64
    let ret := field m.addr.toNat 32 16 * 64
    let hb := m.op 73 9
    if m.op 82 1 = 1 then
      let cap := m.op 32 16
      let lo := m.op 16 16 * cap + m.op 0 16
      let n := cap - m.op 0 16
      [(dataAddr c (data + lo * 32 * hb), n * 32 * hb), (dataAddr c (sc + lo * hb), n * hb),
        (dataAddr c (ret + 16 * lo), 16 * n)]
    else
      let j := m.op 16 16
      let pc := m.op 68 5
      let nb := m.data.length / 33
      [(dataAddr c (data + j * 32 * hb + pc * 992), 32 * nb), (dataAddr c (sc + j * hb + pc * 31), nb)] ++
        (if pc = 0 then [(dataAddr c (ret + 16 * j), 16)] else [])
  else [(landAddr c m m.addr.toNat, m.data.length)]

/-- R238, R311: a message that lands waits during a memory-step change, and behind a request that waits for one of the sectors
it writes. -/
def stalls (s : State) (m : Msg) : Bool :=
  (m.vc == 0 || m.vc == 2) && (s.ms.mstepTo.isSome ||
    (!s.ms.waiting.isEmpty && (landRanges ((coreOf? m.dstCore.toNat).getD 0) m).any (fun r => behindRequest s r.1 r.2)))

/-- R297: what refuses a landing, with the address of a stack access that fails. -/
def landCheck (s : State) (p : Fin 12) (m : Msg) : Option (Nat × Nat) :=
  let core : Option (Fin 96) := coreOf? m.dstCore.toNat
  let needCore := m.space = 1 ∨ m.space = 2 ∨ m.rsig ∨ m.kind = 0x04
  match (match core with | some c => some c | none => if needCore then none else some 0) with
  | none => some (rABSENT, 0)
  | some c =>
    match (if needCore then winFault s p.val c else none) with
    | some f => some (if f = fABSENT then rABSENT else rPARTITION, 0)
    | none =>
      if 2 < m.space.toNat then some (rPLAT, 0)
      else if m.kind ≠ 0x04 ∧ ((m.space = 1 ∧ dataTop < m.addr.toNat + m.data.length) ∨
          (m.space = 2 ∧ accTop < m.addr.toNat + m.data.length)) then some (rPLAT, 0)
      else (landRanges c m).foldr (fun r acc => match landCheckAt s p r.1 r.2 (m.kind == 0x02) with
        | some f => some f
        | none => acc) none

/-! ### The ordered reduction (R326 to R328, R337) -/

/-- R337: the sum of squares of a chunk, in units of 2^−64, rounded to nearest even; none for a NaN,
`some none` for an infinite sum. -/
def chunkSquares (xs : List Num) : Option (Option Nat) :=
  let sum := xs.foldl (fun a x => (fAdd f64 .rne a (match x with
    | .fin _ m e => .fin false (m * m) (2 * e)
    | .inf _ => .inf false
    | .nan => .nan)).1) Num.zero
  match sum with
  | .nan => none
  | .inf _ => some none
  | .fin _ m e => some (some (roundAt .rne false m 1 e (-64)))

/-- Adds a chunk's squares into a 128-bit total. -/
def addSquares (total : Nat) (q : Option (Option Nat)) : Nat × Bool × Bool :=
  match q with
  | none => (total, false, true)
  | some none => (2 ^ 128 - 1, true, false)
  | some (some n) => if total + n < 2 ^ 128 then (total + n, false, false) else (2 ^ 128 - 1, true, false)

/-- R256, R326, R328: one chunk added at the rank now due; `po` tells which of its bytes are poisoned. -/
def addChunk (s : State) (c : Fin 96) (g a : Nat) (bs : List Byte) (po : Nat → Bool) : State :=
  let s := if ((s.core c).tally g).nextRank = 0 then s else meetErrs s [⟨a, bs.length⟩]
  let k := s.core c
  let t := k.tally g
  let n := bs.length
  let xs := (chunks 4 bs).map leNat
  let elems := xs.zipIdx.map (fun (x, i) =>
    if t.nextRank = 0 then (x, po (4 * i))
    else (n32 (rAdd (w32 (s.num (a + 4 * i) 4)) (w32 x)), po (4 * i) || s.poisoned (a + 4 * i) 4))
  let s := s.write a (elems.flatMap (fun e => leBytes 4 e.1)) false
  let s := elems.zipIdx.foldl (fun s (e, i) => if e.2 then s.mark (a + 4 * i) 4 else s) s
  let z := (aget k.noise g).getD .zero
  let (sq, st1, nn1) := addSquares z.sumsq (chunkSquares (xs.map w32))
  let (cu, st2, nn2) := addSquares z.cur (chunkSquares (elems.map (fun e => w32 e.1)))
  s.modCore c (fun k => { k.setTally g { t with
      curBytes := t.curBytes + n, poison := t.poison || elems.any (fun e => e.2) } with
    noise := aset k.noise g { z with
      sumsq := sq, sat := z.sat || st1, nan := z.nan || nn1
      cur := cu, curSat := z.curSat || st2, curNan := z.curNan || nn2 } })

/-- The rank after the one now added is due. -/
def nextRankOf (s : State) (c : Fin 96) (g : Nat) : State :=
  (modTally s c g (fun t => { t with nextRank := t.nextRank + 1, curBytes := 0 })).modCore c (fun k => { k with
    noise := match aget k.noise g with
      | some z => aset k.noise g { z with
          last := z.cur, lastSat := z.curSat, lastNan := z.curNan, cur := 0, curSat := false, curNan := false }
      | none => k.noise })

/-- R326: once the rank's bytes reach TOTAL the next rank is due, and its staged chunks are added in
order of increasing offset; repeated until a rank is incomplete. -/
def advanceRank (c : Fin 96) (p : Fin 12) (g total : Nat) : Nat → State → State
  | 0, s => s
  | n + 1, s =>
    let t := (s.core c).tally g
    if t.curBytes < total then s
    else
      let s := nextRankOf s c g
      let xc := (s.part p).xc
      let mine := fun (h : Chunk) => decide (h.core = c.val ∧ h.group = g ∧ h.rank = t.nextRank + 1)
      let due := sortStable (fun (a b : Chunk) => decide (a.addr < b.addr)) (xc.staged.filter mine)
      match due.head? with
      | none => s
      | some h0 =>
        let s := due.foldl (fun s h =>
          let sa := xc.stageBase.toNat + 1024 * h.slot
          addChunk s c g h.addr (s.bytes sa h.bytes) (fun i => s.poisoned (sa + i) 1)) s
        let s := modXc s p (fun x => { x with staged := x.staged.filter (fun h => !mine h) })
        advanceRank c p g h0.total n s

/-- R327: the staging lies in one entry of the partition with RD and WR. -/
def stageOk (s : State) (p : Fin 12) : Bool :=
  let x := (s.part p).xc
  s.ms.platA.toList.any (fun e => e.covers x.stageBase.toNat (1024 * x.slots.toNat) &&
    decide (e.part.toNat = p.val) && e.rd && e.wr)

/-- What becomes of a landing. -/
inductive Land where
  /-- landed, or discarded as a duplicate or by XI: a tracked message is acknowledged (R296, log 24) -/
  | landed (s : State)
  | refused (s : State) (reason : Nat)
  deriving Repr

/-- Lands a reduction chunk (R326, R327). -/
def landReduction (s : State) (c : Fin 96) (p : Fin 12) (m : Msg) : Land :=
  let g := m.group.toNat
  let t := (s.core c).tally g
  let limit := match xiOf (s.core c) g with | some (_, x) => if x.kind = 2 then some x.need else none | none => none
  let r := m.rank.toNat
  let total := m.op 0 32
  if (match limit with | some n => decide (n ≤ r) | none => false) then
    .landed (exchDrop (modXc s p (fun x => { x with rankDrop := satAdd x.rankDrop 1 })) p m 2)
  else if r < t.nextRank then .landed (modXc s p (fun x => { x with dupDrop := satAdd x.dupDrop 1 }))
  else if r = t.nextRank then
    let s := modTally s c g (fun t => { t with since := some s.ts })
    let s := addChunk s c g (landAddr c m m.addr.toNat) m.data (fun i => bit m.poison.toNat (i / 32))
    .landed (advanceRank c p g total ((s.part p).xc.staged.length + 1) s)
  else
    let x := (s.part p).xc
    match (List.range x.slots.toNat).find? (fun i => x.staged.all (fun h => decide (h.slot ≠ i))) with
    | some i =>
      if stageOk s p then
        let s := modTally s c g (fun t => { t with since := some s.ts })
        let s := landBytes s (x.stageBase.toNat + 1024 * i) (padTo m.data 1024) 0 m.poison.toNat
        .landed (modXc s p (fun x => { x with
          staged := x.staged ++ [⟨i, m.srcDev, m.srcCore, m.msgId, c.val, g, m.parity, r,
            landAddr c m m.addr.toNat, total, m.data.length⟩] }))
      else .refused (modXc s p (fun x => { x with stageRefuse := satAdd x.stageRefuse 1 })) rSTORE
    | none => .refused (modXc s p (fun x => { x with stageRefuse := satAdd x.stageRefuse 1 })) rSTORE

/-- R319, R323: a landing restarts the gap timer and brings its poison. -/
def Tally.landing (t : Tally) (ts : DWord) (m : Msg) : Tally :=
  { t with since := some ts, poison := t.poison || decide (m.poison ≠ 0) }

/-- Lands a row piece or an end marker (R333). -/
def landTokens (s : State) (c : Fin 96) (m : Msg) : State :=
  let g := m.group.toNat
  let data := field m.addr.toNat 0 16 * 64
  let sc := field m.addr.toNat 16 16 * 64
  let ret := field m.addr.toNat 32 16 * 64
  let hb := m.op 73 9
  if m.op 82 1 = 1 then
    let cap := m.op 32 16
    let lo := m.op 16 16 * cap + m.op 0 16
    let n := cap - m.op 0 16
    let s := s.write (dataAddr c (data + lo * 32 * hb)) (List.replicate (n * 32 * hb) 0) false
    let s := s.write (dataAddr c (sc + lo * hb)) (List.replicate (n * hb) 0) false
    let rec0 : List Byte := List.replicate 13 0 ++ [3, 0, 0]
    let s := s.write (dataAddr c (ret + 16 * lo)) ((List.replicate n rec0).flatten) false
    modTally s c g (fun t => { t.landing s.ts m with
      ends := t.ends + 1, announced := t.announced + m.op 0 16 * ceilDiv hb 31 })
  else
    let j := m.op 16 16
    let pc := m.op 68 5
    let nb := m.data.length / 33
    let s := landBytes s (dataAddr c (sc + j * hb + pc * 31)) (m.data.take nb) 0 m.poison.toNat
    let s := landBytes s (dataAddr c (data + j * 32 * hb + pc * 992)) (m.data.drop nb) nb m.poison.toNat
    let s := if pc = 0 then
        s.write (dataAddr c (ret + 16 * j)) (leBytes 4 (m.op 0 16) ++ leBytes 2 m.srcDev.toNat ++
          leBytes 1 m.srcCore.toNat ++ [0] ++ leBytes 4 (m.op 32 32) ++ leBytes 1 (m.op 64 4) ++ [2, 0, 0]) false
      else s
    modTally s c g (fun t => { t.landing s.ts m with landed := t.landed + 1 })

/-- The KIND of tally a message counts in (R319). -/
def tallyKind (m : Msg) : Nat := if m.kind = 0x02 then 2 else if m.kind = 0x04 then 3 else 1

/-- The record of a landing or of a discarded duplicate at the landing core (R579). -/
def recvRecord (s : State) (c : Fin 96) (m : Msg) (dup : Bool) : State :=
  fbPut s c 0x6 4 (leBytes 4 m.msgId.toNat ++ leBytes 2 m.srcDev.toNat ++ leBytes 1 m.srcCore.toNat ++
    leBytes 1 (m.vc.toNat + 4 * b2n dup))

/-- XI lands a message that the router has admitted (R314, R320, R321, R326, R333). -/
def xiLand (s : State) (p : Fin 12) (m : Msg) : Land :=
  match coreOf? m.dstCore.toNat with
  | none => if m.rsig then .refused s rABSENT else .landed (landBytes s (landAddr 0 m m.addr.toNat) m.data 0 m.poison.toNat)
  | some c =>
    if !m.rsig then .landed (recvRecord (landBytes s (landAddr c m m.addr.toNat) m.data 0 m.poison.toNat) c m false)
    else
      let g := m.group.toNat
      let t := (s.core c).tally g
      if t.kind ≠ 0 ∧ (t.kind ≠ tallyKind m ∨ t.parity ≠ m.parity) then
        .landed (exchDrop (modXc s p (fun x => { x with mixedDrop := satAdd x.mixedDrop 1 })) p m 1)
      else
        let s1 := modTally s c g (fun t => { t with kind := tallyKind m, parity := m.parity })
        let l := if m.kind = 0x02 then landReduction s1 c p m
          else if m.kind = 0x04 then .landed (landTokens s1 c m)
          else .landed (modTally (landBytes s1 (landAddr c m m.addr.toNat) m.data 0 m.poison.toNat) c g
            (fun t => { t.landing s.ts m with count := t.count + m.data.length }))
        match l with
        | .landed s => .landed (recvRecord s c m false)
        | .refused s r => .refused (s.modCore c (fun k => k.setTally g t)) r

/-! ### Duplicates and order at the target router -/

/-- R322: the verdict of the duplicate window, which holds the 1,024 MSG_IDs below the highest: 0 new, 1 duplicate, 2 no
window to be had; with the state that holds the window. -/
def dupCheck (s : State) (m : Msg) : Nat × State :=
  let f := s.fab
  let mine := fun (w : DupWin) => decide (w.dev = m.srcDev ∧ w.core = m.srcCore)
  match f.dups.find? mine with
  | some w =>
    let d := (w.highest - m.msgId).toNat
    let dup := decide (d < 2 ^ 31) && (decide (1024 < d) || w.marks.contains m.msgId.toNat)
    (b2n dup, s.modFab (fun f => { f with dups := f.dups.map (fun w => if mine w then { w with since := s.ts } else w) }))
  | none =>
    let fresh : DupWin := ⟨m.srcDev, m.srcCore, m.msgId - 1, [], s.ts⟩
    if f.dups.length < 1024 then (0, s.modFab (fun f => { f with dups := f.dups ++ [fresh] }))
    else match f.dups.find? (fun w => decide (f.gapUs * usTicks ≤ s.since w.since)) with
      | none => (2, s)
      | some old => (0, s.modFab (fun f => { f with dups := (f.dups.filter (fun w => decide (w ≠ old))) ++ [fresh] }))

/-- R322: marks a landed MSG_ID, of a tracked message or not, where its sender has a window. -/
def dupMark (s : State) (m : Msg) : State :=
  s.modFab (fun f => { f with
    dups := f.dups.map (fun w =>
    if w.dev = m.srcDev ∧ w.core = m.srcCore then
      let d := (m.msgId - w.highest).toNat
      let hi := if 0 < d ∧ d < 2 ^ 31 then m.msgId else w.highest
      { w with
        highest := hi
        marks := (w.marks ++ [m.msgId.toNat]).filter (fun x => decide ((hi - BitVec.ofNat 32 x).toNat ≤ 1024)) }
    else w) })

/-- Sequence key of a message (R262). -/
def seqKey (m : Msg) : SeqKey := ⟨m.srcDev, m.srcCore, m.dstCore, m.vc⟩

/-- Lands an admitted message, answers it, and says whether it landed. -/
def acceptMsg (s : State) (p : Fin 12) (m : Msg) : State × Bool :=
  match xiLand s p m with
  | .landed s => (ack (dupMark s m) m, true)
  | .refused s r => (refuse s m r, false)

/-- ATTEMPT of a parity (R265). -/
def Xc.attempt (x : Xc) (parity : Bool) : BitVec 4 := if parity then x.attempt1 else x.attempt0

/-- R265: a message of another attempt is discarded and counted. -/
def staleMsg (s : State) (p : Fin 12) (m : Msg) : Bool := decide ((s.part p).xc.attempt m.parity ≠ m.attempt)

/-- R265: the count of the discarded message. -/
def dropStale (s : State) (p : Fin 12) : State := modXc s p (fun x => { x with staleDrop := satAdd x.staleDrop 1 })

/-- The sequence number due next. -/
def dueSeq (s : State) (k : SeqKey) : BitVec 16 := (aget s.fab.nextSeq k).getD 0

/-- Advances a sequence by one. -/
def stepSeq (s : State) (k : SeqKey) : State :=
  let e := dueSeq s k
  s.modFab (fun f => { f with nextSeq := aset f.nextSeq k (e + 1) })

/-- R262, R265: releases held messages in sequence, those of an abandoned attempt into nothing, with fuel; one that may not land
now (R238, R311) stays held. -/
def releaseHeld (k : SeqKey) : Nat → State → State
  | 0, s => s
  | n + 1, s =>
    let e := dueSeq s k
    if s.fab.seqSkip.any (fun x => decide (x.1 = k ∧ x.2 = e)) then
      releaseHeld k n (stepSeq (s.modFab (fun f => { f with
        seqSkip := f.seqSkip.filter (fun x => !decide (x.1 = k ∧ x.2 = e)) })) k)
    else match s.fab.held.find? (fun h => decide (seqKey h.1 = k ∧ h.1.seq = e)) with
      | none => s
      | some (m, _) =>
        if stalls s m then s
        else
          let s := s.modFab (fun f => { f with held := f.held.filter (fun h => !decide (seqKey h.1 = k ∧ h.1.seq = e)) })
          match partOfJob s m.job with
          | none => releaseHeld k n (stepSeq s k)
          | some p =>
            if staleMsg s p m then releaseHeld k n (stepSeq (dropStale s p) k)
            else match acceptMsg s p m with
            | (s, true) => releaseHeld k n (stepSeq s k)
            | (s, false) => s

/-- Fuel that suffices for `releaseHeld`. -/
def heldFuel (s : State) : Nat := s.fab.held.length + s.fab.seqSkip.length + 1

/-- A sequence number that will never land is passed over (log 22), unless it has been passed already. -/
def passSeq (s : State) (m : Msg) : State :=
  let k := seqKey m
  if !m.ordered || decide (2 ^ 15 ≤ (m.seq - dueSeq s k).toNat) then s
  else
    if dueSeq s k = m.seq then releaseHeld k (heldFuel s) (stepSeq s k)
    else s.modFab (fun f => { f with seqSkip := f.seqSkip ++ [(k, m.seq)] })

/-- Bytes of the reorder store in use (REORDER_OCC). -/
def reorderOcc (s : State) : Nat := (s.fab.held.map (fun h => 64 * h.1.flits)).foldl (· + ·) 0

/-- R262, R263: an ORDERED message takes its place in its sequence. -/
def placeOrdered (s : State) (p : Fin 12) (m : Msg) : State :=
  let k := seqKey m
  let d := (m.seq - dueSeq s k).toNat
  if 2 ^ 15 ≤ d then ack (s.modFab (fun f => { f with lateDrop := satAdd f.lateDrop 1 })) m
  else if d = 0 then
    match acceptMsg s p m with
    | (s, true) => let s := stepSeq s k; releaseHeld k (heldFuel s) s
    | (s, false) => s
  else if s.fab.held.any (fun h => decide (seqKey h.1 = k ∧ h.1.seq = m.seq)) then s
  else if 2 ^ 20 < reorderOcc s + 64 * m.flits then refuse s m rSTORE
  else
    s.modFab (fun f => { f with held := f.held ++ [(m, s.ts)] })

/-- R285, R295, R265, R297, R322, R262: a REQ or COLL message at its target router. -/
def arriveData (s : State) (m : Msg) : State :=
  if m.crc ≠ m.e2e then refuse s m rCRC
  else match partOfJob s m.job with
  | none => refuse s m rJOB
  | some p =>
    if (s.part p).underReset then refuse s m rRESET
    else if staleMsg s p m then passSeq (dropStale s p) m
    else match landCheck s p m with
    | some (r, a) =>
      let s := if r = rPLAT then
          refusedAt s ⟨3, m.srcDev.toNat⟩ p.val 0x7F a else s
      passSeq (refuse s m r) m
    | none =>
      let (v, s) := if m.tracked then dupCheck s m else (0, s)
      if v = 2 then refuse s m rSTORE
      else if v = 1 then
        let s := modXc s p (fun x => { x with dupDrop := satAdd x.dupDrop 1 })
        let s := match coreOf? m.dstCore.toNat with | some c => recvRecord s c m true | none => s
        ack s m
      else if m.ordered then placeOrdered s p m
      else (acceptMsg s p m).1

/-! ### The barrier (R308, R309) -/

/-- Changes a barrier context. -/
def modBar (s : State) (i : Fin 16) (f : Barrier → Barrier) : State :=
  s.modFab (fun x => { x with bars := vmod x.bars i f })

/-- R271: the device that torus port `n` (0 to 5) must connect to. -/
def neighbour (f : Fabric) (n : Nat) : BitVec 16 :=
  f.ringDev (n / 2) (decide (n % 2 = 1)) 1

/-- A barrier message to another device; GEN stands in OPINFO bits [15:0] (log 25). -/
def barSend (s : State) (port : Nat) (b : Barrier) (release : Bool) (dst : BitVec 16) : State :=
  fwSend s port { blankMsg with
    vc := 3, kind := if release then 0x21 else 0x20, dstDev := dst, job := b.job,
    opinfo := BitVec.ofNat 96 b.gen.toNat }

/-- A barrier message to the neighbour at torus port `n`, by that port: it waits as port 16 + n (R308, log 65). -/
def barSendPort (s : State) (b : Barrier) (release : Bool) (n : Nat) : State :=
  barSend s (16 + n) b release (neighbour s.fab n)

/-- The record of a barrier that ended (R309). -/
def barRecord (s : State) (i : Fin 16) (status : Nat) : State :=
  let b := vget s.fab.bars i
  record s 0x0403 (match partOfJob s b.job with | some p => p.val | none => 15) 0x7F
    (leBytes 1 i.val ++ leBytes 2 b.gen.toNat ++ leBytes 1 status)

/-- R309: a barrier fails here. -/
def barFail (s : State) (i : Fin 16) (status : Nat) : State :=
  modBar (barRecord s i status) i (fun b => { b with failed := status })

/-- Child ports of a context. -/
def Barrier.children (b : Barrier) : List Nat := (List.range 6).filter (fun n => bit b.childMask.toNat n)

/-- R309, item 4: the release passes to the children, completes here and advances GEN. -/
def barRelease (s : State) (i : Fin 16) : State :=
  let b := vget s.fab.bars i
  let s := b.children.foldl (fun s n => barSendPort s b true n) s
  let s := b.rootDevs.foldl (fun s d => barSend s 8 b true d) s
  modBar (barRecord s i 0) i (fun b => { b with
    gen := b.gen + 1, arrived := false, fromPorts := 0, fromTracts := 0, rootDevs := [] })

/-- R309, items 2 and 3: every arrival has come. -/
def Barrier.full (b : Barrier) : Bool :=
  b.arrived && decide (b.fromPorts &&& b.childMask = b.childMask) && decide (b.childTracts.toNat ≤ b.rootDevs.length)

/-- Sends upward, by the torus port or the uplink that PARENT names, or releases at the global root, once the last arrival has
come. -/
def barCheck (s : State) (i : Fin 16) : State :=
  let b := vget s.fab.bars i
  if !b.full then s
  else if b.parent = 15 then barRelease s i
  else if b.parent.toNat < 6 then barSendPort s b false b.parent.toNat
  else barSend s (16 + b.parent.toNat) b false b.parentDev

/-- R309: an arrival, recorded by `mark`. -/
def barArrive (s : State) (i : Fin 16) (gen : BitVec 16) (mark : Barrier → Barrier) : State :=
  let b := vget s.fab.bars i
  if b.failed ≠ 0 then s
  else if gen ≠ b.gen then barFail s i 1
  else if b.full then s
  else barCheck (modBar s i mark) i

/-- The context of a JOB. -/
def barOf (s : State) (job : BitVec 16) : Option (Fin 16) :=
  (List.finRange 16).find? (fun i => (vget s.fab.bars i).used && decide ((vget s.fab.bars i).job = job))

/-- R309: a barrier message that arrives by port `port` (6, 7 or above: not by a torus port); a resend of one that has come
is discarded (R311, R322). -/
def arriveBarrier (s : State) (port : Nat) (m : Msg) : State :=
  let (v, s) := if m.tracked && decide (m.crc = m.e2e) then dupCheck s m else (0, s)
  if m.crc ≠ m.e2e then refuse s m rCRC
  else if v = 2 then refuse s m rSTORE
  else if v = 1 then
    ack (match partOfJob s m.job with | some p => modXc s p (fun x => { x with dupDrop := satAdd x.dupDrop 1 }) | none => s) m
  else
    let s := ack (dupMark s m) m
    match barOf s m.job with
    | none => record s 0x0402 15 0x7F (m.header.take 16)
    | some i =>
      let gen := BitVec.ofNat 16 (m.op 0 16)
      if m.kind = 0x20 then
        barArrive s i gen (fun b =>
          if port < 6 then { b with fromPorts := b.fromPorts ||| BitVec.ofNat 6 (2 ^ port) }
          else if b.rootDevs.contains m.srcDev then b
          else { b with rootDevs := b.rootDevs ++ [m.srcDev], fromTracts := b.fromTracts + 1 })
      else
        let b := vget s.fab.bars i
        if b.failed ≠ 0 then s else if gen ≠ b.gen then barFail s i 1 else barRelease s i

/-- R284: a message of a reserved KIND is discarded. -/
def dropKind (s : State) (m : Msg) : State := record s 0x0204 15 0x7F (leBytes 1 3 ++ m.header.take 16)

/-- R284: any message at its target router. -/
def arrive (s : State) (port : Nat) (m : Msg) : State :=
  if !kindOk m then dropKind s m
  else if m.vc = 1 then pumpSends (m.answers.foldl (takeAnswer m.srcDev) s)
  else if m.vc = 3 then arriveBarrier s port m
  else arriveData s m

end Sys2Proof.Machine
end

