-- ==== Sys2Proof/Machine/Links.lean ====
section
/-! DEFINITION.  The torus ports (R273 to R282), routing (R290 to R294), the Ethernet uplinks (R302 to
R307, R557) and the commands by which the router takes and forwards messages. -/

namespace Sys2Proof.Machine

open Sys2Proof

/-! ### Port state -/

/-- Changes a port. -/
def modPort (s : State) (n : Fin 8) (f : Port → Port) : State :=
  s.modFab (fun x => { x with ports := vmod x.ports n f })

/-- Port `n`. -/
def portOf (s : State) (n : Fin 8) : Port := vget s.fab.ports n

/-- A port from a number, where it is one. -/
def portNum? (n : Nat) : Option (Fin 8) := if h : n < 8 then some ⟨n, h⟩ else none

/-- PORT_STATUS as a word (R312). -/
def Port.status (p : Port) : Nat :=
  p.state.toNat + 4 * b2n p.miswired + 8 * b2n p.strong + 16 * p.lanes.toNat + 65536 * p.peerId.toNat

/-- The LINK event record of a port (R586). -/
def linkRecord (s : State) (n : Fin 8) : State :=
  record s 0x0401 15 0x7F (leBytes 1 n.val ++ leBytes 4 (portOf s n).status)

/-- Flits in one codeword (R274). -/
def Port.perWord (p : Port) : Nat := if p.strong then 10 else 5

/-- Index of a VC's credit counts, in the order of the input buffer table (R287). -/
def vcRow (vc : BitVec 2) : Nat := if vc = 0 then 0 else if vc = 2 then 1 else if vc = 1 then 2 else 3

/-- Index of the credit count of a VC and class. -/
def credIdx (vc : BitVec 2) (cls : Nat) : Fin 12 :=
  ⟨(vcRow vc * 3 + cls % 3) % 12, Nat.mod_lt _ (by decide)⟩

/-! ### Sending codewords and link control flits (R277, R278) -/

/-- Codewords sent and not acknowledged. -/
def Port.unacked (p : Port) : Nat := p.replay.length

/-- R278 to R281: the port may send `k` new codewords; none goes past a HS_AT of this side before the switch (log 101). -/
def Port.maySend (p : Port) (k : Nat) : Bool :=
  p.trained && !p.retraining && decide (p.unacked + k ≤ 32) && p.hs.all (fun h => !h.mine || decide (k ≤ h.left))

/-- The next `k` codewords of the count with what they carry. -/
def Port.next (p : Port) (k : Nat) (b : TxBody) : List TxEnt :=
  (List.range k).map (fun i => ⟨p.txCount + BitVec.ofNat 6 i, i, b⟩)

/-- Codewords sent: held for resending and counted; HS_AT of this side's handshakes comes nearer (R278, R280). -/
def Port.sent (p : Port) (k : Nat) (b : TxBody) : Port :=
  { p with
    replay := p.replay ++ p.next k b, txCount := p.txCount + BitVec.ofNat 6 k
    sinceCtl := match b with | .control _ => 0 | _ => p.sinceCtl + k
    hs := p.hs.map (fun h => if h.mine then { h with left := h.left - k } else h) }

/-- `k` new codewords of a port with what they carry. -/
def sendWords (s : State) (n : Fin 8) (k : Nat) (b : TxBody) : State :=
  (modPort s n (fun p => p.sent k b)).modFab (fun f => { f with
    outbox := f.outbox ++ ((portOf s n).next k b).map (.word n.val) })

/-- The 64 bytes of a link control flit (R277). -/
def controlFlit (ack : BitVec 6) (nak : Option (BitVec 6)) (hs : BitVec 8) (at_ : BitVec 6) (lanes : BitVec 4)
    (dev : BitVec 16) (credits : List Nat) : List Byte :=
  ([1] : List Byte) ++ leBytes 1 ack.toNat ++ leBytes 1 (match nak with | some c => 1 + 2 * c.toNat | none => 0) ++
    leBytes 1 hs.toNat ++ leBytes 1 at_.toNat ++ leBytes 1 lanes.toNat ++ leBytes 2 dev.toNat ++
    credits.flatMap (leBytes 2) ++ List.replicate 32 0

/-- A link control flit is due (R277). -/
def CtlDue.any (d : CtlDue) : Bool := d.ack || d.nak.isSome || !d.hs.isEmpty || d.credits.toList.any (fun c => c != 0)

/-- One link control flit with all that is due and the first handshake, in a codeword of its own (log 12): it reports the
last codeword accepted and the lanes received cleanly. -/
def sendFlit (s : State) (n : Fin 8) : State :=
  let p := portOf s n
  let h := p.due.hs.head?.getD (0, 0)
  let flit := controlFlit (p.rxCount - 1) p.due.nak h.1 h.2 (~~~ p.laneDown) (if h.1 = 5 then s.fab.devId else 0)
    p.due.credits.toList
  sendWords (modPort s n (fun p => { p with due := { CtlDue.none with hs := p.due.hs.tail } })) n 1 (.control flit)

/-- Sends what is due, one flit for each handshake, as far as R278 lets new codewords go. -/
def flush (n : Fin 8) : Nat → State → State
  | 0, s => s
  | k + 1, s => if (portOf s n).due.any && (portOf s n).maySend 1 then flush n k (sendFlit s n) else s

/-- R277: something more to report in a link control flit, which goes out as soon as a codeword may. -/
def sendControl (s : State) (n : Fin 8) (f : CtlDue → CtlDue) : State :=
  let s := modPort s n (fun p => { p with due := f { p.due with ack := true } })
  flush n ((portOf s n).due.hs.length + 1) s

/-- A NAK that names the next codeword expected (R279). -/
def sendNak (s : State) (n : Fin 8) : State := sendControl s n (fun d => { d with nak := some (portOf s n).rxCount })

/-- A handshake (R277). -/
def sendHs (s : State) (n : Fin 8) (code : BitVec 8) (at_ : BitVec 6) : State :=
  sendControl s n (fun d => { d with hs := d.hs ++ [(code, at_)] })

/-- R287: a message leaves the input buffer of the torus port it came in by; its flits are reported. -/
def freeBuffer (s : State) (port cls : Nat) (m : Msg) : State :=
  match portNum? port with
  | some n =>
    if n.val < 6 then sendControl s n (fun d => { d with credits := vmod d.credits (credIdx m.vc cls) (· + m.flits) }) else s
  | none => s

/-- R282, R306: a port goes down: its buffers are lost, an event record is written. -/
def linkDown (s : State) (n : Fin 8) : State :=
  let s := modPort s n (fun p => { p with
    state := 2, downs := satAdd p.downs 1, replay := [], trained := false, peerKnown := false,
    retraining := false, hs := [], later := [], discarding := false, paused := 0, due := .none, rxHead := [], rxLeft := 0 })
  let s := if n.val < 6 then s.modFab (fun f => { f with waiting := f.waiting.filter (fun w => decide (w.port ≠ n.val)) })
    else s
  linkRecord s n

/-- R273: a trained torus port whose partner has reported ID `peer` (or none) comes up, or is fenced. -/
def judgePeer (s : State) (n : Fin 8) (peer : Option (BitVec 16)) : State :=
  let good := decide (2 ≤ s.fab.len (n.val / 2)) && decide (peer = some (neighbour s.fab n.val))
  let s := modPort s n (fun p => { p with
    state := if good then 1 else 3, miswired := !good, peerId := peer.getD 0 })
  if good then s else linkRecord s n

/-- PORT_TRAINED (R273, R280, R281): the port is trained, `peer` the device ID its partner reports.
A port held down by PORT_CFG does not train; one that AUTO has switched to strong-FEC mode stays in it until PORT_CFG is
written. -/
def execPortTrained (n : Fin 8) (peer : Option (BitVec 16)) (s : State) : Out :=
  .next (
    if (portOf s n).enable = false then s
    else
      let s := modPort s n (fun p => { p with
        state := 0, trained := true, miswired := false, txCount := 0, rxCount := 0, replay := [],
        discarding := false, nakRun := 0, afterRetrain := false, retraining := false,
        failedRetrains := 0, lanes := 0, laneDown := 0, hs := [], later := [], due := .none, sinceCtl := 0, rxHead := [], rxLeft := 0
        credits := bufferTable, strong := decide (p.fec = 1) || (decide (p.fec = 2) && p.strong) })
      if 6 ≤ n.val then modPort s n (fun p => { p with state := 1 })
      else
        let s := modPort s n (fun p => { p with peerKnown := peer.isSome, peerId := peer.getD 0 })
        if s.fab.idValid then judgePeer (sendHs s n 5 0) n peer else s)

/-! ### Codewords, acknowledgements and retries (R275 to R281) -/

/-- The codewords held for resending, once more on the wire, from a count on. -/
def resendFrom (s : State) (n : Fin 8) (c : BitVec 6) : State :=
  let due := (portOf s n).replay.filter (fun e => decide ((e.count - c).toNat < 32))
  s.modFab (fun f => { f with outbox := f.outbox ++ due.map (.word n.val) })

/-- R279: the link is forced to retrain. -/
def forceRetrain (s : State) (n : Fin 8) : State :=
  modPort s n (fun p => { p with retraining := true, retrains := satAdd p.retrains 1, nakRun := 0 })

/-- A handshake to be switched later; DEGRADE goes first (R311). -/
def Port.addHs (p : Port) (h : Hs) : Port :=
  { p with hs := if h.code = 1 then h :: p.hs else p.hs ++ [h] }

/-- Codewords from now to the last switch of this side. -/
def Port.lastHs (p : Port) : Nat := (p.hs.filter (fun h => h.mine)).foldl (fun m h => max m h.left) 0

/-- R280, R281: this side asks for a switch at a codeword count at least 8 after the handshake and later than the switches
that it has asked for (R311); the manual leaves the count open (free value, log 7). -/
def askOne (s : State) (n : Fin 8) (code : BitVec 8) : State :=
  let (v, s) := s.fresh
  let p := portOf s n
  let low := max 9 (p.lastHs + 1)
  let left := low + v % (max 1 (64 - low))
  let c := p.txCount + BitVec.ofNat 6 left
  sendHs (modPort s n (fun p => p.addHs ⟨code, c, ~~~ p.laneDown, true, left⟩)) n code c

/-- R280, R281, R311: this side asks for a switch; where it is DEGRADE, the FEC switches asked for and not done follow at a
later HS_AT; a FEC switch waits until a DEGRADE of the partner is done. -/
def askSwitch (s : State) (n : Fin 8) (code : BitVec 8) : State :=
  if code = 1 then
    let later := (portOf s n).hs.filter (fun h => h.mine && h.code != 1)
    let s := modPort s n (fun p => { p with
      hs := p.hs.filter (fun h => !(h.mine && h.code != 1)), due := { p.due with hs := p.due.hs.filter (fun h => h.1 == 1 || h.1 == 5) } })
    later.foldl (fun s h => askOne s n h.code) (askOne s n 1)
  else if (code = 3 ∨ code = 4) ∧ (portOf s n).hs.any (fun h => !h.mine && h.code == 1) then
    modPort s n (fun p => { p with later := p.later ++ [code] })
  else askOne s n code

/-- R281: one retry counted; more than RETRY_SWITCH within 1 ms switch AUTO to strong-FEC mode. -/
def countRetry (s : State) (n : Fin 8) : State :=
  let s := modPort s n (fun p => { p with
    retries := satAdd p.retries 1
    retryTimes := p.retryTimes.filter (fun t => decide (s.since t < msTicks)) ++ [s.ts] })
  let p := portOf s n
  if p.fec = 2 ∧ p.strong = false ∧ p.retrySwitch.toNat < p.retryTimes.length ∧ p.hs.all (fun h => decide (h.code ≠ 4)) ∧
      p.later.contains 4 = false then
    askSwitch s n 4
  else s

/-- R282: a retrain has failed. -/
def retrainFailed (s : State) (n : Fin 8) : State :=
  let s := modPort s n (fun p => { p with failedRetrains := p.failedRetrains + 1 })
  if 3 ≤ (portOf s n).failedRetrains then linkDown s n else forceRetrain s n

/-- R279: a NAK that names codeword `c`. -/
def takeNak (s : State) (n : Fin 8) (c : BitVec 6) : State :=
  let s := modPort s n (fun p => { p with
    nakRun := if p.nakRun ≠ 0 ∧ p.nakSeq = c then p.nakRun + 1 else 1, nakSeq := c })
  let p := portOf s n
  if 8 ≤ p.nakRun then
    if p.afterRetrain then retrainFailed (modPort s n (fun p => { p with nakRun := 0 })) n else forceRetrain s n
  else if p.replay.any (fun e => e.count == c) then resendFrom (countRetry s n) n c
  else forceRetrain s n

/-- R278: ACK_SEQ covers codewords; room comes for a link control flit that is due. -/
def takeAck (s : State) (n : Fin 8) (c : BitVec 6) : State :=
  let p := portOf s n
  let left := p.replay.filter (fun e => decide (32 ≤ (c - e.count).toNat))
  if left.length = p.replay.length then s
  else modPort s n (fun p => { p with replay := left, nakRun := 0, afterRetrain := false, failedRetrains := 0 })

/-- The part of a link control flit that acknowledges, returns credits and asks for a resend (R277). -/
def takeReport (s : State) (n : Fin 8) (ack : BitVec 6) (nak : Option (BitVec 6)) (credits : List (BitVec 16)) : State :=
  let s := takeAck s n ack
  let s := modPort s n (fun p => { p with
    credits := Vector.ofFn (fun (i : Fin 12) =>
      min ((vget p.credits i) + (credits.getD i.val 0).toNat) (vget bufferTable i)) })
  match nak with | some c => takeNak s n c | none => s

/-- R311: a DEGRADE of the partner puts off this side's FEC handshakes, which are asked again once it is done. -/
def putOff (s : State) (n : Fin 8) : State :=
  let late := fun (h : Hs) => h.mine && (h.code == 3 || h.code == 4)
  modPort s n (fun p => { p with
    later := p.later ++ (p.hs.filter late).map Hs.code, hs := p.hs.filter (fun h => !late h)
    due := { p.due with hs := p.due.hs.filter (fun h => h.1 != 3 && h.1 != 4) } })

/-- A link control flit (R277): acknowledgement, credits, NAK, handshake.  A reserved handshake code has no effect. -/
def takeControl (s : State) (n : Fin 8) (ack : BitVec 6) (nak : Option (BitVec 6)) (hs : BitVec 8)
    (hsAt : BitVec 6) (lanes : BitVec 4) (dev : BitVec 16) (credits : List (BitVec 16)) : State :=
  if !(portOf s n).trained then s
  else
    let s := takeReport s n ack nak credits
    let s :=
      if hs = 5 then
        let s := modPort s n (fun p => { p with peerKnown := true, peerId := dev })
        if s.fab.idValid then judgePeer s n (some dev) else s
      else if 1 ≤ hs.toNat ∧ hs.toNat ≤ 4 then
        modPort (if hs = 1 then putOff s n else s) n (fun p =>
          { p with hs := p.hs.filter (fun h => h.mine || h.code != hs) }.addHs ⟨hs, hsAt, lanes, false, (hsAt - p.rxCount).toNat⟩)
      else s
    flush n ((portOf s n).due.hs.length + 1) s

/-- LINK_CONTROL_FLIT (R277). -/
def execLinkControlFlit (n : Fin 6) (ack : BitVec 6) (nak : Option (BitVec 6)) (hs : BitVec 8)
    (hsAt : BitVec 6) (lanes : BitVec 4) (dev : BitVec 16) (credits : List (BitVec 16)) (s : State) : Out :=
  .next (takeControl s ⟨n.val, by omega⟩ ack nak hs hsAt lanes dev credits)

/-- LINK_RETRAIN_DONE (R279, R282): the retrain ends well and what is unacknowledged is resent, or it
counts as failed.  One that the partner forced is counted here. -/
def execLinkRetrainDone (n : Fin 6) (ok : Bool) (s : State) : Out :=
  let n : Fin 8 := ⟨n.val, by omega⟩
  .next (
    if !(portOf s n).trained then s
    else
      let s := if (portOf s n).retraining then s else forceRetrain s n
      if ok then
        let s := modPort s n (fun p => { p with retraining := false, afterRetrain := true, nakRun := 0 })
        let s := match (portOf s n).replay.head? with
          | some e => resendFrom s n e.count
          | none => s
        flush n ((portOf s n).due.hs.length + 1) s
      else retrainFailed s n)

/-- The pair of lanes that a set of healthy lanes leaves: LANES of PORT_STATUS, or none. -/
def lanePair (healthy : BitVec 4) : Option (BitVec 2) :=
  if healthy &&& 3 = 3 then some 1 else if healthy &&& 12 = 12 then some 2 else none

/-- LANE_FAULT (R280, R282): the receiver traces a fault to a lane. -/
def execLaneFault (n : Fin 6) (lane : Fin 4) (s : State) : Out :=
  let n : Fin 8 := ⟨n.val, by omega⟩
  let p := portOf s n
  let down := p.laneDown ||| BitVec.ofNat 4 (2 ^ lane.val)
  .next (
    if !p.trained then s
    else
      let s := modPort s n (fun p => { p with laneDown := down })
      if p.lanes = 0 then
        match lanePair (~~~ down) with
        | some _ => askSwitch s n 1
        | none => linkDown s n
      else
        let inUse := if p.lanes = 1 then lane.val < 2 else 2 ≤ lane.val
        if inUse then linkDown s n else s)

/-- Codewords without a message, as many as R278 lets go, up to a number: one with a link control flit among every 16. -/
def fillIdle (n : Fin 8) : Nat → State → State
  | 0, s => s
  | k + 1, s =>
    if !(portOf s n).maySend 1 then s
    else fillIdle n k (if 15 ≤ (portOf s n).sinceCtl then sendFlit s n else sendWords s n 1 .idle)

/-- What a handshake switches. -/
def Port.switch (p : Port) (h : Hs) : Port :=
  if h.code = 1 then
    { p with
      lanes := (lanePair h.lanes).getD p.lanes
      degrades := if h.lanes = 0xF then p.degrades else satAdd p.degrades 1 }
  else if h.code = 2 then { p with lanes := 0 }
  else if h.code = 3 then { p with strong := false }
  else if h.code = 4 then { p with strong := true } else p

/-- R311: with no DEGRADE of the partner pending, the handshakes put off are asked. -/
def askLater (s : State) (n : Fin 8) : State :=
  let p := portOf s n
  if p.hs.any (fun h => !h.mine && h.code == 1) then s
  else p.later.foldl (fun s c => askSwitch s n c) (modPort s n (fun p => { p with later := [] }))

/-- HANDSHAKE_SWITCH (R280, R281, R311): at HS_AT both sides switch as the handshake first in line says, and not before:
codewords without a message take this side to the HS_AT that it asked for (log 101).  The move of an idle port to lanes 0 and 1
(R505) reports every lane healthy and is not counted. -/
def execHandshakeSwitch (n : Fin 6) (s : State) : Out :=
  let n : Fin 8 := ⟨n.val, by omega⟩
  .next (match (portOf s n).hs with
    | [] => s
    | h :: _ =>
      let s := if h.mine then fillIdle n h.left s else s
      match (portOf s n).hs with
      | [] => s
      | h :: t => if h.left = 0 then askLater (modPort s n (fun p => { p with hs := t }.switch h)) n else s)

/-- LANE_RETRAINED (R280): the failed lanes have trained; UPGRADE is sent. -/
def execLaneRetrained (n : Fin 6) (s : State) : Out :=
  let n : Fin 8 := ⟨n.val, by omega⟩
  .next (
    if (portOf s n).trained ∧ (portOf s n).laneDown ≠ 0 then
      askSwitch (modPort s n (fun p => { p with laneDown := 0 })) n 2
    else s)

/-- PARTNER_SILENCE (R282): no link control flit for 100 µs. -/
def execPartnerSilence (n : Fin 6) (s : State) : Out :=
  let n : Fin 8 := ⟨n.val, by omega⟩
  .next (if (portOf s n).trained then linkDown s n else s)

/-! ### Routing -/

/-- R290: d on an axis from this device to a target. -/
def axisDist (f : Fabric) (dst : BitVec 16) (ax : Nat) : Nat :=
  let l := f.len ax
  if l = 0 then 0 else (coordOf dst ax + l - coordOf f.devId ax) % l

/-- R290: the minimal directions of an axis, as port numbers, + first. -/
def minimalPorts (f : Fabric) (dst : BitVec 16) (ax : Nat) : List Nat :=
  let d := axisDist f dst ax
  if d = 0 then []
  else (if 2 * d ≤ f.len ax then [2 * ax] else []) ++ (if f.len ax ≤ 2 * d then [2 * ax + 1] else [])

/-- The six orders of axes that ORDER names (R462). -/
def axisOrder (o : BitVec 3) : List Nat :=
  if o = 1 then [0, 2, 1] else if o = 2 then [1, 0, 2] else if o = 3 then [1, 2, 0]
  else if o = 4 then [2, 0, 1] else if o = 5 then [2, 1, 0] else [0, 1, 2]

/-- R291, R292: the port of the escape route to another device of this tract, under the table entry of the header's
arrival. -/
def escapePort (f : Fabric) (e : RouteEnt) (dst : BitVec 16) : Option Nat :=
  let order := if e.override then axisOrder e.order else [0, 1, 2]
  match order.find? (fun ax => decide (axisDist f dst ax ≠ 0)) with
  | none => none
  | some ax => if e.override then some (2 * ax + b2n (bit e.dirs.toNat ax)) else (minimalPorts f dst ax).head?

/-- The hop by a torus port crosses the link between coordinates LEN − 1 and 0 (R291). -/
def wraps (f : Fabric) (port : Nat) : Bool :=
  let a := coordOf f.devId (port / 2)
  if port % 2 = 0 then decide (a + 1 = f.len (port / 2)) else decide (a = 0)

/-- What the router can do with a message now. -/
inductive Route1 where
  /-- by a torus port, in a class, with its ESCAPE and DATELINE -/
  | torus (port : Fin 8) (cls : Nat) (esc dl : Bool)
  /-- by an uplink, addressed to a device and its uplink -/
  | uplink (u : Fin 8) (dev : BitVec 16) (up : Nat)
  /-- nothing now; ESCAPE as given is kept -/
  | wait (esc : Bool)
  /-- the route needs a port that is down (R293); ESCAPE as given is kept -/
  | blocked (esc : Bool)
  /-- it lands on this device -/
  | here
  /-- DST_DEV names no device (R293) -/
  | noDevice
  deriving DecidableEq, Repr

/-- R287: the class has credit for the whole message. -/
def hasCredit (s : State) (m : Msg) (n : Fin 8) (cls : Nat) : Bool :=
  decide (m.flits ≤ vget (portOf s n).credits (credIdx m.vc cls))

/-- Codewords of a message, and before them one with a link control flit where 16 would pass without (R277). -/
def Port.wordsFor (p : Port) (m : Msg) : Nat :=
  ceilDiv m.flits p.perWord + b2n (decide (15 < p.sinceCtl + ceilDiv m.flits p.perWord))

/-- R278: the message's codewords may go now, or it waits at the port. -/
def goNow (s : State) (m : Msg) (n : Fin 8) (r : Route1) (esc : Bool) : Route1 :=
  if (portOf s n).maySend ((portOf s n).wordsFor m) then r else .wait esc

/-- One hop on the escape route by torus port `n`. -/
def escapeHop (s : State) (w : Waiting) (n : Nat) : Route1 :=
  match portNum? n with
  | none => .blocked true
  | some p =>
    if (portOf s p).state ≠ 1 then .blocked true
    else
      let same := decide (w.port < 6 ∧ w.port / 2 = n / 2)
      let dl := (w.msg.dateline && same) || wraps s.fab n
      let cls := if dl then 2 else 1
      if hasCredit s w.msg p cls then goNow s w.msg p (.torus p cls true dl) true else .wait true

/-- R290 to R292: a message to another device of this tract. -/
def routeTract (s : State) (w : Waiting) (dst : BitVec 16) : Route1 :=
  let m := w.msg
  let esc := m.escape || m.ordered || decide (m.vc = 1) || decide (m.vc = 3)
  let cand := if esc then [] else
    ((List.range 3).flatMap (minimalPorts s.fab dst)).filterMap portNum?
  let ok := cand.filter (fun n => decide ((portOf s n).state = 1) && hasCredit s m n 0)
  let best := ok.foldl (fun (b : Option (Fin 8)) n => match b with
    | none => some n
    | some x => if vget (portOf s x).credits (credIdx m.vc 0) < vget (portOf s n).credits (credIdx m.vc 0) then some n
      else some x) none
  match best with
  | some n => goNow s m n (.torus n 0 false false) false
  | none => match escapePort s.fab w.ent dst with
    | some n => escapeHop s w n
    | none => .blocked true

/-- R307: the PFC priority of a message. -/
def prioOf (f : Fabric) (vc : BitVec 2) : BitVec 3 := vget f.uplink.pfc ⟨vcRow vc, by unfold vcRow; split <;> (try split) <;> (try split) <;> decide⟩

/-- R306: a message by an uplink of this device. -/
def routeUplink (s : State) (m : Msg) (u : Fin 8) (dev : BitVec 16) (up : Nat) : Route1 :=
  let p := portOf s u
  if p.state ≠ 1 then .blocked m.escape
  else if bit p.paused.toNat (prioOf s.fab m.vc).toNat then .wait m.escape
  else .uplink u dev up

/-- R306: a message bound for another tract. -/
def routeOut (s : State) (w : Waiting) : Route1 :=
  let m := w.msg
  let f := s.fab
  let e := w.tract
  let up : Nat → Fin 8 := fun u => if u % 2 = 0 then 6 else 7
  if e.valid then
    if e.exitDev = f.devId then routeUplink s m (up (b2n e.exitUp)) e.entryDev (b2n e.entryUp)
    else routeTract s w e.exitDev
  else
    let h := (Config.flowHash m.srcDev.toNat m.srcCore.toNat m.dstDev.toNat m.dstCore.toNat m.vc.toNat
      (if m.ordered then 0 else m.msgId.toNat)).toNat % 2
    let u := if (portOf s (up h)).state = 1 then h else 1 - h
    routeUplink s m (up u) m.dstDev u

/-- R290 to R294, R306, R309: where a waiting message goes. -/
def routeOf (s : State) (w : Waiting) : Route1 :=
  let m := w.msg
  let f := s.fab
  if w.land then (if stalls s m then .wait m.escape else .here)
  else if 22 ≤ w.port then routeUplink s m (if w.port = 22 then 6 else 7) m.dstDev (w.port - 22)
  else if 16 ≤ w.port then escapeHop s w (w.port - 16)
  else if m.mcast then escapeHop s w (2 * m.axis.toNat + b2n m.minus)
  else if tractOf m.dstDev = tractOf f.devId then
    if (List.range 3).any (fun ax => decide (f.len ax ≤ coordOf m.dstDev ax)) then .noDevice
    else if m.dstDev = f.devId then (if stalls s m then .wait m.escape else .here)
    else routeTract s w m.dstDev
  else routeOut s w

/-- Takes waiting message `i` away. -/
def unwait (s : State) (i : Nat) : State := s.modFab (fun f => { f with waiting := f.waiting.eraseIdx i })

/-- Changes waiting message `i`. -/
def modWait (s : State) (i : Nat) (f : Waiting → Waiting) : State :=
  s.modFab (fun x => { x with waiting := lmod x.waiting i f })

/-- Sends a message by a torus port (R277, R278, R287). -/
def sendTorus (s : State) (n : Fin 8) (cls : Nat) (m : Msg) : State :=
  let k := ceilDiv m.flits (portOf s n).perWord
  let s := if 15 < (portOf s n).sinceCtl + k then sendFlit s n else s
  sendWords (modPort s n (fun p => { p with credits := vmod p.credits (credIdx m.vc cls) (fun c => c - m.flits) })) n k (.message m)

/-! ### Arbitration (R288) -/

/-- The place of a VC in the deficit round robin: RSP, COLL, REQ; CTRL has none. -/
def drrRow (vc : BitVec 2) : Option (Fin 3) := if vc = 1 then some 0 else if vc = 2 then some 1 else if vc = 0 then some 2 else none

/-- R288: the weights 1, 2 and 1. -/
def drrWeight (r : Fin 3) : Nat := if r = 1 then 2 else 1

/-- Whose turn it is, given the flits of the message that each VC has waiting: a VC with none loses its deficit, one whose
deficit does not reach passes the turn on. -/
def drrPick (head : Fin 3 → Option Nat) : Nat → Fin 3 → Vector Nat 3 → Fin 3 × Vector Nat 3
  | 0, t, d => (t, d)
  | k + 1, t, d =>
    let pass := fun (d : Vector Nat 3) => vmod d (t + 1) (· + max 1 Config.drrQuantum * drrWeight (t + 1))
    match head t with
    | none => drrPick head k (t + 1) (pass (vset d t 0))
    | some n => if n ≤ vget d t then (t, d) else drrPick head k (t + 1) (pass d)

/-- The route needs a port that is down. -/
def Route1.isBlocked : Route1 → Bool
  | .blocked _ => true
  | _ => false

/-- The output port that a route takes. -/
def Route1.out : Route1 → Option (Fin 8)
  | .torus n _ _ _ => some n
  | .uplink u _ _ => some u
  | _ => none

/-- R288: the output port `n` takes waiting message `w` now, and its round robin after it; none where another goes first. -/
def arbitrate (s : State) (n : Fin 8) (w : Waiting) : Option (Fin 3 × Vector Nat 3) :=
  let p := portOf s n
  match drrRow w.msg.vc with
  | none => some (p.drrTurn, p.drrDeficit)
  | some r =>
    let rivals := s.fab.waiting.filter (fun v => decide ((routeOf s v).out = some n))
    if rivals.any (fun v => decide (v.msg.vc = 3)) then none
    else
      let head := fun (x : Fin 3) => if x = r then some w.msg.flits
        else (rivals.find? (fun v => decide (drrRow v.msg.vc = some x))).map (fun v => v.msg.flits)
      let (t, d) := drrPick head 64 p.drrTurn p.drrDeficit
      if t = r then some (t, vmod d t (fun x => x - w.msg.flits)) else none

/-- The round robin of an output port after a message (R288). -/
def served (s : State) (n : Fin 8) (d : Fin 3 × Vector Nat 3) : State :=
  modPort s n (fun p => { p with drrTurn := d.1, drrDeficit := d.2 })

/-! ### Messages as bytes -/

/-- A whole message as its flits: header, its reserved bits as they came (R285), and padded data (R283, R286). -/
def msgWire (m : Msg) : List Byte :=
  leBytes 64 (leNat m.flit0 ^^^ m.rsvd.toNat) ++ padTo m.data (64 * ceilDiv m.data.length 64)

/-- The data flits that follow a header flit (R276, R283). -/
def dataFlits (flit : List Byte) : Nat :=
  let vc := field (natAt flit 0 1) 2 2
  if vc = 1 ∨ vc = 3 then 0 else ceilDiv (field (natAt flit 18 2) 0 11) 64

/-- The fields of the message that a header flit and the bytes after it spell. -/
def msgFields (bs : List Byte) : Msg :=
  let g := fun lo n => natAt bs lo n
  let fl := g 2 1
  let vc := BitVec.ofNat 2 (field (g 0 1) 2 2)
  let m : Msg := { blankMsg with
    vc := vc, kind := BitVec.ofNat 8 (g 1 1), escape := bit fl 5, dateline := bit fl 6,
    dstDev := BitVec.ofNat 16 (g 4 2), srcDev := BitVec.ofNat 16 (g 6 2) }
  if vc = 1 then
    { m with
      answers := (List.range (min (g 8 1) 6)).map (fun i =>
      ⟨BitVec.ofNat 7 (g (16 + 8 * i) 1), BitVec.ofNat 8 (g (17 + 8 * i) 1), BitVec.ofNat 32 (g (20 + 8 * i) 4)⟩) }
  else
    let n := if vc = 3 then 0 else field (g 18 2) 0 11
    { m with
      ordered := bit fl 0, tracked := bit fl 1, rsig := bit fl 2, mcast := bit fl 3, parity := bit fl 4,
      attempt := BitVec.ofNat 4 (g 3 1), axis := BitVec.ofNat 2 (field (g 3 1) 4 2), minus := bit (g 3 1) 6,
      dstCore := BitVec.ofNat 7 (g 8 1), srcCore := BitVec.ofNat 7 (g 9 1), job := BitVec.ofNat 16 (g 10 2),
      group := BitVec.ofNat 12 (g 12 2), seq := BitVec.ofNat 16 (g 14 2), rank := BitVec.ofNat 16 (g 16 2),
      fmt := BitVec.ofNat 8 (g 20 1), space := BitVec.ofNat 4 (g 21 1),
      hops := BitVec.ofNat 3 (field (g 21 1) 4 3), addr := BitVec.ofNat 48 (g 22 6),
      poison := BitVec.ofNat 32 (g 28 4), msgId := BitVec.ofNat 32 (g 32 4),
      opinfo := BitVec.ofNat 96 (g 36 12), crc := BitVec.ofNat 32 (g 60 4), data := bytesAt bs 64 n }

/-- The message that a header flit and the bytes after it spell, reserved bits included. -/
def msgOfBytes (bs : List Byte) : Msg :=
  let m := msgFields bs
  { m with rsvd := BitVec.ofNat 512 (natAt bs 0 64 ^^^ leNat m.flit0) }

/-- The messages of an uplink frame's body, `k` of them. -/
def msgsOfBytes : Nat → List Byte → List Msg
  | 0, _ => []
  | k + 1, bs =>
    let m := msgOfBytes bs
    m :: msgsOfBytes k (bs.drop (64 * m.flits))

/-- The key slot under which a partition's uplink frames are encrypted (R557). -/
def uplinkSlot (s : State) (job : BitVec 16) : Option Nat :=
  match partOfJob s job with
  | none => none
  | some p => ((List.finRange 32).find? (fun i =>
      let k := vget s.sec.slots i
      k.used && decide (k.ktype = 2) && decide (k.owner.toNat = p.val) && decide (k.job = job))).map Fin.val

/-! ### Ethernet frames (R302 to R305) -/

/-- Bytes of a number in network order. -/
def beBytes (n v : Nat) : List Byte := (leBytes n v).reverse
/-- The number that bytes in network order spell. -/
def beNat (bs : List Byte) : Nat := leNat bs.reverse

/-- R303: the MAC address of uplink `u` of a device. -/
def macOf (c : UplinkCfg) (d : BitVec 16) (u : Nat) : List Byte := beBytes 3 c.prefix24.toNat ++ beBytes 1 (u % 16) ++ beBytes 2 d.toNat
/-- R303: its IPv4 address. -/
def ipv4Of (c : UplinkCfg) (d : BitVec 16) (u : Nat) : List Byte := beBytes 4 ((c.ipv4.toNat + 2 * d.toNat + u) % 2 ^ 32)
/-- R303: its IPv6 address. -/
def ipv6Of (c : UplinkCfg) (d : BitVec 16) (u : Nat) : List Byte := beBytes 8 c.ipv6.toNat ++ beBytes 6 (u % 16) ++ beBytes 2 d.toNat

/-- The Internet checksum's one's-complement sum of 16-bit words in network order. -/
def inetSum (bs : List Byte) : Nat :=
  let t := ((chunks 2 (padTo bs (2 * ceilDiv bs.length 2))).map beNat).foldl (· + ·) 0
  if t = 0 then 0 else (t - 1) % 65535 + 1

/-- The UDP pseudo-header of IPv6 (R304: the checksum is computed over IPv6). -/
def pseudo6 (src dst udp : List Byte) : List Byte := src ++ dst ++ beBytes 4 udp.length ++ [0, 0, 0, 17]

/-- R304: the largest frame payload (R302). -/
def UplinkCfg.mtu (c : UplinkCfg) : Nat := if c.mtu9000 then 9000 else 1500

/-- R305: the flow hash of a message. -/
def flowOf (m : Msg) : BitVec 14 :=
  Config.flowHash m.srcDev.toNat m.srcCore.toNat m.dstDev.toNat m.dstCore.toNat m.vc.toNat (if m.ordered then 0 else m.msgId.toNat)

/-- R304: the UDP datagram of a frame; over IPv4 its checksum is zero. -/
def udpOf (c : UplinkCfg) (src dst : List Byte) (flow : BitVec 14) (body : List Byte) : List Byte :=
  let head := fun (sum : Nat) => beBytes 2 (0xC000 + flow.toNat) ++ beBytes 2 c.udpPort.toNat ++ beBytes 2 (8 + body.length) ++ beBytes 2 sum
  if c.useV6 then
    let u := head 0 ++ body
    let x := 65535 - inetSum (pseudo6 src dst u ++ u)
    head (if x = 0 then 65535 else x) ++ body
  else head 0 ++ body

/-- R304: the network header and datagram, or nothing in EtherType encapsulation; what the manual leaves open in it is a free
value (log 98). -/
def packetOf (c : UplinkCfg) (d : BitVec 16) (u : Nat) (dst : BitVec 16) (up : Nat) (m : Msg) (body : List Byte) : List Byte :=
  let ds := (Config.dscp m.vc).toNat
  if c.useV6 then
    let sa := ipv6Of c d u
    let da := ipv6Of c dst up
    let p := udpOf c sa da (flowOf m) body
    beBytes 4 (6 * 2 ^ 28 + ds * 2 ^ 22 + Config.frameField 4 % 2 ^ 22) ++ beBytes 2 p.length ++ [17] ++
      beBytes 1 (Config.frameField 3) ++ sa ++ da ++ p
  else
    let sa := ipv4Of c d u
    let da := ipv4Of c dst up
    let p := udpOf c sa da (flowOf m) body
    let head := fun (sum : Nat) => [0x45] ++ beBytes 1 (ds * 4) ++ beBytes 2 (20 + p.length) ++ beBytes 2 (Config.frameField 1) ++
      beBytes 2 (Config.frameField 2 % 2 * 2 ^ 14) ++ beBytes 1 (Config.frameField 3) ++ [17] ++ beBytes 2 sum ++ sa ++ da
    head (65535 - inetSum (head 0)) ++ p

/-- R304: the bytes of a frame from uplink `u` to an uplink of a device: MAC addresses, 802.1Q tag with the VC's priority
(sent in either encapsulation, log 98), body, FCS. -/
def frameOf (f : Fabric) (u : Nat) (dst : BitVec 16) (up : Nat) (m : Msg) (body : List Byte) : List Byte :=
  let c := f.uplink
  let bs := macOf c dst up ++ macOf c f.devId u ++ [0x81, 0x00] ++
    beBytes 2 ((prioOf f m.vc).toNat * 2 ^ 13 + Config.frameField 0 % 2 ^ 13) ++
    (if c.udp then (if c.useV6 then [0x86, 0xDD] else [0x08, 0x00]) ++ packetOf c f.devId u dst up m body else [0x88, 0xB5] ++ body)
  bs ++ leBytes 4 (crc32 bs)

/-- The UDP payload of an IPv4 packet to this uplink, where every check passes (R304). -/
def openV4 (c : UplinkCfg) (d : BitVec 16) (u : Nat) (p : List Byte) : Option (List Byte) :=
  let len := beNat (bytesAt p 2 2)
  let udp := (p.take len).drop 20
  if bytesAt p 0 1 = [0x45] ∧ 28 ≤ len ∧ len ≤ p.length ∧ inetSum (p.take 20) = 65535 ∧ beNat (bytesAt p 6 2) % 2 ^ 14 = 0 ∧
      bytesAt p 9 1 = [17] ∧ bytesAt p 16 4 = ipv4Of c d u ∧ beNat (bytesAt udp 2 2) = c.udpPort.toNat ∧
      beNat (bytesAt udp 4 2) = udp.length then some (udp.drop 8) else none

/-- The same of an IPv6 packet, the UDP checksum among the checks. -/
def openV6 (c : UplinkCfg) (d : BitVec 16) (u : Nat) (p : List Byte) : Option (List Byte) :=
  let len := beNat (bytesAt p 4 2)
  let udp := (p.take (40 + len)).drop 40
  if beNat (bytesAt p 0 1) / 16 = 6 ∧ 8 ≤ len ∧ 40 + len ≤ p.length ∧ bytesAt p 6 1 = [17] ∧ bytesAt p 24 16 = ipv6Of c d u ∧
      beNat (bytesAt udp 2 2) = c.udpPort.toNat ∧ beNat (bytesAt udp 4 2) = udp.length ∧
      inetSum (pseudo6 (bytesAt p 8 16) (bytesAt p 24 16) udp ++ udp) = 65535 then some (udp.drop 8) else none

/-- R302, R304: what a frame to uplink `u` of this device carries, from the transport header on: tagged or, under UDP, untagged;
no larger than MTU; its FCS and its addresses right; in the encapsulation that ENCAP selects. -/
def openEther (f : Fabric) (u : Nat) (bs : List Byte) : Option (List Byte) :=
  let c := f.uplink
  let body := bs.take (bs.length - 4)
  let tagged := decide (bytesAt body 12 2 = [0x81, 0x00])
  let at_ := if tagged then 16 else 12
  let ty := bytesAt body at_ 2
  let p := body.drop (at_ + 2)
  if bs.length < 64 ∨ leNat (bs.drop (bs.length - 4)) ≠ crc32 body ∨ bytesAt body 0 6 ≠ macOf c f.devId u ∨ c.mtu < p.length then none
  else if !c.udp then (if tagged && decide (ty = [0x88, 0xB5]) then some p else none)
  else if c.useV6 then (if ty = [0x86, 0xDD] then openV6 c f.devId u p else none)
  else if ty = [0x08, 0x00] then openV4 c f.devId u p else none

/-- R304, R557: sends a message in a frame of its own (log 30). -/
def sendUplink (s : State) (u : Fin 8) (dev : BitVec 16) (up : Nat) (m : Msg) : State :=
  let head := fun (enc : Bool) => [1, BitVec.ofNat 8 (b2n enc)] ++ leBytes 2 1 ++ leBytes 2 s.fab.devId.toNat ++
    leBytes 2 dev.toNat
  let put := fun (s : State) (bs : List Byte) => s.modFab (fun f => { f with
    outbox := f.outbox ++ [.frame (u.val - 6) (frameOf f (u.val - 6) dev up m bs)] })
  match (if m.vc = 1 then none else uplinkSlot s m.job) with
  | none => put s (head false ++ (msgWire m))
  | some k =>
    let key := (u.val, k)
    let n := (aget s.sec.txFrames key).getD 0
    if 2 ^ 48 - 1 ≤ n then record s 0x0402 15 0x7F (m.header.take 16)
    else
      let sc := leBytes 1 k ++ [0] ++ leBytes 6 n
      let s := { s with sec := { s.sec with txFrames := aset s.sec.txFrames key (n + 1) } }
      let kb := (vget s.sec.slots ⟨k % 32, Nat.mod_lt _ (by decide)⟩).key
      put s (head true ++ sc ++ Config.gcmSeal kb sc (head true) (msgWire m))

/-- R307: XOFF or XON for the priorities whose share of an uplink's receive buffer has passed its
threshold or fallen back. -/
def pfcCheck (s : State) (u : Fin 8) : State :=
  (List.range 8).foldl (fun s q =>
    let used := (s.fab.waiting.filter (fun w => decide (w.port = u.val ∧ (prioOf s.fab w.msg.vc).toNat = q))).foldl
      (fun n w => n + 64 * w.msg.flits) 0
    let high := decide (Config.pfcThreshold < used)
    if high = bit (portOf s u).xoff.toNat q then s
    else (modPort s u (fun p => { p with xoff := p.xoff ^^^ BitVec.ofNat 8 (2 ^ q) })).modFab (fun f => { f with
      outbox := f.outbox ++ [.pfc (u.val - 6) (BitVec.ofNat 3 q) high] })) s

/-- A message has left the router: the buffer it held is free. -/
def leave (s : State) (i : Nat) (w : Waiting) : State :=
  let s := freeBuffer (unwait s i) w.port w.cls w.msg
  if w.port = 6 then pfcCheck s 6 else if w.port = 7 then pfcCheck s 7 else s

/-- R294: the copies that a sending router makes of a multicast. -/
def mcastCopies (f : Fabric) (m : Msg) : List Waiting :=
  let one := fun (minus : Bool) (k : Nat) => if k = 0 then [] else
    [Waiting.of f 8 0 { m with
        minus := minus, escape := true, tracked := false,
        crc := ({ m with minus := minus, tracked := false } : Msg).e2e }]
  one false ((m.hops.toNat + 1) / 2) ++ one true (m.hops.toNat / 2)

/-- A refusal by a router on the way (R293): RSP messages are dropped without one (log 31). -/
def refuseWay (s : State) (m : Msg) (reason : Nat) : State := if m.vc = 1 then s else refuse s m reason

/-- R294: a multicast copy that has come in by torus port `port`, whose buffer of class `cls` it holds, lands here and waits to
go on while devices are left; during a memory-step change it waits to land (R311). -/
def mcastArrive (s : State) (port cls : Nat) (m : Msg) : State :=
  let f := s.fab
  let l := f.len m.axis.toNat
  let a := coordOf m.srcDev m.axis.toNat
  let b := coordOf f.devId m.axis.toNat
  let d := if l = 0 then 0 else if m.minus then (a + l - b) % l else (b + l - a) % l
  let k := if m.minus then m.hops.toNat / 2 else (m.hops.toNat + 1) / 2
  if d = 0 ∨ k < d then freeBuffer s port cls m
  else if stalls s m then s.modFab (fun f => { f with waiting := f.waiting ++ [{ Waiting.of f port cls m with land := true }] })
  else
    let s := if d < k then s.modFab (fun f => { f with waiting := f.waiting ++ [Waiting.of f port cls m] })
      else freeBuffer s port cls m
    arrive s port m

/-- MESSAGE_FORWARD (R284, R288, R290 to R294): the router takes waiting message `i`, where its output port lets it go. -/
def forward (s : State) (i : Nat) : State :=
  match s.fab.waiting[i]? with
  | none => s
  | some w =>
    if !s.fab.idValid then s
    else if !kindOk w.msg then dropKind (leave s i w) w.msg
    else if w.port = 8 ∧ w.msg.mcast = true ∧ w.msg.escape = false then
      let s := unwait s i
      if w.msg.dstDev ≠ w.msg.srcDev then refuse s w.msg rMCAST
      else s.modFab (fun f => { f with waiting := f.waiting ++ mcastCopies f w.msg })
    else match routeOf s w with
    | .here => if w.msg.mcast then mcastArrive (unwait s i) w.port w.cls w.msg else arrive (leave s i w) w.port w.msg
    | .noDevice => refuseWay (leave s i w) w.msg rDEVICE
    | .torus n cls esc dl => match arbitrate s n w with
      | some d => sendTorus (served (leave s i w) n d) n cls { w.msg with escape := esc, dateline := dl }
      | none => s
    | .uplink u dev up => match arbitrate s u w with
      | some d => sendUplink (served (leave s i w) u d) u dev up w.msg
      | none => s
    | .wait esc => modWait s i (fun w => { w with msg := { w.msg with escape := esc }, blocked := none })
    | .blocked esc => modWait s i (fun w => { w with
        msg := { w.msg with escape := esc }, blocked := some (w.blocked.getD s.ts) })

/-- The class of the input buffer that an arriving message holds. -/
def classOf (m : Msg) : Nat := if m.escape then (if m.dateline then 2 else 1) else 0

/-- A message that has come in by a port: it waits at the router, a multicast lands on its way. -/
def takeIn (port : Nat) (s : State) (m : Msg) : State :=
  if m.mcast && kindOk m then mcastArrive s port (classOf m) m
  else s.modFab (fun f => { f with waiting := f.waiting ++ [Waiting.of f port (classOf m) m] })

/-- A whole message at a torus port: before an ID, or at a port that is not up, nothing takes it (R273). -/
def takeMsg (s : State) (n : Fin 8) (bs : List Byte) : State :=
  if s.fab.idValid ∧ (portOf s n).state = 1 then takeIn n.val s (msgOfBytes bs) else s

/-- One flit of an accepted codeword (R276): a data flit of the message being received, or by its FTYPE; idle flits and those
of the reserved FTYPE have no effect (log 101). -/
def takeFlit (n : Fin 8) (s : State) (flit : List Byte) : State :=
  let p := portOf s n
  if p.rxLeft ≠ 0 then
    let s := modPort s n (fun p => { p with
      rxLeft := p.rxLeft - 1, rxHead := if p.rxLeft = 1 then [] else p.rxHead ++ flit })
    if p.rxLeft = 1 then takeMsg s n (p.rxHead ++ flit) else s
  else
    let ty := natAt flit 0 1 % 4
    if ty = 1 then
      takeControl s n (BitVec.ofNat 6 (natAt flit 1 1))
        (if bit (natAt flit 2 1) 0 then some (BitVec.ofNat 6 (field (natAt flit 2 1) 1 6)) else none)
        (BitVec.ofNat 8 (natAt flit 3 1)) (BitVec.ofNat 6 (natAt flit 4 1)) (BitVec.ofNat 4 (natAt flit 5 1))
        (BitVec.ofNat 16 (natAt flit 6 2)) ((List.range 12).map (fun i => BitVec.ofNat 16 (natAt flit (8 + 2 * i) 2)))
    else if ty = 2 then
      if dataFlits flit = 0 then takeMsg s n flit
      else modPort s n (fun p => { p with rxHead := flit, rxLeft := dataFlits flit })
    else s

/-- R280, R281, R311: a codeword of the partner's count has passed, good, bad or discarded: HS_AT of its handshakes comes nearer. -/
def Port.passed (p : Port) (count : BitVec 6) : Port :=
  { p with hs := p.hs.map (fun h => if h.mine then h else { h with left := min h.left (h.at_ - count - 1).toNat }) }

/-- A good codeword, in sequence (R275, R278): it is counted and acknowledged. -/
def acceptWord (s : State) (n : Fin 8) : State :=
  sendControl (modPort s n (fun p => { p with
    rxCount := p.rxCount + 1, discarding := false })) n id

/-- CODEWORD_RECEIVE (R275, R276, R279): codeword `count` of the partner's numbering, good or bad, with its flits. -/
def execCodewordReceive (n : Fin 6) (count : BitVec 6) (good corrected : Bool) (flits : List (List Byte)) (s : State) : Out :=
  let n : Fin 8 := ⟨n.val, by omega⟩
  let p := portOf s n
  .next (
    if !p.trained || p.retraining then s
    else
      let s := modPort s n (fun p => { p.passed count with
        cwBad := if good then p.cwBad else satAdd p.cwBad 1
        cwCorr := if good && corrected then satAdd p.cwCorr 1 else p.cwCorr })
      if !good then
        if p.discarding && decide (count ≠ p.rxCount) then s
        else sendNak (modPort s n (fun p => { p with discarding := true })) n
      else if count ≠ p.rxCount then s
      else flits.foldl (takeFlit n) (acceptWord s n))

/-- MESSAGE_FORWARD. -/
def execMessageForward (i : Nat) (s : State) : Out := .next (forward s i)

/-- NO_ROUTE_HOLD (R293): once a message has been blocked for NO_ROUTE_HOLD and its route is still blocked, it is dropped and
refused. -/
def execNoRouteHold (i : Nat) (s : State) : Out :=
  .next (match s.fab.waiting[i]? with
    | none => s
    | some w =>
      let due := match w.blocked with | some t => decide (s.fab.holdUs * usTicks ≤ s.since t) | none => false
      if due && (routeOf s w).isBlocked then refuseWay (leave s i w) w.msg rROUTE else s)

/-- MCAST_MESSAGE (R294): a multicast copy arrives by a torus port. -/
def execMcastMessage (port : Fin 6) (m : Msg) (s : State) : Out :=
  .next (if m.kind = 0x03 ∧ m.mcast = true ∧ s.fab.idValid = true ∧ (portOf s ⟨port.val, by omega⟩).state = 1 then
    mcastArrive s port.val (classOf m) m else s)

/-! ### Uplinks -/

/-- R557: the messages of an encrypted frame, where every check passes, with the window that follows. -/
def openFrame (s : State) (payload : List Byte) : Option (List Msg × State) :=
  let head := payload.take 8
  let sc := (payload.drop 8).take 8
  let k : Fin 32 := ⟨field (natAt sc 0 1) 0 5, Nat.mod_lt _ (by decide)⟩
  let slot := vget s.sec.slots k
  let n := natAt sc 2 6
  let dev := BitVec.ofNat 16 (natAt head 4 2)
  if s.sec.error || !slot.used || slot.ktype ≠ 2 then none
  else match Config.gcmOpen slot.key sc head (payload.drop 16) with
  | none => none
  | some body =>
    let ms := msgsOfBytes (min (natAt head 2 2) 8) body
    let mine := fun (w : RxWin) => decide (w.dev = dev ∧ w.slot = k.val)
    let w := (s.sec.rxWins.find? mine).getD ⟨dev, k.val, 0, []⟩
    let old := decide (n + 1024 ≤ w.highest) || w.marks.contains n
    if ms.any (fun m => decide (m.job ≠ slot.job)) || old then none
    else
      let hi := max w.highest n
      let w' : RxWin := { w with highest := hi, marks := (w.marks ++ [n]).filter (fun x => decide (hi < x + 1024)) }
      some (ms, { s with sec := { s.sec with rxWins := s.sec.rxWins.filter (fun w => !mine w) ++ [w'] } })

/-- R304: the messages of a frame are of one VC. -/
def oneVc (ms : List Msg) : Bool := ms.all (fun m => decide (some m.vc = ms.head?.map (fun x => x.vc)))

/-- R304, R557: what a frame carries from its transport header on. -/
def takeFrame (s : State) (n : Fin 8) (payload : List Byte) : State :=
  let count := natAt payload 2 2
  if natAt payload 0 1 ≠ 1 ∨ count = 0 ∨ 8 < count ∨ natAt payload 6 2 ≠ s.fab.devId.toNat then s
  else if bit (natAt payload 1 1) 0 then
    match openFrame s payload with
    | none => s
    | some (ms, t) => if oneVc ms then pfcCheck (ms.foldl (takeIn n.val) t) n else s
  else
    let ms := msgsOfBytes count (payload.drop 8)
    if !oneVc ms || ms.any (fun m => m.vc ≠ 1 && (uplinkSlot s m.job).isSome) then s
    else pfcCheck (ms.foldl (takeIn n.val) s) n

/-- ETHERNET_FRAME_RECEIVE (R302, R304, R312, R557): the messages of a frame; with a bad codeword of its Ethernet FEC the frame is
lost. -/
def execEthernetFrameReceive (u : Fin 2) (payload : FrameIn) (s : State) : Out :=
  let n : Fin 8 := ⟨u.val + 6, by omega⟩
  .next (
    if (portOf s n).state ≠ 1 then s
    else
      let s := modPort s n (fun p => { p with cwCorr := satAdd p.cwCorr payload.corrected, cwBad := satAdd p.cwBad payload.bad })
      if payload.bad ≠ 0 ∨ s.fab.idValid = false then s
      else match openEther s.fab u.val payload.frame with
        | some p => takeFrame s n p
        | none => s)

/-- PFC_FRAME (R307): a priority paused or resumed. -/
def execPfcFrame (u : Fin 2) (prio : BitVec 3) (xoff : Bool) (s : State) : Out :=
  let mask : BitVec 8 := BitVec.ofNat 8 (2 ^ prio.toNat)
  .next (modPort s ⟨u.val + 6, by omega⟩ (fun p => { p with
    paused := if xoff then p.paused ||| mask else p.paused &&& ~~~ mask }))

/-- PAUSE_FRAME (R302): ignored and counted. -/
def execPauseFrame (u : Fin 2) (s : State) : Out :=
  .next (modPort s ⟨u.val + 6, by omega⟩ (fun p => { p with pauses := satAdd p.pauses 1 }))

/-- UPLINK_DOWN (R306). -/
def execUplinkDown (u : Fin 2) (s : State) : Out :=
  let n : Fin 8 := ⟨u.val + 6, by omega⟩
  .next (if (portOf s n).state = 1 then linkDown s n else s)

end Sys2Proof.Machine
end

