-- ==== Sys2Proof/Machine/Exchange.lean ====
section
/-! DEFINITION.  The exchange engines XO and XI (R313 to R337), the completion and closing of groups, and
the commands by which messages reach this device. -/

namespace Sys2Proof.Machine

open Sys2Proof

/-! ### Sending -/

/-- R316: the mark of an XO start among the last 64. -/
def markStart (s : State) (c : Fin 96) (slot : Nat) : State :=
  s.modCore c (fun k =>
    let h := k.xoHist ++ [⟨BitVec.ofNat 11 slot, k.msgId⟩]
    { k with xoHist := h.drop (h.length - 64) })

/-- R215: the ranges on this device that messages target, of those that it would admit. -/
def ownRanges (s : State) (ms : List Msg) : List Range :=
  ms.flatMap (fun m =>
    if m.dstDev = s.fab.devId ∧ m.mcast = false then
      match partOfJob s m.job with
      | some p => if (landCheck s p m).isSome then [] else
          (landRanges ((coreOf? m.dstCore.toNat).getD 0) m).map (fun r => ⟨r.1, r.2⟩)
      | none => []
    else [])

/-- The messages of an XO instruction handed to the router, as far as it has room (R296, R315, R316). -/
def sendEff (s : State) (c : Fin 96) (slot : Nat) (ms : List Msg) (reads writes : List Range) : Eff :=
  let r := sendMsgs c (markStart s c slot) ms
  { Eff.done r.1 reads writes false with remote := ownRanges s ms, unsent := r.2 }

/-- The fields that every message of an XO instruction shares: REMOTE descriptor, step tag, the
partition's JOB and ATTEMPT (R265, R283, R295).  A partition without a JOB: a free value (log 7). -/
def xoBase (s : State) (c : Fin 96) (w d kind : Nat) : Msg × State :=
  let odd := bit (s.core c).stepTag.toNat 0
  let p := ownerOf s c
  let (job, s) := match p.bind (fun p => (s.part p).job) with
    | some j => (j.toNat, s)
    | none => s.fresh
  let att := match p with | some p => (s.part p).xc.attempt odd | none => 0
  ({ blankMsg with
    vc := BitVec.ofNat 2 (field d (8 * 20) 2), kind := BitVec.ofNat 8 kind, ordered := insOrdered w,
    mcast := rMcast d, parity := odd, attempt := att, axis := BitVec.ofNat 2 (field d (8 * 19 + 1) 2),
    dstDev := BitVec.ofNat 16 (dB d 16 2), dstCore := BitVec.ofNat 7 (field d (8 * 18) 7),
    job := BitVec.ofNat 16 job, group := BitVec.ofNat 12 (rGroup d), fmt := BitVec.ofNat 8 (dFmtCode d),
    space := BitVec.ofNat 4 (dSpace d), hops := BitVec.ofNat 3 (dB d 21 1) }, s)

/-- Bytes with, at each poisoned element's first byte, a mark. -/
structure Wire where
  bytes : List Byte
  pois : List Nat
  deriving DecidableEq, Repr

/-- The data bytes of a converted run (R38, R313). -/
def RunOut.wire (f : Fmt) (o : RunOut) : Wire :=
  ⟨packElems f.width o.codes, o.pois.zipIdx.filterMap (fun (p, i) => if p then some (i * f.width / 8) else none)⟩

/-- The scale bytes of a converted run. -/
def RunOut.scaleWire (o : RunOut) : Wire :=
  ⟨o.scales.map (BitVec.ofNat 8),
    ((chunks 32 o.pois).zipIdx.filterMap (fun (b, i) => if b.any id then some i else none))⟩

/-- Two byte strings one after the other. -/
def Wire.append (a b : Wire) : Wire := ⟨a.bytes ++ b.bytes, a.pois ++ b.pois.map (· + a.bytes.length)⟩

/-- POISON of a message that carries bytes [lo, lo + n) (R283). -/
def Wire.poison (x : Wire) (lo n : Nat) : BitVec 32 :=
  BitVec.ofNat 32 (((List.range 32).map (fun h =>
    b2n (x.pois.any (fun i => decide (lo + 32 * h ≤ i ∧ i < lo + 32 * h + 32 ∧ i < lo + n))) * 2 ^ h)).foldl (· + ·) 0)

/-- A byte string cut at every 1,024th byte: offset, bytes, POISON (R313). -/
def Wire.cut (x : Wire) : List (Nat × List Byte × BitVec 32) :=
  (chunks 1024 x.bytes).zipIdx.map (fun (b, i) => (1024 * i, b, x.poison (1024 * i) b.length))

/-- Messages of one contiguous target range. -/
def cutMsgs (base : Msg) (a : Nat) (opinfo : Nat) (x : Wire) : List Msg :=
  x.cut.map (fun (o, bs, po) => { base with
    addr := BitVec.ofNat 48 (a + o), data := bs, poison := po, opinfo := BitVec.ofNat 96 opinfo })

/-- The messages of a PUT, MCAST or RED_PUT of the elements `es` of `src`; a refused read sends none and leaves the ranges on
this device that they target undefined (R215, R245). -/
def putEff (s : State) (c : Fin 96) (slot : Nat) (es : List Elem) (src : Lay) (ms : List Msg) : Eff :=
  match spanFault s c false src.spans with
  | some (f, a) => { Eff.bad s [] f (some a) with remote := ownRanges s ms }
  | none => sendEff (noteTern s c es) c slot ms src.ranges []

/-- PUT and MCAST (R313, R314, R329): every run, then the scales of a BQ target. -/
def workPut (kind : Nat) : Work := fun s c w slot o =>
  let d := descOf s c (insDst w)
  let src := absT c (descOf s c (insA w))
  let dst := rLay d
  let es := loadAll s src
  let rs := (moveRuns src dst false (cvtMode s c w 0 o 64) es).1
  let (b, s) := xoBase s c w d kind
  let b := { b with rsig := bit w 158 }
  let data := rs.zipIdx.flatMap (fun (r, i) => cutMsgs b (dst.runSpan i).1 0 (r.wire dst.fmt))
  let sc := if dst.fmt.isBq then
      cutMsgs b dst.scalePtr 1 ((rs.map RunOut.scaleWire).foldl Wire.append ⟨[], []⟩) else []
  putEff s c slot es src (data ++ sc)

/-- RED_PUT (R313, R314, R318). -/
def workRedPut : Work := fun s c w slot o =>
  let d := descOf s c (insDst w)
  let src := absT c (descOf s c (insA w))
  let dst := rLay d
  let es := loadAll s src
  let rs := (moveRuns src dst false (cvtMode s c w 0 o 64) es).1
  let x := (rs.map (fun r => r.wire dst.fmt)).foldl Wire.append ⟨[], []⟩
  let (b, s) := xoBase s c w d 0x02
  let b := { b with rsig := bit w 158, tracked := true, rank := BitVec.ofNat 16 (rRank d) }
  putEff s c slot es src (cutMsgs b dst.base x.bytes.length x)

/-! ### Token exchange (R330 to R336) -/

/-- An entry of the expert map (R330). -/
structure MapEnt where
  dev : Nat
  core : Nat
  valid : Bool
  group : Nat
  slice : Nat
  addr : Nat
  spill : Nat
  deriving DecidableEq, Repr

/-- Entry from its eight words. -/
def MapEnt.ofWords (v : List Nat) : MapEnt :=
  let g := fun i => v.getD i 0
  ⟨field (g 0) 0 16, field (g 0) 16 7, bit (g 0) 23, field (g 1) 0 12, field (g 1) 16 16,
    field (g 2) 0 32 + field (g 3) 0 16 * 2 ^ 32, g 4⟩

/-- A route record (R176). -/
structure Route where
  expert : Nat
  weight : Nat
  rank : Nat
  invalid : Bool
  deriving DecidableEq, Repr

/-- Record from its four words. -/
def Route.ofWords (v : List Nat) : Route :=
  let g := fun i => v.getD i 0
  ⟨g 1, g 2, field (g 3) 0 4, bit (g 3) 8⟩

/-- Rows placed by DISPATCH (R331). -/
structure Placing where
  used : List Nat
  mask : List Nat
  /-- token, record, expert, slot number within the slice; in order -/
  sends : List (Nat × Route × Nat × Nat)
  drops : Nat
  spills : Nat
  valid : Nat

/-- R331: one route record placed. -/
def placeOne (map : List MapEnt) (cap : Nat) (spill : Bool) (recs : Nat → Nat → Route) (k : Nat) (p : Placing)
    (r t : Nat) : Placing :=
  let q := recs t r
  if q.invalid then p
  else
    let p := { p with valid := p.valid + 1 }
    let free := fun (x : Nat) => match map[x]? with
      | some e => e.valid && decide (p.used.getD x 0 < cap)
      | none => false
    let go := fun (x : Nat) => { p with
      sends := p.sends ++ [(t, q, x, p.used.getD x 0)]
      used := lmod p.used x (· + 1)
      mask := lmod p.mask t (fun m => m ||| 2 ^ r) }
    if free q.expert then go q.expert
    else
      match map[q.expert]? with
      | some e =>
        if spill ∧ e.spill ≠ 0xFFFFFFFF then
          let named := (List.range k).any (fun r => decide ((recs t r).expert = e.spill))
          if free e.spill && !named then { go e.spill with spills := p.spills + 1 }
          else { p with drops := p.drops + 1 }
        else { p with drops := p.drops + 1 }
      | none => { p with drops := p.drops + 1 }

/-- The pieces of a row (R331): up to 31 blocks each, scales before data. -/
def rowPieces (f : Fmt) (o : RunOut) : List Wire :=
  let nb := o.scales.length
  (List.range (ceilDiv nb 31)).map (fun p =>
    let part : RunOut := ⟨(o.codes.drop (p * 992)).take 992, (o.scales.drop (p * 31)).take 31,
      (o.pois.drop (p * 992)).take 992⟩
    part.scaleWire.append (part.wire f))

/-- The message of DISPATCH to an expert. -/
def tokenMsg (b : Msg) (e : MapEnt) (opinfo : Nat) (x : Wire) : Msg :=
  { b with
    dstDev := BitVec.ofNat 16 e.dev, dstCore := BitVec.ofNat 7 e.core, group := BitVec.ofNat 12 e.group,
    addr := BitVec.ofNat 48 e.addr, space := 1, rsig := true, tracked := true, data := x.bytes,
    poison := x.poison 0 x.bytes.length, opinfo := BitVec.ofNat 96 opinfo }

/-- DISPATCH (R331, R332). -/
def workDispatch : Work := fun s c w slot o =>
  let d := descOf s c (insDst w)
  let la := absT c (descOf s c (insA w))
  let lb := absT c (descOf s c (insB w))
  let lx := absT c (descOf s c (insAux w))
  let cap := imm w 174 159
  let map := (chunks 8 (listKeys (loadAll s lx))).map MapEnt.ofWords
  let tbl := (chunks 4 (listKeys (loadAll s lb))).map Route.ofWords
  let k := lb.n1
  let toks := la.n1
  let recs := fun t r => tbl.getD (t * k + r) ⟨0, 0, 0, true⟩
  let writes : List Range := [⟨dataAddr c (insResOff w), 16 + 2 * toks⟩]
  if map.any (fun e => e.valid && decide (65536 < (e.slice + 1) * cap)) then .bad s [] fSHAPE none
  else
    let order := (List.range k).flatMap (fun r => (List.range toks).map (fun t => (r, t)))
    let p := order.foldl (fun p q => placeOne map cap (bit w 158) recs k p q.1 q.2)
      ⟨List.replicate map.length 0, List.replicate toks 0, [], 0, 0, 0⟩
    let es := loadAll s la
    let rows := (moveRuns la { rLay d with n0 := la.n0, n1 := toks } false (cvtMode s c w 0 o 64) es).1
    let hb := la.n0 / 32
    let (b, s) := xoBase s c w d 0x04
    let dflt : MapEnt := ⟨0, 0, false, 0, 0, 0, 0⟩
    let ms := p.sends.flatMap (fun (t, q, x, u) =>
      let e := map.getD x dflt
      (rowPieces (dFmt d) (rows.getD t ⟨[], [], []⟩)).zipIdx.map (fun (y, i) =>
        tokenMsg b e (t + (e.slice * cap + u) * 2 ^ 16 + q.weight * 2 ^ 32 + q.rank * 2 ^ 64 + i * 2 ^ 68 + hb * 2 ^ 73) y))
    let ends := map.zipIdx.filterMap (fun (e, x) => if e.valid then
        some (tokenMsg b e (p.used.getD x 0 + e.slice * 2 ^ 16 + cap * 2 ^ 32 + hb * 2 ^ 73 + 2 ^ 82) ⟨[], []⟩)
      else none)
    let s := noteTern s c es
    let s := putResult s c w p.sends.length p.valid p.drops 0 false
    let s := s.write (dataAddr c (insResOff w + 16)) (p.mask.flatMap (leBytes 2)) false
    let s := match ownerOf s c with
      | some q => modXc s q (fun x => { x with
          dispDrops := satAdd x.dispDrops p.drops, dispSpills := satAdd x.dispSpills p.spills })
      | none => s
    sendEff s c slot (ms ++ ends) (la.ranges ++ lb.ranges ++ lx.ranges) writes

/-- COMBINE (R335). -/
def workCombine : Work := fun s c w slot o =>
  let d := descOf s c (insDst w)
  let la := absT c (descOf s c (insA w))
  let lb := absT c (descOf s c (insB w))
  let dst := rLay d
  let recs := chunks 4 (listKeys (loadAll s lb))
  let (b, s) := xoBase s c w d 0x05
  let b := { b with rsig := true, tracked := true }
  let m := cvtMode s c w 0 o 64
  let ms := recs.zipIdx.flatMap (fun (v, j) =>
    let g := fun i => v.getD i 0
    if bit (g 3) 8 then []
    else
      let tok := g 0
      let r := field (g 3) 0 8
      let row := tok * dst.n1 + r
      let wt := w32 (g 2)
      let ys := (loadRun s la j).map (fun e => (rMul wt e.val, e.pois))
      let x := (convRun dst.fmt m (row * dst.n0) ys).1.wire dst.fmt
      cutMsgs { b with
          dstDev := BitVec.ofNat 16 (field (g 1) 0 16), dstCore := BitVec.ofNat 7 (field (g 1) 16 7) }
        (dst.base + row * (dst.n0 * dst.fmt.width / 8)) (tok % 2 ^ 16 + r % 16 * 2 ^ 16) x)
  let es := recs.zipIdx.flatMap (fun (v, j) => if bit (v.getD 3 0) 8 then [] else loadRun s la j)
  sendEff (noteTern s c es) c slot ms (la.ranges ++ lb.ranges) []

/-! ### XI: starts -/

/-- R319, R320: the group is posted; a use of another kind or parity is discarded (log 26). -/
def postGroup (s : State) (c : Fin 96) (g kind : Nat) : State :=
  let odd := bit (s.core c).stepTag.toNat 0
  modTally s c g (fun t =>
    if t.kind ≠ 0 ∧ (t.kind ≠ kind ∨ t.parity ≠ odd) then { Tally.idle with kind := kind, parity := odd, posted := true }
    else { t with kind := kind, parity := odd, posted := true })

/-- An XI start: the flight waits for its group. -/
def xiStart (s : State) (c : Fin 96) (w kind tally need : Nat) (writes : List Range) : Eff :=
  { Eff.done (postGroup s c (insGroup w) tally) [] writes false with xi := some ⟨kind, insGroup w, need, false⟩ }

/-- EXPECT (R320). -/
def workExpect : Work := fun s c w _ _ =>
  xiStart s c w 1 1 (imm w 201 170) (absT c (descOf s c (insDst w))).ranges

/-- RED_EXPECT (R320, R326): staged chunks of a rank at or above RANKS are freed and counted. -/
def workRedExpect : Work := fun s c w _ _ =>
  let n := imm w 185 170
  let g := insGroup w
  let out := fun (h : Chunk) => decide (h.core = c.val ∧ h.group = g ∧ n ≤ h.rank)
  let s := match ownerOf s c with
    | some p => modXc s p (fun x => { x with
        rankDrop := satAdd x.rankDrop (x.staged.countP out), staged := x.staged.filter (fun h => !out h) })
    | none => s
  xiStart s c w 2 2 n ((absT c (descOf s c (insDst w))).ranges ++ descRanges c (descOf s c (insAux w)))

/-- TOKEN_RECV (R334). -/
def workTokenRecv : Work := fun s c w _ _ =>
  let l := absT c (descOf s c (insDst w))
  xiStart s c w 3 3 (l.n2 * l.n3) (resRange c w :: l.ranges)

/-- Bits set in a mask. -/
def popcount (m : Nat) : Nat := ((List.range 16).map (fun i => b2n (bit m i))).foldl (· + ·) 0

/-- The sent table of R332: one mask for each token. -/
def sentTable (s : State) (c : Fin 96) (w toks : Nat) : List Nat :=
  (chunks 2 (s.bytes (dataAddr c (insResOff w + 16)) (2 * toks))).map leNat

/-- COMBINE_RECV (R336). -/
def workCombineRecv : Work := fun s c w _ _ =>
  let l := absT c (descOf s c (insDst w))
  let e := ((sentTable s c w l.n2).map popcount).foldl (· + ·) 0 * l.n0 * (l.fmt.width / 8)
  xiStart s c w 4 1 e (resRange c w :: l.ranges)

/-! ### XI: the completion of a group -/

/-- R320, R334, R336: the group of an XI instruction is complete. -/
def groupDone (t : Tally) (x : XiWait) : Bool :=
  if x.kind = 2 then decide (x.need ≤ t.nextRank)
  else if x.kind = 3 then decide (t.ends = x.need) && decide (t.landed = t.announced)
  else decide (x.need ≤ t.count)

/-- The DST layout of an XI instruction in flight, from the descriptor it read at its start (R80). -/
def flightDst (c : Fin 96) (f : Flight) : Lay :=
  absT c ((aget f.descs (insDst f.ent.word.toNat)).getD 0).toNat

/-- R337, R339, R341: the noise statistics tensor of a RED_EXPECT, on a step core. -/
def writeNoise (s : State) (c : Fin 96) (f : Flight) (ranks : Nat) (pois : Bool) : State :=
  let w := f.ent.word.toNat
  let on := match ownerOf s c with | some p => (s.part p).xc.active && isStepCore s c | none => false
  if !bit w 186 || !on then s
  else
    let z := (aget (s.core c).noise (insGroup w)).getD .zero
    let (sq, s) := if z.nan then s.fresh else (z.sumsq, s)
    let (cu, s) := if z.lastNan then s.fresh else (z.last, s)
    let l := absT c ((aget f.descs (insAux w)).getD 0).toNat
    s.write (l.runSpan 0).1 (leBytes 16 sq ++ leBytes 16 cu ++ leBytes 4 ranks ++
      leBytes 4 (flightDst c f).count ++ leBytes 4 (b2n (z.sat || z.lastSat) + 2 * b2n pois) ++ leBytes 4 0) false

/-- R336, R64, R67: the rows of each token summed in rank order, the conversion counted in the delayed-scaling entry that DST
names; with the first address at which the update of that entry is refused. -/
def combineRows (s : State) (c : Fin 96) (f : Flight) : State × Option Nat :=
  let w := f.ent.word.toNat
  let d := ((aget f.descs (insDst w)).getD 0).toNat
  let l := flightDst c f
  let s := meetErrs s (⟨dataAddr c (insResOff w + 16), 2 * l.n2⟩ :: l.ranges)
  let masks := sentTable s c w l.n2
  let (s, ev) := masks.zipIdx.foldl (fun (s, ev) (m, p) =>
    let ranks := (List.range l.n1).filter (fun r => bit m r)
    let rows := ranks.map (fun r => loadRun s l (p * l.n1 + r))
    let acc := rows.foldl (fun (a : List Num × List Bool) es =>
      ((a.1.zip es).map (fun (x, e) => rAdd x e.val), (a.2.zip es).map (fun (x, e) => x || e.pois)))
      (List.replicate l.n0 Num.zero, List.replicate l.n0 false)
    let o := convRun l.fmt ⟨0, false, none, 0, 64⟩ 0 (acc.1.zip acc.2)
    (storeRun s l (p * l.n1) o.1, ev.add o.2)) (s, {})
  match dsUpdate s c d f.tag false (l.n2 * l.n0) ev with
  | none => (s, dsBad s c d)
  | some s => (putResult s c w l.n2 ((masks.map popcount).foldl (· + ·) 0) (masks.countP (fun m => m == 0)) 0 false, none)

/-- R320, R334, R336, R337: the effect of a complete group, with the address of a refused access. -/
def groupEffect (s : State) (c : Fin 96) (f : Flight) (x : XiWait) (t : Tally) : State × Option Nat :=
  if x.kind = 2 then (writeNoise s c f x.need t.poison, none)
  else if x.kind = 3 then
    let l := flightDst c f
    let rows := t.landed / max 1 (ceilDiv (l.n0 / 32) 31)
    (putResult s c f.ent.word.toNat rows rows (l.n1 * x.need - rows) 0 t.poison, none)
  else if x.kind = 4 then combineRows s c f
  else (s, none)

/-- The tally once its instruction completes (R319, R320): bytes beyond the need stay counted for the
next use (log 27). -/
def tallyAfter (t : Tally) (x : XiWait) : Tally :=
  let rest := if x.kind = 1 ∨ x.kind = 4 then t.count - x.need else 0
  if rest = 0 then .idle
  else { Tally.idle with kind := 1, parity := t.parity, count := rest, poison := t.poison, since := t.since }

/-- XI instructions whose groups are complete, complete in start order (R87), as far as R85 does not hold their writes nor a
memory-step change them (R221). -/
def drainXi (c : Fin 96) : Nat → State → State
  | 0, s => s
  | n + 1, s =>
    match ((s.core c).engine 4).flight with
    | f :: _ => if (match f.xi with | some x => x.done | none => true) && !heldWrite (s.core c) 4 f && !f.stalled s then
        drainXi c n (completeOldest s c 4) else s
    | [] => s

/-- Ends the XI instruction at place `i` of its engine; a refused update of its delayed-scaling entry faults it (R67, R87). -/
def endGroup (s : State) (c : Fin 96) (i : Nat) (f : Flight) (x : XiWait) : State :=
  let t := (s.core c).tally x.group
  let r := groupEffect s c f x t
  let s := match r.2 with
    | some a => faultHead (dropFlights (engViolation r.1 c a) c 4 i) c 4 f.ent fPLAT
    | none => r.1
  s.modCore c (fun k => { (k.setTally x.group (tallyAfter t x)).modEng 4 (fun n =>
      { n with flight := lmod n.flight i (fun f => { f with pois := f.pois || t.poison, xi := some { x with done := true } }) }) with
    noise := adel k.noise x.group })

/-- The flight at a place of XI. -/
def xiFlight (s : State) (c : Fin 96) (i : Nat) : Option Flight := ((s.core c).engine 4).flight[i]?

/-- GROUP_COMPLETE (R320): the effect of the group waits where its ranges wait for a stack (R221, R238). -/
def groupComplete (s : State) (c : Fin 96) (g : Nat) : State :=
  match xiOf (s.core c) g with
  | none => s
  | some (i, x) =>
    match xiFlight s c i with
    | none => s
    | some f => if groupDone ((s.core c).tally g) x && stackFree s (f.reads ++ f.writes) then drainXi c 8 (endGroup s c i f x) else s

/-! ### Gaps (R263, R323, R324) -/

/-- A message held for a group of a core (R262); one that names no core counts with core 0 (log 102). -/
def heldFor (c : Fin 96) (g : Nat) (h : Msg × DWord) : Bool :=
  decide ((coreOf? h.1.dstCore.toNat).getD 0 = c ∧ h.1.group.toNat = g)

/-- The record of a closed group of which no message is held (R586): its sender and sequence numbers are free values (log 7). -/
def gapRecord (s : State) (c : Fin 96) (g : Nat) : State :=
  let (bs, s) := s.freshBytes 5
  recordCore s 0x0202 c (bs.take 3 ++ leBytes 2 g ++ bs.drop 3 ++ leBytes 2 0)

/-- R263: the sequence of a held message passes its first gap, which is recorded (R586), and the messages behind it land. -/
def passGap (s : State) (m : Msg) : State :=
  let k := seqKey m
  let due := dueSeq s k
  let first := (s.fab.held.filter (fun h => decide (seqKey h.1 = k))).foldl (fun (d : Nat) h => min d (h.1.seq - due).toNat) 65535
  let e := due + BitVec.ofNat 16 first
  let s := record s 0x0202 (match partOfJob s m.job with | some p => p.val | none => 15) m.dstCore.toNat
    (leBytes 2 m.srcDev.toNat ++ leBytes 1 m.srcCore.toNat ++ leBytes 2 m.group.toNat ++ leBytes 2 due.toNat ++ leBytes 2 first)
  let s := s.modFab (fun f => { f with
    nextSeq := aset f.nextSeq k e
    seqSkip := f.seqSkip.filter (fun x => decide (x.1 ≠ k ∨ (x.2 - e).toNat < 2 ^ 15)) })
  releaseHeld k (heldFuel s) s

/-- R263, item 2: gap after gap is passed, while a message that `p` names is held. -/
def passGaps (p : Msg × DWord → Bool) : Nat → State → State
  | 0, s => s
  | n + 1, s => match s.fab.held.find? p with
    | none => s
    | some h => passGaps p n (passGap s h.1)

/-- R264, R328: the ranks that a closed reduction misses are added in their rank positions: what is staged of each, and poisoned
zeros for the rest.  Which bytes the rank now being added lacks is not kept; they are poisoned with the whole range (R323). -/
def closeRanks (c : Fin 96) (p : Fin 12) (l : Lay) (x : XiWait) : Nat → State → State
  | 0, s => s
  | n + 1, s =>
    let t := (s.core c).tally x.group
    if x.need ≤ t.nextRank then s
    else
      let xc := (s.part p).xc
      let mine := fun (h : Chunk) => decide (h.core = c.val ∧ h.group = x.group ∧ h.rank = t.nextRank)
      let at_ := fun (i : Nat) => (xc.staged.find? (fun h => mine h && decide (h.addr ≤ l.base + i ∧ l.base + i < h.addr + h.bytes))).map
        (fun h => xc.stageBase.toNat + 1024 * h.slot + (l.base + i - h.addr))
      let s := if t.curBytes = 0 then
          addChunk s c x.group l.base
            ((List.range (4 * l.count)).map (fun i => match at_ i with | some a => (s.bytes a 1).headD 0 | none => 0))
            (fun i => match at_ i with | some a => s.poisoned a 1 | none => true)
        else s
      let s := modXc s p (fun x => { x with staged := x.staged.filter (fun h => !mine h) })
      closeRanks c p l x n (nextRankOf s c x.group)

/-- R323: the XI instruction at place `i` is closed: its DST range poisoned, its group complete. -/
def closeGroup (s : State) (c : Fin 96) (i : Nat) (f : Flight) (x : XiWait) : State :=
  let l := flightDst c f
  let s := match ownerOf s c with
    | some p => if x.kind = 2 then closeRanks c p l x (x.need + 1) s else s
    | none => s
  let s := modTally s c x.group (fun t => { t with poison := true })
  let s := endGroup s c i f x
  let s := l.spans.foldl (fun s p => s.mark p.1 p.2) s
  match ownerOf s c with
  | some p => modXc s p (fun y => { y with gapClose := satAdd y.gapClose 1 })
  | none => s

/-- R263: the group of the XI instruction at place `i` is closed: its held messages land, the rest counts as poisoned. -/
def closeNow (s : State) (c : Fin 96) (i : Nat) (x : XiWait) : State :=
  let mine := fun (h : Msg × DWord) => heldFor c x.group h && h.1.rsig
  let s := if s.fab.held.any mine then passGaps mine s.fab.held.length s else gapRecord s c x.group
  match xiFlight s c i with
  | some f => closeGroup s c i f x
  | none => s

/-- R323: the start of the gap timer of a group: the last landing of its current use, else the first hold of a message for it. -/
def gapStart (s : State) (c : Fin 96) (g : Nat) : Option DWord :=
  match ((s.core c).tally g).since with
  | some t => some t
  | none => ((s.fab.held.filter (fun h => heldFor c g h && h.1.rsig)).map Prod.snd).foldl (fun a t => match a with
    | some u => some (if s.since u < s.since t then t else u)
    | none => some t) none

/-- The gap timer has run out since a time (R263). -/
def gapDue (s : State) (t : DWord) : Bool := decide (s.fab.gapUs * usTicks ≤ s.since t)

/-- R263: held messages that no XI instruction awaits: the sequences of those held for GAP_TIMEOUT pass their gaps, and what lands
of the group is poisoned. -/
def heldTimeout (s : State) (c : Fin 96) (g : Nat) (counted : Bool) : State :=
  let late := fun (h : Msg × DWord) => heldFor c g h && (counted || !h.1.rsig) && gapDue s h.2
  if s.fab.held.any late then
    let rsig := s.fab.held.any (fun h => late h && h.1.rsig)
    let s := passGaps late s.fab.held.length s
    if rsig then modTally s c g (fun t => { t with poison := true }) else s
  else s

/-- GAP_TIMEOUT (R263, R323, R343): acts on an XI instruction whose group is not complete and whose gap timer has run out, and on
messages held long enough that no instruction awaits; it waits during a memory-step change, while nothing lands (R311). -/
def gapTimeout (s : State) (c : Fin 96) (g : Nat) : State :=
  if s.ms.mstepTo.isSome then s
  else match xiOf (s.core c) g with
  | some (i, x) =>
    let t := (s.core c).tally g
    let s := if !groupDone t x && (match gapStart s c g with | some t0 => gapDue s t0 | none => false) then
        drainXi c 8 (closeNow s c i x)
      else s
    heldTimeout s c g false
  | none => heldTimeout s c g true

/-- R324: STOP closes every incomplete group of the core's XI instructions in flight; complete ones end as they are.  During a
memory-step change nothing lands, and the groups are closed at its end (R311). -/
def closeAll (s : State) (c : Fin 96) : State :=
  if s.ms.mstepTo.isSome then s
  else
  let s := (List.range ((s.core c).engine 4).flight.length).foldl (fun s i =>
    match xiFlight s c i with
    | some f => match f.xi with
      | some x =>
        if x.done then s
        else if groupDone ((s.core c).tally x.group) x then endGroup s c i f x
        else closeNow s c i x
      | none => s
    | none => s) s
  drainXi c 8 s

/-! ### ATTEMPT (R265, R325, R299) -/

/-- R265, R269, R325, R299: ATTEMPT of a parity advances to a value: tallies of that parity idle, staged chunks of it freed, stored
copies of it dropped, held messages of the abandoned attempt discarded. -/
def setAttempt (s : State) (p : Fin 12) (odd : Bool) (v : BitVec 4) : State :=
  let job := (s.part p).job
  let s := modXc s p (fun x => { x with
    attempt0 := if odd then x.attempt0 else v
    attempt1 := if odd then v else x.attempt1
    staged := x.staged.filter (fun h => decide (h.parity ≠ odd)) })
  let s := (coresOf s p).foldl (fun s c => s.modCore c (fun k =>
    let gone := (k.tallies.filter (fun g => decide (g.2.parity = odd))).map Prod.fst
    { k with
      tallies := k.tallies.filter (fun g => decide (g.2.parity ≠ odd))
      noise := k.noise.filter (fun z => !gone.contains z.1) })) s
  let gone := fun (m : Msg) => decide (some m.job = job) && decide (m.parity = odd)
  let stale := s.fab.held.filter (fun h => gone h.1 && staleMsg s p h.1)
  let s := s.modFab (fun f => { f with
    rtx := f.rtx.filter (fun r => !gone r.msg), held := f.held.filter (fun h => !stale.contains h) })
  pumpSends (stale.foldl (fun s h => passSeq (dropStale s p) h.1) s)

/-! ### The commands -/

/-- Starts the head instruction of XO. -/
def xoCmd (op : Nat) (work : Work) (c : Fin 96) (gap : Nat) (s : State) : Out :=
  .next (startCmd s c 3 op gap xoReady work)
/-- Starts the head instruction of XI. -/
def xiCmd (op : Nat) (work : Work) (c : Fin 96) (gap : Nat) (s : State) : Out :=
  .next (startCmd s c 4 op gap xiReady work)

/-- PUT. -/
def execPut (c : Fin 96) (gap : Nat) (s : State) : Out := xoCmd 1 (workPut 0x01) c gap s
/-- RED_PUT. -/
def execRedPut (c : Fin 96) (gap : Nat) (s : State) : Out := xoCmd 2 workRedPut c gap s
/-- MCAST. -/
def execMcast (c : Fin 96) (gap : Nat) (s : State) : Out := xoCmd 3 (workPut 0x03) c gap s
/-- DISPATCH. -/
def execDispatch (c : Fin 96) (gap : Nat) (s : State) : Out := xoCmd 4 workDispatch c gap s
/-- COMBINE. -/
def execCombine (c : Fin 96) (gap : Nat) (s : State) : Out := xoCmd 5 workCombine c gap s
/-- EXPECT. -/
def execExpect (c : Fin 96) (gap : Nat) (s : State) : Out := xiCmd 1 workExpect c gap s
/-- RED_EXPECT. -/
def execRedExpect (c : Fin 96) (gap : Nat) (s : State) : Out := xiCmd 2 workRedExpect c gap s
/-- TOKEN_RECV. -/
def execTokenRecv (c : Fin 96) (gap : Nat) (s : State) : Out := xiCmd 3 workTokenRecv c gap s
/-- COMBINE_RECV. -/
def execCombineRecv (c : Fin 96) (gap : Nat) (s : State) : Out := xiCmd 4 workCombineRecv c gap s
/-- GROUP_COMPLETE. -/
def execGroupComplete (c : Fin 96) (group : BitVec 12) (gap : Nat) (s : State) : Out :=
  .next (groupComplete (passCore s c gap) c group.toNat)
/-- GAP_TIMEOUT. -/
def execGapTimeout (c : Fin 96) (group : BitVec 12) (gap : Nat) (s : State) : Out :=
  .next (gapTimeout (passCore s c gap) c group.toNat)
/-- XC_ATTEMPT: firmware writes XC_ATTEMPT of a partition; a parity whose number changes acts under R325. -/
def execXcAttempt (p : Fin 12) (even odd : BitVec 4) (s : State) : Out :=
  let x := (s.part p).xc
  let s := if x.attempt0 = even then s else setAttempt s p false even
  .next (if x.attempt1 = odd then s else setAttempt s p true odd)

/-- A message of a kind arrives for this device by port `port`; the router takes none before it has an ID (R273); during a
memory-step change one that lands waits (R311). -/
def arriveKind (kind : BitVec 8) (port : Nat) (m : Msg) (s : State) : Out :=
  .next (if m.kind = kind ∧ s.fab.idValid = true then
      (if stalls s m && kindOk m then
        s.modFab (fun f => { f with waiting := f.waiting ++ [{ Waiting.of f port 0 m with land := true }] })
      else arrive s port m)
    else s)

/-- PUT_MESSAGE. -/
def execPutMessage (m : Msg) (s : State) : Out := arriveKind 0x01 8 m s
/-- RED_PUT_MESSAGE. -/
def execRedPutMessage (m : Msg) (s : State) : Out := arriveKind 0x02 8 m s
/-- DISPATCH_MESSAGE. -/
def execDispatchMessage (m : Msg) (s : State) : Out := arriveKind 0x04 8 m s
/-- COMBINE_MESSAGE. -/
def execCombineMessage (m : Msg) (s : State) : Out := arriveKind 0x05 8 m s
/-- ACK_MESSAGE. -/
def execAckMessage (m : Msg) (s : State) : Out := arriveKind 0x10 8 m s
/-- REFUSE_MESSAGE. -/
def execRefuseMessage (m : Msg) (s : State) : Out := arriveKind 0x11 8 m s
/-- BAR_ARRIVE_MESSAGE. -/
def execBarArriveMessage (port : Fin 9) (m : Msg) (s : State) : Out := arriveKind 0x20 port.val m s
/-- BAR_RELEASE_MESSAGE. -/
def execBarReleaseMessage (port : Fin 9) (m : Msg) (s : State) : Out := arriveKind 0x21 port.val m s

/-- RESEND_TIMEOUT (R298): copy `i` of the retransmit store, without an answer for RESEND_TIMEOUT, is resent, or dropped as
undeliverable. -/
def execResendTimeout (i : Nat) (s : State) : Out :=
  .next (match s.fab.rtx[i]? with
    | none => s
    | some r =>
      if s.since r.since < s.fab.resendUs * usTicks then s
      else if r.sends < s.fab.resendLimit then
        inject (s.modFab (fun f => { f with
          resends := satAdd f.resends 1
          rtx := lmod f.rtx i (fun r => { r with sends := r.sends + 1, since := s.ts }) })) r.msg
      else
        let s := s.modFab (fun f => { f with undeliv := satAdd f.undeliv 1, rtx := f.rtx.eraseIdx i })
        pumpSends (record s 0x0203 (match partOfJob s r.msg.job with | some p => p.val | none => 15) r.msg.srcCore.toNat
          (leBytes 2 r.msg.dstDev.toNat ++ leBytes 2 r.msg.group.toNat ++ leBytes 4 r.msg.msgId.toNat)))

/-- BARRIER_ARRIVE_LOCAL (R309): firmware of the partition that holds the context's JOB arrives. -/
def execBarrierArriveLocal (i : Fin 16) (gen : BitVec 16) (s : State) : Out :=
  let b := vget s.fab.bars i
  .next (if b.used ∧ (partOfJob s b.job).isSome then
    barArrive s i gen (fun b => { b with arrived := true, since := s.ts }) else s)

/-- BAR_TIMEOUT (R309): the barrier is not complete BAR_TIMEOUT after the local arrival. -/
def execBarTimeout (i : Fin 16) (s : State) : Out :=
  let b := vget s.fab.bars i
  .next (if b.used ∧ b.arrived ∧ b.failed = 0 ∧ s.fab.barUs * usTicks ≤ s.since b.since then barFail s i 2 else s)

end Sys2Proof.Machine
end

