-- ==== Sys2Proof/Machine/Seq.lean ====
section
/-! DEFINITION.  The sequencer, completion and faults of instructions, and the register writes and reads of
a core that have rows of their own (R76 to R102, R152 to R159, R187, R188). -/

namespace Sys2Proof.Machine

open Sys2Proof

/-- Cycles of the core pass; then, on a core that is not shut, `f` acts. -/
def onCore (c : Fin 96) (gap : Nat) (s : State) (f : State → State) : Out :=
  .next (if coreShut s c then s else f (passCore s c gap))

/-! ### Fetching (R76 to R78, R186 to R188) -/

/-- R188: the sequencer faults at a slot. -/
def seqFault (s : State) (c : Fin 96) (slot code : Nat) : State := faultCore s c 15 (slot % 2048) code

/-- Changes the sequencer's view of what blocks it. -/
def setBlock (s : State) (c : Fin 96) (cause : BitVec 2) (e : BitVec 4) : State :=
  s.modCore c (fun k => { k with blockCause := cause, blockEng := e })

/-- The sequencer has had its instruction of the cycle and goes on to the slot after `i` (R76, R187). -/
def seqNext (s : State) (c : Fin 96) (i : Nat) : State :=
  s.modCore c (fun k =>
    let (j, ls) := advance k.loops i
    { k with fetchIndex := BitVec.ofNat 12 j, loops := ls, blockCause := 0, blockEng := 0, seqDone := true })

/-- SEQ_DISPATCH on a core whose sequencer fetches: one instruction in a CCLK cycle (R76). -/
def seqDispatch (s : State) (c : Fin 96) : State :=
  let k := s.core c
  let i := k.fetchIndex.toNat
  if !k.fetching || k.seqDone then s
  else if 2048 ≤ i then seqFault s c i fFETCH
  else
    let w := s.num (progAddr c i) 32
    if w = 0 then seqFault s c i fFETCH
    else match engOf? (insEng w) with
    | some e =>
      if (k.engine e).queue.length < 32 then
        seqNext (s.modCore c (fun k => k.modEng e (fun n => { n with
          queue := n.queue ++ [⟨BitVec.ofNat 11 i, BitVec.ofNat 256 w⟩] }))) c i
      else setBlock s c 1 (BitVec.ofNat 4 e.val)
    | none =>
      if insEng w ≠ 15 then seqFault s c i fENG
      else if insOp w = 0 ∨ 3 < insOp w then seqFault s c i fOP
      else setBlock s c (if waitsMet k w then 0 else 2) 0

/-- What every operation of the sequencer does, whichever it is: the word `w` of slot `i` subtracts its waits, counts
as a start, leaves its START and DONE records and gives its signal (R81, R92, R575, R579). -/
def seqRan (s : State) (c : Fin 96) (i w : Nat) : State :=
  let s := (progress s c).modCore c (fun k => { subWaits k w with
    ac := { k.ac with blocks := vmod k.ac.blocks 10 (fun v => vmod v 10 (· + 1)) } })
  let k := s.core c
  let s := fbPut s c 0x1 15 (leBytes 2 i ++ leBytes 1 (k.phaseId.toNat + 64 * b2n k.phaseValid) ++ [0] ++
    leBytes 4 k.stepTag.toNat)
  let s := if insSigEn w then signal s c (insSigCtr w) 15 i (insSigInc w) false else s
  fbPut s c 0x2 15 (leBytes 2 i)

/-- The sequencer executes its own operation `op` where the slot holds it and its waits are met; `act`
moves the sequencer on (R78, R186). -/
def seqExec (op : Nat) (act : State → Nat → Nat → State) (c : Fin 96) (s : State) : State :=
  let k := s.core c
  let i := k.fetchIndex.toNat
  let w := s.num (progAddr c i) 32
  if !k.fetching ∨ k.seqDone ∨ 2048 ≤ i ∨ insEng w ≠ 15 ∨ insOp w ≠ op then s
  else if !waitsMet k w then setBlock s c 2 0
  else act (seqRan s c i w) i w

/-- LOOP (R187). -/
def loopAct (c : Fin 96) (s : State) (i w : Nat) : State :=
  if loopCount w = 0 then seqNext s c (loopEnd w)
  else s.modCore c (fun k => { k with
    fetchIndex := BitVec.ofNat 12 (i + 1), loops := (i, loopEnd w, loopCount w) :: k.loops
    blockCause := 0, blockEng := 0, seqDone := true })

/-- HALT (R188). -/
def haltAct (c : Fin 96) (s : State) (i _ : Nat) : State :=
  progDone (s.modCore c (fun k => { k with
    fetching := false, halted := true, blockCause := 3, fetchIndex := BitVec.ofNat 12 (i + 1), seqDone := true })) c

/-- SEQ_DISPATCH (R76, R77). -/
def execSeqDispatch (c : Fin 96) (gap : Nat) (s : State) : Out := onCore c gap s (fun s => seqDispatch s c)
/-- NOP (R186). -/
def execNop (c : Fin 96) (gap : Nat) (s : State) : Out :=
  onCore c gap s (seqExec 1 (fun s i _ => seqNext s c i) c)
/-- LOOP (R187). -/
def execLoop (c : Fin 96) (gap : Nat) (s : State) : Out := onCore c gap s (seqExec 2 (loopAct c) c)
/-- HALT (R188). -/
def execHalt (c : Fin 96) (gap : Nat) (s : State) : Out := onCore c gap s (seqExec 3 (haltAct c) c)

/-! ### Completion and faults (R87) -/

/-- INSTRUCTION_COMPLETE: the oldest instruction in flight; an XI instruction only with its group, a write that R85 holds
only after the compute instruction it meets, one of XO once the router has every message (R315), one with ranges in a
stack not while the stacks change their step (R221). -/
def execInstructionComplete (c : Fin 96) (e : Fin 10) (gap : Nat) (s : State) : Out :=
  onCore c gap s (fun s => match ((s.core c).engine e).flight with
    | f :: _ =>
      if (match f.xi with | some x => x.done | none => true) && f.unsent.isEmpty && !heldWrite (s.core c) e f &&
          !f.stalled s then completeOldest s c e
      else s
    | [] => s)

/-! ### CORE_CTRL (R88, R98) -/

/-- A core starts at START_INDEX (R88, R115), or reports the fault that its failed load left (R209). -/
def startCore (s : State) (c : Fin 96) : State :=
  let s := s.modCore c (fun k => { k with
    faulted := false, told := false, fault := { k.fault with valid := false }
    eng := k.eng.map (fun e => { e with queue := [], faulted := false })
    loops := [], mx := .reset, halted := false, stopping := false })
  match (s.core c).loadFault with
  | some (code, slot) => seqFault s c slot.toNat code.toNat
  | none => s.modCore c (fun k => { k with
    stopped := false, fetching := true, fetchIndex := BitVec.ofNat 12 k.startIndex.toNat, blockCause := 0
    blockEng := 0 })

/-- A core stops fetching; what is queued is discarded, incomplete XI groups are closed (R88, R324). -/
def stopCore (s : State) (c : Fin 96) : State :=
  let s := s.modCore c (fun k => { k with
    fetching := false, halted := false, stopping := true, blockCause := 3
    eng := k.eng.map (fun e => { e with queue := [] }) })
  closeAll s c

/-- A kernel holds its engine set on the core (R89, R420). -/
def kernelHolds (s : State) (c : Fin 96) : Bool :=
  match (vget s.serv.cores c).run with | some r => r.held | none => false

/-- The hidden context returns the engines of a core; a quarantined core stays with it (R428). -/
def returnEngines (s : State) (c : Fin 96) : State :=
  let q := decide ((vget s.serv.cores c).level = 2)
  s.modCore c (fun k => { k with eng := k.eng.map (fun e => { e with kernel := q }) })

/-- The operands and results of a kernel in the test reserve (R419). -/
def testData (c : Fin 96) : Range := ⟨dataAddr c 0x3E8000, 0x14000⟩

/-- LD moves the 16 KiB of accumulator SRAM that a kernel may use, with their poison bits (R256, R420). -/
def moveSaved (s : State) (a b : Nat) : State := (meetErrs s [⟨a, 0x4000⟩]).copyMarked a b 0x4000

/-- R419, R420: a kernel that holds its whole set starts: its image in the test reserve, the accumulators it uses saved there.
Until it ends, those accumulators hold free values (log 94). -/
def enterKernel (s : State) (c : Fin 96) (k : Kernel) : State :=
  let s := s.write (dataAddr c 0x3E0000) (k.image.take 0x8000) false
  if k.accSave then (moveSaved s (accAddr c 0x3C000) (dataAddr c 0x3FC000)).spoil [⟨accAddr c 0x3C000, 0x4000⟩] else s

/-- R31, R420, R421: the save area goes back to the accumulator SRAM. -/
def restoreSaved (s : State) (c : Fin 96) (k : Kernel) : State :=
  if k.accSave then moveSaved s (dataAddr c 0x3FC000) (accAddr c 0x3C000) else s

/-- R441: a kernel is aborted, its save area restored, its result discarded uncounted; it runs again later.  What it has
written of its results is undefined. -/
def abortKernel (s : State) (c : Fin 96) : State :=
  let s := match (vget s.serv.cores c).run with
    | some r => if r.held then restoreSaved (s.spoil [testData c]) c r.kernel else s
    | none => s
  returnEngines { s with serv := { s.serv with
    cores := vmod s.serv.cores c (fun t => { t with run := none, capHeld := false }) } } c

/-- STOPPED is set once every engine is idle and no kernel holds one (R88, R441).  At Quarantine, where the hidden context keeps
the engines for good (R428), it waits for no kernel (DEDUCED, log 94). -/
def settleStop (s : State) (c : Fin 96) : State :=
  let k := s.core c
  if k.stopping && k.idle && (!kernelHolds s c || decide ((vget s.serv.cores c).level = 2)) then
    s.modCore c (fun k => { k with stopped := true, stopping := false })
  else s

/-- R98: CLR_COUNTERS; ignored and reported on a core that runs. -/
def clrCounters (s : State) (c : Fin 96) (v : Word) : State :=
  if (s.core c).stopped then s.modCore c clearCtrs
  else recordCore s 0x0108 c (leBytes 4 v.toNat ++ leBytes 4 (coreCtrlWord s c))

/-- R88: one write of CORE_CTRL. -/
def coreCtrlWrite (s : State) (c : Fin 96) (v : Word) : State :=
  let s := s.modCore c (fun k => { k with startIndex := BitVec.ofNat 11 (field v.toNat 16 11) })
  let s := if bit v.toNat 2 then clrCounters s c v else s
  let s := if bit v.toNat 1 ∧ ((s.core c).stopped = false ∨ (s.core c).faulted) then stopCore s c else s
  if bit v.toNat 0 ∧ (s.core c).stopped = true then startCore s c else s

/-- A write of the control path: the window of a quarantined or held-out core refuses it (R75, R431). -/
def onPath (c : Fin 96) (gap : Nat) (s : State) (f : State → State) : Out :=
  onCore c gap s (fun s => if coreOut s c then s else f s)

/-- CORE_CTRL_START: a write of CORE_CTRL with START set. -/
def execCoreCtrlStart (c : Fin 96) (v : Word) (gap : Nat) (s : State) : Out :=
  onPath c gap s (fun s => coreCtrlWrite s c (v ||| 1))
/-- CORE_CTRL_STOP: a write of CORE_CTRL with STOP set. -/
def execCoreCtrlStop (c : Fin 96) (v : Word) (gap : Nat) (s : State) : Out :=
  onPath c gap s (fun s => coreCtrlWrite s c (v ||| 2))
/-- CORE_CTRL_CLR_COUNTERS: a write of CORE_CTRL with CLR_COUNTERS set. -/
def execCoreCtrlClrCounters (c : Fin 96) (v : Word) (gap : Nat) (s : State) : Out :=
  onPath c gap s (fun s => coreCtrlWrite s c (v ||| 4))
/-! ### Other registers of a core -/

/-- R98, R115, R131, R158, R319, R441: the clear of a context switch. -/
def contextSwitch (s : State) (c : Fin 96) : State :=
  (abortKernel s c).modCore c (fun k => { clearCtrs k with
    stepTag := 0, tagPend := [], num := .reset, phaseValid := false, phaseEng := none, mx := .reset, mv := .reset
    eng := k.eng.map (fun e => { e with queue := [] })
    tallies := [], noise := []
    lg := { k.lg with
      replay := false, ologOvf := false, ologDrops := 0, logFly := [], rplStale := [], rplPtr := Vector.replicate 10 0
      logSeq := Vector.replicate 10 0, seqFull := Vector.replicate 10 false } })

/-- SEQ_SIGNAL (R90, R101): an increment of 0 is ignored. -/
def execSeqSignal (c : Fin 96) (n : Fin 64) (inc : BitVec 9) (gap : Nat) (s : State) : Out :=
  onPath c gap s (fun s => if inc = 0 then s else signal s c n 15 0xFFFF inc.toNat false)

/-- R102: a write of STEP_TAG, with its TAG record. -/
def writeTag (s : State) (c : Fin 96) (tag : Word) : State :=
  let att := match ownerOf s c with
    | some p => ((s.part p).xc.attempt (bit tag.toNat 0)).toNat
    | none => 0
  fbPut (s.modCore c (fun k => { k with tagPend := k.tagPend ++ [(tag, 3)] })) c 0x8 15
    (leBytes 1 att ++ [0, 0, 0] ++ leBytes 4 tag.toNat)

/-- STEP_TAG_WRITE (R102). -/
def execStepTagWrite (c : Fin 96) (tag : Word) (gap : Nat) (s : State) : Out :=
  onPath c gap s (fun s => writeTag s c tag)

/-- ENG_CTRL_STEP (R82): a write of ENG_CTRL with STEP set; HOLD is stored.  STEP acts with HOLD = 1 and holds until the next
start, later writes of HOLD notwithstanding. -/
def execEngCtrlStep (c : Fin 96) (e : Fin 10) (hold : Bool) (gap : Nat) (s : State) : Out :=
  onPath c gap s (fun s => s.modCore c (fun k => k.modEng e (fun n => { n with hold := hold, stepOnce := hold || n.stepOnce })))

/-- OLOG_WPTR_WRITE (R156, R159). -/
def execOlogWptrWrite (c : Fin 96) (v : BitVec 20) (gap : Nat) (s : State) : Out :=
  onPath c gap s (fun s => s.modCore c (fun k => { k with lg := { k.lg with ologWptr := v, ologDrops := 0 } }))

/-- A bank whose SEED_HI is written (R152, R159). -/
def Bank.seed (b : Bank) (hi : Word) : Bank := { b with pend := some (hi ++ b.seedLo) }

/-- A bank whose STATE_LO is read (R159). -/
def Bank.latch (b : Bank) : Bank := { b with hiLatch := BitVec.ofNat 32 (b.s.toNat / 2 ^ 32) }

/-- VX_SEED_HI (R159). -/
def execVxSeedHi (c : Fin 96) (hi : Word) (gap : Nat) (s : State) : Out :=
  onPath c gap s (fun s => s.modCore c (fun k => { k with lg := { k.lg with vx := k.lg.vx.seed hi } }))
/-- EDGE_SEED_HI (R159). -/
def execEdgeSeedHi (c : Fin 96) (hi : Word) (gap : Nat) (s : State) : Out :=
  onPath c gap s (fun s => s.modCore c (fun k => { k with lg := { k.lg with edge := k.lg.edge.seed hi } }))

/-- What a register read returns. -/
def State.returns (s : State) (bs : List Byte) : State := { s with readData := bs }

/-- A control-path read of a core register: zero where the core is shut (R75). -/
def readCore (c : Fin 96) (gap : Nat) (s : State) (f : State → State) : Out :=
  .next (if coreClosed s c then s.returns (List.replicate 4 0) else f (passCore s c gap))

/-- VX_STATE_LO (R159). -/
def execVxStateLo (c : Fin 96) (gap : Nat) (s : State) : Out :=
  readCore c gap s (fun s => (s.modCore c (fun k => { k with lg := { k.lg with vx := k.lg.vx.latch } })).returns
    (leBytes 4 (s.core c).lg.vx.s.toNat))
/-- EDGE_STATE_LO (R159). -/
def execEdgeStateLo (c : Fin 96) (gap : Nat) (s : State) : Out :=
  readCore c gap s (fun s => (s.modCore c (fun k => { k with lg := { k.lg with edge := k.lg.edge.latch } })).returns
    (leBytes 4 (s.core c).lg.edge.s.toNat))

end Sys2Proof.Machine
end

