-- ==== Sys2Proof/Machine/Kci.lean ====
section
/-! DEFINITION.  The command interface (16): rings, fetching, completions and events (R446 to R456), the
header checks of R452, locks of transactions (R467). -/

namespace Sys2Proof.Machine

open Sys2Proof

/-! ### Status codes (R451) -/

def kOK : Nat := 0
def kPENDING : Nat := 1
def kBADARG : Nat := 2
def kNODEED : Nat := 3
def kSTALE : Nat := 4
def kBUSY : Nat := 5
def kCONFLICT : Nat := 6
def kROLLED : Nat := 7
def kBADDATE : Nat := 8
def kDENIED : Nat := 9
def kFAULT : Nat := 10
def kABORTED : Nat := 11
def kUNSUPPORTED : Nat := 12

/-! ### Access to the interface -/

/-- Changes the command interface. -/
def State.modKci (s : State) (f : Kci → Kci) : State := { s with kci := f s.kci }
/-- Function `f`. -/
def State.fn (s : State) (f : Fin 13) : Func := vget s.kci.fns f
/-- Changes function `f`. -/
def State.modFn (s : State) (f : Fin 13) (g : Func → Func) : State :=
  s.modKci (fun k => { k with fns := vmod k.fns f g })
/-- Changes a ring of a function, where it exists. -/
def State.modRing (s : State) (f : Fin 13) (r : Fin 32) (g : Ring → Ring) : State :=
  s.modFn f (fun x => { x with rings := vmod x.rings r (Option.map g) })

/-- R442: the partition that a VF is bound to. -/
def boundPart (s : State) (f : Fin 13) : Option (Fin 12) :=
  match partOf? (f.val - 1) with
  | some p => if f.val = 0 ∨ (s.part p).made = false then none else some p
  | none => none
/-- The VF of a partition (R442). -/
def vfOf (p : Fin 12) : Fin 13 := ⟨p.val + 1, by omega⟩
/-- The partition number under which a function's control-path requests are checked (R444, R244): 0xF for
PF0, 0xE (no partition) for an unbound VF. -/
def fnActs (s : State) (f : Fin 13) : Nat :=
  if f.val = 0 then 15 else match boundPart s f with | some p => p.val | none => 14
/-- RINGS and VECTORS of a function (R443, R446). -/
def ringCap (f : Fin 13) : Nat := if f.val = 0 then 32 else 8

/-! ### Commands (R448) -/

/-- Little-endian field of a command. -/
def Cmd.b (c : Cmd) (off n : Nat) : Nat := natAt c.raw off n
def Cmd.opcode (c : Cmd) : Nat := c.b 0 1
def Cmd.fence (c : Cmd) : Bool := bit (c.b 1 1) 0
def Cmd.ack (c : Cmd) : Bool := bit (c.b 1 1) 1
def Cmd.txn (c : Cmd) : Bool := bit (c.b 1 1) 2
def Cmd.txnId (c : Cmd) : BitVec 16 := BitVec.ofNat 16 (c.b 2 2)
def Cmd.epoch (c : Cmd) : Nat := c.b 4 4
def Cmd.part (c : Cmd) : Nat := c.b 8 1

/-- The partition that a command with partition scope acts on (R448, R457). -/
def Cmd.scope (s : State) (c : Cmd) : Option (Fin 12) :=
  if c.fn.val = 0 then partOf? c.part else boundPart s c.fn

/-- The command codes of R457. -/
def knownOpcode (o : Nat) : Bool :=
  [0x01, 0x02, 0x08, 0x09, 0x10, 0x11, 0x12, 0x13, 0x14, 0x18, 0x19, 0x1A, 0x20, 0x21, 0x22, 0x23, 0x28, 0x29,
    0x2A, 0x2B, 0x30, 0x31, 0x32, 0x33, 0x38, 0x39, 0x3A, 0x40, 0x41, 0x42, 0x48, 0x49, 0x4A, 0x50, 0x51, 0x52,
    0x53, 0x58, 0x59, 0x5A, 0x60, 0x61, 0x68, 0x69, 0x6A, 0x70, 0x71, 0x78].contains o

/-- PF0-only commands (R457). -/
def pf0Only (o : Nat) : Bool :=
  [0x10, 0x11, 0x12, 0x13, 0x14, 0x40, 0x41, 0x48, 0x49, 0x50, 0x51, 0x52, 0x53, 0x58, 0x60, 0x68, 0x69, 0x70,
    0x71].contains o

/-- The deed that a command needs (R457). -/
def deedNeeded (o : Nat) : Option (Fin 5) :=
  if o = 0x10 ∨ o = 0x11 ∨ o = 0x12 then some 2
  else if o = 0x40 then some 0
  else if o = 0x41 then some 1
  else if o = 0x50 ∨ o = 0x51 ∨ o = 0x70 ∨ o = 0x71 then some 3 else none

/-- Commands that may carry TXN (R457, R462). -/
def txnAllowed (c : Cmd) : Bool :=
  [0x12, 0x13, 0x14, 0x2A, 0x30, 0x40, 0x41, 0x42, 0x49].contains c.opcode ||
    (c.opcode == 0x48 && decide (c.b 16 1 ≠ 1))

/-- Commands with a partition scope: PF0 names the partition in PART. -/
def partScoped (c : Cmd) : Bool :=
  [0x10, 0x11, 0x12, 0x20, 0x21, 0x22, 0x23, 0x28, 0x29, 0x2A, 0x2B, 0x30, 0x31, 0x32, 0x33, 0x78].contains
    c.opcode || (c.opcode == 0x48 && (c.b 16 1 == 2 || c.b 16 1 == 6))

/-- The body bits that a command names, as first byte, last byte and mask of each byte (R458, R462). -/
def bodyUsed (c : Cmd) : List (Nat × Nat × Nat) :=
  let sel := c.b 16 1
  match c.opcode with
  | 0x01 => [(16, 19, 0xFF), (24, 39, 0xFF)]
  | 0x02 => [(16, 16, 0xFF)]
  | 0x08 => [(16, 16, 0xFF), (24, 35, 0xFF)]
  | 0x09 => [(24, 35, 0xFF)]
  | 0x10 => [(16, 16, 0xFF), (17, 17, 0x0F)]
  | 0x12 => [(16, 16, 0xFF), (17, 17, 0x0F)]
  | 0x13 => [(16, 33, 0xFF)]
  | 0x14 => [(32, 33, 0xFF), (34, 34, 1)]
  | 0x18 => [(16, 40, 0xFF)]
  | 0x19 => [(24, 47, 0xFF)]
  | 0x1A => [(24, 39, 0xFF)]
  | 0x20 => [(16, 39, 0xFF)]
  | 0x21 => [(16, 27, 0xFF)]
  | 0x22 => [(16, 27, 0xFF)]
  | 0x23 => [(16, 27, 0xFF), (32, 39, 0xFF)]
  | 0x28 => [(16, 20, 0xFF), (24, 31, 0xFF)]
  | 0x29 => [(16, 20, 0xFF)]
  | 0x2A => [(16, 23, 0xFF)]
  | 0x2B => [(16, 19, 0xFF), (20, 20, 1), (24, 35, 0xFF)]
  | 0x30 => [(16, 39, 0xFF)]
  | 0x31 => [(16, 26, 0xFF), (27, 27, 1), (28, 43, 0xFF)]
  | 0x32 => [(16, 26, 0xFF), (27, 27, 1), (28, 43, 0xFF)]
  | 0x33 => [(16, 26, 0xFF), (28, 43, 0xFF)]
  | 0x39 => [(16, 17, 0xFF), (24, 31, 0xFF)]
  | 0x3A => [(16, 17, 0xFF)]
  | 0x40 => [(16, 18, 0xFF), (19, 19, 3)]
  | 0x41 => [(16, 18, 0xFF)]
  | 0x42 => [(16, 19, 0xFF), (20, 20, 1)]
  | 0x48 =>
    if sel = 1 then [(16, 21, 0xFF)]
    else if sel = 2 then [(16, 18, 0xFF)]
    else if sel = 3 then [(16, 16, 0xFF), (18, 34, 0xFF)]
    else if sel = 4 then [(16, 39, 0xFF)]
    else if sel = 5 then [(16, 23, 0xFF), (24, 24, 0x3F), (25, 25, 0xFF), (26, 26, 1)]
    else if sel = 6 then [(16, 18, 0xFF), (24, 29, 0xFF)]
    else if sel = 7 then [(16, 21, 0xFF)] else [(16, 63, 0xFF)]
  | 0x49 => [(16, 20, 0xFF), (24, 31, 0xFF)]
  | 0x4A => [(24, 35, 0xFF)]
  | 0x50 => [(16, 16, 0xFF), (24, 35, 0xFF)]
  | 0x51 => [(16, 16, 0xFF)]
  | 0x52 => [(16, 17, 0xFF), (18, 18, 1)]
  | 0x53 => [(16, 16, 0xFF)]
  | 0x59 => [(16, 29, 0xFF), (30, 30, 1), (32, 43, 0xFF)]
  | 0x5A => [(16, 21, 0xFF), (24, 31, 0xFF)]
  | 0x60 => [(16, 16, 0xFF), (24, 38, 0xFF)]
  | 0x68 => [(16, 16, 0xFF)]
  | 0x69 => [(16, 16, 0xFF)]
  | 0x6A => [(16, 16, 0xFF)]
  | 0x70 => [(16, 31, 0xFF), (32, 32, 3)]
  | 0x78 => [(16, 17, 0xFF), (24, 35, 0xFF)]
  | _ => []

/-- The first reserved byte of a body that is not zero (R15, R458). -/
def bodyReserved (c : Cmd) : Option Nat :=
  let used := bodyUsed c
  (upFrom 16 48).find? (fun i =>
    let m := (used.find? (fun u => decide (u.1 ≤ i ∧ i ≤ u.2.1))).map (fun u => u.2.2)
    decide (c.b i 1 &&& (0xFF ^^^ m.getD 0) ≠ 0))

/-! ### Completions (R450, R453, R454) -/

/-- A completion ring is full when its tail may not advance without meeting the head (DEDUCED, log 33). -/
def Ring.full (q : Ring) : Bool := decide ((q.cqTail + 1) % 2 ^ q.cqLog2 = q.cqHead)

/-- The ring's MSI-X vector is raised, or kept pending where it is masked (R450). -/
def raiseVector (s : State) (f : Fin 13) (v : Nat) : State :=
  if bit (s.fn f).msixMask.toNat v then
    s.modFn f (fun x => { x with msixPend := x.msixPend ||| BitVec.ofNat 32 (2 ^ v) })
  else s.modKci (fun k => { k with irqs := k.irqs ++ [(f, v)] })

/-- Writes one completion at the tail of a ring that has room. -/
def putCompletion (s : State) (f : Fin 13) (r : Fin 32) (bytes : List Byte) : State :=
  match vget (s.fn f).rings r with
  | none => s
  | some q =>
    let flags := (natAt bytes 6 1) + b2n q.phase
    let bs := bytes.take 6 ++ leBytes 1 flags ++ bytes.drop 7
    let s := s.hostWrite (q.cqAddr.toNat + 32 * q.cqTail) bs
    let nt := (q.cqTail + 1) % 2 ^ q.cqLog2
    let s := s.modRing f r (fun q => { q with cqTail := nt, phase := if nt = 0 then !q.phase else q.phase })
    raiseVector s f q.vector

/-- R268, R453: a posting for a ring; held where the ring is full or postings for it are already held, and during the pause of
a live update, whose end brings it out; with the store full an event goes first. -/
def deliver (s : State) (f : Fin 13) (r : Fin 32) (bytes : List Byte) (event : Bool) : State :=
  match vget (s.fn f).rings r with
  | none => s
  | some q =>
    let h := (s.fn f).held
    if !q.full && !s.kci.paused && h.all (fun p => p.ring != r) then putCompletion s f r bytes
    else if h.length < 1024 then s.modFn f (fun x => { x with held := x.held ++ [⟨r, bytes, event⟩] })
    else if event then s.modFn f (fun x => { x with eventsLost := true, lostOwed := true })
    else match h.findIdx? (fun p => p.event) with
      | some i => s.modFn f (fun x => { x with
          held := x.held.eraseIdx i ++ [⟨r, bytes, event⟩], eventsLost := true, lostOwed := true })
      | none => s.modFn f (fun x => { x with held := x.held ++ [⟨r, bytes, event⟩] })

/-- The 32 bytes of a completion without PHASE (R450). -/
def completionBytes (handle : Word) (status flags sqHead detail : Nat) (result : List Byte) : List Byte :=
  leBytes 4 handle.toNat ++ leBytes 2 status ++ leBytes 1 flags ++ [0] ++ leBytes 2 sqHead ++ [0, 0] ++
    leBytes 4 detail ++ padTo result 16

/-- A completion of a command: FINAL, or PENDING (R450). -/
def post (s : State) (c : Cmd) (final : Bool) (status detail : Nat) (result : List Byte) : State :=
  match c.ring with
  | none => s
  | some r => match vget (s.fn c.fn).rings r with
    | none => s
    | some _ => deliver s c.fn r
        (completionBytes c.handle status (if final then 2 else 0) c.head detail result) false

/-- An event completion on ring 0 of a function (R454). -/
def postEvent (s : State) (f : Fin 13) (code : Nat) (head : List Byte) : State :=
  match vget (s.fn f).rings 0 with
  | none => s
  | some q => deliver s f 0 (completionBytes 0xFFFFFFFF kOK 6 q.head code head) true

/-- R454: the event completions of a record: PF0, and the VF of the record's partition. -/
def eventTo (s : State) (code part : Nat) (head : List Byte) : State :=
  let s := postEvent s 0 code head
  match partOf? part with
  | some p => if (s.part p).made then postEvent s (vfOf p) code head else s
  | none => s

/-! ### Fetching (R447 to R449, R452, R453) -/

/-- The SEQ after `n` on a ring (R449). -/
def nextSeq (r : Fin 32) (n : Nat) : Nat :=
  let m := (n + 1) % 2 ^ 27
  if r.val = 31 ∧ m = 0x7FFFFFF then 0 else m

/-- Takes the entries of a submission ring up to its tail. -/
def fetchEntries (s : State) (f : Fin 13) (r : Fin 32) : Nat → Ring → Ring
  | 0, q => q
  | n + 1, q =>
    if q.head = q.tail then q
    else
      let raw := s.hostMem.readN (q.sqAddr.toNat + 64 * q.head) 64
      let head := (q.head + 1) % 2 ^ q.sqLog2
      let c : Cmd := ⟨f, some r, BitVec.ofNat 32 (r.val * 2 ^ 27 + q.seq), raw, [], 0, 0, head⟩
      fetchEntries s f r n { q with
        head := head, seq := nextSeq r q.seq, fetched := q.fetched ++ [c] }

/-- A function's rings are fetched (R446, R453, R455). -/
def fetches (s : State) (f : Fin 13) : Bool :=
  (s.fn f).ready && (s.fn f).held.isEmpty && !s.kci.paused && !s.kci.cpFault

/-- Fetches a ring. -/
def fetchRing (s : State) (f : Fin 13) (r : Fin 32) : State :=
  if fetches s f then s.modRing f r (fun q => fetchEntries s f r (2 ^ q.sqLog2) q) else s

/-- The commands of a ring that have no FINAL: started ones and staged ones. -/
def unfinished (s : State) (f : Fin 13) (r : Fin 32) : List Cmd :=
  (s.kci.live ++ s.kci.txns.flatMap (fun t => t.staged ++ t.commit.toList)).filter
    (fun c => decide (c.fn = f ∧ c.ring = some r))

/-- R252: the head of a ring may start. -/
def fenceOk (s : State) (f : Fin 13) (r : Fin 32) (c : Cmd) : Bool :=
  let u := unfinished s f r
  if c.fence then u.isEmpty else u.all (fun d => !d.fence)

/-- The accesses of a MEM command: write, address, bytes. -/
def memAccesses (c : Cmd) : List (Bool × Nat × Nat) :=
  let src := c.b 16 8
  let dst := c.b 24 8
  let n := c.b 32 8
  if c.opcode = 0x18 then
    (if c.b 40 1 = 0 then [] else [(false, src, n)]) ++ (if c.b 40 1 = 1 then [] else [(true, dst, n)])
  else [(true, dst, n)]

/-- R221, R238: a MEM command waits at the head of its ring while its accesses have to wait for a stack. -/
def memWaits (s : State) (c : Cmd) : Bool :=
  (c.opcode == 0x18 || c.opcode == 0x19 || c.opcode == 0x1A) && (memAccesses c).any (fun x => stackWaits s x.2.1 x.2.2)

/-- The head command of a ring, where it may start. -/
def ringHead (s : State) (f : Fin 13) (r : Fin 32) : Option Cmd :=
  match vget (s.fn f).rings r with
  | some q => match q.fetched with
    | c :: _ => if !s.kci.paused && !s.kci.cpFault && fenceOk s f r c && !memWaits s c then some c else none
    | [] => none
  | none => none

/-- Takes the head command out of the ring. -/
def popRing (s : State) (f : Fin 13) (r : Fin 32) : State :=
  s.modRing f r (fun q => { q with fetched := q.fetched.drop 1 })

/-- Completes the commands at the head of a ring whose opcode is no command code (R451, R452). -/
def pumpFuel (f : Fin 13) (r : Fin 32) : Nat → State → State
  | 0, s => s
  | n + 1, s => match ringHead s f r with
    | some c =>
      if knownOpcode c.opcode then s else pumpFuel f r n (post (popRing s f r) c true kUNSUPPORTED 0 [])
    | none => s

/-- See `pumpFuel`. -/
def pump (s : State) (f : Fin 13) (r : Fin 32) : State :=
  match vget (s.fn f).rings r with
  | some q => pumpFuel f r q.fetched.length s
  | none => s

/-- The final completion of a started command. -/
def finish (s : State) (c : Cmd) (status detail : Nat) (result : List Byte) : State :=
  let s := s.modKci (fun k => { k with
    live := k.live.filter (fun d => !(decide (d.fn = c.fn ∧ d.ring = c.ring ∧ d.handle = c.handle))) })
  let s := post s c true status detail result
  match c.ring with
  | some r => pump s c.fn r
  | none => s

/-- A started command that has no FINAL yet. -/
def goLive (s : State) (c : Cmd) : State := s.modKci (fun k => { k with live := k.live ++ [c] })

/-- Replaces a started command. -/
def setLive (s : State) (c : Cmd) : State :=
  s.modKci (fun k => { k with
    live := k.live.map (fun d =>
    if d.fn = c.fn ∧ d.ring = c.ring ∧ d.handle = c.handle then c else d) })

/-- Started commands with an opcode on a partition. -/
def liveOf (s : State) (opcode : Nat) (p : Fin 12) : List Cmd :=
  s.kci.live.filter (fun c => decide (c.opcode = opcode ∧ c.scope s = some p))

/-- R453: postings go out as room returns, an owed EVENT_LOST event once the store has room, then rings are fetched. -/
def drainHeld (s : State) (f : Fin 13) : State :=
  let h := (s.fn f).held
  let s := s.modFn f (fun x => { x with held := [] })
  let (s, rest) := h.foldl (fun (a : State × List Post) p =>
    match vget (a.1.fn f).rings p.ring with
    | none => a
    | some q => if q.full then (a.1, a.2 ++ [p]) else (putCompletion a.1 f p.ring p.bytes, a.2)) (s, [])
  let s := s.modFn f (fun x => { x with held := rest })
  let s := if decide (rest.length < 1024) && (s.fn f).lostOwed then
      postEvent (s.modFn f (fun x => { x with lostOwed := false })) f 8 [] else s
  (List.finRange 32).foldl (fun s r => pump (fetchRing s f r) f r) s

/-! ### The rows of rings and functions -/

/-- A ring pair just made: R447, R450. -/
def Ring.make (sqLog2 cqLog2 vector : Nat) (sq cq : Nat) : Ring :=
  { sqLog2 := sqLog2, cqLog2 := cqLog2, vector := vector, sqAddr := BitVec.ofNat 64 sq,
    cqAddr := BitVec.ofNat 64 cq, tail := 0, head := 0, cqTail := 0, cqHead := 0, phase := true, seq := 0,
    fetched := [] }

/-- R447: firmware that runs reads ASQ, ACQ and A_CFG of an enabled function and makes its ring 0. -/
def Func.ring0 (x : Func) : Func :=
  if x.enable ∧ x.ready ∧ (vget x.rings 0).isNone then
    { x with rings := vset x.rings 0 (some (Ring.make x.sqLog2.toNat x.cqLog2.toNat x.vector.toNat x.asq.toNat x.acq.toNat)) }
  else x

/-- KCI_CTRL_ENABLE (R447): ENABLE changes from 0 to 1; lost while the control domain is in reset. -/
def execKciCtrlEnable (f : Fin 13) (s : State) : Out :=
  .next (if s.rst.ctlUp then s.modFn f (fun x => { x with enable := true }.ring0) else s)

/-- A doorbell whose index is not below its ring's size is dropped with a record (R446). -/
def doorbellDrop (s : State) : State := controlRecord s (some 1)

/-- SQ_TAIL (R446, R452): the host has placed `entries` in its ring, 64 bytes each, from the old tail on. -/
def execSqTail (f : Fin 13) (r : Fin 32) (tail : BitVec 12) (entries : List (List Byte)) (s : State) : Out :=
  .next (match vget (s.fn f).rings r with
    | none => doorbellDrop s
    | some q =>
      if 2 ^ q.sqLog2 ≤ tail.toNat then doorbellDrop s
      else
        let s := entries.zipIdx.foldl (fun s (e, i) =>
          s.hostWrite (q.sqAddr.toNat + 64 * ((q.tail + i) % 2 ^ q.sqLog2)) (padTo e 64)) s
        let s := s.modRing f r (fun q => { q with tail := tail.toNat })
        pump (fetchRing s f r) f r)

/-- CQ_HEAD (R446, R453). -/
def execCqHead (f : Fin 13) (r : Fin 32) (head : BitVec 12) (s : State) : Out :=
  .next (match vget (s.fn f).rings r with
    | none => doorbellDrop s
    | some q =>
      if 2 ^ q.cqLog2 ≤ head.toNat then doorbellDrop s
      else drainHeld (s.modRing f r (fun q => { q with cqHead := head.toNat })) f)

/-! ### Header checks (R442, R448, R452, R457, R471) -/

/-- R452, first check: status and detail of what is wrong. -/
def headerFault (s : State) (c : Cmd) : Option (Nat × Nat) :=
  let o := c.opcode
  let needsEpoch := (deedNeeded o).isSome || o == 0x69
  let bad : Option Nat :=
    if c.b 1 1 &&& 0xF8 ≠ 0 then some 1
    else if !c.txn ∧ c.txnId ≠ 0 then some 2
    else if !needsEpoch ∧ c.epoch ≠ 0 then some 4
    else if 11 < c.part ∧ c.part ≠ 15 then some 8
    else if c.fn.val = 0 ∧ partScoped c ∧ c.part = 15 ∧ o ≠ 0x78 then some 8
    else match (upFrom 9 7).find? (fun i => decide (c.b i 1 ≠ 0)) with
      | some i => some i
      | none => bodyReserved c
  match bad with
  | some d => some (kBADARG, d)
  | none =>
    if c.fn.val ≠ 0 then match boundPart s c.fn with
      | none => if o = 0x09 ∨ (o = 0x08 ∧ c.b 16 1 = 0) then none else some (kDENIED, 0)
      | some p => if pf0Only o ∨ c.part ≠ p.val then some (kDENIED, 0) else none
    else none

/-- R457, R467: TXN on a command that may carry it, for the function's open transaction. -/
def txnFault (s : State) (c : Cmd) : Option (Nat × Nat) :=
  if !c.txn then none
  else if !txnAllowed c then some (kBADARG, 1)
  else match s.kci.txns.find? (fun t => decide (t.fn = c.fn)) with
    | some t => if t.id = c.txnId ∧ t.phase = 0 then none else some (kBADARG, 2)
    | none => some (kBADARG, 2)

/-- R471: a deed that is not CONTROL's, or another epoch. -/
def deedFault (s : State) (c : Cmd) : Option Nat :=
  match deedNeeded c.opcode with
  | none => none
  | some d =>
    let x := vget s.kci.deeds d
    if x.holder ≠ 1 then some kNODEED else if x.epoch.toNat ≠ c.epoch then some kSTALE else none

/-- What a command would change, as a kind and an index (R467): 0 plat entry, 1 parcel, 2 step policy,
3 update context, 4 power limits, 5 P-step policy, 6 latency tolerance, 7 in-tract route entry, 8 tract
route entry, 9 fabric fields of a SEL. -/
def cmdItems (s : State) (c : Cmd) : List (Nat × Nat) :=
  let p := match c.scope s with | some p => p.val | none => 15
  let parcels := (List.finRange 12).filterMap (fun i =>
    if bit (c.b 16 2) i.val ∨ ((vget s.ms.pmapS i).valid ∧ (vget s.ms.pmapS i).part.toNat = p) then some (1, i.val)
    else none)
  match c.opcode with
  | 0x10 => parcels
  | 0x11 => parcels ++ [(2, p), (3, p)] ++ (List.finRange 1024).filterMap (fun i =>
      if (vget s.ms.platS i).valid ∧ (vget s.ms.platS i).part.toNat = p then some (0, i.val) else none)
  | 0x12 => parcels
  | 0x13 => [(0, c.b 32 2)]
  | 0x14 => [(0, c.b 32 2)]
  | 0x28 => [(2, p)]
  | 0x2A => [(2, p)]
  | 0x30 => [(3, p)]
  | 0x40 => [(4, 0)]
  | 0x41 => [(5, 0)]
  | 0x42 => [(6, c.fn.val)]
  | 0x48 => [(9, c.b 16 1)]
  | 0x49 => (upFrom (c.b 17 2) (min (c.b 19 2) 512)).map (fun i => (if c.b 16 1 = 0 then 7 else 8, i))
  | _ => []

/-- R467: an item of the command is locked by another transaction. -/
def lockedOut (s : State) (c : Cmd) : Bool :=
  let mine := cmdItems s c
  s.kci.txns.any (fun t => !(c.txn && decide (t.fn = c.fn ∧ t.id = c.txnId)) &&
    t.staged.any (fun d => (cmdItems s d).any (fun i => mine.contains i)))

/-- R455, R604: commands that need the data plane. -/
def needsDp (c : Cmd) : Bool :=
  [0x13, 0x18, 0x19, 0x1A, 0x20, 0x21, 0x22, 0x23, 0x28, 0x31, 0x32, 0x33].contains c.opcode ||
    (c.opcode == 0x5A && decide (c.b 16 1 ≤ 0xA))

/-- R602: a command on a partition that is under reset completes BUSY. -/
def partBusy (s : State) (c : Cmd) : Bool :=
  match c.scope s with
  | some p => partScoped c && (s.part p).underReset
  | none => false

end Sys2Proof.Machine
end

