-- ==== Sys2Proof/Machine/Deeds.lean ====
section
/-! DEFINITION.  The deeds (R470 to R472, R538 to R541), who is primary, and what a deed puts in force: limits
(R26, R491) and step policies (R501). -/

namespace Sys2Proof.Machine

open Sys2Proof

/-- The chain count (R524): the timestamp shifted right by 6. -/
def State.chain (s : State) : DWord := s.ts >>> 6

/-- Stack controller `n`. -/
def State.stk (s : State) (n : Fin 6) : Stack := vget s.ms.stk n
/-- Changes stack controller `n`. -/
def State.modStk (s : State) (n : Fin 6) (f : Stack → Stack) : State :=
  { s with ms := { s.ms with stk := vmod s.ms.stk n f } }

/-- Who holds a deed (R470): 0 NONE, 1 CONTROL, 2 MGMT_E, 3 MGMT_W. -/
def holderOf (s : State) (r : Fin 5) : Nat := (vget s.kci.deeds r).holder.toNat

/-- Changes the power controller. -/
def State.modPw (s : State) (f : Power → Power) : State := { s with pw := f s.pw }

/-! ### The primary agent (R539, R540) -/

/-- Agent `i`: 0 MA_E, 1 MA_W. -/
def State.agent (s : State) (i : Fin 2) : Agent := vget s.mg.agents i
/-- Changes the management plane. -/
def State.modMg (s : State) (f : Mgmt → Mgmt) : State := { s with mg := f s.mg }
/-- Changes an agent. -/
def State.modAgent (s : State) (i : Fin 2) (f : Agent → Agent) : State :=
  s.modMg (fun m => { m with agents := vmod m.agents i f })

/-- Holder code of an agent at the deed register file (R470). -/
def agentCode (i : Fin 2) : BitVec 2 := BitVec.ofNat 2 (2 + i.val)

/-- The deed register file names the agent under the epoch it was granted (R540). -/
def isPrimary (s : State) (i : Fin 2) : Bool :=
  let d := vget s.kci.deeds 4
  decide (d.holder = agentCode i ∧ d.epoch = (s.agent i).epoch ∧ (s.agent i).role = 2)

/-- The primary agent, where there is one. -/
def primary? (s : State) : Option (Fin 2) := (List.finRange 2).find? (fun i => isPrimary s i)

/-- The agent behind a writer. -/
def writerAgent : Writer → Option (Fin 2)
  | .control => none
  | .agentE => some 0
  | .agentW => some 1

/-- The writer is the primary agent. -/
def primaryWrites (s : State) (w : Writer) : Bool :=
  match writerAgent w with
  | some i => isPrimary s i
  | none => false

/-! ### What deeds put in force -/

/-- The host's KCI values count (R26): no longer from the time a management agent takes POWER_LIMITS until CONTROL holds it
again.  While no plane holds the deed and no agent has taken it, as after reset and after a release by CONTROL, they count
(DESIGN CHOICE, log 95: R26 names only the holders). -/
def hostCounts (s : State) : Bool := !s.pw.hostOff

/-- PL_SUST in force: the lower of the host's value and the ceiling while the host's counts, else the ceiling (R26). -/
def plSust (s : State) : Nat :=
  if hostCounts s then min s.pw.hostPl.toNat s.pw.limA.plSust.toNat else s.pw.limA.plSust.toNat

/-- R491: a limit lowered below its EWMA trips at once. -/
def Trip.lowered (t : Trip) (now : DWord) (limit : Nat) (ewma : Rat) : Trip :=
  if decide ((limit : Rat) < ewma) && !t.tripped then { t with tripped := true, mark := now } else t

/-- Limits that take effect at a chain count (R491). -/
def limitsTook (s : State) : State :=
  let p := plSust s
  s.modPw (fun w => { w with
    short := w.short.lowered s.ts w.limA.plShort.toNat w.ewmaShort
    sust := w.sust.lowered s.ts p w.ewmaSust
    tdc := w.tdc.lowered s.ts w.limA.tdc.toNat w.tdcI })

/-- The P-step and memory-step policy in force (R501): CEIL, FLOOR, MSTEP. -/
def policyInForce (s : State) : Nat × Nat × Nat :=
  let h := holderOf s 1
  if h = 1 then (s.pw.ceil.toNat, s.pw.floor.toNat, s.pw.mstepPol.toNat)
  else if h = 0 then (0, 8, 2)
  else match s.pw.mgmtPol with
    | some (c, f, m) => (c.toNat, f.toNat, m.toNat)
    | none => (0, 8, 2)

/-- The memory step of the device: all six stacks run at the same one (R221). -/
def memStep (s : State) : Bool := (s.stk 0).mstep

/-- A memory-step change is asked for the next chain count (R221); one asked for before that would lead away from the step
asked for now is dropped. -/
def askMstep (s : State) (m : Bool) : State :=
  if (s.ms.mstepTo.getD (memStep s)) = m then s.modPw (fun w => { w with mstepDue := none })
  else if s.ms.mstepTo.isSome ∨ (s.pw.mstepDue.any (fun d => d.1 == m)) then s
  else { s with pw := { s.pw with mstepDue := some (m, s.chain + 1), lastMstep := s.ts } }

/-- The fixed memory step of the policy in force, where it has one; a change in progress goes on, and the policy is looked at
again at its end (R221, R502). -/
def applyMstepPolicy (s : State) : State :=
  let m := (policyInForce s).2.2
  if m = 0 then askMstep s false else if m = 1 then askMstep s true else s

/-! ### Grants and releases (R470, R472) -/

/-- Holder code of a plane (R470). -/
def writerCode : Writer → BitVec 2
  | .control => 1
  | .agentE => 2
  | .agentW => 3

/-- Request port of a plane. -/
def writerPort : Writer → Fin 3
  | .control => 0
  | .agentE => 1
  | .agentW => 2

/-- ms since an agent's last heartbeat, saturating (DEED_HB, R472). -/
def hbAge (s : State) (i : Fin 2) : Nat :=
  match (s.agent i).lastHb with
  | some t => min 0xFFFF (s.since t / msTicks)
  | none => 0xFFFF

/-- The agent behind a holder code. -/
def codeAgent (h : BitVec 2) : Option (Fin 2) := if h = 2 then some 0 else if h = 3 then some 1 else none

/-- The holder is an agent whose heartbeat is more than 50 ms old (R538, R541). -/
def holderLate (s : State) (h : BitVec 2) : Bool :=
  match codeAgent h with
  | some i => (match (s.agent i).lastHb with | some t => decide (50 * msTicks < s.since t) | none => true)
  | none => false

/-- R470: a deed changes hands; every grant and every release takes a new epoch. -/
def moveDeed (s : State) (r : Fin 5) (dest plane : BitVec 2) : State :=
  let d := vget s.kci.deeds r
  let e := d.epoch + 1
  let s := s.modKci (fun k => { k with deeds := vset k.deeds r { d with
    holder := dest, lastBy := plane, epoch := e, chain := if dest = 0 then d.chain else s.chain } })
  let s := if r = 0 ∧ dest ≠ 0 then s.modPw (fun w => { w with hostOff := decide (dest ≠ 1) }) else s
  record s 0x0701 15 0x7F (leBytes 1 r.val ++ leBytes 1 d.holder.toNat ++ leBytes 1 dest.toNat ++ leBytes 4 e.toNat)

/-- R546: the primary agent reads the board description. -/
def readBoard (s : State) : State :=
  s.modMg (fun m => match Config.boardParse m.eeprom with
    | some (ver, cap, vnom, vmin, ratio, eff) => { m with
        descValid := true, descVersion := ver, descDigest := Config.sha384 m.eeprom, huCap := cap, huVnom := vnom
        huVmin := vmin, huRatio := ratio, huEff := eff }
    | none => { m with descValid := false, boardDesc := true })

/-- R538 to R540: agent `i` has been granted MGMT_PRIMARY. -/
def becomePrimary (s : State) (i : Fin 2) (old : BitVec 2) : State :=
  let e := (vget s.kci.deeds 4).epoch
  let s := (List.finRange 2).foldl (fun s j => s.modAgent j (fun a =>
    if j = i then { a with role := 2, epoch := e } else if a.role = 2 then { a with role := 1 } else a)) s
  readBoard (s.modMg (fun m => { m with
    pmbWest := decide (i.val = 1), failover := m.failover || decide (old ≠ 0) }))

/-- R541: the policy of a management agent that takes CLOCK_STEPS. -/
def takeSteps (s : State) (ceil : Nat) : State :=
  applyMstepPolicy (s.modPw (fun w => { w with
    mgmtPol := some (BitVec.ofNat 4 (s.mg.eff103.getD ceil), 8, 2) }))

/-- A claim succeeds (R470, R538, R541).  A plane that already holds the deed keeps its epoch. -/
def claimOk (s : State) (w : Writer) (r : Fin 5) : Bool :=
  let h := (vget s.kci.deeds r).holder
  match writerAgent w with
  | none => decide (r ≠ 4) && decide (h = 0 ∨ h = 1)
  | some i =>
    if r = 4 then (s.agent i).role != 3 && (decide (h = 0) || holderLate s h)
    else if r = 2 ∨ !isPrimary s i then false
    else if h = agentCode i ∨ h = 0 then true
    else if r = 0 then decide (h = 1)
    else if r = 1 then decide (h = 1) && s.mg.thermalClaim
    else decide (h ≠ 1) && holderLate s h

/-- DEED_REQ claim of a plane. -/
def deedClaim (s : State) (w : Writer) (r : Fin 5) : State × Bool :=
  if !claimOk s w r then (s, false)
  else
    let h := (vget s.kci.deeds r).holder
    if h = (writerCode w) ∧ r ≠ 4 then (s, true)
    else
      let ceil := (policyInForce s).1
      let s := moveDeed s r (writerCode w) (writerCode w)
      let s := match writerAgent w with
        | some i => if r = 4 then becomePrimary s i h else if r = 1 then takeSteps s ceil else s
        | none => if r = 1 then applyMstepPolicy s else s
      (if r = 0 then limitsTook s else s, true)

/-- R540: an agent that has met another holder or a stale outcome is standby. -/
def standDown (s : State) (i : Fin 2) : State :=
  s.modAgent i (fun a => if a.role = 2 then { a with role := 1 } else a)

/-- A release under the matching epoch: outcome 1 done, 2 refused, 3 stale (R472). -/
def deedRelease (s : State) (w : Writer) (r : Fin 5) (epoch : Word) : State × Nat :=
  let d := vget s.kci.deeds r
  let down := fun (s : State) => match writerAgent w with | some i => standDown s i | none => s
  if d.epoch ≠ epoch then (if r = 4 then down s else s, 3)
  else if d.holder ≠ (writerCode w) then (s, 2)
  else
    let s := moveDeed s r 0 (writerCode w)
    let s := if r = 4 then down s else s
    let s := if r = 1 then applyMstepPolicy (s.modPw (fun x => { x with mgmtPol := none })) else s
    (if r = 0 then limitsTook s else s, 1)

/-- The plane of an agent. -/
def agentWriter (i : Fin 2) : Writer := if i.val = 0 then .agentE else .agentW

/-- The primary releases a deed that it holds. -/
def agentDrops (s : State) (i : Fin 2) (r : Fin 5) : State :=
  (deedRelease s (agentWriter i) r (vget s.kci.deeds r).epoch).1

/-- Thermal safety is at stake (R541). -/
def thermalStake (s : State) : Bool := s.th.warn || s.ms.stk.toList.any (fun k => k.critical)

/-- R541: the primary claims POWER_LIMITS and CLOCK_STEPS for thermal safety, and notes since when the
condition is clear. -/
def thermalWatch (s : State) : State :=
  match primary? s with
  | none => s
  | some i =>
    if thermalStake s then
      let s := s.modMg (fun m => { m with thermalClaim := true, clearSince := none })
      let s := (deedClaim s (agentWriter i) 0).1
      (deedClaim s (agentWriter i) 1).1
    else if s.mg.thermalClaim then s.modMg (fun m => { m with clearSince := some (m.clearSince.getD s.ts) })
    else s

/-- R541: POWER_LIMITS goes back to NONE, and CLOCK_STEPS with it. -/
def dropLimits (s : State) (i : Fin 2) : State :=
  let s := s.modMg (fun m => { m with thermalClaim := false, clearSince := none, eff101 := none, eff103 := none })
  agentDrops (agentDrops s i 0) i 1

end Sys2Proof.Machine
end

