-- ==== Sys2Proof/Machine/MemSys.lean ====
section
/-! DEFINITION.  The stacks (08): requests with their checks and ECC (R224 to R226, R245), patrol scrub, row
repair, sparing (R227 to R233), temperature (R239 to R241), memory steps (R221, R502); the plat and the
partition map as they come into force (R246, R247). -/

namespace Sys2Proof.Machine

open Sys2Proof

/-- STK_STATUS (R251). -/
def Stack.status (k : Stack) : Nat :=
  k.temp.toNat + k.throttle.toNat * 2 ^ 8 + b2n k.mstep * 2 ^ 10 + b2n k.spared * 2 ^ 11 +
    k.sparePc.toNat * 2 ^ 12 + b2n k.sparing * 2 ^ 17 + b2n k.degraded * 2 ^ 18 + b2n k.tempStale * 2 ^ 19 +
    b2n k.critical * 2 ^ 20

/-! ### Where a chunk lies (R223, R231) -/

/-- Exclusive or of the five-bit groups of a chunk index. -/
def chunkPc (g : Nat) : Nat :=
  field g 0 5 ^^^ field g 5 5 ^^^ field g 10 5 ^^^ field g 15 5 ^^^ field g 20 5 ^^^ field g 25 1

/-- Chunks of a pseudo-channel below the spare region (R231). -/
def spareFrom : Nat := 1523712

/-- The pseudo-channel that serves a stack offset, and the chunk within it (R223): a chunk of the spared pseudo-channel below
the spare region, once it is copied (R232), at its place in the spare region of another (R231). -/
def serving (k : Stack) (o : Nat) : Nat × Nat :=
  let g := o / 512
  let pc := chunkPc g
  let h := g / 32
  let f := k.sparePc.toNat
  if pc = f ∧ h < spareFrom ∧ (k.spared ∨ (k.sparing ∧ h < k.wmark.toNat)) then
    (if h % 31 < f then h % 31 else h % 31 + 1, spareFrom + h / 31)
  else (pc, h)

/-- The pseudo-channel that serves a stack offset. -/
def servingPc (k : Stack) (o : Nat) : Nat := (serving k o).1

/-! ### Errors, repair and sparing (R225, R228 to R233) -/

/-- Ticks of 24 hours. -/
def dayTicks : Nat := 24 * 3600 * 1600000000

/-- A second pseudo-channel fails (R233). -/
def degrade (s : State) (n : Fin 6) : State :=
  if (s.stk n).degraded then s
  else
    let s := s.modStk n (fun k => { k with degraded := true })
    record s 0x0305 15 0x7F (leBytes 1 n.val ++ leBytes 4 (s.stk n).status)

/-- R230: a pseudo-channel is to be spared. -/
def spare (s : State) (n : Fin 6) (pc : Nat) : State :=
  let k := s.stk n
  if k.spared ∨ k.sparing then (if k.sparePc.toNat = pc then s else degrade s n)
  else
    let s := s.modStk n (fun k => { k with sparing := true, sparePc := BitVec.ofNat 5 pc, wmark := 0 })
    record s 0x0304 15 0x7F (leBytes 1 n.val ++ leBytes 1 pc ++ [0])

/-- The conditions of R230 that count rows. -/
def spareCheck (s : State) (n : Fin 6) (pc : Nat) : State :=
  let k := s.stk n
  let unrep := (k.unrepRows.filter (fun r => r.pc = pc)).length
  let ue := ((k.rowUe.filter (fun r => r.1.pc = pc ∧ s.since r.2 ≤ dayTicks)).map (fun r => r.1.row)).dedup.length
  if 3 ≤ unrep ∨ 8 ≤ ue then spare s n pc else s

/-- R228: a row is to be repaired; one row at a time. -/
def wantRepair (s : State) (n : Fin 6) (r : RowId) : State :=
  s.modStk n (fun k =>
    if k.repairing = some r ∨ k.repairWait.contains r ∨ k.unrepRows.contains r then k
    else match k.repairing with
      | none => { k with repairing := some r }
      | some _ => { k with repairWait := k.repairWait ++ [r] })

/-- A corrected error of a row (R225, R228). -/
def rowCorrected (s : State) (n : Fin 6) (r : RowId) : State :=
  let s := s.modStk n (fun k => { k with
    eccCe := satAdd k.eccCe 1
    rowCe := (k.rowCe.filter (fun x => decide (s.since x.2 ≤ dayTicks))) ++ [(r, s.ts)] })
  let k := s.stk n
  if k.ceThresh.toNat ≤ (k.rowCe.filter (fun x => x.1 = r)).length then wantRepair s n r else s

/-- R225: what one read sector of stack `n` at local address `a` in row `row` meets. -/
def eccHit (s : State) (n : Fin 6) (a row : Nat) (e : EccErr) : State :=
  let pc := servingPc (s.stk n) (a % stackSpan)
  let r : RowId := ⟨pc, row⟩
  match e with
  | .single => rowCorrected s n r
  | .onDie => s.modStk n (fun k => { k with eccOde := satAdd k.eccOde 1 })
  | .retryClean => s
  | .retryCorrected => rowCorrected s n r
  | .hard =>
    let s := (s.modStk n (fun k => { k with
      eccUe := satAdd k.eccUe 1, rowUe := k.rowUe ++ [(r, s.ts)] })).mark (a / 32 * 32) 32
    let s := record s 0x0302 15 0x7F (leBytes 8 (a / 32 * 32))
    spareCheck (wantRepair s n r) n pc
  | .interfaceFail => spare s n pc

/-- The stack that holds a local address. -/
def stackOf? (a : Nat) : Option (Fin 6) := if h : a / stackSpan < 6 then some ⟨a / stackSpan, h⟩ else none

/-! ### Requests (R244, R245) -/

/-- The permission a source needs, the partition it acts for, and its requester (R244, R245). -/
def sourceRight (s : State) (wr : Bool) : Source → Option (Perm × Nat × Requester)
  | .engine c => some (if wr then .wr else .rd, ownerNum s c, ⟨0, c.val⟩)
  | .firmware p => some (if wr then .wr else .rd, p.val, ⟨1, p.val⟩)
  | .control f => some (if wr then .hostWr else .hostRd, fnActs s f, ⟨2, f.val⟩)
  | .fabric d p => some (if wr then .fabWr else .fabRd, p.val, ⟨3, d.toNat⟩)
  | .debug => some (if wr then .hostWr else .hostRd, 14, ⟨4, 0⟩)
  | .maintenance => none

/-- R245: the first address at which a source's request fails. -/
def sourceFail (s : State) (src : Source) (wr : Bool) (a n : Nat) : Option Nat :=
  match sourceRight s wr src with
  | none => if (stackOf? a).isSome then none else some a
  | some (p, part, _) => if (stackOf? a).isSome then requestFail s p part a n else some a

/-- The record of a failing request, and the retention entry that counts it (R245, R377). -/
def sourceViolation (s : State) (src : Source) (wr : Bool) (a : Nat) : State :=
  match sourceRight s wr src with
  | none => s
  | some (_, part, rq) =>
    let core := match src with | .engine c => c.val | _ => 0x7F
    refusedAt s rq part core a

/-- A read of a core's data or accumulator SRAM that R73 and R75 let the source make: the core. -/
def sramReader (s : State) (src : Source) (a n : Nat) : Option (Fin 96) :=
  match winSplit a with
  | none => none
  | some (c, o) =>
    let part := match src with | .engine d => ownerNum s d | .control f => fnActs s f | _ => 16
    if (o + n ≤ 0x400000 ∨ (0x400000 ≤ o ∧ o + n ≤ 0x400000 + accTop)) ∧ (winFault s part c).isNone then some c else none

/-- A read of SRAM that meets uncorrectable words (log 64). -/
def sramRead (s : State) (c : Fin 96) (a n : Nat) (errs : List (BitVec 48 × Nat × EccErr)) : State :=
  (errs.foldl (fun s e =>
    if a / 32 * 32 ≤ e.1.toNat ∧ e.1.toNat < a + n ∧ e.2.2 = .hard then sramHit s c ((e.1.toNat - winBase) % winSpan)
    else s) s).returns (s.bytes a n)

/-- R228: the request touches the pseudo-channel of the row under repair.  Whether it goes to the row's bank is internal to
the controller (R223), and a free value tells (log 96). -/
def bankBusy (s : State) (r : StackReq) : Bool × State :=
  match stackOf? r.a.toNat with
  | none => (false, s)
  | some n => match (s.stk n).repairing with
    | none => (false, s)
    | some row =>
      let o := r.a.toNat % stackSpan
      if (upFrom (o / 512) ((o + r.len - 1) / 512 - o / 512 + 1)).any (fun g => decide (servingPc (s.stk n) (g * 512) = row.pc)) then
        let (v, s) := s.fresh
        (decide (v % 2 = 1), s)
      else (false, s)

/-- R221, R228, R238: a request waits while the stacks change their step, while its bank is under repair, and behind a
waiting request to one of its sectors. -/
def mustWait (s : State) (r : StackReq) : Bool × State :=
  if (stackOf? r.a.toNat).isNone then (false, s)
  else if s.ms.mstepTo.isSome || behindRequest s r.a.toNat r.len then (true, s)
  else bankBusy s r

/-- R248: the key under which a sector's bytes are stored, none where no valid encrypted entry covers it. -/
def cipherAt (s : State) (a : Nat) : Option (List Byte) :=
  (s.ms.platA.toList.find? (fun e => e.valid && e.enc && e.covers a 32)).map (fun e => (vget s.sec.slots (slotFin e)).key)
where
  /-- The key slot of an entry. -/
  slotFin (e : PlatEnt) : Fin 32 := e.keySlot.toFin

/-- R248: what a 32-byte sector reads as once its key is `new` in place of `old`: the stored bytes stay, the tweak is the
address shifted right by 5. -/
def recode (old new : Option (List Byte)) (s : State) (a : Nat) : State :=
  if old = new then s
  else
    let x := BitVec.ofNat 256 (s.mem.nat a 32)
    let raw := match old with | some k => Config.xts k (a / 32) x | none => x
    let y := match new with | some k => (Config.xts k (a / 32)).symm raw | none => raw
    { s with mem := s.mem.write a (leBytes 32 y.toNat) }

/-- The sectors of a request. -/
def StackReq.sectors (r : StackReq) : List Nat :=
  if r.len = 0 then [] else (upFrom (r.a.toNat / 32) ((r.a.toNat + r.len - 1) / 32 - r.a.toNat / 32 + 1)).map (32 * ·)

/-- R246, R248: `f` acts under the keys that the request's sectors had when it entered; one that has not waited has those in
force. -/
def underKeys (r : StackReq) (f : State → State) (s : State) : State :=
  let l := r.sectors.zip r.keys
  let t := f (l.foldl (fun s x => recode (cipherAt s x.1) x.2 s x.1) s)
  l.foldl (fun t x => recode x.2 (cipherAt t x.1) t x.1) t

/-- What a read returns to its source; to the control path with the status of its bus (R219, R258). -/
def StackReq.gives (r : StackReq) (s : State) (bs : List Byte) (status : Nat) : State :=
  match r.src with
  | .control _ => { s.returns bs with busStatus := status }
  | _ => s.returns bs

/-- R245: a request that fails performs nothing and returns no data, to firmware zero (R219). -/
def refuseRequest (s : State) (r : StackReq) (b : Nat) : State :=
  let s := sourceViolation s r.src r.write.isSome b
  if r.write.isSome then s else r.gives s (match r.src with | .firmware _ => List.replicate r.len 0 | _ => []) 1

/-- R225, R226: a request that has passed its check is served. -/
def serveRequest (s : State) (r : StackReq) : State :=
  match r.write with
  | some bs => underKeys r (fun s => s.write r.a.toNat bs false) s
  | none =>
    let s := r.errs.foldl (fun s e =>
      if r.a.toNat / 32 * 32 ≤ e.1.toNat ∧ e.1.toNat < r.a.toNat + r.len then
        match stackOf? e.1.toNat with
        | some k => eccHit s k e.1.toNat e.2.1 e.2.2
        | none => s
      else s) s
    underKeys r (fun s => r.gives s (s.bytes r.a.toNat r.len) (if s.poisoned r.a.toNat r.len then 2 else 0)) s

/-- A request that has passed its check is served, or waits (R221, R228, R238) under the keys in force (R246). -/
def admitRequest (s : State) (r : StackReq) : State :=
  let (w, s) := mustWait s r
  if w then
    let r := if r.keys = [] then { r with keys := r.sectors.map (cipherAt s) } else r
    { s with ms := { s.ms with waiting := s.ms.waiting ++ [r] } }
  else serveRequest s r

/-- A request enters its stack's front end, where the active plat checks it (R244 to R246). -/
def stackRequest (s : State) (r : StackReq) : State :=
  match sourceFail s r.src r.write.isSome r.a.toNat r.len with
  | some b => refuseRequest s r b
  | none => admitRequest s r

/-- A range is overwritten with zeros and its poison cleared. -/
def zeroRange (s : State) (a n : Nat) : State :=
  { s with mem := s.mem.clear a n, poison := s.poison.clearAny a n }

/-- R246: a PLAT_UNMAP whose entry is out of force: it completes, its range overwritten where SCRUB says so, once no request
admitted under that entry waits.  AUX holds the range's first address plus 1, DUE its bytes. -/
def endUnmap (s : State) (d : Cmd) : State :=
  if d.opcode ≠ 0x14 ∨ d.aux = 0 ∨ behindRequest s (d.aux - 1) d.due.toNat = true then s
  else finish (if bit (d.b 34 1) 0 then zeroRange s (d.aux - 1) d.due.toNat else s) d kOK 0 []

/-- Every such PLAT_UNMAP. -/
def endUnmaps (s : State) : State := s.kci.live.foldl endUnmap s

/-- R311: the messages held for their sequences land as far as they may. -/
def landHeld (s : State) : State :=
  (s.fab.held.map (fun h => seqKey h.1)).eraseDups.foldl (fun s k => releaseHeld k (heldFuel s) s) s

/-- The waiting requests are served in order, as far as they may be; what waited behind them goes on. -/
def serveWaiting (s : State) : State :=
  landHeld (endUnmaps (s.ms.waiting.foldl admitRequest { s with ms := { s.ms with waiting := [] } }))

/-- R256: of the errors given, those that lie in a core's SRAM outside the bytes read wait for their reader. -/
def noteSramErrs (s : State) (a n : Nat) (errs : List (BitVec 48 × Nat × EccErr)) : State :=
  { s with ms := { s.ms with sramBad := s.ms.sramBad ++ (errs.filter (fun e =>
      decide (e.2.2 = .hard) && ((winSplit e.1.toNat).any (fun p => decide (p.2 < 0x400000 + accTop))) &&
        !(decide (a / 32 * 32 ≤ e.1.toNat ∧ e.1.toNat < a + n)))).map (fun e => e.1.toNat / 32) } }

/-- STACK_REQUEST (R225, R226, R238, R245): one request of a source; a write carries its bytes, a read its length; `errs`
gives the errors that the sectors read meet, by address and row.  A read of SRAM by the same row meets the errors of R256;
an error at an SRAM word that it does not read waits there for the engine or the control path that reads it (log 64). -/
def execStackRequest (src : Source) (a : BitVec 48) (write : Option (List Byte)) (n : Nat)
    (errs : List (BitVec 48 × Nat × EccErr)) (s : State) : Out :=
  let s := noteSramErrs s a.toNat n errs
  .next (match (if write.isSome then none else sramReader s src a.toNat n) with
    | some c => sramRead s c a.toNat n errs
    | none => stackRequest s { src := src, a := a, write := write, n := n, errs := errs })

/-- PATROL_SCRUB (R227): errors that the scrub meets in a stack, by address and row; `pass`: the scrub has
read every sector once more. -/
def execPatrolScrub (n : Fin 6) (errs : List (BitVec 48 × Nat × EccErr)) (pass : Bool) (s : State) : Out :=
  .next (
    if !(s.stk n).scrubEn ∨ 3 ≤ s.pw.wstate.toNat then s
    else
      let s := errs.foldl (fun s e =>
        if stackOf? e.1.toNat = some n then eccHit s n e.1.toNat e.2.1 e.2.2 else s) s
      if pass then s.modStk n (fun k => { k with passes := satAdd k.passes 1 }) else s)

/-- ROW_REPAIR_COMPLETE (R228, R229): `done` false: the bank has no repair resource left. -/
def execRowRepairComplete (n : Fin 6) (done : Bool) (s : State) : Out :=
  .next (match (s.stk n).repairing with
    | none => s
    | some r =>
      let s := s.modStk n (fun k => { k with
        repairing := k.repairWait.head?, repairWait := k.repairWait.drop 1
        rowCe := k.rowCe.filter (fun x => !(decide (x.1 = r))) })
      let s := if done then
          let s := s.modStk n (fun k => { k with rprSoft := satAdd k.rprSoft 1 })
          { s with ms := { s.ms with softRepairs := s.ms.softRepairs ++ [(n.val, r)] } }
        else s.modStk n (fun k => { k with rprUnrep := satAdd k.rprUnrep 1, unrepRows := k.unrepRows ++ [r] })
      let s := record s 0x0303 15 0x7F (leBytes 1 n.val ++ leBytes 1 r.pc ++ leBytes 4 r.row ++
        leBytes 1 (if done then 0 else 1))
      serveWaiting (if done then s else spareCheck s n r.pc))

/-- R229: before the first traffic, a recorded row takes a hard repair, else the soft one again, else it counts as
unrepairable.  Which resources its bank has left is a free value (log 96). -/
def bootRepair (s : State) (x : Nat × RowId) : State :=
  if h : x.1 < 6 then
    let n : Fin 6 := ⟨x.1, h⟩
    let (v, s) := s.fresh
    if v % 3 = 0 then s.modStk n (fun k => { k with rprHard := satAdd k.rprHard 1 })
    else if v % 3 = 1 then
      let s := s.modStk n (fun k => { k with rprSoft := satAdd k.rprSoft 1 })
      { s with ms := { s.ms with softRepairs := s.ms.softRepairs ++ [x] } }
    else spareCheck (s.modStk n (fun k => { k with
      rprUnrep := satAdd k.rprUnrep 1, unrepRows := k.unrepRows ++ [x.2] })) n x.2.pc
  else s

/-- Every recorded row (R229). -/
def bootRepairs (s : State) : State :=
  s.ms.softRepairs.foldl bootRepair { s with ms := { s.ms with softRepairs := [] } }

/-- R232: while time passes, the copy of a stack that spares goes on in increasing h, by as many chunks as a free value says
(log 96); it pauses during a memory-step change. -/
def sparePass (s : State) (n : Fin 6) : State :=
  if (s.stk n).sparing && s.ms.mstepTo.isNone then
    let (v, s) := s.fresh
    s.modStk n (fun k => { k with wmark := k.wmark + BitVec.ofNat 21 (v % (spareFrom + 1 - k.wmark.toNat)) })
  else s

/-- SPARING_COMPLETE (R232): the copy has passed the last chunk below the spare region. -/
def execSparingComplete (n : Fin 6) (s : State) : Out :=
  .next (if (s.stk n).sparing && s.ms.mstepTo.isNone then
      let s := s.modStk n (fun k => { k with
        sparing := false, spared := true, wmark := BitVec.ofNat 21 spareFrom })
      record s 0x0304 15 0x7F (leBytes 1 n.val ++ leBytes 1 (s.stk n).sparePc.toNat ++ [1])
    else s)

/-! ### Temperature (R239 to R241) -/

/-- The effective TH1 (R240). -/
def effTh1 (s : State) : Nat :=
  let ceiling := s.pw.limA.th1.toNat
  if hostCounts s then min s.pw.hostTh1.toNat ceiling else ceiling

/-- The throttle step whose threshold a temperature has reached (R239). -/
def throttleFor (th1 t : Nat) : Nat :=
  if th1 + 8 ≤ t then 3 else if th1 + 4 ≤ t then 2 else if th1 ≤ t then 1 else 0

/-- STACK_TEMP_READ (R239, R240). -/
def execStackTempRead (n : Fin 6) (t : BitVec 8) (s : State) : Out :=
  let th1 := effTh1 s
  let was := (s.stk n).critical
  let now := decide (th1 + 12 ≤ t.toNat)
  let s := s.modStk n (fun k =>
    let k := { k with temp := t, th1 := BitVec.ofNat 8 th1, tempStale := false, critical := now }
    let want := throttleFor th1 t.toNat
    let cur := k.throttle.toNat
    if cur < want then { k with throttle := BitVec.ofNat 2 want, coolSince := none }
    else if cur = 0 then { k with coolSince := none }
    else if t.toNat + 3 ≤ th1 + 4 * (cur - 1) then
      match k.coolSince with
      | none => { k with coolSince := some s.ts }
      | some t0 => if 10 * msTicks ≤ s.since t0 then { k with throttle := BitVec.ofNat 2 (cur - 1), coolSince := none } else k
    else { k with coolSince := none })
  .next (thermalWatch (if now && !was then
      record s 0x0503 15 0x7F ([3] ++ leBytes 1 n.val ++ leBytes 2 (8 * t.toNat))
    else s))

/-- TEMP_STALE (R241). -/
def execTempStale (n : Fin 6) (s : State) : Out :=
  .next (s.modStk n (fun k => { k with tempStale := true, throttle := 3, coolSince := none }))

/-! ### Memory steps (R221, R501, R502) -/

/-- MEMORY_STEP_CHANGE (R221): at the chain count every stack stops serving. -/
def execMemoryStepChange (s : State) : Out :=
  .next (match s.pw.mstepDue with
    | some (m, c) =>
      if c ≤ s.chain ∧ !s.clk.relocking then
        { s with pw := { s.pw with mstepDue := none }, ms := { s.ms with mstepTo := some m } }
      else s
    | none => s)

/-- R221: the stacks run at the new rate and serve what waits. -/
def stacksRun (s : State) (m : Bool) : State :=
  serveWaiting { s with ms := { s.ms with mstepTo := none, stk := s.ms.stk.map (fun k => { k with mstep := m }) } }

/-- MSTEP_AUTO_DECISION (R502): for each stack the percentage of its M1 capacity that it delivered over the
last 10 ms, and that was admitted over 1 ms. -/
def execMstepAutoDecision (delivered admitted : List Nat) (s : State) : Out :=
  .next (
    if (policyInForce s).2.2 ≠ 2 ∨ s.ms.mstepTo.isSome ∨ s.pw.mstepDue.isSome ∨
        (s.pw.lastMstep ≠ 0 ∧ s.since s.pw.lastMstep < 100 * msTicks) then s
    else if !memStep s then
      (if delivered.length = 6 ∧ delivered.all (fun x => decide (x < 70)) then askMstep s true else s)
    else if admitted.any (fun x => decide (90 < x)) then askMstep s false else s)

/-! ### The plat and the partition map in force -/

/-- R248: the memory as it reads under the active plat of `s`, its bytes stored under that of `old` (log 10). -/
def rekey (old s : State) : State :=
  let es := (old.ms.platA.toList ++ s.ms.platA.toList).filter (fun e => e.valid && e.enc)
  let gs := (es.flatMap (fun e => (List.range e.sizeG.toNat).map (fun i => e.range.1 + i * 0x200000))).eraseDups
  gs.foldl (fun s g =>
    let k := cipherAt old g
    let k' := cipherAt s g
    if k = k' then s else (List.range 65536).foldl (fun s i => recode k k' s (g + 32 * i)) s) s

/-- PLAT_APPLY (R246): the staged plat becomes active; PLAT_MAP and PLAT_UNMAP commands that waited for it
complete. -/
def execPlatApply (s : State) : Out :=
  .next (match s.ms.platDue with
    | none => s
    | some c =>
      if c ≤ s.chain ∧ !s.clk.relocking then
        let old := s.ms.platA
        let s := rekey s { s with ms := { s.ms with platA := s.ms.platS, platDue := none } }
        let s := (s.kci.live.filter (fun d => d.opcode == 0x13)).foldl (fun s d => finish s d kOK 0 []) s
        endUnmaps ((s.kci.live.filter (fun d => d.opcode == 0x14 && d.aux == 0)).foldl (fun s d =>
          let e := (vget old (BitVec.ofNat 10 (d.b 32 2)).toFin).range
          setLive s { d with aux := e.1 + 1, due := BitVec.ofNat 64 e.2 }) s)
      else s)

/-- R98, R497, R577, R594: what a core goes through when its parcel changes hands. -/
def coreReassigned (s : State) (c : Fin 96) : State :=
  let s := contextSwitch s c
  let s := s.modCore c (fun k => { k with
    ac := .reset, fb := { k.fb with state := 0, enable := false } })
  { s with pw := { s.pw with demand := s.pw.demand.filter (fun d => decide (d.1.1 ≠ c.val)) } }

/-- R158: firmware writes both seeds of a core from the DRBG. -/
def seedCore (s : State) (c : Fin 96) : State :=
  let (d, s) := draw s
  s.modCore c (fun k => { k with lg := { k.lg with
    vx := { k.lg.vx with pend := some (d.extractLsb' 0 64) }, edge := { k.lg.edge with pend := some (d.extractLsb' 64 64) } } })

/-- PARTITION_MAP_APPLY (R247): the staged map becomes active; the cores of parcels that change hands are
switched (R98); commands that waited for it complete. -/
def execPartitionMapApply (s : State) : Out :=
  .next (match s.ms.pmapDue with
    | none => s
    | some c =>
      if c ≤ s.chain ∧ !s.clk.relocking then
        let old := s.ms.pmapA
        let s := { s with ms := { s.ms with pmapA := s.ms.pmapS, pmapDue := none } }
        let s := (List.finRange 96).foldl (fun s k =>
          if vget old (parcelOf k) = vget s.ms.pmapA (parcelOf k) then s else coreReassigned s k) s
        (s.kci.live.filter (fun d => d.opcode == 0x10 || d.opcode == 0x12)).foldl (fun s d =>
          match (if d.opcode = 0x10 then partOf? d.part else none) with
          | some p =>
            let s := s.setPart p { Part.reset with made := true }
            finish ((coresOf s p).foldl seedCore s) d kOK 0 (leBytes 1 (d.part + 1))
          | none => finish s d kOK 0 []) s
      else s)

end Sys2Proof.Machine
end

