-- ==== Sys2Proof/Machine/Rounds.lean ====
section
/-! DEFINITION.  Rounds of in-service tests (15 R423 to R428): which kernel is launched on which core, and when. -/

namespace Sys2Proof.Machine

open Sys2Proof

/-! ### What the rounds go by -/

/-- CCLK in MHz. -/
def stepMhz (p : Nat) : Nat := [1200, 1067, 960, 873, 800, 686, 600, 480, 400].getD p 400

/-- Changes what the in-service tests know of a core. -/
def modTc (s : State) (c : Fin 96) (f : Tcore → Tcore) : State :=
  { s with serv := { s.serv with cores := vmod s.serv.cores c f } }
/-- What the in-service tests know of a core. -/
def tcore (s : State) (c : Fin 96) : Tcore := vget s.serv.cores c

/-- FAILS: failures within the last FAIL_WINDOW_H hours (R429). -/
def failsNow (s : State) (c : Fin 96) : Nat :=
  (tcore s c).fails.countP (fun t => decide (s.since t < s.serv.failWindowH.toNat * 3600 * secTicks))

/-- The active pack's kernels in ID order (R423, R437). -/
def activeKernels (s : State) : List Kernel :=
  match s.serv.packs.toList.find? (fun k => decide (k.state = 2)) with
  | some k => sortStable (fun a b => decide (a.id.toNat < b.id.toNat)) k.kernels
  | none => []

/-- Seconds of a core's round interval (R424, R427); none at Quarantine (R428). -/
def interval (s : State) (c : Fin 96) : Option Nat :=
  let t := tcore s c
  if (s.core c).retired ∨ t.level = 0 then some s.serv.normalS.toNat
  else if t.level = 1 then some s.serv.watchS.toNat else none

/-- R424: eighths of the interval have passed since the core's last round. -/
def roundAge (s : State) (c : Fin 96) (eighths : Nat) : Bool :=
  match interval s c with
  | some n => decide (eighths * n * secTicks ≤ 8 * s.since (tcore s c).lastRound)
  | none => false

/-- SECONDS of TS_CORE_c_DUE (R440); 0 before boot firmware runs. -/
def dueSeconds (s : State) (c : Fin 96) : Nat :=
  let t := tcore s c
  match interval s c with
  | none => 0
  | some n => if t.due ∨ s.rst.stage.toNat < 4 then 0 else ceilDiv (n * secTicks - s.since t.lastRound) secTicks

/-- The core runs a suspect image as a buddy (R374, R427). -/
def runsImage (s : State) (c : Fin 96) : Bool :=
  s.parts.toList.any (fun q => q.cl.slots.toList.any (fun x => x.suspects.any (fun u =>
    u.status == 1 && u.buddy == some c.val)))

/-- Loopback kernels are suspended (R422). -/
def loopOff (s : State) (k : Kernel) : Bool := k.loopback && s.serv.loopOff.isSome

/-- A kernel may be launched on the core now (R422, R427, R441). -/
def mayLaunch (s : State) (c : Fin 96) (k : Kernel) : Bool :=
  let t := tcore s c
  !coreAbsent c && t.run.isNone && !t.loopWait && !loopOff s k && decide (s.pw.wstate = 0) && !s.pw.exiting &&
    !runsImage s c && !s.kci.paused && !s.clk.gated && s.rst.dpUp

/-- NCLK cycles that a kernel lasts at the present P-step. -/
def kernelTicks (s : State) (k : Kernel) : Nat := ceilDiv (k.length * 1600) (stepMhz s.clk.cur.toNat)

/-- The same in µs, rounded up. -/
def kernelUs (s : State) (k : Kernel) : Nat := ceilDiv (kernelTicks s k) usTicks

/-! ### Predicted idle windows (R425) -/

/-- The counters that an instruction still waits for. -/
def unmet (k : Core) (w : Nat) : List Nat :=
  ([insWaitA w, insWaitB w].filter (fun f => !waitMet k f)).map (fun f => f.ctr.val)

/-- The counters that a core waits for: its sequencer's, then those of the heads of its queues. -/
def waitedCtrs (s : State) (c : Fin 96) : List Nat :=
  let k := s.core c
  let w := s.num (progAddr c k.fetchIndex.toNat) 32
  (if k.fetching ∧ insEng w = 15 then unmet k w else []) ++
    k.eng.toList.flatMap (fun e => match e.queue with
      | [] => []
      | q :: _ => unmet k q.word.toNat)

/-- An engine stands idle: nothing in flight, and no head whose waits are met. -/
def standsIdle (k : Core) (e : Fin 10) : Bool :=
  let n := k.engine e
  n.flight.isEmpty && (match n.queue with
    | [] => true
    | q :: _ => !waitsMet k q.word.toNat)

/-- START, EVAL_GO and COMMIT of the policy of the partition that owns a core (R349). -/
def stepGates (s : State) (c : Fin 96) : List Nat :=
  match ownerOf s c with
  | some p => if (s.part p).cl.policy.isSome then [polNat s p 4 1, polNat s p 7 1, polNat s p 9 1] else []
  | none => []

/-- The wait that a core is in while the engines of a set stand idle: its phase (64: none) and its counter.  Of several counters
one of START, EVAL_GO and COMMIT comes first. -/
def waitKey (s : State) (c : Fin 96) (mask : BitVec 10) : Option (Nat × Nat) :=
  let k := s.core c
  if k.stopped ∨ !(List.finRange 10).all (fun e => !bit mask.toNat e.val || standsIdle k e) then none
  else
    let cs := waitedCtrs s c
    let gates := stepGates s c
    ((cs.find? gates.contains).orElse (fun _ => cs.head?)).map (fun n => (if k.phaseValid then k.phaseId.toNat else 64, n))

/-- The kernel that a core runs next. -/
def nextOf (s : State) (c : Fin 96) : Option Kernel := ((tcore s c).todo ++ activeKernels s).head?

/-- While time passes: a wait begins, goes on, or ends and is learned where it was longer than 2 µs, with weight 1/8. -/
def watchWait (s : State) (c : Fin 96) : State :=
  let t := tcore s c
  let now := (nextOf s c).bind (fun k => waitKey s c k.engMask)
  if t.wait.map Prod.fst = now then s
  else
    modTc s c (fun t => { t with
      wait := now.map (fun k => (k, s.ts))
      waitLens := match t.wait with
        | some (k, t0) =>
          let n := s.since t0
          if n ≤ 2 * usTicks then t.waitLens
          else aset t.waitLens k (match aget t.waitLens k with | some a => (7 * a + n) / 8 | none => n)
        | none => t.waitLens })

/-- A wait that begins now is long enough for the kernel: LENGTH at the present P-step and 20 µs more.  A wait has just begun
where no chain count has passed in it (DESIGN CHOICE, log 94). -/
def fitsWait (s : State) (c : Fin 96) (k : Kernel) : Bool :=
  match waitKey s c k.engMask with
  | none => false
  | some w =>
    (match (tcore s c).wait with
      | some (v, t0) => decide (v ≠ w ∨ t0 = s.ts)
      | none => true) &&
    (match aget (tcore s c).waitLens w with
      | some n => decide (kernelTicks s k + 20 * usTicks ≤ n)
      | none => false)

/-! ### Launching (R89, R426, R428) -/

/-- The engines of a kernel's set are taken from the program: no further instruction starts on them (R89). -/
def takeEngines (s : State) (c : Fin 96) (mask : BitVec 10) : State :=
  s.modCore c (fun k => { k with eng := Vector.ofFn (fun e =>
    let n := k.engine e
    { n with kernel := n.kernel || bit mask.toNat e.val }) })

/-- Every engine of a kernel's set is at an instruction boundary. -/
def setAtRest (s : State) (c : Fin 96) (k : Kernel) : Bool :=
  (List.finRange 10).all (fun e => !bit k.engMask.toNat e.val || ((s.core c).engine e).flight.isEmpty)

/-- The kernel launched on a core holds its whole set and starts (R420), no sooner than in W0 (R427). -/
def holdSet (s : State) (c : Fin 96) : State :=
  match (tcore s c).run with
  | some r =>
    if !r.held ∧ setAtRest s c r.kernel ∧ s.pw.wstate = 0 then
      enterKernel (modTc s c (fun t => { t with run := some { r with held := true, launched := s.ts } })) c r.kernel
    else s
  | none => s

/-- A kernel is launched.  A quarantined core holds all ten engines already (R428). -/
def launch (s : State) (c : Fin 96) (k : Kernel) (forced : Bool) (first : Option Nat) : State :=
  let q := decide ((tcore s c).level = 2)
  let s := takeEngines (modTc s c (fun t => { t with run := some ⟨k, forced, false, s.ts, first⟩ })) c
    (if q then 0x3FF else k.engMask)
  if q then holdSet s c else s

/-- Forced kernels that ended in the last second. -/
def recentForced (s : State) (c : Fin 96) : List (DWord × Nat) :=
  (tcore s c).forcedLog.filter (fun x => decide (s.since x.1 < secTicks))

/-- R426: the next kernel of a due round is forced, or waits for the next second.  A kernel's time is judged by its LENGTH when it
is launched and counted as it was once it has ended (log 94). -/
def force (s : State) (c : Fin 96) : State :=
  let t := tcore s c
  match t.todo with
  | [] => s
  | k :: _ =>
    if !t.due ∨ !mayLaunch s c k then s
    else if s.serv.capUs.toNat < ((recentForced s c).map Prod.snd).foldl (· + ·) 0 + kernelUs s k then
      modTc s c (fun t => { t with capHeld := true })
    else launch (modTc s c (fun t => { t with capHeld := false })) c k true none

/-- The next kernel of a core's open round: at once at Quarantine, where no cap applies; forced where the round is due. -/
def nextKernel (s : State) (c : Fin 96) : State :=
  let t := tcore s c
  if t.level = 2 ∧ !(s.core c).retired then
    match t.todo with
    | k :: _ => if mayLaunch s c k then launch s c k false none else s
    | [] => s
  else if t.due then force s c else s

/-- A round opens with every kernel of the active pack to run (R424, R437). -/
def openRound (s : State) (c : Fin 96) : State :=
  let t := tcore s c
  let ks := activeKernels s
  if coreAbsent c ∨ t.isOpen ∨ ks = [] ∨ 2 ≤ s.pw.wstate.toNat then s
  else modTc s c (fun t => { t with isOpen := true, todo := ks, due := false })

/-- A round ends. -/
def endRound (s : State) (c : Fin 96) : State :=
  modTc s c (fun t => { t with isOpen := false, todo := [], due := false, capHeld := false, lastRound := s.ts })

/-- R428: a quarantined core goes on with the next round. -/
def goOn (s : State) (c : Fin 96) : State :=
  if (tcore s c).level = 2 ∧ !(s.core c).retired then nextKernel (openRound s c) c else s

/-- R426, R427: forced kernels come before the program, also on a core that must wake for them. -/
def forceAwake (s : State) (c : Fin 96) : State :=
  if s.pw.wstate = 1 ∧ !s.th.tripped then { s with pw := { s.pw with exiting := true } } else force s c

end Sys2Proof.Machine
end

