-- ==== Sys2Proof/Machine/Power.lean ====
section
/-! DEFINITION.  Power (17): the limits block (R509, R571), estimates and calibration (R486 to R488), the
limits and step selection (R489 to R494), shares and easement (R495 to R499), sense points, voltage
corrections, droop and AVSBus (R480 to R485), W-states (R503 to R508). -/

namespace Sys2Proof.Machine

open Sys2Proof

/-! ### P-steps (R500) -/

/-- Nominal VLOG in mV. -/
def stepMv (p : Nat) : Nat := [680, 640, 610, 580, 560, 530, 510, 500, 500].getD p 500
/-- Frequency times the square of nominal VLOG, unnormalised. -/
def fv2 (p : Nat) : Rat := (stepMhz p : Rat) * (stepMv p : Rat) * (stepMv p : Rat)

/-- The VLOG request of a P-step (R482): nominal, trim and correction, clamped to 0.50 to 0.69 V. -/
def vlogRequest (s : State) (p : Nat) : Int :=
  clampInt ((stepMv p : Int) + Config.railTrim 0 + s.pw.corr) 500 690

/-- The Voltage write that stands for an AVSBus rail (R482): VLOG's request; the nominal voltage (R476) and the trim of any other,
`r` its number in the supply table. -/
def avsRequest (s : State) (r : Nat) : Int :=
  if r = 0 then s.pw.vReq else ([0, 720, 750, 750, 1200, 0, 0, 1100, 400].getD r 0 : Int) + Config.railTrim r

/-- A Voltage write goes out over AVSBus (R481). -/
def sendAvs (s : State) (key : Nat) (mv : Int) : State := s.modPw (fun w => { w with avsSent := w.avsSent ++ [(key, mv)] })

/-- A VLOG request is written over AVSBus (R481). -/
def writeVlog (s : State) (mv : Int) : State :=
  sendAvs (s.modPw (fun w => { w with vReq := mv, avsRetried := w.avsRetried.filter (fun r => decide (r ≠ 0)) })) 0 mv

/-- The VLOG request is raised to a goal in steps of at most 20 mV (R521). -/
def raiseVlog (s : State) (goal : Int) : State :=
  (List.range (ceilDiv (goal - s.pw.vReq).toNat 20)).foldl (fun s _ => writeVlog s (min (s.pw.vReq + 20) goal)) s

/-! ### Limits (R489, R491, R509) -/

/-- Every value of the limits block lies in its range (R509). -/
def Limits.inRange (l : Limits) : Bool :=
  decide (150 ≤ l.plSust.toNat ∧ l.plSust.toNat ≤ 350 ∧ l.plSust.toNat ≤ l.plShort.toNat ∧ l.plShort.toNat ≤ 420 ∧
    300 ≤ l.edc.toNat ∧ l.edc.toNat ≤ 760 ∧ 200 ≤ l.tdc.toNat ∧ l.tdc.toNat ≤ 420 ∧ 80 ≤ l.tjReg.toNat ∧
    l.tjReg.toNat ≤ 95 ∧ 70 ≤ l.th1.toNat ∧ l.th1.toNat ≤ 95 ∧ 1 ≤ l.ease.toNat ∧ l.ease.toNat ≤ 100 ∧
    20 ≤ l.droopMv.toNat ∧ l.droopMv.toNat ≤ 60)

/-- LIM_CTRL_COMMIT (R509): COMMIT under the epoch just written to LIM_EPOCH. -/
def execLimCtrlCommit (w : Writer) (epoch : Word) (s : State) : Out :=
  .next (match writerAgent w with
    | none => s
    | some i =>
      let d := vget s.kci.deeds 4
      let s := s.modPw (fun x => { x with limEpoch := epoch })
      if d.holder ≠ agentCode i ∨ d.epoch ≠ epoch then standDown (s.modPw (fun x => { x with limOutcome := 3 })) i
      else if !s.pw.limS.inRange then s.modPw (fun x => { x with limOutcome := 2 })
      else s.modPw (fun x => { x with limDue := some (x.limS, s.chain + 64), limOutcome := 0 }))

/-- LIMITS_APPLY (R509). -/
def execLimitsApply (s : State) : Out :=
  .next (match s.pw.limDue with
    | some (l, c) =>
      if c ≤ s.chain then limitsTook (s.modPw (fun x => { x with limA := l, limDue := none, limOutcome := 1 }))
      else s
    | none => s)

/-- LIM_FLUSH (R571): effective at once under the current epoch. -/
def execLimFlush (w : Writer) (epoch : Word) (stop : Bool) (s : State) : Out :=
  .next (match writerAgent w with
    | none => s
    | some i =>
      let d := vget s.kci.deeds 4
      let s := s.modPw (fun x => { x with limEpoch := epoch })
      if d.holder = agentCode i ∧ d.epoch = epoch then s.modPw (fun x => { x with flushStop := stop }) else s)

/-! ### Sense points, droop, AVSBus (R480 to R485) -/

/-- PC_SNS (R480): the mask is staged for the next chain count; zero is ignored. -/
def execPcSns (n : Fin 8) (mask : BitVec 16) (s : State) : Out :=
  .next (if mask = 0 then s
    else s.modPw (fun w => { w with maskDue := vset w.maskDue n (some (mask, s.chain + 1)) }))

/-- POINT_MASK_APPLY (R480). -/
def execPointMaskApply (n : Fin 8) (s : State) : Out :=
  .next (match vget s.pw.maskDue n with
    | some (m, c) =>
      if c ≤ s.chain then s.modPw (fun w => { w with masks := vset w.masks n m, maskDue := vset w.maskDue n none })
      else s
    | none => s)

/-- DROOP_MV in force (R484). -/
def droopMv (s : State) : Nat := if s.pw.wstate = 0 then s.pw.limA.droopMv.toNat else 0

/-- R485: a skip request stands for `cycles` CCLK cycles from now: every second edge is suppressed until 16 cycles after it ends,
in one pattern with the requests that stand already. -/
def skipFor (s : State) (cycles : Nat) : State :=
  let mhz := stepMhz s.pw.pstep.toNat
  let left := if skipping s then ceilDiv ((s.pw.skipUntil - s.ts).toNat * mhz) 1600 else 0
  s.modPw (fun w => { w with
    skipEdges := satAdd w.skipEdges ((cycles + 16 - left) / 2)
    skipUntil := if left < cycles + 16 then s.ts + BitVec.ofNat 64 (ceilDiv ((cycles + 16) * 1600) mhz) else w.skipUntil })

/-- DROOP_TRIP (R484, R485): a detector reads local VLOG `mv` for `cycles` CCLK cycles. -/
def execDroopTrip (d : Fin 24) (mv cycles : Nat) (s : State) : Out :=
  .next (if d.val < 24 ∧ (mv : Int) < s.pw.vReq - droopMv s ∧ s.clk.relocking = false then
      skipFor (s.modPw (fun w => { w with droopTrips := satAdd w.droopTrips 1 })) cycles
    else s)

/-- The rail of R476 behind an AVSBus bus and rail select (R481). -/
def avsRail (bus sel : Nat) : Option (Fin 10) :=
  if bus = 0 ∧ sel = 0 then some 0
  else if bus = 1 ∧ sel = 0 then some 1
  else if bus = 1 ∧ sel = 1 then some 2
  else if bus = 2 ∧ sel = 0 then some 3
  else if bus = 2 ∧ sel = 1 then some 4
  else if bus = 3 ∧ sel < 6 then some 7
  else if bus = 3 ∧ sel < 12 then some 8 else none

/-- AVS_WRITE_TIMEOUT (R481): a Voltage write is not confirmed within 200 µs: retried once with a record;
after that the rail is under telemetry loss, for good (log 105). -/
def execAvsWriteTimeout (bus : Fin 4) (sel : Fin 16) (s : State) : Out :=
  .next (match avsRail bus.val sel.val with
    | none => s
    | some r =>
      let k := bus.val * 16 + sel.val
      if s.pw.avsRetried.contains k then
        s.modPw (fun w => { w with
          cals := vmod w.cals r (fun x => { x with avsFailed := true, lossAt := some (x.lossAt.getD s.ts), fresh := 0 })
          avsRetried := w.avsRetried.filter (fun i => decide (i ≠ k)), calValid := false })
      else
        record (sendAvs (s.modPw (fun w => { w with avsRetried := w.avsRetried ++ [k] })) k (avsRequest s r.val)) 0x0502 15 0x7F
          ([2] ++ leBytes 1 r.val))

/-- VOLTAGE_CORRECTION (R482): the lowest VLOG sense point averaged over the last millisecond, in mV. -/
def execVoltageCorrection (lowest : Nat) (s : State) : Out :=
  let p := s.pw.pstep.toNat
  let nom := stepMv p
  let c := if lowest + 10 < nom then clampInt (s.pw.corr + 2) (-20) 20
    else if nom + 15 < lowest then clampInt (s.pw.corr - 1) (-20) 20 else s.pw.corr
  let s' := s.modPw (fun w => { w with corr := c })
  .next (if c = s.pw.corr ∨ s.pw.move.isSome ∨ s.th.tripped then s' else writeVlog s' (vlogRequest s' p))

/-- PMBUS_POLL (R483, R488): per rail the reading in mV, mA and mW; one that is missing begins a telemetry loss, the next one
ends it. -/
def execPmbusPoll (reads : List (Option (Nat × Nat × Nat))) (s : State) : Out :=
  .next (if (primary? s).isNone ∨ !s.mg.descValid then s
    else s.modPw (fun w => { w with
      cals := Vector.ofFn (fun i : Fin 10 =>
        let x := vget w.cals i
        match reads[i.val]?.join with
        | some (v, a, p) => { x with
            volt := v, amp := (a : Rat) / 1000, watt := (p : Rat) / 1000, readAt := s.ts, new := true
            lossAt := if x.avsFailed then x.lossAt else none }
        | none => { x with new := false, lossAt := some (x.lossAt.getD s.ts) }) }))

/-! ### Calibration (R487, R488) -/

/-- TDC × nominal voltage of a rail (R477, R487). -/
def railT (s : State) (r : Nat) : Rat :=
  [420 * (stepMv s.pw.pstep.toNat : Rat) / 1000, 60 * (72 / 100), 45 * (75 / 100), 20 * (75 / 100),
    18 * (12 / 10), 3 * (75 / 100), (3 / 2) * (18 / 10), 48 * (11 / 10), 36 * (4 / 10),
    (36 / 10) * (18 / 10)].getD r 0

/-- Restricts a rational. -/
def clampRat (x lo hi : Rat) : Rat := if x < lo then lo else if hi < x then hi else x

/-- Sum of rationals. -/
def sumRat (xs : List Rat) : Rat := xs.foldl (· + ·) 0

/-- The estimates of a rail's pairs span at least 20 percent of their mean (R487). -/
def Cal.spread (c : Cal) : Bool :=
  let es := c.pairs.map Prod.fst
  let mean := sumRat es / (es.length : Rat)
  let hi := es.foldl max (es.headD 0)
  let lo := es.foldl min (es.headD 0)
  decide (es ≠ [] ∧ mean / 5 ≤ hi - lo ∧ lo < hi)

/-- R487: the fit of a rail. -/
def Cal.fit (c : Cal) (t : Rat) : Cal :=
  let n : Rat := (c.pairs.length : Rat)
  let me := sumRat (c.pairs.map Prod.fst) / n
  let mm := sumRat (c.pairs.map Prod.snd) / n
  let off := fun (g : Rat) => clampRat (mm - g * me) (-(t / 10)) (t / 10)
  if c.spread then
    let num := sumRat (c.pairs.map (fun p => (p.1 - me) * (p.2 - mm)))
    let den := sumRat (c.pairs.map (fun p => (p.1 - me) * (p.1 - me)))
    let g := num / den
    { c with gain := clampRat g (3 / 4) (133 / 100), off := off g }
  else { c with off := off c.gain }

/-- R487, R488: one millisecond of a rail, `e` its estimate averaged over it.  Under telemetry loss gain and offset are held for
1 s; a reading is paired once. -/
def Cal.step (c : Cal) (now : DWord) (t e : Rat) : Cal :=
  let c := { c with sum := 0, count := 0 }
  let c := if 10 * msTicks < (now - c.readAt).toNat then { c with lossAt := some (c.lossAt.getD now) } else c
  match c.lossAt with
  | some t0 =>
    { c with new := false, fresh := 0, gain := if 1000 * msTicks ≤ (now - t0).toNat then max c.gain (11 / 10) else c.gain }
  | none =>
    if !c.new then c
    else Cal.fit { c with pairs := ((e, c.watt) :: c.pairs).take 64, fresh := c.fresh + 1, new := false } t

/-- R487: a rail's estimate averaged over the millisecond: the mean of the estimator's, or where none came the value given. -/
def Cal.mean (c : Cal) (given : Rat) : Rat := if c.count = 0 then given else c.sum / (c.count : Rat)

/-- CALIBRATION_TICK (R487, R488): `est` gives the estimate of each rail in mW where the estimator has formed none in the
millisecond.  CAL_VALID follows 64 ms in W0 with every rail fitted afresh and its spread satisfied. -/
def execCalibrationTick (est : List Nat) (s : State) : Out :=
  let cals := Vector.ofFn (fun i : Fin 10 =>
    let c := vget s.pw.cals i
    c.step s.ts (railT s i.val) (c.mean ((est.getD i.val 0 : Rat) / 1000)))
  let run := if s.pw.wstate = 0 then s.pw.calRun + 1 else 0
  let valid := decide (64 ≤ run) && cals.toList.all (fun c => decide (64 ≤ c.fresh) && c.spread)
  let lost := cals.toList.any (fun c => c.lossAt.isSome)
  .next (s.modPw (fun w => { w with
    cals := cals, calRun := run, calValid := if lost then false else w.calValid || valid }))

/-! ### The estimator tick (R486, R489, R491, R493, R495 to R498) -/

/-- R495: a running core. -/
def runningCore (s : State) (c : Fin 96) : Bool :=
  !coreAbsent c && !(s.core c).retired && decide (s.pw.wstate = 0) &&
    (!(s.core c).stopped || (match (vget s.serv.cores c).run with
      | some r => r.held && (bit r.kernel.engMask.toNat 5 || bit r.kernel.engMask.toNat 6)
      | none => false))

/-- The phase that a core's demand is learned under (R497). -/
def phaseOf (k : Core) : Nat := if k.phaseValid then k.phaseId.toNat else 64

/-- R373, R499: the head of an engine waits on a sync counter, or as UP at the commit gate. -/
def headWaits (s : State) (c : Fin 96) (e : Fin 10) (w : Nat) : Bool :=
  !waitsMet (s.core c) w || (decide (e = 8) && decide (insOp w ≠ 2) && !gatePasses s c)

/-- R499: every engine of the core is idle or waits on a sync counter, and the sequencer is blocked on a full
queue or on its own wait. -/
def coreWaits (s : State) (c : Fin 96) : Bool :=
  ((s.core c).blockCause == 1 || (s.core c).blockCause == 2) &&
    (List.finRange 10).all (fun e => ((s.core c).engine e).flight.isEmpty && (match ((s.core c).engine e).queue with
      | [] => true
      | q :: _ => headWaits s c e q.word.toNat))

/-- R497: the visit of a core goes on, or ends and is learned. -/
def visitStep (s : State) (c : Fin 96) (w : Rat) : State :=
  let v := vget s.pw.visits c
  let p := phaseOf (s.core c)
  let s := if v.phase = p ∨ s.since v.since < usTicks then s
    else
      let obs := v.energy / ((s.since v.since : Rat) / 1600)
      s.modPw (fun x => { x with
        demand := aset x.demand (c.val, v.phase) (match aget x.demand (c.val, v.phase) with
          | some d => d + (obs - d) / 8
          | none => obs) })
  s.modPw (fun x => { x with
    visits := vset x.visits c (if v.phase = p then { v with energy := v.energy + w } else ⟨p, s.ts, w⟩) })

/-- R498: the shares of the running cores. -/
def allot (s : State) : Vector Rat 96 :=
  let run := (List.finRange 96).filter (fun c => runningCore s c)
  let step := s.pw.pstep.toNat
  let cap := Config.capPower step
  let floor := cap / 64
  let lend := run.filter (fun c => vget s.pw.lender c)
  let work := run.filter (fun c => !vget s.pw.lender c)
  let g := s.pw.g
  let dem := fun (c : Fin 96) => match aget s.pw.demand (c.val, phaseOf (s.core c)) with
    | some d => d
    | none => g / (run.length : Rat)
  let sum := sumRat (work.map dem)
  let g' := g - (lend.length : Rat) * floor
  Vector.ofFn (fun c : Fin 96 =>
    if !run.contains c then 0
    else if vget s.pw.lender c then floor
    else if sum ≤ g' then min cap (dem c + (g' - sum) / (work.length : Rat))
    else max floor (g' * dem c / sum))

/-- R496: each bucket gains its share, capped at 2 µs of it, and pays the slots issued. -/
def fillBuckets (s : State) (spent : Fin 96 → Rat) : State :=
  s.modPw (fun w => { w with
    bucket := Vector.ofFn (fun c : Fin 96 =>
      min (vget w.bucket c + vget w.share c) (2 * vget w.share c) - spent c) })

/-- R491: tracks how long a quantity has stayed above its limit. -/
def Trip.track (t : Trip) (now : DWord) (limit : Nat) (x : Rat) : Trip :=
  if (limit : Rat) < x then { t with above := some (t.above.getD now) } else { t with above := none }

/-- R491: the state of a limit as time passes: it trips when its EWMA reaches it or after τ above it, and re-arms after τ with the
EWMA at 0.90 of it; an excess that goes on keeps its start. -/
def Trip.judge (t : Trip) (now : DWord) (limit : Nat) (tau : Nat) (ewma : Rat) : Trip :=
  if t.tripped then
    if tau ≤ (now - t.mark).toNat ∧ ewma ≤ (limit : Rat) * (9 / 10) then { t with tripped := false } else t
  else if decide ((limit : Rat) ≤ ewma) || (match t.above with | some a => decide (tau ≤ (now - a).toNat) | none => false) then
    { t with tripped := true, mark := now }
  else t

/-- R491: the trips of the three limits are judged. -/
def judgeTrips (s : State) : State :=
  let p := plSust s
  s.modPw (fun w => { w with
    short := w.short.judge s.ts w.limA.plShort.toNat (10 * msTicks) w.ewmaShort
    sust := w.sust.judge s.ts p (1000 * msTicks) w.ewmaSust
    tdc := w.tdc.judge s.ts w.limA.tdc.toNat (1000 * msTicks) w.tdcI })

/-- ESTIMATOR_TICK (every 1 µs): the estimate of each rail of R476 in mW, the MX and MV dynamic power and each
core's demanded power in mW, and the MX and MV slots issued: core, engine, width class, packing mode,
slots. -/
def execEstimatorTick (rails : List Nat) (matrix : Nat) (demand : List Nat)
    (slots : List (Fin 96 × Nat × Nat × Nat × Nat)) (s : State) : Out :=
  let w := s.pw
  let rail := fun (i : Fin 10) => (vget w.cals i).gain * ((rails.getD i.val 0 : Rat) / 1000) + (vget w.cals i).off
  let pkg := sumRat ((List.finRange 10).map rail)
  let vlogI := rail 0 / ((w.vReq : Rat) / 1000)
  let l := w.limA
  let edc : Rat := (l.edc.toNat : Rat)
  let up := decide (edc ≤ vlogI) && !s.clk.relocking
  let low := if up then 0 else if vlogI < edc * (95 / 100) then w.skipLow + 1 else 0
  let skip := up || (w.skipEdc && decide (low < 4))
  let n := pkg - (vget w.cals 0).gain * ((matrix : Rat) / 1000)
  let s := s.modPw (fun w => { w with
    est := pkg, vlogI := vlogI
    ewmaShort := w.ewmaShort + (pkg - w.ewmaShort) / 10000
    ewmaSust := w.ewmaSust + (pkg - w.ewmaSust) / 1000000
    tdcI := w.tdcI + (vlogI - w.tdcI) / 1000000
    skipEdc := skip, skipLow := low
    cals := Vector.ofFn (fun i : Fin 10 => { vget w.cals i with
      sum := (vget w.cals i).sum + (rails.getD i.val 0 : Rat) / 1000, count := (vget w.cals i).count + 1 })
    g := match w.t with | some t => t - n | none => 0
    short := w.short.track s.ts l.plShort.toNat pkg
    sust := w.sust.track s.ts (plSust s) pkg
    tdc := w.tdc.track s.ts l.tdc.toNat vlogI
    lender := Vector.ofFn (fun c : Fin 96 => vget w.lender c && runningCore s c && coreWaits s c) })
  let s := judgeTrips (if skip then skipFor s (stepMhz s.pw.pstep.toNat) else s)
  let s := (List.finRange 96).foldl (fun s c => visitStep s c ((demand.getD c.val 0 : Rat) / 1000)) s
  let spent := fun (c : Fin 96) => sumRat ((slots.filter (fun x => x.1 = c)).map (fun x =>
    ((x.2.2.2.2 * Config.slotEnergy x.2.1 s.pw.pstep.toNat x.2.2.1 x.2.2.2.1 : Nat) : Rat) / 1000))
  let s := if s.pw.t.isSome then s.modPw (fun w => { w with share := allot s })
    else s.modPw (fun w => { w with share := Vector.replicate 96 0 })
  .next (if s.pw.t.isSome then fillBuckets s spent else s.modPw (fun w => { w with bucket := Vector.replicate 96 0 }))

/-- EASEMENT_LOAN (R499): the core has waited for EASE_US. -/
def execEasementLoan (c : Fin 96) (s : State) : Out :=
  .next (if runningCore s c && coreWaits s c && !vget s.pw.lender c then
      s.modPw (fun w => { w with lender := vset w.lender c true, easeLoans := satAdd w.easeLoans 1 })
    else s)

/-! ### Step selection (R490 to R492) -/

/-- The allowances that stand, with the LIMITER code of each (R491, R510). -/
def allowances (s : State) : List (Rat × Nat) :=
  let w := s.pw
  (if w.short.tripped then [((w.limA.plShort.toNat : Rat), 2)] else []) ++
  (if w.sust.tripped then [((plSust s : Rat), 3)] else []) ++
  (if w.tdc.tripped then [((w.limA.tdc.toNat : Rat) * ((w.vReq : Rat) / 1000), 4)] else []) ++
  (if w.tjActive then [(w.aTj, 5)] else [])

/-- The smallest allowance. -/
def smallest : List (Rat × Nat) → Option (Rat × Nat)
  | [] => none
  | x :: t => match smallest t with
    | none => some x
    | some y => if y.1 < x.1 then some y else some x

/-- R492: predicted package power at a P-step, from what the last 100 µs demanded in mW: VLOG dynamic,
frequency-scaled SRAM and network, stacks and links and the always-on rest, leakage. -/
def predicted (s : State) (act : Nat × Nat × Nat × Nat) (p : Nat) : Rat :=
  let c := s.pw.pstep.toNat
  let x := fun (n : Nat) => (n : Rat) / 1000
  x act.1 * (fv2 p / fv2 c) + x act.2.1 * ((stepMhz p : Rat) / (stepMhz c : Rat)) + x act.2.2.1 +
    x act.2.2.2 * (Config.leakFactor p / Config.leakFactor c)

/-- R492, R501: the P-step that the target asks for. -/
def wantedStep (s : State) (act : Nat × Nat × Nat × Nat) (t : Option Rat) : Nat :=
  let (ceil, _, _) := policyInForce s
  match t with
  | none => ceil
  | some t => ((upFrom ceil (9 - ceil)).find? (fun p => decide (predicted s act p ≤ t))).getD 8

/-- First chain count that begins at least 256 NCLK cycles from now (R521). -/
def armCount (s : State) : DWord := BitVec.ofNat 64 ((s.ts.toNat + 256 + 63) / 64)

/-- The divider is armed (R521, R522). -/
def armDivider (s : State) (p : BitVec 4) : State :=
  { s with clk := { s.clk with armed := p, armValid := true, armCount := armCount s } }

/-- R521, R522: a step change begins: to a faster step by raising the request, to a slower one by arming the
divider. -/
def startMove (s : State) (p : Nat) : State :=
  let cur := s.pw.pstep.toNat
  if p = cur ∨ s.pw.move.isSome ∨ s.th.tripped ∨ s.clk.relocking ∨ s.clk.failed then s
  else
    let m : StepMove := ⟨s.pw.pstep, BitVec.ofNat 4 p, if p < cur then 0 else 1, s.ts⟩
    let s := s.modPw (fun w => { w with move := some m, target := BitVec.ofNat 4 p })
    if p < cur then writeVlog s (min (s.pw.vReq + 20) (max s.pw.vReq (vlogRequest s p)))
    else armDivider s (BitVec.ofNat 4 p)

/-- R492: at most two steps in one decision. -/
def nearStep (cur want : Nat) : Nat := if want + 2 < cur then cur - 2 else if cur + 2 < want then cur + 2 else want

/-- A decision of the agent arrives in the power controller (R490, R491): the target, and an end of fallback. -/
def setTarget (s : State) : State :=
  let best := smallest (allowances s)
  let limiter := match best with
    | some (_, k) => k
    | none => if s.pw.skipEdc then 1 else if (policyInForce s).1 ≠ 0 then 6 else 0
  s.modPw (fun w => { w with
    t := best.map Prod.fst, limiter := BitVec.ofNat 4 limiter, fallback := false, lastDecision := s.ts })

/-- The decision of every 100 µs (R490 to R492). -/
def decide100 (s : State) (act : Nat × Nat × Nat × Nat) : State :=
  let s := setTarget (judgeTrips s)
  if s.pw.wstate = 0 then startMove s (nearStep s.pw.pstep.toNat (wantedStep s act s.pw.t)) else s

/-- POWER_DECISION (R490 to R492): every 100 µs, by the primary agent, from the demanded activity of the last
100 µs in mW. -/
def execPowerDecision (dyn sram other leak : Nat) (s : State) : Out :=
  .next (if (primary? s).isNone ∨ s.th.tripped then s else decide100 s (dyn, sram, other, leak))

/-- POWER_FALLBACK (R490): no decision for 100 ms.  In fallback the move to P5 or a slower step is begun again until it is done. -/
def execPowerFallback (dyn sram other leak : Nat) (s : State) : Out :=
  .next (if s.th.tripped ∨ s.since s.pw.lastDecision < 100 * msTicks then s
    else
      let t : Rat := (s.pw.limA.plSust.toNat : Rat)
      let s := if s.pw.fallback then s
        else record (s.modPw (fun w => { w with t := some t, limiter := 7, fallback := true })) 0x0502 15 0x7F [1, 0xFF]
      let p := ((upFrom 5 4).find? (fun p => decide (predicted s (dyn, sram, other, leak) p ≤ t))).getD 8
      if s.pw.wstate = 0 then startMove s (max p (if s.pw.pstep.toNat < 5 then 5 else p)) else s)

/-! ### W-states (R503 to R508) -/

/-- Exit latency of a W-state in units of 0.1 µs (R503). -/
def exitLatency (w : Nat) : Nat := [0, 5, 200, 4000, 300000].getD w 0

/-- The functions that hold a tolerance (R473). -/
def tolFns (s : State) : List (Fin 13) :=
  (List.finRange 13).filter (fun f => decide (f.val = 0) || (boundPart s f).isSome)

/-- The device's latency tolerance in µs (R473). -/
def tolerance (s : State) : Nat := (tolFns s).foldl (fun m f => min m (s.fn f).tolUs.toNat) 0xFFFFFFFF

/-- W4 is allowed by every such function (R473). -/
def allowW4 (s : State) : Bool := (tolFns s).all (fun f => (s.fn f).allowW4)

/-- A W-state whose exit latency the tolerance admits (R473, R504). -/
def wAllowed (s : State) (w : Nat) : Bool :=
  (decide (exitLatency w ≤ 10 * tolerance s) || decide (tolerance s = 0xFFFFFFFF)) &&
    (decide (w < 4) || allowW4 s)

/-- Deepest W-state now allowed. -/
def deepestW (s : State) : Nat := ((List.range 5).reverse.find? (fun w => wAllowed s w)).getD 0

/-- R504, R441: no core runs, no kernel is launched, no command needs the data plane. -/
def deviceIdle (s : State) : Bool :=
  (List.finRange 96).all (fun c => (s.core c).stopped || coreAbsent c || (s.core c).retired) &&
    s.serv.cores.toList.all (fun t => t.run.isNone) &&
    s.kci.live.all (fun c => !needsDp c)

/-- R504: what W4 asks beside the tolerance. -/
def w4Ok (s : State) : Bool :=
  s.fab.rtx.isEmpty && (List.finRange 12).all (fun p =>
    (s.part p).cl.slots.toList.all (fun x => decide (x.state = 0)))

/-- R581, R594: no field book has records that its drain can still copy. -/
def drained (s : State) : Bool :=
  s.cores.toList.all (fun k => !(k.fb.enable && k.fb.state == 1 && k.fb.policy != 2 && decide (k.fb.held ≠ 0)) &&
    !(decide (k.fb.state = 4) && decide (k.fb.held ≠ 0)))

/-- R503, R506, R507: entering state `w` from the state above it. -/
def enterW (s : State) (w : Nat) : State :=
  let s := s.modPw (fun x => { x with wstate := BitVec.ofNat 3 w, calRun := 0 })
  if w = 3 then
    let s := s.modPw (fun x => { x with stepBefore := x.pstep, pstep := 8, target := 8 })
    let s := { s with clk := { s.clk with cur := 8 } }
    writeVlog s (vlogRequest s 8)
  else if w = 4 then
    { s with
      fab := { s.fab with waiting := [], held := [] }
      cores := s.cores.map (fun k => { k with fb := { k.fb with held := 0, preHeld := 0, enable := false, state := 0 } }) }
  else s

/-- W_STATE_ENTRY (R504, R511, R536, R594): the dwell of the next deeper state has passed; `blocked` says that
every undrained field book waits for room in its ring. -/
def execWStateEntry (blocked : Bool) (s : State) : Out :=
  let w := s.pw.wstate.toNat + 1
  .next (if 4 < w ∨ !deviceIdle s ∨ !wAllowed s w ∨ s.pw.move.isSome ∨ s.ms.mstepTo.isSome ∨
        s.pw.mstepDue.isSome ∨ s.clk.relocking ∨ s.pw.exiting ∨ s.th.tripped ∨ (w = 4 ∧ !w4Ok s) ∨
        (2 ≤ w ∧ !blocked ∧ !drained s) then s
    else enterW s w)

/-- R529: the mean temperature of the in-service cores, in K. -/
def tjMean (s : State) : Rat :=
  let cs := (List.finRange 96).filter (fun c => !coreAbsent c && !(s.core c).retired &&
    (let t := vget s.serv.cores c; decide (t.level.toNat < 2) && !t.heldOut))
  if cs.isEmpty then 0
  else sumRat (cs.map (fun c => ((vget s.th.sens ⟨c.val, by omega⟩).temp.toInt : Rat) / 8)) / (cs.length : Rat)

/-- WAKE (R508): any of its causes; warming stops first (R531). -/
def execWake (cause : Fin 6) (s : State) : Out :=
  .next (if s.pw.wstate = 0 ∨ 6 ≤ cause.val ∨ s.th.tripped then s
    else { s.modPw (fun x => { x with exiting := true }) with
      th := { s.th with kwActive := false, heat := 0, kwLimited := false } })

/-- R507: what leaving W4 does to a core. -/
def coreAfterW4 (s : State) (c : Fin 96) : State :=
  contextSwitch { s with
    mem := s.mem.clear (winOf c) 0x830000, poison := s.poison.clearAny (winOf c) 0x830000 } c

/-- W_STATE_EXIT_DONE (R506, R507); the rounds that are due are forced (R427). -/
def execWStateExitDone (s : State) : Out :=
  .next (if !s.pw.exiting then s
    else
      let w := s.pw.wstate.toNat
      let s := if w = 4 then (List.finRange 96).foldl coreAfterW4 s else s
      let s := if 3 ≤ w then
          let p := s.pw.stepBefore
          let s := s.modPw (fun x => { x with pstep := p, target := p })
          let s := { s with clk := { s.clk with cur := p } }
          let s := writeVlog s (vlogRequest s p.toNat)
          let s := (List.finRange 8).foldl (fun s n =>
            if bit s.pw.twoLane.toNat n.val then askSwitch s n 2 else s) s
          s.modPw (fun x => { x with twoLane := 0 })
        else s
      (List.finRange 96).foldl nextKernel (s.modPw (fun x => { x with wstate := 0, exiting := false })))

/-- PORT_IDLE_TWO_LANE (R505): in W3, 100 µs without a message on the port. -/
def execPortIdleTwoLane (n : Fin 6) (s : State) : Out :=
  .next (if 3 ≤ s.pw.wstate.toNat ∧ (portOf s ⟨n.val, by omega⟩).state = 1 ∧ !bit s.pw.twoLane.toNat n.val then
      (askSwitch s ⟨n.val, by omega⟩ 1).modPw (fun x => { x with
        twoLane := x.twoLane ||| BitVec.ofNat 6 (2 ^ n.val) })
    else s)

end Sys2Proof.Machine
end

