-- ==== Sys2Proof/Machine/Clock.lean ====
section
/-! DEFINITION.  Clocks (18): step changes (R521 to R523), alarms and relock (R516 to R520); temperature (R494,
R525 to R528) and keep-warm (R529 to R531). -/

namespace Sys2Proof.Machine

open Sys2Proof

/-- Changes the clock block. -/
def State.modClk (s : State) (f : Clk → Clk) : State := { s with clk := f s.clk }
/-- Changes the thermal block. -/
def State.modTh (s : State) (f : Therm → Therm) : State := { s with th := f s.th }

/-! ### P-step changes -/

/-- PSTEP_RAISE (R521 step 1): the lowest VLOG sense point reads `lowest` mV. -/
def execPstepRaise (lowest : Nat) (s : State) : Out :=
  .next (match s.pw.move with
    | some m =>
      let goal := vlogRequest s m.target.toNat
      if m.phase = 0 ∧ s.pw.vReq < goal ∧ s.pw.vReq - 5 ≤ (lowest : Int) then
        writeVlog s (min (s.pw.vReq + 20) goal)
      else s
    | none => s)

/-- PSTEP_VERIFY (R521 steps 2, 3): the least reading of every VLOG sense point in two consecutive µs. -/
def execPstepVerify (first second : Nat) (s : State) : Out :=
  .next (match s.pw.move with
    | some m =>
      let goal := vlogRequest s m.target.toNat
      if m.phase = 0 ∧ goal ≤ s.pw.vReq ∧ s.pw.vReq - 10 ≤ (first : Int) ∧ s.pw.vReq - 10 ≤ (second : Int) then
        armDivider (s.modPw (fun w => { w with move := some { m with phase := 1 } })) m.target
      else s
    | none => s)

/-- R497: learned demand is rescaled by the f·V² factor. -/
def rescaleDemand (s : State) (old new : Nat) : State :=
  s.modPw (fun w => { w with demand := w.demand.map (fun d => (d.1, d.2 * (fv2 new / fv2 old))) })

/-- R490: in fallback a step faster than P5 is left as soon as no other move is under way. -/
def fallbackMove (s : State) : State := if s.pw.fallback ∧ s.pw.pstep.toNat < 5 ∧ s.pw.wstate = 0 then startMove s 5 else s

/-- PSTEP_SWITCH (R521 step 4, R522): at the target count; after a move to a slower step the request follows. -/
def execPstepSwitch (s : State) : Out :=
  .next (match s.pw.move with
    | some m =>
      if m.phase = 1 ∧ s.clk.armValid ∧ s.clk.armCount ≤ s.chain ∧ !s.clk.relocking then
        let s := s.modClk (fun c => { c with cur := c.armed, armValid := false })
        let s := s.modPw (fun w => { w with
          pstep := m.target, move := none, stepChanges := satAdd w.stepChanges 1 })
        let s := rescaleDemand s m.old.toNat m.target.toNat
        fallbackMove (if m.old.toNat < m.target.toNat then writeVlog s (vlogRequest s m.target.toNat) else s)
      else s
    | none => s)

/-- R523: a step change is abandoned; `keep`: the raised voltage stands (R536). -/
def abortMove (s : State) (keep : Bool) : State :=
  match s.pw.move with
  | none => s
  | some m =>
    let s := s.modPw (fun w => { w with move := none, target := w.pstep })
    let s := s.modClk (fun c => { c with armValid := false, aborts := satAdd c.aborts 1 })
    let s := if keep then s else writeVlog s (vlogRequest s m.old.toNat)
    record s 0x0502 15 0x7F [3, 0]

/-- PSTEP_ABORT (R523): not verified within 200 µs of the first raise. -/
def execPstepAbort (s : State) : Out :=
  .next (match s.pw.move with
    | some m => if m.phase = 0 ∧ 200 * usTicks ≤ s.since m.began then fallbackMove (abortMove s false) else s
    | none => s)

/-! ### Alarms and relock (R516 to R520) -/

/-- R518: a jitter alarm; 0xFF names no monitor (loss of lock). -/
def jitterAlarm (s : State) (m : Nat) : State :=
  if s.clk.relocking ∨ s.clk.failed ∨ s.th.tripped then s.modClk (fun c => { c with jitter := satAdd c.jitter 1 })
  else
    let s := abortMove s true
    let s := s.modClk (fun c => { c with
      jitter := satAdd c.jitter 1, gated := true, relocking := true, locked := false, tries := 0, checked := false })
    record s 0x0502 15 0x7F ([4] ++ leBytes 1 m)

/-- JITTER_ALARM (R516, R518): a short period at a monitor, or a loss of the PLL's lock. -/
def execJitterAlarm (m : Option (Fin 12)) (s : State) : Out :=
  .next (match m with
    | some m => jitterAlarm (s.modClk (fun c => { c with
        mons := vmod c.mons m (fun x => { x with shortAlarm := true }) })) m.val
    | none => jitterAlarm s 0xFF)

/-- DUTY_ALARM (R517): a monitor has measured a corrected duty cycle, with the corrector's setting. -/
def execDutyAlarm (m : Fin 12) (pct : BitVec 7) (corr : BitVec 5) (s : State) : Out :=
  let bad := decide (pct.toNat < 46 ∨ 54 < pct.toNat)
  .next (s.modClk (fun c => { c with
    duty := if bad then satAdd c.duty 1 else c.duty
    mons := vmod c.mons m (fun x => { x with dutyPct := pct, corr := corr, dutyAlarm := x.dutyAlarm || bad }) }))

/-- DUTY_ALARM_ESCALATE (R517): not cleared within 10 µs. -/
def execDutyAlarmEscalate (m : Fin 12) (s : State) : Out :=
  .next (if (vget s.clk.mons m).dutyAlarm ∧ ((vget s.clk.mons m).dutyPct.toNat < 46 ∨ 54 < (vget s.clk.mons m).dutyPct.toNat) then
      jitterAlarm s m.val else s)

/-- RELOCK_CHECK (R518 steps 4 to 6, R520): ROOTCLK counted over 64 REFCLK cycles. -/
def execRelockCheck (count : Nat) (s : State) : Out :=
  .next (if !s.clk.relocking ∨ s.clk.failed ∨ s.clk.checked then s
    else if 3011 ≤ count ∧ count ≤ 3133 then s.modClk (fun c => { c with checked := true, locked := true })
    else if s.clk.tries < 2 then s.modClk (fun c => { c with tries := c.tries + 1 })
    else record (s.modClk (fun c => { c with tries := c.tries + 1, failed := true })) 0x0502 15 0x7F [5, 0xFF])

/-- RELOCK_RELEASE (R518 steps 7, 8): the NCLK mesh and then the ACLK and CCLK meshes run again. -/
def execRelockRelease (s : State) : Out :=
  .next (if s.clk.relocking ∧ s.clk.checked ∧ !s.clk.failed ∧ !s.th.tripped then
      s.modClk (fun c => { c with
        gated := false, relocking := false, checked := false, tries := 0, relocks := satAdd c.relocks 1 })
    else s)

/-- CLK_LO_READ (R534): register 0 CLK_ARM, 1 CLK_TS, 2 CLK_CHAIN: the read of _LO latches _HI. -/
def execClkLoRead (r : Fin 3) (s : State) : Out :=
  let v : DWord := if r = 0 then s.clk.armCount else if r = 1 then s.ts else s.chain
  let hi := BitVec.ofNat 32 (v.toNat / 2 ^ 32)
  let s := s.modClk (fun c =>
    if r = 0 then { c with armHi := hi } else if r = 1 then { c with tsHi := hi } else { c with chainHi := hi })
  .next (s.returns (leBytes 4 v.toNat))

/-! ### Temperature (R494, R525 to R528) -/

/-- Sensors of a parcel: its eight core sensors and its router's (R525). -/
def parcelSensors (p : Nat) : List (Fin 112) :=
  (List.finRange 112).filter (fun i => decide ((i.val < 96 ∧ i.val / 8 = p) ∨ i.val = 96 + p))

/-- The parcel of a sensor. -/
def sensorParcel (i : Fin 112) : Option Nat :=
  if i.val < 96 then some (i.val / 8) else if i.val < 108 then some (i.val - 96) else none

/-- R525, R526: what a sensor counts as, in units of 0.125 °C. -/
def sensorValue (s : State) (i : Fin 112) : Int :=
  let x := vget s.th.sens i
  if !x.failed then x.temp.toInt
  else match sensorParcel i with
    | none => -1024
    | some p =>
      match ((parcelSensors p).filter (fun j => !(vget s.th.sens j).failed)).map (fun j => (vget s.th.sens j).temp.toInt) with
      | [] => 8 * (s.pw.limA.tjReg.toNat : Int)
      | t :: ts => ts.foldl max t + 24

/-- Tj_max in units of 0.125 °C (R494, R525, R526). -/
def tjMax8 (s : State) : Int := ((List.finRange 112).map (fun i => sensorValue s i)).foldl max (-1024)

/-- Tj_max in °C. -/
def tjMax (s : State) : Rat := (tjMax8 s : Rat) / 8

/-- R529: the readings of TJ_MEAN that ACTIVE_MEAN spans. -/
def noteMean (s : State) : State :=
  if s.pw.wstate = 0 then s.modTh (fun t => { t with means := (tjMean s :: t.means).take 60000 }) else s

/-- R494: one millisecond of the Tj loop. -/
def tjStep (s : State) : State :=
  let reg : Rat := (s.pw.limA.tjReg.toNat : Rat)
  let tj := tjMax s
  let s := if !s.pw.tjActive then
      (if reg - 2 ≤ tj then s.modPw (fun w => { w with tjActive := true, aTj := w.est, tjQuiet := none }) else s)
    else s
  if !s.pw.tjActive then s
  else
    let a := clampRat (s.pw.aTj + 4 * (reg - 1 - tj)) 100 (s.pw.limA.plShort.toNat : Rat)
    let s := s.modPw (fun w => { w with
      aTj := a, tjQuiet := if tj ≤ reg - 5 then some (w.tjQuiet.getD s.ts) else none })
    match s.pw.tjQuiet with
    | some t => if 100 * msTicks ≤ s.since t then s.modPw (fun w => { w with tjActive := false, tjQuiet := none }) else s
    | none => s

/-- SENSOR_FAILED (R526). -/
def execSensorFailed (i : Fin 112) (s : State) : Out :=
  .next (if (vget s.th.sens i).failed then s
    else
      let t := (vget s.th.sens i).temp
      record (s.modTh (fun x => { x with sens := vmod x.sens i (fun y => { y with failed := true }) })) 0x0503 15 0x7F
        ([2] ++ leBytes 1 i.val ++ leBytes 2 t.toNat))

/-- TJ_WARN (R527): Tj_max is compared with TH_WARN. -/
def execTjWarn (s : State) : Out :=
  let tj := tjMax8 s
  let w := 8 * (s.th.thWarn.toNat : Int)
  .next (thermalWatch (if !s.th.warn ∧ w ≤ tj then
      record (s.modTh (fun t => { t with warn := true })) 0x0503 15 0x7F ([1, 0xFF] ++ leBytes 2 (tc 16 tj))
    else if s.th.warn ∧ tj ≤ w - 40 then s.modTh (fun t => { t with warn := false })
    else s))

/-- THERMTRIP (R528): four consecutive raw samples of a sensor at or above 115 °C. -/
def execThermtrip (i : Fin 112) (s : State) : Out :=
  .next (if s.th.tripped then s
    else
      let s := s.modTh (fun t => { t with
        tripped := true, tripSensor := BitVec.ofNat 7 i.val, tripValid := true, kwActive := false, heat := 0 })
      let s := s.modClk (fun c => { c with gated := true, relocking := false, armValid := false })
      writeVlog (s.modPw (fun w => { w with move := none, target := w.pstep })) 500)

/-! ### Keep-warm (R529 to R531) -/

/-- Parcels in the order in which they warm, alternating east and west (R3, R530). -/
def warmOrder : List Nat := [0, 6, 1, 7, 2, 8, 3, 9, 4, 10, 5, 11]

/-- Enabled, unretired cores of a parcel. -/
def parcelCores (s : State) (p : Nat) : Nat :=
  ((List.finRange 96).filter (fun c => decide (c.val / 8 = p) && !coreAbsent c && !(s.core c).retired)).length

/-- Parcels that must warm to reach `h` watts; none where all twelve cannot (R530). -/
def warmCount (s : State) (h : Rat) : Option Nat :=
  (List.range 13).find? (fun n =>
    decide (h ≤ sumRat ((warmOrder.take n).map (fun p => Config.parcelHeat (parcelCores s p)))))

/-- KEEP_WARM_TICK (R529 to R531): one second of the loop in W3 or W4. -/
def execKeepWarmTick (s : State) : Out :=
  .next (if (primary? s).isNone ∨ s.pw.wstate.toNat < 3 ∨ !s.th.kwEn ∨ s.th.tripped ∨ s.pw.exiting then
      (if s.th.kwEn then s else s.modTh (fun t => { t with kwActive := false, heat := 0, kwLimited := false }))
    else
      let t := s.th
      let m := tjMean s
      let active := if t.means.isEmpty then m else sumRat t.means / (t.means.length : Rat)
      let f := max (t.kwFloor.toNat : Rat) (active - (t.kwDrop.toNat : Rat))
      let r0 := if t.kwActive then t.kwRef else m
      let r := max f (min r0 m - (t.kwRate.toNat : Rat) / 60)
      let kp : Rat := (t.kwPower.toNat : Rat)
      let h := clampRat (t.heat + 3 * (r - m)) 0 kp
      let lim := decide (h = kp ∧ m < r) || (warmCount s h).isNone
      let s := s.modTh (fun t => { t with
        kwActive := true, kwRef := r, floorEff := f, heat := h, kwLimited := lim })
      let p : Nat := if 0 < h then 4 else 8
      if s.pw.pstep.toNat = p then s
      else
        let s := s.modPw (fun w => { w with pstep := BitVec.ofNat 4 p, target := BitVec.ofNat 4 p })
        writeVlog (s.modClk (fun c => { c with cur := BitVec.ofNat 4 p })) (vlogRequest s p))

end Sys2Proof.Machine
end

