-- ==== Sys2Proof/Machine/Ds.lean ====
section
/-! DEFINITION.  What closure firmware computes: the judgement, commit and clearing of delayed-scaling
entries (R64 to R69), the shard digest (R355), the noise step (R338 to R341), UTC (R563). -/

namespace Sys2Proof.Machine

open Sys2Proof

/-! ### Access to a partition's closure -/

/-- Changes the closure context of a partition. -/
def modCl (s : State) (p : Fin 12) (f : Closure → Closure) : State := s.modPart p (fun q => { q with cl := f q.cl })
/-- The slot of a step (R344). -/
def parOf (k : Word) : Fin 2 := ⟨k.toNat % 2, Nat.mod_lt _ (by decide)⟩
/-- A step slot. -/
def slotAt (s : State) (p : Fin 12) (i : Fin 2) : Slot := vget (s.part p).cl.slots i
/-- Changes a step slot. -/
def modSlot (s : State) (p : Fin 12) (i : Fin 2) (f : Slot → Slot) : State :=
  modCl s p (fun c => { c with slots := vmod c.slots i f })

/-- Seconds since 1970 at this moment; 0 until TIME_SET (R563). -/
def utcNow (s : State) : Nat :=
  if s.sec.timeValid then s.sec.utcBase.toNat + (s.ts - s.sec.tsBase).toNat / 1600000000 else 0

/-! ### Delayed scaling (R65, R68, R69) -/

/-- Address of entry `i` of a partition's table. -/
def dsAddr (base i : Nat) : Nat := base + 64 * i

/-- What the reading of one entry shows: NUMERIC, POISON, poison among its first 32 bytes (R68, R259). -/
structure DsFound where
  numeric : Bool
  poison : Bool
  fixed : Bool
  deriving DecidableEq, Repr

/-- R68: an entry's slot of parity `par` is unhealthy. -/
def dsUnhealthy (e : List Byte) (par : Nat) : Bool :=
  let o := 16 + 24 * par
  let fl := natAt e 3 1
  let amax := match decodeFloat f32 (natAt e (o + 20) 4 % 2 ^ 31) with | .fin _ m x => (m, x) | _ => (0, 0)
  let big := match Fmt.ofCode (natAt e 2 1) with
    | some f => f.isBq && bit fl (3 + par) && !dyLe amax.1 amax.2 (2 * f.qmax) (sext 8 (natAt e 0 1))
    | none => false
  decide (natAt e 4 2 * natAt e (o + 4) 8 < natAt e (o + 12) 4 * 1000000) || decide (0 < natAt e (o + 16) 2) ||
    decide (0 < natAt e (o + 18) 2) || big || bit fl (1 + par)

/-- R68, R354: the judgement of one entry for step `k`. -/
def dsJudge (s : State) (p : Fin 12) (base : Nat) (k : Word) (i : Nat) : DsFound :=
  let a := dsAddr base i
  if !platOk s .rd p.val a 64 then ⟨true, false, false⟩
  else if s.poisoned a 32 then ⟨false, true, true⟩
  else if s.poisoned (a + 32) 32 then ⟨false, true, false⟩
  else
    let e := s.bytes a 64
    let par := k.toNat % 2
    let mine := decide (natAt e (16 + 24 * par) 4 = k.toNat)
    ⟨(mine && dsUnhealthy e par) || bit (natAt e 3 1) (1 + par), false, false⟩

/-- The table's judgement: every entry is read. -/
def dsScan (s : State) (p : Fin 12) (k : Word) : DsFound :=
  match (s.part p).dsBase with
  | none => ⟨false, false, false⟩
  | some b => (List.range 4096).foldl (fun f i =>
      let g := dsJudge s p b.toNat k i
      ⟨f.numeric || g.numeric, f.poison || g.poison, f.fixed || g.fixed⟩) ⟨false, false, false⟩

/-- Bytes of an entry with its slot of parity `par` cleared and owned by `next` (R69). -/
def dsClear (e : List Byte) (par : Nat) (next : Word) : List Byte :=
  let fl := natAt e 3 1
  let fl := fl - (if bit fl (1 + par) then 2 ^ (1 + par) else 0) - (if bit fl (3 + par) then 2 ^ (3 + par) else 0)
  let o := 16 + 24 * par
  bytesAt e 0 3 ++ leBytes 1 fl ++ bytesAt e 4 (o - 4) ++ leBytes 4 next.toNat ++ List.replicate 20 0 ++
    bytesAt e (o + 24) (64 - (o + 24))

/-- E(a) of R53 for an FP32 magnitude that is not zero. -/
def expOf (f : Fmt) (amax : Nat) : Int :=
  match decodeFloat f32 (amax % 2 ^ 31) with | .fin _ m x => scaleExp f.qmax m x | _ => 0

/-- The format of an entry that firmware may rescale: BQ and not FROZEN (R69). -/
def dsOpen (e : List Byte) : Option Fmt :=
  match Fmt.ofCode (natAt e 2 1) with
  | some f => if f.isBq && !bit (natAt e 3 1) 0 then some f else none
  | none => none

/-- Bytes of an entry with another EXP. -/
def dsWithExp (e : List Byte) (x : Int) : List Byte := leBytes 1 (tc 8 (clampInt x (-126) 127)) ++ bytesAt e 1 63

/-- R69: an entry at the commit of a healthy step of parity `par`. -/
def dsCommit (e : List Byte) (par : Nat) (next : Word) : List Byte :=
  let amax := natAt e (16 + 24 * par + 20) 4
  let a := max amax (natAt e 8 4 % 2 ^ 31)
  let e := match dsOpen e with
    | some f => if a = 0 then e else dsWithExp e (expOf f a + (field (natAt e 1 1) 0 3 : Nat))
    | none => e
  dsClear (bytesAt e 0 8 ++ leBytes 4 amax ++ bytesAt e 12 52) par next

/-- R69: an entry before a replay of step `k`; `widen` where it took part in the verdict. -/
def dsReplay (widen : Bool) (e : List Byte) (par : Nat) (k : Word) : List Byte :=
  let amax := natAt e (16 + 24 * par + 20) 4
  let old := sext 8 (natAt e 0 1)
  let e := match (if widen then dsOpen e else none) with
    | some f =>
      let new := if amax = 0 then old + 1 else max (expOf f amax + (field (natAt e 1 1) 0 3 : Nat)) (old + 1)
      dsWithExp e new
    | none => e
  dsClear e par k

/-- R69, R259: an entry at `a` before a replay of step `k`; where its second sector is poisoned the other slot lies in it too,
and is cleared for the next step, which runs again after the replay (R364). -/
def dsMend (s : State) (a : Nat) (widen : Bool) (e : List Byte) (par : Nat) (k : Word) : List Byte :=
  let e := dsReplay widen e par k
  if s.poisoned (a + 32) 32 then dsClear e (1 - par) (k + 1) else e

/-- Rewrites every entry of the table that firmware can read and whose first half is sound (R259).  Where it writes one slot
only, not the `whole` second sector, a poisoned second sector stays so (R226). -/
def dsEach (s : State) (p : Fin 12) (whole : Bool) (f : State → Nat → List Byte → List Byte) : State :=
  match (s.part p).dsBase with
  | none => s
  | some b => (List.range 4096).foldl (fun s i =>
      let a := dsAddr b.toNat i
      if platOk s .wr p.val a 64 && !s.poisoned a 32 then
        let t := s.write a (f s a (s.bytes a 64)) false
        if !whole && s.poisoned (a + 32) 32 then t.mark (a + 32) 32 else t
      else s) s

/-- R69: both slots of every entry cleared; the step `first` and the one after it own them. -/
def dsFresh (s : State) (p : Fin 12) (first : Word) : State :=
  dsEach s p true (fun _ _ e => dsClear (dsClear e (first.toNat % 2) first) ((first + 1).toNat % 2) (first + 1))

/-! ### The shard and its digest (R355) -/

/-- A range list of 16-byte entries. -/
def rangeList (s : State) (base n : Nat) : List (Nat × Nat) :=
  (List.range n).map (fun i => (s.num (base + 16 * i) 6, s.num (base + 16 * i + 8) 4))

/-- The shard of a partition. -/
def shardOf (s : State) (p : Fin 12) : List (Nat × Nat) := rangeList s (polNat s p 60 6) (polNat s p 18 2)

/-- h_j of a sector. -/
def sectorHash (j : Nat) (bs : List Byte) : DWord :=
  (List.range 4).foldl (fun h i => mix64 (h ^^^ BitVec.ofNat 64 (natAt bs (8 * i) 8))) (mix64 (BitVec.ofNat 64 (j + 1)))

/-- R355: the digest of a list of ranges. -/
def rangeDigest (s : State) (rs : List (Nat × Nat)) : DWord :=
  let sectors := rs.flatMap (fun r => (List.range (r.2 / 32)).map (fun i => r.1 + 32 * i))
  sectors.zipIdx.foldl (fun h p => h + sectorHash p.2 (s.bytes p.1 32)) 0

/-- The 4 KiB blocks of the fingerprint list: address, and the core whose UP writes it (R396). -/
def fpBlocks (s : State) (p : Fin 12) : List (Nat × Nat) :=
  let u := (s.part p).uc
  (List.range u.count.toNat).flatMap (fun i =>
    let e := u.list.toNat + 16 * i
    let a := s.num e 6
    let c := field (s.num (e + 6) 1) 0 7
    (List.range (s.num (e + 8) 4 / 4096)).map (fun n => (a + 4096 * n, c)))

/-- A byte of the ranges is poisoned. -/
def rangePoison (s : State) (rs : List (Nat × Nat)) : Bool := rs.any (fun r => s.poisoned r.1 r.2)

/-! ### The noise step (R337 to R341) -/

/-- Addresses of the statistics tensors that the programs of a partition name (DEDUCED, log 60): those of
the RED_EXPECTs with NOISE in the step cores' program memories. -/
def noiseTensors (s : State) (p : Fin 12) : List Nat :=
  ((stepCores s p).flatMap (fun c => (List.range 2048).filterMap (fun i =>
    let w := s.num (progAddr c i) 32
    if insEng w = 4 ∧ insOp w = 2 ∧ bit w 186 then
      some ((absT c (s.num (descAddr c (insAux w)) 64)).runSpan 0).1
    else none))).dedup

/-- The sender's noise totals: SUMSQ, SQSUM, COUNT, ELEMS, and whether they are invalid (R338, R359, R360). -/
def noiseOwn (s : State) (p : Fin 12) : Nat × Nat × Nat × Nat × Bool :=
  let ts := (noiseTensors s p).map (fun a => s.bytes a 48)
  let cap := fun (x : Nat) => min x (2 ^ 128 - 1)
  let sum := fun (off : Nat) => ts.foldl (fun t e => cap (t + natAt e off 16)) 0
  let counts := ts.map (fun e => natAt e 32 4)
  let same := counts.all (fun n => n == counts.headD 0)
  (sum 0, sum 16, if same then counts.headD 0 else 0xFFFFFFFF,
    min ((ts.map (fun e => natAt e 36 4)).foldl (· + ·) 0) 0xFFFFFFFF,
    decide (counts.headD 0 < 2) || !same || ts.any (fun e => natAt e 40 4 % 4 ≠ 0))

/-- Binary64 arithmetic under RNE. -/
def dAdd (x y : Num) : Num := (fAdd f64 .rne x y).1
def dSub (x y : Num) : Num := (fAdd f64 .rne x y.neg).1
def dMul (x y : Num) : Num := (fMul f64 .rne x y).1
def dDiv (x y : Num) : Num := (fDiv f64 .rne x y).1
/-- An integer times 2^e in binary64. -/
def dNat (n : Nat) (e : Int) : Num := if n = 0 then Num.zero else (roundFloat f64 .rne false n 1 e).num
/-- A binary64 pattern. -/
def dBits (x : Num) : DWord := BitVec.ofNat 64 (encodeFloat f64 x)

/-- R338: the averages after a step with the closure set's totals: G2e, Se, Bn. -/
def noiseStep (x : Xc) (sumsq sqsum count : Nat) : Num × Num × Num :=
  let n := dNat count 0
  let b := dMul (dNat x.noiseB.toNat 0) (dNat x.cur.toNat 0)
  let d := if x.sums then dMul b b else dNat 1 0
  let gs := dDiv (dNat sumsq (-64)) (dMul n d)
  let gb := dDiv (dNat sqsum (-64)) (dMul (dMul n n) d)
  let n1 := dSub n (dNat 1 0)
  let g2 := dDiv (dSub (dMul n gb) gs) n1
  let sv := dDiv (dMul (dMul n b) (dSub gs gb)) n1
  let beta := decodeFloat f32 x.beta.toNat
  let rest := dSub (dNat 1 0) beta
  let g := dAdd (dMul beta (decodeFloat f64 x.g2e.toNat)) (dMul rest g2)
  let se := dAdd (dMul beta (decodeFloat f64 x.se.toNat)) (dMul rest sv)
  (g, se, dDiv se g)

/-- ⌈x⌉ of a finite number that is not negative, divided by a positive integer. -/
def numCeilDiv (x : Num) (d : Nat) : Option Nat :=
  match x with
  | .fin neg m e =>
    if d = 0 then none else if neg then some 0
    else some (if 0 ≤ e then ceilDiv (m * 2 ^ e.toNat) d else ceilDiv m (d * 2 ^ (-e).toNat))
  | _ => none

/-- R339: the micro-batch count that STEER decides, where it decides a change. -/
def steerTo (x : Xc) (bn : Num) : Option Nat :=
  match numCeilDiv bn (x.noiseB.toNat * x.replicas.toNat) with
  | none => none
  | some t =>
    let cur := x.cur.toNat
    let clamp := fun (v lo hi : Nat) => if v < lo then lo else if hi < v then hi else v
    let mt := clamp (clamp t x.mbMin.toNat x.mbMax.toNat) (ceilDiv cur 2) (2 * cur)
    let diff := if mt < cur then cur - mt else mt - cur
    if max 1 (cur / 4) ≤ diff ∧ x.hold.toNat ≤ x.sinceChange then some mt else none

end Sys2Proof.Machine
end

