-- ==== Sys2Proof/Machine/Replay.lean ====
section
/-! DEFINITION.  Steps, their release on cores, halting, replay, and the leaving of cores (R266, R267, R344
to R351, R364 to R366, R429 to R433). -/

namespace Sys2Proof.Machine

open Sys2Proof

/-- Step states (R344). -/
def stIDLE : BitVec 4 := 0
def stOPEN : BitVec 4 := 1
def stREDUCED : BitVec 4 := 2
def stCHECKED : BitVec 4 := 3
def stCOMMITTED : BitVec 4 := 4
def stREPLAY : BitVec 4 := 5
def stABANDONED : BitVec 4 := 6
def stFAULTED : BitVec 4 := 7

/-- Cause bits (R365). -/
def cNUMERIC : Nat := 1
def cPOISON : Nat := 2
def cDIGEST : Nat := 4
def cSUSPECT : Nat := 8
def cFAULT : Nat := 16
def cPEER : Nat := 32
def cRETIRE : Nat := 64
def cTIMEOUT : Nat := 128
def cDIVERGED : Nat := 256
def cNONREPRO : Nat := 512

/-- A step is unclosed (R344). -/
def Slot.unclosed (x : Slot) : Bool :=
  x.state == stOPEN || x.state == stREDUCED || x.state == stCHECKED || x.state == stREPLAY || x.state == stFAULTED

/-- The older unclosed step: the one whose closure is next (R348). -/
def closing? (s : State) (p : Fin 12) : Option (Fin 2) :=
  let a := slotAt s p 0
  let b := slotAt s p 1
  if a.unclosed && b.unclosed then some (if a.stepId + 1 = b.stepId then 0 else 1)
  else if a.unclosed then some 0 else if b.unclosed then some 1 else none

/-- The other slot of a partition. -/
def otherSlot (i : Fin 2) : Fin 2 := if i = 0 then 1 else 0

/-- R268: control firmware runs: no live update holds it, and its control plane works. -/
def fwRuns (s : State) : Bool := !s.kci.paused && !s.kci.cpFault && s.ms.mstepTo.isNone

/-- The slot that holds step `k` unclosed. -/
def holds (s : State) (p : Fin 12) (k : Word) : Option (Fin 2) :=
  let x := slotAt s p (parOf k)
  if x.unclosed && decide (x.stepId = k) then some (parOf k) else none

/-- A step enters a state; the control plane learns of it (R24, R586). -/
def setStep (s : State) (p : Fin 12) (i : Fin 2) (st : BitVec 4) : State :=
  let x := slotAt s p i
  record (modSlot s p i (fun x => { x with state := st })) 0x0201 p.val 0x7F
    (leBytes 4 x.stepId.toNat ++ leBytes 1 x.state.toNat ++ leBytes 1 st.toNat ++ leBytes 2 x.causes.toNat)

/-- Adds cause bits. -/
def addCause (s : State) (p : Fin 12) (i : Fin 2) (c : Nat) : State :=
  modSlot s p i (fun x => { x with causes := x.causes ||| BitVec.ofNat 16 c })

/-- R346: the STEP_OPEN handle of a slot's step completes. -/
def finishOpen (s : State) (p : Fin 12) (i : Fin 2) (status : Nat) : State :=
  let x := slotAt s p i
  match (liveOf s 0x28 p).find? (fun c => decide (c.b 16 4 = x.stepId.toNat)) with
  | some c => finish s c status 0 (leBytes 4 x.stepId.toNat ++ leBytes 2 x.causes.toNat ++ leBytes 1 x.replays.toNat)
  | none => s

/-- R366: the step stays in CHECKED, halted. -/
def haltStep (s : State) (p : Fin 12) (i : Fin 2) (c : Nat) : State :=
  let s := modSlot (addCause s p i c) p i (fun x => { x with halted := true, peerWait := decide (c = cTIMEOUT) })
  let s := if (slotAt s p i).state = stCHECKED then s else setStep s p i stCHECKED
  finishOpen s p i kFAULT

/-! ### Firmware and the step counters (R349, R351, R368) -/

/-- Firmware signals a counter of the policy by 1: byte `off` of the policy block. -/
def fwSignal (s : State) (p : Fin 12) (off : Nat) (c : Fin 96) : State :=
  signal s c (ctrOf (polNat s p off 1)) 15 0xFFFF 1 false

/-- R368: COUNT of a sequencer LOOP, where the slot holds one. -/
def writeCount (s : State) (c : Fin 96) (slot count : Nat) : State :=
  if isLoop (s.num (progAddr c slot) 32) then s.write (progAddr c slot + 16) (leBytes 3 count) false else s

/-- EVAL_GO by 1 on every step core, with the evaluation loop's COUNT; EVAL_DONE is then awaited. -/
def evalGo (s : State) (p : Fin 12) (count wait : Nat) : State :=
  let s := modCl s p (fun c => { c with evalDone := [], evalWait := wait })
  (stepCores s p).foldl (fun s c =>
    let s := if bit (polNat s p 1 1) 1 then writeCount s c (field (polNat s p 10 2) 0 11) count else s
    fwSignal s p 7 c) s

/-! ### Origin logs (R155, R156, R351, R370) -/

/-- Origin entries in each area of a core. -/
def half (s : State) (p : Fin 12) : Nat := polNat s p 28 4
/-- R372: area `a` of core `c` (0, 1 the parity halves, 2 the replay area). -/
def logArea (s : State) (p : Fin 12) (c a : Nat) : Nat := polNat s p 72 6 + (3 * c + a) * half s p * 16
/-- The step last released on a core. -/
def tagOf (k : Core) : Word := (k.tagPend.getLast?.map Prod.fst).getD k.stepTag

/-- Firmware keeps the end and the overflow of the half that a core leaves. -/
def keepLog (s : State) (p : Fin 12) (c : Fin 96) : State :=
  let lg := (s.core c).lg
  modSlot s p (parOf (tagOf (s.core c))) (fun x => { x with
    logs := aset x.logs c.val (min lg.ologWptr.toNat (half s p))
    ovfs := if lg.ologOvf then insRise x.ovfs c.val else x.ovfs.filter (· ≠ c.val) })

/-- R358, R360: a core's log half of the step's parity has OLOG_OVF set. -/
def halfOvf (s : State) (p : Fin 12) (i : Fin 2) (c : Fin 96) : Bool :=
  if parOf (tagOf (s.core c)) = i then (s.core c).lg.ologOvf else (slotAt s p i).ovfs.contains c.val

/-- R360: some step core's log half of the step's parity has overflowed. -/
def nonrepro (s : State) (p : Fin 12) (i : Fin 2) : Bool := (stepCores s p).any (halfOvf s p i)

/-- ENG and SEQ of an origin entry. -/
def originKey (e : List Byte) : Nat := field (natAt e 8 2) 11 4 * 65536 + natAt e 10 2

/-- R157, R370: a core's origin entries of step `k`, sorted by ENG and SEQ. -/
def originsOf (s : State) (p : Fin 12) (c : Fin 96) (k : Word) : List (List Byte) :=
  let held := fun (i : Fin 2) =>
    if parOf (tagOf (s.core c)) = i then min (s.core c).lg.ologWptr.toNat (half s p)
    else (aget (slotAt s p i).logs c.val).getD 0
  let all := ([0, 1] : List (Fin 2)).flatMap (fun i => (List.range (held i)).map (fun n =>
    s.bytes (logArea s p c.val i.val + 16 * n) 16))
  sortStable (fun a b => decide (originKey a < originKey b)) (all.filter (fun e => decide (natAt e 12 4 = k.toNat)))

/-- R157: origin entries in a core's replay area, the replay registers set on it. -/
def loadOrigins (s : State) (p : Fin 12) (c : Fin 96) (es : List (List Byte)) (replay : Bool) : State :=
  let a := logArea s p c.val 2
  let s := s.write a es.flatten false
  let first := fun (e : Nat) => (es.findIdx? (fun x => decide (field (natAt x 8 2) 11 4 = e))).getD es.length
  s.modCore c (fun k => { k with lg := { k.lg with
    replay := replay, rplStale := List.range 10, rplBase := BitVec.ofNat 48 a, rplSize := BitVec.ofNat 20 es.length
    rplPtr := Vector.ofFn (fun e => BitVec.ofNat 20 (first e.val)) } })

/-! ### Release (R351) -/

/-- R351: the step of slot `i` is released on a core: log half, STEP_TAG, START.  A core at Watch becomes a
suspect of the step (R356); REPLAY of the lane generators ends with the replayed step (log 61). -/
def releaseOn (s : State) (p : Fin 12) (i : Fin 2) (replay : Bool) (c : Fin 96) : State :=
  let k := (slotAt s p i).stepId
  let s := keepLog s p c
  let s := s.modCore c (fun x => { x with lg := { x.lg with
    ologBase := BitVec.ofNat 48 (logArea s p c.val i.val), ologSize := BitVec.ofNat 20 (half s p)
    ologWptr := 0, ologDrops := 0, ologOvf := false, replay := x.lg.replay && replay } })
  let s := fwSignal (writeTag s c k) p 4 c
  modSlot s p i (fun x => { x with
    released := insRise x.released c.val, logs := adel x.logs c.val, ovfs := x.ovfs.filter (· ≠ c.val)
    suspects := if (vget s.serv.cores c).level = 1 ∧ x.suspects.all (fun u => decide (u.core ≠ c.val)) then
      x.suspects ++ [⟨c.val, none, 0⟩] else x.suspects })

/-- R351: step `k` of slot `i` is due on a core: it stands OPEN, the core has no part of it yet, and has signalled DONE
for step `k` − 1.  A step that was REDUCED when the one before it entered REPLAY is due again too (R364, log 72). -/
def dueOn (s : State) (p : Fin 12) (i : Fin 2) (c : Fin 96) : Bool :=
  let x := slotAt s p i
  let y := slotAt s p (otherSlot i)
  (x.state == stOPEN || x.state == stREDUCED) && x.replayPos == 0 && !x.released.contains c.val &&
    !x.done.contains c.val && !(y.state != stIDLE && y.stepId + 1 == x.stepId && !y.done.contains c.val)

/-- R351: firmware releases the steps of a partition wherever they are due. -/
def releaseDue (s : State) (p : Fin 12) : State :=
  ([0, 1] : List (Fin 2)).foldl (fun s i =>
    (stepCores s p).foldl (fun s c => if dueOn s p i c then releaseOn s p i false c else s) s) s

/-! ### Retirement (R432, R433, R440) -/

/-- Cores with a property. -/
def countCores (f : Fin 96 → Bool) : Nat := ((List.finRange 96).filter f).length

/-- TS_SUMMARY (R434, R440). -/
def tsSummary (s : State) : Nat :=
  let fused := countCores (fun c => !coreAbsent c)
  let ret := countCores (fun c => !coreAbsent c && (s.core c).retired)
  let quar := countCores (fun c => !coreAbsent c && !(s.core c).retired && coreOut s c)
  fused + ret * 2 ^ 8 + quar * 2 ^ 16 + (fused - ret - quar) * 2 ^ 24

/-- R432, R433: the soft fuse is written, then RETIRED is set and reported. -/
def retireCore (s : State) (c : Fin 96) : State :=
  if (s.core c).retired then s
  else
    let s := { s with serv := { s.serv with softFuses := insRise s.serv.softFuses c.val } }
    let s := s.modCore c (fun k => { k with retired := true, fetching := false, halted := false, stopped := true })
    let s := abortKernel (modTc s c (fun t => { t with advised := false })) c
    recordCore s 0x0602 c (leBytes 4 (tsSummary s))

/-! ### Replay (R266, R267, R364) -/

/-- R88: stops a core that runs, or that a fault has stopped. -/
def haltCore (s : State) (c : Fin 96) : State :=
  if (s.core c).stopped && !(s.core c).faulted then s else settleStop (stopCore s c) c

/-- Buddies that run a check of a slot's step. -/
def Slot.buddies (x : Slot) : List (Fin 96) :=
  x.suspects.filterMap (fun u => if u.status = 1 then u.buddy.bind coreOf? else none)

/-- R268, R364: checks that have not failed begin again. -/
def Slot.recheck (x : Slot) : Slot :=
  { x with suspects := x.suspects.map (fun u => if u.status = 3 then u else { u with status := 0, buddy := none }) }

/-- R266, step 1; the attempt's suspect checks are dropped (R375), those of the next step begin again with its work
(R364).  Where a core is to leave, REPLAY follows once it has left (R267). -/
def startReplay (s : State) (p : Fin 12) (i : Fin 2) (counts : Bool) : State :=
  let x := slotAt s p i
  let y := slotAt s p (otherSlot i)
  let s := modSlot s p i (fun x => { x with
    replays := if counts then satAdd x.replays 1 else x.replays, attempts := x.attempts + 1
    replayed := true, replayPos := 1, halted := false, peerWait := false, suspects := [], checked := false
    digest := none, sent := false, pos := 0, abandoned := false, curing := false, turn := 0 })
  let s := modSlot s p (otherSlot i) Slot.recheck
  let s := modCl s p (fun c => { c with replays := satAdd c.replays 1, gate := 0 })
  let s := if x.state = stREPLAY ∨ !x.leaving.isEmpty then s else setStep s p i stREPLAY
  let s := modXc s p (fun y => { y with active := false })
  let gone := x.leaving.filterMap (fun l => coreOf? l.1)
  (stepCores s p ++ gone ++ x.buddies ++ y.buddies).foldl haltCore s

/-- Address of the entry of index `j` in a mailbox at `base` (R359). -/
def mailAddr (base size : Nat) (k : Word) (j : Nat) : Nat := base + (k.toNat % 2 * size + j) * 64

/-- The entries of the mailbox that count: index and bytes (R359). -/
def countingEntries (s : State) (p : Fin 12) (i : Fin 2) : List (Nat × List Byte) :=
  let x := slotAt s p i
  let size := polNat s p 12 2
  (List.range size).filterMap (fun j =>
    let e := s.bytes (mailAddr (polNat s p 48 6) size x.stepId j) 64
    if natAt e 60 4 = crc32 (e.take 60) ∧ natAt e 0 4 = x.stepId.toNat ∧
        natAt e 4 1 % 16 = ((s.part p).xc.attempt (decide (i.val = 1))).toNat then some (j, e) else none)

/-- R361: a counting entry of a peer has a failure bit. -/
def peerFails (s : State) (p : Fin 12) (i : Fin 2) : Bool :=
  (countingEntries s p i).any (fun e => decide (e.1 ≠ polNat s p 14 2) && decide (natAt e.2 5 1 % 16 ≠ 0))

/-- R375: a peer's failure for the same attempt is recorded beside the own. -/
def notePeer (s : State) (p : Fin 12) (i : Fin 2) : State := if peerFails s p i then addCause s p i cPEER else s

/-- R354, R365, R366: the step of slot `i` fails with causes; after a pass that ended in revert it halts (R401). -/
def failStep (s : State) (p : Fin 12) (i : Fin 2) (c : Nat) : State :=
  let x := slotAt s p i
  let s := notePeer s p i
  if x.state = stREPLAY ∨ x.replayPos ≠ 0 then addCause s p i c
  else if (s.part p).uc.revert then haltStep s p i (c ||| cDIVERGED)
  else if c &&& (cTIMEOUT ||| cDIVERGED) ≠ 0 then haltStep s p i c
  else if decide (x.replays.toNat = polNat s p 2 1) then haltStep s p i c
  else startReplay (addCause s p i c) p i true

/-- R266, step 4 and R364: cores start, the step is released, commit k − 1 is granted again. -/
def replayStart (s : State) (p : Fin 12) (i : Fin 2) : State :=
  let s := modSlot s p i (fun x => { x with replayPos := 0, verdict := 0, leaving := [] })
  let s := (stepCores s p).foldl startCore s
  let s := setStep s p i stOPEN
  let s := (stepCores s p).foldl (fun s c => releaseOn s p i true c) s
  evalGo s p 0 3

/-- The barrier that orders the replays of a job (R266): the context of the partition's JOB. -/
def replayBarrier (s : State) (p : Fin 12) : Option (Fin 16) := (s.part p).job.bind (barOf s)
/-- R266: no other partition takes part in the step. -/
def setAlone (s : State) (p : Fin 12) : Bool := decide (polNat s p 12 2 ≤ 1)

/-- Firmware arrives at the barrier. -/
def replayArrive (s : State) (p : Fin 12) (i : Fin 2) (b : Fin 16) : State :=
  let g := (vget s.fab.bars b).gen
  barArrive (modSlot s p i (fun x => { x with replayPos := 2, barGen := g })) b g (fun y => { y with
    arrived := true, since := s.ts })

/-- R266: step 4 begins at once where the set has one partition, and else over the barrier, for which a context is awaited
where none is set up (log 72). -/
def replayMeet (s : State) (p : Fin 12) (i : Fin 2) : State :=
  if setAlone s p then replayStart s p i
  else match replayBarrier s p with
    | some b => replayArrive s p i b
    | none => modSlot s p i (fun x => { x with replayPos := 4 })

/-- R266, step 3: counters, health slots, replay tables; then the barrier. -/
def replayPrepare (s : State) (p : Fin 12) (i : Fin 2) : State :=
  let x := slotAt s p i
  let k := x.stepId
  let numeric := bit x.verdict.toNat 0
  let base := match (s.part p).dsBase with | some b => b.toNat | none => 0
  let nr := nonrepro s p i
  let tabs := (stepCores s p).map (fun c => (c, (originsOf s p c k).take (half s p)))
  let halted := (coresOf s p).filter (fun c => isStepCore s c || x.leaving.any (fun l => l.1 == c.val) ||
    (isBuddy s c && (s.core c).stopped))
  let s := halted.foldl (fun s c => s.modCore c (fun y =>
    { clearCtrs y with num := { y.num with poisonNosig := false }, sigs := [] })) s
  let s := dsEach s p true (fun s a e => dsMend s a (numeric && (dsJudge s p base k ((a - base) / 64)).numeric) e i.val k)
  let s := tabs.foldl (fun s t => loadOrigins s p t.1 t.2 (!nr)) s
  replayMeet (if nr then addCause s p i cNONREPRO else s) p i

/-- R266 step 2, R267 steps 2 to 4: cores leave, the step is in REPLAY, ATTEMPT advances.  The next step, where its cores
have begun it, is redone (R364). -/
def replayAdvance (s : State) (p : Fin 12) (i : Fin 2) : State :=
  let x := slotAt s p i
  let s := notePeer s p i
  let s := x.leaving.foldl (fun s l => match coreOf? l.1 with
    | some c => if l.2 then retireCore s c else s
    | none => s) s
  let s := if x.state = stREPLAY then s else setStep s p i stREPLAY
  let odd := decide (i.val = 1)
  let s := setAttempt s p odd ((s.part p).xc.attempt odd + 1)
  let s := modSlot s p i (fun x => { x with released := [], done := [] })
  let y := slotAt s p (otherSlot i)
  let s := if y.state = stOPEN ∨ y.state = stREDUCED then
      modSlot s p (otherSlot i) (fun x => { x with released := [], done := [], turn := 0 }) else s
  if x.leaving.isEmpty then replayPrepare s p i
  else modSlot s p i (fun y => { y with replayPos := 3, toLoad := (stepCores s p).map Fin.val })

/-- A replay goes as far as it can. -/
def replayOn (s : State) (p : Fin 12) (i : Fin 2) : State :=
  let x := slotAt s p i
  if x.replayPos = 1 then
    if (stepCores s p ++ x.leaving.filterMap (fun l => coreOf? l.1)).all (fun c => (s.core c).stopped) then
      replayAdvance s p i else s
  else if x.replayPos = 3 then (if x.toLoad.isEmpty then replayPrepare s p i else s)
  else if x.replayPos = 4 then replayMeet s p i
  else if x.replayPos = 2 then
    match replayBarrier s p with
    | none => modSlot s p i (fun x => { x with replayPos := 4 })
    | some b =>
      let y := vget s.fab.bars b
      if y.gen ≠ x.barGen ∧ !y.arrived then replayStart s p i
      else if !y.arrived ∧ y.failed = 0 then replayArrive s p i b else s
  else s

/-- R267: a program has been loaded into a core. -/
def noteLoaded (s : State) (p : Fin 12) (c : Fin 96) : State :=
  ([0, 1] : List (Fin 2)).foldl (fun s i => modSlot s p i (fun x => { x with toLoad := x.toLoad.filter (· ≠ c.val) })) s

/-! ### Levels (R429 to R432) -/

/-- Slots of a partition in which a core holds work of an unclosed step. -/
def worksIn (s : State) (p : Fin 12) (c : Fin 96) : List (Fin 2) :=
  ([0, 1] : List (Fin 2)).filter (fun i =>
    let x := slotAt s p i
    x.unclosed && (x.released.contains c.val || decide (x.state = stREPLAY)))

/-- R267, R431: a core leaves the step work of its partition, retiring or quarantined. -/
def leaveWork (s : State) (c : Fin 96) (retire : Bool) : State :=
  match ownerOf s c with
  | none => if retire then retireCore s c else s
  | some p =>
    match (if worksIn s p c = [] then none else closing? s p) with
    | none => if retire then retireCore s c else s
    | some i =>
      let x := slotAt s p i
      let s := modSlot s p i (fun x => { x with leaving := aset x.leaving c.val retire })
      if x.halted ∨ x.state = stFAULTED then if retire then retireCore s c else s
      else if x.state = stREPLAY ∨ x.replayPos ≠ 0 then
        haltCore (modSlot s p i (fun x => { x with replayPos := 1 })) c
      else haltCore (startReplay (addCause s p i cRETIRE) p i false) c

/-- R599: LEVEL and failures of a core go into the persistent record log. -/
def logLevel (s : State) (c : Fin 96) : State :=
  { s with serv := { s.serv with levelLog := aset s.serv.levelLog c.val ((tcore s c).level, (tcore s c).fails) } }

/-- A change of LEVEL, with its record (R586).  At Quarantine the hidden context takes all ten engines and rounds begin (R428);
the hold of R430 counts from the entry too (DEDUCED, log 94). -/
def setLevel (s : State) (c : Fin 96) (l : BitVec 2) (kernel : BitVec 16) : State :=
  let t := tcore s c
  if t.level = l then s
  else
    let s := logLevel (modTc s c (fun t => { t with level := l, watchRun := 0, quiet := if l = 2 then s.ts else t.quiet })) c
    let s := recordCore s 0x0601 c (leBytes 1 t.level.toNat ++ leBytes 1 l.toNat ++ leBytes 1 (min (failsNow s c) 15) ++
      leBytes 2 kernel.toNat)
    if l = 2 then goOn (takeEngines s c 0x3FF) c else s

/-- R429 to R432: where FAILS leads. -/
def judgeFails (s : State) (c : Fin 96) (kernel : BitVec 16) : State :=
  let t := tcore s c
  let n := failsNow s c
  let s := if t.level = 0 then setLevel s c 1 kernel else s
  let s := if s.serv.failQuar.toNat ≤ n ∧ t.level ≠ 2 then leaveWork (setLevel s c 2 kernel) c false else s
  if s.serv.retireThresh.toNat ≤ n then
    if s.serv.autoRetire then leaveWork s c true else modTc s c (fun t => { t with advised := true })
  else s

/-- R429: a failure of a core, by a kernel or (0xFFFF) a suspect check. -/
def addFailure (s : State) (c : Fin 96) (kernel : BitVec 16) : State :=
  if (s.core c).retired then s
  else judgeFails (logLevel (modTc s c (fun t => { t with
    fails := t.fails ++ [s.ts], lastKernel := kernel, quiet := s.ts, clean := 0, watchRun := 0 })) c) c kernel

end Sys2Proof.Machine
end

