-- ==== Sys2Proof/Machine/Closure.lean ====
section
/-! DEFINITION.  Step closure: checks, suspect replay, closure entries, the verdict, the commit gate, the
step record (R344 to R371). -/

namespace Sys2Proof.Machine

open Sys2Proof

/-! ### Loading an image into a core (R181, R209) -/

/-- Clears a range of a core's storage. -/
def State.wipe (s : State) (a n : Nat) : State :=
  { s with mem := s.mem.clear a n, poison := s.poison.clearAny a n }

/-- R181, R209: the image is written, the rest of both memories zeroed, START_INDEX set, the context
cleared; a failed check leaves its code behind. -/
def loadImage (s : State) (c : Fin 96) (bs : List Byte) (rep : LoadRep) : State :=
  let im := Image.ofBytes bs
  let n := min im.insnCount 2048
  let k := min im.descCount (256 - im.descFirst)
  let s := (s.wipe (progAddr c 0) 0x10000).wipe (descAddr c 0) 0x4000
  let s := s.write (progAddr c 0) (bytesAt bs 64 (32 * n)) false
  let s := s.write (descAddr c im.descFirst) (bytesAt bs (64 + 32 * im.insnCount) (64 * k)) false
  let s := contextSwitch s c
  s.modCore c (fun x => { x with
    startIndex := BitVec.ofNat 11 im.startIndex, extMask := BitVec.ofNat 64 im.extMask
    loadFault := if rep.code = 0 then none else some (BitVec.ofNat 8 rep.code, BitVec.ofNat 11 rep.slot) })

/-! ### Closure entries (R359, R360) -/

/-- A finding of this attempt: cause and VERDICT bit. -/
def found (s : State) (p : Fin 12) (i : Fin 2) (cause bits : Nat) : State :=
  modSlot (addCause s p i cause) p i (fun x => { x with verdict := x.verdict ||| BitVec.ofNat 8 bits })

/-- R360, R400, R401: what the entry carries besides the checks. -/
def lateBits (s : State) (p : Fin 12) (i : Fin 2) : State :=
  let u := (s.part p).uc
  let s := if u.taint then (found s p i cSUSPECT 4).modPart p (fun q => { q with uc := { q.uc with taint := false } })
    else s
  let s := if u.revert then found s p i cFAULT 8 else s
  let s := if nonrepro s p i then found s p i cNONREPRO 16 else s
  if (s.part p).xc.active && (noiseOwn s p).2.2.2.2 then
    modSlot s p i (fun x => { x with verdict := x.verdict ||| 32 }) else s

/-- The 64 bytes of the partition's own entry. -/
def entryBytes (s : State) (p : Fin 12) (i : Fin 2) (early : Bool) : List Byte :=
  let x := slotAt s p i
  let n := if (s.part p).xc.active then noiseOwn s p else (0, 0, 0, 0, false)
  let odd := decide (i.val = 1)
  let body := leBytes 4 x.stepId.toNat ++ leBytes 1 ((s.part p).xc.attempt odd).toNat ++
    leBytes 1 (x.verdict.toNat ||| (if early then 64 else 0)) ++ leBytes 2 (polNat s p 16 2) ++
    leBytes 8 (if early then 0 else ((x.digest.getD 0).toNat)) ++ leBytes 16 n.1 ++ leBytes 16 n.2.1 ++
    leBytes 4 n.2.2.1 ++ leBytes 4 n.2.2.2.1 ++ leBytes 4 (s.part p).cl.prev.toNat
  body ++ leBytes 4 (crc32 body)

/-- R359: the entry goes into the own mailbox and to every other peer. -/
def sendEntry (s : State) (p : Fin 12) (i : Fin 2) (early : Bool) : State :=
  let s := lateBits s p i
  let x := slotAt s p i
  let bs := entryBytes s p i early
  let size := polNat s p 12 2
  let me := polNat s p 14 2
  let odd := decide (i.val = 1)
  let s := modSlot s p i (fun x => { x with sent := true, sentAt := s.ts })
  let s := s.write (mailAddr (polNat s p 48 6) size x.stepId me) bs false
  (List.range size).foldl (fun s j =>
    if j = me then s
    else
      let e := polNat s p 54 6 + 8 * j
      fwSend s 8 { blankMsg with
        vc := 2, kind := 1, ordered := true, tracked := true, parity := odd
        attempt := (s.part p).xc.attempt odd, dstDev := BitVec.ofNat 16 (s.num e 2), dstCore := 0
        job := (s.part p).job.getD 0, fmt := 1
        addr := BitVec.ofNat 48 (mailAddr (s.num (e + 2) 6) size x.stepId me), data := bs }) s

/-! ### Suspect replay (R356 to R358) -/

/-- Changes the suspect check of a core. -/
def modSuspect (s : State) (p : Fin 12) (i : Fin 2) (c : Nat) (f : Suspect → Suspect) : State :=
  modSlot s p i (fun x => { x with suspects := x.suspects.map (fun u => if u.core = c then f u else u) })

/-- A core that may serve as a buddy now. -/
def buddyFree (s : State) (p : Fin 12) (b : Fin 96) : Bool :=
  isBuddy s b && !coreAbsent b && !coreOut s b && decide ((tcore s b).level = 0) && (s.core b).stopped &&
    ([0, 1] : List (Fin 2)).all (fun i => (slotAt s p i).suspects.all (fun u =>
      decide (u.buddy ≠ some b.val) || decide (u.status ≠ 1)) &&
      (slotAt s p i).leaving.all (fun l => decide (l.1 ≠ b.val)))

/-- R358: a check ends without a comparison: SUSPECT, no failure counted. -/
def suspectFails (s : State) (p : Fin 12) (i : Fin 2) (c : Nat) : State :=
  found (modSuspect s p i c (fun u => { u with status := 3 })) p i cSUSPECT 4

/-- R358: the buddy of a suspect that has signalled DONE is loaded and started, where one is eligible. -/
def startCheckOf (s : State) (p : Fin 12) (i : Fin 2) (c : Fin 96) : State :=
  let k := (slotAt s p i).stepId
  let e := s.bytes (polNat s p 66 6 + 32 * c.val) 32
  if halfOvf s p i c then suspectFails s p i c.val
  else if !bit (natAt e 28 1) 0 then s
  else match (coresOf s p).find? (buddyFree s p) with
    | none => s
    | some b =>
      let es := originsOf s p c k
      let img := s.bytes (natAt e 0 6) (natAt e 8 4)
      let s := loadImage s b img (loadCheck img)
      let s := loadOrigins s p b es true
      let s := s.modCore b (fun x => { x with lg := { x.lg with ologSize := 0 } })
      let s := startCore (writeTag s b k) b
      modSuspect s p i c.val (fun u => { u with buddy := some b.val, status := 1 })

/-- Checks of the step's suspects that wait for a buddy are tried again. -/
def startWaiting (s : State) (p : Fin 12) (i : Fin 2) : State :=
  (slotAt s p i).suspects.foldl (fun s u =>
    if u.status = 0 ∧ (slotAt s p i).done.contains u.core then
      match coreOf? u.core with | some c => startCheckOf s p i c | none => s
    else s) s

/-! ### The record (R369 to R371) -/

/-- A map of cores, bit c for core c. -/
def coreMap (cs : List Nat) : Nat := cs.foldl (fun m c => m ||| 2 ^ c) 0

/-- The bytes of the record of the step in slot `i`. -/
def recordBytes (s : State) (p : Fin 12) (i : Fin 2) (mCur : Nat) : List Byte :=
  let x := slotAt s p i
  let q := s.part p
  let cores := stepCores s p
  let es := cores.flatMap (fun c => (originsOf s p c x.stepId).map (fun e => e.take 12 ++ leBytes 4 c.val))
  let sign := bit (polNat s p 1 1) 0
  let len := 256 + 16 * es.length + (if sign then 96 else 0)
  let pack := match s.serv.packs.toList.find? (fun k => decide (k.state = 2)) with
    | some k => k.version.toNat
    | none => 0
  let flags := b2n sign + 2 * b2n x.abandoned + 4 * b2n x.evalReq + 8 * b2n x.noiseSkipped +
    16 * b2n (bit x.causes.toNat 9 || nonrepro s p i)
  let body := leBytes 4 0x31534C43 ++ leBytes 2 1 ++ leBytes 2 flags ++ leBytes 4 x.stepId.toNat ++
    leBytes 2 (q.job.getD 0).toNat ++ leBytes 1 p.val ++ leBytes 1 (min x.attempts 255) ++
    leBytes 2 s.fab.devId.toNat ++ leBytes 2 x.causes.toNat ++ leBytes 2 mCur ++ leBytes 2 x.mNext.toNat ++
    leBytes 8 (x.digest.getD 0).toNat ++ leBytes 8 x.setDigest.toNat ++ leBytes 8 s.chain.toNat ++
    leBytes 8 (utcNow s) ++ leBytes 8 x.bn.toNat ++ leBytes 8 q.xc.g2e.toNat ++ leBytes 8 q.xc.se.toNat ++
    leBytes 12 (coreMap (cores.map Fin.val)) ++ leBytes 12 (coreMap (x.suspects.map Suspect.core)) ++
    leBytes 4 es.length ++ leBytes 4 len ++ leBytes 4 s.sec.running.version.toNat ++ leBytes 4 pack ++
    leBytes 2 (polNat s p 16 2) ++ leBytes 2 (polNat s p 12 2) ++ leBytes 4 0 ++
    padTo (q.cl.policy.getD []) 128 ++ es.flatten
  if sign then
    let g := Config.ecdsaSign (q.srk.getD 0) (Config.sha384 body)
    body ++ (leBytes 96 g.toNat).reverse
  else body

/-- R369: where a record of `len` bytes may begin: it is never split and overwrites nothing unreleased
(log 62). -/
def recordPlace (s : State) (p : Fin 12) (len : Nat) : Option Nat :=
  let c := (s.part p).cl
  let need := ceilDiv len 64 * 64
  let size := polNat s p 44 4
  let w := c.recOff
  match c.recs with
  | [] => if w + need ≤ size then some w else if need ≤ size then some 0 else none
  | r :: _ =>
    if r.off < w then (if w + need ≤ size then some w else if need ≤ r.off then some 0 else none)
    else if w + need ≤ r.off then some w else none

/-! ### Commit (R353) -/

/-- R353, step 5: EVAL_GO follows the record. -/
def goEval (s : State) (p : Fin 12) (i : Fin 2) : State :=
  let r := (slotAt s p i).evalReq
  evalGo (modSlot s p i (fun x => { x with pos := 4, evalRan := r })) p (b2n r) 2

/-- R347, R378: the ranges of a slot are released. -/
def releaseRanges (s : State) (p : Fin 12) (i : Fin 2) : State :=
  modCl s p (fun c => { c with
    ret := Vector.ofFn (fun e => let r := vget c.ret e; if e.val / 8 = i.val then { r with valid := false } else r) })

/-- R353, step 4: the record is written where the ring has room; the step is closed. -/
def closeStep (s : State) (p : Fin 12) (i : Fin 2) : State :=
  let x := slotAt s p i
  if x.pos ≠ 3 then s
  else
    let cur := (s.part p).xc.cur.toNat
    let bs := recordBytes s p i cur
    match recordPlace s p bs.length with
    | none =>
      if x.recordWait then s
      else setStep (modSlot s p i (fun x => { x with recordWait := true })) p i stCHECKED
    | some off =>
      let s := s.write (polNat s p 38 6 + off) bs false
      let s := modCl s p (fun c => { c with
        recOff := off + ceilDiv bs.length 64 * 64, recs := c.recs ++ [⟨x.stepId, off, bs.length⟩]
        prev := x.stepId, commits := if x.abandoned then c.commits else satAdd c.commits 1 })
      let s := modSlot s p i (fun x => { x with recordWait := false })
      let s := setStep s p i (if x.abandoned then stABANDONED else stCOMMITTED)
      let s := releaseRanges s p i
      let s := finishOpen s p i (if x.abandoned then kROLLED else kOK)
      goEval s p i

/-- R338, R339: the noise step of a committed step, with the totals of the verdict. -/
def commitNoise (s : State) (p : Fin 12) (i : Fin 2) : State :=
  let x := slotAt s p i
  let y := (s.part p).xc
  let s := modXc s p (fun y => { y with sinceChange := y.sinceChange + 1 })
  if y.mode = 0 ∨ y.mode = 3 ∨ x.abandoned then s
  else if x.replayed ∨ x.noiseBad then modSlot s p i (fun x => { x with noiseSkipped := true })
  else
    let (g, se, bn) := noiseStep y x.sumsq x.sqsum x.ranks
    let s := modXc s p (fun y => { y with g2e := dBits g, se := dBits se })
    let s := modSlot s p i (fun x => { x with bn := dBits bn })
    if y.mode = 2 ∧ y.warmup.toNat ≤ y.warmed then
      match steerTo { (s.part p).xc with cur := y.mNext.getD y.cur } bn with
      | some m => modXc (modSlot s p i (fun x => { x with mNext := BitVec.ofNat 12 m })) p (fun y => { y with
          sinceChange := 0 })
      | none => s
    else s

/-- R353, steps 2 and 3: UPD_DONE has come from every step core. -/
def afterUpdate (s : State) (p : Fin 12) (i : Fin 2) : State :=
  let x := slotAt s p i
  let s := modCl s p (fun c => { c with gate := 0 })
  let par := i.val
  let s := dsEach s p false (fun _ _ e =>
    if x.abandoned then dsClear e par (x.stepId + 2) else dsCommit e par (x.stepId + 2))
  let s := commitNoise s p i
  closeStep (modSlot s p i (fun x => { x with pos := 3 })) p i

/-- R397: a fingerprint pass follows the last commit: a list is configured, and the period is reached or R390 asks for it. -/
def passDue (s : State) (p : Fin 12) : Bool :=
  let u := (s.part p).uc
  decide (u.count ≠ 0) && (u.due || (decide (u.period ≠ 0) && decide ((s.part p).cl.commits.toNat % u.period.toNat = 0)))

/-- The gate may open: no export holds it, no fingerprint pass runs or is to follow the commit before (R397, R398, R403). -/
def gateFree (s : State) (p : Fin 12) : Bool :=
  decide ((s.part p).cl.exports = 0) && decide ((s.part p).uc.state = 0) &&
    !(([0, 1] : List (Fin 2)).any (fun i => decide ((slotAt s p i).pos = 4)) && passDue s p)

/-- R353, step 1: the gate opens, or as SKIP for an abandoned step.  A core that the step was never released on
(one admitted since, R431) has no update to make. -/
def openGate (s : State) (p : Fin 12) : State :=
  match ([0, 1] : List (Fin 2)).find? (fun i => decide ((slotAt s p i).pos = 1)) with
  | none => s
  | some i =>
    if !gateFree s p then s
    else
      let x := slotAt s p i
      let s := modSlot s p i (fun x => { x with pos := 2 })
      let idle := ((stepCores s p).filter (fun c => !x.released.contains c.val)).map Fin.val
      let s := modCl s p (fun c => { c with
        gate := if x.abandoned then 2 else 1, gateTag := x.stepId, updDone := idle })
      let s := (stepCores s p).foldl (fun s c => s.modCore c (fun k => { k with updDone := false })) s
      if (stepCores s p).length = idle.length then afterUpdate s p i else s

/-- The verdict of R362 is a pass. -/
def passStep (s : State) (p : Fin 12) (i : Fin 2) (es : List (Nat × List Byte)) : State :=
  let firsts := es.foldl (fun (l : List (List Byte)) e =>
    if l.any (fun f => natAt f 6 2 == natAt e.2 6 2) then l else l ++ [e.2]) []
  let cap := fun (n : Nat) => min n (2 ^ 128 - 1)
  let sum := fun (off : Nat) => firsts.foldl (fun t e => cap (t + natAt e off 16)) 0
  let counts := es.map (fun e => natAt e.2 48 4)
  let sd := firsts.foldl (fun (h : DWord) e => h + mix64 (BitVec.ofNat 64 (natAt e 8 8) ^^^ BitVec.ofNat 64 (natAt e 6 2))) 0
  let s := modSlot s p i (fun x => { x with
    setDigest := sd, sumsq := sum 16, sqsum := sum 32, ranks := counts.headD 0
    noiseBad := es.any (fun e => bit (natAt e.2 5 1) 5) || !counts.all (fun n => n == counts.headD 0) ||
      decide (counts.headD 0 < 2), pos := 1 })
  openGate s p

/-! ### The checks and the verdict (R354, R361 to R363) -/

/-- R344: the verdict of R362 is reached. -/
def judged (s : State) (p : Fin 12) (i : Fin 2) : State :=
  if (slotAt s p i).state = stCHECKED then s else setStep s p i stCHECKED

/-- R362: all entries count. -/
def formVerdict (s : State) (p : Fin 12) (i : Fin 2) (es : List (Nat × List Byte)) : State :=
  let prevs := es.map (fun e => natAt e.2 56 4)
  let split := es.any (fun e => es.any (fun f => natAt e.2 6 2 == natAt f.2 6 2 && natAt e.2 8 8 != natAt f.2 8 8))
  let s := judged s p i
  if !prevs.all (fun q => q == prevs.headD 0) then failStep s p i cDIVERGED
  else
    let bad := es.any (fun e => decide (natAt e.2 5 1 % 16 ≠ 0))
    if bad || split then
      failStep s p i ((if bad then cPEER else 0) ||| (if split then cDIGEST else 0))
    else passStep s p i es

/-- R361, R362: firmware reads its mailbox. -/
def readMail (s : State) (p : Fin 12) (i : Fin 2) : State :=
  let x := slotAt s p i
  if x.halted ∨ x.curing ∨ x.pos ≠ 0 ∨ x.replayPos ≠ 0 ∨
      ¬(x.state = stOPEN ∨ x.state = stREDUCED ∨ (x.state = stCHECKED ∧ x.sent = true)) then s
  else
    let es := countingEntries s p i
    if peerFails s p i then failStep (if (s.part p).uc.revert ∧ x.sent = false then sendEntry s p i true else s) p i cPEER
    else if x.sent ∧ x.state ≠ stOPEN ∧ es.length = polNat s p 12 2 then formVerdict s p i es else s

/-- R259: ranges of stack memory that a replay cannot rewrite: the retained inputs of a slot's step, and the blocks of the
datum copy, which the fingerprint list holds (R396). -/
def keptRanges (s : State) (p : Fin 12) (i : Fin 2) : List (Nat × Nat) :=
  ((s.part p).cl.ret.toList.zipIdx.filter (fun r => r.1.valid && r.2 / 8 == i.val)).map
    (fun r => (r.1.addr.toNat * 65536, r.1.units.toNat * 65536)) ++ (fpBlocks s p).map (fun b => (b.1, 4096))

/-- R259: every poisoned block of the kept ranges is one that the members of an update group hold. -/
def curable (s : State) (p : Fin 12) (i : Fin 2) : Bool :=
  let bs := (fpBlocks s p).map Prod.fst
  decide (2 ≤ (s.part p).uc.members.toNat) && (keptRanges s p i).all (fun r =>
    (List.range (r.2 / 4096)).all (fun n => !s.poisoned (r.1 + 4096 * n) 4096 || bs.contains (r.1 + 4096 * n)))

/-- R259: a pass of the fingerprint procedure over the datum copy, which is that of the last commit (log 72). -/
def curePass (s : State) (p : Fin 12) : State :=
  s.modPart p (fun q => { q with uc := { q.uc with
    state := 1, commit := q.cl.prev, round := 0, cure := true, timeout := false, groups := [], blocks := []
    anyRefresh := false } })

/-- R259: a member whose replica holds a clean copy takes part in a pass that another member's root entry has begun: one
that counts for the last commit, with POISONED set, of round 0 (log 72). -/
def joinPass (s : State) (p : Fin 12) : State :=
  let u := (s.part p).uc
  let asks := (List.range u.members.toNat).any (fun m =>
    let e := s.bytes (u.area.toNat + 0x40 * m) 64
    m != u.member.toNat && natAt e 60 4 == crc32 (e.take 60) && natAt e 0 4 == (s.part p).cl.prev.toNat &&
      natAt e 6 1 == 0 && bit (natAt e 7 1) 0)
  let replays := ([0, 1] : List (Fin 2)).any (fun i => decide ((slotAt s p i).replayPos ≠ 0))
  if u.state = 0 ∧ u.count ≠ 0 ∧ asks ∧ replays ∧ !(rangePoison s ((fpBlocks s p).map (fun b => (b.1, 4096)))) then
    curePass s p
  else s

/-- R259, R361: the own findings fail the step.  Poison that a replay cannot cure is refreshed from a replica first, over a
pass of the fingerprint procedure; where none holds a clean copy the partition stops at CHECKED. -/
def failOwn (s : State) (p : Fin 12) (i : Fin 2) (fixed : Bool) : State :=
  if fixed then haltStep s p i cPOISON
  else if bit (slotAt s p i).verdict.toNat 1 && rangePoison s (keptRanges s p i) then
    if curable s p i then
      let s := modSlot (judged s p i) p i (fun x => { x with curing := true })
      if (s.part p).uc.state = 0 then curePass s p else s
    else haltStep s p i cPOISON
  else failStep s p i 0

/-- R361: every check is done; the entry is sent. -/
def tryEntry (s : State) (p : Fin 12) (i : Fin 2) : State :=
  let x := slotAt s p i
  if x.state = stREDUCED ∧ x.replayPos = 0 ∧ x.checked = true ∧ x.sent = false ∧ x.digest.isSome ∧
      x.suspects.all (fun u => decide (2 ≤ u.status)) then
    let s := sendEntry s p i false
    if (s.part p).uc.revert then haltStep s p i cDIVERGED
    else if (s.part p).uc.timeout then haltStep s p i cTIMEOUT
    else if (slotAt s p i).verdict.toNat % 16 ≠ 0 then failOwn (judged s p i) p i false else readMail s p i
  else s

/-- R354, R259: numeric health, poison and fault of a REDUCED step. -/
def checkStep (s : State) (p : Fin 12) (i : Fin 2) : State :=
  let x := slotAt s p i
  if x.state ≠ stREDUCED ∨ x.checked ∨ x.replayPos ≠ 0 ∨ closing? s p ≠ some i ∨
      !(stepCores s p).all (fun c => x.done.contains c.val) then s
  else
    let f := dsScan s p x.stepId
    let pois := f.poison || rangePoison s (shardOf s p) || (coresOf s p).any (fun c =>
      (s.core c).num.poisonNosig || (s.core c).ctr.toList.any (fun t => t.poison))
    let flt := (stepCores s p).any (fun c => (s.core c).faulted && decide (tagOf (s.core c) = x.stepId))
    let s := modSlot s p i (fun x => { x with checked := true })
    let s := if f.numeric then found s p i cNUMERIC 1 else s
    let s := if pois then found s p i cPOISON 2 else s
    let s := if flt then found s p i cFAULT 8 else s
    if f.numeric || pois || flt then
      let s := sendEntry s p i true
      failOwn s p i f.fixed
    else tryEntry (startWaiting s p i) p i

/-- R361: a step core has faulted in the oldest unclosed step while it is OPEN, and firmware has read so (R24). -/
def earlyFault (s : State) (p : Fin 12) (i : Fin 2) : State :=
  let x := slotAt s p i
  if x.state = stOPEN ∧ x.replayPos = 0 ∧ (stepCores s p).any (fun c =>
      (s.core c).faulted && (s.core c).told && decide (tagOf (s.core c) = x.stepId)) then
    failStep (sendEntry (found s p i cFAULT 8) p i true) p i 0
  else s

/-- R355: the place of a new REDUCED event in the order of those of the device. -/
def nextTurn (s : State) : Nat :=
  1 + s.parts.toList.foldl (fun m q => q.cl.slots.toList.foldl (fun m x => max m x.turn) m) 0

/-- Every step core has signalled DONE: REDUCED (R344, R349).  After the step before it has entered REPLAY, only once that
one is closed (R30). -/
def tryReduced (s : State) (p : Fin 12) (i : Fin 2) : State :=
  let x := slotAt s p i
  let y := slotAt s p (otherSlot i)
  if !(stepCores s p).isEmpty ∧ (stepCores s p).all (fun c => x.done.contains c.val) ∧ x.replayPos = 0 ∧ x.turn = 0 ∧
      (x.state = stOPEN ∨ x.state = stREDUCED) ∧ !(y.unclosed && y.stepId + 1 == x.stepId && y.replayed) then
    let s := modSlot s p i (fun x => { x with turn := nextTurn s, reducedAt := s.ts })
    if x.state = stREDUCED then s else setStep s p i stREDUCED
  else s

/-- R345: firmware acts on the fault of a gated UP instruction. -/
def actUpFault (s : State) (p : Fin 12) : State :=
  match ([0, 1] : List (Fin 2)).find? (fun i => decide ((slotAt s p i).pos = 2)) with
  | some i =>
    if (s.part p).cl.upFault then
      let s := modCl s p (fun x => { x with gate := 0, upFault := false })
      let s := (stepCores s p).foldl haltCore s
      let s := modSlot (addCause s p i cFAULT) p i (fun x => { x with halted := true, pos := 0 })
      finishOpen (setStep s p i stFAULTED) p i kFAULT
    else s
  | none => s

/-- Firmware looks at a partition again (R266, R345, R348, R351, R361, R362); not while a live update holds it (R268). -/
def lookAgain (s : State) (p : Fin 12) : State :=
  if !fwRuns s then s
  else
    let s := joinPass (releaseDue (actUpFault s p) p) p
    let s := startWaiting (startWaiting s p 0) p 1
    match closing? s p with
    | none => s
    | some i =>
      let s := replayOn s p i
      let s := earlyFault s p i
      let s := tryReduced s p i
      let s := checkStep s p i
      let s := tryEntry s p i
      readMail s p i

/-- R24, R345, R361: firmware reads that an instruction of a core has faulted; `gated` where it is one of UP that the gate
holds.  It acts at once, or after the pause of a live update (R268). -/
def coreFaulted (s : State) (c : Fin 96) (gated : Bool) : State :=
  let s := s.modCore c (fun k => { k with told := k.faulted })
  match ownerOf s c with
  | none => s
  | some p =>
    let opened := decide ((s.part p).cl.gate = 1) && ([0, 1] : List (Fin 2)).any (fun i => decide ((slotAt s p i).pos = 2))
    let s := if gated && opened && isStepCore s c then modCl s p (fun x => { x with upFault := true }) else s
    if !fwRuns s then s
    else
      let s := actUpFault s p
      match closing? s p with
      | some i => earlyFault s p i
      | none => s

/-! ### The commands -/

/-- Takes the oldest signal of a role, of those whose records firmware has read but not acted on (R24, R350). -/
def takeSig (s : State) (c : Fin 96) (role : Nat) : Option (Word × State) :=
  match (s.core c).sigs.find? (fun g => g.1 == role) with
  | some g => some (g.2, s.modCore c (fun k => { k with sigs := k.sigs.erase g }))
  | none => none

/-- DONE_SIGNAL (R350, R351). -/
def execDoneSignal (c : Fin 96) (s : State) : Out :=
  .next (match ownerOf s c, takeSig s c 0 with
    | some p, some (k, s) =>
      let i := parOf k
      let x := slotAt s p i
      if x.stepId = k ∧ (x.state = stOPEN ∨ x.state = stREDUCED) then
        let s := tryReduced (modSlot s p i (fun x => { x with done := insRise x.done c.val })) p i
        if !fwRuns s then s
        else checkStep (startWaiting (releaseDue s p) p i) p i
      else s
    | _, _ => s)

/-- The step of a partition that awaits the closure digest engine, with the place of its REDUCED event. -/
def digestDue (s : State) (p : Fin 12) : Option (Fin 2 × Nat) :=
  (closing? s p).bind (fun i =>
    let x := slotAt s p i
    if x.state = stREDUCED ∧ x.checked = true ∧ x.digest = none ∧ x.replayPos = 0 ∧ x.halted = false then some (i, x.turn)
    else none)

/-- R355: the engine serves partitions in the order of their REDUCED events. -/
def digestTurn (s : State) (t : Nat) : Bool :=
  (List.finRange 12).all (fun q => match digestDue s q with | some (_, u) => decide (t ≤ u) | none => true)

/-- DIGEST_COMPLETE (R355). -/
def execDigestComplete (p : Fin 12) (s : State) : Out :=
  .next (match digestDue s p with
    | none => s
    | some (i, t) =>
      if fwRuns s && digestTurn s t then
        let rs := shardOf s p
        let s := modSlot s p i (fun y => { y with digest := some (rangeDigest s rs) })
        tryEntry (if rangePoison s rs then found s p i cPOISON 2 else s) p i
      else s)

/-- R344, R348: the closure of a slot's step has begun and no verdict has passed, so that a failure may send it to REPLAY. -/
def mayFail (s : State) (p : Fin 12) (i : Fin 2) : Bool :=
  let x := slotAt s p i
  decide (closing? s p = some i) && (x.state == stOPEN || x.state == stREDUCED || x.state == stCHECKED) &&
    decide (x.pos = 0) && !x.halted && decide (x.replayPos = 0) && !x.curing

/-- R358: the buddy's contribution against the suspect's. -/
def compareBuddy (s : State) (p : Fin 12) (i : Fin 2) (c b : Fin 96) : State :=
  if (s.core b).faulted then suspectFails s p i c.val
  else
    let e := s.bytes (polNat s p 66 6 + 32 * c.val) 32
    let d := fun (a : Nat) => rangeDigest s [(a, natAt e 24 4)]
    if d (natAt e 12 6) = d (natAt e 18 6) then modSuspect s p i c.val (fun u => { u with status := 2 })
    else
      let s := suspectFails s p i c.val
      if s.serv.failQuar.toNat ≤ failsNow s c + 1 ∧ mayFail s p i then
        addFailure (failStep (sendEntry s p i true) p i cSUSPECT) c 0xFFFF
      else addFailure s c 0xFFFF

/-- R356: a check that fails after the entry has gone out fails the step with a new one (log 72). -/
def lateCheck (s : State) (p : Fin 12) (i : Fin 2) : State :=
  let x := slotAt s p i
  if x.sent ∧ (x.state = stREDUCED ∨ x.state = stCHECKED) ∧ x.pos = 0 ∧ x.halted = false ∧ x.curing = false ∧
      bit x.verdict.toNat 2 then failStep (sendEntry s p i false) p i cSUSPECT
  else tryEntry s p i

/-- BUDDY_HALT (R358). -/
def execBuddyHalt (b : Fin 96) (s : State) : Out :=
  .next (match ownerOf s b with
    | none => s
    | some p =>
      if !(s.core b).stopped ∨ !fwRuns s then s
      else ([0, 1] : List (Fin 2)).foldl (fun s i =>
        match (slotAt s p i).suspects.find? (fun u => u.status == 1 && u.buddy == some b.val) with
        | some u => match coreOf? u.core with
          | some c => lateCheck (compareBuddy s p i c b) p i
          | none => s
        | none => s) s)

/-- SUSPECT_TIMEOUT (R358): the check of core `c` has not ended. -/
def execSuspectTimeout (c : Fin 96) (s : State) : Out :=
  .next (match ownerOf s c with
    | none => s
    | some p => ([0, 1] : List (Fin 2)).foldl (fun s i =>
        let x := slotAt s p i
        match x.suspects.find? (fun u => u.core == c.val && decide (u.status < 2)) with
        | some u =>
          if !fwRuns s ∨ ¬(x.state = stREDUCED ∨ x.state = stCHECKED) ∨
              s.since x.reducedAt < polNat s p 24 4 * msTicks then s
          else
            let s := match u.buddy.bind coreOf? with | some b => haltCore s b | none => s
            lateCheck (suspectFails s p i c.val) p i
        | none => s) s)

/-- CLOSE_TIMEOUT (R363). -/
def execCloseTimeout (p : Fin 12) (s : State) : Out :=
  .next (match closing? s p with
    | none => s
    | some i =>
      let x := slotAt s p i
      if fwRuns s ∧ x.sent ∧ (x.state = stREDUCED ∨ x.state = stCHECKED) ∧ x.halted = false ∧ x.pos = 0 ∧
          x.replayPos = 0 ∧ x.curing = false ∧ polNat s p 20 4 * msTicks ≤ s.since x.sentAt ∧
          (countingEntries s p i).length < polNat s p 12 2 then failStep s p i cTIMEOUT else s)

/-- UPD_DONE_SIGNAL (R353, step 2). -/
def execUpdDoneSignal (c : Fin 96) (s : State) : Out :=
  .next (match ownerOf s c, takeSig s c 1 with
    | some p, some (_, s) =>
      match ([0, 1] : List (Fin 2)).find? (fun i => decide ((slotAt s p i).pos = 2)) with
      | none => s
      | some i =>
        let s := modCl s p (fun x => { x with updDone := insRise x.updDone c.val })
        if fwRuns s ∧ (stepCores s p).all (fun d => (s.part p).cl.updDone.contains d.val) = true then afterUpdate s p i else s
    | _, _ => s)

/-- R340: a decided micro-batch count takes effect. -/
def applyMNext (s : State) (p : Fin 12) : State :=
  let x := (s.part p).xc
  match x.mNext with
  | none => s
  | some m =>
    let s := if x.slotValid then (stepCores s p).foldl (fun s c => writeCount s c x.steerSlot.toNat m.toNat) s else s
    modXc s p (fun x => { x with cur := m, mNext := none })

/-- R397: the fingerprint pass of a commit begins where one is due and a list is configured. -/
def startPass (s : State) (p : Fin 12) (k : Word) : State :=
  if passDue s p then
    s.modPart p (fun q => { q with uc := { q.uc with
      state := 1, commit := k, round := 0, due := false, cure := false, timeout := false, groups := [], blocks := []
      anyRefresh := false } })
  else s

/-- R353, step 6 and R351, R364: EVAL_DONE has come from every step core; COMMIT is signalled. -/
def commitSignal (s : State) (p : Fin 12) : State :=
  let s := if ([0, 1] : List (Fin 2)).any (fun i => decide ((slotAt s p i).pos = 4)) then applyMNext s p else s
  let s := ([0, 1] : List (Fin 2)).foldl (fun s i =>
    let x := slotAt s p i
    if x.pos = 4 then
      let s := if x.mNext ≠ 0 ∧ x.abandoned = false then modXc s p (fun y => { y with mNext := some x.mNext }) else s
      let s := modXc s p (fun y => { y with
        warmed := if x.abandoned then y.warmed else y.warmed + 1
        active := (y.mode == 1 || y.mode == 2) && !(slotAt s p (otherSlot i)).replayed })
      let s := setStep s p i stIDLE
      startPass (modSlot s p i (fun _ => .reset)) p x.stepId
    else s) s
  let s := (stepCores s p).foldl (fun s c => fwSignal s p 9 c) s
  openGate (lookAgain (modCl s p (fun c => { c with evalWait := 0, evalDone := [] })) p) p

/-- Every step core is in a list that is not empty. -/
def allIn (s : State) (p : Fin 12) (l : List Nat) : Bool := !l.isEmpty && (stepCores s p).all (fun d => l.contains d.val)

/-- Firmware takes a partition's closure as far as it goes. -/
def pollStep (s : State) (p : Fin 12) : State :=
  let s := match ([0, 1] : List (Fin 2)).find? (fun i => decide ((slotAt s p i).pos = 2)) with
    | some i => if allIn s p (s.part p).cl.updDone then afterUpdate s p i else s
    | none => s
  if (s.part p).cl.evalWait ≠ 0 ∧ allIn s p (s.part p).cl.evalDone = true then commitSignal s p else lookAgain s p

/-- MAILBOX_POLL (R266, R361, R362). -/
def execMailboxPoll (p : Fin 12) (s : State) : Out := .next (if fwRuns s then pollStep s p else s)

/-- R268, R375: closure goes on after the pause of a live update that began at `t`: checks of a step whose entry has not
gone out begin again, CLOSE_TIMEOUT has stood still. -/
def resumeClosure (t : DWord) (s : State) (p : Fin 12) : State :=
  let gone := s.ts - t
  let s := ([0, 1] : List (Fin 2)).foldl (fun s i => modSlot s p i (fun x => { x with sentAt := x.sentAt + gone })) s
  let s := match closing? s p with
    | some i =>
      let x := slotAt s p i
      if x.state = stREDUCED ∧ x.sent = false ∧ x.replayPos = 0 then
        modSlot (x.buddies.foldl haltCore s) p i (fun x => { x.recheck with checked := false, digest := none })
      else s
    | none => s
  if fwRuns s then pollStep s p else s

/-- EVAL_DONE_SIGNAL (R353, step 6). -/
def execEvalDoneSignal (c : Fin 96) (s : State) : Out :=
  .next (match ownerOf s c, takeSig s c 2 with
    | some p, some (_, s) =>
      let s := modCl s p (fun x => { x with evalDone := insRise x.evalDone c.val })
      if fwRuns s ∧ (s.part p).cl.evalWait ≠ 0 ∧
          (stepCores s p).all (fun d => (s.part p).cl.evalDone.contains d.val) = true then
        commitSignal s p
      else s
    | _, _ => s)

/-- INSTRUCTION_FAULT (R87, R214, R215): the `k`-th instruction in flight of an engine faults during
its run, with one of the codes of R214 that can arise there. -/
def execInstructionFault (c : Fin 96) (e : Fin 10) (k : Nat) (code : BitVec 8) (gap : Nat) (s : State) : Out :=
  onCore c gap s (fun s => match ((s.core c).engine e).flight[k]? with
    | none => s
    | some f =>
      if code = 0x40 ∨ code = 0x43 ∨ code = 0x44 ∨ code = 0x48 then
        faultHead (dropFlights s c e k) c e f.ent code.toNat
      else s)

end Sys2Proof.Machine
end

