-- ==== Sys2Proof/Machine/Fp.lean ====
section
/-! DEFINITION.  Weight fingerprints (R395 to R402). -/

namespace Sys2Proof.Machine

open Sys2Proof

/-- Changes the update context of a partition. -/
def modUc (s : State) (p : Fin 12) (f : Upd → Upd) : State := s.modPart p (fun q => { q with uc := f q.uc })

/-- The value a poisoned block enters as (R399). -/
def leafPoison : DWord := 0xFFFFFFFFFFFFFFFF

/-- leaf(b) of the block at `a` (R396, R399). -/
def leafOf (s : State) (b a : Nat) : DWord :=
  if s.poisoned a 4096 then leafPoison
  else (List.range 128).foldl (fun h i => h + sectorHash (128 * b + i) (s.bytes (a + 32 * i) 32)) 0

/-- Every leaf, in block order. -/
def leaves (s : State) (p : Fin 12) : List DWord := (fpBlocks s p).zipIdx.map (fun (x, b) => leafOf s b x.1)

/-- group(q), in order. -/
def groupsFrom (ls : List DWord) : List DWord :=
  (chunks 256 ls.zipIdx).map (fun g => g.foldl (fun h (l, b) => h + mix64 (l ^^^ BitVec.ofNat 64 b)) 0)

/-- root. -/
def rootFrom (gs : List DWord) : DWord := gs.zipIdx.foldl (fun h (g, q) => h + mix64 (g ^^^ BitVec.ofNat 64 q)) 0

/-- R398: firmware writes into its own area and sends the same bytes to every other member. -/
def fpSend (s : State) (p : Fin 12) (off : Nat) (bs : List Byte) : State :=
  let u := (s.part p).uc
  let s := s.write (u.area.toNat + off) bs false
  (List.range u.members.toNat).foldl (fun s m =>
    if m = u.member.toNat then s
    else
      let e := u.peers.toNat + 8 * m
      (chunks 1024 bs).zipIdx.foldl (fun s (d, i) =>
        fwSend s 8 { blankMsg with
          vc := 2, kind := 1, ordered := true, tracked := true, attempt := (s.part p).xc.attempt false
          dstDev := BitVec.ofNat 16 (s.num e 2), dstCore := 0, job := (s.part p).job.getD 0, fmt := 1
          addr := BitVec.ofNat 48 (s.num (e + 2) 6 + off + 1024 * i), data := d }) s) s

/-- The root entry of this member (R398). -/
def rootEntry (s : State) (p : Fin 12) (ls : List DWord) : List Byte :=
  let u := (s.part p).uc
  let body := leBytes 4 u.commit.toNat ++ leBytes 1 u.member.toNat ++ leBytes 1 u.role.toNat ++
    leBytes 1 u.round.toNat ++ leBytes 1 (b2n (ls.contains leafPoison)) ++
    leBytes 8 (rootFrom (groupsFrom ls)).toNat ++ leBytes 4 ls.length ++ List.replicate 40 0
  body ++ leBytes 4 (crc32 body)

/-- R398: the group array. -/
def fpGroups (s : State) (p : Fin 12) (ls : List DWord) : State :=
  fpSend s p (0x1000 + 0x10000 * (s.part p).uc.member.toNat) ((groupsFrom ls).flatMap (fun g => leBytes 8 g.toNat))

/-- Sends the root entry; the members' entries are then awaited. -/
def fpRoot (s : State) (p : Fin 12) (ls : List DWord) : State :=
  let s := fpSend s p (0x40 * (s.part p).uc.member.toNat) (rootEntry s p ls)
  modUc s p (fun u => { u with state := 2, sentAt := s.ts })

/-- FP_DIGEST_DONE (R396, R398): the group array, then the root entry. -/
def execFpDigestDone (p : Fin 12) (s : State) : Out :=
  let u := (s.part p).uc
  .next (if u.state ≠ 1 ∨ !fwRuns s then s
    else
      let ls := leaves s p
      fpRoot (fpGroups s p ls) p ls)

/-- The root entries that count: member and bytes. -/
def fpEntries (s : State) (p : Fin 12) : List (Nat × List Byte) :=
  let u := (s.part p).uc
  (List.range u.members.toNat).filterMap (fun m =>
    let e := s.bytes (u.area.toNat + 0x40 * m) 64
    if natAt e 60 4 = crc32 (e.take 60) ∧ natAt e 0 4 = u.commit.toNat ∧ natAt e 6 1 = u.round.toNat then some (m, e)
    else none)

/-- R400, R401: the step after the commit learns what the pass did, where its entry is out or its verdict
has passed; otherwise its entry will carry it. -/
def tellNext (s : State) (p : Fin 12) (cause bits halt : Nat) : State :=
  match holds s p ((s.part p).uc.commit + 1) with
  | none => s
  | some i =>
    let x := slotAt s p i
    if x.halted then s
    else if x.sent ∧ (x.state = stREDUCED ∨ x.state = stCHECKED) then
      let s := sendEntry (modSlot (found s p i cause bits) p i (fun x => { x with pos := 0 })) p i false
      if halt ≠ 0 then haltStep s p i halt else failStep s p i 0
    else s

/-- R259: a step that waited for clean blocks replays, or stops at CHECKED where poison is left. -/
def afterCure (s : State) (p : Fin 12) : State :=
  match closing? s p with
  | none => s
  | some i =>
    if !(slotAt s p i).curing then s
    else
      let s := modSlot s p i (fun x => { x with curing := false })
      if rangePoison s (keptRanges s p i) then haltStep s p i cPOISON else failStep s p i 0

/-- The pass ends: refreshed or sound (R399, R400).  One that serves a replay tells the next step nothing (R259). -/
def endPass (s : State) (p : Fin 12) : State :=
  let u := (s.part p).uc
  let any := u.anyRefresh && !u.cure
  let s := modUc s p (fun u => { u with
    state := 0, step := u.commit, passes := satAdd u.passes 1, groups := [], blocks := [], taint := u.taint || any
    cure := false })
  let s := if any then tellNext s p cSUSPECT 4 0 else s
  openGate (afterCure s p) p

/-- The pass ends in revert (R401); for one that serves a replay no replica holds a clean copy (R259). -/
def endRevert (s : State) (p : Fin 12) : State :=
  let cure := (s.part p).uc.cure
  let s := modUc s p (fun u => { u with
    state := 0, revert := u.revert || !u.cure, groups := [], blocks := [], cure := false })
  openGate (afterCure (if cure then s else tellNext s p cFAULT 8 cDIVERGED) p) p

/-- R398, R399: the leaf pages of the running round, then the root entry that carries its number. -/
def fpPages (s : State) (p : Fin 12) : State :=
  let u := (s.part p).uc
  let ls := leaves s p
  let s := (u.groups.take 64).zipIdx.foldl (fun s (q, n) =>
    fpSend s p (0x91000 + (u.member.toNat * 64 + n) * 0x800)
      (padTo (((ls.drop (256 * q)).take 256).flatMap (fun l => leBytes 8 l.toNat)) 0x800)) s
  fpRoot s p ls

/-- The next round. -/
def fpRound (s : State) (p : Fin 12) : State := fpPages (modUc s p (fun u => { u with round := u.round + 1 })) p

/-- R409: after a live firmware update the running round starts again from its root entry; a pass that still awaits its digests,
and one that has timed out, go on waiting. -/
def fpAgain (s : State) (p : Fin 12) : State :=
  let u := (s.part p).uc
  if u.state.toNat < 2 ∨ u.timeout then s
  else
    let s := modUc s p (fun u => { u with blocks := [] })
    if u.round = 0 then fpRoot s p (leaves s p) else fpPages s p

/-- Another round where groups are left, or the end. -/
def fpGo (s : State) (p : Fin 12) : State := if (s.part p).uc.groups.isEmpty then endPass s p else fpRound s p

/-- A round is over, with its groups. -/
def fpNext (s : State) (p : Fin 12) : State := fpGo (modUc s p (fun u => { u with groups := u.groups.drop 64 })) p

/-- R399, items 3 to 5: the winning leaf, none for a revert.  `vs` holds each member's role and leaf. -/
def winner (vs : List (Nat × DWord)) : Option DWord :=
  let copies := vs.filter (fun v => v.1 ≠ 2)
  let live := copies.filter (fun v => v.2 ≠ leafPoison)
  match live.find? (fun v => decide (copies.length < 2 * (live.countP (fun x => decide (x.2 = v.2))))) with
  | some v => some v.2
  | none =>
    match vs.find? (fun v => v.1 = 1), vs.find? (fun v => v.1 = 2) with
    | some d, some m => if d.2 = m.2 ∧ d.2 ≠ leafPoison then some d.2 else none
    | _, _ => none

/-- R399, R400: one block decided where its leaves differ: its winner PUTs it to the losers, at the address that the loser's own
list gives it and the spec tells no other member (a free value, log 104); a loser awaits it. -/
def fpDecide (s : State) (p : Fin 12) (roles : List Nat) (b : Nat) (ls : List DWord) : Option State :=
  let u := (s.part p).uc
  let vs := roles.zip ls
  match ls with
  | [] => some s
  | l0 :: _ =>
    if ls.all (fun l => l = l0) then some s
    else match winner vs with
      | none => none
      | some w =>
        let holders := (ls.zipIdx.filter (fun x => x.1 = w)).map Prod.snd
        let losers := (ls.zipIdx.filter (fun x => x.1 ≠ w)).map Prod.snd
        let s := modUc s p (fun u => { u with anyRefresh := u.anyRefresh || !losers.isEmpty })
        let s := if holders.head? = some u.member.toNat then
            match (fpBlocks s p)[b]? with
            | some (a, _) => losers.foldl (fun s m =>
                let e := u.peers.toNat + 8 * m
                (chunks 1024 (s.bytes a 4096)).zipIdx.foldl (fun s (d, i) =>
                  fwSend s 8 { blankMsg with
                    vc := 2, kind := 1, ordered := true, tracked := true, attempt := (s.part p).xc.attempt false
                    dstDev := BitVec.ofNat 16 (s.num e 2), dstCore := 0, job := (s.part p).job.getD 0, fmt := 1
                    addr := BitVec.ofNat 48 (4096 * (Config.fpLoserBlock (s.num e 8) b).toNat + 1024 * i), data := d }) s) s
            | none => s
          else s
        some (if losers.contains u.member.toNat then modUc s p (fun u => { u with blocks := u.blocks ++ [(b, w, 0)] })
          else s)

/-- The leaf of block `i` of the `n`-th page of a member, as its page in the own area holds it. -/
def pageLeaf (s : State) (p : Fin 12) (m n i : Nat) : DWord :=
  BitVec.ofNat 64 (s.num ((s.part p).uc.area.toNat + 0x91000 + (m * 64 + n) * 0x800 + 8 * i) 8)

/-- R399: resolves the groups of the running round; none for a revert. -/
def fpResolve (s : State) (p : Fin 12) (roles : List Nat) : Option State :=
  let u := (s.part p).uc
  let total := (fpBlocks s p).length
  let cells := (u.groups.take 64).zipIdx.flatMap (fun (q, n) =>
    (List.range (min 256 (total - 256 * q))).map (fun i => (256 * q + i, n, i)))
  cells.foldl (fun (s? : Option State) x => s?.bind (fun s =>
    fpDecide s p roles x.1 ((List.range roles.length).map (fun m => pageLeaf s p m x.2.1 x.2.2)))) (some s)

/-- FP_ROOTS_COMPLETE (R399): acts once every member's root entry counts. -/
def execFpRootsComplete (p : Fin 12) (s : State) : Out :=
  let u := (s.part p).uc
  let es := fpEntries s p
  .next (if u.state ≠ 2 ∨ u.timeout ∨ !fwRuns s ∨ es.length ≠ u.members.toNat then s
    else if u.round = 0 then
      let same := es.all (fun e => natAt e.2 8 8 == (match es with | f :: _ => natAt f.2 8 8 | [] => 0))
      if same && es.all (fun e => !bit (natAt e.2 7 1) 0) then endPass s p
      else
        let n := ceilDiv (fpBlocks s p).length 256
        let g := fun (m q : Nat) => s.num (u.area.toNat + 0x1000 + 0x10000 * m + 8 * q) 8
        let diff := (List.range n).filter (fun q => (List.range u.members.toNat).any (fun m => g m q ≠ g 0 q))
        fpGo (modUc s p (fun u => { u with groups := diff })) p
    else
      match fpResolve s p (es.map (fun e => natAt e.2 5 1)) with
      | none => endRevert s p
      | some s => if (s.part p).uc.blocks.isEmpty then fpNext s p else modUc s p (fun u => { u with state := 3 }))

/-- FP_BLOCK_RECEIVED (R400): the loser judges block `b` anew. -/
def execFpBlockReceived (p : Fin 12) (b : Nat) (s : State) : Out :=
  let u := (s.part p).uc
  .next (if !fwRuns s then s else match u.blocks.find? (fun x => x.1 = b), (fpBlocks s p)[b]? with
    | some (_, w, tries), some (a, c) =>
      if leafOf s b a = w then
        let s := modUc s p (fun u => { u with
          refreshed := satAdd u.refreshed 1, blocks := u.blocks.filter (fun x => x.1 ≠ b) })
        let s := match coreOf? c with
          | some c => if (tcore s c).level = 0 ∧ !(s.core c).retired then setLevel s c 1 0 else s
          | none => s
        if (s.part p).uc.blocks.isEmpty then fpNext s p else s
      else if tries < 3 then modUc s p (fun u => { u with
        blocks := u.blocks.map (fun x => if x.1 = b then (x.1, x.2.1, x.2.2 + 1) else x) })
      else endRevert s p
    | _, _ => s)

/-- FP_TIMEOUT (R402).  The next step halts at CHECKED at once where its checks are done and its entry is out, else when they
are (R344, log 104). -/
def execFpTimeout (p : Fin 12) (s : State) : Out :=
  let u := (s.part p).uc
  .next (if u.state = 2 ∧ fwRuns s ∧ polNat s p 20 4 * msTicks ≤ s.since u.sentAt ∧
        (fpEntries s p).length < u.members.toNat then
      if u.cure then endRevert s p else
      let s := modUc s p (fun u => { u with timeout := true })
      match holds s p (u.commit + 1) with
      | some i =>
        let x := slotAt s p i
        if !x.halted ∧ x.sent ∧ x.replayPos = 0 ∧ x.curing = false ∧ (x.state = stREDUCED ∨ x.state = stCHECKED) then
          haltStep (modSlot s p i (fun x => { x with pos := 0, abandoned := false })) p i cTIMEOUT
        else s
      | none => s
    else s)

/-- R402: RETRY restarts the pass from its root exchange: the group array, then the root entry (R398). -/
def restartPass (s : State) (p : Fin 12) : State :=
  let s := modUc s p (fun u => { u with timeout := false, round := 0, groups := [], blocks := [] })
  let ls := leaves s p
  fpRoot (fpGroups s p ls) p ls

end Sys2Proof.Machine
end

