-- ==== Sys2Proof/Machine/Update.lean ====
section
/-! DEFINITION.  The update unit UP (R379 to R394). -/

namespace Sys2Proof.Machine

open Sys2Proof

/-- The fields of an UPDATE descriptor (R198). -/
structure UpdD where
  rule : Nat
  ema : Bool
  w16 : Bool
  bias : Bool
  mD : Nat
  vD : Nat
  vcD : Nat
  emaD : Nat
  normD : Nat
  lr : Num
  b1 : Num
  b2 : Num
  eps : Num
  wd : Num
  decay : Num
  clip : Num
  t : Nat
  deriving DecidableEq, Repr

/-- Reads an UPDATE descriptor. -/
def updOf (d : Nat) : UpdD :=
  let f := fun (o : Nat) => w32 (dB d o 4)
  ⟨dB d 16 1, bit (dB d 17 1) 0, bit (dB d 17 1) 1, bit (dB d 17 1) 2, dB d 18 1, dB d 19 1, dB d 20 1, dB d 21 1,
    dB d 22 1, f 24, f 28, f 32, f 36, f 40, f 44, f 48, dB d 52 4⟩

/-- The number one. -/
def one32 : Num := w32 0x3F800000
/-- Square root (R379). -/
def rSqrt (x : Num) : Num := (fSqrt f32 .rne x).1

/-- R382: powT by square-and-multiply from the least significant bit. -/
def powT (b : Num) (t : Nat) : Num :=
  ((List.range 32).foldl (fun (rp : Num × Num) n =>
    (if bit t n then rMul rp.1 rp.2 else rp.1, rMul rp.2 rp.2)) (one32, b)).1

/-- The gate tag of the partition that owns a core. -/
def gateTagOf (s : State) (c : Fin 96) : Word := tagFor s c 8

/-- What an update instruction forms once (R382). -/
structure UpdC where
  u : UpdD
  b1c : Num
  b2c : Num
  c1 : Num
  c2 : Num
  /-- rounding of m and of v to their stored formats (R380) -/
  fm : Fmt
  fv : Fmt
  deriving DecidableEq, Repr

/-- A value as it is stored in a float format under RNE. -/
def stored (f : Fmt) (x : Num) : Num := decodeFloat f.ffmt (toFloat f.ffmt .rne x).1

/-- R383: the gradient clipped; NaN passes. -/
def clipG (u : UpdD) (g : Num) : Num :=
  if u.clip.isZero || g.isNan then g else minMax false (minMax true g u.clip.neg) u.clip

/-- R383: [WD] fma(WD, w, x). -/
def decayed (u : UpdD) (w x : Num) : Num := if u.wd.isZero then x else rFma u.wd w x

/-- R383: the direction of ADAM. -/
def dirOf (k : UpdC) (m v : Num) : Num :=
  let mh := if k.u.bias then rDiv m k.c1 else m
  let vh := if k.u.bias then rDiv v k.c2 else v
  rDiv mh (rAdd (rSqrt vh) k.u.eps)

/-- R383: the sign. -/
def sgn (x : Num) : Num :=
  match x with
  | .nan => .nan
  | .inf n => if n then one32.neg else one32
  | .fin n m e => if m = 0 then .fin n m e else if n then one32.neg else one32

/-- fma(BETA, x, (1 − BETA) × y). -/
def blend (b bc x y : Num) : Num := rFma b x (rMul bc y)

/-- R380, R383: one element under the rules 1 to 5 and 7: new w, m, v from g, w, m, v; m and v before they are rounded to their
formats, as the slots count them (R65, R67), while later lines use what is stored. -/
def upElem (k : UpdC) (g w m v : Num) : Num × Num × Num :=
  let u := k.u
  let nl := u.lr.neg
  if u.rule = 1 then (rFma nl (decayed u w g) w, m, v)
  else if u.rule = 2 then
    let m := rFma u.b1 m (decayed u w g)
    (rFma nl (stored k.fm m) w, m, v)
  else if u.rule = 3 then
    let x := decayed u w g
    let m := rFma u.b1 m x
    (rFma nl (rFma u.b1 (stored k.fm m) x) w, m, v)
  else if u.rule = 4 then
    let x := decayed u w g
    let m := blend u.b1 k.b1c m x
    let v := blend u.b2 k.b2c v (rMul x x)
    (rFma nl (dirOf k (stored k.fm m) (stored k.fv v)) w, m, v)
  else if u.rule = 5 then
    let m := blend u.b1 k.b1c m g
    let v := blend u.b2 k.b2c v (rMul g g)
    (rFma nl (decayed u w (dirOf k (stored k.fm m) (stored k.fv v))) w, m, v)
  else
    let c := rFma u.b1 m (rMul k.b1c g)
    (rFma nl (decayed u w (sgn c)) w, blend u.b2 k.b2c m g, v)

/-- R384: the tail of ADAFACTOR: momentum, before it is rounded, and weight from the direction. -/
def factTail (k : UpdC) (d w m : Num) : Num × Num :=
  let m' := if k.u.mD = 0 then m else blend k.u.b1 k.b1c m d
  let d := if k.u.mD = 0 then d else stored k.fm m'
  (rFma k.u.lr.neg (decayed k.u w d) w, m')

/-- R385: m' and v' of LAMB, before they are rounded, and u. -/
def lambElem (k : UpdC) (g w m v : Num) : Num × Num × Num :=
  let m' := blend k.u.b1 k.b1c m g
  let v' := blend k.u.b2 k.b2c v (rMul g g)
  (m', v', decayed k.u w (dirOf k (stored k.fm m') (stored k.fv v')))

/-- The elements of a state tensor, or `n` absent ones. -/
def stateElems (s : State) (c : Fin 96) (i n : Nat) : List Elem :=
  if i = 0 then List.replicate n ⟨0, .zero, 0, false, false⟩ else loadAll s (absT c (descOf s c i))

/-- Stores new values where there are any; an element without one keeps its bits and its poison (R390). -/
def storeState (s : State) (l : Lay) (old : List Elem) (new : List (Option Num)) : State :=
  storeAll s l ((chunks l.n0 (old.zip new)).map (fun r =>
    ⟨r.map (fun (o, x) => match x with | some x => (toFloat l.fmt.ffmt .rne x).1 | none => o.raw), [],
      r.map (fun (o, _) => o.pois)⟩))

/-- A state descriptor (0 where it is absent), its elements and their new values. -/
abbrev StateNew := Nat × List Elem × List (Option Num)

/-- The same for a state descriptor that may be absent. -/
def storeDesc (c : Fin 96) (s : State) (x : StateNew) : State :=
  if x.1 = 0 then s else storeState s (absT c (descOf s c x.1)) x.2.1 x.2.2

/-- R64, R66: the slot updates of the conversions through state descriptors; none where one is refused. -/
def dsStates (s : State) (c : Fin 96) (l : List StateNew) : Option State :=
  l.foldl (fun o x => o.bind (fun s =>
    if x.1 = 0 then some s
    else
      let d := descOf s c x.1
      dsUpdate s c d (gateTagOf s c) false (x.2.2.countP Option.isSome)
        (x.2.2.foldl (fun a y => match y with | some y => a.add (toFloat (dFmt d).ffmt .rne y).2 | none => a) {})))
    (some s)

/-- R387, R390, R394: one run of a destination converted, with the elements to be left out; whole blocks
of a BQ format are left where one of their elements is; the marks tell which elements are left.  Also how many they are. -/
def runLeft (f : Fmt) (m : CvtMode) (e0 : Nat) (old : List Elem) (new : List (Option Num)) :
    RunOut × Ev × Nat :=
  let bad : List Bool := if f.isBq then (chunks 32 new).flatMap (fun b =>
      let x := b.any Option.isNone
      b.map (fun _ => x)) else new.map Option.isNone
  let xs := (new.zip bad).map (fun (x, b) => (if b then Num.zero else x.getD .zero, false))
  let (o, ev) := convRun f m e0 xs
  let codes := (o.codes.zip (old.zip bad)).map (fun (k, e, b) => if b then e.raw else k)
  let scales := o.scales.zipIdx.map (fun (k, i) =>
    if bad.getD (32 * i) false then (old[32 * i]?.map (fun e => e.scale)).getD k else k)
  (⟨codes, scales, bad⟩, ev, bad.countP id)

/-- R257, R390: runs of a destination written; an element or a scale that is left keeps the poison it carries, and no other
unit gains any. -/
def storeLeft (s : State) (l : Lay) (os : List RunOut) : State :=
  let n := max 1 (l.fmt.width / 8)
  let keep := fun (t : State) (a n : Nat) => if s.poison.meets a n then t.mark a n else t
  os.zipIdx.foldl (fun t (o, r) =>
    o.pois.zipIdx.foldl (fun t (left, i) =>
      if left then
        let t := keep t ((l.runSpan r).1 + i * l.fmt.width / 8) n
        if l.fmt.isBq then keep t (l.scaleAddr r (i / 32)) 1 else t
      else t) t)
    (storeAll s l (os.map (fun o => { o with pois := o.pois.map (fun _ => false) })))

/-- Every run of a destination. -/
def allLeft (l : Lay) (m : CvtMode) (old : List Elem) (new : List (Option Num)) :
    List RunOut × Ev × Nat :=
  let rs := (chunks l.n0 (old.zip new)).zipIdx.map (fun (r, i) =>
    runLeft l.fmt m (i * l.n0) (r.map Prod.fst) (r.map Prod.snd))
  (rs.map (fun r => r.1), rs.foldl (fun a r => a.add r.2.1) {}, (rs.map (fun r => r.2.2)).foldl (· + ·) 0)

/-- Changes the update context of the partition that owns a core. -/
def modUcOf (s : State) (c : Fin 96) (f : Upd → Upd) : State :=
  match ownerOf s c with
  | some p => s.modPart p (fun q => { q with uc := f q.uc })
  | none => s

/-- R389: non-finite results counted and reported. -/
def countNonfinite (s : State) (c : Fin 96) (n : Nat) : State :=
  if n = 0 then s
  else recordCore (modUcOf s c (fun u => { u with nonfinite := satAdd u.nonfinite n })) 0x0205 c
    (leBytes 4 (gateTagOf s c).toNat ++ leBytes 4 n)

/-- R390: elements left because of poison; a fingerprint pass follows the commit. -/
def countSkipped (s : State) (c : Fin 96) (n : Nat) : State :=
  if n = 0 then s else modUcOf s c (fun u => { u with poisonSkip := satAdd u.poisonSkip n, due := true })

/-- A value is not finite. -/
def Num.isOdd (x : Num) : Bool := x.isNan || x.isInf

/-- What an update gives one element: the new weight, and the new moments before they are rounded to their formats. -/
structure UpOut where
  w : Num
  m : Num
  v : Num
  deriving DecidableEq, Repr

/-- The writes of an UPD_APPLY: datum copy, states, EMA; counts (R387 to R390).  The second moment is that of `outs`, or the
factors given.  Where a slot update is refused, none of this and the address. -/
def applyWrites (s : State) (c : Fin 96) (w d : Nat) (o : DWord) (u : UpdD) (ws ms vs es : List Elem)
    (outs : List (Option UpOut)) (factors : Option (List StateNew)) : State × Option (Option Nat) :=
  let dst := absT c d
  let mode := cvtMode s c w d o 64
  let (runs, ev, left) := allLeft dst mode ws (outs.map (Option.map UpOut.w))
  let newW := (runs.flatMap (fun r => r.codes)).map (fun k => decodeElem dst.fmt 0x7F k)
  let ec := rSub one32 u.decay
  let ema := fun (e y : Num) => rFma u.decay e (rMul ec y)
  let emas := (outs.zip (newW.zip es)).map (fun (x, y, e) => x.map (fun _ => ema e.val y))
  let isOdd := fun (i : Nat) (x : Num) => i ≠ 0 && (stored (dFmt (descOf s c i)) x).isOdd
  let odd := (outs.zip (newW.zip es)).countP (fun (x, y, e) => match x with
    | some x => y.isOdd || isOdd u.mD x.m || (factors.isNone && isOdd u.vD x.v) || (u.ema && isOdd u.emaD (ema e.val y))
    | none => false)
  let states : List StateNew := (u.mD, ms, outs.map (Option.map UpOut.m)) ::
    (factors.getD [(u.vD, vs, outs.map (Option.map UpOut.v))] ++ if u.ema then [(u.emaD, es, emas)] else [])
  match (dsUpdate s c d (gateTagOf s c) (insTensor w) (dst.count - left) ev).bind (fun s => dsStates s c states) with
  | none => (s, some (dsBadAny s c (d :: states.map (fun x => descOf s c x.1))))
  | some s =>
    let s := states.foldl (storeDesc c) (storeLeft s dst runs)
    (countSkipped (countNonfinite s c odd) c left, none)

/-- R384: the factored second moment.  The direction of each element, the new row and column factors before they are rounded. -/
def factored (k : UpdC) (cols : Nat) (gs : List (Num × Bool)) (vs cs : List Elem) (fc : Fmt) :
    List (Option Num) × List (Option Num) × List (Option Num) :=
  let q := gs.map (fun (g, _) => rAdd (rMul g g) k.u.eps)
  let rows := chunks cols q
  let badRow := (chunks cols gs).map (fun r => r.any Prod.snd)
  let badCol := (List.range cols).map (fun j => (chunks cols gs).any (fun r => (r[j]?.map Prod.snd).getD false))
  let nC := w32 (n32 (int32f cols))
  let nR := w32 (n32 (int32f rows.length))
  let rs := rows.map (fun r => rDiv (rowSum r) nC)
  let sums := rows.foldl (fun (acc : List Num) r => (acc.zip r).map (fun (a, x) => rAdd a x)) (List.replicate cols .zero)
  let vr := (vs.zip rs).map (fun (v, x) => blend k.u.b2 k.b2c v.val x)
  let vc := (cs.zip sums).map (fun (v, x) => blend k.u.b2 k.b2c v.val (rDiv x nR))
  let sr := vr.map (stored k.fv)
  let sc := vc.map (stored fc)
  let rm := rDiv (rowSum sr) nR
  let okR := (vs.zip badRow).map (fun (v, b) => !(v.pois || b))
  let okC := (cs.zip badCol).map (fun (v, b) => !(v.pois || b))
  let dirs := (gs.zipIdx).map (fun ((g, _), i) =>
    if okR.getD (i / cols) false && okC.getD (i % cols) false then
      some (rDiv g (rSqrt (rDiv (rMul (sr.getD (i / cols) .zero) (sc.getD (i % cols) .zero)) rm)))
    else none)
  (dirs, (vr.zip okR).map (fun (x, b) => if b then some x else none),
    (vc.zip okC).map (fun (x, b) => if b then some x else none))

/-- UPD_APPLY (R380 to R390). -/
def workUpdApply : Work := fun s c w _ o =>
  let d := descOf s c (insDst w)
  let a := descOf s c (insA w)
  let u := updOf (descOf s c (insAux w))
  let t := ((gateTagOf s c).toNat + 2 ^ 32 - u.t) % 2 ^ 32
  if u.bias ∧ t = 0 then Eff.bad s [] fFORMAT none
  else
    let dst := absT c d
    let src := absT c a
    let k : UpdC := ⟨u, rSub one32 u.b1, rSub one32 u.b2, rSub one32 (powT u.b1 t), rSub one32 (powT u.b2 t),
      if u.mD = 0 then .fp32 else dFmt (descOf s c u.mD), if u.vD = 0 then .fp32 else dFmt (descOf s c u.vD)⟩
    let n := dst.count
    let fact := u.rule = 6 ∧ u.vcD ≠ 0
    let ws := loadAll s dst
    let gs := loadAll s src
    let ms := stateElems s c u.mD n
    let vs := stateElems s c u.vD n
    let es := stateElems s c u.emaD n
    let cg := gs.map (fun g => clipG u g.val)
    let bad := (gs.zip (ws.zip (ms.zip es))).map (fun (g, x, m, e) => g.pois || x.pois || m.pois || e.pois)
    let states := [u.mD, u.vD, u.vcD, u.emaD].filter (· ≠ 0)
    let reads := src.ranges ++ dst.ranges ++ states.flatMap (fun i => (absT c (descOf s c i)).ranges)
    let writes := dst.ranges ++ states.flatMap (fun i => (absT c (descOf s c i)).ranges)
    let fin := fun (r : State × Option (Option Nat)) (more : List Range) => match r.2 with
      | some f => Eff.bad r.1 (writes ++ more) fPLAT f
      | none => Eff.done r.1 (reads ++ more) (writes ++ more) false
    if fact then
      let cs := stateElems s c u.vcD dst.n0
      let (dirs, vr, vc) := factored k dst.n0 (cg.zip (gs.map (fun g => g.pois))) vs cs (dFmt (descOf s c u.vcD))
      let outs := (dirs.zip ((ws.zip ms).zip bad)).map (fun (x, (y, m), b) =>
        match x with
        | some x => if b then none else
            let r := factTail k x y.val m.val
            some (⟨r.1, r.2, .zero⟩ : UpOut)
        | none => none)
      let odd := fun (f : Fmt) (xs : List (Option Num)) =>
        xs.countP (fun x => match x with | some x => (stored f x).isOdd | none => false)
      let odd := odd k.fv vr + odd (dFmt (descOf s c u.vcD)) vc
      fin (applyWrites (countNonfinite s c odd) c w d o u ws ms vs es outs (some [(u.vD, vs, vr), (u.vcD, cs, vc)])) []
    else
      let bad := (bad.zip vs).map (fun (b, v) => b || v.pois)
      let ops := (cg.zip (ws.zip (ms.zip vs))).zip bad
      if u.rule = 8 then
        let nl := absT c (descOf s c u.normD)
        let ne := loadRun s nl 0
        let nv := fun (i : Nat) => (ne[i]?.map Elem.val).getD Num.zero
        let npois := ne.any (fun e => e.pois)
        let r := ops.map (fun ((g, x, m, v), b) => (lambElem k g x.val m.val v.val, x.val, b || npois))
        if numEq (nv 3) one32 then
          let outs := r.map (fun ((m, v, x), y, b) =>
            if b then none else some (⟨rFma (rMul u.lr (nv 2)).neg x y, m, v⟩ : UpOut))
          fin (applyWrites s c w d o u ws ms vs es outs none) nl.ranges
        else
          let per := fun (f : (Num × Num × Num) × Num × Bool → Num) (a0 : Num) =>
            (chunks dst.n0 r).foldl (fun a run => rAdd a (rowSum (run.map (fun x => if x.2.2 then .zero else f x)))) a0
          let wsq := per (fun x => rMul x.2.1 x.2.1) (nv 0)
          let usq := per (fun x => rMul x.1.2.2 x.1.2.2) (nv 1)
          let s := if npois then s else s.write nl.base (leBytes 4 (n32 wsq) ++ leBytes 4 (n32 usq)) false
          Eff.done (countSkipped s c (r.countP (fun x => x.2.2))) (reads ++ nl.ranges) nl.ranges false
      else
        let outs := ops.map (fun ((g, x, m, v), b) =>
          if b then none
          else if u.rule = 6 then
            let v' := blend u.b2 k.b2c v.val (rAdd (rMul g g) u.eps)
            let r := factTail k (rDiv g (rSqrt (stored k.fv v'))) x.val m.val
            some (⟨r.1, r.2, v'⟩ : UpOut)
          else
            let r := upElem k g x.val m.val v.val
            some ⟨r.1, r.2.1, r.2.2⟩)
        fin (applyWrites s c w d o u ws ms vs es outs none) []

/-- UPD_NORM (R386); poison goes into the accumulator (R257). -/
def workUpdNorm : Work := fun s c w _ _ =>
  let src := absT c (descOf s c (insA w))
  let u := updOf (descOf s c (insAux w))
  let nl := absT c (descOf s c u.normD)
  let ne := loadRun s nl 0
  let as := loadAll s src
  let pois := as.any (fun e => e.pois)
  if u.rule = 8 then
    let sum := fun (i : Nat) => ((chunks 4 as).map (fun r => (r[i]?.map Elem.val).getD Num.zero)).foldl rAdd Num.zero
    let wsq := sum 0
    let usq := sum 1
    let phi := if wsq.isZero || usq.isZero then one32 else rDiv (rSqrt wsq) (rSqrt usq)
    Eff.done (noteTern (s.write nl.base ([wsq, usq, phi, one32].flatMap (fun x => leBytes 4 (n32 x))) pois) c as)
      (src.ranges ++ nl.ranges) nl.ranges pois
  else
    let all := (chunks src.n0 as).foldl (fun a run => rAdd a (rowSum (run.map (fun e => rMul e.val e.val))))
      ((ne[0]?.map Elem.val).getD Num.zero)
    let pois := pois || ne.any (fun e => e.pois)
    Eff.done (noteTern (s.write nl.base (leBytes 4 (n32 all)) pois) c as) (src.ranges ++ nl.ranges) nl.ranges pois

/-- UPD_WCOPY (R390, R394). -/
def workUpdWcopy : Work := fun s c w _ o =>
  let d := descOf s c (insDst w)
  let dst := absT c d
  let src := absT c (descOf s c (insA w))
  let es := loadAll s src
  let xs := es.map (fun e => if e.pois then none else some e.val)
  let (runs, ev, left) := allLeft dst (cvtMode s c w d o 64) (loadAll s dst) xs
  match dsUpdate s c d (gateTagOf s c) (insTensor w) (dst.count - left) ev with
  | none => Eff.bad s dst.ranges fPLAT (dsBad s c d)
  | some s => Eff.done (noteTern (countSkipped (storeLeft s dst runs) c left) c es) src.ranges dst.ranges false

/-! ### The gate (R352) -/

/-- R352: under SKIP an instruction reads, writes and draws nothing; its signal comes at its completion. -/
def skipHead (s : State) (c : Fin 96) (op gap : Nat) : State :=
  let s := passCore s c gap
  match headReady s c 8 op with
  | none => s
  | some q =>
    if !gateReady s c q.word.toNat then s
    else
      let tag := (s.core c).stepTag
      let s := beginStart s c 8 q
      let fl : Flight :=
        { ent := q, tag := tag, descs := [], reads := [], writes := [], remote := [], unsent := [], pois := false, xi := none, ringFill := 0,
          ringCons := 0, start := (s.core c).ac.cycles }
      s.modCore c (fun k => k.modEng 8 (fun n => { n with flight := n.flight ++ [fl] }))

/-- A gated instruction (R352). -/
def gatedCmd (op : Nat) (work : Work) (c : Fin 96) (gap : Nat) (s : State) : Out :=
  .next (if coreShut s c then s
    else if gateOf s c = 2 then skipHead s c op gap
    else startCmd s c 8 op gap gateReady work)

/-- UPD_APPLY. -/
def execUpdApply (c : Fin 96) (gap : Nat) (s : State) : Out := gatedCmd 1 workUpdApply c gap s
/-- R84 for UPD_NORM, which is not gated (R352). -/
def normReady (s : State) (c : Fin 96) (w : Nat) : Bool := residentFor s c 8 w

/-- UPD_NORM. -/
def execUpdNorm (c : Fin 96) (gap : Nat) (s : State) : Out := .next (startCmd s c 8 2 gap normReady workUpdNorm)
/-- UPD_WCOPY. -/
def execUpdWcopy (c : Fin 96) (gap : Nat) (s : State) : Out := gatedCmd 3 workUpdWcopy c gap s

end Sys2Proof.Machine
end

