-- ==== Sys2Proof/Machine/Hidden.lean ====
section
/-! DEFINITION.  The hidden context (R89, R158, R418 to R422): what an image may hold that runs in it (R436), and what a kernel's
program leaves in the test reserve.  The program runs on a core of its own, whose data SRAM holds the operands and results of the
test reserve `hidShift` bytes lower, where a program may reach them, so that every operation is the one that programs use. -/

namespace Sys2Proof.Machine

open Sys2Proof

/-! ### Offsets -/

/-- Bytes by which the hidden context's data SRAM offsets are lowered. -/
def hidShift : Nat := 0x200000
/-- An offset in the test reserve lowered. -/
def lowered (o : Nat) : Nat := if dataTop ≤ o then o - hidShift else o
/-- The same for an offset counted in units of 64 bytes (R330). -/
def lowered64 (o : Nat) : Nat := lowered (64 * o) / 64

/-- A descriptor with a function applied to every data SRAM offset in it (R190 to R197). -/
def hidDesc (f : Nat → Nat) (d : Nat) : Nat :=
  let scale := fun (off d : Nat) => if (dFmt d).isBq then mapField f d (8 * off) 48 else d
  if dSpace d = 1 then
    if dType d = 1 ∨ dType d = 2 then scale 44 (mapField f d 48 48)
    else if dType d = 5 then scale 52 (mapField f d 48 48)
    else if dType d = 4 then mapField f d 128 22
    else d
  else d

/-- The instruction carries RES_OFF (R199). -/
def hasRes (w : Nat) : Bool :=
  (insEng w == 2 && decide (1 ≤ insOp w ∧ insOp w ≤ 4)) || (insEng w == 9 && decide (2 ≤ insOp w ∧ insOp w ≤ 8)) ||
    (insEng w == 3 && decide (4 ≤ insOp w ∧ insOp w ≤ 5)) || (insEng w == 4 && decide (3 ≤ insOp w ∧ insOp w ≤ 4))

/-- An instruction with a function applied to RES_OFF. -/
def hidWord (f : Nat → Nat) (w : Nat) : Nat := if hasRes w then mapField f w 136 22 else w

/-- An image with every data SRAM offset lowered. -/
def Image.lower (im : Image) : Image :=
  { im with insns := im.insns.map (hidWord lowered), descs := im.descs.map (hidDesc lowered) }

/-! ### The check of a kernel's image (R419, R420, R436) -/

/-- Ranges of a descriptor in an address space: first offset and bytes. -/
def descSpans (space d : Nat) : List (Nat × Nat) :=
  if dSpace d ≠ space then []
  else if dType d = 1 then [(tLay d).extent, (tLay d).scaleExtent]
  else if dType d = 2 then
    let c := cView d
    [(c.base, (c.hIn - 1) * c.stH + (c.wIn - 1) * c.stW + ceilDiv (c.c * c.fmt.width) 8),
      (c.scalePtr, if c.fmt.isBq then c.wIn * c.hIn * ceilDiv c.c 32 else 0)]
  else if dType d = 4 then [(field d 128 22, dB d 20 4 * (if dB d 28 1 = 0 then 2 else 4))]
  else if dType d = 5 then [(rLay d).extent, (rLay d).scaleExtent]
  else []

/-- A range is empty or lies in [lo, hi). -/
def within (lo hi : Nat) (r : Nat × Nat) : Bool := decide (r.2 = 0 ∨ (lo ≤ r.1 ∧ r.1 + r.2 ≤ hi))

/-- A descriptor names accumulator SRAM. -/
def usesAcc (d : Nat) : Bool := decide (dSpace d = 2) && (dType d == 1 || dType d == 5)

/-- R419, R420, R422: a descriptor of a kernel: data SRAM ranges in the operands and results of the test reserve, accumulator
ranges in the 16 KiB that are saved, nothing in the device's address space. -/
def hidDescOk (d : Nat) : Bool :=
  (descSpans 1 d).all (within 0x3E8000 0x3FC000) && (descSpans 2 d).all (within 0x3C000 0x40000) &&
    !(decide (dSpace d = 0) && (dType d == 1 || dType d == 5))

/-- R89, R419, R420: an instruction of a kernel: an engine of the set, hidden counters, its result record in the test reserve. -/
def hidInsOk (mask : BitVec 10) (w : Nat) : Bool :=
  let ctr := fun (f : WaitF) => f.mode == 0 || decide (f.ctr.val < 8)
  (insEng w == 15 || bit mask.toNat (insEng w)) && ctr (insWaitA w) && ctr (insWaitB w) &&
    (!insSigEn w || decide ((insSigCtr w).val < 8)) && (!hasRes w || within 0x3E8000 0x3FC000 (insResOff w, 16))

/-- R436: a kernel's image as PROG_LOAD would check it, under the rules of the hidden context. -/
def hiddenImageOk (k : Kernel) : Bool :=
  let im := Image.ofBytes k.image
  (headerCheck k.image).isNone && im.descs.all hidDescOk && im.insns.all (hidInsOk k.engMask) &&
    (!im.descs.any usesAcc || k.accSave) && decide ((imageCheck im.lower).code = 0)

/-! ### The program of a kernel runs (R418) -/

/-- The state after a command. -/
def nextOr (o : Out) (s : State) : State := match o with | .next t => t | _ => s

/-- Where the hidden context begins: its program and descriptors, read from the image region, the operands of the test reserve and
the saved accumulators, every hidden counter zero.  Core `c` of partition 0 stands for it, with nothing else of the device: no
plat entry, no JOB, no delayed-scaling table, gate tag and STEP_TAG 0 (log 94). -/
def hidStart (s : State) (c : Fin 96) (k : Kernel) : State :=
  let n := State.reset
  let im := (Image.ofBytes (s.bytes (dataAddr c 0x3E0000) (min k.image.length 0x8000))).lower
  let n := { n with
    ts := s.ts, freeCtr := s.freeCtr
    ms := { n.ms with
      pmapA := vset n.ms.pmapA (parcelOf c) { (vget n.ms.pmapA (parcelOf c)) with valid := true, part := 0 }
      sramBad := (s.ms.sramBad.filter (fun u => overlap (32 * u) 32 (dataAddr c 0x3E8000) 0x14000)).map (· - hidShift / 32) }
    fab := { n.fab with devId := s.fab.devId, idValid := true }
    clk := { n.clk with gated := false }, rst := { n.rst with dpUp := true } }
  let n := n.copyFrom s (dataAddr c 0x3E8000) (dataAddr c (lowered 0x3E8000)) 0x14000
  let n := if k.accSave then n.copyFrom s (dataAddr c 0x3FC000) (accAddr c 0x3C000) 0x4000 else n
  let n := n.write (progAddr c 0) (im.insns.flatMap (leBytes 32)) false
  let n := n.write (descAddr c im.descFirst) (im.descs.flatMap (leBytes 64)) false
  n.modCore c (fun x => { x with stopped := false, fetching := true, fetchIndex := BitVec.ofNat 12 im.startIndex })

/-- R158: engine `e` draws from the pack's origins, as they stand. -/
def hidOrigin (c : Fin 96) (k : Kernel) (e : Fin 10) (s : State) : State :=
  s.modCore c (fun x => { x with lg := { x.lg with
    vx := { x.lg.vx with s := k.originVx ^^^ BitVec.ofNat 64 (e.val * 2 ^ 60) }
    edge := { x.lg.edge with s := k.originEdge ^^^ BitVec.ofNat 64 (e.val * 2 ^ 60) } } })

/-- The instruction that stands at the head of engine `e` starts where it can; one of UP waits for no gate, which is the
program's. -/
def hidStartOn (c : Fin 96) (e : Fin 10) (s : State) : State :=
  let all := fun (l : List (Fin 96 → Nat → State → Out)) => l.foldl (fun s f => nextOr (f c 0 s) s) s
  match e.val with
  | 0 => all [execLoad, execFill]
  | 1 => all [execStore]
  | 2 => all [execGather, execScatter, execScatterAdd, execCsrExpand]
  | 3 => all [execPut, execRedPut, execMcast, execDispatch, execCombine]
  | 4 => all [execExpect, execRedExpect, execTokenRecv, execCombineRecv]
  | 5 => all [execMmul, execCvt]
  | 6 => all [execMvmul, execRingSet]
  | 7 => all [execAdd, execSub, execMul, execFma, execDiv, execMin, execMax, execAbs, execNeg, execSqrt, execCopy, execSfu,
      execDropout, execRandU, execIadd, execIsub, execImin, execImax, execAnd, execOr, execXor, execSoftmax, execLnorm,
      execRmsnorm, execOsmUpdate, execOsmFinal, execRsum, execRmax, execVld, execVst]
  | 8 => startCmd (startCmd (nextOr (execUpdNorm c 0 s) s) c 8 1 0 normReady workUpdApply) c 8 3 0 normReady workUpdWcopy
  | _ => all [execSort, execMerge, execUnion, execIntersect, execUnique, execTopk, execSegment, execHist]

/-- A descriptor that a STORE in flight has written is lowered like those of the image. -/
def hidDescs (c : Fin 96) (s : State) : State :=
  let ws := ((s.core c).engine 1).flight.flatMap (fun f => f.writes)
  ((List.range 256).filter (fun i => ws.any (fun r => overlap r.addr r.len (descAddr c i) 64))).foldl (fun s i =>
    s.write (descAddr c i) (leBytes 64 (hidDesc lowered (s.num (descAddr c i) 64))) (s.poisoned (descAddr c i) 64)) s

/-- R422: a message of the kernel as XI of its own core takes it: the addresses of DISPATCH come from a table of operands. -/
def hidMsg (c : Fin 96) (m : Msg) : Msg :=
  { m with
    dstCore := BitVec.ofNat 7 c.val
    addr := if m.kind = 0x04 then
        BitVec.ofNat 48 (mapField lowered64 (mapField lowered64 (mapField lowered64 m.addr.toNat 0 16) 16 16) 32 16)
      else m.addr }

/-- R422: the messages turn within the router and land; what finds no place comes again. -/
def hidTurn (c : Fin 96) (s : State) : State :=
  let ms := s.fab.waiting.map (fun w => w.msg)
  ms.foldl (fun s m => match xiLand s 0 (hidMsg c m) with
    | .landed s => s
    | .refused s _ => inject s m) (s.modFab (fun f => { f with waiting := [], rtx := [], fwWait := [] }))

/-- The groups that XI waits for complete. -/
def hidGroups (c : Fin 96) (s : State) : State :=
  (((s.core c).engine 4).flight.filterMap (fun f => f.xi.map (fun x => x.group))).foldl (fun s g => groupComplete s c g) s

/-- One CCLK cycle of the hidden context: every engine starts and completes what it can, the sequencer acts once (R76). -/
def hidCycle (c : Fin 96) (k : Kernel) (s : State) : State :=
  let s := passCore s c 1
  let s := [execNop c 0, execLoop c 0, execHalt c 0, execSeqDispatch c 0].foldl (fun s f => nextOr (f s) s) s
  let s := (List.finRange 10).foldl (fun s e => hidStartOn c e (hidOrigin c k e s)) s
  let s := hidGroups c (pumpSends (hidTurn c (hidDescs c s)))
  (List.finRange 10).foldl (fun s e => nextOr (execInstructionComplete c e 0 s) s) s

/-- The program runs until it has halted, an instruction of it has faulted, or `n` cycles are over. -/
def hidRun (c : Fin 96) (k : Kernel) : Nat → State → State
  | 0, s => s
  | n + 1, s => if (s.core c).stopped then s else hidRun c k n (hidCycle c k s)

/-- R256: the uncorrectable SRAM words that the program met are poisoned in the test reserve, and reported. -/
def hidErrs (s t : State) (c : Fin 96) : State :=
  meetErrs s ((s.ms.sramBad.filter (fun u =>
    overlap (32 * u) 32 (dataAddr c 0x3E8000) 0x14000 && !t.ms.sramBad.contains (u - hidShift / 32))).map (fun u => ⟨32 * u, 32⟩))

/-- R418, R419: what a kernel's program leaves: its operands and results in the test reserve, the hidden counters; and the digest
of its result range (R355), none where it has not halted or an instruction of it has faulted (R421). -/
def kernelRuns (s : State) (c : Fin 96) (k : Kernel) : State × Option DWord :=
  let s := meetErrs s [⟨dataAddr c 0x3E0000, min k.image.length 0x8000⟩]
  let t := hidRun c k (4 * k.length) (hidStart s c k)
  let s := (hidErrs { s with freeCtr := t.freeCtr } t c).copyFrom t (dataAddr c (lowered 0x3E8000)) (dataAddr c 0x3E8000) 0x14000
  let s := s.modCore c (fun x => { x with hidden := Vector.ofFn (fun i : Fin 8 => (vget (t.core c).ctr ⟨i.val, by omega⟩).val) })
  let s := meetErrs s [⟨dataAddr c k.resultOff, k.resultLen⟩]
  (s, if (t.core c).stopped && !(t.core c).faulted then some (rangeDigest s [(dataAddr c k.resultOff, k.resultLen)]) else none)

/-- R418, R421: a kernel has ended with the digest `result` of what the core computed, none where an instruction faulted or it
has not halted.  A core that computes as this manual says has the digest of its program's results; of any other the results are
undefined (log 94). -/
def kernelDone (s : State) (c : Fin 96) (k : Kernel) (result : Option DWord) : State :=
  let r := kernelRuns s c k
  if result.isSome ∧ r.2 = result then r.1 else r.1.spoil [testData c]

end Sys2Proof.Machine
end

