-- ==== Sys2Proof/Machine/Service.lean ====
section
/-! DEFINITION.  In-service tests (15): the ends of kernels, levels of cores (R421 to R441). -/

namespace Sys2Proof.Machine

open Sys2Proof

/-! ### What a kernel's end means (R421, R422, R429, R441) -/

/-- R356, R374: a core that fails a kernel becomes a suspect of the unclosed steps in which it worked. -/
def kernelSuspect (s : State) (c : Fin 96) : State :=
  match ownerOf s c with
  | none => s
  | some p => ([0, 1] : List (Fin 2)).foldl (fun s i =>
      let x := slotAt s p i
      if x.unclosed ∧ x.released.contains c.val ∧ x.suspects.all (fun u => decide (u.core ≠ c.val)) then
        let s := modSlot s p i (fun x => { x with suspects := x.suspects ++ [⟨c.val, none, 0⟩] })
        if x.done.contains c.val ∧ fwRuns s then startCheckOf s p i c else s
      else s) s

/-- R441: the suspect check that a failing buddy was running restarts on another one. -/
def buddyFails (s : State) (b : Fin 96) : State :=
  match ownerOf s b with
  | none => s
  | some p => ([0, 1] : List (Fin 2)).foldl (fun s i =>
      if (slotAt s p i).suspects.any (fun u => u.status == 1 && u.buddy == some b.val) then
        let s := modSlot s p i (fun x => { x with suspects := x.suspects.map (fun u =>
          if u.status = 1 ∧ u.buddy = some b.val then { u with status := 0, buddy := none } else u) })
        startWaiting (haltCore s b) p i
      else s) s

/-- A failure is charged to a core; its round stops. -/
def charge (s : State) (c : Fin 96) (k : Kernel) : State :=
  let s := endRound s c
  let s := if (s.core c).retired then modTc s c (fun t => { t with lastKernel := k.id })
    else buddyFails (addFailure (kernelSuspect s c) c k.id) c
  goOn (returnEngines s c) c

/-- R429: a round is complete; WATCH_PASS consecutive clean ones at Watch end it. -/
def cleanRound (s : State) (c : Fin 96) : State :=
  let s := endRound s c
  let s := if (s.core c).retired then s else modTc s c (fun t => { t with
    clean := satAdd t.clean 1, watchRun := if t.level = 1 then t.watchRun + 1 else t.watchRun })
  let t := tcore s c
  let s := if t.level = 1 ∧ s.serv.watchPass.toNat ≤ t.watchRun ∧ !(s.core c).retired then setLevel s c 0 0 else s
  goOn s c

/-- R429, R430: QUAR_HOLD_H hours have passed without failure. -/
def quietHeld (s : State) (c : Fin 96) : Bool :=
  decide (s.serv.quarHoldH.toNat * 3600 * secTicks ≤ s.since (tcore s c).quiet)

/-- A Normal core in the other half of the die that can run a kernel now (R422, R16). -/
def otherHalf (s : State) (c : Fin 96) (k : Kernel) : Option (Fin 96) :=
  (List.finRange 96).find? (fun d => decide (d.val / 48 ≠ c.val / 48) && !coreOut s d &&
    decide ((tcore s d).level = 0) && mayLaunch s d k)

/-- R422: the second run of a core's failed loopback kernel begins as soon as a core for it is free. -/
def trySecond (s : State) (c : Fin 96) : State :=
  let under := s.serv.cores.toList.any (fun t => match t.run with | some r => r.secondFor == some c.val | none => false)
  match (tcore s c).todo with
  | k :: _ =>
    if !(tcore s c).loopWait ∨ under then s
    else match otherHalf s c k with
      | some d => launch s d k false (some c.val)
      | none => s
  | [] => s

/-- A core's own kernel has ended. -/
def ownEnds (s : State) (c : Fin 96) (r : Run) (passed : Bool) : State :=
  if passed then
    let s := modTc s c (fun t => { t with todo := t.todo.drop 1 })
    if (tcore s c).todo.isEmpty then cleanRound s c else nextKernel s c
  else if r.kernel.loopback then trySecond (modTc s c (fun t => { t with loopWait := true })) c
  else charge s c r.kernel

/-- R422: the second run of a loopback kernel has ended on another core. -/
def secondEnds (s : State) (c : Fin 96) (k : Kernel) (passed : Bool) : State :=
  let s := modTc s c (fun t => { t with loopWait := false })
  if passed then charge s c k
  else
    let s := record s 0x0402 15 0x7F []
    goOn (endRound { s with serv := { s.serv with loopOff := some s.ts } } c) c

/-- A kernel ends on core `c` with the digest of its results: it returns its engines, and its result counts (R421). -/
def kernelEnds (c : Fin 96) (result : Option DWord) (s : State) : State :=
  match (tcore s c).run with
  | none => s
  | some r =>
    if !r.held then s
    else
      let passed := decide (result = some r.kernel.digest)
      let us := ceilDiv (s.since r.launched) usTicks
      let s := modTc s c (fun t => { t with
        run := none, stolen := if r.forced then satAdd t.stolen us else t.stolen
        forcedLog := if r.forced then recentForced s c ++ [(s.ts, us)] else t.forcedLog })
      let s := settleStop (returnEngines (restoreSaved (kernelDone s c r.kernel result) c r.kernel) c) c
      match r.secondFor with
      | some d => match coreOf? d with
        | some d => nextKernel (secondEnds s d r.kernel passed) c
        | none => s
      | none => ownEnds s c r passed

/-! ### The commands -/

/-- ROUND_OPEN (R424): 7/8 of an interval after the last round. -/
def execRoundOpen (c : Fin 96) (s : State) : Out := .next (if roundAge s c 7 then nextKernel (openRound s c) c else s)

/-- KERNEL_LAUNCH (R425, R428): a wait of the predicted length begins; a due round's kernel is forced. -/
def execKernelLaunch (c : Fin 96) (s : State) : Out :=
  let t := tcore s c
  .next (if t.due ∨ t.level = 2 then nextKernel s c
    else match t.todo with
      | k :: _ => if mayLaunch s c k && fitsWait s c k then launch s c k false none else s
      | [] => s)

/-- KERNEL_SET_HELD (R89, R420, R427): every engine of the set is at an instruction boundary, and the kernel starts. -/
def execKernelSetHeld (c : Fin 96) (s : State) : Out := .next (holdSet s c)

/-- SET_ACQUIRE_TIMEOUT (R425): the set is not held 20 µs after the launch; a forced kernel goes on waiting, and so does a
quarantined core's and a second run. -/
def execSetAcquireTimeout (c : Fin 96) (s : State) : Out :=
  .next (match (tcore s c).run with
    | some r =>
      if !r.held ∧ !r.forced ∧ r.secondFor = none ∧ (tcore s c).level ≠ 2 ∧ 20 * usTicks ≤ s.since r.launched then
        returnEngines (modTc s c (fun t => { t with run := none })) c
      else s
    | none => s)

/-- KERNEL_HALT (R418, R421): the kernel has ended; `result` is the digest of the results that the core has formed, none where
an instruction faulted. -/
def execKernelHalt (c : Fin 96) (result : Option DWord) (s : State) : Out := .next (kernelEnds c result s)

/-- KERNEL_OVERRUN (R421): 4 × LENGTH CCLK cycles, at the present P-step (log 94), have passed since the kernel started without
its HALT; its queued instructions are discarded, and those started have ended. -/
def execKernelOverrun (c : Fin 96) (s : State) : Out :=
  .next (match (tcore s c).run with
    | some r => if 4 * kernelTicks s r.kernel ≤ s.since r.launched then kernelEnds c none s else s
    | none => s)

/-- ROUND_DUE (R426, R427): a core in W1 comes to W0 first. -/
def execRoundDue (c : Fin 96) (s : State) : Out :=
  .next (if !roundAge s c 8 ∨ 2 ≤ s.pw.wstate.toNat then s
    else
      let s := openRound s c
      if (tcore s c).isOpen then forceAwake (modTc s c (fun t => { t with due := true })) c else s)

/-- FORCED_KERNEL_RESUME (R426, R427). -/
def execForcedKernelResume (c : Fin 96) (s : State) : Out :=
  .next (if (tcore s c).capHeld then forceAwake s c else s)

/-- LOOPBACK_SUSPEND_END (R422): 60 s have passed. -/
def execLoopbackSuspendEnd (s : State) : Out :=
  .next (match s.serv.loopOff with
    | some t =>
      if s.since t < 60 * secTicks then s
      else (List.finRange 96).foldl nextKernel { s with serv := { s.serv with loopOff := none } }
    | none => s)

/-- QUAR_HOLD_EXPIRY (R429, R431): QUAR_HOLD_H hours without failure; a core advised to retire stays (R432). -/
def execQuarHoldExpiry (c : Fin 96) (s : State) : Out :=
  let t := tcore s c
  .next (if t.level = 2 ∧ !(s.core c).retired ∧ !t.advised ∧ quietHeld s c then
      let s := modTc (setLevel s c 1 0) c (fun t => { t with heldOut := true })
      if t.run.isNone then returnEngines s c else s
    else s)

/-- FAIL_WINDOW_EXPIRY (R429): failures leave the window after FAIL_WINDOW_H hours. -/
def execFailWindowExpiry (c : Fin 96) (s : State) : Out :=
  .next (logLevel (modTc s c (fun t => { t with
    fails := t.fails.filter (fun x => decide (s.since x < s.serv.failWindowH.toNat * 3600 * secTicks)) })) c)

/-- R88, R221, R324: what waited for the stacks on a core: instructions of XI complete, and a STOP goes on. -/
def coreGoesOn (s : State) (c : Fin 96) : State :=
  if (s.core c).stopping then settleStop (closeAll s c) c else drainXi c 8 s

/-- R268: control firmware goes on with every partition. -/
def firmwareActs (s : State) : State := (List.finRange 12).foldl (fun s p => if fwRuns s then pollStep s p else s) s

/-- MEMORY_STEP_DONE (R221, R502): the stacks run at the new rate and serve what waits; instructions that waited on them
complete, and firmware goes on. -/
def execMemoryStepDone (s : State) : Out :=
  .next (match s.ms.mstepTo with
    | some m => applyMstepPolicy (firmwareActs ((List.finRange 96).foldl coreGoesOn (stacksRun s m)))
    | none => s)

/-! ### Time -/

/-- R424, R427, R441: the due time of a core moves back while the device is in W2 or deeper, while firmware
pauses, and while the core runs a suspect image. -/
def holdRounds (s : State) (n : DWord) : State :=
  let all := decide (2 ≤ s.pw.wstate.toNat) || s.kci.paused
  let busy := s.parts.toList.flatMap (fun q => q.cl.slots.toList.flatMap (fun x =>
    x.suspects.filterMap (fun u => if u.status = 1 then u.buddy else none)))
  if !all && busy.isEmpty then s
  else { s with serv := { s.serv with cores := Vector.ofFn (fun c =>
    let t := vget s.serv.cores c
    if all || busy.contains c.val then { t with lastRound := t.lastRound + n } else t) } }

/-- What the scheduler does of itself on a core while time passes: a second run, the rounds of a quarantined core, a round that is
due, after a pause or an abort (R422, R426, R428, R441); waits are learned (R425). -/
def serveCore (s : State) (c : Fin 96) : State :=
  let t := tcore s c
  let s := watchWait s c
  if t.loopWait then trySecond s c
  else if t.run.isSome ∨ t.capHeld then s
  else if t.isOpen then nextKernel s c
  else goOn s c

/-- With no command waiting, one 25 MHz chain count passes: 64 NCLK cycles of the timestamp (R524).
DESIGN CHOICE, log 1.  Sparing copies go on (R232), and the in-service scheduler acts. -/
def tick (s : State) : State :=
  (List.finRange 96).foldl serveCore ((List.finRange 6).foldl sparePass (holdRounds { s with ts := s.ts + 64 } 64))

end Sys2Proof.Machine
end

