-- ==== Sys2Proof/Machine/Security.lean ====
section
/-! DEFINITION.  The security block (19): measurements and keys (R547, R552 to R558), the firmware staging buffer
(R550, R572), test packs (R435 to R437), live activation (R268, R550, R551), debug unlock (R561), the last-gasp
flush (R565 to R568). -/

namespace Sys2Proof.Machine

open Sys2Proof

/-- Changes the security block. -/
def State.modSec (s : State) (f : Sec → Sec) : State := { s with sec := f s.sec }
/-- Changes the staging buffer. -/
def State.modSb (s : State) (f : Staging → Staging) : State := s.modSec (fun x => { x with sb := f x.sb })
/-- Changes the in-service test block. -/
def State.modServ (s : State) (f : Serv → Serv) : State := { s with serv := f s.serv }

/-- The bytes of a digest, most significant first. -/
def digestBytes (d : BitVec 384) : List Byte := (leBytes 48 d.toNat).reverse
/-- ASCII bytes of a text. -/
def ascii (t : String) : List Byte := t.toList.map (fun ch => BitVec.ofNat 8 ch.toNat)

/-! ### Measurements and keys -/

/-- R549: a measurement register into which one digest has been folded. -/
def fold0 (d : BitVec 384) : BitVec 384 := Config.sha384 (List.replicate 48 0 ++ digestBytes d)

/-- Digest of the active test pack. -/
def activePackDigest (s : State) : BitVec 384 :=
  match s.serv.packs.toList.find? (fun k => decide (k.state = 2)) with | some k => k.digest | none => 0

/-- Measurement `i` of the security block (R547). -/
def measure (s : State) (i : Nat) : BitVec 384 :=
  if !s.sec.selftestOk then 0
  else match i with
  | 1 => fold0 (Config.romDigest 0)
  | 2 => fold0 s.sec.running.secDigest
  | 3 => fold0 s.sec.running.ctrlDigest
  | 4 => fold0 (activePackDigest s)
  | 5 => fold0 (Config.sha384 ([if Config.isT984 then 1 else 0, 0xB0] ++ leBytes 1 s.sec.svn.toNat ++
      leBytes 12 (coreMap s.serv.softFuses)))
  | 6 => fold0 (Config.sha384 (leBytes 1 (b2n s.sec.debugUnlocked) ++ leBytes 1 (b2n s.sec.nonapproved)))
  | 7 => fold0 (Config.sha384 (leBytes 1 s.sec.bank.toNat ++ leBytes 1 (b2n s.sec.act.isSome)))
  | _ => 0

/-- R552: the AAK that the measurements give. -/
def deriveAak (s : State) : BitVec 384 :=
  Config.hmac384 Config.uds (([1, 2, 3, 5] : List Nat).flatMap (fun i => digestBytes (measure s i)))

/-- The key slots, the SRKs and the KWKs are zeroised (R558). -/
def zeroiseKeys (s : State) : State :=
  let s := s.modSec (fun x => { x with slots := Vector.replicate 32 .reset, txFrames := [], rxWins := [] })
  { s with parts := s.parts.map (fun q => { q with srk := none, srkCert := [], kwk := none }) }

/-- The whole key store apart from fused keys is zeroised (R558, R561). -/
def zeroiseStore (s : State) : State := (zeroiseKeys s).modSec (fun x => { x with dik := none, aak := none })

/-- R556, R557: an uplink of this device that is up sends its partition's frames under the slot, and its frame
counter has not run out (DEDUCED, log 36). -/
def uplinksUse (s : State) (n : Fin 32) : Bool :=
  let k := vget s.sec.slots n
  k.used && decide (k.ktype = 2) && decide (uplinkSlot s k.job = some n.val) &&
    ([6, 7] : List (Fin 8)).any (fun u => decide ((portOf s u).state = 1) &&
      decide ((aget s.sec.txFrames (u.val, n.val)).getD 0 < 2 ^ 48 - 1))

/-- R573, R556: an active plat entry names the slot, or the uplinks use it. -/
def slotInUse (s : State) (n : Fin 32) : Bool :=
  s.ms.platA.toList.any (fun e => e.valid && e.enc && decide (e.keySlot.toNat = n.val)) || uplinksUse s n

/-! ### The staging buffer (R572) -/

/-- Address of a data half. -/
def halfAddr (h : Fin 2) : Nat := 0x020000601000 + 0x20000 * h.val

/-- A write comes from the holder of FW_STAGE under its current epoch. -/
def stageEpoch (s : State) (w : Writer) (epoch : Word) : Bool :=
  let d := vget s.kci.deeds 3
  decide (d.holder = writerCode w ∧ d.epoch = epoch)

/-- The component is rejected. -/
def sbReject (s : State) (reason : Nat) : State :=
  s.modSb (fun b => { b with state := 4, reason := BitVec.ofNat 8 reason })

/-- OPEN: a component begins, unless one is being verified, activated or awaits its commit. -/
def sbOpen (s : State) (comp : BitVec 8) (slot : BitVec 2) : State :=
  if s.sec.sb.state = 2 ∨ 5 ≤ s.sec.sb.state.toNat then s
  else s.modSb (fun b => { b with
    component := comp, packSlot := slot, state := 1, reason := 0, version := 0, image := []
    len := Vector.replicate 2 0, full := Vector.replicate 2 false, verified := .none })

/-- FULL of a half: the security block consumes it, except in its error state (R562). -/
def sbFull (s : State) (h : Fin 2) (len : BitVec 18) : State :=
  let s := s.modSb (fun b => { b with len := vset b.len h len, full := vset b.full h true })
  if s.sec.sb.state ≠ 1 ∨ s.sec.error ∨ len = 0 ∨ 131072 < len.toNat then s
  else
    let bs := s.bytes (halfAddr h) len.toNat
    s.modSb (fun b => { b with image := b.image ++ bs, full := vset b.full h false })

/-- CLOSE: verification begins. -/
def sbClose (s : State) : State := if s.sec.sb.state = 1 then s.modSb (fun b => { b with state := 2 }) else s

/-- CANCEL: the component is discarded. -/
def sbCancel (s : State) : State :=
  if 5 ≤ s.sec.sb.state.toNat then s
  else s.modSb (fun b => { b with state := 0, reason := 0, image := [], verified := .none, version := 0 })

/-- SB_CTRL_OPEN (R572). -/
def execSbCtrlOpen (w : Writer) (epoch : Word) (comp : BitVec 8) (slot : BitVec 2) (s : State) : Out :=
  let s := s.modSb (fun b => { b with epoch := epoch })
  .next (if stageEpoch s w epoch then sbOpen s comp slot else sbReject s 5)
/-- SB_CTRL_CLOSE (R572). -/
def execSbCtrlClose (w : Writer) (epoch : Word) (s : State) : Out :=
  let s := s.modSb (fun b => { b with epoch := epoch })
  .next (if stageEpoch s w epoch then sbClose s else sbReject s 5)
/-- SB_CTRL_CANCEL (R572). -/
def execSbCtrlCancel (w : Writer) (epoch : Word) (s : State) : Out :=
  let s := s.modSb (fun b => { b with epoch := epoch })
  .next (if stageEpoch s w epoch then sbCancel s else sbReject s 5)
/-- SB_HALF_FULL (R572). -/
def execSbHalfFull (w : Writer) (epoch : Word) (h : Fin 2) (len : BitVec 18) (s : State) : Out :=
  let s := s.modSb (fun b => { b with epoch := epoch })
  .next (if stageEpoch s w epoch then sbFull s h len else sbReject s 5)

/-- The bytes of a chunk go into the staging buffer at an offset of its data halves; a half that is filled is
handed over, and so is the last one on CLOSE. -/
def stageChunk (s : State) (off : Nat) (bs : List Byte) (close : Bool) : State :=
  let s := s.write (0x020000601000 + off) bs false
  let stop := off + bs.length
  let h : Fin 2 := if off < 0x20000 then 0 else 1
  let s := if h = 0 ∧ 0x20000 ≤ stop then sbFull s 0 0x20000 else s
  let s := if stop = 0x40000 then sbFull s 1 0x20000 else s
  if !close then s
  else
    let s := if stop % 0x20000 = 0 then s
      else if stop < 0x20000 then sbFull s 0 (BitVec.ofNat 18 stop)
      else sbFull s 1 (BitVec.ofNat 18 (stop - 0x20000))
    sbClose s

/-! ### Test packs (R435 to R437) -/

/-- The kernel entry `i` of a pack. -/
def kernelOf (bs : List Byte) (i : Nat) : Kernel :=
  let e := bytesAt bs (128 + 64 * i) 64
  { id := BitVec.ofNat 16 (natAt e 0 2), accSave := bit (natAt e 2 1) 0, loopback := bit (natAt e 2 1) 1
    engMask := BitVec.ofNat 10 (natAt e 4 2), length := natAt e 8 4
    image := bytesAt bs (natAt e 12 4) (natAt e 16 4), resultOff := natAt e 20 4, resultLen := natAt e 24 4
    originVx := BitVec.ofNat 64 (natAt e 28 8), originEdge := BitVec.ofNat 64 (natAt e 36 8)
    digest := BitVec.ofNat 64 (natAt e 44 8) }

/-- R420, R435: one kernel entry. -/
def kernelOk (bs : List Byte) (i : Nat) : Bool :=
  let e := bytesAt bs (128 + 64 * i) 64
  let k := kernelOf bs i
  decide (natAt e 2 1 < 4) && natAt e 3 1 == 0 && decide (natAt e 4 2 < 1024) && natAt e 6 2 == 0 &&
    decide (1 ≤ k.length ∧ k.length ≤ 80000) && decide (natAt e 16 4 ≤ 32768) &&
    decide (natAt e 12 4 + natAt e 16 4 + 96 ≤ bs.length) && decide (0x3E8000 ≤ k.resultOff) &&
    decide (k.resultOff + k.resultLen ≤ 0x3FC000) && k.resultLen % 32 == 0 && allZero (bytesAt e 52 12) &&
    (!k.accSave || k.engMask == 0x3FF) && hiddenImageOk k

/-- R435: what the security block checks of a pack. -/
def packVerified (bs : List Byte) : Bool :=
  let n := bs.length
  decide (128 + 96 ≤ n) && decide (n ≤ 524288) && natAt bs 0 4 == 0x314B5043 && natAt bs 4 2 == 1 &&
    natAt bs 24 4 == n && allZero (bytesAt bs 80 48) &&
    decide (bytesAt bs 32 48 = digestBytes (Config.sha384 (bytesAt bs 128 (n - 224)))) &&
    Config.ecdsaVerify 1 (Config.sha384 (bs.take (n - 96))) (bs.drop (n - 96))

/-- R436: what firmware checks of a pack. -/
def packKernelsOk (bs : List Byte) : Bool :=
  let n := natAt bs 6 2
  let ks := (List.range n).map (kernelOf bs)
  decide (1 ≤ n ∧ n ≤ 64) && decide (128 + 64 * n + 96 ≤ bs.length) && (List.range n).all (kernelOk bs) &&
    decide (ks.map (fun k => k.id)).Nodup && natAt bs 28 4 == (ks.map (fun k => k.length)).foldl (· + ·) 0

/-- The pack of a verified component. -/
def packOfBytes (bs : List Byte) : Pack :=
  { state := 1, version := BitVec.ofNat 32 (natAt bs 8 4), minVersion := BitVec.ofNat 32 (natAt bs 12 4)
    sfuId := BitVec.ofNat 32 (natAt bs 16 4), kernels := (List.range (natAt bs 6 2)).map (kernelOf bs)
    digest := Config.sha384 bs }

/-- The kernels of the base pack (R423): first KERNEL_ID, how many, engine set, LENGTH. -/
def baseTable : List (Nat × Nat × BitVec 10 × Nat) :=
  [(0x01, 12, 0x3FF, 24000), (0x0D, 1, 0x3FF, 24000), (0x0E, 1, 0x3FF, 36000), (0x0F, 1, 0x3FF, 30000), (0x10, 3, 0x0C1, 12000),
    (0x13, 1, 0x080, 20000), (0x14, 1, 0x080, 48000), (0x15, 1, 0x3FF, 30000), (0x16, 2, 0x080, 40000), (0x18, 2, 0x181, 30000),
    (0x1A, 2, 0x200, 36000), (0x1C, 1, 0x004, 40000), (0x1D, 1, 0x003, 24000), (0x1E, 1, 0x018, 60000)]

/-- One kernel of the base pack: those that hold all ten engines save accumulators (R420); XCH_LOOP is the loopback kernel (R422).
What the manual does not list of it is a constant of the device (log 9). -/
def baseKernel (id : Nat) (mask : BitVec 10) (len : Nat) : Kernel :=
  let r := Config.baseResult id
  let at_ := r.1 % 0xA00
  { id := BitVec.ofNat 16 id, accSave := mask == 0x3FF, loopback := id == 0x1E, engMask := mask, length := len
    image := Config.baseImage id, resultOff := 0x3E8000 + 32 * at_, resultLen := 32 * (r.2 % (0xA00 - at_ + 1))
    originVx := (Config.baseOrigins id).1, originEdge := (Config.baseOrigins id).2, digest := Config.baseAnswer id }

/-- The base pack, active (R423). -/
def basePack : Pack :=
  { state := 2, version := Config.basePackVersion, minVersion := Config.basePackMin, sfuId := Config.sfuId
    kernels := baseTable.flatMap (fun x => (List.range x.2.1).map (fun i => baseKernel (x.1 + i) x.2.2.1 x.2.2.2))
    digest := Config.basePackDigest }

/-- R437: a held pack becomes active; false where it is refused. -/
def activatePack (s : State) (i : Fin 4) : State × Bool :=
  let k := vget s.serv.packs i
  let low : Bool := match s.serv.packs.toList.find? (fun x => decide (x.state = 2)) with
    | some x => decide (k.version.toNat < x.minVersion.toNat)
    | none => false
  if decide (k.state = 0) || decide (k.sfuId ≠ Config.sfuId) || low then (s, false)
  else (s.modServ (fun v => { v with
    activeSlot := BitVec.ofNat 2 i.val
    packs := Vector.ofFn (fun j =>
      let x := vget v.packs j
      if j = i then { x with state := 2 } else if x.state = 2 then { x with state := 1 } else x) }), true)

/-! ### Verification (R433, R436, R549, R550) -/

/-- R549: reason for which an image is refused. -/
def imageFault (s : State) (bs : List Byte) : Option Nat :=
  if !Config.imageSigned bs then some 1
  else if Config.imageField bs 0 ≠ 0xB0 then some 3
  else if Config.imageField bs 1 < s.sec.svn.toNat then some 2 else none

/-- The image that a component's bytes spell. -/
def imageOfBytes (bs : List Byte) : FwImage :=
  ⟨true, BitVec.ofNat 32 (Config.imageField bs 2), BitVec.ofNat 8 (Config.imageField bs 1),
    BitVec.ofNat 384 (Config.imageField bs 3), BitVec.ofNat 384 (Config.imageField bs 4)⟩

/-- R433: a soft fuse is cleared; the core returns at Quarantine. -/
def clearFuse (s : State) (c : Fin 96) : State :=
  let s := s.modServ (fun v => { v with softFuses := v.softFuses.filter (· ≠ c.val) })
  let s := s.modCore c (fun k => { k with retired := false })
  goOn (returnEngines (setLevel s c 2 0) c) c

/-- R436: a pack that verifies has a slot for its target that has meanwhile become the active one. -/
def packTaken (s : State) : Bool :=
  let b := s.sec.sb
  decide (b.component = 2) && packVerified b.image && natAt b.image 20 4 == 0xB0 && packKernelsOk b.image &&
    s.serv.packs.toList.zipIdx.any (fun x => x.2 == b.packSlot.toNat && x.1.state == 2)

/-- R550: the outcome of the verification of the staging buffer; `flash` tells whether flash was written. -/
def verifyStage (s : State) (flash : Bool) : State :=
  let b := s.sec.sb
  let bad := fun (r : Nat) => sbReject s r
  let good := fun (s : State) (v : Word) => s.modSb (fun b => { b with state := 3, version := v })
  if s.sec.error then bad 1
  else if b.component = 1 then
    match imageFault s b.image with
    | some r => bad r
    | none =>
      if !flash then bad 4
      else
        let im := imageOfBytes b.image
        let other : Fin 2 := if s.sec.bank = 0 then 1 else 0
        good (s.modSec (fun x => { x with
          banks := vset x.banks other im, sb := { x.sb with verified := im } })) im.version
  else if b.component = 2 then
    let i : Fin 4 := ⟨b.packSlot.toNat, by have := b.packSlot.isLt; omega⟩
    if !packVerified b.image then bad 1
    else if natAt b.image 20 4 ≠ 0xB0 then bad 3
    else if !packKernelsOk b.image ∨ (vget s.serv.packs i).state = 2 then bad 1
    else if !flash then bad 4
    else good (s.modServ (fun v => { v with packs := vset v.packs i (packOfBytes b.image) })) (BitVec.ofNat 32 (natAt b.image 8 4))
  else if b.component = 3 then
    match Config.clearRequest b.image with
    | some c =>
      if 2 ≤ holderOf s 3 ∧ holderOf s 3 = holderOf s 4 then good (if (s.core c).retired then clearFuse s c else s) 0
      else bad 1
    | none => bad 1
  else bad 1

/-- STAGE_VERIFY_COMPLETE (R550): the FW_STAGE or TESTPACK_LOAD command that closed the buffer completes. -/
def execStageVerifyComplete (flash : Bool) (s : State) : Out :=
  .next (if s.sec.sb.state ≠ 2 ∨ s.rst.stage = 3 then s
    else
      let taken := packTaken s
      let s := verifyStage s flash
      let ok := decide (s.sec.sb.state = 3)
      let v := s.sec.sb.version
      (s.kci.live.filter (fun c => c.opcode == 0x70 || c.opcode == 0x50)).foldl (fun s c =>
        if ok then finish s c kOK 0 (leBytes 4 v.toNat)
        else finish s c (if s.sec.error then kFAULT else if taken then kDENIED else kBADARG) 0 []) s)

/-! ### Live activation (R268, R550, R551) -/

/-- An activation may begin. -/
def mayActivate (s : State) : Bool :=
  s.sec.act.isNone && decide (s.sec.sb.state = 3) && decide (s.sec.sb.component = 1)

/-- The control plane stops fetching; the security block restarts on the new code. -/
def beginActivation (s : State) : State :=
  let s := s.modSec (fun x => { x with
    act := some ⟨s.ts, none, x.running⟩, bootPending := true, bootSeq := x.bootSeq + 1
    sb := { x.sb with state := 5 } })
  s.modKci (fun k => { k with paused := true })

/-- SB_CTRL_ACTIVATE (R572). -/
def execSbCtrlActivate (w : Writer) (epoch : Word) (s : State) : Out :=
  let s := s.modSb (fun b => { b with epoch := epoch })
  .next (if !stageEpoch s w epoch then sbReject s 5 else if mayActivate s then beginActivation s else s)

/-- R268, R409: the pause that began at `t` is over: rings are read and their heads examined, fingerprint rounds begin again, and
closure goes on. -/
def resumeKci (t : DWord) (s : State) : State :=
  let s := (List.finRange 13).foldl (fun s f => drainHeld s f) (s.modKci (fun k => { k with paused := false }))
  (List.finRange 12).foldl (fun s p => resumeClosure t (fpAgain s p) p) s

/-- R541: the update of a session is over; FW_STAGE goes back to NONE. -/
def updateOver (s : State) (k : Fin 2) (failed : Bool) : State :=
  let s := s.modMg (fun m => { m with p5 := vset m.p5 k { Pldm5.reset with failed := failed } })
  if k.val = 1 then
    if holderOf s 3 = 1 then (deedRelease s .control 3 (vget s.kci.deeds 3).epoch).1 else s
  else match primary? s with
    | some i => if (vget s.kci.deeds 3).holder = agentCode i then agentDrops s i 3 else s
    | none => s

/-- Sessions that wait for an activation end. -/
def activationOver (s : State) (failed : Bool) : State :=
  ([0, 1] : List (Fin 2)).foldl (fun s k => if (vget s.mg.p5 k).state = 6 then updateOver s k failed else s) s

/-- NEW_CODE_ACCEPT (R550): within 45 ms of the pause. -/
def execNewCodeAccept (s : State) : Out :=
  .next (match s.sec.act with
    | some a =>
      if a.accepted.isSome ∨ 45 * msTicks < s.since a.began then s
      else
        let im := s.sec.sb.verified
        let s := s.modSec (fun x => { x with
          running := im, bank := x.bank ^^^ 1, act := some { a with accepted := some s.ts }
          sb := { x.sb with state := 6 } })
        let s := s.modSec (fun x => { x with aak := some (deriveAak s) })
        let s := controlRecord s (some 2)
        let s := (s.kci.live.filter (fun c => c.opcode == 0x71)).foldl (fun s c =>
          finish s c kOK 0 (leBytes 4 im.version.toNat)) s
        resumeKci a.began (activationOver s false)
    | none => s)

/-- ACTIVATION_FALLBACK (R551). -/
def execActivationFallback (s : State) : Out :=
  .next (match s.sec.act with
    | some a =>
      if a.accepted.isSome then s
      else
        let s := s.modSec (fun x => { x with act := none, bootPending := false, sb := { x.sb with state := 3 } })
        let s := controlRecord s (some 3)
        let s := (s.kci.live.filter (fun c => c.opcode == 0x71)).foldl (fun s c => finish s c kFAULT 0 []) s
        resumeKci a.began (activationOver s true)
    | none => s)

/-- ACTIVATION_COMMIT (R549 to R551). -/
def execActivationCommit (s : State) : Out :=
  .next (match s.sec.act with
    | some a => match a.accepted with
      | some t =>
        if s.since t < 10 * secTicks then s
        else s.modSec (fun x => { x with
          act := none, bootActive := x.bank, bootPending := false, bootSeq := x.bootSeq + 1
          svn := if x.svn.toNat < x.running.svn.toNat then x.running.svn else x.svn
          sb := { x.sb with state := 0 } })
      | none => s
    | none => s)

/-- DEBUG_UNLOCK (R561): a token through the debug port: its bytes, the last 96 of them the signature. -/
def execDebugUnlock (token : List Byte) (s : State) : Out :=
  let n := token.length
  .next (if s.rst.tapReset ∨ bit s.rst.straps.toNat 4 ∨ n < 96 ∨
        !Config.ecdsaVerify 2 (Config.sha384 (token.take (n - 96))) (token.drop (n - 96)) then s
    else (zeroiseStore s).modSec (fun x => { x with debugUnlocked := true, nonapproved := true }))

/-! ### Loss of power (R565 to R568) -/

/-- HOLDUP_SENSE in mV times HU_RATIO, in volts (R567). -/
def holdupV (s : State) (mv : Nat) : Rat := (mv : Rat) / 1000 * ((s.mg.huRatio.toNat : Rat) / 256)

/-- E_meas in mJ (R567). -/
def eMeasOf (s : State) (v : Rat) : Rat :=
  let vmin : Rat := (s.mg.huVmin.toNat : Rat) / 10
  max 0 ((s.mg.huCap.toNat : Rat) / 10 * (v * v - vmin * vmin) / 2)

/-- PWR_LOSS_N_ASSERT (R565 to R567): loads are shed and the flush begins; `mv` is HOLDUP_SENSE. -/
def execPwrLossNAssert (mv : Nat) (s : State) : Out :=
  .next (if s.rst.pwrLoss then s
    else
      let s := { s with rst := { s.rst with pwrLoss := true, pwrClear := none } }
      if s.rst.por then s
      else
        let e := eMeasOf s (holdupV s mv)
        let s := s.modMg (fun m => { m with
          shed := true, eMeas := e, eInt := e, eStart := e, senseOor := false, disagree := false })
        let s := writeVlog (s.modClk (fun c => { c with gated := true })) 500
        let s := (List.finRange 8).foldl (fun s n => if (portOf s n).state = 1 then linkDown s n else s) s
        s.modSec (fun x => { x with
          flush := some 0, gaspArea := 1 - x.gaspArea, gasp := x.gasp.filter (fun g => decide (g.area = x.gaspArea)) }))

/-- The bytes of slot `n` of the telemetry ring, by sequence number (R585). -/
def ringSlot (s : State) (n : Nat) : List Byte := s.mem.readN (0x020000700000 + 64 * (1 + n % 16383)) 64

/-- FLUSH_PAGE (R566): one page of 64 records, newest pages first. -/
def execFlushPage (s : State) : Out :=
  .next (match s.sec.flush with
    | none => s
    | some n =>
      if 16 ≤ n ∨ s.pw.flushStop then s
      else
        let top := s.tel.nextSeq.toNat
        let lo := top - min top (64 * (n + 1))
        let hi := top - min top (64 * n)
        let bs := (upFrom lo (hi - lo)).flatMap (ringSlot s)
        let page : GaspPage := ⟨s.sec.gaspArea, s.sec.gaspSeq, n, BitVec.ofNat 64 (natAt bs 0 8), padTo bs 4096⟩
        let s := s.modSec (fun x => { x with gasp := x.gasp ++ [page], gaspSeq := x.gaspSeq + 1, flush := some (n + 1) })
        if n = 15 ∧ !s.rst.pwrLoss then s.modSec (fun x => { x with flush := none }) else s)

/-- HOLDUP_TICK (R567): 100 µs of the flush; `mv` is HOLDUP_SENSE. -/
def execHoldupTick (mv : Nat) (s : State) : Out :=
  .next (match primary? s with
    | none => s
    | some i =>
      if !s.mg.shed ∨ s.sec.flush.isNone then s
      else
        let v := holdupV s mv
        let e := eMeasOf s v
        let eff : Rat := (s.mg.huEff.toNat : Rat) / 100
        let eInt := s.mg.eInt - s.pw.est / 10 / eff
        let diff := if eInt < e then e - eInt else eInt - e
        let oor := decide (v < (s.mg.huVmin.toNat : Rat) / 20) || decide (5 / 4 * ((s.mg.huVnom.toNat : Rat) / 10) < v)
        let dis := !oor && decide (max (s.mg.eStart / 10) 50 < diff)
        let avail := if oor then eInt else e
        let stop := decide (avail < 6 / 5 * (s.pw.est / eff))
        let s := s.modMg (fun m => { m with
          eMeas := e, eInt := if dis then e else eInt, senseOor := m.senseOor || oor, disagree := m.disagree || dis
          holdup := m.holdup || oor || dis })
        let s := if dis then controlRecord s (some 4) else s
        if (vget s.kci.deeds 4).holder = agentCode i then s.modPw (fun x => { x with flushStop := stop }) else s)

/-- PWR_LOSS_N_DEASSERT (R571, R568). -/
def execPwrLossNDeassert (s : State) : Out :=
  .next (if !s.rst.pwrLoss then s
    else ({ s with rst := { s.rst with pwrLoss := false, pwrClear := some s.ts } }).modPw (fun x => { x with
      flushStop := false }))

end Sys2Proof.Machine
end

