-- ==== Sys2Proof/Machine/Mgmt.lean ====
section
/-! DEFINITION.  The management plane (19): agents and deeds (R537 to R541), MCTP and PLDM endpoints (R542 to
R546), SPDM responders (R547), alerts (R569). -/

namespace Sys2Proof.Machine

open Sys2Proof

/-! ### Alerts (R569) -/

/-- The cause bits of MA_ALERT (R569, R570). -/
def alertBits (s : State) : Nat :=
  b2n s.th.warn + 2 * b2n s.clk.failed + 4 * b2n (s.ms.stk.toList.any (fun k => k.critical)) +
    8 * b2n s.pw.fallback + 16 * b2n (s.th.sens.toList.any (fun x => x.failed)) + 32 * b2n s.mg.failover +
    64 * b2n s.mg.holdup + 128 * b2n s.mg.boardDesc

/-- A message that an endpoint sends (log 12). -/
def say (s : State) (ep : Fin 3) (bs : List Byte) : State := s.modMg (fun m => { m with sent := m.sent ++ [(ep.val, bs)] })

/-- The endpoint of an agent. -/
def agentEp (i : Fin 2) : Fin 3 := ⟨i.val, by omega⟩

/-- R544: the primary tells the event receiver of each cause of ALERT_N that is newly set. -/
def tellAlerts (s : State) (i : Fin 2) : State :=
  let now := alertBits s &&& (0xFF ^^^ s.mg.mask.toNat)
  let new := now &&& (0xFF ^^^ s.mg.notified.toNat)
  match (vget s.mg.ends (agentEp i)).receiver with
  | none => s
  | some _ =>
    let s := (List.range 8).foldl (fun s n => if bit new n then say s (agentEp i) (leBytes 1 n) else s) s
    s.modMg (fun m => { m with notified := BitVec.ofNat 8 now })

/-! ### Agents and deeds (R472, R537 to R541) -/

/-- R574: a new primary that finds FW_STAGE with a silent agent takes it; the buffer is cancelled. -/
def inheritStage (s : State) (i : Fin 2) : State :=
  let h := (vget s.kci.deeds 3).holder
  if 2 ≤ h.toNat ∧ h ≠ agentCode i ∧ holderLate s h then
    let s := (deedClaim s (agentWriter i) 3).1
    (sbCancel s).modMg (fun m => { m with p5 := vset m.p5 0 .reset })
  else s

/-- An agent claims MGMT_PRIMARY (R538). -/
def claimPrimary (s : State) (i : Fin 2) : State :=
  let (s, ok) := deedClaim s (agentWriter i) 4
  if ok then thermalWatch (inheritStage s i) else s

/-- AGENT_HEARTBEAT (R537, R538, R540): the first one after a reset ends the agent's start-up, when MA_E claims
MGMT_PRIMARY. -/
def execAgentHeartbeat (i : Fin 2) (s : State) : Out :=
  let a := s.agent i
  .next (if a.role = 3 ∨ s.rst.por then s
    else
      let s := s.modAgent i (fun a => { a with lastHb := some s.ts })
      if !a.started then
        let s := s.modAgent i (fun a => { a with started := true, startAt := s.ts, role := 1 })
        if i.val = 0 then claimPrimary s i else s
      else if isPrimary s i then tellAlerts s i else standDown s i)

/-- AGENT_CLAIM_TIMER (R538): NONE holds the deed, for MA_W 50 ms after its start-up, or the holder is late. -/
def execAgentClaimTimer (i : Fin 2) (s : State) : Out :=
  let a := s.agent i
  let h := (vget s.kci.deeds 4).holder
  .next (if !a.started ∨ a.role = 3 ∨ isPrimary s i then s
    else if (h = 0 ∧ (i.val = 0 ∨ 50 * msTicks ≤ s.since a.startAt)) ∨ holderLate s h then claimPrimary s i else s)

/-- The outcome of a request at a plane's port. -/
def portOutcome (s : State) (w : Writer) (o : Nat) : State :=
  s.modKci (fun k => { k with deedPorts := vmod k.deedPorts (writerPort w) (fun p => { p with
    outcome := BitVec.ofNat 2 o, pending := false }) })

/-- DEED_REQ_CLAIM (R472, R538). -/
def execDeedReqClaim (w : Writer) (r : Fin 5) (s : State) : Out :=
  let (s, ok) := deedClaim s w r
  .next (portOutcome s w (if ok then 1 else 2))

/-- DEED_REQ_RELEASE (R472): under the epoch just written to DEED_REQ_EPOCH. -/
def execDeedReqRelease (w : Writer) (r : Fin 5) (epoch : Word) (s : State) : Out :=
  let s := s.modKci (fun k => { k with deedPorts := vmod k.deedPorts (writerPort w) (fun p => { p with epoch := epoch }) })
  let (s, o) := deedRelease s w r epoch
  .next (portOutcome s w o)

/-- THERMAL_RELEASE_TIMER (R541). -/
def execThermalReleaseTimer (s : State) : Out :=
  .next (match primary? s, s.mg.clearSince with
    | some i, some t =>
      if s.mg.thermalClaim ∧ !thermalStake s ∧ s.mg.eff101 = none ∧ 60 * secTicks ≤ s.since t then dropLimits s i else s
    | _, _ => s)

/-- FW_STAGE_IDLE_TIMEOUT (R541): the session without a transfer ends, and the component is discarded. -/
def execFwStageIdleTimeout (s : State) : Out :=
  .next (match primary? s with
    | some i =>
      let p := vget s.mg.p5 0
      if (vget s.kci.deeds 3).holder = agentCode i ∧ p.state ≠ 6 ∧ 600 * secTicks ≤ s.since p.lastXfer then
        updateOver (sbCancel s) 0 false
      else s
    | none => s)

/-! ### MCTP (R542, R543) -/

/-- The endpoint answers: an agent from the end of its start-up, the control plane while its firmware runs. -/
def epUp (s : State) (ep : Fin 3) : Bool :=
  if h : ep.val < 2 then (s.agent ⟨ep.val, h⟩).started && decide ((s.agent ⟨ep.val, h⟩).role ≠ 3)
  else s.rst.ctlUp && decide (4 ≤ s.rst.stage.toNat) && !s.kci.cpFault

/-- A request to an endpoint that answers. -/
def atEp (s : State) (ep : Fin 3) (f : State → State) : Out := .next (if epUp s ep then f s else s)

/-- A response: completion code and data (log 34). -/
def respond (s : State) (ep : Fin 3) (code : Nat) (bs : List Byte) : State := say s ep (leBytes 1 code ++ bs)

/-- SETDASA (R542): static address 0x4C (MA_E) or 0x4D (MA_W). -/
def execSetdasa (stat dyn : BitVec 7) (s : State) : Out :=
  .next (if stat = 0x4C then s.modAgent 0 (fun a => { a with i3c := some dyn })
    else if stat = 0x4D then s.modAgent 1 (fun a => { a with i3c := some dyn }) else s)

/-- SET_ENDPOINT_ID (R543). -/
def execSetEndpointId (ep : Fin 3) (eid : BitVec 8) (s : State) : Out :=
  atEp s ep (fun s => respond (s.modMg (fun m => { m with ends := vmod m.ends ep (fun x => { x with eid := eid }) })) ep 0
    (leBytes 1 eid.toNat))
/-- GET_ENDPOINT_ID (R543). -/
def execGetEndpointId (ep : Fin 3) (s : State) : Out :=
  atEp s ep (fun s => respond s ep 0 (leBytes 1 (vget s.mg.ends ep).eid.toNat))
/-- GET_ENDPOINT_UUID (R543). -/
def execGetEndpointUuid (ep : Fin 3) (s : State) : Out :=
  atEp s ep (fun s => respond s ep 0 (leBytes 16 (Config.endpointUuid ep.val).toNat))
/-- GET_MCTP_VERSION_SUPPORT (R543): of a message type that the endpoint carries. -/
def execGetMctpVersionSupport (ep : Fin 3) (type : BitVec 8) (s : State) : Out :=
  atEp s ep (fun s => if type = 0 ∨ type = 1 ∨ type = 5 ∨ type = 0xFF then respond s ep 0 (leBytes 1 type.toNat)
    else respond s ep 0x80 [])
/-- GET_MESSAGE_TYPE_SUPPORT (R543): control, PLDM, SPDM. -/
def execGetMessageTypeSupport (ep : Fin 3) (s : State) : Out := atEp s ep (fun s => respond s ep 0 [3, 0, 1, 5])

/-! ### PLDM Types 0 and 2 (R544) -/

/-- PLDM types of an endpoint: 0, 2, and 5 where it is served. -/
def pldmTypes : List Nat := [0, 2, 5]

/-- GET_TID (R544): the terminus ID is the endpoint ID (DESIGN CHOICE, log 34). -/
def execGetTid (ep : Fin 3) (s : State) : Out :=
  atEp s ep (fun s => respond s ep 0 (leBytes 1 (vget s.mg.ends ep).eid.toNat))
/-- GET_PLDM_VERSION (R544). -/
def execGetPldmVersion (ep : Fin 3) (type : BitVec 8) (s : State) : Out :=
  atEp s ep (fun s => if pldmTypes.contains type.toNat then respond s ep 0 (leBytes 1 type.toNat) else respond s ep 0x83 [])
/-- GET_PLDM_TYPES (R544): a bit for each type. -/
def execGetPldmTypes (ep : Fin 3) (s : State) : Out :=
  atEp s ep (fun s => respond s ep 0 (leBytes 8 (pldmTypes.foldl (fun n t => n ||| 2 ^ t) 0)))
/-- GET_PLDM_COMMANDS (R544). -/
def execGetPldmCommands (ep : Fin 3) (type : BitVec 8) (s : State) : Out :=
  atEp s ep (fun s => if pldmTypes.contains type.toNat then respond s ep 0 (leBytes 1 type.toNat) else respond s ep 0x83 [])
/-- GET_PDR (R544; log 14). -/
def execGetPdr (ep : Fin 3) (handle : Nat) (s : State) : Out :=
  atEp s ep (fun s => respond s ep 0 (Config.pdrBytes handle))

/-- A numeric sensor's quantity, rounded down to its unit (R544). -/
def sensorReading (s : State) (id : Nat) : Option Int :=
  if id = 1 then some (tjMax s).floor
  else if id = 2 then some (tjMean s).floor
  else if h : 3 ≤ id ∧ id ≤ 8 then some (s.stk ⟨id - 3, by omega⟩).temp.toNat
  else if id = 9 then some s.pw.est.floor
  else if id = 10 then some s.pw.vlogI.floor
  else if id = 11 then some s.pw.pstep.toNat
  else if id = 12 then some (field (tsSummary s) 24 7) else none

/-- GET_SENSOR_READING (R544). -/
def execGetSensorReading (ep : Fin 3) (id : BitVec 16) (s : State) : Out :=
  atEp s ep (fun s => match sensorReading s id.toNat with
    | some v => respond s ep 0 (leBytes 4 (tc 32 v))
    | none => respond s ep 0x80 [])

/-- A state sensor's state (R544). -/
def stateReading (s : State) (id : Nat) : Option Nat :=
  if id = 0x10 then some (if s.th.tripped then 2 else b2n s.th.warn)
  else if id = 0x11 then some (if s.pw.fallback then 2 else if s.pw.limiter ≠ 0 then 1 else 0)
  else if id = 0x12 then some (match primary? s with | some i => i.val | none => 2) else none

/-- GET_STATE_SENSOR_READINGS (R544). -/
def execGetStateSensorReadings (ep : Fin 3) (id : BitVec 16) (s : State) : Out :=
  atEp s ep (fun s => match stateReading s id.toNat with
    | some v => respond s ep 0 (leBytes 1 v)
    | none => respond s ep 0x80 [])

/-- The agent behind an endpoint that is the primary (R539). -/
def primaryEp (s : State) (ep : Fin 3) : Option (Fin 2) :=
  if h : ep.val < 2 then (if isPrimary s ⟨ep.val, h⟩ then some ⟨ep.val, h⟩ else none) else none

/-- The primary changes the limits block and commits it under its epoch (R509). -/
def commitLimits (s : State) (i : Fin 2) (f : Limits → Limits) : State :=
  let s := s.modPw (fun x => { x with limS := f x.limS, limEpoch := (s.agent i).epoch })
  if s.pw.limS.inRange then s.modPw (fun x => { x with limDue := some (x.limS, s.chain + 64), limOutcome := 0 })
  else s.modPw (fun x => { x with limOutcome := 2 })

/-- SET_NUMERIC_EFFECTER_VALUE at the primary: whether it took. -/
def setEffecter (s : State) (i : Fin 2) (id v : Nat) : State × Bool :=
  let w := agentWriter i
  if id = 0x100 then
    if 150 ≤ v ∧ v ≤ 350 then (commitLimits s i (fun l => { l with plSust := BitVec.ofNat 9 v }), true) else (s, false)
  else if id = 0x101 then
    if v = 0 then
      let s := s.modMg (fun m => { m with eff101 := none })
      (if thermalStake s then s else dropLimits s i, true)
    else if 150 ≤ v ∧ v ≤ 350 then
      let (s, ok) := deedClaim s w 0
      if ok then
        (commitLimits (s.modMg (fun m => { m with eff101 := some v })) i (fun l => { l with plSust := BitVec.ofNat 9 v }), true)
      else (s, false)
    else (s, false)
  else if id = 0x102 then
    if 70 ≤ v ∧ v ≤ 95 then (commitLimits s i (fun l => { l with th1 := BitVec.ofNat 7 v }), true) else (s, false)
  else if id = 0x103 then
    if v = 15 then
      let s := s.modMg (fun m => { m with eff103 := none })
      (if (vget s.kci.deeds 1).holder = agentCode i then agentDrops s i 1 else s, true)
    else if v ≤ 8 ∧ (holderOf s 1 = 0 ∨ (vget s.kci.deeds 1).holder = agentCode i) then
      let s := (deedClaim (s.modMg (fun m => { m with eff103 := some v })) w 1).1
      (takeSteps s v, true)
    else (s, false)
  else (s, false)

/-- SET_NUMERIC_EFFECTER_VALUE (R539, R544). -/
def execSetNumericEffecterValue (ep : Fin 3) (id : BitVec 16) (v : Nat) (s : State) : Out :=
  atEp s ep (fun s => match primaryEp s ep with
    | none => respond s ep 4 []
    | some i =>
      let (s, ok) := setEffecter s i id.toNat v
      respond s ep (if ok then 0 else 1) [])

/-- An effecter's value (R544). -/
def effecterValue (s : State) (id : Nat) : Option Nat :=
  if id = 0x100 then some s.pw.limA.plSust.toNat
  else if id = 0x101 then some (s.mg.eff101.getD 0)
  else if id = 0x102 then some s.pw.limA.th1.toNat
  else if id = 0x103 then some (s.mg.eff103.getD 15) else none

/-- GET_NUMERIC_EFFECTER_VALUE (R544). -/
def execGetNumericEffecterValue (ep : Fin 3) (id : BitVec 16) (s : State) : Out :=
  atEp s ep (fun s => match primaryEp s ep with
    | none => respond s ep 4 []
    | some _ => match effecterValue s id.toNat with
      | some v => respond s ep 0 (leBytes 4 v)
      | none => respond s ep 0x80 [])

/-- SET_EVENT_RECEIVER (R544). -/
def execSetEventReceiver (ep : Fin 3) (eid : BitVec 8) (s : State) : Out :=
  atEp s ep (fun s => respond (s.modMg (fun m => { m with
    ends := vmod m.ends ep (fun x => { x with receiver := some eid }) })) ep 0 [])

/-- PLATFORM_EVENT_ACK (R569): cause `n` has been acknowledged. -/
def execPlatformEventAck (n : Fin 8) (s : State) : Out :=
  .next (if (primary? s).isNone ∨ !bit s.mg.notified.toNat n.val then s
    else s.modMg (fun m => { m with
      failover := m.failover && decide (n.val ≠ 5), holdup := m.holdup && decide (n.val ≠ 6)
      boardDesc := m.boardDesc && decide (n.val ≠ 7)
      notified := if 5 ≤ n.val then m.notified &&& ~~~ (BitVec.ofNat 8 (2 ^ n.val)) else m.notified }))

/-! ### PLDM Type 5 (R545) -/

/-- Session of an endpoint: 0 the agents', 1 the control plane's. -/
def sessionOf (ep : Fin 3) : Fin 2 := if ep.val = 2 then 1 else 0

/-- Changes the session of an endpoint. -/
def modP5 (s : State) (ep : Fin 3) (f : Pldm5 → Pldm5) : State :=
  s.modMg (fun m => { m with p5 := vmod m.p5 (sessionOf ep) f })

/-- The endpoint serves Type 5 (R539): the standby answers ERROR_NOT_READY.  In the boot ROM only the primary
does (R600). -/
def atP5 (s : State) (ep : Fin 3) (f : State → State) : Out :=
  atEp s ep (fun s => if ep.val < 2 ∧ (primaryEp s ep).isNone then respond s ep 4 [] else f s)

/-- A Type 5 command in one of the states that allow it. -/
def inState (s : State) (ep : Fin 3) (states : List Nat) (f : State → State) : Out :=
  atP5 s ep (fun s => if states.contains (vget s.mg.p5 (sessionOf ep)).state then f s else respond s ep 0x84 [])

/-- The plane under which an endpoint holds FW_STAGE. -/
def epWriter (ep : Fin 3) : Writer := if ep.val = 0 then .agentE else if ep.val = 1 then .agentW else .control

/-- QUERY_DEVICE_IDENTIFIERS (R545): the serial number. -/
def execQueryDeviceIdentifiers (ep : Fin 3) (s : State) : Out :=
  atP5 s ep (fun s => respond s ep 0 (leBytes 8 Config.serial.toNat))
/-- GET_FIRMWARE_PARAMETERS (R545): component identifiers with the versions in service. -/
def execGetFirmwareParameters (ep : Fin 3) (s : State) : Out :=
  atP5 s ep (fun s => respond s ep 0 (leBytes 4 s.sec.running.version.toNat ++
    leBytes 4 (match s.serv.packs.toList.find? (fun k => decide (k.state = 2)) with
      | some k => k.version.toNat
      | none => 0) ++ leBytes 1 s.mg.descVersion.toNat))

/-- REQUEST_UPDATE (R541, R545). -/
def execRequestUpdate (ep : Fin 3) (s : State) : Out :=
  inState s ep [0] (fun s =>
    let (s, ok) := deedClaim s (epWriter ep) 3
    if ok then respond (modP5 s ep (fun _ => { Pldm5.reset with state := 1, lastXfer := s.ts })) ep 0 []
    else respond s ep 1 [])
/-- PASS_COMPONENT_TABLE (R545). -/
def execPassComponentTable (ep : Fin 3) (s : State) : Out :=
  inState s ep [1] (fun s => respond (modP5 s ep (fun p => { p with state := 2 })) ep 0 [])

/-- A slot for a pack that PLDM brings: the first empty one, else the first that is not active (log 35). -/
def packSlotFor (s : State) : BitVec 2 :=
  match (List.finRange 4).find? (fun i => decide ((vget s.serv.packs i).state = 0)) with
  | some i => BitVec.ofNat 2 i.val
  | none => match (List.finRange 4).find? (fun i => decide ((vget s.serv.packs i).state = 1)) with
    | some i => BitVec.ofNat 2 i.val
    | none => 0

/-- UPDATE_COMPONENT (R545): the transfer of one component begins. -/
def execUpdateComponent (ep : Fin 3) (id : BitVec 16) (size : Nat) (s : State) : Out :=
  inState s ep [2] (fun s =>
    if id.toNat < 1 ∨ 4 < id.toNat ∨ (ep.val = 2 ∧ 3 ≤ id.toNat) then respond s ep 1 []
    else
      let s := if id.toNat ≤ 3 then sbOpen s (BitVec.ofNat 8 id.toNat) (packSlotFor s) else s
      respond (modP5 s ep (fun p => { p with
        state := 3, component := id.toNat, size := size, offset := 0, desc := [], lastXfer := s.ts })) ep 0 [])

/-- REQUEST_FIRMWARE_DATA (R545): the data that the request has fetched, at most 1,024 bytes. -/
def execRequestFirmwareData (ep : Fin 3) (data : List Byte) (s : State) : Out :=
  inState s ep [3] (fun s =>
    let p := vget s.mg.p5 (sessionOf ep)
    let bs := data.take (min 1024 (p.size - p.offset))
    let s := if p.component = 4 then modP5 s ep (fun p => { p with desc := p.desc ++ bs })
      else stageChunk s (p.offset % 0x40000) bs false
    modP5 s ep (fun p => { p with offset := p.offset + bs.length, lastXfer := s.ts }))

/-- TRANSFER_COMPLETE (R545). -/
def execTransferComplete (ep : Fin 3) (s : State) : Out :=
  inState s ep [3] (fun s =>
    let p := vget s.mg.p5 (sessionOf ep)
    let s := if p.component = 4 then s else stageChunk s (p.offset % 0x40000) [] true
    respond (modP5 s ep (fun p => { p with state := 4 })) ep 0 [])

/-- VERIFY_COMPLETE (R545): the security block's verdict, or the agent's on the CRC of a board description. -/
def execVerifyComplete (ep : Fin 3) (s : State) : Out :=
  inState s ep [4] (fun s =>
    let p := vget s.mg.p5 (sessionOf ep)
    if p.component ≠ 4 ∧ s.sec.sb.state = 2 then respond s ep 4 []
    else
      let ok := if p.component = 4 then (Config.boardParse p.desc).isSome else decide (s.sec.sb.state = 3)
      respond (modP5 s ep (fun p => { p with state := if ok then 5 else 2 })) ep (if ok then 0 else 1) [])

/-- APPLY_COMPLETE (R545): the agent writes the EEPROM and takes the description; the other components are in
place since their verification. -/
def execApplyComplete (ep : Fin 3) (s : State) : Out :=
  inState s ep [5] (fun s =>
    let p := vget s.mg.p5 (sessionOf ep)
    let s := if p.component = 4 then readBoard (s.modMg (fun m => { m with eeprom := p.desc })) else s
    respond (modP5 s ep (fun p => { p with state := 2 })) ep 0 [])

/-- ACTIVATE_FIRMWARE (R437, R545, R550): the verified firmware, or the held pack in the named slot. -/
def execActivateFirmware (ep : Fin 3) (pack : Option (Fin 4)) (s : State) : Out :=
  inState s ep [2] (fun s => match pack with
    | some i =>
      let (s, ok) := activatePack s i
      let s := if ok then updateOver s (sessionOf ep) false else s
      respond s ep (if ok then 0 else 1) []
    | none =>
      if s.sec.sb.component = 1 then
        if mayActivate s then respond (modP5 (beginActivation s) ep (fun p => { p with state := 6 })) ep 0 []
        else respond s ep 1 []
      else respond (updateOver s (sessionOf ep) false) ep 0 [])

/-- GET_STATUS (R545, R551): state of the update and whether the last activation failed. -/
def execGetStatus (ep : Fin 3) (s : State) : Out :=
  atP5 s ep (fun s =>
    let p := vget s.mg.p5 (sessionOf ep)
    respond s ep 0 (leBytes 1 p.state ++ leBytes 1 (b2n p.failed)))

/-- CANCEL_UPDATE (R541, R545). -/
def execCancelUpdate (ep : Fin 3) (s : State) : Out :=
  inState s ep [1, 2, 3, 4, 5] (fun s => respond (updateOver (sbCancel s) (sessionOf ep) false) ep 0 [])

/-! ### SPDM (R547, R562) -/

/-- Signing key of a responder (R547). -/
def spdmKey (s : State) (ep : Fin 3) : Option (BitVec 384) :=
  if ep.val < 2 then some (Config.agentKey ep.val) else s.sec.aak

/-- A request to a responder: in its error state the module answers with an error, and so does a responder
that is asked out of order. -/
def atSpdm (s : State) (ep : Fin 3) (least : Nat) (f : State → State) : Out :=
  atEp s ep (fun s => if (ep.val = 2 ∧ s.sec.error) ∨ (vget s.mg.ends ep).spdm < least then respond s ep 0x7F [] else f s)

/-- The responder's progress. -/
def spdmStep (s : State) (ep : Fin 3) (n : Nat) : State :=
  s.modMg (fun m => { m with ends := vmod m.ends ep (fun x => { x with spdm := n }) })

/-- GET_VERSION (R547): SPDM 1.2. -/
def execGetVersion (ep : Fin 3) (s : State) : Out := atSpdm s ep 0 (fun s => respond (spdmStep s ep 1) ep 0x04 [0x12])
/-- GET_CAPABILITIES (R547): CERT_CAP, CHAL_CAP, MEAS_CAP with signature. -/
def execGetCapabilities (ep : Fin 3) (s : State) : Out :=
  atSpdm s ep 1 (fun s => respond (spdmStep s ep 2) ep 0x61 [2 + 4 + 16])
/-- NEGOTIATE_ALGORITHMS (R547): P-384 with SHA-384. -/
def execNegotiateAlgorithms (ep : Fin 3) (s : State) : Out :=
  atSpdm s ep 2 (fun s => respond (spdmStep s ep 3) ep 0x63 (ascii "P-384" ++ ascii "SHA-384"))

/-- The certificate chain of slot 0 (R553). -/
def spdmChain (s : State) (ep : Fin 3) : List Byte :=
  if ep.val = 2 then
    Config.certChain 0 ++ (match s.sec.aak with
      | some k => Config.certDer 1 0 (Config.p384Public k) (if s.sec.timeValid then utcNow s else 946684800)
      | none => [])
  else Config.certChain (ep.val + 1)

/-- GET_DIGESTS (R547). -/
def execGetDigests (ep : Fin 3) (s : State) : Out :=
  atSpdm s ep 3 (fun s => respond s ep 0x01 (digestBytes (Config.sha384 (spdmChain s ep))))
/-- GET_CERTIFICATE (R547): slot 0 only. -/
def execGetCertificate (ep : Fin 3) (slot : BitVec 4) (off len : Nat) (s : State) : Out :=
  atSpdm s ep 3 (fun s => if slot = 0 then respond s ep 0x02 (((spdmChain s ep).drop off).take len)
    else respond s ep 0x7F [])

/-- A signature of the responder over what it answers. -/
def spdmSign (s : State) (ep : Fin 3) (body : List Byte) : List Byte :=
  match spdmKey s ep with
  | some k => (leBytes 96 (Config.ecdsaSign k (Config.sha384 body)).toNat).reverse
  | none => []

/-- CHALLENGE (R547). -/
def execChallenge (ep : Fin 3) (slot : BitVec 4) (nonce : List Byte) (s : State) : Out :=
  atSpdm s ep 3 (fun s =>
    if slot ≠ 0 ∨ (spdmKey s ep).isNone then respond s ep 0x7F []
    else
      let body := padTo nonce 32 ++ digestBytes (Config.sha384 (spdmChain s ep))
      respond s ep 0x03 (body ++ spdmSign s ep body))

/-- Measurement `i` of a responder (R547). -/
def measurementOf (s : State) (ep : Fin 3) (i : Nat) : Option (BitVec 384) :=
  if ep.val = 2 then (if 1 ≤ i ∧ i ≤ 7 then some (measure s i) else none)
  else if i = 32 then some (Config.romDigest 1) else if i = 33 then some s.mg.descDigest else none

/-- The measurement indexes of a responder. -/
def measurementIds (ep : Fin 3) : List Nat := if ep.val = 2 then [1, 2, 3, 4, 5, 6, 7] else [32, 33]

/-- GET_MEASUREMENTS (R547): one index, or (0xFF) all of them. -/
def execGetMeasurements (ep : Fin 3) (index : BitVec 8) (nonce : List Byte) (s : State) : Out :=
  atSpdm s ep 3 (fun s =>
    let ids := if index = 0xFF then measurementIds ep else [index.toNat]
    if (spdmKey s ep).isNone ∨ ids.any (fun i => (measurementOf s ep i).isNone) then respond s ep 0x7F []
    else
      let body := padTo nonce 32 ++ ids.flatMap (fun i => leBytes 1 i ++ digestBytes ((measurementOf s ep i).getD 0))
      respond s ep 0x60 (body ++ spdmSign s ep body))

end Sys2Proof.Machine
end

