-- ==== Sys2Proof/Machine/View.lean ====
section
/-! DEFINITION.  The registers as they read: core windows (R70, R72, R100, R101, R159, R578, R584) and the device
control space (R218 and the register tables of every chapter).  Offsets not listed read zero. -/

namespace Sys2Proof.Machine

open Sys2Proof

/-- Low half of a 64-bit register. -/
def lo32 (v : DWord) : Nat := v.toNat % 2 ^ 32
/-- High half of a 64-bit register. -/
def hi32 (v : DWord) : Nat := v.toNat / 2 ^ 32
/-- A rational in units of 1/8, rounded down, saturating at 16 bits. -/
def eighths (q : Rat) : Nat := min 0xFFFF (q * 8).floor.toNat
/-- A rational as whole units in `n` bits of two's complement. -/
def wholes (n : Nat) (q : Rat) : Nat := tc n q.floor

/-! ### A core's registers -/

/-- SEQ_STATUS (R101).  BLOCK_CAUSE keeps the table's reset value 0b00 until the sequencer first runs (log 92). -/
def seqStatus (k : Core) : Nat :=
  k.fetchIndex.toNat % 2048 + k.blockCause.toNat * 2 ^ 16 + k.blockEng.toNat * 2 ^ 18

/-- CORE_ID (R101). -/
def coreId (s : State) (c : Fin 96) : Nat :=
  let e := vget s.ms.pmapA (parcelOf c)
  c.val % 8 + c.val / 8 * 8 + c.val / 48 * 128 + (if e.valid then e.part.toNat * 256 + 4096 else 0)

/-- NUM_STATUS as a word. -/
def NumStatus.word (n : NumStatus) : Nat :=
  b2n n.ternCode + 2 * b2n n.nv + 4 * b2n n.dz + 8 * b2n n.ofl + 16 * b2n n.ufl + 32 * b2n n.nx + 64 * b2n n.poisonNosig

/-- PHASE as a word. -/
def phaseWord (k : Core) : Nat := k.phaseId.toNat + 64 * b2n k.phaseValid

/-- ENG_WAIT (R101). -/
def engWait (k : Core) (e : Fin 10) : Nat :=
  match (k.engine e).queue with
  | [] => 0
  | q :: _ =>
    let a := insWaitA q.word.toNat
    let b := insWaitB q.word.toNat
    a.ctr.val + a.mode * 64 + b.ctr.val * 256 + b.mode * 2 ^ 14 + b2n (waitMet k a) * 2 ^ 16 + b2n (waitMet k b) * 2 ^ 17

/-- The waits of the head instruction of engine `e`, or of the sequencer (10), on counter `n`. -/
def waitsOn (s : State) (c : Fin 96) (e n : Nat) : Option (Nat × Nat × Nat) :=
  let k := s.core c
  let w : Option Nat := match engOf? e with
    | some e => (k.engine e).queue.head?.map (fun q => q.word.toNat)
    | none => if k.fetching ∧ k.blockCause = 2 then some (s.num (progAddr c (k.fetchIndex.toNat % 2048)) 32) else none
  match w with
  | none => none
  | some w =>
    let a := insWaitA w
    let b := insWaitB w
    if a.mode ≠ 0 ∧ a.ctr.val = n ∧ !waitMet k a then some (a.val, a.mode, 0)
    else if b.mode ≠ 0 ∧ b.ctr.val = n ∧ !waitMet k b then some (b.val, b.mode, 1) else none

/-- SC_VALUE (R100). -/
def scValue (t : Ctr) : Nat := t.now.toNat + b2n t.sat * 2 ^ 24 + b2n t.under * 2 ^ 25 + b2n t.poison * 2 ^ 26
/-- SC_WAITERS (R100). -/
def scWaiters (s : State) (c : Fin 96) (n : Nat) : Nat :=
  (List.range 11).foldl (fun m e => if (waitsOn s c e n).isSome then m ||| 2 ^ (if e = 10 then 15 else e) else m) 0
/-- SC_LAST (R100). -/
def scLast (t : Ctr) : Nat := t.lastEng.toNat + t.lastIdx.toNat * 16 + b2n t.lastValid * 2 ^ 20

/-- Word at an offset of the sync counter view (R100). -/
def syncWord (s : State) (c : Fin 96) (o : Nat) : Nat :=
  let n : Fin 64 := ⟨o / 64 % 64, Nat.mod_lt _ (by decide)⟩
  let t := vget (s.core c).ctr n
  let r := o % 64
  if r = 0 then scValue t
  else if r = 4 then scWaiters s c n.val
  else if r = 8 then scLast t
  else if 0x10 ≤ r ∧ r ≤ 0x38 then
    match waitsOn s c ((r - 0x10) / 4) n.val with
    | some (v, m, f) => v + m * 2 ^ 24 + f * 2 ^ 26 + 2 ^ 27
    | none => 0
  else 0

/-- Word at an offset of the lane-generator registers (R159). -/
def laneWord (k : Core) (o : Nat) : Nat :=
  let g := k.lg
  if o = 0 then b2n g.replay + 2 * b2n g.ologOvf
  else if o = 0x08 then lo32 g.vx.s
  else if o = 0x0C then g.vx.hiLatch.toNat
  else if o = 0x18 then lo32 g.edge.s
  else if o = 0x1C then g.edge.hiLatch.toNat
  else if o = 0x28 then g.ologBase.toNat % 2 ^ 32
  else if o = 0x2C then g.ologBase.toNat / 2 ^ 32
  else if o = 0x30 then g.ologSize.toNat
  else if o = 0x34 then g.ologWptr.toNat
  else if o = 0x38 then g.ologDrops.toNat
  else if o = 0x40 then g.rplBase.toNat % 2 ^ 32
  else if o = 0x44 then g.rplBase.toNat / 2 ^ 32
  else if o = 0x48 then g.rplSize.toNat
  else if 0x50 ≤ o ∧ o < 0x78 then (g.rplPtr.toList.getD ((o - 0x50) / 4) 0).toNat
  else if 0x80 ≤ o ∧ o < 0xD0 then
    let v := g.originLast.toList.getD ((o - 0x80) / 8) 0
    if o % 8 = 0 then lo32 v else hi32 v
  else if 0xD0 ≤ o ∧ o < 0xF8 then
    let i := (o - 0xD0) / 4
    if g.seqFull.toList.getD i false then 0xFFFF + 2 ^ 16 else (g.logSeq.toList.getD i 0).toNat
  else 0

/-- Word at an offset of the activity counters, relative to +0x800 (R578): the sampled view. -/
def acWord (k : Core) (o : Nat) : Nat :=
  if o < 0x580 then
    let b := o / 0x80
    let r := o % 0x80
    if r < 0x58 then
      match k.ac.view.toList[b]? with
      | some v => if r % 8 = 0 then lo32 (v.toList.getD (r / 8) 0) else k.ac.hiLatch.toNat
      | none => 0
    else 0
  else if o = 0x588 then lo32 k.ac.viewCycles
  else if o = 0x58C then k.ac.hiLatch.toNat else 0

/-- Word at an offset of field-book control, relative to +0xF00 (R584). -/
def fbWord (k : Core) (o : Nat) : Nat :=
  let f := k.fb
  if o = 0 then b2n f.enable + f.policy.toNat * 2 + f.pre.toNat * 8
  else if o = 4 then f.state.toNat
  else if o = 8 then f.wptr.toNat
  else if o = 0xC then f.dptr.toNat
  else if 0x10 ≤ o ∧ o < 0x20 then (f.lost.toList.getD ((o - 0x10) / 4) 0).toNat
  else if o = 0x20 then f.overwritten.toNat
  else if o = 0x24 then f.trigExtra.toNat
  else if o = 0x28 then f.ringAddr.toNat % 2 ^ 32
  else if o = 0x2C then f.ringAddr.toNat / 2 ^ 32 + f.ringSize.toNat * 2 ^ 16
  else if o = 0x30 then lo32 f.trigTs
  else if o = 0x34 then hi32 f.trigTs else 0

/-- Word at an offset of engine control (R101). -/
def engCtlWord (s : State) (c : Fin 96) (o : Nat) : Nat :=
  let k := s.core c
  if o = 0 then coreCtrlWord s c
  else if o = 4 then coreId s c
  else if o = 8 then seqStatus k
  else if o = 0x10 then k.stepTag.toNat
  else if o = 0x14 then k.num.word
  else if o = 0x18 then phaseWord k
  else if o = 0x1C then k.fault.word
  else if 0x100 ≤ o ∧ o < 0x240 then
    match engOf? ((o - 0x100) / 0x20) with
    | some e =>
      let r := o % 0x20
      if r = 0 then engStatus s c e else if r = 4 then engWait k e else if r = 8 then b2n (k.engine e).hold else 0
    | none => 0
  else if 0x400 ≤ o ∧ o < 0x800 then laneWord k (o - 0x400)
  else if 0x800 ≤ o ∧ o < 0xD90 then acWord k (o - 0x800)
  else if 0xF00 ≤ o ∧ o < 0xF40 then fbWord k (o - 0xF00)
  else 0

/-- Word at an offset of a core window from the sync counter view up. -/
def coreRegWord (s : State) (c : Fin 96) (o : Nat) : Nat :=
  if o < 0x840000 then syncWord s c (o - 0x830000) else engCtlWord s c (o - 0x840000)

/-! ### Memory system -/

/-- Word of a stack controller (R251). -/
def stackWord (s : State) (n : Fin 6) (o : Nat) : Nat :=
  let k := s.stk n
  if o = 0 then k.status
  else if o = 4 then k.th1.toNat
  else if o = 8 then k.eccCe.toNat
  else if o = 0xC then k.eccUe.toNat
  else if o = 0x10 then k.eccOde.toNat
  else if o = 0x14 then k.scrubH.toNat + 256 * b2n k.scrubEn
  else if o = 0x18 then k.passes.toNat
  else if o = 0x1C then k.ceThresh.toNat
  else if o = 0x20 then k.rprSoft.toNat + k.rprHard.toNat * 2 ^ 10 + k.rprUnrep.toNat * 2 ^ 20
  else if o = 0x24 then k.wmark.toNat else 0

/-- Word `i` of a plat entry (R242). -/
def PlatEnt.word (e : PlatEnt) (i : Nat) : Nat :=
  if i = 0 then b2n e.valid + e.stack.toNat * 16 + e.baseG.toNat * 2 ^ 16
  else if i = 1 then e.sizeG.toNat
  else if i = 2 then e.part.toNat + b2n e.rd * 16 + b2n e.wr * 32 + b2n e.hostRd * 64 + b2n e.hostWr * 128 +
    b2n e.fabRd * 256 + b2n e.fabWr * 512 + b2n e.enc * 2 ^ 16 + e.keySlot.toNat * 2 ^ 20
  else e.tag.toNat

/-- Word of the plat: staged copy, active copy at +0x4000 (R242). -/
def platWord (s : State) (o : Nat) : Nat :=
  let t := if o < 0x4000 then s.ms.platS else s.ms.platA
  match t.toList[o % 0x4000 / 16]? with
  | some e => if o < 0x8000 then e.word (o % 16 / 4) else 0
  | none => 0

/-- Word of a partition map register (R247). -/
def PmapEnt.word (e : PmapEnt) : Nat := e.part.toNat + b2n e.valid * 16

/-- Word of the partition map: staged copy, active copy at +0x100 (R247). -/
def pmapWord (s : State) (o : Nat) : Nat :=
  if o < 0x30 then (s.ms.pmapS.toList.getD (o / 4) .reset).word
  else if 0x100 ≤ o ∧ o < 0x130 then (s.ms.pmapA.toList.getD ((o - 0x100) / 4) .reset).word else 0

/-! ### Fabric, exchange, closure, update -/

/-- Word of a port (R312). -/
def portWord (s : State) (n : Fin 8) (o : Nat) : Nat :=
  let p := portOf s n
  if o = 0 then p.status
  else if o = 4 then p.fec.toNat + b2n p.enable * 4 + p.retrySwitch.toNat * 2 ^ 16
  else if o = 8 then p.cwCorr.toNat
  else if o = 0xC then p.cwBad.toNat
  else if o = 0x10 then p.retries.toNat
  else if o = 0x14 then p.degrades.toNat + p.retrains.toNat * 2 ^ 8 + p.downs.toNat * 2 ^ 16 + p.pauses.toNat * 2 ^ 24
  else 0

/-- Word of the router (R312). -/
def routerWord (s : State) (o : Nat) : Nat :=
  let f := s.fab
  if o = 0 then f.devId.toNat + b2n f.idValid * 2 ^ 16
  else if o = 4 then f.lenX.toNat + f.lenY.toNat * 16 + f.lenZ.toNat * 256
  else if o = 8 then f.lateDrop.toNat
  else if o = 0xC then f.resends.toNat
  else if o = 0x10 then f.undeliv.toNat
  else if o = 0x14 then f.refused.toNat
  else if o = 0x18 then rtxOcc s
  else if o = 0x1C then reorderOcc s else 0

/-- Word of an exchange context (R342). -/
def Xc.word (x : Xc) (o : Nat) : Nat :=
  if o = 0 then x.attempt0.toNat + x.attempt1.toNat * 16
  else if o = 4 then x.slots.toNat
  else if o = 8 then x.stageBase.toNat % 2 ^ 32
  else if o = 0xC then x.stageBase.toNat / 2 ^ 32
  else if o = 0x10 then x.mode.toNat + b2n x.sums * 4 + b2n x.active * 8 + x.warmup.toNat * 2 ^ 16
  else if o = 0x14 then x.noiseB.toNat
  else if o = 0x18 then x.replicas.toNat + x.hold.toNat * 2 ^ 16
  else if o = 0x1C then x.beta.toNat
  else if o = 0x20 then x.mbMin.toNat + x.mbMax.toNat * 2 ^ 12
  else if o = 0x24 then x.cur.toNat + x.steerSlot.toNat * 2 ^ 12 + b2n x.slotValid * 2 ^ 23
  else if o = 0x40 then x.dupDrop.toNat
  else if o = 0x44 then x.staleDrop.toNat
  else if o = 0x48 then x.mixedDrop.toNat
  else if o = 0x4C then x.rankDrop.toNat
  else if o = 0x50 then x.stageRefuse.toNat
  else if o = 0x54 then x.gapClose.toNat
  else if o = 0x58 then x.dispDrops.toNat
  else if o = 0x5C then x.dispSpills.toNat else 0

/-- CL_UPD_PEND (R376). -/
def updPend (s : State) (p : Fin 12) : Nat :=
  if (s.part p).cl.gate = 0 then 0
  else ((stepCores s p).filter (fun c => !(s.core c).updDone && !(s.part p).cl.updDone.contains c.val)).length

/-- Word of a closure context (R376). -/
def closureWord (s : State) (p : Fin 12) (o : Nat) : Nat :=
  let c := (s.part p).cl
  if o < 0x10 then
    let x := slotAt s p (if o < 8 then 0 else 1)
    if o % 8 = 0 then x.stepId.toNat
    else x.state.toNat + x.replays.toNat * 16 + b2n x.halted * 256 + b2n x.recordWait * 512 + x.causes.toNat * 2 ^ 16
  else if o = 0x10 then c.gate.toNat
  else if o = 0x14 then c.gateTag.toNat
  else if o = 0x18 then c.prev.toNat
  else if o = 0x1C then updPend s p
  else if o = 0x20 then c.commits.toNat + c.replays.toNat * 2 ^ 16 else 0

/-- Word of a retention table (R377). -/
def retWord (s : State) (p : Fin 12) (o : Nat) : Nat :=
  let e := (s.part p).cl.ret.toList.getD (o / 16) .reset
  let r := o % 16
  if r = 0 then b2n e.valid + e.addr.toNat % 2 ^ 16 * 2 ^ 16
  else if r = 4 then e.addr.toNat / 2 ^ 16
  else if r = 8 then e.units.toNat else e.refused.toNat

/-- Word of an update context (R408). -/
def Upd.word (u : Upd) (o : Nat) : Nat :=
  if o = 0 then u.period.toNat + u.member.toNat * 2 ^ 16 + u.role.toNat * 2 ^ 19 + u.members.toNat * 2 ^ 21
  else if o = 4 then u.list.toNat % 2 ^ 32
  else if o = 8 then u.list.toNat / 2 ^ 32 + u.count.toNat * 2 ^ 16
  else if o = 0xC then u.area.toNat % 2 ^ 32
  else if o = 0x10 then u.area.toNat / 2 ^ 32
  else if o = 0x14 then u.peers.toNat % 2 ^ 32
  else if o = 0x18 then u.peers.toNat / 2 ^ 32
  else if o = 0x1C then u.state.toNat + b2n u.revert * 4 + b2n u.timeout * 8 + u.round.toNat * 16
  else if o = 0x20 then u.step.toNat
  else if o = 0x24 then u.refreshed.toNat
  else if o = 0x28 then u.passes.toNat
  else if o = 0x2C then u.nonfinite.toNat
  else if o = 0x30 then u.poisonSkip.toNat else 0

/-! ### In-service tests, deeds -/

/-- Word of the in-service test block (R440). -/
def servWord (s : State) (o : Nat) : Nat :=
  let v := s.serv
  if o = 0 then b2n v.autoRetire + v.activeSlot.toNat * 4 + v.failQuar.toNat * 16 + v.retireThresh.toNat * 256 +
    v.failWindowH.toNat * 2 ^ 16
  else if o = 4 then v.normalS.toNat + v.watchS.toNat * 2 ^ 16
  else if o = 8 then v.watchPass.toNat + v.quarHoldH.toNat * 2 ^ 16
  else if o = 0xC then v.capUs.toNat
  else if o = 0x10 then tsSummary s
  else if 0x20 ≤ o ∧ o < 0x40 then
    let k := v.packs.toList.getD ((o - 0x20) / 8) .reset
    if o % 8 = 0 then k.version.toNat else k.state.toNat
  else if 0x100 ≤ o ∧ o < 0x700 then
    match coreOf? ((o - 0x100) / 16) with
    | none => 0
    | some c =>
      let t := tcore s c
      let r := o % 16
      if r = 0 then (if (s.core c).retired then 3 else t.level.toNat) + b2n t.heldOut * 4 + b2n t.advised * 8 +
        b2n (coreAbsent c) * 16 + min (failsNow s c) 15 * 256 + t.lastKernel.toNat * 2 ^ 16
      else if r = 4 then t.clean.toNat
      else if r = 8 then dueSeconds s c else t.stolen.toNat
  else 0

/-- Word of the deed register file (R472). -/
def deedWord (s : State) (o : Nat) : Nat :=
  if o < 0x50 then
    let d := s.kci.deeds.toList.getD (o / 16) .reset
    let r := o % 16
    if r = 0 then d.holder.toNat + d.agree.toNat * 4 + d.lastBy.toNat * 256
    else if r = 4 then d.epoch.toNat
    else if r = 8 then lo32 d.chain else hi32 d.chain
  else if o = 0x88 then
    let p := vget s.kci.deedPorts 0
    p.outcome.toNat + b2n p.pending * 4
  else if o = 0x90 then hbAge s 0 + hbAge s 1 * 2 ^ 16 else 0

/-! ### Power, clocks, temperature -/

/-- Word of a copy of the limits (R509). -/
def Limits.word (l : Limits) (o : Nat) : Nat :=
  if o = 0 then l.plSust.toNat + l.plShort.toNat * 2 ^ 16
  else if o = 4 then l.edc.toNat + l.tdc.toNat * 2 ^ 16
  else if o = 8 then l.tjReg.toNat + l.th1.toNat * 256
  else if o = 0xC then l.ease.toNat + l.droopMv.toNat * 256 else 0

/-- Word of the limits block (R509, R571). -/
def limitsWord (s : State) (o : Nat) : Nat :=
  if o < 0x10 then s.pw.limS.word o
  else if o = 0x10 then s.pw.limOutcome.toNat * 2 + b2n s.pw.limDue.isSome * 8
  else if o = 0x20 then b2n s.pw.flushStop
  else if 0x100 ≤ o ∧ o < 0x110 then s.pw.limA.word (o - 0x100) else 0

/-- Word of the power controller (R510). -/
def powerWord (s : State) (o : Nat) : Nat :=
  let w := s.pw
  if o = 0 then w.pstep.toNat + w.target.toNat * 16 + b2n (memStep s) * 256 + w.wstate.toNat * 512 +
    w.limiter.toNat * 2 ^ 12 + b2n w.skipEdc * 2 ^ 16 + b2n w.calValid * 2 ^ 17 + b2n w.fallback * 2 ^ 18
  else if o = 4 then w.hostPl.toNat + w.hostTh1.toNat * 2 ^ 16
  else if o = 8 then w.ceil.toNat + w.floor.toNat * 16 + w.mstepPol.toNat * 256
  else if o = 0xC then tolerance s
  else if o = 0x10 then b2n (allowW4 s) + deepestW s * 2
  else if o = 0x14 then eighths w.est + eighths w.vlogI * 2 ^ 16
  else if o = 0x18 then eighths w.ewmaShort
  else if o = 0x1C then eighths w.ewmaSust + eighths w.tdcI * 2 ^ 16
  else if o = 0x20 then (match w.t with | some t => min 0xFFFE (eighths t) | none => 0xFFFF) + eighths w.g * 2 ^ 16
  else if o = 0x24 then wholes 8 (tjMax s) + b2n w.tjActive * 256
  else if o = 0x28 then b2n w.short.tripped + 2 * b2n w.sust.tripped + 4 * b2n w.tdc.tripped
  else if o = 0x2C then w.skipEdges.toNat
  else if o = 0x30 then w.droopTrips.toNat
  else if o = 0x34 then w.easeLoans.toNat
  else if o = 0x38 then w.stepChanges.toNat
  else if 0x40 ≤ o ∧ o < 0x90 then
    let c := w.cals.toList.getD ((o - 0x40) / 8) .reset
    if o % 8 = 0 then min 0xFFFF (c.gain * 4096).floor.toNat else tc 16 (c.off * 8).floor
  else if 0x100 ≤ o ∧ o < 0x120 then (w.masks.toList.getD ((o - 0x100) / 4) 0).toNat else 0

/-- Word of the clock block (R534). -/
def clockWord (s : State) (o : Nat) : Nat :=
  let c := s.clk
  if o = 0 then b2n c.locked + 2 * b2n c.gated + 4 * b2n c.relocking + 8 * b2n c.refOk + 16 * b2n c.failed
  else if o = 4 then c.cur.toNat + c.armed.toNat * 16 + b2n c.armValid * 256
  else if o = 8 then lo32 c.armCount
  else if o = 0xC then c.armHi.toNat
  else if o = 0x10 then lo32 s.ts
  else if o = 0x14 then c.tsHi.toNat
  else if o = 0x18 then lo32 s.chain
  else if o = 0x1C then c.chainHi.toNat
  else if o = 0x20 then c.jitter.toNat + c.duty.toNat * 2 ^ 8 + c.relocks.toNat * 2 ^ 16 + c.aborts.toNat * 2 ^ 24
  else if 0x40 ≤ o ∧ o < 0x70 then
    let m := c.mons.toList.getD ((o - 0x40) / 4) .reset
    m.dutyPct.toNat + m.corr.toNat * 256 + b2n m.shortAlarm * 2 ^ 16 + b2n m.dutyAlarm * 2 ^ 17
  else 0

/-- ACTIVE_MEAN (R529). -/
def activeMean (s : State) : Rat :=
  if s.th.means.isEmpty then tjMean s else sumRat s.th.means / (s.th.means.length : Rat)

/-- Word of the thermal block (R535). -/
def thermalWord (s : State) (o : Nat) : Nat :=
  let t := s.th
  if o = 0 then t.thWarn.toNat + b2n t.kwEn * 128 + t.kwFloor.toNat * 256 + t.kwDrop.toNat * 2 ^ 16 + t.kwPower.toNat * 2 ^ 24
  else if o = 4 then t.kwRate.toNat
  else if o = 8 then wholes 7 (tjMax s) + wholes 7 (tjMean s) * 256 + b2n t.warn * 2 ^ 16 + b2n t.tripped * 2 ^ 17 +
    b2n t.kwActive * 2 ^ 18 + b2n t.kwLimited * 2 ^ 19
  else if o = 0xC then wholes 8 t.floorEff + wholes 8 (activeMean s) * 256 + wholes 8 t.heat * 2 ^ 16
  else if o = 0x10 then t.tripSensor.toNat + b2n t.tripValid * 128
  else if 0x100 ≤ o ∧ o < 0x2C0 then
    let x := t.sens.toList.getD ((o - 0x100) / 4) .reset
    x.temp.toNat + b2n x.failed * 2 ^ 11
  else 0

/-! ### Management, security, reset, snapshot -/

/-- Word of the management block (R570). -/
def mgmtWord (s : State) (o : Nat) : Nat :=
  let m := s.mg
  let mj := fun (q : Rat) => min 0xFFFF q.floor.toNat
  if o = 0 then (s.agent 0).role.toNat + (s.agent 1).role.toNat * 4 + b2n m.pmbWest * 16
  else if o = 4 then alertBits s + m.mask.toNat * 2 ^ 16
  else if o = 8 then b2n m.descValid + m.descVersion.toNat * 256
  else if o = 0xC then m.huCap.toNat + m.huVnom.toNat * 2 ^ 16 + m.huVmin.toNat * 2 ^ 24
  else if o = 0x10 then m.huRatio.toNat + m.huEff.toNat * 2 ^ 16
  else if o = 0x14 then mj m.eMeas + mj m.eInt * 2 ^ 16
  else if o = 0x18 then b2n s.rst.pwrLoss + 2 * b2n m.shed + 4 * b2n m.senseOor + 8 * b2n m.disagree else 0

/-- Word of the security block (R573). -/
def secWord (s : State) (o : Nat) : Nat :=
  let x := s.sec
  if o = 0 then b2n x.selftestOk + 2 * b2n x.error + 4 * b2n x.nonapproved + 8 * b2n x.debugUnlocked +
    x.bank.toNat * 16 + b2n x.act.isSome * 32 + x.svn.toNat * 256
  else if o = 8 then lo32 x.utcBase
  else if o = 0xC then hi32 x.utcBase
  else if o = 0x10 then lo32 x.tsBase
  else if o = 0x14 then hi32 x.tsBase
  else if o = 0x18 then b2n x.timeValid
  else if h : 0x100 ≤ o ∧ o < 0x180 then
    let i : Fin 32 := ⟨(o - 0x100) / 4, by omega⟩
    let k := vget x.slots i
    b2n k.used + k.ktype.toNat * 2 + k.owner.toNat * 16 + b2n (slotInUse s i) * 256 + k.job.toNat * 512
  else 0

/-- Word of the staging buffer's registers (R572). -/
def stageWord (s : State) (o : Nat) : Nat :=
  let b := s.sec.sb
  if o = 0 then b.component.toNat * 256 + b.packSlot.toNat * 2 ^ 16
  else if o = 8 then (vget b.len 0).toNat + b2n (vget b.full 0) * 2 ^ 18
  else if o = 0xC then (vget b.len 1).toNat + b2n (vget b.full 1) * 2 ^ 18
  else if o = 0x10 then b.state.toNat + b.reason.toNat * 256
  else if o = 0x14 then b.version.toNat else 0

/-- Word of snapshot control (R591). -/
def snapWord (s : State) (o : Nat) : Nat :=
  if o = 0 then b2n s.snap.hold + 2 * b2n s.snap.capturing
  else if o = 4 then s.snap.seq.toNat
  else if o = 8 then s.snap.heldCount.toNat
  else if o = 0xC then s.snap.wdogMs.toNat else 0

/-- Word of the reset block (R606). -/
def resetWord (s : State) (o : Nat) : Nat :=
  let r := s.rst
  if o = 0 then b2n r.causePor + 2 * b2n r.causeSys + 4 * b2n r.causePerst + 8 * b2n r.causeCp + 16 * b2n r.causeE +
    32 * b2n r.causeW
  else if o = 4 then r.stage.toNat + r.bank.toNat * 16
  else if o = 8 then r.straps.toNat
  else if o = 0xC then r.sysCount.toNat + r.ctlCount.toNat * 2 ^ 8 + r.partCount.toNat * 2 ^ 16 else 0

/-- Word of the GPIO block (R615). -/
def gpioWord (s : State) (o : Nat) : Nat :=
  if o = 0 then s.rst.gpioIn.toNat else if o = 4 then s.rst.gpioOut.toNat else if o = 8 then s.rst.gpioOe.toNat else 0

/-! ### The device control space -/

/-- Word at an offset of the device control space; none where no register block stands there (R218). -/
def ctlWord (s : State) (o : Nat) : Option Nat :=
  let b := o / 0x10000
  let r := o % 0x10000
  if h : 0x10 ≤ b ∧ b < 0x16 then some (stackWord s ⟨b - 0x10, by omega⟩ r)
  else if b = 0x20 then some (platWord s r)
  else if b = 0x30 then some (pmapWord s r)
  else if b = 0x40 then (if h : r / 0x100 < 8 then some (portWord s ⟨r / 0x100, h⟩ (r % 0x100)) else none)
  else if b = 0x41 then some (routerWord s r)
  else if b = 0x42 then (partOf? (r / 0x100)).map (fun p => (s.part p).xc.word (r % 0x100))
  else if b = 0x43 then (partOf? (r / 0x100)).map (fun p => closureWord s p (r % 0x100))
  else if b = 0x44 then (partOf? (r / 0x100)).map (fun p => retWord s p (r % 0x100))
  else if b = 0x45 then (partOf? (r / 0x100)).map (fun p => (s.part p).uc.word (r % 0x100))
  else if b = 0x46 then some (servWord s r)
  else if b = 0x47 then some (deedWord s r)
  else if b = 0x48 then some (limitsWord s r)
  else if b = 0x49 then some (powerWord s r)
  else if b = 0x4A then some (clockWord s r)
  else if b = 0x4B then some (thermalWord s r)
  else if b = 0x4C then some (mgmtWord s r)
  else if b = 0x4D then some (secWord s r)
  else if b = 0x4F then some (snapWord s r)
  else if b = 0x50 then some (resetWord s r)
  else if b = 0x51 then some (gpioWord s r)
  else if 0x600000 ≤ o ∧ o < 0x601000 then some (stageWord s (o - 0x600000))
  else if (0x601000 ≤ o ∧ o < 0x641000) ∨ (0x700000 ≤ o ∧ o < 0xA00000) then some (s.mem.nat (0x020000000000 + o) 4)
  else none

/-- Words of a block: `n` words from an offset. -/
def blockBytes (f : Nat → Nat) (first n : Nat) : List Byte :=
  (List.range n).flatMap (fun i => leBytes 4 (f (first + 4 * i)))

end Sys2Proof.Machine
end

