-- ==== Sys2Proof/Machine/Telemetry.lean ====
section
/-! DEFINITION.  The telemetry ring, activity counters, field-book control and drain, the watchdog and the hang
snapshot (20 R574 to R594), and the millisecond of the Tj loop with the power record (R494, R510). -/

namespace Sys2Proof.Machine

open Sys2Proof

/-! ### The telemetry ring (R585 to R587, R454) -/

/-- Address of a slot of the telemetry ring. -/
def telSlot (n : Nat) : Nat := 0x020000700000 + 64 * n

/-- KCI event code of a record code (R454, R586); 0 for none. -/
def eventCode (code : Nat) : Nat :=
  if code = 0x0701 then 1 else if code = 0x0601 then 2 else if code = 0x0602 then 3 else if code = 0x0401 then 4
  else if code = 0x0403 then 5 else if 0x0302 ≤ code ∧ code ≤ 0x0305 then 6 else if code = 0x0301 then 7 else 0

/-- The 64 bytes of a record with sequence number `seq` (R586). -/
def recBytes (r : Rec) (seq : Word) : List Byte :=
  leBytes 8 r.ts.toNat ++ leBytes 4 seq.toNat ++ leBytes 2 r.code.toNat ++
    leBytes 1 (r.part.toNat + 128 * b2n r.lostBefore) ++ leBytes 1 r.core.toNat ++ padTo r.body 48

/-- R587: the record `r`, taken from the queue, goes into the ring; its event is posted. -/
def writeRecord (s : State) (r : Rec) (rest : List Rec) : State :=
  let n := s.tel.nextSeq
  let bs := recBytes r n
  let s := s.write (telSlot (1 + n.toNat % 16383)) bs false
  let s := { s with tel := { s.tel with queue := rest, nextSeq := n + 1 } }
  let s := s.write (telSlot 0) (leBytes 4 (n + 1).toNat ++ leBytes 4 s.tel.lost.toNat) false
  if eventCode r.code.toNat = 0 then s else eventTo s (eventCode r.code.toNat) r.part.toNat (bs.take 16)

/-! ### Activity counters (R577, R578) -/

/-- A write of SAMPLE. -/
def acSample (k : Core) : Core := { k with ac := { k.ac with view := k.ac.blocks, viewCycles := k.ac.cycles } }

/-- AC_CTRL_SAMPLE (R577). -/
def execAcCtrlSample (c : Fin 96) (gap : Nat) (s : State) : Out := onCore c gap s (fun s => s.modCore c acSample)
/-- AC_CTRL_CLEAR (R577). -/
def execAcCtrlClear (c : Fin 96) (gap : Nat) (s : State) : Out :=
  onCore c gap s (fun s => s.modCore c (fun k => { k with ac := { ActCtrs.reset with hiLatch := k.ac.hiLatch } }))
/-- AC_SAMPLE_TICK (R577). -/
def execAcSampleTick (s : State) : Out :=
  .next ((List.finRange 96).foldl (fun s c => if coreShut s c then s else s.modCore c acSample) s)

/-- AC_LO_READ (R578): counter `i` of block `b`, or (11) AC_CYCLES. -/
def execAcLoRead (c : Fin 96) (b : Fin 11) (i : Fin 12) (gap : Nat) (s : State) : Out :=
  readCore c gap s (fun s =>
    let v : DWord := if h : i.val < 11 then vget (vget (s.core c).ac.view b) ⟨i.val, h⟩ else (s.core c).ac.viewCycles
    (s.modCore c (fun k => { k with ac := { k.ac with hiLatch := BitVec.ofNat 32 (hi32 v) } })).returns (leBytes 4 (lo32 v)))

/-! ### Field book (R581 to R584) -/

/-- A write of FB_CTRL (R584).  One that sets TRIGGER while ENABLE stands does not clear the field book. -/
def fbCtrlWrite (s : State) (c : Fin 96) (v : Word) : State :=
  let on := (s.core c).fb.enable
  let trig := bit v.toNat 7
  let s := modFb s c (fun f => { f with
    policy := BitVec.ofNat 2 (field v.toNat 1 2), pre := BitVec.ofNat 4 (min (field v.toNat 3 4) 8) })
  let s := if bit v.toNat 0 then (if on ∧ trig then s else fbEnable s c)
    else modFb s c (fun f => { f with enable := false, state := 0 })
  if trig then fbTrigger s c 0x05 else s

/-- FB_CTRL_ENABLE (R584): a write of FB_CTRL with ENABLE set. -/
def execFbCtrlEnable (c : Fin 96) (v : Word) (gap : Nat) (s : State) : Out :=
  onCore c gap s (fun s => fbCtrlWrite s c (v ||| 1))
/-- FB_CTRL_TRIGGER (R582, R584): a write of FB_CTRL with TRIGGER set. -/
def execFbCtrlTrigger (c : Fin 96) (v : Word) (gap : Nat) (s : State) : Out :=
  onCore c gap s (fun s => fbCtrlWrite s c (v ||| 0x80))

/-- The slots that the drain copies next, at most four, in order (R581, R582). -/
def drainSlots (f : FieldBook) : List Nat :=
  if f.policy = 2 then
    if f.state ≠ 4 then []
    else
      let n := f.preSize
      let i := f.ringPos / 16
      (upFrom i (min 4 (f.preHeld + f.held - i))).map (fun j =>
        if j < f.preHeld then (f.prePtr + n - f.preHeld + j) % n else n + (j - f.preHeld))
  else if f.state = 1 ∨ f.state = 2 ∨ f.state = 3 then (List.range (min 4 f.held)).map (fun j => (f.dptr.toNat + j) % 4096)
  else []

/-- FIELD_BOOK_DRAIN (R581): one unit of records goes to the core's ring. -/
def execFieldBookDrain (c : Fin 96) (s : State) : Out :=
  let f := (s.core c).fb
  let base := f.ringAddr.toNat
  let cap := f.ringSize.toNat * 65536 - 64
  let slots := drainSlots f
  let n := 16 * slots.length
  .next (if !f.enable ∨ slots = [] ∨ f.ringSize = 0 ∨ 2 ≤ s.pw.wstate.toNat ∨ coreShut s c ∨
      stackWaits s base (f.ringSize.toNat * 65536) then s
    else if !(platAll s .wr f.owner.toNat base (f.ringSize.toNat * 65536)) then
      record (modFb s c (fun f => { f with state := 6 })) 0x0704 (ownerNum s c) c.val
        (leBytes 4 6 ++ leBytes 8 base)
    else if f.policy ≠ 0 ∧ cap < f.ringPos + n - s.num (base + 8) 8 then s
    else
      let s := slots.zipIdx.foldl (fun s (p : Nat × Nat) =>
        s.write (base + 64 + (f.ringPos + 16 * p.2) % cap) (s.mem.readN (fbAddr c p.1) 16) false) s
      let s := s.write base (leBytes 8 (f.ringPos + n)) false
      let s := s.write (base + 16) (leBytes 1 c.val ++ leBytes 1 f.policy.toNat) false
      modFb s c (fun f =>
        let f := { f with ringPos := f.ringPos + n, dptr := f.dptr + BitVec.ofNat 12 slots.length }
        if f.policy = 2 then (if f.preHeld + f.held ≤ f.ringPos / 16 then { f with state := 5 } else f)
        else { f with held := f.held - slots.length }))

/-! ### The snapshot (R589 to R591) -/

/-- Changes snapshot control. -/
def State.modSnap (s : State) (f : Snap → Snap) : State := { s with snap := f s.snap }

/-- R589: a write of the snapshot trigger sets bit `b` of SOURCES. -/
def snapTrigger (s : State) (b : Nat) : State :=
  let m : BitVec 3 := BitVec.ofNat 3 (2 ^ b)
  if s.snap.hold then s.modSnap (fun x => { x with heldCount := satAdd x.heldCount 1 })
  else if s.snap.capturing then s.modSnap (fun x => { x with next := x.next ||| m })
  else match s.snap.sampleAt with
    | some _ => s.modSnap (fun x => { x with sources := x.sources ||| m })
    | none => s.modSnap (fun x => { x with sources := m, sampleAt := some (s.chain + 2) })

/-- SNAPSHOT_TRIGGER_WRITE (R25): the primary agent's. -/
def execSnapshotTriggerWrite (w : Writer) (s : State) : Out :=
  .next (if primaryWrites s w then snapTrigger s 2 else s)

/-- R588: every unsatisfied wait of the core names a counter that may be signalled from outside. -/
def waitsOutside (s : State) (c : Fin 96) : Bool :=
  let k := s.core c
  let unmet := (List.range 11).flatMap (fun e => (List.range 64).filter (fun n => (waitsOn s c e n).isSome))
  !unmet.isEmpty && unmet.all (fun n => bit k.extMask.toNat n)

/-- WATCHDOG (R588): a core has made no progress for WDOG_MS. -/
def execWatchdog (c : Fin 96) (s : State) : Out :=
  let k := s.core c
  .next (if coreShut s c ∨ !k.running ∨ k.wdogFired ∨ waitsOutside s c ∨ s.since k.wdogMark < s.snap.wdogMs.toNat * msTicks then s
    else
      let cycles := s.since k.wdogMark * stepMhz s.clk.cur.toNat / 1600
      let s := s.modCore c (fun k => { k with wdogFired := true })
      snapTrigger (recordCore s 0x0107 c (leBytes 4 (seqStatus k) ++ leBytes 8 cycles)) 1)

/-- The eight bytes of a tally (R319): kind and flags, then the counts of its kind. -/
def Tally.bytes (t : Tally) : List Byte :=
  leBytes 2 (t.kind + 4 * b2n t.parity + 8 * b2n t.poison + 16 * b2n t.posted + 32 * t.ends) ++
    (match t.kind with
     | 2 => leBytes 2 t.nextRank ++ leBytes 4 t.curBytes
     | 3 => leBytes 3 t.landed ++ leBytes 3 t.announced
     | _ => leBytes 4 t.count ++ leBytes 2 0)

/-- Groups that XI instructions name, in queue order. -/
def xiGroups (k : Core) : List Nat :=
  let x := k.engine 4
  let ws := x.flight.map (fun f => f.ent.word.toNat) ++ x.queue.map (fun q => q.word.toNat)
  (ws.map (fun w => imm w 139 128)).foldl (fun l g => if l.contains g then l else l ++ [g]) []

/-- The tallies in a core's record: those that XI names first, then by group number, at most 768 (R590). -/
def snapTallies (k : Core) : List (Nat × Tally) :=
  let named := (xiGroups k).filterMap (fun g => (aget k.tallies g).map (fun t => (g, t)))
  let rest := sortStable (fun a b => decide (a.1 < b.1)) (k.tallies.filter (fun t => !named.any (fun u => u.1 == t.1)))
  (named ++ rest).take 768

/-- In-flight table of a core: engine, slot, range base, length, kind (R590). -/
def snapFlights (k : Core) : List Byte :=
  ((List.finRange 10).flatMap (fun e => (k.engine e).flight.flatMap (fun f =>
    (f.writes.map (fun r => (e.val, f.ent.slot.toNat, r, 0))) ++ (f.reads.map (fun r => (e.val, f.ent.slot.toNat, r, 1)))))).take 64
    |>.flatMap (fun (e, sl, r, kind) => leBytes 1 e ++ leBytes 2 sl ++ leBytes 6 r.addr ++ leBytes 6 (min r.len (2 ^ 48 - 1)) ++ leBytes 1 kind)

/-- The record of a core: offsets and bytes (R590).  Bank requests are none: accesses of this model complete at
once. -/
def snapCore (s : State) (c : Fin 96) : List (Nat × List Byte) :=
  let k := s.core c
  let gated := coreAbsent c || decide (2 ≤ s.pw.wstate.toNat)
  let inFlight := (k.eng.toList.map (fun e => e.flight.length)).foldl (· + ·) 0
  if gated then [(60, leBytes 4 1)]
  else
    let ts := snapTallies k
    let head := leBytes 4 (coreCtrlWord s c) ++ leBytes 4 (coreId s c) ++ leBytes 4 (seqStatus k) ++
      leBytes 4 k.stepTag.toNat ++ leBytes 4 k.num.word ++ leBytes 4 (phaseWord k) ++ leBytes 4 k.fault.word ++
      leBytes 4 (match k.mv.region with | some r => r.toNat | none => 0) ++ leBytes 4 k.mv.fill.toNat ++
      leBytes 4 k.mv.cons.toNat ++ leBytes 4 inFlight ++ leBytes 4 k.tallies.length ++ leBytes 12 0 ++
      leBytes 4 (2 * b2n (decide (ts.length < k.tallies.length)))
    let ents := (List.finRange 10).map (fun e =>
      let w := match (k.engine e).queue with | q :: _ => q.word.toNat | [] => 0
      (0x40 + e.val * 0x40, leBytes 4 (engStatus s c e) ++ leBytes 4 (engWait k e) ++ leBytes 32 w ++
        leBytes 4 (vget k.ctr (insWaitA w).ctr).now.toNat ++ leBytes 4 (vget k.ctr (insWaitB w).ctr).now.toNat ++
        leBytes 4 (k.engine e).flight.length))
    let sw := if k.fetching then s.num (progAddr c (k.fetchIndex.toNat % 2048)) 32 else 0
    let seq := (0x40 + 10 * 0x40, leBytes 4 (seqStatus k) ++ leBytes 4 0 ++ leBytes 32 sw ++
      leBytes 4 (vget k.ctr (insWaitA sw).ctr).now.toNat ++ leBytes 4 (vget k.ctr (insWaitB sw).ctr).now.toNat)
    let ctrs := (List.finRange 64).flatMap (fun n =>
      let t := vget k.ctr n
      leBytes 4 (scValue t) ++ leBytes 4 (scWaiters s c n.val) ++ leBytes 4 (scLast t) ++ leBytes 4 0)
    let tals := ts.flatMap (fun t => leBytes 2 t.1 ++ leBytes 6 0 ++ t.2.bytes)
    let tail := blockBytes (fbWord k) 0 14 ++ leBytes 4 k.lg.ologWptr.toNat ++ leBytes 4 k.lg.ologDrops.toNat ++
      blockBytes (laneWord k) 0x50 10 ++ leBytes 4 (laneWord k 0)
    [(0, head)] ++ ents ++ [seq, (0x300, snapFlights k), (0x800, ctrs), (0xC00, tals), (0x3C00, tail)]

/-- Buffered flits of a port, by VC and class (R287). -/
def portFlits (s : State) (n : Fin 8) (i : Nat) : Nat :=
  ((s.fab.waiting.filter (fun w => w.port == n.val && (credIdx w.msg.vc w.cls).val == i)).map (fun w => w.msg.flits)).foldl (· + ·) 0

/-- The 64 devices for which the retransmit store holds most entries (R590). -/
def rtxBusiest (s : State) : List (Nat × Nat) :=
  let ds := s.fab.rtx.foldl (fun (l : List (Nat × Nat)) r =>
    aset l r.msg.dstDev.toNat ((aget l r.msg.dstDev.toNat).getD 0 + 1)) []
  (sortStable (fun a b => decide (b.2 < a.2)) ds).take 64

/-- Everything a snapshot latches (R590): offsets in the store and bytes. -/
def snapBytes (s : State) (at_ : DWord) (sources : BitVec 3) : List (Nat × List Byte) :=
  let head := leBytes 4 0x31504E53 ++ leBytes 4 (s.snap.seq + 1).toNat ++ leBytes 1 sources.toNat ++ leBytes 7 0 ++
    leBytes 8 at_.toNat ++ leBytes 8 (at_.toNat * 64) ++ leBytes 2 s.fab.devId.toNat ++ leBytes 1 s.pw.pstep.toNat ++
    leBytes 1 s.pw.wstate.toNat ++ s.ms.pmapA.toList.flatMap (fun e => leBytes 4 e.word)
  let cores := (List.finRange 96).flatMap (fun c => (snapCore s c).map (fun p => (0x1000 + c.val * 0x4000 + p.1, p.2)))
  let ports := (List.finRange 8).map (fun n =>
    let p := portOf s n
    (0x181000 + n.val * 0x400, leBytes 4 p.status ++
      (List.finRange 12).flatMap (fun i => leBytes 2 (portFlits s n i.val) ++ leBytes 2 (vget p.credits i)) ++
      leBytes 2 p.unacked ++ leBytes 1 p.txCount.toNat ++ leBytes 1 p.rxCount.toNat))
  let router := (0x183000, blockBytes (routerWord s) 0 8 ++ s.fab.bars.toList.flatMap (fun b =>
      leBytes 2 b.job.toNat ++ leBytes 1 (b2n b.used + 2 * b2n b.arrived + 4 * b.failed) ++ leBytes 1 b.parent.toNat ++
        leBytes 2 b.parentDev.toNat ++ leBytes 1 b.childMask.toNat ++ leBytes 1 b.childTracts.toNat ++
        leBytes 2 b.gen.toNat ++ leBytes 1 b.fromPorts.toNat ++ leBytes 1 b.fromTracts ++ leBytes 4 0) ++
      (rtxBusiest s).flatMap (fun d => leBytes 2 d.1 ++ leBytes 2 d.2))
  let stks := (List.finRange 6).map (fun n =>
    (0x189000 + n.val * 0x1000, leBytes 4 (s.stk n).status ++ leBytes (128 + 128 + 96 + 96) 0 ++
      leBytes 4 (stackWord s n 0x24)))
  let parts := (List.finRange 12).map (fun p =>
    (0x190000 + p.val * 0x400, blockBytes (s.part p).xc.word 0 24 ++ blockBytes (closureWord s p) 0 9 ++
      blockBytes (retWord s p) 0 64))
  let tail := (0x193000, blockBytes (powerWord s) 0 16 ++ blockBytes (clockWord s) 0 32 ++ blockBytes (thermalWord s) 0 5)
  [(0, head)] ++ cores ++ ports ++ [router] ++ stks ++ parts ++ [tail]

/-- SNAPSHOT_SAMPLE (R589, R594): the start of S. -/
def execSnapshotSample (s : State) : Out :=
  .next (match s.snap.sampleAt with
    | some c =>
      if s.chain < c ∨ s.clk.relocking then s
      else
        let s := s.modSnap (fun x => { x with
          latched := snapBytes s c x.sources, copying := x.sources, sources := 0, sampleAt := none, capturing := true
          next := 0 })
        (List.finRange 96).foldl (fun s c => if (s.core c).fb.policy = 2 then fbTrigger s c 0x04 else s) s
    | none => s)

/-- SNAPSHOT_COPY_DONE (R589): the store holds the snapshot; commands that joined it complete. -/
def execSnapshotCopyDone (s : State) : Out :=
  .next (if !s.snap.capturing then s
    else
      let x := s.snap
      let s := { s with mem := s.mem.clear 0x020000800000 0x200000 }
      let s := x.latched.foldl (fun s p => s.write (0x020000800000 + p.1) p.2 false) s
      let s := s.modSnap (fun y => { y with
        seq := x.seq + 1, capturing := false, latched := [], copying := 0, next := 0 })
      let s := record s 0x0703 15 0x7F (leBytes 4 (x.seq + 1).toNat ++ leBytes 1 x.copying.toNat)
      let s := if x.next = 0 ∨ x.hold then s
        else s.modSnap (fun y => { y with sources := x.next, sampleAt := some (s.chain + 2) })
      (s.kci.live.filter (fun c => c.opcode == 0x58)).foldl (fun s c =>
        if c.aux = 0 then finish s c kOK 0 (leBytes 4 (x.seq + 1).toNat) else setLive s { c with aux := 0 }) s)

/-! ### The millisecond of the thermal loop (R494, R510) -/

/-- TJ_LOOP (every 1 ms): the sensors report their means, in units of 0.125 °C; the primary agent runs the Tj
loop; the power controller copies its registers into a power record. -/
def execTjLoop (temps : List (BitVec 11)) (s : State) : Out :=
  let s := s.modTh (fun t => { t with
    sens := Vector.ofFn (fun i : Fin 112 =>
      let x := vget t.sens i
      if x.failed then x else { x with temp := temps.getD i.val x.temp }) })
  let s := noteMean s
  let s := if (primary? s).isNone ∨ s.th.tripped then s else setTarget (tjStep s)
  .next (record s 0x0501 15 0x7F (blockBytes (powerWord s) 0 12))

end Sys2Proof.Machine
end

