-- ==== Sys2Proof/Machine/Settings.lean ====
section
/-! DEFINITION.  Settings that commands change (R242 to R247, R372, R408, R458, R462), transactions over them
(R466 to R469), and how a command of a submission ring is checked and started (R452, R467). -/

namespace Sys2Proof.Machine

open Sys2Proof

/-! ### Memory system settings -/

/-- A plat entry from its four words (R242). -/
def PlatEnt.ofWords (l z p t : Nat) : PlatEnt :=
  { valid := bit l 0, stack := BitVec.ofNat 3 (field l 4 3), baseG := BitVec.ofNat 14 (field l 16 14)
    sizeG := BitVec.ofNat 14 (field z 0 14), part := BitVec.ofNat 4 (field p 0 4), rd := bit p 4, wr := bit p 5
    hostRd := bit p 6, hostWr := bit p 7, fabRd := bit p 8, fabWr := bit p 9, enc := bit p 16
    keySlot := BitVec.ofNat 5 (field p 20 5), tag := BitVec.ofNat 32 t }

/-- Reserved bits of the four words are zero. -/
def platRsvdOk (l z p : Nat) : Bool :=
  field l 1 3 == 0 && field l 7 9 == 0 && field l 30 2 == 0 && field z 14 18 == 0 && field p 10 6 == 0 &&
    field p 17 3 == 0 && field p 25 7 == 0

/-- Sets plat entry `i` in the staged copy, and at a commit count in the active copy too. -/
def setPlat (s : State) (i : Fin 1024) (e : PlatEnt) (both : Bool) : State :=
  { s with ms := { s.ms with
      platS := vset s.ms.platS i e, platA := if both then vset s.ms.platA i e else s.ms.platA } }

/-- An entry index of a command. -/
def entryOf? (n : Nat) : Option (Fin 1024) := if h : n < 1024 then some ⟨n, h⟩ else none

/-- Assigns the parcels of a mask to a partition, in the staged copy, and at a commit count in the active copy
too, where cores that change hands are switched (R98). -/
def setParcels (s : State) (p : Fin 12) (mask : Nat) (both : Bool) : State :=
  let new := Vector.ofFn (fun i : Fin 12 =>
    let e := vget s.ms.pmapS i
    if bit mask i.val then ⟨BitVec.ofNat 4 p.val, true⟩
    else if e.valid ∧ e.part.toNat = p.val then PmapEnt.reset else e)
  let s := { s with ms := { s.ms with pmapS := new } }
  if !both then s
  else
    let old := s.ms.pmapA
    let s := { s with ms := { s.ms with pmapA := new } }
    (List.finRange 96).foldl (fun s c =>
      if vget old (parcelOf c) = vget s.ms.pmapA (parcelOf c) then s else coreReassigned s c) s

/-! ### Closure and update settings -/

/-- The exchange-context registers +0x10 to +0x27 (R342), as STEP_POLICY_SET gives them. -/
def Xc.setNoise (x : Xc) (b : List Byte) : Xc :=
  let w := fun (o : Nat) => natAt b o 4
  { x with
    mode := BitVec.ofNat 2 (field (w 0) 0 2), sums := bit (w 0) 2, warmup := BitVec.ofNat 16 (field (w 0) 16 16)
    noiseB := BitVec.ofNat 32 (w 4), replicas := BitVec.ofNat 16 (field (w 8) 0 16)
    hold := BitVec.ofNat 16 (field (w 8) 16 16), beta := BitVec.ofNat 32 (w 12)
    mbMin := BitVec.ofNat 12 (field (w 16) 0 12), mbMax := BitVec.ofNat 12 (field (w 16) 12 12)
    cur := BitVec.ofNat 12 (field (w 20) 0 12), steerSlot := BitVec.ofNat 11 (field (w 20) 12 11)
    slotValid := bit (w 20) 23 }

/-- STEP_POLICY_SET in force (R372, R376): the policy, its byte 90 the copy of XC_NOISE [7:0] that R372 echoes,
the exchange context, the delayed-scaling slots.  The base commit follows with the first step (R351; DEDUCED, log 63). -/
def setPolicy (s : State) (p : Fin 12) (b : List Byte) : State :=
  let first := BitVec.ofNat 32 (natAt b 92 4)
  let s := s.modPart p (fun q => { q with
    dsBase := some (BitVec.ofNat 48 (natAt b 32 6)), xc := q.xc.setNoise (bytesAt b 128 24)
    cl := { q.cl with
      policy := some (bytesAt b 0 90 ++ bytesAt b 128 1 ++ bytesAt b 91 37)
      nextStep := first, first := true, commits := 0, replays := 0 } })
  dsFresh s p first

/-- UPD_GROUP_SET in force (R408). -/
def setGroup (s : State) (p : Fin 12) (c : Cmd) : State :=
  let v := c.b 36 4
  modUc s p (fun u => { u with
    list := BitVec.ofNat 48 (c.b 16 6), count := BitVec.ofNat 9 (c.b 22 2), area := BitVec.ofNat 48 (c.b 24 6)
    peers := BitVec.ofNat 48 (c.b 30 6), period := BitVec.ofNat 16 (field v 0 16), member := BitVec.ofNat 3 (field v 16 3)
    role := BitVec.ofNat 2 (field v 19 2), members := BitVec.ofNat 4 (field v 21 4) })

/-! ### Power and latency settings -/

/-- POWER_LIMIT_SET in force (R26, R240). -/
def setPower (s : State) (c : Cmd) : State :=
  let m := c.b 19 1
  limitsTook (s.modPw (fun x => { x with
    hostPl := if bit m 0 then BitVec.ofNat 9 (c.b 16 2) else x.hostPl
    hostTh1 := if bit m 1 then BitVec.ofNat 7 (c.b 18 1) else x.hostTh1 }))

/-- PSTEP_POLICY_SET in force (R501). -/
def setSteps (s : State) (c : Cmd) : State :=
  applyMstepPolicy (s.modPw (fun x => { x with
    ceil := BitVec.ofNat 4 (c.b 16 1), floor := BitVec.ofNat 4 (c.b 17 1), mstepPol := BitVec.ofNat 2 (c.b 18 1) }))

/-- R508: a device in a state deeper than its tolerance now allows wakes. -/
def wakeCheck (s : State) : State :=
  if deepestW s < s.pw.wstate.toNat ∧ !s.th.tripped then
    { s.modPw (fun x => { x with exiting := true }) with
      th := { s.th with kwActive := false, heat := 0, kwLimited := false } }
  else s

/-- LATTOL_SET in force (R473). -/
def setTol (s : State) (c : Cmd) : State :=
  wakeCheck (s.modFn c.fn (fun x => { x with tolUs := BitVec.ofNat 32 (c.b 16 4), allowW4 := bit (c.b 20 1) 0 }))

/-! ### Fabric settings (R462) -/

/-- R281: the FEC mode that a port runs in once the handshakes that this side has asked for are done. -/
def Port.willBeStrong (p : Port) : Bool :=
  let own := ((p.hs.filter (fun h => h.mine)).map Hs.code ++ p.later).filter (fun c => c == 3 || c == 4)
  match own.getLast? with | some c => c == 4 | none => p.strong

/-- A write of PORT_CFG (R281, R312): a port whose ENABLE goes to 0 is held down; a link that is trained is switched to
the FEC mode selected, AUTO starting in light mode. -/
def writePortCfg (s : State) (n : Fin 8) (v : Nat) : State :=
  let on := bit v 2
  let s := modPort s n (fun p => { p with
    fec := if n.val < 6 then BitVec.ofNat 2 (field v 0 2) else p.fec, enable := on
    retrySwitch := BitVec.ofNat 8 (field v 16 8), strong := p.strong && p.trained })
  let p := portOf s n
  if !on then (if p.state = 2 then s else linkDown s n)
  else if !p.trained ∨ 6 ≤ n.val then s
  else if p.fec = 1 ∧ p.willBeStrong = false then askSwitch s n 4
  else if p.fec ≠ 1 ∧ p.willBeStrong = true then askSwitch s n 3 else s

/-- R273: an ID is assigned; each trained torus port exchanges IDs with its partner, and is fenced until the partner has reported
the neighbour's. -/
def setIdentity (s : State) (id lx ly lz : Nat) : State :=
  let s := s.modFab (fun f => { f with
    devId := BitVec.ofNat 16 id, idValid := true, lenX := BitVec.ofNat 4 lx, lenY := BitVec.ofNat 4 ly
    lenZ := BitVec.ofNat 4 lz })
  ([0, 1, 2, 3, 4, 5] : List (Fin 8)).foldl (fun s n =>
    if !(portOf s n).trained then s
    else
      let s := sendHs s n 5 0
      judgePeer s n (if (portOf s n).peerKnown then some (portOf s n).peerId else none)) s

/-- A barrier context as FABRIC_CONFIG gives it (R308): RESET sets GEN to 0 and lets a failed context run. -/
def Barrier.config (b : Barrier) (c : Cmd) : Barrier :=
  let kind := c.b 20 1
  let b := { b with
    used := true, job := BitVec.ofNat 16 (c.b 18 2)
    parent := if kind = 0 then 0xF else BitVec.ofNat 4 (c.b 21 1)
    parentDev := BitVec.ofNat 16 (c.b 22 2), childMask := BitVec.ofNat 6 (c.b 24 1)
    childTracts := BitVec.ofNat 7 (c.b 25 1) }
  if bit (c.b 26 1) 0 then
    { b with gen := 0, failed := 0, arrived := false, fromPorts := 0, fromTracts := 0, rootDevs := [] } else b

/-- FABRIC_CONFIG in force (R462). -/
def setFabric (s : State) (c : Cmd) : State :=
  let p := partOf? c.part
  match c.b 16 1 with
  | 1 => setIdentity s (c.b 17 2) (c.b 19 1) (c.b 20 1) (c.b 21 1)
  | 2 => match p with
    | some p => s.modPart p (fun q => { q with job := some (BitVec.ofNat 16 (c.b 17 2)) })
    | none => s
  | 3 => s.modFab (fun f => { f with
      gapUs := c.b 18 4, resendUs := c.b 22 4, resendLimit := c.b 26 1, holdUs := c.b 27 4, barUs := c.b 31 4 * 1000 })
  | 4 => s.modFab (fun f => { f with uplink := {
      prefix24 := BitVec.ofNat 24 (c.b 17 3), ipv4 := BitVec.ofNat 32 (c.b 20 4), ipv6 := BitVec.ofNat 64 (c.b 24 8)
      udpPort := BitVec.ofNat 16 (c.b 32 2), udp := decide (c.b 34 1 ≠ 0), useV6 := decide (c.b 34 1 = 2)
      mtu9000 := decide (c.b 35 1 = 1)
      -- REQ, RSP, COLL, CTRL in the command; REQ, COLL, RSP, CTRL in the state
      pfc := #v[BitVec.ofNat 3 (c.b 36 1), BitVec.ofNat 3 (c.b 38 1), BitVec.ofNat 3 (c.b 37 1), BitVec.ofNat 3 (c.b 39 1)] } })
  | 5 => modBar s ⟨c.b 17 1 % 16, Nat.mod_lt _ (by decide)⟩ (fun b => b.config c)
  | 6 => match p with
    | some p => modXc s p (fun x => { x with slots := BitVec.ofNat 13 (c.b 17 2), stageBase := BitVec.ofNat 48 (c.b 24 6) })
    | none => s
  | 7 => match portNum? (c.b 17 1) with | some n => writePortCfg s n (c.b 18 4) | none => s
  | _ => s

/-- An in-tract route entry (R462). -/
def RouteEnt.ofBytes (b : List Byte) : RouteEnt :=
  ⟨bit (natAt b 0 1) 0, BitVec.ofNat 3 (field (natAt b 0 1) 1 3), BitVec.ofNat 3 (field (natAt b 0 1) 4 3)⟩
/-- A tract route entry (R462). -/
def TractEnt.ofBytes (b : List Byte) : TractEnt :=
  ⟨bit (natAt b 0 1) 0, BitVec.ofNat 16 (natAt b 2 2), bit (natAt b 1 1) 0, BitVec.ofNat 16 (natAt b 4 2), bit (natAt b 1 1) 1⟩

/-- ROUTE_TABLE_SET: the entries in the staged copy, and at a commit count in force (R292, R306). -/
def setRoutes (s : State) (c : Cmd) (both : Bool) : State :=
  let first := c.b 17 2
  let k := c.b 19 2
  s.modFab (fun f =>
    let rS := Vector.ofFn (fun i : Fin 512 =>
      if c.b 16 1 = 0 ∧ first ≤ i.val ∧ i.val < first + k then .ofBytes (bytesAt c.host (4 * (i.val - first)) 4)
      else vget f.routeS i)
    let tS := Vector.ofFn (fun i : Fin 128 =>
      if c.b 16 1 = 1 ∧ first ≤ i.val ∧ i.val < first + k then .ofBytes (bytesAt c.host (8 * (i.val - first)) 8)
      else vget f.tractS i)
    { f with routeS := rS, tractS := tS, routeA := if both then rS else f.routeA, tractA := if both then tS else f.tractA })

/-- ROUTE_TABLE_APPLY (R292, R306): the staged tables come into force at the chain count; commands that waited
for it complete. -/
def execRouteTableApply (s : State) : Out :=
  .next (match s.fab.routeDue with
    | none => s
    | some c =>
      if c ≤ s.chain ∧ !s.clk.relocking then
        let s := s.modFab (fun f => { f with routeA := f.routeS, tractA := f.tractS, routeDue := none })
        (s.kci.live.filter (fun d => d.opcode == 0x49)).foldl (fun s d => finish s d kOK 0 []) s
      else s)

/-! ### A staged command's effect, and its undoing (R467, R468) -/

/-- What a command that may be staged changes, at a commit count. -/
def settle (s : State) (c : Cmd) : State :=
  match c.opcode with
  | 0x12 => match c.scope s with | some p => setParcels s p (c.b 16 2) true | none => s
  | 0x13 => match entryOf? (c.b 32 2) with
    | some i => setPlat s i (.ofWords (c.b 16 4) (c.b 20 4) (c.b 24 4) (c.b 28 4)) true
    | none => s
  | 0x14 => match entryOf? (c.b 32 2) with | some i => setPlat s i .reset true | none => s
  | 0x2A => match c.scope s with | some p => setPolicy s p c.host | none => s
  | 0x30 => match c.scope s with | some p => setGroup s p c | none => s
  | 0x40 => setPower s c
  | 0x41 => setSteps s c
  | 0x42 => setTol s c
  | 0x48 => setFabric s c
  | 0x49 => setRoutes s c true
  | _ => s

/-- R468: a unit returns to its settings from before the commit count. -/
def restore (v : Saved) (s : State) (c : Cmd) : State :=
  match c.opcode with
  | 0x12 =>
    let old := s.ms.pmapA
    let back := fun (cur was : Vector PmapEnt 12) => Vector.ofFn (fun i : Fin 12 =>
      let mine := fun (e : PmapEnt) => e.valid && decide (some e.part.toNat = (c.scope s).map Fin.val)
      if bit (c.b 16 2) i.val ∨ mine (vget was i) ∨ mine (vget cur i) then vget was i else vget cur i)
    let s := { s with ms := { s.ms with pmapS := back s.ms.pmapS v.ms.pmapS, pmapA := back s.ms.pmapA v.ms.pmapA } }
    (List.finRange 96).foldl (fun s k =>
      if vget old (parcelOf k) = vget s.ms.pmapA (parcelOf k) then s else coreReassigned s k) s
  | 0x13 => match entryOf? (c.b 32 2) with
    | some i => { s with ms := { s.ms with
        platS := vset s.ms.platS i (vget v.ms.platS i), platA := vset s.ms.platA i (vget v.ms.platA i) } }
    | none => s
  | 0x14 => match entryOf? (c.b 32 2) with
    | some i => { s with ms := { s.ms with
        platS := vset s.ms.platS i (vget v.ms.platS i), platA := vset s.ms.platA i (vget v.ms.platA i) } }
    | none => s
  | 0x2A => match c.scope s with
    | some p => s.modPart p (fun q =>
        let o := vget v.parts p
        { q with
          dsBase := o.dsBase
          xc := { q.xc with
            mode := o.xc.mode, sums := o.xc.sums, warmup := o.xc.warmup, noiseB := o.xc.noiseB
            replicas := o.xc.replicas, hold := o.xc.hold, beta := o.xc.beta, mbMin := o.xc.mbMin
            mbMax := o.xc.mbMax, cur := o.xc.cur, steerSlot := o.xc.steerSlot, slotValid := o.xc.slotValid }
          cl := { q.cl with
            policy := o.cl.policy, nextStep := o.cl.nextStep, first := o.cl.first, commits := o.cl.commits, replays := o.cl.replays } })
    | none => s
  | 0x30 => match c.scope s with
    | some p => modUc s p (fun u =>
        let o := (vget v.parts p).uc
        { u with
          list := o.list, count := o.count, area := o.area, peers := o.peers, period := o.period
          member := o.member, role := o.role, members := o.members })
    | none => s
  | 0x40 => s.modPw (fun x => { x with hostPl := v.pw.hostPl, hostTh1 := v.pw.hostTh1 })
  | 0x41 => applyMstepPolicy (s.modPw (fun x => { x with
      ceil := v.pw.ceil, floor := v.pw.floor, mstepPol := v.pw.mstepPol }))
  | 0x42 => wakeCheck (s.modFn c.fn (fun x => { x with
      tolUs := (vget v.fns c.fn).tolUs, allowW4 := (vget v.fns c.fn).allowW4 }))
  | 0x48 =>
    let p := partOf? c.part
    match c.b 16 1 with
    | 2 => match p with | some p => s.modPart p (fun q => { q with job := (vget v.parts p).job }) | none => s
    | 3 => s.modFab (fun f => { f with
        gapUs := v.fab.gapUs, resendUs := v.fab.resendUs, resendLimit := v.fab.resendLimit, holdUs := v.fab.holdUs
        barUs := v.fab.barUs })
    | 4 => s.modFab (fun f => { f with uplink := v.fab.uplink })
    | 5 => modBar s ⟨c.b 17 1 % 16, Nat.mod_lt _ (by decide)⟩ (fun _ =>
        vget v.fab.bars ⟨c.b 17 1 % 16, Nat.mod_lt _ (by decide)⟩)
    | 6 => match p with
      | some p => modXc s p (fun x => { x with
          slots := (vget v.parts p).xc.slots, stageBase := (vget v.parts p).xc.stageBase })
      | none => s
    | 7 => match portNum? (c.b 17 1) with
      | some n =>
        let o := vget v.fab.ports n
        writePortCfg s n (o.fec.toNat + 4 * b2n o.enable + 65536 * o.retrySwitch.toNat)
      | none => s
    | _ => s
  | 0x49 => s.modFab (fun f => { f with
      routeS := v.fab.routeS, routeA := v.fab.routeA, tractS := v.fab.tractS, tractA := v.fab.tractA })
  | _ => s

/-- The settings that a revert returns to. -/
def State.saved (s : State) : Saved := ⟨s.ms, s.fab, s.parts, s.kci.fns, s.pw⟩

/-! ### Transactions (R466 to R469) -/

/-- The open or committing transaction of a function. -/
def txnOf (s : State) (f : Fin 13) : Option Txn := s.kci.txns.find? (fun t => decide (t.fn = f))

/-- Changes the transaction of a function. -/
def modTxn (s : State) (f : Fin 13) (g : Txn → Txn) : State :=
  s.modKci (fun k => { k with txns := k.txns.map (fun t => if t.fn = f then g t else t) })

/-- RESULT of a command that has taken effect (R458). -/
def okResult (s : State) (c : Cmd) : List Byte :=
  match c.opcode with
  | 0x40 => leBytes 2 (plSust s) ++ leBytes 1 (effTh1 s)
  | 0x42 => leBytes 1 (deepestW s)
  | _ => []

/-- A transaction resolves: every staged command completes, then its TXN_COMMIT. -/
def endTxn (s : State) (t : Txn) (status : Cmd → Nat) (commit detail : Nat) (result : List Byte) : State :=
  let s := s.modKci (fun k => { k with txns := k.txns.filter (fun u => decide (u.fn ≠ t.fn)) })
  let s := t.staged.foldl (fun s c => finish s c (status c) 0 (if status c = kOK then okResult s c else [])) s
  match t.commit with
  | some c => finish s c commit detail result
  | none => s

/-- R468, R248: every unit that a transaction has switched returns to its settings from before; memory whose key so changes
reads as it is stored. -/
def unswitch (s : State) (t : Txn) : State :=
  match t.saved with
  | some v => rekey s (t.staged.reverse.foldl (restore v) s)
  | none => s

/-- R468: the P-step that a staged PSTEP_POLICY_SET makes faster than the present one: its FLOOR. -/
def stepRaise (s : State) (t : Txn) : Option Nat :=
  (t.staged.filter (fun c => c.opcode == 0x41)).getLast?.bind (fun c =>
    if c.b 17 1 < s.pw.pstep.toNat then some (c.b 17 1) else none)

/-- R468: prepare stages the voltage raise that a P-step increase needs. -/
def stageRaise (s : State) (t : Txn) : State :=
  match stepRaise s t with
  | some p => if s.pw.move.isSome ∨ s.th.tripped then s else raiseVlog s (vlogRequest s p)
  | none => s

/-- A raise that has been staged is taken back. -/
def unraise (s : State) (t : Txn) : State :=
  if t.phase = 0 ∨ (stepRaise s t).isNone ∨ s.pw.move.isSome ∨ s.th.tripped then s
  else writeVlog s (vlogRequest s s.pw.pstep.toNat)

/-- R466, R469, R456: a transaction is rolled back; what it has staged or switched already is returned. -/
def rollBack (s : State) (t : Txn) (status : Cmd → Nat) (commit : Nat) : State :=
  endTxn (unraise (unswitch s t) t) t status commit 0 []

/-- TXN_TIMEOUT (R466): 10 s after TXN_BEGIN without a TXN_COMMIT. -/
def execTxnTimeout (f : Fin 13) (s : State) : Out :=
  .next (match txnOf s f with
    | some t => if t.phase = 0 ∧ 10 * secTicks ≤ s.since t.born then rollBack s t (fun _ => kROLLED) kROLLED else s
    | none => s)

/-- TXN_SWITCH (R468): at the commit count every unit switches; memory whose key changes reads as it is stored (R248). -/
def execTxnSwitch (f : Fin 13) (s : State) : Out :=
  .next (match txnOf s f with
    | some t =>
      if t.phase = 1 ∧ t.c ≤ s.chain ∧ !s.clk.relocking then
        modTxn (rekey s (t.staged.foldl settle s)) f (fun t => { t with phase := 2, saved := some s.saved })
      else s
    | none => s)

/-- SEQ of a handle (R449). -/
def seqOf (h : Word) : Nat := h.toNat % 2 ^ 27

/-- R246: a staged PLAT_UNMAP waits for requests that were admitted under the entry it removed. -/
def unmapWaits (s : State) (t : Txn) : Bool :=
  t.staged.any (fun c => c.opcode == 0x14 && match t.saved, entryOf? (c.b 32 2) with
    | some v, some i => behindRequest s (vget v.ms.platA i).range.1 (vget v.ms.platA i).range.2
    | _, _ => false)

/-- TXN_VERIFY_REPORT (R468, R469): the units report; `fault` names the staged command whose unit failed.  The report is not
complete while an admitted request of an entry that PLAT_UNMAP removed waits (R246). -/
def execTxnVerifyReport (f : Fin 13) (fault : Option Nat) (s : State) : Out :=
  .next (match txnOf s f with
    | some t =>
      if t.phase ≠ 2 ∨ s.kci.paused ∨ s.kci.cpFault then s
      else match fault.bind (fun i => t.staged[i]?) with
      | some c => modTxn s f (fun t => { t with phase := 3, r := s.chain + 64, culprit := c.handle })
      | none =>
        if unmapWaits s t then s
        else
        let s := t.staged.foldl (fun s c =>
          if c.opcode = 0x14 ∧ bit (c.b 34 1) 0 then
            match t.saved, entryOf? (c.b 32 2) with
            | some v, some i => zeroRange s (vget v.ms.platA i).range.1 (vget v.ms.platA i).range.2
            | _, _ => s
          else s) s
        endTxn s t (fun _ => kOK) kOK 0 (leBytes 8 t.c.toNat ++ leBytes 8 0)
    | none => s)

/-- TXN_REVERT (R468): at the revert count every unit returns to its settings from before. -/
def execTxnRevert (f : Fin 13) (s : State) : Out :=
  .next (match txnOf s f with
    | some t =>
      if t.phase = 3 ∧ t.r ≤ s.chain ∧ !s.clk.relocking then
        endTxn (unraise (unswitch s t) t) t (fun _ => kROLLED) kROLLED (seqOf t.culprit) (leBytes 8 t.c.toNat ++ leBytes 8 t.r.toNat)
      else s
    | none => s)

/-! ### Starting a command (R452, R467) -/

/-- What fails a command: status, DETAIL, RESULT. -/
abbrev Fail := Nat × Nat × List Byte

/-- The state that the transaction's earlier staged commands would leave (R467); its transaction keeps the settings
that are in force, which R243 looks at. -/
def virtual (s : State) (c : Cmd) : State :=
  if c.txn then match txnOf s c.fn with
    | some t => modTxn (t.staged.foldl settle s) c.fn (fun t => { t with saved := some s.saved })
    | none => s
  else s

/-- The checks of R452 in their order; `body` gives steps 4 and 5 of the command itself. -/
def firstFail (body : State → Cmd → Option Fail) (s : State) (c : Cmd) : Option Fail :=
  match headerFault s c with
  | some (st, d) => some (st, d, [])
  | none => match txnFault s c with
  | some (st, d) => some (st, d, [])
  | none => match deedFault s c with
  | some st => some (st, 0, [])
  | none =>
    if lockedOut s c then some (kCONFLICT, 0, [])
    else
      let busy := (s.kci.dpBusy && needsDp c) || partBusy s c
      match body (virtual s c) c with
      | some (st, d, r) => some (st, d, r)
      | none =>
        if busy then some (kBUSY, 0, [])
        else match (if c.txn then txnOf s c.fn else none) with
          | some t => if 64 ≤ t.staged.length then some (kBADARG, 1, []) else none
          | none => none

/-- A command that has passed its checks is staged, or acts. -/
def accept (act : State → Cmd → State) (s : State) (c : Cmd) : State :=
  let s := if c.ack then post s c false kPENDING 0 [] else s
  if c.txn then modTxn s c.fn (fun t => { t with staged := t.staged ++ [c] }) else act s c

/-- The host bytes that a command reads (R448): those its DPTR names. -/
def hostNeed (c : Cmd) : Nat × Nat :=
  match c.opcode with
  | 0x18 => if c.b 40 1 = 0 then (c.b 16 8, c.b 32 8) else (0, 0)
  | 0x20 => (c.b 16 8, c.b 24 4)
  | 0x28 => (c.b 24 8, 16 * c.b 20 1)
  | 0x2A => (c.b 16 8, 192)
  | 0x31 => (c.b 16 8, 64 * c.b 24 2)
  | 0x32 => (c.b 16 8, 64 * c.b 24 2)
  | 0x33 => (c.b 16 8, 64 * c.b 24 2)
  | 0x49 => (c.b 24 8, (if c.b 16 1 = 0 then 4 else 8) * c.b 19 2)
  | 0x50 => (c.b 24 8, c.b 32 4)
  | 0x70 => (c.b 16 8, c.b 24 4)
  | 0x78 => (c.b 24 8, c.b 32 4)
  | _ => (0, 0)

/-- A row of a command: where the ring's head is a command that `mine` names, it is fetched, checked and started;
`note` is what a refusal leaves besides its completion; `host` is what the host has written to its memory before. -/
def runRow (mine : Cmd → Bool) (body : State → Cmd → Option Fail) (note : State → Cmd → Fail → State)
    (act : State → Cmd → State) (f : Fin 13) (r : Fin 32) (host : List (DWord × List Byte)) (s : State) : Out :=
  .next (match ringHead s f r with
    | none => s
    | some c =>
      if !mine c then s
      else
        let s := host.foldl (fun s w => s.hostWrite w.1.toNat w.2) s
        let c := { c with host := s.hostMem.readN (hostNeed c).1 (hostNeed c).2 }
        let s := popRing s f r
        match firstFail body s c with
        | some w => pump (post (note s c w) c true w.1 w.2.1 w.2.2) f r
        | none => pump (accept act s c) f r)

/-- A row for one command code. -/
def runCode (o : Nat) (body : State → Cmd → Option Fail) := runRow (fun c => c.opcode == o) body (fun s _ _ => s)

end Sys2Proof.Machine
end

