-- ==== Sys2Proof/Machine/Reset.lean ====
section
/-! DEFINITION.  Resets and power-up (21 R595 to R607, R613, R620): the reset inputs, the boots, the partition
reset (R602), a function's reset (R456), the end of a loss of power (R568). -/

namespace Sys2Proof.Machine

open Sys2Proof

/-- Changes the reset block. -/
def State.modRst (s : State) (f : Rst → Rst) : State := { s with rst := f s.rst }

/-! ### A function's reset (R456) -/

/-- Rings gone, transaction rolled back, unstarted commands dropped, later completions discarded.  A transaction
that has switched already runs to its verification. -/
def functionReset (s : State) (f : Fin 13) : State :=
  let gone := fun (c : Cmd) => if c.fn = f then { c with ring := none } else c
  let s := s.modFn f (fun x => { x with
    enable := false, rings := Vector.replicate 32 none, held := [], lostOwed := false })
  let s := s.modKci (fun k => { k with
    live := k.live.map gone
    txns := k.txns.map (fun t => { t with staged := t.staged.map gone, commit := t.commit.map gone }) })
  match txnOf s f with
  | some t => if t.phase ≤ 1 then rollBack s t (fun _ => kROLLED) kROLLED else s
  | none => s

/-- FUNCTION_LEVEL_RESET (R456): a function-level reset, or a write of 0 to ENABLE. -/
def execFunctionLevelReset (f : Fin 13) (s : State) : Out := .next (functionReset s f)

/-! ### The reset of a partition (R464, R602) -/

/-- A command of a partition: of its VF, or of PF0 with the partition as its scope. -/
def ofPart (s : State) (p : Fin 12) (c : Cmd) : Bool :=
  decide (c.fn = vfOf p) || (partScoped c && decide (c.scope s = some p))

/-- Unfinished commands of the partition's VF that have been fetched and not started. -/
def dropFetched (s : State) (f : Fin 13) : State :=
  (List.finRange 32).foldl (fun s r => match vget (s.fn f).rings r with
    | none => s
    | some q =>
      let s := s.modRing f r (fun q => { q with fetched := [] })
      q.fetched.foldl (fun s c => post s c true kABORTED 0 []) s) s

/-- R602, step 1: the handles of a partition complete with ABORTED, but for the one command `but`. -/
def abortHandles (s : State) (p : Fin 12) (but : Cmd → Bool) : State :=
  let s := s.kci.txns.foldl (fun s t =>
    if t.fn = vfOf p ∨ (t.phase ≤ 1 ∧ t.staged.any (fun c => ofPart s p c)) then
      rollBack s t (fun c => if c.fn = vfOf p then kABORTED else kROLLED) (if t.fn = vfOf p then kABORTED else kROLLED)
    else s) s
  let s := (s.kci.live.filter (fun c => ofPart s p c && !but c)).foldl (fun s c => finish s c kABORTED 0 []) s
  dropFetched s (vfOf p)

/-- R602, step 3: a core stops at once; what is in flight leaves its writes undefined (R215). -/
def cutCore (s : State) (c : Fin 96) : State :=
  let rs := (s.core c).eng.toList.flatMap (fun e => e.flight.flatMap (fun f => f.writes))
  (abortKernel (s.spoil rs) c).modCore c (fun k => { k with
    fetching := false, halted := false, stopping := false, stopped := true, blockCause := 3
    eng := k.eng.map (fun e => { e with queue := [], flight := [] }) })

/-- R602, steps 1 to 3: the partition enters reset. -/
def beginPartReset (s : State) (p : Fin 12) (but : Cmd → Bool) : State :=
  let s := abortHandles s p but
  let s := s.modPart p (fun q => { q with underReset := true })
  let s := match (s.part p).job with
    | some j => s.modFab (fun f => { f with
        rtx := f.rtx.filter (fun r => decide (r.msg.job ≠ j)), fwWait := f.fwWait.filter (fun x => decide (x.2.job ≠ j)) })
    | none => s
  let s := pumpSends ((coresOf s p).foldl cutCore s)
  s.modRst (fun r => { r with partCount := satAdd r.partCount 1 })

/-- R432: cores that wait to retire do so when the steps that held their work are dropped. -/
def retireLeaving (s : State) (p : Fin 12) : State :=
  ((s.part p).cl.slots.toList.flatMap (fun x => x.leaving)).foldl (fun s l => match coreOf? l.1 with
    | some c => if l.2 then (fun t => (liveOf t 0x53 p).foldl (fun t d =>
        if d.b 16 1 = c.val then finish t d kOK 0 [] else t) t) (retireCore s c) else s
    | none => s) s

/-- R602, steps 5 and 6: the partition leaves reset. -/
def endPartReset (s : State) (p : Fin 12) : State :=
  let s := (coresOf s p).foldl contextSwitch (retireLeaving s p)
  s.modPart p (fun q => { q with
    underReset := false
    xc := { q.xc with attempt0 := 0, attempt1 := 0, active := false, staged := [], warmed := 0, mNext := none }
    uc := { q.uc with state := 0, groups := [], blocks := [], due := false, revert := false }
    cl := { q.cl with
      slots := Vector.replicate 2 .reset, ret := Vector.replicate 16 .reset, gate := 0, updDone := [], evalDone := []
      evalWait := 0, exports := 0 } })

/-- R464, steps 4 to 6: keys and ranges of a partition are zeroised, its parcels freed, its VF unbound;
the rings of the VF stay, since R442 lets an unbound VF issue DEV_QUERY. -/
def destroyPart (s : State) (p : Fin 12) : State :=
  let mine := fun (e : PlatEnt) => e.valid && decide (e.part.toNat = p.val)
  let ranges := ((s.ms.platA.toList ++ s.ms.platS.toList).filter mine).map PlatEnt.range
  let s := { s with ms := { s.ms with
    platS := s.ms.platS.map (fun e => if mine e then PlatEnt.reset else e)
    platA := s.ms.platA.map (fun e => if mine e then PlatEnt.reset else e) } }
  let s := ranges.foldl (fun s r => zeroRange s r.1 r.2) s
  let lost := fun (n : Nat) => if h : n < 32 then
    (vget s.sec.slots ⟨n, h⟩).used && decide ((vget s.sec.slots ⟨n, h⟩).owner.toNat = p.val) else false
  let s := s.modSec (fun x => { x with
    slots := x.slots.map (fun k => if k.used ∧ k.owner.toNat = p.val then KeySlot.reset else k)
    txFrames := x.txFrames.filter (fun t => !lost t.1.2), rxWins := x.rxWins.filter (fun w => !lost w.slot) })
  let own := fun (e : PmapEnt) => e.valid && decide (e.part.toNat = p.val)
  let cs := coresOf s p
  let s := { s with ms := { s.ms with
    pmapS := s.ms.pmapS.map (fun e => if own e then PmapEnt.reset else e)
    pmapA := s.ms.pmapA.map (fun e => if own e then PmapEnt.reset else e) } }
  let s := cs.foldl coreReassigned s
  s.setPart p .reset

/-- PARTITION_RESET_DRAINED (R602 step 4, R464): every stack request of the partition has completed. -/
def execPartitionResetDrained (p : Fin 12) (s : State) : Out :=
  .next (if !(s.part p).underReset then s
    else
      let s := endPartReset s p
      match (liveOf s 0x11 p).head? with
      | some c => finish (destroyPart s p) c kOK 0 []
      | none => s)

/-- Cores that a CORE_MASK of twelve bytes at `off` names. -/
def maskCores (c : Cmd) (off : Nat) : List (Fin 96) := (List.finRange 96).filter (fun k => bit (c.b off 12) k.val)

/-- PROG_STOP_TIMEOUT (R602): a PROG_STOP has left a core short of STOPPED for 10 ms. -/
def execProgStopTimeout (p : Fin 12) (s : State) : Out :=
  .next (match (liveOf s 0x22 p).find? (fun c => decide (10 * msTicks ≤ s.since c.due)) with
    | none => s
    | some c => match (maskCores c 16).find? (fun k => !(s.core k).stopped) with
      | none => s
      | some k => beginPartReset (finish s c kFAULT k.val []) p (fun _ => false))

/-! ### The control domain (R596, R599 to R601) -/

/-- What a reset of the control domain clears (R601, R603); `link` tells that the PCIe link and its configuration
space are kept. -/
def controlReset (s : State) (link : Bool) : State :=
  let s := zeroiseStore s
  let s := s.modKci (fun k => { k with
    fns := k.fns.map (fun x =>
      if link then { Func.reset with msixMask := x.msixMask, msixAddr := x.msixAddr, msixData := x.msixData } else Func.reset)
    live := [], txns := [], paused := false, bar2Log := if link then k.bar2Log else Kci.reset.bar2Log })
  let s := s.modSec (fun x => { x with
    selftestOk := false, error := false, nonapproved := false, debugUnlocked := false, running := .none, act := none
    utcBase := 0, tsBase := 0, timeValid := false, sb := .reset, bootPending := false, flush := none })
  let s := s.modMg (fun m => { m with ends := vset m.ends 2 .reset, p5 := vset m.p5 1 .reset })
  s.modRst (fun r => { r with stage := 0, ctlCount := satAdd r.ctlCount 1 })

/-- A bank holds an image that the boot ROM accepts (R549). -/
def bankOk (s : State) (b : Fin 2) : Bool :=
  let im := vget s.sec.banks b
  im.valid && decide (s.sec.svn.toNat ≤ im.svn.toNat)

/-- The boot ROM of the security block (R549, R552, R562, R599, R600): self-tests, the banks, the keys.  STAGE is 1
after a failed self-test, 2 once an image is verified, 3 with both banks failed. -/
def bootRom (s : State) (selftest : Bool) : State :=
  if !selftest then (s.modSec (fun x => { x with error := true })).modRst (fun r => { r with stage := 1 })
  else
    let s := s.modSec (fun x => { x with selftestOk := true })
    let a : Fin 2 := if s.sec.bootActive = 0 then 0 else 1
    let b : Fin 2 := if a = 0 then 1 else 0
    match (if bankOk s a then some a else if bankOk s b then some b else none) with
    | none => s.modRst (fun r => { r with stage := 3 })
    | some k =>
      let s := s.modSec (fun x => { x with bank := BitVec.ofNat 1 k.val, running := vget x.banks k })
      let s := s.modSec (fun x => { x with
        dik := some (Config.hmac384 Config.uds (ascii "DIK")), aak := some (deriveAak s) })
      s.modRst (fun r => { r with stage := 2, bank := BitVec.ofNat 1 k.val })

/-- R601: before READY, firmware stops the cores of every partition, drops unclosed steps without a record, clears
the step policies, and unmaps and zeroes the encrypted ranges. -/
def afterControlReset (s : State) : State :=
  let s := (List.finRange 12).foldl (fun s p =>
    if !(s.part p).made then s
    else
      let s := (coresOf s p).foldl haltCore (retireLeaving s p)
      s.modPart p (fun q => { q with
        xc := { q.xc with active := false }
        uc := { q.uc with state := 0, groups := [], blocks := [], due := false }
        dsBase := none
        cl := { q.cl with
          slots := Vector.replicate 2 .reset, ret := Vector.replicate 16 .reset, gate := 0, policy := none
          updDone := [], evalDone := [], evalWait := 0, exports := 0 } })) s
  let ranges := ((s.ms.platA.toList ++ s.ms.platS.toList).filter (fun e => e.valid && e.enc)).map PlatEnt.range
  let off := fun (v : Vector PlatEnt 1024) => v.map (fun e => if e.valid ∧ e.enc then PlatEnt.reset else e)
  ranges.foldl (fun s r => zeroRange s r.1 r.2)
    { s with ms := { s.ms with platS := off s.ms.platS, platA := off s.ms.platA } }

/-- R604: with firmware and data plane running, keys and stacks are zeroised after a reset of the data plane, and
DP_BUSY clears. -/
def dataReady (s : State) : State :=
  if s.rst.dpUp ∧ 4 ≤ s.rst.stage.toNat then
    let s := if s.kci.dpBusy then zeroRange (zeroiseKeys s) 0 (6 * stackSpan) else s
    (s.modKci (fun k => { k with dpBusy := false })).modRst (fun r => { r with stage := 5 })
  else s

/-- R423: the base pack that comes with the firmware is active where no other pack is. -/
def installBase (s : State) : State :=
  if s.serv.packs.toList.any (fun k => decide (k.state = 2)) then s
  else s.modServ (fun v => { v with packs := vset v.packs 0 basePack, activeSlot := 0 })

/-- CTRL_FIRMWARE_START (R423, R599, R601): firmware of the verified bank starts; READY is set. -/
def execCtrlFirmwareStart (s : State) : Out :=
  .next (if !s.rst.ctlUp ∨ s.rst.stage ≠ 2 ∨ s.th.tripped then s
    else
      let s := installBase (afterControlReset s)
      let s := s.modKci (fun k => { k with
        cpFault := false, fns := k.fns.map (fun x => { x with ready := true }.ring0) })
      dataReady (s.modRst (fun r => { r with stage := 4 })))

/-- PERST_N (R596, R601): the control domain and the PCIe link go into reset. -/
def execPerstN (s : State) : Out :=
  let s := s.modRst (fun r => { r with perst := true })
  .next (if s.rst.por then s
    else ((controlReset s false).modKci (fun k => { k with cpFault := false })).modRst (fun r => { r with
      causePerst := true, ctlUp := false }))

/-- PERST_N_DEASSERT (R599, R620): the boot ROM runs, unless POR_N or the trip latch keeps the domain in reset. -/
def execPerstNDeassert (selftest : Bool) (s : State) : Out :=
  .next (if !s.rst.perst then s
    else
      let s := s.modRst (fun r => { r with perst := false })
      if s.rst.por ∨ s.th.tripped ∨ s.rst.ctlUp then s
      else bootRom (s.modRst (fun r => { r with ctlUp := true })) selftest)

/-- CONTROL_FAULT (R601): the control domain is reset without PERST_N. -/
def execControlFault (selftest : Bool) (s : State) : Out :=
  .next (if !s.rst.ctlUp then s
    else
      let s := (controlReset s true).modKci (fun k => { k with cpFault := true })
      bootRom (s.modRst (fun r => { r with causeCp := true })) selftest)

/-- BOOT_RECOVERY (R600): both banks have failed; the image in the staging buffer goes into bank A. -/
def execBootRecovery (selftest : Bool) (s : State) : Out :=
  .next (if s.rst.stage ≠ 3 ∨ s.sec.sb.state ≠ 2 ∨ s.sec.sb.component ≠ 1 then s
    else match imageFault s s.sec.sb.image with
      | some r => sbReject s r
      | none =>
        let im := imageOfBytes s.sec.sb.image
        let s := s.modSec (fun x => { x with
          banks := vset x.banks 0 im, bootActive := 0, bootPending := false, bootSeq := x.bootSeq + 1 })
        bootRom (controlReset s true) selftest)

/-- AGENT_WATCHDOG (R600): an agent has given no heartbeat for 20 ms and restarts. -/
def execAgentWatchdog (i : Fin 2) (s : State) : Out :=
  let a := s.agent i
  let late := match a.lastHb with | some t => decide (20 * msTicks ≤ s.since t) | none => true
  .next (if s.rst.por ∨ a.role = 3 ∨ !late then s
    else
      let s := s.modAgent i (fun a => { Agent.reset with lastHb := a.lastHb })
      let s := s.modMg (fun m => { m with
        ends := vset m.ends (agentEp i) .reset
        p5 := if (vget s.kci.deeds 4).holder = agentCode i then vset m.p5 0 .reset else m.p5 })
      s.modRst (fun r => if i.val = 0 then { r with causeE := true } else { r with causeW := true }))

/-! ### The data plane (R596, R599, R604) -/

/-- R440: what the in-service tests know of every core after a reset at `now`, before boot firmware restores levels. -/
def freshCores (now : DWord) : Vector Tcore 96 := Vector.replicate 96 { Tcore.reset with lastRound := now, quiet := now }

/-- What the persistent record log and the stacks themselves keep of a stack: sparing and repairs (R229, R230). -/
def Stack.kept (k : Stack) : Stack :=
  { Stack.reset with
    spared := k.spared, sparePc := k.sparePc, degraded := k.degraded, wmark := if k.spared then BitVec.ofNat 21 spareFrom else 0
    rprHard := k.rprHard, rprUnrep := k.rprUnrep, unrepRows := k.unrepRows }

/-- R603, R604: what a reset of the data plane clears. -/
def dataReset (s : State) : State :=
  let tied := fun (c : Cmd) => decide (c.opcode ≠ 0x50 ∧ c.opcode ≠ 0x58 ∧ c.opcode ≠ 0x70 ∧ c.opcode ≠ 0x71)
  let s := s.kci.txns.foldl (fun s t =>
    if t.staged.any (fun c => decide (c.opcode < 0x40 ∨ 0x42 < c.opcode)) then endTxn s t (fun _ => kROLLED) kROLLED 0 [] else s) s
  let s := (s.kci.live.filter tied).foldl (fun s c => finish s c kABORTED 0 []) s
  { s with
    cores := Vector.replicate 96 .reset
    parts := s.parts.map (fun q => { Part.reset with srk := q.srk, srkCert := q.srkCert, kwk := q.kwk })
    mem := s.mem.clear winBase (96 * winSpan), poison := s.poison.clearAny winBase (96 * winSpan)
    ms := { MemSys.reset with stk := s.ms.stk.map Stack.kept, softRepairs := s.ms.softRepairs }
    fab := { Fabric.reset with outbox := s.fab.outbox, fwMsgId := s.fab.fwMsgId }
    kci := { s.kci with dpBusy := true }
    serv := { s.serv with cores := freshCores s.ts, loopOff := none }
    pw := { s.pw with
      wstate := 0, exiting := false, twoLane := 0, move := none, share := Power.reset.share, bucket := Power.reset.bucket
      lender := Power.reset.lender, demand := [], visits := Power.reset.visits, mstepDue := none }
    clk := { s.clk with armValid := false }
    rst := { s.rst with dpUp := false, stage := if s.rst.stage = 5 then 4 else s.rst.stage } }

/-- SYS_RST_N (R596, R604, R607): the data plane goes into reset; a failed clock is relocked (R520). -/
def execSysRstN (s : State) : Out :=
  let s := s.modRst (fun r => { r with sys := true })
  .next (if s.rst.por then s
    else
      let s := dataReset s
      let s := if s.clk.failed then s.modClk (fun c => { c with
          failed := false, relocking := true, locked := false, gated := true, tries := 0, checked := false })
        else s
      s.modRst (fun r => { r with causeSys := true, sysCount := satAdd r.sysCount 1 }))

/-- The data plane's clocks start at P4 (R599). -/
def clockP4 (s : State) : State :=
  { s with clk := { s.clk with cur := 4 }, pw := { s.pw with pstep := 4, target := 4 } }

/-- SYS_RST_N_DEASSERT (R604): the data plane boots, with DP_BUSY set. -/
def execSysRstNDeassert (s : State) : Out :=
  .next (if !s.rst.sys then s
    else
      let s := s.modRst (fun r => { r with sys := false })
      if s.rst.por ∨ s.th.tripped then s else clockP4 s)

/-- R428, R433, R440: the soft fuse, the level and the failures of a core that the persistent record log holds are in force. -/
def applyCore (s : State) (c : Fin 96) : State :=
  let s := s.modCore c (fun k => { k with retired := s.serv.softFuses.contains c.val })
  let s := match aget s.serv.levelLog c.val with
    | some (l, fs) => modTc s c (fun t => { t with level := l, fails := fs, quiet := fs.getLast?.getD s.ts })
    | none => s
  let s := if (tcore s c).level = 2 ∧ !(s.core c).retired ∧ s.serv.retireThresh.toNat ≤ failsNow s c then
      (if s.serv.autoRetire then retireCore s c else modTc s c (fun t => { t with advised := true }))
    else s
  goOn (returnEngines s c) c

/-- The persistent record log is applied to every core. -/
def applyLog (s : State) : State := (List.finRange 96).foldl applyCore s

/-- DATA_PLANE_BOOT_DONE (R599, R604, R620): the stacks are trained, the persistent record log is applied. -/
def execDataPlaneBootDone (s : State) : Out :=
  .next (if s.rst.por ∨ s.rst.sys ∨ s.rst.dpUp ∨ s.th.tripped ∨ s.rst.pwrLoss ∨ s.rst.pwrClear.isSome ∨ s.clk.gated then s
    else dataReady (applyLog (bootRepairs (s.modRst (fun r => { r with dpUp := true })))))

/-! ### POR_N and the supplies (R528, R596, R599, R603, R613, R620) -/

/-- The state after POR_N: what lies in flash, in the stacks' repairs, in the trip latch, on the pins and outside the
device is kept. -/
def porReset (s : State) : State :=
  let n := State.reset
  { n with
    hostMem := s.hostMem
    ms := { n.ms with
      stk := s.ms.stk.map (fun k => { k.kept with rprHard := 0 }), softRepairs := s.ms.softRepairs }
    serv := { n.serv with
      softFuses := s.serv.softFuses, packs := s.serv.packs, activeSlot := s.serv.activeSlot
      levelLog := s.serv.levelLog.map (fun x => (x.1, x.2.1, x.2.2.map (· - s.ts))) }
    sec := { n.sec with
      svn := s.sec.svn, drawn := s.sec.drawn, bootSeq := s.sec.bootSeq, bootActive := s.sec.bootActive
      banks := s.sec.banks, gasp := s.sec.gasp, gaspArea := s.sec.gaspArea, gaspSeq := s.sec.gaspSeq }
    fab := { n.fab with outbox := s.fab.outbox }
    pw := { n.pw with avsSent := s.pw.avsSent }
    kci := { n.kci with irqs := s.kci.irqs }
    th := { n.th with tripped := s.th.tripped, tripSensor := s.th.tripSensor, tripValid := s.th.tripValid }
    mg := { n.mg with
      eeprom := s.mg.eeprom, sent := s.mg.sent
      agents := s.mg.agents.map (fun a => if a.role = 3 then { Agent.reset with role := 3 } else Agent.reset) }
    rst := { n.rst with
      perst := s.rst.perst, sys := s.rst.sys, pwrLoss := s.rst.pwrLoss, tapReset := s.rst.tapReset, gpioIn := s.rst.gpioIn }
    readData := s.readData, busStatus := s.busStatus, freeCtr := s.freeCtr, pending := s.pending }

/-- POR_N_ASSERT (R596, R603): every domain goes into reset. -/
def execPorNAssert (s : State) : Out := .next (porReset s)

/-- The cold boot begins (R599): the reference is locked, the AVSBus rails but VLOG take their
requests (R482, log 105), the clocks run at P4 unless SYS_RST_N holds the data plane, and the data plane is busy until
its boot is done. -/
def coldStart (s : State) : State :=
  let s := s.modClk (fun c => { c with locked := true, refOk := true, gated := s.rst.pwrLoss })
  let s := s.modKci (fun k => { k with dpBusy := true })
  let s := [1, 2, 3, 4].foldl (fun s r => sendAvs s ([0, 16, 17, 32, 33].getD r 0) (avsRequest s r)) s
  let s := (List.range 6).foldl (fun s n => sendAvs (sendAvs s (48 + n) (avsRequest s 7)) (54 + n) (avsRequest s 8)) s
  if s.rst.sys then s else clockP4 s

/-- POR_N_DEASSERT (R599, R613, R620): the straps are latched and the cold boot begins, unless the trip latch stands.
A reserved strap that is 1 is reported. -/
def execPorNDeassert (straps : BitVec 8) (selftest : Bool) (s : State) : Out :=
  .next (if !s.rst.por then s
    else
      let s := s.modRst (fun r => { r with por := false, straps := straps.zeroExtend 16 })
      if s.th.tripped then s
      else
        let s := if field straps.toNat 5 3 ≠ 0 then controlRecord s none else s
        let s := coldStart s
        if s.rst.perst then s else bootRom (s.modRst (fun r => { r with ctlUp := true })) selftest)

/-- VAON_REMOVAL (R528, R540): the whole of VAON, which clears the trip latch, or the supply of one half, whose agent
is then absent and whose deed copy is stale. -/
def execVaonRemoval (half : Option (Fin 2)) (s : State) : Out :=
  .next (match half with
    | none =>
      let n := porReset s
      { n with
        th := { n.th with tripped := false, tripSensor := 0, tripValid := false }
        mg := { n.mg with agents := Vector.replicate 2 .reset }
        rst := { n.rst with gpioIn := 0 } }
    | some i =>
      let copy : Nat := if i.val = 0 then 0 else 2
      let s := s.modAgent i (fun a => { Agent.reset with role := 3, lastHb := a.lastHb })
      let s := s.modMg (fun m => { m with ends := vset m.ends (agentEp i) .reset })
      s.modKci (fun k => { k with deeds := k.deeds.map (fun d => { d with
        agree := d.agree &&& (7 ^^^ BitVec.ofNat 3 (2 ^ copy)) }) }))

/-- TRST_N (R620, R613): the test access port is reset while the pin is asserted. -/
def execTrstN (asserted : Bool) (s : State) : Out := .next (s.modRst (fun r => { r with tapReset := asserted }))

/-- PWR_LOSS_RECOVERY (R568): PWR_LOSS_N has been deasserted for 100 ms; the shedding is reversed. -/
def execPwrLossRecovery (s : State) : Out :=
  .next (match s.rst.pwrClear with
    | some t =>
      if s.rst.por ∨ s.since t < 100 * msTicks then s
      else
        let s := (s.modRst (fun r => { r with pwrClear := none })).modMg (fun m => { m with shed := false })
        let s := s.modSec (fun x => { x with flush := none })
        let s := if s.th.tripped ∨ s.clk.relocking ∨ s.clk.failed then s
          else writeVlog (s.modClk (fun c => { c with gated := false })) (vlogRequest s s.pw.pstep.toNat)
        controlRecord s (some 4)
    | none => s)

end Sys2Proof.Machine
end

