-- ==== Sys2Proof/Machine/Regs.lean ====
section
/-! DEFINITION.  Writes of registers (R14) and accesses of the control path: BAR2 (R444) and the addresses that
MEM_COPY, MEM_FILL and MEM_SCRUB name (R219, R244, R247). -/

namespace Sys2Proof.Machine

open Sys2Proof

/-- The state a meaning leaves. -/
def after (o : Out) (s : State) : State := match o with | .next t => t | _ => s

/-- A 64-bit register pair whose half is written. -/
def setHalf (hi : Bool) (v : Nat) (x : DWord) : DWord :=
  if hi then BitVec.ofNat 64 (v % 2 ^ 32 * 2 ^ 32 + x.toNat % 2 ^ 32)
  else BitVec.ofNat 64 (x.toNat / 2 ^ 32 * 2 ^ 32 + v % 2 ^ 32)

/-- A 48-bit address register pair whose half is written: bits [31:low] or [47:32]. -/
def setAddr (hi : Bool) (low v : Nat) (x : BitVec 48) : BitVec 48 :=
  if hi then BitVec.ofNat 48 (v % 2 ^ 16 * 2 ^ 32 + x.toNat % 2 ^ 32)
  else BitVec.ofNat 48 (x.toNat / 2 ^ 32 * 2 ^ 32 + v % 2 ^ 32 / 2 ^ low * 2 ^ low)

/-! ### Registers of a core (R100, R101, R159, R578, R584) -/

/-- A write of a lane-generator register, relative to +0x400 (R159); one that moves the replay table has its entries fetched anew
(R157). -/
def LaneGen.put (g : LaneGen) (o v : Nat) : LaneGen :=
  if o = 0 then { g with replay := bit v 0, rplStale := List.range 10, ologOvf := g.ologOvf && !bit v 1 }
  else if o = 0x10 then { g with vx := { g.vx with seedLo := BitVec.ofNat 32 v } }
  else if o = 0x14 then { g with vx := g.vx.seed (BitVec.ofNat 32 v) }
  else if o = 0x20 then { g with edge := { g.edge with seedLo := BitVec.ofNat 32 v } }
  else if o = 0x24 then { g with edge := g.edge.seed (BitVec.ofNat 32 v) }
  else if o = 0x28 then { g with ologBase := setAddr false 4 v g.ologBase }
  else if o = 0x2C then { g with ologBase := setAddr true 4 v g.ologBase }
  else if o = 0x30 then { g with ologSize := BitVec.ofNat 20 v }
  else if o = 0x34 then { g with ologWptr := BitVec.ofNat 20 v, ologDrops := 0 }
  else if o = 0x40 then { g with rplBase := setAddr false 4 v g.rplBase, rplStale := List.range 10 }
  else if o = 0x44 then { g with rplBase := setAddr true 4 v g.rplBase, rplStale := List.range 10 }
  else if o = 0x48 then { g with rplSize := BitVec.ofNat 20 v, rplStale := List.range 10 }
  else if 0x50 ≤ o then match engOf? ((o - 0x50) / 4) with
    | some e => { g with rplPtr := vset g.rplPtr e (BitVec.ofNat 20 v), rplStale := insRise g.rplStale e.val }
    | none => g
  else g

/-- A counter whose flags are cleared by a write of ones (R97, R100). -/
def Ctr.clearFlags (k : Ctr) (v : Nat) : Ctr :=
  { k with sat := k.sat && !bit v 24, under := k.under && !bit v 25, poison := k.poison && !bit v 26 }

/-- NUM_STATUS after a write of ones (R101). -/
def NumStatus.clearBits (n : NumStatus) (v : Nat) : NumStatus :=
  ⟨n.ternCode && !bit v 0, n.nv && !bit v 1, n.dz && !bit v 2, n.ofl && !bit v 3, n.ufl && !bit v 4,
    n.nx && !bit v 5, n.poisonNosig && !bit v 6⟩

/-- A write at an offset of a core window at or above the sync counter view; a core that is shut takes none. -/
def coreRegWrite (s : State) (c : Fin 96) (o v : Nat) : State :=
  if coreShut s c then s
  else if 0x830000 ≤ o ∧ o < 0x831000 then
    if o % 64 = 0 then s.modCore c (fun k =>
      k.modCtr ⟨(o - 0x830000) / 64 % 64, Nat.mod_lt _ (by decide)⟩ (fun t => t.clearFlags v))
    else s
  else if o < 0x840000 ∨ 0x841000 ≤ o then unmapped s 2 15 c.val (winOf c + o)
  else
    let r := o - 0x840000
    if r = 0 then coreCtrlWrite s c (BitVec.ofNat 32 v)
    else if r = 0xC then
      (if field v 6 9 = 0 then s
       else signal s c ⟨field v 0 6 % 64, Nat.mod_lt _ (by decide)⟩ 15 0xFFFF (field v 6 9) false)
    else if r = 0x10 then writeTag s c (BitVec.ofNat 32 v)
    else if r = 0x14 then s.modCore c (fun k => { k with num := k.num.clearBits v })
    else if r = 0x1C then s.modCore c (fun k => { k with fault := { k.fault with valid := k.fault.valid && !bit v 8 } })
    else if 0x100 ≤ r ∧ r < 0x240 then
      (if r % 0x20 = 8 then match engOf? ((r - 0x100) / 0x20) with
        | some e => s.modCore c (fun k => k.modEng e (fun n => { n with
            hold := bit v 0, stepOnce := (bit v 0 && bit v 1) || n.stepOnce }))
        | none => s
      else s)
    else if 0x400 ≤ r ∧ r < 0x800 then s.modCore c (fun k => { k with lg := k.lg.put (r - 0x400) v })
    else if r = 0xD80 then
      let s := if bit v 0 then s.modCore c acSample else s
      if bit v 1 then s.modCore c (fun k => { k with ac := { ActCtrs.reset with hiLatch := k.ac.hiLatch } }) else s
    else if r = 0xF00 then fbCtrlWrite s c (BitVec.ofNat 32 v)
    else if r = 0xF28 then modFb s c (fun f => { f with ringAddr := setAddr false 16 v f.ringAddr })
    else if r = 0xF2C then modFb s c (fun f => { f with
      ringAddr := setAddr true 16 v f.ringAddr, ringSize := BitVec.ofNat 16 (field v 16 16) })
    else s

/-- What reading a register of a core latches (R159, R578). -/
def coreRegLatch (s : State) (c : Fin 96) (o : Nat) : State :=
  if coreShut s c then s
  else if o = 0x840408 then s.modCore c (fun k => { k with lg := { k.lg with vx := k.lg.vx.latch } })
  else if o = 0x840418 then s.modCore c (fun k => { k with lg := { k.lg with edge := k.lg.edge.latch } })
  else if 0x840800 ≤ o ∧ o < 0x840D90 ∧ (o - 0x840800) % 8 = 0 then
    let r := o - 0x840800
    s.modCore c (fun k =>
      let v : DWord := if r = 0x588 then k.ac.viewCycles
        else if r < 0x580 ∧ r % 0x80 < 0x58 then
          ((k.ac.view.toList[r / 0x80]?).map (fun b => b.toList.getD (r % 0x80 / 8) 0)).getD 0
        else 0
      if (r < 0x580 ∧ r % 0x80 < 0x58) ∨ r = 0x588 then { k with ac := { k.ac with hiLatch := BitVec.ofNat 32 (hi32 v) } }
      else k)
  else s

/-! ### Register blocks of the device control space -/

/-- A plat entry of which word `i` is written (R242). -/
def PlatEnt.put (e : PlatEnt) (i v : Nat) : PlatEnt :=
  PlatEnt.ofWords (if i = 0 then v else e.word 0) (if i = 1 then v else e.word 1) (if i = 2 then v else e.word 2)
    (if i = 3 then v else e.word 3)

/-- A write of an exchange context (R342) beyond XC_ATTEMPT. -/
def Xc.put (x : Xc) (o v : Nat) : Xc :=
  if o = 4 then { x with slots := BitVec.ofNat 13 v }
  else if o = 8 then { x with stageBase := setAddr false 21 v x.stageBase }
  else if o = 0xC then { x with stageBase := setAddr true 21 v x.stageBase }
  else if o = 0x10 then { x with
    mode := BitVec.ofNat 2 v, sums := bit v 2, warmup := BitVec.ofNat 16 (field v 16 16) }
  else if o = 0x14 then { x with noiseB := BitVec.ofNat 32 v }
  else if o = 0x18 then { x with replicas := BitVec.ofNat 16 v, hold := BitVec.ofNat 16 (field v 16 16) }
  else if o = 0x1C then { x with beta := BitVec.ofNat 32 v }
  else if o = 0x20 then { x with mbMin := BitVec.ofNat 12 v, mbMax := BitVec.ofNat 12 (field v 12 12) }
  else if o = 0x24 then { x with
    cur := BitVec.ofNat 12 v, steerSlot := BitVec.ofNat 11 (field v 12 11), slotValid := bit v 23 }
  else x

/-- A write of a closure context (R376). -/
def Closure.put (c : Closure) (o v : Nat) : Closure :=
  if o < 0x10 then
    let i : Fin 2 := if o < 8 then 0 else 1
    { c with slots := vmod c.slots i (fun x =>
        if o % 8 = 0 then { x with stepId := BitVec.ofNat 32 v }
        else if o % 8 = 4 then { x with
          state := BitVec.ofNat 4 v, replays := BitVec.ofNat 4 (field v 4 4), halted := bit v 8
          recordWait := bit v 9, causes := BitVec.ofNat 16 (field v 16 16) }
        else x) }
  else if o = 0x10 then { c with gate := BitVec.ofNat 2 v }
  else if o = 0x14 then { c with gateTag := BitVec.ofNat 32 v }
  else if o = 0x18 then { c with prev := BitVec.ofNat 32 v } else c

/-- A write of a closure context; a gate that leaves CLOSED begins a count of UPD_DONE (R352, R376). -/
def closureWrite (s : State) (p : Fin 12) (o v : Nat) : State :=
  let was := (s.part p).cl.gate
  let s := modCl s p (fun c => c.put o v)
  if was = 0 ∧ (s.part p).cl.gate ≠ 0 then
    (stepCores s p).foldl (fun s c => s.modCore c (fun k => { k with updDone := false }))
      (modCl s p (fun c => { c with updDone := [] }))
  else s

/-- A write of a retention entry (R377). -/
def RetEnt.put (e : RetEnt) (o v : Nat) : RetEnt :=
  if o = 0 then { e with
    valid := bit v 0, addr := BitVec.ofNat 32 (e.addr.toNat / 2 ^ 16 * 2 ^ 16 + field v 16 16) }
  else if o = 4 then { e with addr := BitVec.ofNat 32 (v % 2 ^ 16 * 2 ^ 16 + e.addr.toNat % 2 ^ 16) }
  else if o = 8 then { e with units := BitVec.ofNat 32 v } else e

/-- A write of an update context (R408). -/
def Upd.put (u : Upd) (o v : Nat) : Upd :=
  if o = 0 then { u with
    period := BitVec.ofNat 16 v, member := BitVec.ofNat 3 (field v 16 3), role := BitVec.ofNat 2 (field v 19 2)
    members := BitVec.ofNat 4 (field v 21 4) }
  else if o = 4 then { u with list := setAddr false 4 v u.list }
  else if o = 8 then { u with list := setAddr true 4 v u.list, count := BitVec.ofNat 9 (field v 16 9) }
  else if o = 0xC then { u with area := setAddr false 12 v u.area }
  else if o = 0x10 then { u with area := setAddr true 12 v u.area }
  else if o = 0x14 then { u with peers := setAddr false 4 v u.peers }
  else if o = 0x18 then { u with peers := setAddr true 4 v u.peers } else u

/-- The fields of the in-service test block lie in their ranges (R429, R440). -/
def Serv.inRange (x : Serv) : Bool :=
  decide (1 ≤ x.failQuar.toNat ∧ x.failQuar.toNat ≤ x.retireThresh.toNat) &&
    decide (1 ≤ x.failWindowH.toNat ∧ x.failWindowH.toNat ≤ 8760) &&
    decide (60 ≤ x.normalS.toNat ∧ x.normalS.toNat ≤ 3600) && decide (10 ≤ x.watchS.toNat ∧ x.watchS.toNat ≤ x.normalS.toNat) &&
    decide (1 ≤ x.watchPass.toNat) && decide (1 ≤ x.quarHoldH.toNat ∧ x.quarHoldH.toNat ≤ 168) &&
    decide (100 ≤ x.capUs.toNat ∧ x.capUs.toNat ≤ 4000)

/-- A write of the in-service test block (R440); a word that puts a field out of its range changes nothing (DESIGN CHOICE,
log 94). -/
def Serv.put (x : Serv) (o v : Nat) : Serv :=
  let y := if o = 0 then { x with
      autoRetire := bit v 0, failQuar := BitVec.ofNat 4 (field v 4 4), retireThresh := BitVec.ofNat 4 (field v 8 4)
      failWindowH := BitVec.ofNat 16 (field v 16 16) }
    else if o = 4 then { x with normalS := BitVec.ofNat 16 v, watchS := BitVec.ofNat 16 (field v 16 16) }
    else if o = 8 then { x with watchPass := BitVec.ofNat 16 v, quarHoldH := BitVec.ofNat 8 (field v 16 8) }
    else if o = 0xC then { x with capUs := BitVec.ofNat 16 v } else x
  if y.inRange then y else x

/-- A write of the staged copy of the limits block (R509). -/
def Limits.put (l : Limits) (o v : Nat) : Limits :=
  if o = 0 then { l with plSust := BitVec.ofNat 9 v, plShort := BitVec.ofNat 9 (field v 16 9) }
  else if o = 4 then { l with edc := BitVec.ofNat 10 v, tdc := BitVec.ofNat 10 (field v 16 10) }
  else if o = 8 then { l with tjReg := BitVec.ofNat 7 v, th1 := BitVec.ofNat 7 (field v 8 7) }
  else if o = 0xC then { l with ease := BitVec.ofNat 7 v, droopMv := BitVec.ofNat 6 (field v 8 6) } else l

/-- A write of the limits block: only the primary agent's has an effect (R23, R509, R571). -/
def limitsWrite (s : State) (w : Writer) (o v : Nat) : State :=
  if !primaryWrites s w then
    (if o = 0x10 ∧ bit v 0 then after (execLimCtrlCommit w s.pw.limEpoch s) s else s)
  else if o < 0x10 then s.modPw (fun x => { x with limS := x.limS.put o v })
  else if o = 0x10 then (if bit v 0 then after (execLimCtrlCommit w s.pw.limEpoch s) s else s)
  else if o = 0x14 then s.modPw (fun x => { x with limEpoch := BitVec.ofNat 32 v })
  else if o = 0x20 then after (execLimFlush w s.pw.limEpoch (bit v 0) s) s
  else s

/-- A write of the power controller (R510). -/
def powerWrite (s : State) (w : Writer) (o v : Nat) : State :=
  if w = .control then
    if o = 4 then limitsTook (s.modPw (fun x => { x with
      hostPl := BitVec.ofNat 9 v, hostTh1 := BitVec.ofNat 7 (field v 16 7) }))
    else if o = 8 then applyMstepPolicy (s.modPw (fun x => { x with
      ceil := BitVec.ofNat 4 v, floor := BitVec.ofNat 4 (field v 4 4), mstepPol := BitVec.ofNat 2 (field v 8 2) }))
    else s
  else if 0x100 ≤ o ∧ o < 0x120 then
    match portNum? ((o - 0x100) / 4) with
    | some n => after (execPcSns n (BitVec.ofNat 16 v) s) s
    | none => s
  else s

/-- A write of the thermal block: the primary agent's (R535). -/
def Therm.put (t : Therm) (o v : Nat) : Therm :=
  if o = 0 then { t with
    thWarn := BitVec.ofNat 7 v, kwEn := bit v 7, kwFloor := BitVec.ofNat 7 (field v 8 7)
    kwDrop := BitVec.ofNat 6 (field v 16 6), kwPower := BitVec.ofNat 8 (field v 24 8) }
  else if o = 4 then { t with kwRate := BitVec.ofNat 4 v } else t

/-- A write of the management block: the primary agent's (R569, R570). -/
def Mgmt.put (m : Mgmt) (o v : Nat) : Mgmt :=
  if o = 4 then { m with
    failover := m.failover && !bit v 5, holdup := m.holdup && !bit v 6, boardDesc := m.boardDesc && !bit v 7
    mask := BitVec.ofNat 8 (field v 16 8) }
  else if o = 0xC then { m with
    huCap := BitVec.ofNat 16 v, huVnom := BitVec.ofNat 8 (field v 16 8), huVmin := BitVec.ofNat 8 (field v 24 8) }
  else if o = 0x10 then { m with huRatio := BitVec.ofNat 16 v, huEff := BitVec.ofNat 7 (field v 16 7) } else m

/-- A write of the security block: control firmware's (R573). -/
def Sec.put (x : Sec) (o v : Nat) : Sec :=
  if o = 8 ∨ o = 0xC then { x with utcBase := setHalf (o = 0xC) v x.utcBase }
  else if o = 0x10 ∨ o = 0x14 then { x with tsBase := setHalf (o = 0x14) v x.tsBase }
  else if o = 0x18 then { x with timeValid := bit v 0 } else x

/-- A write of the registers of the staging buffer (R572). -/
def stagingWrite (s : State) (w : Writer) (o v : Nat) : State :=
  let e := s.sec.sb.epoch
  if o = 0 then
    let s := if stageEpoch s w e then s.modSb (fun b => { b with
        component := BitVec.ofNat 8 (field v 8 8), packSlot := BitVec.ofNat 2 (field v 16 2) }) else s
    let s := if bit v 0 then after (execSbCtrlOpen w e (BitVec.ofNat 8 (field v 8 8)) (BitVec.ofNat 2 (field v 16 2)) s) s
      else s
    let s := if bit v 1 then after (execSbCtrlClose w e s) s else s
    let s := if bit v 2 then after (execSbCtrlActivate w e s) s else s
    if bit v 3 then after (execSbCtrlCancel w e s) s else s
  else if o = 4 then s.modSb (fun b => { b with epoch := BitVec.ofNat 32 v })
  else if o = 8 ∨ o = 0xC then
    let h : Fin 2 := if o = 8 then 0 else 1
    if bit v 18 then after (execSbHalfFull w e h (BitVec.ofNat 18 v) s) s
    else if stageEpoch s w e then s.modSb (fun b => { b with len := vset b.len h (BitVec.ofNat 18 v) }) else s
  else s

/-- The request port of a plane at the deed register file (R472). -/
def deedWrite (s : State) (w : Writer) (o v : Nat) : State :=
  if o = 0x84 then s.modKci (fun k => { k with deedPorts := vmod k.deedPorts (writerPort w) (fun p => { p with
    epoch := BitVec.ofNat 32 v }) })
  else if o = 0x80 then
    (if h : field v 0 3 < 5 then
      let r : Fin 5 := ⟨field v 0 3, h⟩
      if field v 3 2 = 1 then after (execDeedReqClaim w r s) s
      else if field v 3 2 = 2 then after (execDeedReqRelease w r (vget s.kci.deedPorts (writerPort w)).epoch s) s
      else s
    else s)
  else s

/-- A write at an offset of the device control space.  Registers of the data and control planes take those of the
control path and of control firmware (R23, R218); an offset where no block stands is unmapped (R219). -/
def blockWrite (s : State) (w : Writer) (o v : Nat) : State :=
  let ctl := decide (w = .control)
  let prim := primaryWrites s w
  let b := o / 0x10000
  let r := o % 0x10000
  if (ctlWord s (o / 4 * 4)).isNone then unmapped s 2 15 0x7F (0x020000000000 + o)
  else if h : 0x10 ≤ b ∧ b < 0x16 then
    if !ctl then s
    else s.modStk ⟨b - 0x10, by omega⟩ (fun k =>
      if r = 0x14 then { k with scrubH := BitVec.ofNat 8 v, scrubEn := bit v 8 }
      else if r = 0x1C then { k with ceThresh := BitVec.ofNat 4 v } else k)
  else if b = 0x20 then
    match (if ctl ∧ r < 0x4000 then entryOf? (r / 16) else none) with
    | some i => setPlat s i ((vget s.ms.platS i).put (r % 16 / 4) v) false
    | none => s
  else if b = 0x30 then
    match (if ctl ∧ r < 0x30 then partOf? (r / 4) else none) with
    | some i => { s with ms := { s.ms with pmapS := vset s.ms.pmapS i ⟨BitVec.ofNat 4 v, bit v 4⟩ } }
    | none => s
  else if b = 0x40 then
    match (if ctl ∧ r % 0x100 = 4 then portNum? (r / 0x100) else none) with
    | some n => writePortCfg s n v
    | none => s
  else if b = 0x42 then
    match (if ctl then partOf? (r / 0x100) else none) with
    | some p =>
      if r % 0x100 = 0 then after (execXcAttempt p (BitVec.ofNat 4 v) (BitVec.ofNat 4 (field v 4 4)) s) s
      else modXc s p (fun x => x.put (r % 0x100) v)
    | none => s
  else if b = 0x43 then
    match (if ctl then partOf? (r / 0x100) else none) with
    | some p => if (s.part p).underReset then s else closureWrite s p (r % 0x100) v
    | none => s
  else if b = 0x44 then
    match (if ctl then partOf? (r / 0x100) else none) with
    | some p => if (s.part p).underReset then s
      else modCl s p (fun c => { c with
        ret := vmod c.ret ⟨r % 0x100 / 16 % 16, Nat.mod_lt _ (by decide)⟩ (fun e => e.put (r % 16) v) })
    | none => s
  else if b = 0x45 then
    match (if ctl then partOf? (r / 0x100) else none) with
    | some p => modUc s p (fun u => u.put (r % 0x100) v)
    | none => s
  else if b = 0x46 then (if ctl then s.modServ (fun x => x.put r v) else s)
  else if b = 0x47 then deedWrite s w r v
  else if b = 0x48 then limitsWrite s w r v
  else if b = 0x49 then powerWrite s w r v
  else if b = 0x4A then
    (if h : ctl ∧ 0x40 ≤ r ∧ r < 0x70 then s.modClk (fun c => { c with
      mons := vmod c.mons ⟨(r - 0x40) / 4, by omega⟩ (fun m => { m with
        shortAlarm := m.shortAlarm && !bit v 16, dutyAlarm := m.dutyAlarm && !bit v 17 }) })
    else s)
  else if b = 0x4B then (if prim then s.modTh (fun t => t.put r v) else s)
  else if b = 0x4C then (if prim then s.modMg (fun m => m.put r v) else s)
  else if b = 0x4D then (if ctl then s.modSec (fun x => x.put r v) else s)
  else if b = 0x4F then
    (if r = 0 ∧ (ctl || prim) then s.modSnap (fun x => { x with hold := bit v 0 })
    else if r = 0xC ∧ ctl then s.modSnap (fun x => { x with wdogMs := BitVec.ofNat 16 v }) else s)
  else if b = 0x50 then
    (if r = 0 then s.modRst (fun x => { x with
      causePor := x.causePor && !bit v 0, causeSys := x.causeSys && !bit v 1, causePerst := x.causePerst && !bit v 2
      causeCp := x.causeCp && !bit v 3, causeE := x.causeE && !bit v 4, causeW := x.causeW && !bit v 5 })
    else s)
  else if b = 0x51 then
    (if !prim then s
    else if r = 4 then s.modRst (fun x => { x with gpioOut := BitVec.ofNat 8 v })
    else if r = 8 then s.modRst (fun x => { x with gpioOe := BitVec.ofNat 8 v }) else s)
  else if 0x600000 ≤ o ∧ o < 0x601000 then stagingWrite s w (o - 0x600000) v
  else if 0x601000 ≤ o ∧ o < 0x641000 then
    (if (vget s.kci.deeds 3).holder = writerCode w then s.write (0x020000000000 + o) (leBytes 4 v) false else s)
  else s

/-- What reading a register of the clock block latches (R534). -/
def blockLatch (s : State) (o : Nat) : State :=
  if o = 0x4A0008 then after (execClkLoRead 0 s) s
  else if o = 0x4A0010 then after (execClkLoRead 1 s) s
  else if o = 0x4A0018 then after (execClkLoRead 2 s) s else s

/-! ### Function registers (R445, R446) -/

/-- A write of the mask bit of MSI-X vector `v`: a pending message of an unmasked vector goes out (log 32). -/
def maskVector (s : State) (f : Fin 13) (n : Nat) (masked : Bool) : State :=
  let m : Word := BitVec.ofNat 32 (2 ^ n)
  if masked then s.modFn f (fun x => { x with msixMask := x.msixMask ||| m })
  else
    let owed := bit (s.fn f).msixPend.toNat n
    let s := s.modFn f (fun x => { x with msixMask := x.msixMask &&& ~~~m, msixPend := x.msixPend &&& ~~~m })
    if owed then s.modKci (fun k => { k with irqs := k.irqs ++ [(f, n)] }) else s

/-- Word of the function registers (R446): what the offset reads as; write-only registers read zero. -/
def functionWord (s : State) (f : Fin 13) (o : Nat) : Nat :=
  let x := s.fn f
  let bound := boundPart s f
  if o = 0x000 then 1 + f.val * 2 ^ 16 + (match bound with | some p => p.val | none => 15) * 2 ^ 20 + b2n bound.isSome * 2 ^ 24
  else if o = 0x004 then b2n x.ready + 2 * b2n s.kci.paused + 4 * b2n s.kci.dpBusy + 8 * b2n s.kci.cpFault + 16 * b2n x.eventsLost
  else if o = 0x008 then b2n x.enable
  else if o = 0x010 then lo32 x.asq
  else if o = 0x014 then hi32 x.asq
  else if o = 0x018 then lo32 x.acq
  else if o = 0x01C then hi32 x.acq
  else if o = 0x020 then x.sqLog2.toNat + 16 * x.cqLog2.toNat + 256 * x.vector.toNat
  else if o = 0x024 then ringCap f + 64 * ringCap f
  else if o = 0x028 then x.bar2.toNat % 2 ^ 32
  else if o = 0x02C then x.bar2.toNat / 2 ^ 32
  else if o = 0x030 then match txnOf s f with | some t => t.id.toNat + 2 ^ 16 | none => 0
  else 0

/-- Word of a function's MSI-X table (R443, R445): address, data and mask of each vector. -/
def msixWord (s : State) (f : Fin 13) (o : Nat) : Nat :=
  if h : o < 512 ∧ o / 16 < ringCap f then
    let n : Fin 32 := ⟨o / 16, by omega⟩
    let x := s.fn f
    if o % 16 = 0 then lo32 (vget x.msixAddr n)
    else if o % 16 = 4 then hi32 (vget x.msixAddr n)
    else if o % 16 = 8 then (vget x.msixData n).toNat
    else b2n (bit x.msixMask.toNat n.val)
  else 0

/-- What a function's BAR0 reads at an offset (R445): function registers, MSI-X table and pending bits, and on PF0 the read-only
views of the deed register file (R472), the hang-snapshot store (R590) and the telemetry ring (R585); doorbells and offsets not
listed read zero. -/
def bar0Word (s : State) (f : Fin 13) (o : Nat) : Nat :=
  if o < 0x1000 then functionWord s f o
  else if o < 0x2000 then 0
  else if o < 0x3000 then msixWord s f (o - 0x2000)
  else if o < 0x4000 then (if o = 0x3000 then (s.fn f).msixPend.toNat else 0)
  else if f.val ≠ 0 then 0
  else if 0x100000 ≤ o ∧ o < 0x101000 then deedWord s (o - 0x100000)
  else if 0x200000 ≤ o ∧ o < 0x400000 then s.mem.nat (0x020000800000 + (o - 0x200000)) 4
  else if 0x400000 ≤ o ∧ o < 0x500000 then s.mem.nat (0x020000700000 + (o - 0x400000)) 4
  else 0

/-- A write at an offset of a function's BAR0; lost while the control domain is in reset. -/
def functionWrite (s : State) (f : Fin 13) (o v : Nat) : State :=
  if !s.rst.ctlUp then s
  else if o = 0x004 then s.modFn f (fun x => { x with eventsLost := x.eventsLost && !bit v 4 })
  else if o = 0x008 then
    (if bit v 0 then after (execKciCtrlEnable f s) s else if (s.fn f).enable then functionReset s f else s)
  else if o = 0x010 ∨ o = 0x014 then s.modFn f (fun x => { x with
    asq := setHalf (o = 0x014) (if o = 0x010 then v / 4096 * 4096 else v) x.asq })
  else if o = 0x018 ∨ o = 0x01C then s.modFn f (fun x => { x with
    acq := setHalf (o = 0x01C) (if o = 0x018 then v / 4096 * 4096 else v) x.acq })
  else if o = 0x020 then s.modFn f (fun x => { x with
    sqLog2 := BitVec.ofNat 4 v, cqLog2 := BitVec.ofNat 4 (field v 4 4), vector := BitVec.ofNat 5 (field v 8 5) })
  else if o = 0x028 ∨ o = 0x02C then s.modFn f (fun x => { x with bar2 := setAddr (o = 0x02C) 30 v x.bar2 })
  else if h : 0x1000 ≤ o ∧ o < 0x1100 then
    let r : Fin 32 := ⟨(o - 0x1000) / 8, by omega⟩
    if ringCap f ≤ r.val then s
    else if o % 8 = 0 then after (execSqTail f r (BitVec.ofNat 12 v) [] s) s
    else if o % 8 = 4 then after (execCqHead f r (BitVec.ofNat 12 v) s) s else s
  else if h : 0x2000 ≤ o ∧ o < 0x2200 then
    let n : Fin 32 := ⟨(o - 0x2000) / 16, by omega⟩
    if ringCap f ≤ n.val then s
    else if o % 16 = 0 ∨ o % 16 = 4 then s.modFn f (fun x => { x with
      msixAddr := vmod x.msixAddr n (setHalf (o % 16 = 4) v) })
    else if o % 16 = 8 then s.modFn f (fun x => { x with msixData := vset x.msixData n (BitVec.ofNat 32 v) })
    else if o % 16 = 12 then maskVector s f n.val (bit v 0) else s
  else s

/-- REGISTER_WRITE (R14). -/
def execRegisterWrite (at_ : RegAddr) (value : Word) (s : State) : Out :=
  .next (match at_ with
    | .core c off gap => if coreShut s c || coreOut s c then s else coreRegWrite (passCore s c gap) c off.toNat value.toNat
    | .block w off => blockWrite s w off.toNat value.toNat
    | .function f off => functionWrite s f off.toNat value.toNat
    | .bar2Size => if 30 ≤ value.toNat ∧ value.toNat ≤ 38 then s.modKci (fun k => { k with bar2Log := value.toNat }) else s)

/-! ### The control path (R70 to R75, R219, R244, R247) -/

/-- What stands in a part of a core window for the control path. -/
inductive Area where
  | store | book | regs | hole
  deriving DecidableEq, Repr

/-- The parts of a core window: offset, bytes (R70, R72). -/
def windowMap : List (Nat × Nat × Area) :=
  [(0, 0x440000, .store), (0x440000, 0x3C0000, .hole), (0x800000, 0x10000, .store), (0x810000, 0x4000, .store),
    (0x814000, 0xC000, .hole), (0x820000, 0x10000, .book), (0x830000, 0x1000, .regs), (0x831000, 0xF000, .hole),
    (0x840000, 0x1000, .regs), (0x841000, 0x7BF000, .hole)]

/-- A range of core windows cut at the parts of the windows: core, offset, bytes, part. -/
def windowPieces (a n : Nat) : List (Fin 96 × Nat × Nat × Area) :=
  if n = 0 ∨ a < winBase then []
  else
    let first := (a - winBase) / winSpan
    (upFrom first ((a + n - 1 - winBase) / winSpan - first + 1)).flatMap (fun k => match coreOf? k with
      | none => []
      | some c => windowMap.filterMap (fun (o, len, ar) =>
        let lo := max a (winOf c + o)
        let hi := min (a + n) (winOf c + o + len)
        if lo < hi then some (c, lo - winOf c, hi - lo, ar) else none))

/-- The range lies in the core windows. -/
def inWindows (a n : Nat) : Bool := decide (winBase ≤ a ∧ a + n ≤ winBase + 96 * winSpan)
/-- The range lies in the device control space. -/
def inControl (a n : Nat) : Bool := decide (0x020000000000 ≤ a ∧ a + n ≤ 0x030000000000)

/-- R219, R244, R247: where an access of the control path for a function fails first.  The windows of absent, retired,
quarantined and held-out cores read zero (R75, R431); the device control space is PF0's alone (log 38). -/
def pathFail (s : State) (f : Fin 13) (wr : Bool) (a n : Nat) : Option Nat :=
  if n = 0 then none
  else if a + n ≤ 6 * stackSpan then stackFail s (if wr then .hostWr else .hostRd) (fnActs s f) a n
  else if inWindows a n then
    ((windowPieces a n).find? (fun p => decide (winFault s (fnActs s f) p.1 = some fPARTITION))).map (fun _ => a)
  else if inControl a n ∧ f.val = 0 then
    (upFrom (a / 4) ((a + n - 1) / 4 - a / 4 + 1)).find? (fun w => (ctlWord s (4 * w - 0x020000000000)).isNone)
      |>.map (fun w => max a (4 * w))
  else some a

/-- The record of a failing access of the control path (R219, R245). -/
def pathViolation (s : State) (f : Fin 13) (wr : Bool) (a : Nat) : State :=
  if a < 6 * stackSpan then sourceViolation s (.control f) wr a
  else if inWindows a 1 then s
  else unmapped s 2 (fnActs s f) 0x7F a

/-- The words that a range touches. -/
def wordsOf (o n : Nat) : List Nat := if n = 0 then [] else (upFrom (o / 4) ((o + n - 1) / 4 - o / 4 + 1)).map (4 * ·)

/-- Reads the registers of a range one after the other, each with the latch that its reading sets. -/
def readWords (word : State → Nat → Nat) (latch : State → Nat → State) (s : State) (o n : Nat) : List Byte × State :=
  let (bs, s) := (wordsOf o n).foldl (fun (acc : List Byte × State) w =>
    (acc.1 ++ leBytes 4 (word acc.2 w), latch acc.2 w)) ([], s)
  (bytesAt bs (o % 4) n, s)

/-- The words that a byte string covers whole, with their values; a register takes no part of a word (log 38). -/
def wholeWords (o : Nat) (bs : List Byte) : List (Nat × Nat) :=
  (wordsOf o bs.length).filterMap (fun w =>
    if o ≤ w ∧ w + 4 ≤ o + bs.length then some (w, natAt bs (w - o) 4) else none)

/-- The bytes that the control path reads, and the state after the latches of registers. -/
def pathRead (s : State) (a n : Nat) : List Byte × State :=
  if a + n ≤ 6 * stackSpan then (s.bytes a n, s)
  else if inWindows a n then
    (windowPieces a n).foldl (fun (acc : List Byte × State) p =>
      let (bs, s) := acc
      let (c, o, len, ar) := p
      if coreClosed s c then
        (bs ++ (readWords (fun s w => if w = 0x840000 then coreCtrlWord s c else 0) (fun s _ => s) s o len).1, s)
      else match ar with
        | .regs =>
          let (t, s) := readWords (fun s w => coreRegWord s c w) (fun s w => coreRegLatch s c w) s o len
          (bs ++ t, s)
        | .hole => (bs ++ List.replicate len 0, unmapped s 2 15 c.val (winOf c + o))
        | _ => (bs ++ s.bytes (winOf c + o) len, s)) ([], s)
  else
    readWords (fun s w => (ctlWord s w).getD 0) blockLatch s (a - 0x020000000000) n

/-- A poisoned byte is among those that the control path reads. -/
def pathPoisoned (s : State) (a n : Nat) : Bool := if inControl a n then false else s.poisoned a n

/-- A write of the control path; poisoned bytes only into storage. -/
def pathWrite (s : State) (a : Nat) (bs : List Byte) (pois : Bool) : State :=
  if a + bs.length ≤ 6 * stackSpan then s.write a bs pois
  else if inWindows a bs.length then
    (windowPieces a bs.length).foldl (fun s p =>
      let (c, o, len, ar) := p
      let part := bytesAt bs (winOf c + o - a) len
      if coreClosed s c then s
      else match ar with
        | .store => s.write (winOf c + o) part pois
        | .book => s
        | .regs => (wholeWords o part).foldl (fun s w => coreRegWrite s c w.1 w.2) s
        | .hole => unmapped s 2 15 c.val (winOf c + o)) s
  else (wholeWords (a - 0x020000000000) bs).foldl (fun s w => blockWrite s .control w.1 w.2) s

/-! ### BAR2 (R443, R444) -/

/-- Size of a function's BAR2 as a power of two. -/
def bar2Log (s : State) (f : Fin 13) : Nat := if f.val = 0 then s.kci.bar2Log else 32

/-- The local address of a BAR2 offset. -/
def bar2Addr (s : State) (f : Fin 13) (x : Nat) : Nat := (s.fn f).bar2.toNat / 2 ^ bar2Log s f * 2 ^ bar2Log s f + x

/-- An access through BAR2 that goes to a stack is one request of its function (R444), in the order of R238. -/
def bar2Stack (s : State) (f : Fin 13) (a : Nat) (write : Option (List Byte)) (n : Nat) : State :=
  stackRequest s { src := .control f, a := BitVec.ofNat 48 a, write := write, n := n, errs := [] }

/-- BAR2_READ (R444): `n` bytes at offset `x`; an offset beyond the BAR reaches nothing.  What a stack returns comes when it
serves the request (R221, R228, R238). -/
def execBar2Read (f : Fin 13) (x : BitVec 38) (n : Nat) (s : State) : Out :=
  let a := bar2Addr s f x.toNat
  .next (if !s.rst.ctlUp ∨ 2 ^ bar2Log s f < x.toNat + n then s
    else if inStack a ∧ a + n ≤ 6 * stackSpan then bar2Stack s f a none n
    else match pathFail s f false a n with
      | some b => { pathViolation s f false b with readData := [], busStatus := 1 }
      | none =>
        let s := meetErrs s [⟨a, n⟩]
        let po := pathPoisoned s a n
        let (bs, s) := pathRead s a n
        { s with readData := bs, busStatus := if po then 2 else 0 })

/-- BAR2_WRITE (R444). -/
def execBar2Write (f : Fin 13) (x : BitVec 38) (bs : List Byte) (s : State) : Out :=
  let a := bar2Addr s f x.toNat
  .next (if !s.rst.ctlUp ∨ 2 ^ bar2Log s f < x.toNat + bs.length then s
    else if inStack a ∧ a + bs.length ≤ 6 * stackSpan then bar2Stack s f a (some bs) 0
    else match pathFail s f true a bs.length with
      | some b => pathViolation s f true b
      | none => pathWrite s a bs false)

end Sys2Proof.Machine
end

