-- ==== Sys2Proof/Machine/CmdDevice.lean ====
section
/-! DEFINITION.  Commands on rings, on the device, on partitions, on the plat and on memory (R447, R457 to R460,
R464, R242 to R247, R255, R258). -/

namespace Sys2Proof.Machine

open Sys2Proof

/-! ### What the checks of a command share (R451, R452) -/

/-- BAD_ARG at byte `off` unless the check holds. -/
def bad (ok : Bool) (off : Nat) : Option Fail := if ok then none else some (kBADARG, off, [])
/-- A status without detail unless the check holds. -/
def only (ok : Bool) (status : Nat) : Option Fail := if ok then none else some (status, 0, [])
/-- The first check that fails. -/
def fails (l : List (Option Fail)) : Option Fail := l.findSome? id

/-- The checks of a command on an existing partition. -/
def onPart (s : State) (c : Cmd) (f : Fin 12 → Option Fail) : Option Fail :=
  match c.scope s with
  | some p => if (s.part p).made then f p else some (kBADARG, 8, [])
  | none => some (kBADARG, 8, [])

/-- The act of a command on its partition. -/
def inPart (s : State) (c : Cmd) (f : Fin 12 → State) : State :=
  match c.scope s with | some p => f p | none => s

/-- A command that is done at once. -/
def atOnce (s : State) (c : Cmd) (result : List Byte) : State := post s c true kOK 0 result

/-- R448: host addresses are aligned to 8 bytes. -/
def dptr (c : Cmd) (off : Nat) : Option Fail := bad (c.b off 8 % 8 == 0) off

/-- A ring number of a command. -/
def ringOf? (n : Nat) : Option (Fin 32) := if h : n < 32 then some ⟨n, h⟩ else none

/-- A step of the partition is unclosed. -/
def anyUnclosed (s : State) (p : Fin 12) : Bool := ([0, 1] : List (Fin 2)).any (fun i => (slotAt s p i).unclosed)

/-! ### Rings (R447, R458) -/

/-- The checks of QUEUE_CREATE. -/
def checkQueueCreate : State → Cmd → Option Fail :=
  fun s c => fails [
      bad (c.ring == some 0) 0,
      bad (decide (1 ≤ c.b 16 1 ∧ c.b 16 1 < ringCap c.fn)) 16,
      bad (match ringOf? (c.b 16 1) with | some r => (vget (s.fn c.fn).rings r).isNone | none => false) 16,
      bad (decide (c.b 17 1 < ringCap c.fn)) 17,
      bad (decide (4 ≤ c.b 18 1 ∧ c.b 18 1 ≤ 12)) 18, bad (decide (4 ≤ c.b 19 1 ∧ c.b 19 1 ≤ 12)) 19,
      bad (c.b 24 8 % 4096 == 0) 24, bad (c.b 32 8 % 4096 == 0) 32]

/-- The effect of QUEUE_CREATE. -/
def actQueueCreate : State → Cmd → State :=
  fun s c => match ringOf? (c.b 16 1) with
      | some r => atOnce (s.modFn c.fn (fun x => { x with
          rings := vset x.rings r (some (Ring.make (c.b 18 1) (c.b 19 1) (c.b 17 1) (c.b 24 8) (c.b 32 8))) })) c []
      | none => s

/-- QUEUE_CREATE (0x01). -/
def execQueueCreate : Fin 13 → Fin 32 → List (DWord × List Byte) → State → Out :=
  runCode 0x01 checkQueueCreate actQueueCreate

/-- A ring holds unfetched entries, or a command or posting without its final completion delivered. -/
def ringBusy (s : State) (f : Fin 13) (r : Fin 32) : Bool :=
  (match vget (s.fn f).rings r with
   | some q => decide (q.head ≠ q.tail) || !q.fetched.isEmpty
   | none => false) ||
    !(unfinished s f r).isEmpty || (s.fn f).held.any (fun p => p.ring == r)

/-- The checks of QUEUE_DESTROY. -/
def checkQueueDestroy : State → Cmd → Option Fail :=
  fun s c => match ringOf? (c.b 16 1) with
      | some r => fails [
          bad (decide (r.val ≠ 0) && (vget (s.fn c.fn).rings r).isSome) 16,
          only (!ringBusy s c.fn r && c.ring != some r) kBUSY]
      | none => some (kBADARG, 16, [])

/-- The effect of QUEUE_DESTROY. -/
def actQueueDestroy : State → Cmd → State :=
  fun s c => match ringOf? (c.b 16 1) with
      | some r => atOnce (s.modFn c.fn (fun x => { x with rings := vset x.rings r none })) c []
      | none => s

/-- QUEUE_DESTROY (0x02): a ring that carries the command itself has a handle without FINAL. -/
def execQueueDestroy : Fin 13 → Fin 32 → List (DWord × List Byte) → State → Out :=
  runCode 0x02 checkQueueDestroy actQueueDestroy

/-! ### Device (R459, R460) -/

/-- The report of DEV_QUERY in host memory, by SEL (R459). -/
def queryReport (s : State) (c : Cmd) : List Byte :=
  let mine := boundPart s c.fn
  match c.b 16 1 with
  | 1 => (match mine with | some p => coresOf s p | none => List.finRange 96).flatMap (fun k =>
      leBytes 4 (coreCtrlWord s k) ++ leBytes 4 (coreId s k) ++ leBytes 4 (servWord s (0x100 + 16 * k.val)) ++
        leBytes 4 (servWord s (0x104 + 16 * k.val)))
  | 2 => (List.finRange 6).flatMap (fun n =>
      leBytes 8 stackSpan ++ leBytes 8 (23808 * 2 ^ 20) ++ padTo (blockBytes (stackWord s n) 0 10) 48)
  | 3 => (match mine with | some p => [p] | none => List.finRange 12).flatMap (fun (p : Fin 12) =>
      let mask := s.ms.pmapA.toList.zipIdx.foldl (fun (m : Nat) (e : PmapEnt × Nat) =>
        if e.1.valid ∧ e.1.part.toNat = p.val then m ||| 2 ^ e.2 else m) 0
      let made := (s.part p).made
      padTo (leBytes 2 mask ++ leBytes 1 (b2n made) ++ leBytes 1 (if made then p.val + 1 else 0) ++
        blockBytes (closureWord s p) 0 9) 64)
  | 4 => blockBytes (servWord s) 0 16
  | _ => []

/-- The checks of DEV_QUERY. -/
def checkDevQuery : State → Cmd → Option Fail :=
  fun s c =>
      let sel := c.b 16 1
      fails [
        bad (decide (sel ≤ 4)) 16,
        only (decide (c.fn.val = 0) || (sel != 2 && sel != 4)) kDENIED,
        if sel = 0 then none else fails [dptr c 24, bad (decide ((queryReport s c).length ≤ c.b 32 4)) 32]]

/-- The effect of DEV_QUERY. -/
def actDevQuery : State → Cmd → State :=
  fun s c =>
      let id := leBytes 1 (if Config.isT984 then 0x54 else 0x60) ++ leBytes 1 0xB0 ++
        leBytes 1 (tsSummary s) ++ leBytes 1 (tsSummary s / 2 ^ 24) ++ leBytes 1 (tsSummary s / 2 ^ 8) ++
        leBytes 1 (tsSummary s / 2 ^ 16) ++
        leBytes 2 (if s.fab.idValid then s.fab.devId.toNat else 0xFFFF) ++ leBytes 4 s.sec.running.version.toNat ++
        leBytes 4 (match s.serv.packs.toList.find? (fun k => decide (k.state = 2)) with
          | some k => k.version.toNat | none => 0)
      if c.b 16 1 = 0 then atOnce s c id
      else atOnce (s.hostWrite (c.b 24 8) (queryReport s c)) c []

/-- DEV_QUERY (0x08). -/
def execDevQuery : Fin 13 → Fin 32 → List (DWord × List Byte) → State → Out :=
  runCode 0x08 checkDevQuery actDevQuery

/-- R460: the capability block. -/
def capBlock : List Byte :=
  padTo (leBytes 2 1 ++ leBytes 4 Config.sfuId.toNat ++ leBytes 1 96 ++ leBytes 1 32 ++ leBytes 2 2048 ++
    leBytes 2 3968 ++ leBytes 2 256 ++ leBytes 2 2 ++ leBytes 4 1200 ++ leBytes 4 1600 ++ leBytes 4 280 ++
    leBytes 4 23808 ++ leBytes 4 1048576) 64

/-- The checks of DEV_CAPS. -/
def checkDevCaps : State → Cmd → Option Fail :=
  fun _ c => fails [dptr c 24, bad (decide (64 ≤ c.b 32 4)) 32]

/-- The effect of DEV_CAPS. -/
def actDevCaps : State → Cmd → State :=
  fun s c => atOnce (s.hostWrite (c.b 24 8) capBlock) c (leBytes 2 1 ++ leBytes 4 Config.sfuId.toNat)

/-- DEV_CAPS (0x09). -/
def execDevCaps : Fin 13 → Fin 32 → List (DWord × List Byte) → State → Out :=
  runCode 0x09 checkDevCaps actDevCaps

/-! ### Partitions (R247, R458, R464) -/

/-- A parcel of the mask satisfies a property of its registers in either copy of the map. -/
def maskHits (s : State) (mask : Nat) (f : PmapEnt → Bool) : Bool :=
  (List.finRange 12).any (fun i => bit mask i.val && (f (vget s.ms.pmapS i) || f (vget s.ms.pmapA i)))

/-- The staged partition map waits for a chain count, and the command for the map. -/
def pmapWait (s : State) (c : Cmd) : State :=
  goLive { s with ms := { s.ms with pmapDue := some (s.chain + 1) } } c

/-- The checks of PART_CREATE. -/
def checkPartCreate : State → Cmd → Option Fail :=
  fun s c => fails [
      bad (match partOf? c.part with | some p => !(s.part p).made | none => false) 8,
      bad (!s.kci.live.any (fun d => d.opcode == 0x10 && d.part == c.part)) 8,
      bad (c.b 16 2 != 0 && !maskHits s (c.b 16 2) PmapEnt.valid) 16]

/-- The effect of PART_CREATE. -/
def actPartCreate : State → Cmd → State :=
  fun s c => match partOf? c.part with
      | some p => pmapWait (setParcels s p (c.b 16 2) false) c
      | none => s

/-- PART_CREATE (0x10): the partition exists when the map is in force (PARTITION_MAP_APPLY). -/
def execPartCreate : Fin 13 → Fin 32 → List (DWord × List Byte) → State → Out :=
  runCode 0x10 checkPartCreate actPartCreate

/-- The checks of PART_DESTROY. -/
def checkPartDestroy : State → Cmd → Option Fail :=
  fun s c => onPart s c (fun _ => none)

/-- The effect of PART_DESTROY. -/
def actPartDestroy : State → Cmd → State :=
  fun s c => inPart s c (fun p =>
      beginPartReset (goLive s c) p (fun d => decide (d.fn = c.fn ∧ d.ring = c.ring ∧ d.handle = c.handle)))

/-- PART_DESTROY (0x11): steps 1 to 3 of R464; PARTITION_RESET_DRAINED goes on. -/
def execPartDestroy : Fin 13 → Fin 32 → List (DWord × List Byte) → State → Out :=
  runCode 0x11 checkPartDestroy actPartDestroy

/-- The checks of PART_ASSIGN_PARCELS. -/
def checkPartAssignParcels : State → Cmd → Option Fail :=
  fun s c => onPart s c (fun p => fails [
      bad (c.b 16 2 != 0 && !maskHits s (c.b 16 2) (fun e => e.valid && decide (e.part.toNat ≠ p.val))) 16,
      only (!anyUnclosed s p) kBUSY])

/-- The effect of PART_ASSIGN_PARCELS. -/
def actPartAssignParcels : State → Cmd → State :=
  fun s c => inPart s c (fun p => pmapWait (setParcels s p (c.b 16 2) false) c)

/-- PART_ASSIGN_PARCELS (0x12). -/
def execPartAssignParcels : Fin 13 → Fin 32 → List (DWord × List Byte) → State → Out :=
  runCode 0x12 checkPartAssignParcels actPartAssignParcels

/-! ### The plat (R242, R243, R246) -/

/-- The entry that a PLAT_MAP carries. -/
def Cmd.plat (c : Cmd) : PlatEnt := .ofWords (c.b 16 4) (c.b 20 4) (c.b 24 4) (c.b 28 4)

/-- Some permission bit is set. -/
def PlatEnt.anyPerm (e : PlatEnt) : Bool := e.rd || e.wr || e.hostRd || e.hostWr || e.fabRd || e.fabWr

/-- R243: the key slot of an encrypted entry. -/
def platKey (s : State) (e : PlatEnt) : Option Fail :=
  if !e.enc then bad (e.keySlot == 0) 24
  else
    let k := vget s.sec.slots ⟨e.keySlot.toNat, e.keySlot.isLt⟩
    if !k.used then some (kBADARG, 24, [])
    else if k.owner ≠ e.part then some (kDENIED, 0, []) else bad (k.ktype == 1) 24

/-- R243: a later PLAT_MAP of an index changes only permission bits and TAG. -/
def PlatEnt.samePlace (a b : PlatEnt) : Bool :=
  a.stack == b.stack && a.baseG == b.baseG && a.sizeG == b.sizeG && a.part == b.part && a.enc == b.enc &&
    a.keySlot == b.keySlot

/-- R243: the active plat, whatever the command's transaction has staged. -/
def activePlat (s : State) (c : Cmd) : Vector PlatEnt 1024 :=
  match (if c.txn then txnOf s c.fn else none).bind (fun t => t.saved) with
  | some v => v.ms.platA
  | none => s.ms.platA

/-- R243: the place of an entry against those that are valid in either copy, the staged copy with what the
command's transaction has staged before it. -/
def platPlace (s : State) (c : Cmd) (i : Fin 1024) (e : PlatEnt) : Bool :=
  let act := activePlat s c
  let cur := if (vget s.ms.platS i).valid then vget s.ms.platS i else vget act i
  (!cur.valid || cur.samePlace e) &&
    (List.finRange 1024).all (fun j =>
      let free := fun (x : PlatEnt) => !x.valid || !overlap e.range.1 e.range.2 x.range.1 x.range.2
      decide (j = i) || (free (vget s.ms.platS j) && free (vget act j)))

/-- The staged plat waits for a chain count, and the command for the plat. -/
def platWait (s : State) (c : Cmd) : State :=
  goLive { s with ms := { s.ms with platDue := some (s.chain + 1) } } c

/-- The checks of PLAT_MAP. -/
def checkPlatMap : State → Cmd → Option Fail :=
  fun s c =>
      let e := c.plat
      fails [
        bad (platRsvdOk (c.b 16 4) 0 0 && e.valid && decide (e.stack.toNat ≤ 5)) 16,
        bad (platRsvdOk 0 (c.b 20 4) 0 && decide (1 ≤ e.sizeG.toNat ∧ e.baseG.toNat + e.sizeG.toNat ≤ 11904)) 20,
        bad (platRsvdOk 0 0 (c.b 24 4) && e.anyPerm && (e.part == 15 ||
          (match partOf? e.part.toNat with | some p => (s.part p).made | none => false))) 24,
        platKey s e,
        match entryOf? (c.b 32 2) with
        | some i => bad (platPlace s c i e) 16
        | none => some (kBADARG, 32, [])]

/-- The effect of PLAT_MAP. -/
def actPlatMap : State → Cmd → State :=
  fun s c => match entryOf? (c.b 32 2) with
      | some i => platWait (setPlat s i c.plat false) c
      | none => s

/-- PLAT_MAP (0x13). -/
def execPlatMap : Fin 13 → Fin 32 → List (DWord × List Byte) → State → Out :=
  runCode 0x13 checkPlatMap actPlatMap

/-- The checks of PLAT_UNMAP. -/
def checkPlatUnmap : State → Cmd → Option Fail :=
  fun s c => match entryOf? (c.b 32 2) with
      | some i => bad (vget s.ms.platS i).valid 32
      | none => some (kBADARG, 32, [])

/-- The effect of PLAT_UNMAP. -/
def actPlatUnmap : State → Cmd → State :=
  fun s c => match entryOf? (c.b 32 2) with
      | some i => platWait (setPlat s i .reset false) c
      | none => s

/-- PLAT_UNMAP (0x14). -/
def execPlatUnmap : Fin 13 → Fin 32 → List (DWord × List Byte) → State → Out :=
  runCode 0x14 checkPlatUnmap actPlatUnmap

/-! ### Memory (R219, R226, R255, R258) -/

/-- A range cut at the boundaries of 32-byte units. -/
def units (a n : Nat) : List (Nat × Nat) :=
  if n = 0 then []
  else (upFrom (a / 32) ((a + n - 1) / 32 - a / 32 + 1)).map (fun u =>
    (max a (32 * u), min (a + n) (32 * u + 32) - max a (32 * u)))

/-- The poisoned units of a range, as the control path meets them. -/
def pathPoison (s : State) (a n : Nat) : List (Nat × Nat) :=
  if pathPoisoned s a n then (units a n).filter (fun u => pathPoisoned s u.1 u.2) else []

/-- The access of a MEM command that the control path refuses first: write, address (R219). -/
def memFail (s : State) (c : Cmd) : Option (Bool × Nat) :=
  (memAccesses c).findSome? (fun x => (pathFail s c.fn x.1 x.2.1 x.2.2).map (fun a => (x.1, a)))

/-- The record of a MEM command that is refused (R219, R245). -/
def memNote (s : State) (c : Cmd) (w : Fail) : State :=
  if w.1 ≠ kDENIED ∨ headerFault s c ≠ none then s
  else match memFail s c with
    | some (wr, a) => pathViolation s c.fn wr a
    | none => s

/-- A MEM command that has moved its bytes waits for the report of R255, with its status and first poison. -/
def memMoved (s : State) (c : Cmd) (status first : Nat) : State :=
  goLive s { c with aux := status, due := BitVec.ofNat 64 first }

/-- The checks of a MEM command: its own, then R219. -/
def checkMem (checks : Cmd → Option Fail) : State → Cmd → Option Fail :=
  fun s c => fails [checks c, only (memFail s c).isNone kDENIED]

/-- A row of a MEM command. -/
def memRow (o : Nat) (checks : Cmd → Option Fail) := runRow (fun c => c.opcode == o) (checkMem checks) memNote

/-- The checks of MEM_COPY. -/
def checkMemCopy : Cmd → Option Fail :=
  fun c => fails [bad (c.b 32 8 % 4 == 0) 32, bad (decide (c.b 40 1 ≤ 2)) 40]

/-- The effect of MEM_COPY. -/
def actMemCopy : State → Cmd → State :=
  fun s c =>
      let src := c.b 16 8
      let dst := c.b 24 8
      let n := c.b 32 8
      if c.b 40 1 = 0 then memMoved (pathWrite s dst c.host false) c kOK 0
      else
        let s := meetErrs s [⟨src, n⟩]
        let po := pathPoison s src n
        let first := match po with | u :: _ => u.1 | [] => 0
        let (bs, s) := pathRead s src n
        if c.b 40 1 = 1 then memMoved (s.hostWrite dst bs) c (if po.isEmpty then kOK else kFAULT) first
        else
          let s := pathWrite s dst bs false
          let s := po.foldl (fun s u => pathWrite s (dst + (u.1 - src)) (bytesAt bs (u.1 - src) u.2) true) s
          memMoved s c kOK first

/-- MEM_COPY (0x18): to host memory a poisoned unit arrives as zeros and fails the command; to the device it stays
marked. -/
def execMemCopy : Fin 13 → Fin 32 → List (DWord × List Byte) → State → Out :=
  memRow 0x18 checkMemCopy actMemCopy

/-- The checks of MEM_FILL. -/
def checkMemFill : Cmd → Option Fail :=
  fun c => bad (c.b 32 8 % 8 == 0) 32

/-- The effect of MEM_FILL. -/
def actMemFill : State → Cmd → State :=
  fun s c => memMoved (pathWrite s (c.b 24 8) (List.replicate (c.b 32 8 / 8) (bytesAt c.raw 40 8)).flatten false) c kOK 0

/-- MEM_FILL (0x19). -/
def execMemFill : Fin 13 → Fin 32 → List (DWord × List Byte) → State → Out :=
  memRow 0x19 checkMemFill actMemFill

/-- The checks of MEM_SCRUB. -/
def checkMemScrub : Cmd → Option Fail :=
  fun c => fails [bad (c.b 24 8 % 32 == 0) 24, bad (c.b 32 8 % 32 == 0) 32]

/-- The effect of MEM_SCRUB. -/
def actMemScrub : State → Cmd → State :=
  fun s c => memMoved (pathWrite s (c.b 24 8) (List.replicate (c.b 32 8) 0) false) c kOK 0

/-- MEM_SCRUB (0x1A). -/
def execMemScrub : Fin 13 → Fin 32 → List (DWord × List Byte) → State → Out :=
  memRow 0x1A checkMemScrub actMemScrub

/-- MEM_COPY_DONE (R255): every byte of a MEM command is visible; it completes. -/
def execMemCopyDone (f : Fin 13) (handle : Word) (s : State) : Out :=
  .next (match s.kci.live.find? (fun c =>
      decide (c.fn = f ∧ c.handle = handle ∧ 0x18 ≤ c.opcode ∧ c.opcode ≤ 0x1A)) with
    | some c => finish s c c.aux 0 (if c.opcode = 0x18 then leBytes 8 c.due.toNat else [])
    | none => s)

end Sys2Proof.Machine
end

