-- ==== Sys2Proof/Machine/CmdStep.lean ====
section
/-! DEFINITION.  Commands on programs (R461, R458, R88, R209) and on steps (R346 to R352, R366 to R372). -/

namespace Sys2Proof.Machine

open Sys2Proof

/-! ### Programs -/

/-- Every core of a list belongs to the partition. -/
def coresIn (s : State) (p : Fin 12) (cs : List (Fin 96)) : Bool := cs.all (fun k => decide (ownerOf s k = some p))
/-- Every core of a list belongs to the partition and can run a program (R461). -/
def coresRun (s : State) (p : Fin 12) (cs : List (Fin 96)) : Bool :=
  coresIn s p cs && cs.all (fun k => !coreAbsent k && !coreOut s k)
/-- Every core of a list is STOPPED. -/
def coresStopped (s : State) (cs : List (Fin 96)) : Bool := cs.all (fun k => (s.core k).stopped)

/-- A record of a program's end (0x0102) or of a fault (0x0101) that names a core (R586). -/
def Rec.ends (r : Rec) (k : Fin 96) : Bool := (r.code == 0x0101 || r.code == 0x0102) && decide (r.core.toNat = k.val)

/-- The first fault of a PROG_START as its RESULT shows it: CODE, CORE, SLOT, ENG. -/
def faultResult (r : Rec) : List Byte :=
  let w := natAt r.body 0 4
  leBytes 1 w ++ leBytes 1 r.core.toNat ++ leBytes 2 (field w 16 11) ++ leBytes 1 (field w 27 4)

/-- Whether a named core of a PROG_START has ended; bits 0 to 95 of `aux` are ends seen, 96 to 191 stops. -/
def coreEnded (s : State) (d : Cmd) (k : Fin 96) : Bool :=
  bit d.aux k.val || bit d.aux (96 + k.val) || (s.core k).retired

/-- PROG_START commands of which every named core has ended complete (R458). -/
def progCheck (s : State) : State :=
  (s.kci.live.filter (fun d => d.opcode == 0x21 && (maskCores d 16).all (coreEnded s d))).foldl (fun s d =>
    if d.due ≠ 0 then finish s d kFAULT 0 (leBytes 5 (d.due.toNat - 1))
    else finish s d (if (maskCores d 16).any (fun k => bit d.aux (96 + k.val)) then kABORTED else kOK) 0 []) s

/-- A core that a PROG_STOP has stopped ends the program of a PROG_START, unless a record of its end is on its way. -/
def markStopped (s : State) (cs : List (Fin 96)) : State :=
  s.modKci (fun k => { k with live := k.live.map (fun d =>
    let ends := cs.filter (fun c =>
      bit (d.b 16 12) c.val && !bit d.aux c.val && !s.tel.queue.any (fun r => r.ends c))
    if d.opcode = 0x21 then { d with aux := ends.foldl (fun m c => m ||| 2 ^ (96 + c.val)) d.aux } else d) })

/-- PROG_STOP commands whose cores are STOPPED complete (R88, R458). -/
def stopCheck (s : State) : State :=
  progCheck ((s.kci.live.filter (fun d => d.opcode == 0x22 && coresStopped s (maskCores d 16))).foldl (fun s d =>
    finish (markStopped s (maskCores d 16)) d kOK 0 []) s)

/-- R345: a FAULT record names an UPD_APPLY or UPD_WCOPY, by the slot and the engine of its FAULT word. -/
def Rec.gated (s : State) (k : Fin 96) (r : Rec) : Bool :=
  let f := natAt r.body 0 4
  let op := insOp (s.num (progAddr k (field f 16 11)) 32)
  decide (field f 27 4 = 8) && (op == 1 || op == 3)

/-- Firmware reads a record of a core (R24): PROG_START and CORE_RETIRE commands that wait for it, the fault of a step (R345,
R361), a signal to DONE, UPD_DONE or EVAL_DONE (R350). -/
def recordRead (s : State) (r : Rec) : State :=
  match coreOf? r.core.toNat with
  | none => s
  | some k =>
    let s := if r.ends k then s.modKci (fun x => { x with live := x.live.map (fun d =>
        if d.opcode = 0x21 ∧ bit (d.b 16 12) k.val then { d with
          aux := d.aux ||| 2 ^ k.val
          due := if r.code = 0x0101 ∧ d.due = 0 then BitVec.ofNat 64 (1 + leNat (faultResult r)) else d.due }
        else d) })
      else s
    let s := if r.code = 0x0101 then coreFaulted s k (r.gated s k) else s
    let s := if r.code = 0x0106 then
        s.modCore k (fun x => { x with sigs := x.sigs ++ [(natAt r.body 0 1, BitVec.ofNat 32 (natAt r.body 1 4))] })
      else s
    (s.kci.live.filter (fun d => d.opcode == 0x53 && d.b 16 1 == k.val && (s.core k).retired)).foldl
      (fun s d => finish s d kOK 0 []) s

/-- TELEMETRY_RECORD_WRITE (R587, R350): the oldest queued record goes into the ring, its event is posted, and
control firmware reads it. -/
def execTelemetryRecordWrite (s : State) : Out :=
  .next (match s.tel.queue with
    | [] => s
    | r :: rest => stopCheck (recordRead (writeRecord s r rest) r))

/-- CORE_STOPPED (R88). -/
def execCoreStopped (c : Fin 96) (gap : Nat) (s : State) : Out :=
  onCore c gap s (fun s => stopCheck (settleStop s c))

/-- The checks of PROG_LOAD. -/
def checkProgLoad : State → Cmd → Option Fail :=
  fun s c => onPart s c (fun p => fails [
      dptr c 16, bad (coresRun s p (maskCores c 28)) 28, only (coresStopped s (maskCores c 28)) kBUSY])

/-- The effect of PROG_LOAD. -/
def actProgLoad : State → Cmd → State :=
  fun s c => inPart s c (fun p =>
      let rep := loadCheck c.host
      let s := (maskCores c 28).foldl (fun s k => noteLoaded (loadImage s k c.host rep) p k) s
      post (lookAgain s p) c true (if rep.code = 0 then kOK else kFAULT) 0
        (leBytes 1 rep.code ++ leBytes 1 (b2n rep.partly) ++ leBytes 2 rep.slot ++ leBytes 1 rep.desc))

/-- PROG_LOAD (0x20). -/
def execProgLoad : Fin 13 → Fin 32 → List (DWord × List Byte) → State → Out :=
  runCode 0x20 checkProgLoad actProgLoad

/-- The checks of PROG_START. -/
def checkProgStart : State → Cmd → Option Fail :=
  fun s c => onPart s c (fun p => fails [
      bad (coresRun s p (maskCores c 16)) 16, only (coresStopped s (maskCores c 16)) kBUSY])

/-- The effect of PROG_START. -/
def actProgStart : State → Cmd → State :=
  fun s c => progCheck ((maskCores c 16).foldl startCore (goLive s { c with aux := 0, due := 0 }))

/-- PROG_START (0x21). -/
def execProgStart : Fin 13 → Fin 32 → List (DWord × List Byte) → State → Out :=
  runCode 0x21 checkProgStart actProgStart

/-- The checks of PROG_STOP. -/
def checkProgStop : State → Cmd → Option Fail :=
  fun s c => onPart s c (fun p => bad (coresIn s p (maskCores c 16)) 16)

/-- The effect of PROG_STOP. -/
def actProgStop : State → Cmd → State :=
  fun s c => stopCheck ((maskCores c 16).foldl haltCore (goLive s { c with due := s.ts }))

/-- PROG_STOP (0x22). -/
def execProgStop : Fin 13 → Fin 32 → List (DWord × List Byte) → State → Out :=
  runCode 0x22 checkProgStop actProgStop

/-- The checks of PROG_STATUS. -/
def checkProgStatus : State → Cmd → Option Fail :=
  fun s c => onPart s c (fun p => fails [bad (coresIn s p (maskCores c 16)) 16, dptr c 32])

/-- The effect of PROG_STATUS. -/
def actProgStatus : State → Cmd → State :=
  fun s c =>
      let cs := maskCores c 16
      let count := fun (f : Core → Bool) => leBytes 1 (cs.filter (fun k => f (s.core k))).length
      let bs := cs.flatMap (fun k => leBytes 4 (coreCtrlWord s k) ++ leBytes 4 (seqStatus (s.core k)) ++
        leBytes 4 (s.core k).fault.word ++ leBytes 4 (phaseWord (s.core k)))
      atOnce (s.hostWrite (c.b 32 8) bs) c
        (count Core.running ++ count (fun k => k.stopped && !k.faulted) ++ count (fun k => k.faulted))

/-- PROG_STATUS (0x23). -/
def execProgStatus : Fin 13 → Fin 32 → List (DWord × List Byte) → State → Out :=
  runCode 0x23 checkProgStatus actProgStatus

/-! ### STEP_OPEN (R346, R347, R351) -/

/-- A retained-input range of a STEP_OPEN: address and bytes. -/
def Cmd.retained (c : Cmd) (j : Nat) : Nat × Nat := (natAt c.host (16 * j) 6, natAt c.host (16 * j + 8) 4 * 65536)

/-- R347: a retained range is aligned, lies within one plat entry of the partition and meets no range of the other
unclosed step; its reserved bytes are zero. -/
def retainedOk (s : State) (p : Fin 12) (i : Fin 2) (c : Cmd) (j : Nat) : Bool :=
  let (a, n) := c.retained j
  natAt c.host (16 * j + 6) 2 == 0 && natAt c.host (16 * j + 12) 4 == 0 && a % 65536 == 0 &&
    s.ms.platA.toList.any (fun e => e.covers a n && decide (e.part.toNat = p.val)) &&
    (List.finRange 16).all (fun e =>
      let r := vget (s.part p).cl.ret e
      decide (e.val / 8 = i.val) || !r.valid || !overlap a n (r.addr.toNat * 65536) (r.units.toNat * 65536))

/-- R345, R346: no STEP_OPEN is taken without a policy, or while a step is halted or in FAULTED_COMMIT. -/
def stepsRun (s : State) (p : Fin 12) : Bool :=
  (s.part p).cl.policy.isSome && ([0, 1] : List (Fin 2)).all (fun i =>
    !(slotAt s p i).halted && decide ((slotAt s p i).state ≠ stFAULTED))

/-- The checks of STEP_OPEN, in the order of R452; without a policy no step ID is the next one, and BUSY follows (R346). -/
def stepOpenBody (s : State) (c : Cmd) : Option Fail :=
  onPart s c (fun p =>
    let k := BitVec.ofNat 32 (c.b 16 4)
    let n := c.b 20 1
    fails [
      bad ((s.part p).cl.policy.isNone || k == (s.part p).cl.nextStep) 16, bad (decide (n ≤ 8)) 20,
      if n = 0 then none else dptr c 24,
      bad ((List.range n).all (retainedOk s p (parOf k) c)) 24,
      only (stepsRun s p && decide ((slotAt s p (parOf k)).state = stIDLE)) kBUSY])

/-- R377: the retained ranges of a step enter the retention table of its slot. -/
def setRetained (s : State) (p : Fin 12) (i : Fin 2) (c : Cmd) : State :=
  modCl s p (fun cl => { cl with ret := Vector.ofFn (fun e =>
    if e.val / 8 ≠ i.val then vget cl.ret e
    else if e.val % 8 < c.b 20 1 then
      let (a, n) := c.retained (e.val % 8)
      { valid := true, addr := BitVec.ofNat 32 (a / 65536), units := BitVec.ofNat 32 (n / 65536), refused := 0 }
    else .reset) })

/-- R431: cores admitted since the last STEP_OPEN become step cores; they owe nothing to an older unclosed step. -/
def admitCores (s : State) (p : Fin 12) (j : Fin 2) : State :=
  let new := (coresOf s p).filter (fun k => (tcore s k).admitWait)
  let s := new.foldl (fun s k => modTc s k (fun t => { t with admitWait := false })) s
  if (slotAt s p j).unclosed then
    modSlot s p j (fun x => { x with done := new.foldl (fun l k => insRise l k.val) x.done })
  else s

/-- STEP_OPEN is accepted: the step is OPEN, and released on the step cores that are done with the one before.  The base commit
of the first step (R351) is the one that IMPORT_STATE has begun, where that still waits for EVAL_DONE. -/
def openStep (s : State) (p : Fin 12) (c : Cmd) : State :=
  let k := BitVec.ofNat 32 (c.b 16 4)
  let i := parOf k
  let j := parOf (k + 1)
  let s := admitCores s p j
  let s := setStep (modSlot s p i (fun _ => { Slot.reset with stepId := k })) p i stOPEN
  let s := setRetained s p i c
  let s := modCl s p (fun cl => { cl with nextStep := k + 1 })
  let y := slotAt s p j
  let s := if y.unclosed then s
    else modXc s p (fun x => { x with active := decide (x.mode = 1 ∨ x.mode = 2) })
  let s := goLive s c
  let s := releaseDue s p
  if !(s.part p).cl.first then s
  else
    let s := modCl s p (fun cl => { cl with first := false })
    if (s.part p).cl.evalWait = 0 then evalGo s p 0 1 else s

/-- The effect of STEP_OPEN. -/
def actStepOpen : State → Cmd → State :=
  fun s c => inPart s c (fun p => openStep s p c)

/-- STEP_OPEN (0x28). -/
def execStepOpen : Fin 13 → Fin 32 → List (DWord × List Byte) → State → Out :=
  runCode 0x28 stepOpenBody actStepOpen

/-! ### STEP_CLOSE (R367) -/

/-- The checks of STEP_CLOSE with an ACTION; `ok` says which steps it may close. -/
def checkClose (action : Nat) (ok : State → Fin 12 → Fin 2 → Bool) : State → Cmd → Option Fail :=
  fun s c => onPart s c (fun p => fails [
    bad (c.b 20 1 == action) 20,
    bad (match holds s p (BitVec.ofNat 32 (c.b 16 4)) with | some i => ok s p i | none => false) 16])

/-- The effect of STEP_CLOSE: `act` on the slot of the step. -/
def actClose (act : State → Fin 12 → Fin 2 → State) : State → Cmd → State :=
  fun s c => inPart s c (fun p => atOnce (act s p (parOf (BitVec.ofNat 32 (c.b 16 4)))) c [])

/-- A row of STEP_CLOSE: the commands with its ACTION; one with an invalid ACTION is RETRY's to refuse. -/
def closeRow (action : Nat) (ok : State → Fin 12 → Fin 2 → Bool) (act : State → Fin 12 → Fin 2 → State) :=
  runRow (fun c => c.opcode == 0x29 && (c.b 20 1 == action ||
      (action == 1 && c.b 20 1 != 2 && c.b 20 1 != 3)))
    (checkClose action ok) (fun s _ _ => s) (actClose act)

/-- R367: RETRY and ABANDON are for a step halted in CHECKED. -/
def haltedChecked (s : State) (p : Fin 12) (i : Fin 2) : Bool :=
  (slotAt s p i).halted && decide ((slotAt s p i).state = stCHECKED)

/-- R363, R367, R402: the own entry goes out again, and the wait for the peers begins again. -/
def retryWait (s : State) (p : Fin 12) (i : Fin 2) : State :=
  let s := modSlot s p i (fun x => { x with peerWait := false })
  let s := if (s.part p).uc.timeout then restartPass s p else s
  readMail (sendEntry s p i false) p i

/-- The effect of STEP_CLOSE with RETRY. -/
def actStepCloseRetry : State → Fin 12 → Fin 2 → State :=
  fun s p i =>
    let wait := (slotAt s p i).peerWait
    let s := modSlot s p i (fun x => { x with replays := 0, halted := false })
    if wait then retryWait s p i else lookAgain (startReplay s p i false) p

/-- STEP_CLOSE with RETRY. -/
def execStepCloseRetry : Fin 13 → Fin 32 → List (DWord × List Byte) → State → Out :=
  closeRow 1 haltedChecked actStepCloseRetry

/-- The effect of STEP_CLOSE with ABANDON. -/
def actStepCloseAbandon : State → Fin 12 → Fin 2 → State :=
  fun s p i =>
    openGate (modSlot s p i (fun x => { x with abandoned := true, halted := false, peerWait := false, pos := 1 })) p

/-- STEP_CLOSE with ABANDON. -/
def execStepCloseAbandon : Fin 13 → Fin 32 → List (DWord × List Byte) → State → Out :=
  closeRow 2 haltedChecked actStepCloseAbandon

/-- The checks of STEP_CLOSE with EVAL. -/
def checkStepCloseEval : State → Fin 12 → Fin 2 → Bool :=
  fun s p i => decide ((slotAt s p i).state ≠ stFAULTED)

/-- The effect of STEP_CLOSE with EVAL. -/
def actStepCloseEval : State → Fin 12 → Fin 2 → State :=
  fun s p i => modSlot s p i (fun x => { x with evalReq := true })

/-- STEP_CLOSE with EVAL. -/
def execStepCloseEval : Fin 13 → Fin 32 → List (DWord × List Byte) → State → Out :=
  closeRow 3 checkStepCloseEval actStepCloseEval

/-! ### STEP_POLICY_SET (R372), STEP_RECORD_GET (R369) -/

/-- An address range of the partition with RD and WR. -/
def rangeRw (s : State) (p : Fin 12) (a n : Nat) : Bool := platAll s .rd p.val a n && platAll s .wr p.val a n

/-- R372: the fields of the policy block. -/
def policyFields (b : List Byte) : Bool :=
  let v := fun (o n : Nat) => natAt b o n
  let ctrs := (List.range 6).map (fun i => v (4 + i) 1)
  v 0 1 == 1 && decide (v 1 1 < 4) && decide (v 2 1 ≤ 15) && v 3 1 == 0 && ctrs.all (fun n => decide (n < 64)) &&
    decide ctrs.Nodup && decide (v 10 2 < 2048) && decide (1 ≤ v 12 2 ∧ v 12 2 ≤ 1024) && decide (v 14 2 < v 12 2) &&
    decide (1 ≤ v 18 2 ∧ v 18 2 ≤ 256) && decide (60 ≤ v 20 4 ∧ v 20 4 ≤ 10000) &&
    decide (1 ≤ v 24 4 ∧ v 24 4 ≤ 10000) && decide (v 28 4 ≤ 65536) && v 44 4 % 65536 == 0 && v 91 1 == 0 &&
    v 96 32 == 0

/-- R342: the exchange-context registers that follow the block, then zeros. -/
def policyNoise (b : List Byte) : Bool :=
  let w := fun (o : Nat) => natAt b (128 + o) 4
  decide (field (w 0) 0 2 ≠ 3) && field (w 0) 4 12 == 0 && field (w 16) 24 8 == 0 && field (w 20) 24 8 == 0 &&
    allZero (bytesAt b 152 40)

/-- R372: every address lies in plat entries of the partition with RD and WR, the mailbox with FAB_WR too. -/
def policyAddrs (s : State) (p : Fin 12) (b : List Byte) : Bool :=
  let v := fun (o n : Nat) => natAt b o n
  rangeRw s p (v 32 6) 64 && rangeRw s p (v 38 6) (v 44 4) && rangeRw s p (v 48 6) (2 * v 12 2 * 64) &&
    platAll s .fabWr p.val (v 48 6) (2 * v 12 2 * 64) && rangeRw s p (v 54 6) (v 12 2 * 8) &&
    rangeRw s p (v 60 6) (v 18 2 * 16) && rangeRw s p (v 66 6) (96 * 32) && rangeRw s p (v 72 6) (96 * 3 * v 28 4 * 16)

/-- The checks of STEP_POLICY_SET. -/
def checkStepPolicySet : State → Cmd → Option Fail :=
  fun s c => onPart s c (fun p => fails [
      dptr c 16,
      bad (policyFields c.host && policyNoise c.host && policyAddrs s p c.host &&
        (!bit (natAt c.host 1 1) 0 || (s.part p).srk.isSome)) 16,
      only (!anyUnclosed s p) kBUSY])

/-- The effect of STEP_POLICY_SET. -/
def actStepPolicySet : State → Cmd → State :=
  fun s c => inPart s c (fun p => atOnce (setPolicy s p c.host) c [])

/-- STEP_POLICY_SET (0x2A). -/
def execStepPolicySet : Fin 13 → Fin 32 → List (DWord × List Byte) → State → Out :=
  runCode 0x2A checkStepPolicySet actStepPolicySet

/-- The record that a STEP_RECORD_GET names: its place among the unreleased ones, and the record. -/
def recordFor (s : State) (p : Fin 12) (id : Nat) : Option (Nat × StepRec) :=
  let rs := (s.part p).cl.recs
  match (if id = 0xFFFFFFFF then (if rs.isEmpty then none else some 0)
    else rs.findIdx? (fun r => decide (r.step.toNat = id))) with
  | some n => rs[n]?.map (fun r => (n, r))
  | none => none

/-- RESULT of STEP_RECORD_GET. -/
def recordResult (r : StepRec) (left : Nat) : List Byte :=
  leBytes 4 r.step.toNat ++ leBytes 4 r.len ++ leBytes 4 left

/-- A step that waited for room in the record ring goes on (R369). -/
def retryRecords (s : State) (p : Fin 12) : State :=
  ([0, 1] : List (Fin 2)).foldl (fun s i => closeStep s p i) s

/-- The checks of STEP_RECORD_GET. -/
def checkStepRecordGet : State → Cmd → Option Fail :=
  fun s c => onPart s c (fun p => match recordFor s p (c.b 16 4) with
      | none => some (kBADARG, 16, [])
      | some (_, r) => fails [
          dptr c 24,
          if r.len ≤ c.b 32 4 then none
          else some (kBADARG, 32, recordResult r (s.part p).cl.recs.length)])

/-- The effect of STEP_RECORD_GET. -/
def actStepRecordGet : State → Cmd → State :=
  fun s c => inPart s c (fun p => match recordFor s p (c.b 16 4) with
      | none => s
      | some (n, r) =>
        let a := polNat s p 38 6 + r.off
        let po := s.poisoned a r.len
        let s := s.hostWrite (c.b 24 8) (s.bytes a r.len)
        if po then post s c true kFAULT 0 (recordResult r (s.part p).cl.recs.length)
        else
          let s := if bit (c.b 20 1) 0 then modCl s p (fun cl => { cl with recs := cl.recs.drop (n + 1) }) else s
          retryRecords (atOnce s c (recordResult r (s.part p).cl.recs.length)) p)

/-- STEP_RECORD_GET (0x2B). -/
def execStepRecordGet : Fin 13 → Fin 32 → List (DWord × List Byte) → State → Out :=
  runCode 0x2B checkStepRecordGet actStepRecordGet

end Sys2Proof.Machine
end

