-- ==== Sys2Proof/Machine/CmdState.lean ====
section
/-! DEFINITION.  Commands on the update group and on exported state (R403 to R408, R465). -/

namespace Sys2Proof.Machine

open Sys2Proof

/-- R398: the fingerprint area of a group of `n` members, leaf pages included, lies in one plat entry of the partition with RD
and FAB_WR. -/
def fpAreaOk (s : State) (p : Fin 12) (a n : Nat) : Bool :=
  s.ms.platA.toList.any (fun e =>
    e.covers a (0x91000 + 0x20000 * n) && decide (e.part.toNat = p.val) && e.grants .rd && e.grants .fabWr)

/-- The checks of UPD_GROUP_SET. -/
def checkUpdGroupSet : State → Cmd → Option Fail :=
  fun s c => onPart s c (fun p =>
      let v := c.b 36 4
      fails [
        bad (c.b 16 6 % 16 == 0) 16, bad (decide (1 ≤ c.b 22 2 ∧ c.b 22 2 ≤ 256)) 22,
        bad (c.b 24 6 % 4096 == 0 && fpAreaOk s p (c.b 24 6) (field v 21 4)) 24,
        bad (c.b 30 6 % 16 == 0) 30,
        bad (field v 25 7 == 0 && decide (field v 19 2 ≠ 3) && decide (1 ≤ field v 21 4 ∧ field v 21 4 ≤ 8) &&
          decide (field v 16 3 < field v 21 4)) 36,
        only (decide ((s.part p).uc.state = 0)) kBUSY])

/-- The effect of UPD_GROUP_SET. -/
def actUpdGroupSet : State → Cmd → State :=
  fun s c => inPart s c (fun p => atOnce (setGroup s p c) c [])

/-- UPD_GROUP_SET (0x30). -/
def execUpdGroupSet : Fin 13 → Fin 32 → List (DWord × List Byte) → State → Out :=
  runCode 0x30 checkUpdGroupSet actUpdGroupSet

/-! ### Tensor lists (R465) -/

/-- What a tensor list entry names in this device. -/
structure Named where
  entry : List Byte
  core : Fin 96
  /-- the descriptor in force; 0 for the delayed-scaling table -/
  desc : Nat
  deriving DecidableEq, Repr

/-- ROLE of an entry. -/
def Named.role (t : Named) : Nat := natAt t.entry 4 1
/-- The absolute layout of an entry that holds values. -/
def Named.lay (t : Named) : Lay := absT t.core t.desc

/-- R404, R406, R465: an entry of a list, where it is right: reserved bytes zero, a role of the format, a core of
the partition that is not retired, a TENSOR in DEV, DATA or ACC (an UPDATE descriptor for role 8). -/
def namedOf (s : State) (p : Fin 12) (logical : Bool) (e : List Byte) : Option Named :=
  let role := natAt e 4 1
  let d := fun (k : Fin 96) => descOf s k (natAt e 6 1)
  if natAt e 7 1 ≠ 0 ∨ natAt e 10 6 ≠ 0 ∨ natAt e 48 16 ≠ 0 ∨ role = 0 ∨ (if logical then 6 else 9) < role then none
  else match coreOf? (natAt e 5 1) with
    | none => none
    | some k =>
      if ownerOf s k ≠ some p ∨ (s.core k).retired ∨ coreAbsent k then none
      else if role = 9 then (if (s.part p).dsBase.isSome then some ⟨e, k, 0⟩ else none)
      else if (descCheck (d k)).isSome then none
      else if role = 8 then (if dType (d k) = 6 then some ⟨e, k, d k⟩ else none)
      else if dType (d k) = 1 ∧ dSpace (d k) ≤ 2 then some ⟨e, k, d k⟩ else none

/-- R406: the data or scales of an entry lie in the window of a core that is retired or absent. -/
def Named.retired (s : State) (t : Named) : Bool :=
  t.role < 8 && ([t.lay.extent, t.lay.scaleExtent].any (fun r => match winSplit r.1 with
    | some (k, _) => decide (r.2 ≠ 0) && ((s.core k).retired || coreAbsent k)
    | none => false))

/-- The entries of a command's list; none where one is wrong. -/
def namedList (s : State) (p : Fin 12) (logical : Bool) (c : Cmd) : Option (List Named) :=
  (List.range (c.b 24 2)).mapM (fun i =>
    (namedOf s p logical (bytesAt c.host (64 * i) 64)).filter (fun t => !t.retired s))

/-- The byte ranges that an entry holds: data, scales. -/
def Named.ranges (s : State) (p : Fin 12) (t : Named) : (Nat × Nat) × (Nat × Nat) :=
  if t.role = 8 then ((0, 0), (0, 0))
  else if t.role = 9 then (((match (s.part p).dsBase with | some b => b.toNat | none => 0), 262144), (0, 0))
  else (t.lay.extent, t.lay.scaleExtent)

/-! ### Exports (R403 to R406) -/

/-- Format of a tensor in the logical format. -/
def Named.logical16 (t : Named) : Bool := t.lay.fmt == .bf16

/-- Payload bytes of an entry. -/
def payLen (s : State) (p : Fin 12) (logical : Bool) (t : Named) : Nat :=
  if logical then t.lay.count * (if t.logical16 then 2 else 4)
  else (t.ranges s p).1.2 + (t.ranges s p).2.2

/-- Bytes of an export without its signature. -/
def bodyLen (s : State) (p : Fin 12) (logical : Bool) (ts : List Named) : Nat :=
  128 + (if logical then 64 else 128) * ts.length + (ts.map (payLen s p logical)).foldl (· + ·) 0

/-- R404: a delayed-scaling entry as exported. -/
def dsExport (e : List Byte) : List Byte := bytesAt e 0 3 ++ leBytes 1 (natAt e 3 1 % 2) ++ bytesAt e 4 12 ++ List.replicate 48 0

/-- The payload of an entry; FP32 and BF16 elements keep their bits (R51). -/
def payload (s : State) (p : Fin 12) (logical : Bool) (t : Named) : List Byte :=
  let r := t.ranges s p
  if logical then (loadAll s t.lay).flatMap (fun e =>
    if t.logical16 then leBytes 2 e.raw else leBytes 4 (if t.lay.fmt = .fp32 then e.raw else (toFloat f32 .rne e.val).1))
  else if t.role = 9 then (List.range 4096).flatMap (fun i => dsExport (s.bytes (r.1.1 + 64 * i) 64))
  else s.bytes r.1.1 r.1.2 ++ s.bytes r.2.1 r.2.2

/-- The table entry of a tensor whose payload begins at `off`. -/
def tableEntry (s : State) (p : Fin 12) (logical : Bool) (t : Named) (off : Nat) : List Byte :=
  let e := t.entry
  let r := t.ranges s p
  if logical then
    let l := t.lay
    let shape := [natAt e 16 4, natAt e 20 4, natAt e 24 4, natAt e 28 4]
    let rank := if shape.getD 3 1 ≠ 1 then 4 else if shape.getD 2 1 ≠ 1 then 3 else if shape.getD 1 1 ≠ 1 then 2 else 1
    bytesAt e 0 5 ++ leBytes 1 (if t.logical16 then 0x21 else 0x20) ++ leBytes 1 rank ++ leBytes 1 0 ++ bytesAt e 16 32 ++
      leBytes 4 l.n0 ++ leBytes 4 l.n1 ++ leBytes 4 l.n2 ++ leBytes 4 l.n3 ++ leBytes 8 off
  else bytesAt e 0 5 ++ leBytes 1 0 ++ bytesAt e 8 2 ++ leBytes 8 off ++ leBytes 8 r.1.2 ++
    leBytes 8 (if r.2.2 = 0 then 0 else off + r.1.2) ++ leBytes 8 r.2.2 ++ leBytes 6 r.1.1 ++ List.replicate 18 0 ++
    leBytes 64 t.desc

/-- The tensor table: payloads follow each other in list order. -/
def tensorTable (s : State) (p : Fin 12) (logical : Bool) : Nat → List Named → List Byte
  | _, [] => []
  | off, t :: ts => tableEntry s p logical t off ++ tensorTable s p logical (off + payLen s p logical t) ts

/-- R396 over a byte string: leaves of 128 sectors. -/
def leavesOf (bs : List Byte) : List DWord :=
  (chunks 128 ((chunks 32 bs).zipIdx)).map (fun g =>
    g.foldl (fun h (b, j) => h + sectorHash j (padTo b 32)) 0)

/-- FP_ROOT: the root over the datum copy. -/
def exportRoot (s : State) (p : Fin 12) (ts : List Named) : DWord :=
  rootFrom (groupsFrom (leavesOf ((ts.filter (fun t => decide (t.role = 1))).flatMap (payload s p false))))

/-- A signature as its bytes, r then s (R371, R403). -/
def sigBytes (key : BitVec 384) (body : List Byte) : List Byte :=
  (leBytes 96 (Config.ecdsaSign key (Config.sha384 body)).toNat).reverse

/-- R403: the whole export. -/
def exportBytes (s : State) (p : Fin 12) (logical sign : Bool) (ts : List Named) : List Byte :=
  let tab := tensorTable s p logical (128 + (if logical then 64 else 128) * ts.length) ts
  let pay := ts.flatMap (payload s p logical)
  let w16 := ts.any (fun t => decide (t.role = 1) && t.logical16)
  let total := 128 + tab.length + pay.length + (if sign then 96 else 0)
  let body := leBytes 4 (if logical then 0x314C5453 else 0x31575453) ++ leBytes 2 1 ++
    leBytes 2 (b2n sign + 2 * b2n w16) ++ leBytes 4 (s.part p).cl.prev.toNat ++
    leBytes 2 ((s.part p).job.getD 0).toNat ++ leBytes 1 p.val ++ leBytes 1 1 ++ leBytes 2 (polNat s p 16 2) ++
    leBytes 2 0 ++ leBytes 4 ts.length ++ leBytes 8 total ++ leBytes 8 (exportRoot s p ts).toNat ++
    leBytes 8 (utcNow s) ++ digestBytes (Config.sha384 (tab ++ pay)) ++ List.replicate 32 0 ++ tab ++ pay
  if sign then body ++ sigBytes ((s.part p).srk.getD 0) body else body

/-- R406: the first poisoned address that an export reads. -/
def exportPoison (s : State) (p : Fin 12) (ts : List Named) : Option Nat :=
  (ts.flatMap (fun t => [(t.ranges s p).1, (t.ranges s p).2])).findSome? (fun r =>
    if s.poisoned r.1 r.2 then ((units r.1 r.2).find? (fun u => s.poisoned u.1 u.2)).map Prod.fst else none)

/-- R244, R247: the stack ranges of the entries grant a permission to the partition, and the others lie in windows that it may
reach. -/
def namedGrant (s : State) (p : Fin 12) (perm : Perm) (ts : List Named) : Bool :=
  ts.all (fun t => ([(t.ranges s p).1, (t.ranges s p).2]).all (fun r =>
    r.2 == 0 || (if inStack r.1 then (stackFail s perm p.val r.1 r.2).isNone
      else match winSplit r.1 with | some (k, _) => (winFault s p.val k).isNone | none => false)))

/-- TOTAL_LEN. -/
def totalLen (s : State) (p : Fin 12) (logical : Bool) (c : Cmd) (ts : List Named) : Nat :=
  bodyLen s p logical ts + (if bit (c.b 27 1) 0 then 96 else 0)

/-- The checks of EXPORT_WORKING and EXPORT_LOGICAL. -/
def checkExport (logical : Bool) : State → Cmd → Option Fail :=
  fun s c => onPart s c (fun p => fails [
      dptr c 16, bad (decide (1 ≤ c.b 24 2)) 24, bad (decide (c.b 26 1 ≤ 1)) 26,
      bad (!bit (c.b 27 1) 0 || (s.part p).srk.isSome) 27,
      match namedList s p logical c with
      | none => some (kBADARG, 16, [])
      | some ts =>
        let n := totalLen s p logical c ts
        fails [
          if n ≤ c.b 36 8 then none else some (kBADARG, 36, leBytes 8 n),
          only (c.b 26 1 == 0 || (inStack (c.b 28 8) && (stackFail s .wr p.val (c.b 28 8) n).isNone)) kDENIED,
          only (namedGrant s p .rd ts) kDENIED,
          only (!s.sec.error) kFAULT]])

/-- What an export does first: the gate is held until EXPORT_DONE. -/
def actExport : State → Cmd → State :=
  fun s c => inPart s c (fun p => goLive (modCl s p (fun cl => { cl with exports := cl.exports + 1 })) c)

/-- A row of an export. -/
def exportRow (o : Nat) (logical : Bool) := runCode o (checkExport logical) actExport

/-- EXPORT_WORKING (0x31). -/
def execExportWorking : Fin 13 → Fin 32 → List (DWord × List Byte) → State → Out := exportRow 0x31 false
/-- EXPORT_LOGICAL (0x32). -/
def execExportLogical : Fin 13 → Fin 32 → List (DWord × List Byte) → State → Out := exportRow 0x32 true

/-- The bytes of an export go to host memory or to the partition's stack memory. -/
def placeExport (s : State) (c : Cmd) (bs : List Byte) : State :=
  if c.b 26 1 = 0 then s.hostWrite (c.b 28 8) bs else s.write (c.b 28 8) bs false

/-- The gate is closed and no commit of the partition is on its way, so that the state stands as commit PREV left
it (R403). -/
def gateAtRest (s : State) (p : Fin 12) : Bool :=
  decide ((s.part p).cl.gate = 0) && decide ((s.part p).uc.state = 0) &&
    ([0, 1] : List (Fin 2)).all (fun i => decide ((slotAt s p i).pos ≠ 2 ∧ (slotAt s p i).pos ≠ 3))

/-- An export has read every byte (R403, R406). -/
def endExport (s : State) (p : Fin 12) (c : Cmd) : State :=
  let logical := decide (c.opcode = 0x32)
  let ts := (namedList s p logical c).getD []
  let n := totalLen s p logical c ts
  let (s, status, result) := match exportPoison s p ts with
    | some a => let (bs, s) := s.freshBytes n; (placeExport s c bs, kFAULT, leBytes 8 a)
    | none => (placeExport s c (exportBytes s p logical (bit (c.b 27 1) 0) ts), kOK,
        leBytes 8 n ++ leBytes 8 (exportRoot s p ts).toNat)
  let s := modCl s p (fun cl => { cl with exports := cl.exports - 1 })
  openGate (finish s c status 0 result) p

/-- EXPORT_DONE (R403): the export has read every byte. -/
def execExportDone (f : Fin 13) (handle : Word) (s : State) : Out :=
  .next (match s.kci.live.find? (fun c =>
      decide (c.fn = f ∧ c.handle = handle ∧ (c.opcode = 0x31 ∨ c.opcode = 0x32))) with
    | some c => match c.scope s with
      | some p => if gateAtRest s p && fwRuns s then endExport s p c else s
      | none => s
    | none => s)

/-! ### IMPORT_STATE (R407) -/

/-- The bytes that an import reads. -/
def importBytes (s : State) (c : Cmd) : List Byte :=
  let n := c.b 36 8
  if c.b 26 1 = 0 then s.hostMem.readN (c.b 28 8) n else s.bytes (c.b 28 8) n

/-- The format of an export: logical, or not; none where MAGIC is neither. -/
def importKind (b : List Byte) : Option Bool :=
  if natAt b 0 4 = 0x31575453 then some false else if natAt b 0 4 = 0x314C5453 then some true else none

/-- R407: MAGIC, VERSION, LEVEL, TOTAL_LEN, PAYLOAD_HASH and the signature. -/
def importSound (s : State) (p : Fin 12) (b : List Byte) : Bool :=
  let total := natAt b 24 8
  let sign := bit (natAt b 6 2) 0
  let pay := total - (if sign then 96 else 0)
  (importKind b).isSome && natAt b 4 2 == 1 && natAt b 15 1 == 1 &&
    decide (total ≤ b.length ∧ 128 + (if sign then 96 else 0) ≤ total) &&
    decide (bytesAt b 48 48 = digestBytes (Config.sha384 (bytesAt b 128 (pay - 128)))) &&
    (!sign || (match (s.part p).srk with
      | some k => Config.ecdsaVerifyBy (Config.p384Public k) (Config.sha384 (b.take pay)) (bytesAt b pay 96)
      | none => false))

/-- The tensor table of an import. -/
def importTable (logical : Bool) (b : List Byte) : List (List Byte) :=
  let w := if logical then 64 else 128
  (List.range (natAt b 20 4)).map (fun i => bytesAt b (128 + w * i) w)

/-- R35, R405: every entry of a logical table is FP32 or BF16. -/
def importFormats (b : List Byte) : Bool :=
  importKind b != some true || (importTable true b).all (fun e => natAt e 5 1 == 0x20 || natAt e 5 1 == 0x21)

/-- R465: the table entries that match a list entry by TENSOR_ID and ROLE. -/
def matching (tab : List (List Byte)) (t : Named) : List (List Byte) :=
  tab.filter (fun e => decide (bytesAt e 0 5 = bytesAt t.entry 0 5))

/-- Position of element `n` of a shard within the whole tensor (R405). -/
def wholePos (t : Named) (n : Nat) : List Nat :=
  let l := t.lay
  let i := [n % l.n0, n / l.n0 % l.n1, n / l.n0 / l.n1 % l.n2, n / l.n0 / l.n1 / l.n2]
  (List.range 4).map (fun k => natAt t.entry (32 + 4 * k) 4 + i.getD k 0)

/-- The format and bits at a whole-tensor position in one table entry of the logical format, where its shard holds it. -/
def shardValue (b e : List Byte) (pos : List Nat) : Option (Fmt × Nat) :=
  let off := fun (k : Nat) => natAt e (24 + 4 * k) 4
  let ext := fun (k : Nat) => natAt e (40 + 4 * k) 4
  if (List.range 4).all (fun k => decide (off k ≤ pos.getD k 0 ∧ pos.getD k 0 < off k + ext k)) then
    let i := fun (k : Nat) => pos.getD k 0 - off k
    let n := i 0 + ext 0 * (i 1 + ext 1 * (i 2 + ext 2 * i 3))
    let a := natAt e 56 8
    some (if natAt e 5 1 = 0x21 then (.bf16, natAt b (a + 2 * n) 2) else (.fp32, natAt b (a + 4 * n) 4))
  else none

/-- The values of a target in the logical format; none where the export lacks one. -/
def importValues (b : List Byte) (tab : List (List Byte)) (t : Named) : Option (List (Fmt × Nat)) :=
  let es := (matching tab t).filter (fun e => decide (bytesAt e 8 16 = bytesAt t.entry 16 16))
  (List.range t.lay.count).mapM (fun n => es.findSome? (fun e => shardValue b e (wholePos t n)))

/-- R407, R465: a list entry finds what it restores. -/
def importMatch (s : State) (p : Fin 12) (logical : Bool) (b : List Byte) (tab : List (List Byte)) (t : Named) : Bool :=
  if logical then (importValues b tab t).isSome
  else match (matching tab t).head? with
    | none => false
    | some e => natAt e 64 64 == t.desc && natAt e 16 8 == (t.ranges s p).1.2 && natAt e 32 8 == (t.ranges s p).2.2

/-- R51, R407: a run of values in the target's format: bits of the same format are kept, others converted under RNE. -/
def importRun (f : Fmt) (vs : List (Fmt × Nat)) : RunOut :=
  let o := (convRun f ⟨0, false, none, 0, 64⟩ 0 (vs.map (fun v => (decodeElem v.1 0 v.2, false)))).1
  { o with codes := (o.codes.zip vs).map (fun x => if x.2.1 = f then x.2.2 else x.1) }

/-- One entry is restored. -/
def importOne (p : Fin 12) (logical : Bool) (b : List Byte) (tab : List (List Byte)) (s : State) (t : Named) : State :=
  if logical then
    let l := t.lay
    storeAll s l ((chunks l.n0 ((importValues b tab t).getD [])).map (importRun l.fmt))
  else match (matching tab t).head? with
    | none => s
    | some e =>
      let r := t.ranges s p
      let s := s.write r.1.1 (bytesAt b (natAt e 8 8) r.1.2) false
      s.write r.2.1 (bytesAt b (natAt e 24 8) r.2.2) false

/-- R345: what an import does first where a step is in FAULTED_COMMIT. -/
def leaveFaulted (s : State) (p : Fin 12) : State :=
  if ([0, 1] : List (Fin 2)).any (fun i => decide ((slotAt s p i).state = stFAULTED)) then
    let s := (liveOf s 0x28 p).foldl (fun s d => finish s d kABORTED 0 []) s
    let s := modCl s p (fun cl => { cl with
      slots := Vector.replicate 2 .reset, ret := Vector.replicate 16 .reset, gate := 0, updDone := [], upFault := false })
    dsFresh s p (s.part p).cl.nextStep
  else s

/-- The restore of an import, then one base commit (R351): that of the first step still to come, or the one that runs, serves.
-/
def restoreState (s : State) (p : Fin 12) (c : Cmd) : State :=
  let b := importBytes s c
  let logical := (importKind b).getD false
  let ts := (namedList s p logical c).getD []
  let id := natAt b 8 4
  let s := leaveFaulted s p
  let s := ts.foldl (importOne p logical b (importTable logical b)) s
  let s := s.modPart p (fun q => { q with
    cl := { q.cl with prev := BitVec.ofNat 32 id }, xc := { q.xc with warmed := 0 }, uc := { q.uc with revert := false } })
  let s := if ts.any (fun t => decide (t.role = 9)) then dsFresh s p (s.part p).cl.nextStep else s
  let cl := (s.part p).cl
  let s := if cl.policy.isSome ∧ cl.first = false ∧ cl.evalWait = 0 then evalGo s p 0 1 else s
  atOnce s c (leBytes 4 id)

/-- The checks of IMPORT_STATE. -/
def checkImportState : State → Cmd → Option Fail :=
  fun s c => onPart s c (fun p =>
      let faulted := ([0, 1] : List (Fin 2)).any (fun i => decide ((slotAt s p i).state = stFAULTED))
      let b := importBytes s c
      fails [
        dptr c 16, bad (decide (1 ≤ c.b 24 2)) 24, bad (decide (c.b 26 1 ≤ 1)) 26,
        only (c.b 26 1 == 0 || (inStack (c.b 28 8) && (stackFail s .rd p.val (c.b 28 8) (c.b 36 8)).isNone)) kDENIED,
        if c.b 26 1 = 1 ∧ s.poisoned (c.b 28 8) (c.b 36 8) then some (kFAULT, 0, []) else none,
        only (!s.sec.error) kFAULT,
        bad (importSound s p b) 28, bad (importFormats b) 28,
        match (importKind b).bind (fun logical => (namedList s p logical c).map (fun ts => (logical, ts))) with
        | none => some (kBADARG, 16, [])
        | some (logical, ts) => fails [
            bad (ts.all (importMatch s p logical b (importTable logical b))) 16,
            only (namedGrant s p .wr ts) kDENIED],
        only ((faulted || !anyUnclosed s p) && decide ((s.part p).uc.state = 0)) kBUSY])

/-- The effect of IMPORT_STATE. -/
def actImportState : State → Cmd → State :=
  fun s c => inPart s c (fun p => restoreState s p c)

/-- IMPORT_STATE (0x33). -/
def execImportState : Fin 13 → Fin 32 → List (DWord × List Byte) → State → Out :=
  runCode 0x33 checkImportState actImportState

end Sys2Proof.Machine
end

