-- ==== Sys2Proof/Machine/CmdTxn.lean ====
section
/-! DEFINITION.  Commands on transactions (R466 to R469), limits, latency, fabric and routes (R458, R462, R473). -/

namespace Sys2Proof.Machine

open Sys2Proof

/-! ### Transactions -/

/-- The checks of TXN_BEGIN. -/
def checkTxnBegin : State → Cmd → Option Fail :=
  fun s c => only ((txnOf s c.fn).isNone && decide (s.kci.txns.length < 4)) kBUSY

/-- The effect of TXN_BEGIN. -/
def actTxnBegin : State → Cmd → State :=
  fun s c =>
      let id := s.kci.nextTxn
      let s := s.modKci (fun k => { k with
        nextTxn := if id = 0xFFFF then 1 else id + 1
        txns := k.txns ++ [⟨id, c.fn, s.ts, [], 0, 0, 0, none, 0, none⟩] })
      atOnce s c (leBytes 2 id.toNat)

/-- TXN_BEGIN (0x38). -/
def execTxnBegin : Fin 13 → Fin 32 → List (DWord × List Byte) → State → Out :=
  runCode 0x38 checkTxnBegin actTxnBegin

/-- The function's open or committing transaction, where the command names it. -/
def namedTxn (s : State) (c : Cmd) : Option Txn :=
  match txnOf s c.fn with
  | some t => if t.id.toNat = c.b 16 2 then some t else none
  | none => none

/-- R468, R471, R475: the deed of a staged command at prepare: its epoch has moved, so that a deed that management has taken is
stale, or CONTROL does not hold it. -/
def deedMoved (s : State) (c : Cmd) : Option Nat :=
  match deedNeeded c.opcode with
  | none => none
  | some d =>
    let x := vget s.kci.deeds d
    if x.epoch.toNat ≠ c.epoch then some kSTALE else if x.holder ≠ 1 then some kNODEED else none

/-- R468, prepare: the staged command that fails, and its status: a deed that is stale or gone, or the unit of
command number `unit`. -/
def prepareFail (s : State) (t : Txn) (unit : Option Nat) : Option (Cmd × Nat) :=
  match t.staged.findSome? (fun d => (deedMoved s d).map (fun st => (d, st))) with
  | some x => some x
  | none => (unit.bind (fun i => t.staged[i]?)).map (fun d => (d, kFAULT))

/-- R468: a transaction is prepared, and waits for its commit count. -/
def prepare (unit : Option Nat) (s : State) (c : Cmd) : State :=
  match namedTxn s c with
  | none => s
  | some t =>
    let t := { t with commit := some c }
    let least := s.chain + 64
    let at_ := BitVec.ofNat 64 (c.b 24 8)
    match prepareFail s t unit with
    | some (d, st) => endTxn s t (fun x => if x.handle = d.handle ∧ x.ring = d.ring then st else kROLLED) kROLLED
        (seqOf d.handle) []
    | none =>
      if at_ ≠ 0 ∧ at_ < least then endTxn s t (fun _ => kROLLED) kROLLED 0xFFFFFFFF []
      else modTxn (stageRaise s t) c.fn (fun t => { t with phase := 1, c := if at_ = 0 then least else at_, commit := some c })

/-- The checks of TXN_COMMIT. -/
def checkTxnCommit : State → Cmd → Option Fail :=
  fun s c => fails [
      bad (match namedTxn s c with | some t => decide (t.phase = 0) | none => false) 16,
      bad (decide (c.b 24 8 ≤ s.chain.toNat + 2 ^ 32)) 24]

/-- TXN_COMMIT (0x39); `unit` numbers the staged command whose unit fails to prepare. -/
def execTxnCommit (f : Fin 13) (r : Fin 32) (host : List (DWord × List Byte)) (unit : Option Nat) (s : State) : Out :=
  runCode 0x39 checkTxnCommit (prepare unit) f r host s

/-- The checks of TXN_ROLLBACK. -/
def checkTxnRollback : State → Cmd → Option Fail :=
  fun s c => match namedTxn s c with
      | some t => only (decide (t.phase = 0)) kDENIED
      | none => some (kBADARG, 16, [])

/-- The effect of TXN_ROLLBACK. -/
def actTxnRollback : State → Cmd → State :=
  fun s c => match namedTxn s c with
      | some t => atOnce (rollBack s t (fun _ => kROLLED) kROLLED) c []
      | none => s

/-- TXN_ROLLBACK (0x3A). -/
def execTxnRollback : Fin 13 → Fin 32 → List (DWord × List Byte) → State → Out :=
  runCode 0x3A checkTxnRollback actTxnRollback

/-! ### Limits and latency -/

/-- A setting that is in force at once. -/
def took (set : State → Cmd → State) (s : State) (c : Cmd) : State :=
  let s := set s c
  atOnce s c (okResult s c)

/-- The checks of POWER_LIMIT_SET. -/
def checkPowerLimitSet : State → Cmd → Option Fail :=
  fun _ c => fails [
      bad (!bit (c.b 19 1) 0 || decide (150 ≤ c.b 16 2 ∧ c.b 16 2 ≤ 350)) 16,
      bad (!bit (c.b 19 1) 1 || decide (70 ≤ c.b 18 1 ∧ c.b 18 1 ≤ 95)) 18]

/-- POWER_LIMIT_SET (0x40). -/
def execPowerLimitSet : Fin 13 → Fin 32 → List (DWord × List Byte) → State → Out :=
  runCode 0x40 checkPowerLimitSet (took setPower)

/-- The checks of PSTEP_POLICY_SET. -/
def checkPstepPolicySet : State → Cmd → Option Fail :=
  fun _ c => fails [
      bad (decide (c.b 16 1 ≤ 8)) 16, bad (decide (c.b 16 1 ≤ c.b 17 1 ∧ c.b 17 1 ≤ 8)) 17,
      bad (decide (c.b 18 1 ≤ 2)) 18]

/-- PSTEP_POLICY_SET (0x41). -/
def execPstepPolicySet : Fin 13 → Fin 32 → List (DWord × List Byte) → State → Out :=
  runCode 0x41 checkPstepPolicySet (took setSteps)

/-- The checks of LATTOL_SET. -/
def checkLattolSet : State → Cmd → Option Fail :=
  fun _ _ => none

/-- LATTOL_SET (0x42). -/
def execLattolSet : Fin 13 → Fin 32 → List (DWord × List Byte) → State → Out :=
  runCode 0x42 checkLattolSet (took setTol)

/-! ### FABRIC_CONFIG (R462) -/

/-- The checks of FABRIC_CONFIG with a SEL. -/
def checkFabric (sel : Nat) (body : State → Cmd → Option Fail) : State → Cmd → Option Fail :=
  fun s c => fails [bad (c.b 16 1 == sel) 16, body s c]

/-- A row of FABRIC_CONFIG: the commands with its SEL; one with an invalid SEL is IDENTITY's to refuse. -/
def fabricRow (sel : Nat) (body : State → Cmd → Option Fail) :=
  runRow (fun c => c.opcode == 0x48 && (c.b 16 1 == sel || (sel == 1 && (c.b 16 1 == 0 || decide (7 < c.b 16 1)))))
    (checkFabric sel body) (fun s _ _ => s) (took setFabric)

/-- The checks of FABRIC_CONFIG of IDENTITY. -/
def checkFabricConfigIdentity : State → Cmd → Option Fail :=
  fun _ c =>
    let id := c.b 17 2
    let len := fun (o : Nat) => bad (decide (1 ≤ c.b o 1 ∧ c.b o 1 ≤ 8)) o
    fails [
      len 19, len 20, len 21,
      bad (decide (field id 0 3 < c.b 19 1 ∧ field id 3 3 < c.b 20 1 ∧ field id 6 3 < c.b 21 1)) 17]

/-- FABRIC_CONFIG of IDENTITY (R270, R271). -/
def execFabricConfigIdentity : Fin 13 → Fin 32 → List (DWord × List Byte) → State → Out :=
  fabricRow 1 checkFabricConfigIdentity

/-- The checks of FABRIC_CONFIG of JOB. -/
def checkFabricConfigJob : State → Cmd → Option Fail :=
  fun s c => onPart s c (fun p =>
    bad ((List.finRange 12).all (fun q => decide (q = p) || !(s.part q).made ||
      decide ((s.part q).job ≠ some (BitVec.ofNat 16 (c.b 17 2))))) 17)

/-- FABRIC_CONFIG of JOB (R295). -/
def execFabricConfigJob : Fin 13 → Fin 32 → List (DWord × List Byte) → State → Out :=
  fabricRow 2 checkFabricConfigJob

/-- The checks of FABRIC_CONFIG of TIMERS. -/
def checkFabricConfigTimers : State → Cmd → Option Fail :=
  fun _ c => fails [
    bad (decide (100 ≤ c.b 18 4 ∧ c.b 18 4 ≤ 100000)) 18,
    bad (decide (2 ≤ c.b 22 4 ∧ c.b 22 4 ≤ 10000)) 22, bad (decide (c.b 26 1 ≤ 15)) 26,
    bad (decide (1 ≤ c.b 27 4 ∧ c.b 27 4 ≤ 1000)) 27, bad (decide (1 ≤ c.b 31 4 ∧ c.b 31 4 ≤ 10000)) 31,
    bad (decide (c.b 22 4 * (c.b 26 1 + 1) < c.b 18 4)) 22]

/-- FABRIC_CONFIG of TIMERS (R263, R293, R298, R309). -/
def execFabricConfigTimers : Fin 13 → Fin 32 → List (DWord × List Byte) → State → Out :=
  fabricRow 3 checkFabricConfigTimers

/-- The checks of FABRIC_CONFIG of UPLINK. -/
def checkFabricConfigUplink : State → Cmd → Option Fail :=
  fun _ c => fails [
    bad (field (c.b 17 3) 16 2 == 2) 17, bad (decide (c.b 34 1 ≤ 2)) 34, bad (decide (c.b 35 1 ≤ 1)) 35,
    bad (decide (c.b 36 1 ≤ 7)) 36, bad (decide (c.b 37 1 ≤ 7)) 37, bad (decide (c.b 38 1 ≤ 7)) 38,
    bad (decide (c.b 39 1 ≤ 7)) 39]

/-- FABRIC_CONFIG of UPLINK (R302 to R307). -/
def execFabricConfigUplink : Fin 13 → Fin 32 → List (DWord × List Byte) → State → Out :=
  fabricRow 4 checkFabricConfigUplink

/-- The checks of FABRIC_CONFIG of BARRIER. -/
def checkFabricConfigBarrier : State → Cmd → Option Fail :=
  fun _ c => fails [
    bad (decide (c.b 17 1 ≤ 15)) 17, bad (decide (c.b 20 1 ≤ 2)) 20,
    bad (if c.b 20 1 = 1 then decide (c.b 21 1 ≤ 5) else if c.b 20 1 = 2 then decide (6 ≤ c.b 21 1 ∧ c.b 21 1 ≤ 7) else true) 21,
    bad (decide (c.b 25 1 ≤ 127)) 25]

/-- FABRIC_CONFIG of BARRIER (R308). -/
def execFabricConfigBarrier : Fin 13 → Fin 32 → List (DWord × List Byte) → State → Out :=
  fabricRow 5 checkFabricConfigBarrier

/-- The checks of FABRIC_CONFIG of STAGING. -/
def checkFabricConfigStaging : State → Cmd → Option Fail :=
  fun s c => onPart s c (fun p =>
    let others := ((List.finRange 12).map (fun q => if q = p then 0 else (s.part q).xc.slots.toNat)).foldl (· + ·) 0
    fails [bad (decide (c.b 17 2 ≤ 4096 ∧ others + c.b 17 2 ≤ 8192)) 17, bad (c.b 24 6 % 2 ^ 21 == 0) 24])

/-- FABRIC_CONFIG of STAGING (R327, R342). -/
def execFabricConfigStaging : Fin 13 → Fin 32 → List (DWord × List Byte) → State → Out :=
  fabricRow 6 checkFabricConfigStaging

/-- The checks of FABRIC_CONFIG of PORT. -/
def checkFabricConfigPort : State → Cmd → Option Fail :=
  fun _ c =>
    let v := c.b 18 4
    fails [bad (decide (c.b 17 1 ≤ 7)) 17,
      bad (field v 3 13 == 0 && field v 24 8 == 0 && decide (field v 0 2 ≠ 3)) 18]

/-- FABRIC_CONFIG of PORT (R281, R312). -/
def execFabricConfigPort : Fin 13 → Fin 32 → List (DWord × List Byte) → State → Out :=
  fabricRow 7 checkFabricConfigPort

/-! ### Routes and links -/

/-- R462: the reserved bits of a route entry are zero and its ORDER is one of the six. -/
def routeEntryOk (c : Cmd) (i : Nat) : Bool :=
  if c.b 16 1 = 0 then
    let e := natAt c.host (4 * i) 4
    field e 7 25 == 0 && decide (field e 1 3 ≤ 5)
  else
    let e := natAt c.host (8 * i) 8
    field e 1 7 == 0 && field e 10 6 == 0 && field e 48 16 == 0

/-- The checks of ROUTE_TABLE_SET. -/
def checkRouteTableSet : State → Cmd → Option Fail :=
  fun _ c => fails [
      bad (decide (c.b 16 1 ≤ 1)) 16,
      bad (decide (c.b 17 2 + c.b 19 2 ≤ (if c.b 16 1 = 0 then 512 else 128))) 17,
      dptr c 24, bad ((List.range (c.b 19 2)).all (routeEntryOk c)) 24]

/-- The effect of ROUTE_TABLE_SET. -/
def actRouteTableSet : State → Cmd → State :=
  fun s c =>
      let s := setRoutes s c false
      goLive (s.modFab (fun f => { f with routeDue := some (s.chain + 1) })) c

/-- ROUTE_TABLE_SET (0x49). -/
def execRouteTableSet : Fin 13 → Fin 32 → List (DWord × List Byte) → State → Out :=
  runCode 0x49 checkRouteTableSet actRouteTableSet

/-- The checks of LINK_STATUS. -/
def checkLinkStatus : State → Cmd → Option Fail :=
  fun _ c => fails [dptr c 24, bad (decide (224 ≤ c.b 32 4)) 32]

/-- The effect of LINK_STATUS. -/
def actLinkStatus : State → Cmd → State :=
  fun s c =>
      let bits := fun (f : Port → Bool) => leBytes 1 ((List.finRange 8).foldl (fun m n =>
        if f (portOf s n) then m + 2 ^ n.val else m) 0)
      let bs := (List.finRange 8).flatMap (fun n => blockBytes (portWord s n) 0 6) ++ blockBytes (routerWord s) 0 8
      atOnce (s.hostWrite (c.b 24 8) bs) c
        (bits (fun p => decide (p.state = 1)) ++ bits (fun p => decide (p.lanes ≠ 0)))

/-- LINK_STATUS (0x4A). -/
def execLinkStatus : Fin 13 → Fin 32 → List (DWord × List Byte) → State → Out :=
  runCode 0x4A checkLinkStatus actLinkStatus

end Sys2Proof.Machine
end

