-- ==== Sys2Proof/Machine/CmdService.lean ====
section
/-! DEFINITION.  Commands on test packs, core levels, snapshots, traces, counters, time, deeds, firmware and keys
(R430 to R437, R463, R470, R474, R550, R552 to R558, R564, R577, R581, R589). -/

namespace Sys2Proof.Machine

open Sys2Proof

/-! ### Test packs and firmware (R436, R437, R550, R572) -/

/-- A pack slot of a command. -/
def packOf? (n : Nat) : Option (Fin 4) := if h : n < 4 then some ⟨n, h⟩ else none

/-- The staging buffer verifies, activates or awaits a commit. -/
def sbTaken (s : State) : Bool := decide (s.sec.sb.state = 2 ∨ 5 ≤ s.sec.sb.state.toNat)

/-- A pack goes through the data halves of the staging buffer, which is then closed. -/
def stagePack (s : State) (slot : Nat) (bs : List Byte) : State :=
  let s := sbOpen s 2 (BitVec.ofNat 2 slot)
  sbClose ((chunks 131072 bs).zipIdx.foldl (fun s (b, i) =>
    let h : Fin 2 := if i % 2 = 0 then 0 else 1
    sbFull (s.write (halfAddr h) b false) h (BitVec.ofNat 18 b.length)) s)

/-- The checks of TESTPACK_LOAD. -/
def checkTestpackLoad : State → Cmd → Option Fail :=
  fun s c => fails [
      bad (packOf? (c.b 16 1)).isSome 16, dptr c 24, bad (decide (c.b 32 4 ≤ 524288)) 32,
      only (match packOf? (c.b 16 1) with | some i => decide ((vget s.serv.packs i).state ≠ 2) | none => false) kDENIED,
      only (!sbTaken s) kBUSY]

/-- The effect of TESTPACK_LOAD. -/
def actTestpackLoad : State → Cmd → State :=
  fun s c => goLive (stagePack s (c.b 16 1) c.host) c

/-- TESTPACK_LOAD (0x50): STAGE_VERIFY_COMPLETE goes on. -/
def execTestpackLoad : Fin 13 → Fin 32 → List (DWord × List Byte) → State → Out :=
  runCode 0x50 checkTestpackLoad actTestpackLoad

/-- The checks of TESTPACK_ACTIVATE. -/
def checkTestpackActivate : State → Cmd → Option Fail :=
  fun s c => match packOf? (c.b 16 1) with
      | some i => fails [bad (decide ((vget s.serv.packs i).state ≠ 0)) 16, only (activatePack s i).2 kDENIED]
      | none => some (kBADARG, 16, [])

/-- The effect of TESTPACK_ACTIVATE. -/
def actTestpackActivate : State → Cmd → State :=
  fun s c => match packOf? (c.b 16 1) with
      | some i => atOnce (activatePack s i).1 c (leBytes 4 (vget s.serv.packs i).version.toNat)
      | none => s

/-- TESTPACK_ACTIVATE (0x51). -/
def execTestpackActivate : Fin 13 → Fin 32 → List (DWord × List Byte) → State → Out :=
  runCode 0x51 checkTestpackActivate actTestpackActivate

/-- The checks of FW_STAGE. -/
def checkFwStage : State → Cmd → Option Fail :=
  fun s c => fails [
      dptr c 16, bad (decide (c.b 28 4 + c.b 24 4 ≤ 0x40000)) 28,
      only (if bit (c.b 32 1) 0 then !sbTaken s else decide (s.sec.sb.state = 1)) kBUSY]

/-- The effect of FW_STAGE. -/
def actFwStage : State → Cmd → State :=
  fun s c =>
      let s := s.modSb (fun b => { b with epoch := BitVec.ofNat 32 c.epoch })
      let s := if bit (c.b 32 1) 0 then sbOpen s 1 0 else s
      let close := bit (c.b 32 1) 1
      let s := stageChunk s (c.b 28 4) c.host close
      if close then goLive s c else atOnce s c []

/-- FW_STAGE (0x70): a chunk at an offset of the data halves. -/
def execFwStage : Fin 13 → Fin 32 → List (DWord × List Byte) → State → Out :=
  runCode 0x70 checkFwStage actFwStage

/-- The checks of FW_ACTIVATE. -/
def checkFwActivate : State → Cmd → Option Fail :=
  fun s _ => only (mayActivate s) kBUSY

/-- The effect of FW_ACTIVATE. -/
def actFwActivate : State → Cmd → State :=
  fun s c => beginActivation (goLive s c)

/-- FW_ACTIVATE (0x71). -/
def execFwActivate : Fin 13 → Fin 32 → List (DWord × List Byte) → State → Out :=
  runCode 0x71 checkFwActivate actFwActivate

/-! ### Levels of cores (R430 to R432) -/

/-- R430: a core may be lowered to a level. -/
def mayLower (s : State) (k : Fin 96) (l : Nat) : Bool :=
  let t := tcore s k
  if t.level = 1 ∧ l = 0 then decide (s.serv.watchPass.toNat ≤ t.clean.toNat)
  else if t.level = 2 ∧ l = 1 then !t.advised && quietHeld s k
  else false

/-- OBS_LEVEL_SET: the level, then ADMIT. -/
def obsLevel (s : State) (k : Fin 96) (l : Nat) (takeBack : Bool) : State :=
  let old := (tcore s k).level.toNat
  let s := setLevel s k (BitVec.ofNat 2 l) 0
  let s :=
    if l < old ∧ l = 1 then
      let s := modTc s k (fun t => { t with heldOut := true })
      if (tcore s k).run.isNone then returnEngines s k else s
    else if old < l ∧ l = 2 then buddyFails (leaveWork s k false) k
    else s
  if takeBack ∧ (tcore s k).heldOut = true then modTc s k (fun t => { t with heldOut := false, admitWait := true }) else s

/-- The checks of OBS_LEVEL_SET. -/
def checkObsLevelSet : State → Cmd → Option Fail :=
  fun s c => match coreOf? (c.b 16 1) with
      | none => some (kBADARG, 16, [])
      | some k => fails [
          bad (!coreAbsent k && !(s.core k).retired) 16, bad (decide (c.b 17 1 ≤ 2)) 17,
          only (decide ((tcore s k).level.toNat ≤ c.b 17 1) || mayLower s k (c.b 17 1)) kDENIED]

/-- The effect of OBS_LEVEL_SET. -/
def actObsLevelSet : State → Cmd → State :=
  fun s c => match coreOf? (c.b 16 1) with
      | some k => atOnce (obsLevel s k (c.b 17 1) (bit (c.b 18 1) 0)) c []
      | none => s

/-- OBS_LEVEL_SET (0x52). -/
def execObsLevelSet : Fin 13 → Fin 32 → List (DWord × List Byte) → State → Out :=
  runCode 0x52 checkObsLevelSet actObsLevelSet

/-- The checks of CORE_RETIRE. -/
def checkCoreRetire : State → Cmd → Option Fail :=
  fun _ c => bad (match coreOf? (c.b 16 1) with | some k => !coreAbsent k | none => false) 16

/-- The effect of CORE_RETIRE. -/
def actCoreRetire : State → Cmd → State :=
  fun s c => match coreOf? (c.b 16 1) with
      | some k =>
        let s := buddyFails (leaveWork (abortKernel (goLive s c) k) k true) k
        if (s.core k).retired then finish s c kOK 0 [] else s
      | none => s

/-- CORE_RETIRE (0x53): at once, or by the sequence of R267; a kernel on the core is aborted (R441). -/
def execCoreRetire : Fin 13 → Fin 32 → List (DWord × List Byte) → State → Out :=
  runCode 0x53 checkCoreRetire actCoreRetire

/-! ### Snapshots, traces, counters -/

/-- The checks of SNAPSHOT_TAKE. -/
def checkSnapshotTake : State → Cmd → Option Fail :=
  fun s _ => only (!s.snap.hold) kBUSY

/-- The effect of SNAPSHOT_TAKE. -/
def actSnapshotTake : State → Cmd → State :=
  fun s c => goLive (snapTrigger s 0) { c with aux := b2n s.snap.capturing }

/-- SNAPSHOT_TAKE (0x58): the next snapshot where one is being copied. -/
def execSnapshotTake : Fin 13 → Fin 32 → List (DWord × List Byte) → State → Out :=
  runCode 0x58 checkSnapshotTake actSnapshotTake

/-- The checks of TRACE_CONFIG. -/
def checkTraceConfig : State → Cmd → Option Fail :=
  fun s c =>
      let cs := maskCores c 16
      fails [
        bad (cs.all (fun k => !coreAbsent k) &&
          (match boundPart s c.fn with | some p => coresIn s p cs | none => true)) 16,
        bad (decide (c.b 28 1 ≤ 3)) 28, bad (decide (c.b 29 1 ≤ 8)) 29, bad (c.b 32 8 % 65536 == 0) 32,
        bad (c.b 40 4 % 65536 == 0) 40]

/-- The effect of TRACE_CONFIG. -/
def actTraceConfig : State → Cmd → State :=
  fun s c =>
      let size := c.b 40 4
      let own := match boundPart s c.fn with | some p => p.val | none => 15
      let v := c.b 30 1 % 2 + c.b 28 1 * 2 + c.b 29 1 * 8
      let s := (maskCores c 16).zipIdx.foldl (fun s (k, i) =>
        fbCtrlWrite (modFb s k (fun f => { f with
          ringAddr := BitVec.ofNat 48 (c.b 32 8 + i * size), ringSize := BitVec.ofNat 16 (size / 65536)
          owner := BitVec.ofNat 4 own })) k (BitVec.ofNat 32 v)) s
      atOnce s c []

/-- TRACE_CONFIG (0x59): each named core gets its ring and its control (R581). -/
def execTraceConfig : Fin 13 → Fin 32 → List (DWord × List Byte) → State → Out :=
  runCode 0x59 checkTraceConfig actTraceConfig

/-- Bytes of a register block of COUNTER_READ (R463). -/
def spaceSize (space : Nat) : Nat :=
  [0x590, 0x1000, 0x400, 0x400, 0x10000, 0x100, 0x10000, 0x100, 0x100, 0x100, 0x100, 0x10000, 0x10000].getD space 0

/-- How many blocks a space has; 0 where INDEX plays no part. -/
def spaceCount (space : Nat) : Nat := [96, 96, 96, 96, 6, 8, 0, 12, 12, 12, 12, 0, 0].getD space 0

/-- A word of a block (R463). -/
def spaceWord (s : State) (space index o : Nat) : Nat :=
  let p := partOf? index
  if space ≤ 3 then
    match coreOf? index with
    | none => 0
    | some k =>
      if coreClosed s k then (if space = 2 ∧ o = 0 then coreCtrlWord s k else 0)
      else if space = 0 then acWord (s.core k) o
      else if space = 1 then syncWord s k o
      else if space = 2 then engCtlWord s k o
      else laneWord (s.core k) o
  else if space = 4 then (match stackOf? (index * stackSpan) with | some n => stackWord s n o | none => 0)
  else if space = 5 then (match portNum? index with | some n => portWord s n o | none => 0)
  else if space = 6 then routerWord s o
  else if space = 0xB then servWord s o
  else if space = 0xC then deedWord s o
  else match p with
    | none => 0
    | some p =>
      if space = 7 then (s.part p).xc.word o
      else if space = 8 then closureWord s p o
      else if space = 9 then (s.part p).uc.word o
      else retWord s p o

/-- What reading a word of a block latches. -/
def spaceLatch (s : State) (space index o : Nat) : State :=
  match coreOf? index with
  | none => s
  | some k =>
    if space = 0 then coreRegLatch s k (0x840800 + o)
    else if space = 3 then coreRegLatch s k (0x840400 + o) else s

/-- R463: what a VF may read. -/
def spaceMine (s : State) (c : Cmd) : Bool :=
  match boundPart s c.fn with
  | none => true
  | some p =>
    let space := c.b 16 1
    if space ≤ 3 then (match coreOf? (c.b 17 1) with | some k => coresIn s p [k] | none => false)
    else decide (7 ≤ space ∧ space ≤ 0xA ∧ c.b 17 1 = p.val)

/-- The checks of COUNTER_READ. -/
def checkCounterRead : State → Cmd → Option Fail :=
  fun s c =>
      let space := c.b 16 1
      let n := c.b 20 2
      fails [
        bad (decide (space ≤ 0xC)) 16, bad (spaceCount space == 0 || decide (c.b 17 1 < spaceCount space)) 17,
        bad (c.b 18 2 % 4 == 0 && decide (c.b 18 2 + n ≤ spaceSize space)) 18,
        bad (n % 4 == 0 && decide (4 ≤ n ∧ n ≤ 4096)) 20, dptr c 24, only (spaceMine s c) kDENIED]

/-- The effect of COUNTER_READ. -/
def actCounterRead : State → Cmd → State :=
  fun s c =>
      let space := c.b 16 1
      let i := c.b 17 1
      let s := match (if space = 0 then coreOf? i else none) with
        | some k => if coreShut s k then s else s.modCore k acSample
        | none => s
      let (bs, s) := readWords (fun s o => spaceWord s space i o) (fun s o => spaceLatch s space i o) s (c.b 18 2) (c.b 20 2)
      atOnce (s.hostWrite (c.b 24 8) bs) c []

/-- COUNTER_READ (0x5A). -/
def execCounterRead : Fin 13 → Fin 32 → List (DWord × List Byte) → State → Out :=
  runCode 0x5A checkCounterRead actCounterRead

/-! ### Time (R474, R564) -/

/-- A leap year. -/
def leap (y : Nat) : Bool := (y % 4 == 0 && y % 100 != 0) || y % 400 == 0

/-- Days of each month. -/
def mdays (y : Nat) : List Nat := [31, if leap y then 29 else 28, 31, 30, 31, 30, 31, 31, 30, 31, 30, 31]

/-- R564: SECONDS of a date; none where it does not exist. -/
def calendar (y mo d h mi sec : Nat) : Option Nat :=
  if 2000 ≤ y ∧ y ≤ 2399 ∧ 1 ≤ mo ∧ mo ≤ 12 ∧ 1 ≤ d ∧ d ≤ (mdays y).getD (mo - 1) 0 ∧ h ≤ 23 ∧ mi ≤ 59 ∧ sec ≤ 59 then
    let days := ((upFrom 2000 (y - 2000)).map (fun n => if leap n then 366 else 365)).foldl (· + ·) 0 +
      ((mdays y).take (mo - 1)).foldl (· + ·) 0 + d - 1
    some (946684800 + 86400 * days + 3600 * h + 60 * mi + sec)
  else none

/-- R474: the SECONDS that a TIME_SET gives. -/
def timeOf (c : Cmd) : Option Nat :=
  if c.b 16 1 = 0 then (if 946684800 ≤ c.b 24 8 ∧ c.b 24 8 ≤ 13569465599 then some (c.b 24 8) else none)
  else calendar (c.b 32 2) (c.b 34 1) (c.b 35 1) (c.b 36 1) (c.b 37 1) (c.b 38 1)

/-- The checks of TIME_SET. -/
def checkTimeSet : State → Cmd → Option Fail :=
  fun _ c => fails [bad (decide (c.b 16 1 ≤ 1)) 16, only (timeOf c).isSome kBADDATE]

/-- The effect of TIME_SET. -/
def actTimeSet : State → Cmd → State :=
  fun s c => match timeOf c with
      | some t => atOnce (s.modSec (fun x => { x with utcBase := BitVec.ofNat 64 t, tsBase := s.ts, timeValid := true })) c []
      | none => s

/-- TIME_SET (0x60). -/
def execTimeSet : Fin 13 → Fin 32 → List (DWord × List Byte) → State → Out :=
  runCode 0x60 checkTimeSet actTimeSet

/-- The checks of TIME_GET. -/
def checkTimeGet : State → Cmd → Option Fail :=
  fun _ _ => none

/-- The effect of TIME_GET. -/
def actTimeGet : State → Cmd → State :=
  fun s c => atOnce s c (leBytes 8 (utcNow s) ++ leBytes 8 s.ts.toNat)

/-- TIME_GET (0x61). -/
def execTimeGet : Fin 13 → Fin 32 → List (DWord × List Byte) → State → Out :=
  runCode 0x61 checkTimeGet actTimeGet

/-! ### Deeds (R470) -/

/-- A deed resource of a command. -/
def deedOf? (n : Nat) : Option (Fin 5) := if h : n < 5 then some ⟨n, h⟩ else none

/-- HOLDER, EPOCH and CHAIN of a resource. -/
def deedResult (s : State) (r : Fin 5) : List Byte :=
  let d := vget s.kci.deeds r
  leBytes 4 d.holder.toNat ++ leBytes 4 d.epoch.toNat ++ leBytes 8 d.chain.toNat

/-- The checks of a deed command: its resource, then its own. -/
def checkDeed (body : State → Cmd → Fin 5 → Option Fail) : State → Cmd → Option Fail :=
  fun s c => match deedOf? (c.b 16 1) with | some r => body s c r | none => some (kBADARG, 16, [])

/-- The effect of a deed command, with the resource's registers as its result. -/
def actDeed (act : State → Cmd → Fin 5 → State) : State → Cmd → State :=
  fun s c => match deedOf? (c.b 16 1) with
    | some r => let s := act s c r; atOnce s c (deedResult s r)
    | none => s

/-- A row of a deed command. -/
def deedRow (o : Nat) (body : State → Cmd → Fin 5 → Option Fail) (act : State → Cmd → Fin 5 → State) :=
  runCode o (checkDeed body) (actDeed act)

/-- The checks of DEED_CLAIM. -/
def checkDeedClaim : State → Cmd → Fin 5 → Option Fail :=
  fun s _ r => only (claimOk s .control r) kDENIED

/-- The effect of DEED_CLAIM. -/
def actDeedClaim : State → Cmd → Fin 5 → State :=
  fun s _ r => (deedClaim s .control r).1

/-- DEED_CLAIM (0x68). -/
def execDeedClaim : Fin 13 → Fin 32 → List (DWord × List Byte) → State → Out :=
  deedRow 0x68 checkDeedClaim actDeedClaim

/-- The checks of DEED_RELEASE. -/
def checkDeedRelease : State → Cmd → Fin 5 → Option Fail :=
  fun s c r => fails [
      only (decide ((vget s.kci.deeds r).holder = 1)) kNODEED,
      only (decide ((vget s.kci.deeds r).epoch.toNat = c.epoch)) kSTALE]

/-- The effect of DEED_RELEASE. -/
def actDeedRelease : State → Cmd → Fin 5 → State :=
  fun s c r => (deedRelease s .control r (BitVec.ofNat 32 c.epoch)).1

/-- DEED_RELEASE (0x69). -/
def execDeedRelease : Fin 13 → Fin 32 → List (DWord × List Byte) → State → Out :=
  deedRow 0x69 checkDeedRelease actDeedRelease

/-- The checks of DEED_QUERY. -/
def checkDeedQuery : State → Cmd → Fin 5 → Option Fail :=
  fun _ _ _ => none

/-- The effect of DEED_QUERY. -/
def actDeedQuery : State → Cmd → Fin 5 → State :=
  fun s _ _ => s

/-- DEED_QUERY (0x6A). -/
def execDeedQuery : Fin 13 → Fin 32 → List (DWord × List Byte) → State → Out :=
  deedRow 0x6A checkDeedQuery actDeedQuery

/-! ### Keys (R552 to R558) -/

/-- The owner that a KEY_PART_SET names: a partition, or 15 for PF0's own entries (R556). -/
def keyOwner (s : State) (c : Cmd) : Option Nat :=
  if c.fn.val = 0 ∧ c.part = 15 then some 15
  else match c.scope s with
    | some p => if (s.part p).made then some p.val else none
    | none => none

/-- KTYPE, WRAP and JOB of the blob. -/
def Cmd.ktype (c : Cmd) : Nat := natAt c.host 0 1
/-- WRAP of the blob. -/
def Cmd.wrap (c : Cmd) : Nat := natAt c.host 1 1

/-- R555: least DLEN of a KTYPE. -/
def leastBlob (k : Nat) : Nat := [0, 0x58, 0x40, 0x810, 0x140].getD k 0

/-- R555: the header of a blob. -/
def blobOk (c : Cmd) : Bool :=
  decide (1 ≤ c.ktype ∧ c.ktype ≤ 4) && decide (c.wrap ≤ 1) && (c.ktype == 2 || natAt c.host 2 2 == 0) &&
    natAt c.host 4 12 == 0

/-- The key-wrapping key of the command's partition. -/
def kwkOf (s : State) (c : Cmd) : Option (BitVec 256) := (c.scope s).bind (fun p => (s.part p).kwk)

/-- R555, R556: the key that a LOAD brings; none where it cannot be unwrapped or is malformed. -/
def blobKey (s : State) (c : Cmd) : Option (List Byte) :=
  let plain := if c.wrap = 0 then some (bytesAt c.host 16 (if c.ktype = 1 then 64 else 40))
    else (kwkOf s c).bind (fun k => Config.aesUnwrap k (bytesAt c.host 16 (if c.ktype = 1 then 72 else 48)))
  match plain with
  | none => none
  | some bs =>
    if c.ktype = 1 then (if bs.length = 64 then some bs else none)
    else if bs.length = 40 ∧ natAt bs 36 4 = 0 then some (bs.take 36) else none

/-- The slot of a command. -/
def slotOf? (n : Nat) : Option (Fin 32) := ringOf? n

/-- R556, R250: a slot is free or the owner's own, and neither the plat nor an uplink uses it. -/
def slotFree (s : State) (i : Fin 32) (own : Nat) : Bool :=
  let k := vget s.sec.slots i
  (!k.used || decide (k.owner.toNat = own)) && !slotInUse s i

/-- What LOAD and GENERATE check alike; `kinds` are the KTYPEs that the operation knows. -/
def keyChecks (s : State) (c : Cmd) (op : Nat) (kinds : List Nat) (more : List (Option Fail)) : Option Fail :=
  match keyOwner s c, slotOf? (c.b 16 1) with
  | none, _ => some (kBADARG, 8, [])
  | _, none => some (kBADARG, 16, [])
  | some own, some i => fails ([
      bad (c.b 17 1 == op) 17, dptr c 24, bad (blobOk c && kinds.contains c.ktype) 24,
      bad (decide (leastBlob c.ktype ≤ c.b 32 4)) 32,
      bad (decide (c.ktype ≤ 2) || own != 15) 8, bad (decide (c.ktype ≤ 2) || i.val == 0) 16] ++ more ++ [
      only (decide (3 ≤ c.ktype) || slotFree s i own) kDENIED, only (!s.sec.error) kFAULT])

/-- A key enters a slot; a GCM key starts its counters and windows afresh (R557). -/
def fillSlot (s : State) (i : Fin 32) (c : Cmd) (own : Nat) (key : List Byte) : State :=
  s.modSec (fun x => { x with
    slots := vset x.slots i ⟨true, BitVec.ofNat 3 c.ktype, BitVec.ofNat 4 own, BitVec.ofNat 16 (natAt c.host 2 2), key⟩
    txFrames := x.txFrames.filter (fun t => decide (t.1.2 ≠ i.val))
    rxWins := x.rxWins.filter (fun w => decide (w.slot ≠ i.val)) })

/-- R555: the KWK exchange: the device's public key and the AAK signature go back to the host. -/
def kwkExchange (s : State) (c : Cmd) (p : Fin 12) : State :=
  let (d, s) := draw s
  let priv := BitVec.ofNat 384 d.toNat
  let theirs := BitVec.ofNat 768 (leNat (bytesAt c.host 16 96).reverse)
  let ours := (leBytes 96 (Config.p384Public priv).toNat).reverse
  let z := digestBytes (Config.ecdh priv theirs)
  let kdf := Config.sha384 ([0, 0, 0, 1] ++ z ++ ascii "CRX-KWK" ++ leBytes 1 p.val)
  let seen := bytesAt c.host 16 112 ++ ours
  let s := s.hostWrite (c.b 24 8 + 0x80) (ours ++ sigBytes (s.sec.aak.getD 0) (seen ++ leBytes 1 p.val))
  s.modPart p (fun q => { q with kwk := some (BitVec.ofNat 256 (kdf.toNat / 2 ^ 128)) })

/-- The checks of KEY_PART_SET with LOAD. -/
def checkKeyPartSetLoad : State → Cmd → Option Fail :=
  fun s c => keyChecks s c 1 [1, 2, 4] [
      bad (c.ktype != 4 || c.wrap == 0) 24, bad (c.ktype == 4 || (blobKey s c).isSome) 24]

/-- The effect of KEY_PART_SET with LOAD. -/
def actKeyPartSetLoad : State → Cmd → State :=
  fun s c =>
      let s := if c.wrap = 0 ∧ c.ktype ≠ 4 then s.modSec (fun x => { x with nonapproved := true }) else s
      match keyOwner s c, slotOf? (c.b 16 1), blobKey s c with
      | some own, some i, key =>
        if c.ktype = 4 then atOnce (inPart s c (kwkExchange s c)) c []
        else atOnce (fillSlot s i c own (key.getD [])) c []
      | _, _, _ => s

/-- KEY_PART_SET with LOAD; one with an invalid OP is LOAD's to refuse. -/
def execKeyPartSetLoad : Fin 13 → Fin 32 → List (DWord × List Byte) → State → Out :=
  runRow (fun c => c.opcode == 0x78 && c.b 17 1 != 2 && c.b 17 1 != 3)
    checkKeyPartSetLoad (fun s _ _ => s) actKeyPartSetLoad

/-- A new step-record key and its certificate (R552 to R555). -/
def makeSrk (s : State) (c : Cmd) (p : Fin 12) : State :=
  let (d, s) := draw s
  let priv := BitVec.ofNat 384 d.toNat
  let cert := Config.certDer 2 p.val (Config.p384Public priv) (if s.sec.timeValid then utcNow s else 946684800)
  let s := s.hostWrite (c.b 24 8 + 0x10) (leBytes 2 cert.length ++ leBytes 2 0 ++ cert)
  s.modPart p (fun q => { q with srk := some priv, srkCert := cert })

/-- The checks of KEY_PART_SET with GENERATE. -/
def checkKeyPartSetGenerate : State → Cmd → Option Fail :=
  fun s c => keyChecks s c 2 [1, 3] [
      only (c.ktype != 3 || (match c.scope s with | some p => !anyUnclosed s p | none => true)) kBUSY]

/-- The effect of KEY_PART_SET with GENERATE. -/
def actKeyPartSetGenerate (fail : Bool) : State → Cmd → State :=
  fun s c => match keyOwner s c, slotOf? (c.b 16 1) with
      | some own, some i =>
        if c.ktype = 3 then
          if fail then post (s.modSec (fun x => { x with error := true })) c true kFAULT 0 []
          else atOnce (inPart s c (makeSrk s c)) c []
        else
          let (d, s) := draw s
          atOnce (fillSlot s i c own (leBytes 64 d.toNat)) c []
      | _, _ => s

/-- KEY_PART_SET with GENERATE. -/
def execKeyPartSetGenerate (f : Fin 13) (r : Fin 32) (host : List (DWord × List Byte)) (fail : Bool) (s : State) : Out :=
  runRow (fun c => c.opcode == 0x78 && c.b 17 1 == 2)
    checkKeyPartSetGenerate (fun s _ _ => s) (actKeyPartSetGenerate fail) f r host s

/-- The checks of KEY_PART_SET with ZEROISE. -/
def checkKeyPartSetZeroise : State → Cmd → Option Fail :=
  fun s c => match keyOwner s c, slotOf? (c.b 16 1) with
      | none, _ => some (kBADARG, 8, [])
      | _, none => some (kBADARG, 16, [])
      | some own, some i => only (slotFree s i own) kDENIED

/-- The effect of KEY_PART_SET with ZEROISE. -/
def actKeyPartSetZeroise : State → Cmd → State :=
  fun s c => match slotOf? (c.b 16 1) with
      | some i => atOnce (s.modSec (fun x => { x with
          slots := vset x.slots i .reset
          txFrames := x.txFrames.filter (fun t => decide (t.1.2 ≠ i.val))
          rxWins := x.rxWins.filter (fun w => decide (w.slot ≠ i.val)) })) c []
      | none => s

/-- KEY_PART_SET with ZEROISE (R558). -/
def execKeyPartSetZeroise : Fin 13 → Fin 32 → List (DWord × List Byte) → State → Out :=
  runRow (fun c => c.opcode == 0x78 && c.b 17 1 == 3)
    checkKeyPartSetZeroise (fun s _ _ => s) actKeyPartSetZeroise

end Sys2Proof.Machine
end

