-- ==== Sys2Proof/Machine/Dispatch.lean ====
section
/-! DEFINITION.  Dispatch: one arm per command, each one direct call of its meaning. -/

namespace Sys2Proof.Machine

open Sys2Proof

/-- The effect of a command on everything but the queue. -/
def exec (i : Instr) (s : State) : Host.Outcome State Fault Refusal :=
  match i with
  | .kciCtrlEnable f => Sys2Proof.Machine.execKciCtrlEnable f s
  | .functionLevelReset f => Sys2Proof.Machine.execFunctionLevelReset f s
  | .sqTail f r tail entries => Sys2Proof.Machine.execSqTail f r tail entries s
  | .cqHead f r head => Sys2Proof.Machine.execCqHead f r head s
  | .bar2Read f x n => Sys2Proof.Machine.execBar2Read f x n s
  | .bar2Write f x bs => Sys2Proof.Machine.execBar2Write f x bs s
  | .queueCreate f r host => Sys2Proof.Machine.execQueueCreate f r host s
  | .queueDestroy f r host => Sys2Proof.Machine.execQueueDestroy f r host s
  | .devQuery f r host => Sys2Proof.Machine.execDevQuery f r host s
  | .devCaps f r host => Sys2Proof.Machine.execDevCaps f r host s
  | .partCreate f r host => Sys2Proof.Machine.execPartCreate f r host s
  | .partDestroy f r host => Sys2Proof.Machine.execPartDestroy f r host s
  | .partAssignParcels f r host => Sys2Proof.Machine.execPartAssignParcels f r host s
  | .platMap f r host => Sys2Proof.Machine.execPlatMap f r host s
  | .platUnmap f r host => Sys2Proof.Machine.execPlatUnmap f r host s
  | .memCopy f r host => Sys2Proof.Machine.execMemCopy f r host s
  | .memFill f r host => Sys2Proof.Machine.execMemFill f r host s
  | .memScrub f r host => Sys2Proof.Machine.execMemScrub f r host s
  | .progLoad f r host => Sys2Proof.Machine.execProgLoad f r host s
  | .progStart f r host => Sys2Proof.Machine.execProgStart f r host s
  | .progStop f r host => Sys2Proof.Machine.execProgStop f r host s
  | .progStatus f r host => Sys2Proof.Machine.execProgStatus f r host s
  | .stepOpen f r host => Sys2Proof.Machine.execStepOpen f r host s
  | .stepCloseRetry f r host => Sys2Proof.Machine.execStepCloseRetry f r host s
  | .stepCloseAbandon f r host => Sys2Proof.Machine.execStepCloseAbandon f r host s
  | .stepCloseEval f r host => Sys2Proof.Machine.execStepCloseEval f r host s
  | .stepPolicySet f r host => Sys2Proof.Machine.execStepPolicySet f r host s
  | .stepRecordGet f r host => Sys2Proof.Machine.execStepRecordGet f r host s
  | .updGroupSet f r host => Sys2Proof.Machine.execUpdGroupSet f r host s
  | .exportWorking f r host => Sys2Proof.Machine.execExportWorking f r host s
  | .exportLogical f r host => Sys2Proof.Machine.execExportLogical f r host s
  | .importState f r host => Sys2Proof.Machine.execImportState f r host s
  | .txnBegin f r host => Sys2Proof.Machine.execTxnBegin f r host s
  | .txnCommit f r host unit => Sys2Proof.Machine.execTxnCommit f r host unit s
  | .txnRollback f r host => Sys2Proof.Machine.execTxnRollback f r host s
  | .txnTimeout f => Sys2Proof.Machine.execTxnTimeout f s
  | .txnSwitch f => Sys2Proof.Machine.execTxnSwitch f s
  | .txnVerifyReport f fault => Sys2Proof.Machine.execTxnVerifyReport f fault s
  | .txnRevert f => Sys2Proof.Machine.execTxnRevert f s
  | .powerLimitSet f r host => Sys2Proof.Machine.execPowerLimitSet f r host s
  | .pstepPolicySet f r host => Sys2Proof.Machine.execPstepPolicySet f r host s
  | .lattolSet f r host => Sys2Proof.Machine.execLattolSet f r host s
  | .fabricConfigIdentity f r host => Sys2Proof.Machine.execFabricConfigIdentity f r host s
  | .fabricConfigJob f r host => Sys2Proof.Machine.execFabricConfigJob f r host s
  | .fabricConfigTimers f r host => Sys2Proof.Machine.execFabricConfigTimers f r host s
  | .fabricConfigUplink f r host => Sys2Proof.Machine.execFabricConfigUplink f r host s
  | .fabricConfigBarrier f r host => Sys2Proof.Machine.execFabricConfigBarrier f r host s
  | .fabricConfigStaging f r host => Sys2Proof.Machine.execFabricConfigStaging f r host s
  | .fabricConfigPort f r host => Sys2Proof.Machine.execFabricConfigPort f r host s
  | .routeTableSet f r host => Sys2Proof.Machine.execRouteTableSet f r host s
  | .linkStatus f r host => Sys2Proof.Machine.execLinkStatus f r host s
  | .testpackLoad f r host => Sys2Proof.Machine.execTestpackLoad f r host s
  | .testpackActivate f r host => Sys2Proof.Machine.execTestpackActivate f r host s
  | .obsLevelSet f r host => Sys2Proof.Machine.execObsLevelSet f r host s
  | .coreRetire f r host => Sys2Proof.Machine.execCoreRetire f r host s
  | .snapshotTake f r host => Sys2Proof.Machine.execSnapshotTake f r host s
  | .traceConfig f r host => Sys2Proof.Machine.execTraceConfig f r host s
  | .counterRead f r host => Sys2Proof.Machine.execCounterRead f r host s
  | .timeSet f r host => Sys2Proof.Machine.execTimeSet f r host s
  | .timeGet f r host => Sys2Proof.Machine.execTimeGet f r host s
  | .deedClaim f r host => Sys2Proof.Machine.execDeedClaim f r host s
  | .deedRelease f r host => Sys2Proof.Machine.execDeedRelease f r host s
  | .deedQuery f r host => Sys2Proof.Machine.execDeedQuery f r host s
  | .fwStage f r host => Sys2Proof.Machine.execFwStage f r host s
  | .fwActivate f r host => Sys2Proof.Machine.execFwActivate f r host s
  | .keyPartSetLoad f r host => Sys2Proof.Machine.execKeyPartSetLoad f r host s
  | .keyPartSetGenerate f r host fail => Sys2Proof.Machine.execKeyPartSetGenerate f r host fail s
  | .keyPartSetZeroise f r host => Sys2Proof.Machine.execKeyPartSetZeroise f r host s
  | .coreCtrlStart c v gap => Sys2Proof.Machine.execCoreCtrlStart c v gap s
  | .coreCtrlStop c v gap => Sys2Proof.Machine.execCoreCtrlStop c v gap s
  | .coreCtrlClrCounters c v gap => Sys2Proof.Machine.execCoreCtrlClrCounters c v gap s
  | .coreStopped c gap => Sys2Proof.Machine.execCoreStopped c gap s
  | .seqSignal c n inc gap => Sys2Proof.Machine.execSeqSignal c n inc gap s
  | .stepTagWrite c tag gap => Sys2Proof.Machine.execStepTagWrite c tag gap s
  | .engCtrlStep c e hold gap => Sys2Proof.Machine.execEngCtrlStep c e hold gap s
  | .ologWptrWrite c v gap => Sys2Proof.Machine.execOlogWptrWrite c v gap s
  | .vxSeedHi c hi gap => Sys2Proof.Machine.execVxSeedHi c hi gap s
  | .edgeSeedHi c hi gap => Sys2Proof.Machine.execEdgeSeedHi c hi gap s
  | .vxStateLo c gap => Sys2Proof.Machine.execVxStateLo c gap s
  | .edgeStateLo c gap => Sys2Proof.Machine.execEdgeStateLo c gap s
  | .acLoRead c b j gap => Sys2Proof.Machine.execAcLoRead c b j gap s
  | .clkLoRead r => Sys2Proof.Machine.execClkLoRead r s
  | .acCtrlSample c gap => Sys2Proof.Machine.execAcCtrlSample c gap s
  | .acCtrlClear c gap => Sys2Proof.Machine.execAcCtrlClear c gap s
  | .acSampleTick => Sys2Proof.Machine.execAcSampleTick s
  | .fbCtrlEnable c v gap => Sys2Proof.Machine.execFbCtrlEnable c v gap s
  | .fbCtrlTrigger c v gap => Sys2Proof.Machine.execFbCtrlTrigger c v gap s
  | .xcAttempt p even odd => Sys2Proof.Machine.execXcAttempt p even odd s
  | .limCtrlCommit w epoch => Sys2Proof.Machine.execLimCtrlCommit w epoch s
  | .limitsApply => Sys2Proof.Machine.execLimitsApply s
  | .limFlush w epoch stop => Sys2Proof.Machine.execLimFlush w epoch stop s
  | .pcSns n mask => Sys2Proof.Machine.execPcSns n mask s
  | .pointMaskApply n => Sys2Proof.Machine.execPointMaskApply n s
  | .deedReqClaim w r => Sys2Proof.Machine.execDeedReqClaim w r s
  | .deedReqRelease w r epoch => Sys2Proof.Machine.execDeedReqRelease w r epoch s
  | .sbCtrlOpen w epoch comp slot => Sys2Proof.Machine.execSbCtrlOpen w epoch comp slot s
  | .sbCtrlClose w epoch => Sys2Proof.Machine.execSbCtrlClose w epoch s
  | .sbCtrlActivate w epoch => Sys2Proof.Machine.execSbCtrlActivate w epoch s
  | .sbCtrlCancel w epoch => Sys2Proof.Machine.execSbCtrlCancel w epoch s
  | .sbHalfFull w epoch h len => Sys2Proof.Machine.execSbHalfFull w epoch h len s
  | .stageVerifyComplete flash => Sys2Proof.Machine.execStageVerifyComplete flash s
  | .registerWrite at_ value => Sys2Proof.Machine.execRegisterWrite at_ value s
  | .seqDispatch c gap => Sys2Proof.Machine.execSeqDispatch c gap s
  | .nop c gap => Sys2Proof.Machine.execNop c gap s
  | .loop c gap => Sys2Proof.Machine.execLoop c gap s
  | .halt c gap => Sys2Proof.Machine.execHalt c gap s
  | .load c gap => Sys2Proof.Machine.execLoad c gap s
  | .fill c gap => Sys2Proof.Machine.execFill c gap s
  | .store c gap => Sys2Proof.Machine.execStore c gap s
  | .gather c gap => Sys2Proof.Machine.execGather c gap s
  | .scatter c gap => Sys2Proof.Machine.execScatter c gap s
  | .scatterAdd c gap => Sys2Proof.Machine.execScatterAdd c gap s
  | .csrExpand c gap => Sys2Proof.Machine.execCsrExpand c gap s
  | .put c gap => Sys2Proof.Machine.execPut c gap s
  | .redPut c gap => Sys2Proof.Machine.execRedPut c gap s
  | .mcast c gap => Sys2Proof.Machine.execMcast c gap s
  | .dispatch c gap => Sys2Proof.Machine.execDispatch c gap s
  | .combine c gap => Sys2Proof.Machine.execCombine c gap s
  | .expect c gap => Sys2Proof.Machine.execExpect c gap s
  | .redExpect c gap => Sys2Proof.Machine.execRedExpect c gap s
  | .tokenRecv c gap => Sys2Proof.Machine.execTokenRecv c gap s
  | .combineRecv c gap => Sys2Proof.Machine.execCombineRecv c gap s
  | .mmul c gap => Sys2Proof.Machine.execMmul c gap s
  | .cvt c gap => Sys2Proof.Machine.execCvt c gap s
  | .mvmul c gap => Sys2Proof.Machine.execMvmul c gap s
  | .ringSet c gap => Sys2Proof.Machine.execRingSet c gap s
  | .add c gap => Sys2Proof.Machine.execAdd c gap s
  | .sub c gap => Sys2Proof.Machine.execSub c gap s
  | .mul c gap => Sys2Proof.Machine.execMul c gap s
  | .fma c gap => Sys2Proof.Machine.execFma c gap s
  | .div c gap => Sys2Proof.Machine.execDiv c gap s
  | .min c gap => Sys2Proof.Machine.execMin c gap s
  | .max c gap => Sys2Proof.Machine.execMax c gap s
  | .abs c gap => Sys2Proof.Machine.execAbs c gap s
  | .neg c gap => Sys2Proof.Machine.execNeg c gap s
  | .sqrt c gap => Sys2Proof.Machine.execSqrt c gap s
  | .copy c gap => Sys2Proof.Machine.execCopy c gap s
  | .sfu c gap => Sys2Proof.Machine.execSfu c gap s
  | .dropout c gap => Sys2Proof.Machine.execDropout c gap s
  | .randU c gap => Sys2Proof.Machine.execRandU c gap s
  | .iadd c gap => Sys2Proof.Machine.execIadd c gap s
  | .isub c gap => Sys2Proof.Machine.execIsub c gap s
  | .imin c gap => Sys2Proof.Machine.execImin c gap s
  | .imax c gap => Sys2Proof.Machine.execImax c gap s
  | .and c gap => Sys2Proof.Machine.execAnd c gap s
  | .or c gap => Sys2Proof.Machine.execOr c gap s
  | .xor c gap => Sys2Proof.Machine.execXor c gap s
  | .softmax c gap => Sys2Proof.Machine.execSoftmax c gap s
  | .lnorm c gap => Sys2Proof.Machine.execLnorm c gap s
  | .rmsnorm c gap => Sys2Proof.Machine.execRmsnorm c gap s
  | .osmUpdate c gap => Sys2Proof.Machine.execOsmUpdate c gap s
  | .osmFinal c gap => Sys2Proof.Machine.execOsmFinal c gap s
  | .rsum c gap => Sys2Proof.Machine.execRsum c gap s
  | .rmax c gap => Sys2Proof.Machine.execRmax c gap s
  | .vld c gap => Sys2Proof.Machine.execVld c gap s
  | .vst c gap => Sys2Proof.Machine.execVst c gap s
  | .updApply c gap => Sys2Proof.Machine.execUpdApply c gap s
  | .updNorm c gap => Sys2Proof.Machine.execUpdNorm c gap s
  | .updWcopy c gap => Sys2Proof.Machine.execUpdWcopy c gap s
  | .sort c gap => Sys2Proof.Machine.execSort c gap s
  | .merge c gap => Sys2Proof.Machine.execMerge c gap s
  | .union c gap => Sys2Proof.Machine.execUnion c gap s
  | .intersect c gap => Sys2Proof.Machine.execIntersect c gap s
  | .unique c gap => Sys2Proof.Machine.execUnique c gap s
  | .topk c gap => Sys2Proof.Machine.execTopk c gap s
  | .segment c gap => Sys2Proof.Machine.execSegment c gap s
  | .hist c gap => Sys2Proof.Machine.execHist c gap s
  | .instructionComplete c e gap => Sys2Proof.Machine.execInstructionComplete c e gap s
  | .instructionFault c e k code gap => Sys2Proof.Machine.execInstructionFault c e k code gap s
  | .stackRequest src a write n errs => Sys2Proof.Machine.execStackRequest src a write n errs s
  | .rowRepairComplete n done => Sys2Proof.Machine.execRowRepairComplete n done s
  | .sparingComplete n => Sys2Proof.Machine.execSparingComplete n s
  | .patrolScrub n errs pass => Sys2Proof.Machine.execPatrolScrub n errs pass s
  | .stackTempRead n t => Sys2Proof.Machine.execStackTempRead n t s
  | .tempStale n => Sys2Proof.Machine.execTempStale n s
  | .memoryStepChange => Sys2Proof.Machine.execMemoryStepChange s
  | .memoryStepDone => Sys2Proof.Machine.execMemoryStepDone s
  | .mstepAutoDecision delivered admitted => Sys2Proof.Machine.execMstepAutoDecision delivered admitted s
  | .platApply => Sys2Proof.Machine.execPlatApply s
  | .partitionMapApply => Sys2Proof.Machine.execPartitionMapApply s
  | .routeTableApply => Sys2Proof.Machine.execRouteTableApply s
  | .portTrained n peer => Sys2Proof.Machine.execPortTrained n peer s
  | .codewordReceive n count good corrected flits => Sys2Proof.Machine.execCodewordReceive n count good corrected flits s
  | .linkControlFlit n ack nak hs hsAt lanes dev credits => Sys2Proof.Machine.execLinkControlFlit n ack nak hs hsAt lanes dev credits s
  | .linkRetrainDone n ok => Sys2Proof.Machine.execLinkRetrainDone n ok s
  | .laneFault n lane => Sys2Proof.Machine.execLaneFault n lane s
  | .handshakeSwitch n => Sys2Proof.Machine.execHandshakeSwitch n s
  | .laneRetrained n => Sys2Proof.Machine.execLaneRetrained n s
  | .partnerSilence n => Sys2Proof.Machine.execPartnerSilence n s
  | .portIdleTwoLane n => Sys2Proof.Machine.execPortIdleTwoLane n s
  | .messageForward i0 => Sys2Proof.Machine.execMessageForward i0 s
  | .noRouteHold i0 => Sys2Proof.Machine.execNoRouteHold i0 s
  | .putMessage m => Sys2Proof.Machine.execPutMessage m s
  | .redPutMessage m => Sys2Proof.Machine.execRedPutMessage m s
  | .mcastMessage port m => Sys2Proof.Machine.execMcastMessage port m s
  | .dispatchMessage m => Sys2Proof.Machine.execDispatchMessage m s
  | .combineMessage m => Sys2Proof.Machine.execCombineMessage m s
  | .ackMessage m => Sys2Proof.Machine.execAckMessage m s
  | .refuseMessage m => Sys2Proof.Machine.execRefuseMessage m s
  | .barArriveMessage port m => Sys2Proof.Machine.execBarArriveMessage port m s
  | .barReleaseMessage port m => Sys2Proof.Machine.execBarReleaseMessage port m s
  | .barrierArriveLocal i0 gen => Sys2Proof.Machine.execBarrierArriveLocal i0 gen s
  | .barTimeout i0 => Sys2Proof.Machine.execBarTimeout i0 s
  | .ethernetFrameReceive u payload => Sys2Proof.Machine.execEthernetFrameReceive u payload s
  | .pfcFrame u prio xoff => Sys2Proof.Machine.execPfcFrame u prio xoff s
  | .pauseFrame u => Sys2Proof.Machine.execPauseFrame u s
  | .groupComplete c group gap => Sys2Proof.Machine.execGroupComplete c group gap s
  | .gapTimeout c group gap => Sys2Proof.Machine.execGapTimeout c group gap s
  | .resendTimeout i0 => Sys2Proof.Machine.execResendTimeout i0 s
  | .doneSignal c => Sys2Proof.Machine.execDoneSignal c s
  | .digestComplete p => Sys2Proof.Machine.execDigestComplete p s
  | .buddyHalt b => Sys2Proof.Machine.execBuddyHalt b s
  | .suspectTimeout c => Sys2Proof.Machine.execSuspectTimeout c s
  | .mailboxPoll p => Sys2Proof.Machine.execMailboxPoll p s
  | .closeTimeout p => Sys2Proof.Machine.execCloseTimeout p s
  | .updDoneSignal c => Sys2Proof.Machine.execUpdDoneSignal c s
  | .evalDoneSignal c => Sys2Proof.Machine.execEvalDoneSignal c s
  | .fpDigestDone p => Sys2Proof.Machine.execFpDigestDone p s
  | .fpRootsComplete p => Sys2Proof.Machine.execFpRootsComplete p s
  | .fpBlockReceived p b => Sys2Proof.Machine.execFpBlockReceived p b s
  | .fpTimeout p => Sys2Proof.Machine.execFpTimeout p s
  | .roundOpen c => Sys2Proof.Machine.execRoundOpen c s
  | .kernelLaunch c => Sys2Proof.Machine.execKernelLaunch c s
  | .kernelSetHeld c => Sys2Proof.Machine.execKernelSetHeld c s
  | .setAcquireTimeout c => Sys2Proof.Machine.execSetAcquireTimeout c s
  | .kernelHalt c result => Sys2Proof.Machine.execKernelHalt c result s
  | .kernelOverrun c => Sys2Proof.Machine.execKernelOverrun c s
  | .roundDue c => Sys2Proof.Machine.execRoundDue c s
  | .forcedKernelResume c => Sys2Proof.Machine.execForcedKernelResume c s
  | .loopbackSuspendEnd => Sys2Proof.Machine.execLoopbackSuspendEnd s
  | .quarHoldExpiry c => Sys2Proof.Machine.execQuarHoldExpiry c s
  | .failWindowExpiry c => Sys2Proof.Machine.execFailWindowExpiry c s
  | .estimatorTick rails matrix demand slots => Sys2Proof.Machine.execEstimatorTick rails matrix demand slots s
  | .easementLoan c => Sys2Proof.Machine.execEasementLoan c s
  | .powerDecision dyn sram other leak => Sys2Proof.Machine.execPowerDecision dyn sram other leak s
  | .tjLoop temps => Sys2Proof.Machine.execTjLoop temps s
  | .powerFallback dyn sram other leak => Sys2Proof.Machine.execPowerFallback dyn sram other leak s
  | .calibrationTick est => Sys2Proof.Machine.execCalibrationTick est s
  | .voltageCorrection lowest => Sys2Proof.Machine.execVoltageCorrection lowest s
  | .pmbusPoll reads => Sys2Proof.Machine.execPmbusPoll reads s
  | .avsWriteTimeout bus sel => Sys2Proof.Machine.execAvsWriteTimeout bus sel s
  | .droopTrip d mv cycles => Sys2Proof.Machine.execDroopTrip d mv cycles s
  | .pstepRaise lowest => Sys2Proof.Machine.execPstepRaise lowest s
  | .pstepVerify first second => Sys2Proof.Machine.execPstepVerify first second s
  | .pstepSwitch => Sys2Proof.Machine.execPstepSwitch s
  | .pstepAbort => Sys2Proof.Machine.execPstepAbort s
  | .wStateEntry blocked => Sys2Proof.Machine.execWStateEntry blocked s
  | .wake cause => Sys2Proof.Machine.execWake cause s
  | .wStateExitDone => Sys2Proof.Machine.execWStateExitDone s
  | .jitterAlarm m => Sys2Proof.Machine.execJitterAlarm m s
  | .dutyAlarmEscalate m => Sys2Proof.Machine.execDutyAlarmEscalate m s
  | .relockCheck count => Sys2Proof.Machine.execRelockCheck count s
  | .relockRelease => Sys2Proof.Machine.execRelockRelease s
  | .sensorFailed i0 => Sys2Proof.Machine.execSensorFailed i0 s
  | .tjWarn => Sys2Proof.Machine.execTjWarn s
  | .thermtrip i0 => Sys2Proof.Machine.execThermtrip i0 s
  | .keepWarmTick => Sys2Proof.Machine.execKeepWarmTick s
  | .agentHeartbeat i0 => Sys2Proof.Machine.execAgentHeartbeat i0 s
  | .agentClaimTimer i0 => Sys2Proof.Machine.execAgentClaimTimer i0 s
  | .thermalReleaseTimer => Sys2Proof.Machine.execThermalReleaseTimer s
  | .fwStageIdleTimeout => Sys2Proof.Machine.execFwStageIdleTimeout s
  | .setdasa stat dyn => Sys2Proof.Machine.execSetdasa stat dyn s
  | .setEndpointId ep eid => Sys2Proof.Machine.execSetEndpointId ep eid s
  | .getEndpointId ep => Sys2Proof.Machine.execGetEndpointId ep s
  | .getEndpointUuid ep => Sys2Proof.Machine.execGetEndpointUuid ep s
  | .getMctpVersionSupport ep type => Sys2Proof.Machine.execGetMctpVersionSupport ep type s
  | .getMessageTypeSupport ep => Sys2Proof.Machine.execGetMessageTypeSupport ep s
  | .getTid ep => Sys2Proof.Machine.execGetTid ep s
  | .getPldmVersion ep type => Sys2Proof.Machine.execGetPldmVersion ep type s
  | .getPldmTypes ep => Sys2Proof.Machine.execGetPldmTypes ep s
  | .getPldmCommands ep type => Sys2Proof.Machine.execGetPldmCommands ep type s
  | .getPdr ep handle => Sys2Proof.Machine.execGetPdr ep handle s
  | .getSensorReading ep id => Sys2Proof.Machine.execGetSensorReading ep id s
  | .getStateSensorReadings ep id => Sys2Proof.Machine.execGetStateSensorReadings ep id s
  | .setNumericEffecterValue ep id v => Sys2Proof.Machine.execSetNumericEffecterValue ep id v s
  | .getNumericEffecterValue ep id => Sys2Proof.Machine.execGetNumericEffecterValue ep id s
  | .setEventReceiver ep eid => Sys2Proof.Machine.execSetEventReceiver ep eid s
  | .platformEventAck n => Sys2Proof.Machine.execPlatformEventAck n s
  | .queryDeviceIdentifiers ep => Sys2Proof.Machine.execQueryDeviceIdentifiers ep s
  | .getFirmwareParameters ep => Sys2Proof.Machine.execGetFirmwareParameters ep s
  | .requestUpdate ep => Sys2Proof.Machine.execRequestUpdate ep s
  | .passComponentTable ep => Sys2Proof.Machine.execPassComponentTable ep s
  | .updateComponent ep id size => Sys2Proof.Machine.execUpdateComponent ep id size s
  | .requestFirmwareData ep data => Sys2Proof.Machine.execRequestFirmwareData ep data s
  | .transferComplete ep => Sys2Proof.Machine.execTransferComplete ep s
  | .verifyComplete ep => Sys2Proof.Machine.execVerifyComplete ep s
  | .applyComplete ep => Sys2Proof.Machine.execApplyComplete ep s
  | .activateFirmware ep pack => Sys2Proof.Machine.execActivateFirmware ep pack s
  | .getStatus ep => Sys2Proof.Machine.execGetStatus ep s
  | .cancelUpdate ep => Sys2Proof.Machine.execCancelUpdate ep s
  | .getVersion ep => Sys2Proof.Machine.execGetVersion ep s
  | .getCapabilities ep => Sys2Proof.Machine.execGetCapabilities ep s
  | .negotiateAlgorithms ep => Sys2Proof.Machine.execNegotiateAlgorithms ep s
  | .getDigests ep => Sys2Proof.Machine.execGetDigests ep s
  | .getCertificate ep slot off len => Sys2Proof.Machine.execGetCertificate ep slot off len s
  | .challenge ep slot nonce => Sys2Proof.Machine.execChallenge ep slot nonce s
  | .getMeasurements ep index nonce => Sys2Proof.Machine.execGetMeasurements ep index nonce s
  | .newCodeAccept => Sys2Proof.Machine.execNewCodeAccept s
  | .activationFallback => Sys2Proof.Machine.execActivationFallback s
  | .activationCommit => Sys2Proof.Machine.execActivationCommit s
  | .debugUnlock token => Sys2Proof.Machine.execDebugUnlock token s
  | .trstN asserted => Sys2Proof.Machine.execTrstN asserted s
  | .pwrLossNAssert mv => Sys2Proof.Machine.execPwrLossNAssert mv s
  | .flushPage => Sys2Proof.Machine.execFlushPage s
  | .holdupTick mv => Sys2Proof.Machine.execHoldupTick mv s
  | .pwrLossRecovery => Sys2Proof.Machine.execPwrLossRecovery s
  | .telemetryRecordWrite => Sys2Proof.Machine.execTelemetryRecordWrite s
  | .watchdog c => Sys2Proof.Machine.execWatchdog c s
  | .snapshotTriggerWrite w => Sys2Proof.Machine.execSnapshotTriggerWrite w s
  | .snapshotSample => Sys2Proof.Machine.execSnapshotSample s
  | .snapshotCopyDone => Sys2Proof.Machine.execSnapshotCopyDone s
  | .fieldBookDrain c => Sys2Proof.Machine.execFieldBookDrain c s
  | .porNAssert => Sys2Proof.Machine.execPorNAssert s
  | .porNDeassert straps selftest => Sys2Proof.Machine.execPorNDeassert straps selftest s
  | .ctrlFirmwareStart => Sys2Proof.Machine.execCtrlFirmwareStart s
  | .dataPlaneBootDone => Sys2Proof.Machine.execDataPlaneBootDone s
  | .bootRecovery selftest => Sys2Proof.Machine.execBootRecovery selftest s
  | .sysRstN => Sys2Proof.Machine.execSysRstN s
  | .perstN => Sys2Proof.Machine.execPerstN s
  | .controlFault selftest => Sys2Proof.Machine.execControlFault selftest s
  | .agentWatchdog i0 => Sys2Proof.Machine.execAgentWatchdog i0 s
  | .progStopTimeout p => Sys2Proof.Machine.execProgStopTimeout p s
  | .partitionResetDrained p => Sys2Proof.Machine.execPartitionResetDrained p s
  | .perstNDeassert selftest => Sys2Proof.Machine.execPerstNDeassert selftest s
  | .sysRstNDeassert => Sys2Proof.Machine.execSysRstNDeassert s
  | .pwrLossNDeassert => Sys2Proof.Machine.execPwrLossNDeassert s
  | .vaonRemoval half => Sys2Proof.Machine.execVaonRemoval half s
  | .uplinkDown u => Sys2Proof.Machine.execUplinkDown u s
  | .dutyAlarm m pct corr => Sys2Proof.Machine.execDutyAlarm m pct corr s
  | .exportDone f handle => Sys2Proof.Machine.execExportDone f handle s
  | .memCopyDone f handle => Sys2Proof.Machine.execMemCopyDone f handle s

end Sys2Proof.Machine
end

