-- ==== Sys2Proof/WellFormed.lean ====
section
/-! DEFINITION.  What a well-formed command is: the operands that the spec's own formats and lists allow. A meaning answers on any
operands; a command that these checks refuse is none that the hardware's interfaces can carry. -/

namespace Sys2Proof

/-- A message carries 0 to 1,024 data bytes (R283), and no answers beside data or control kinds. -/
def Msg.sized (m : Msg) : Bool := decide (m.data.length ≤ 1024)

/-- A message of one of the kinds that carry data (R283, R284): REQ or COLL, 1 to 1,024 bytes, a rank only with RED_PUT. -/
def Msg.wfData (m : Msg) (kind : BitVec 8) : Bool :=
  m.kind == kind && (m.vc == 0 || m.vc == 2) && m.sized && !m.data.isEmpty && m.answers.isEmpty && (kind == 2 || m.rank == 0)

/-- An ACK or REFUSE message (R284, R286): RSP, no data, 1 to 6 answers. -/
def Msg.wfAnswer (m : Msg) (kind : BitVec 8) : Bool :=
  m.kind == kind && m.vc == 1 && m.data.isEmpty && !m.answers.isEmpty && decide (m.answers.length ≤ 6)

/-- A barrier message (R283, R284): CTRL, no data. -/
def Msg.wfControl (m : Msg) (kind : BitVec 8) : Bool :=
  m.kind == kind && m.vc == 3 && m.data.isEmpty && m.answers.isEmpty

/-- A message that a codeword completes, of whatever kind: RSP and CTRL messages carry no data (R283). -/
def Msg.wf (m : Msg) : Bool :=
  m.sized && ((m.vc == 0 || m.vc == 2) || m.data.isEmpty) && decide (m.answers.length ≤ 6)

/-- Registers are 32-bit and stand at multiples of four (R14). -/
def RegAddr.aligned : RegAddr → Bool
  | .core _ off _ => off.toNat % 4 == 0
  | .block _ off => off.toNat % 4 == 0
  | .function _ off => off.toNat % 4 == 0
  | .bar2Size => true

/-- Operand data in host memory: its ranges start below 2^64 and do not run past it (R446). -/
def wfHost (host : List (DWord × List Byte)) : Bool :=
  host.all (fun x => decide (x.1.toNat + x.2.length ≤ 2 ^ 64))

/-- A command's operands are ones that the block's interfaces can carry. -/
def Instr.wf : Instr → Bool
  | .sqTail _ _ _ entries => entries.all (fun e => e.length == 64)
  | .bar2Read _ _ n => decide (0 < n)
  | .bar2Write _ _ bs => !bs.isEmpty
  | .queueCreate _ _ host => wfHost host
  | .queueDestroy _ _ host => wfHost host
  | .devQuery _ _ host => wfHost host
  | .devCaps _ _ host => wfHost host
  | .partCreate _ _ host => wfHost host
  | .partDestroy _ _ host => wfHost host
  | .partAssignParcels _ _ host => wfHost host
  | .platMap _ _ host => wfHost host
  | .platUnmap _ _ host => wfHost host
  | .memCopy _ _ host => wfHost host
  | .memFill _ _ host => wfHost host
  | .memScrub _ _ host => wfHost host
  | .progLoad _ _ host => wfHost host
  | .progStart _ _ host => wfHost host
  | .progStop _ _ host => wfHost host
  | .progStatus _ _ host => wfHost host
  | .stepOpen _ _ host => wfHost host
  | .stepCloseRetry _ _ host => wfHost host
  | .stepCloseAbandon _ _ host => wfHost host
  | .stepCloseEval _ _ host => wfHost host
  | .stepPolicySet _ _ host => wfHost host
  | .stepRecordGet _ _ host => wfHost host
  | .updGroupSet _ _ host => wfHost host
  | .exportWorking _ _ host => wfHost host
  | .exportLogical _ _ host => wfHost host
  | .importState _ _ host => wfHost host
  | .txnBegin _ _ host => wfHost host
  | .txnCommit _ _ host _ => wfHost host
  | .txnRollback _ _ host => wfHost host
  | .powerLimitSet _ _ host => wfHost host
  | .pstepPolicySet _ _ host => wfHost host
  | .lattolSet _ _ host => wfHost host
  | .fabricConfigIdentity _ _ host => wfHost host
  | .fabricConfigJob _ _ host => wfHost host
  | .fabricConfigTimers _ _ host => wfHost host
  | .fabricConfigUplink _ _ host => wfHost host
  | .fabricConfigBarrier _ _ host => wfHost host
  | .fabricConfigStaging _ _ host => wfHost host
  | .fabricConfigPort _ _ host => wfHost host
  | .routeTableSet _ _ host => wfHost host
  | .linkStatus _ _ host => wfHost host
  | .testpackLoad _ _ host => wfHost host
  | .testpackActivate _ _ host => wfHost host
  | .obsLevelSet _ _ host => wfHost host
  | .coreRetire _ _ host => wfHost host
  | .snapshotTake _ _ host => wfHost host
  | .traceConfig _ _ host => wfHost host
  | .counterRead _ _ host => wfHost host
  | .timeSet _ _ host => wfHost host
  | .timeGet _ _ host => wfHost host
  | .deedClaim _ _ host => wfHost host
  | .deedRelease _ _ host => wfHost host
  | .deedQuery _ _ host => wfHost host
  | .fwStage _ _ host => wfHost host
  | .fwActivate _ _ host => wfHost host
  | .keyPartSetLoad _ _ host => wfHost host
  | .keyPartSetGenerate _ _ host _ => wfHost host
  | .keyPartSetZeroise _ _ host => wfHost host
  | .sbHalfFull _ _ _ len => decide (len.toNat ≤ 0x20000)
  | .registerWrite at_ _ => at_.aligned
  | .instructionFault _ _ _ code _ => decide (1 ≤ code.toNat)
  | .stackRequest _ _ write n _ => decide (0 < n) && (write.all (fun w => w.length == n))
  | .patrolScrub _ errs _ => errs.all (fun e => decide (0 < e.2.1))
  | .mstepAutoDecision delivered admitted => delivered.length == 6 && admitted.length == 6
  | .codewordReceive _ _ _ _ flits => decide (flits.length ≤ 10) && flits.all (fun x => x.length == 64)
  | .linkControlFlit _ _ _ _ _ _ _ credits => credits.length == 12
  | .putMessage m => m.wfData 1
  | .redPutMessage m => m.wfData 2 && m.data.length % 4 == 0
  | .mcastMessage _ m => m.wfData 3 && m.mcast
  | .dispatchMessage m => m.wfData 4
  | .combineMessage m => m.wfData 5
  | .ackMessage m => m.wfAnswer 0x10 && m.answers.all (fun x => x.reason == 0)
  | .refuseMessage m => m.wfAnswer 0x11
  | .barArriveMessage _ m => m.wfControl 0x20
  | .barReleaseMessage _ m => m.wfControl 0x21
  | .estimatorTick rails _ demand _ => rails.length == 10 && demand.length == 96
  | .tjLoop temps => temps.length == 112
  | .calibrationTick est => est.length == 10
  | .pmbusPoll reads => reads.length == 10
  | .updateComponent _ _ size => decide (size < 0x100000000)
  | .requestFirmwareData _ data => decide (data.length ≤ 1024)
  | .getCertificate _ _ off len => decide (off < 0x10000) && decide (len < 0x10000)
  | .challenge _ _ nonce => nonce.length == 32
  | .getMeasurements _ _ nonce => nonce.length == 32
  | .dutyAlarm _ pct _ => decide (pct.toNat ≤ 100)
  | .kciCtrlEnable .. | .functionLevelReset .. | .cqHead .. | .txnTimeout .. | .txnSwitch .. | .txnVerifyReport ..
  | .txnRevert .. | .coreCtrlStart .. | .coreCtrlStop .. | .coreCtrlClrCounters .. | .coreStopped .. | .seqSignal ..
  | .stepTagWrite .. | .engCtrlStep .. | .ologWptrWrite .. | .vxSeedHi .. | .edgeSeedHi .. | .vxStateLo ..
  | .edgeStateLo .. | .acLoRead .. | .clkLoRead .. | .acCtrlSample .. | .acCtrlClear .. | .acSampleTick
  | .fbCtrlEnable .. | .fbCtrlTrigger .. | .xcAttempt .. | .limCtrlCommit .. | .limitsApply | .limFlush ..
  | .pcSns .. | .pointMaskApply .. | .deedReqClaim .. | .deedReqRelease .. | .sbCtrlOpen .. | .sbCtrlClose ..
  | .sbCtrlActivate .. | .sbCtrlCancel .. | .stageVerifyComplete .. | .seqDispatch .. | .nop .. | .loop .. | .halt ..
  | .load .. | .fill .. | .store .. | .gather .. | .scatter .. | .scatterAdd .. | .csrExpand .. | .put ..
  | .redPut .. | .mcast .. | .dispatch .. | .combine .. | .expect .. | .redExpect .. | .tokenRecv ..
  | .combineRecv .. | .mmul .. | .cvt .. | .mvmul .. | .ringSet .. | .add .. | .sub .. | .mul .. | .fma .. | .div ..
  | .min .. | .max .. | .abs .. | .neg .. | .sqrt .. | .copy .. | .sfu .. | .dropout .. | .randU .. | .iadd ..
  | .isub .. | .imin .. | .imax .. | .and .. | .or .. | .xor .. | .softmax .. | .lnorm .. | .rmsnorm ..
  | .osmUpdate .. | .osmFinal .. | .rsum .. | .rmax .. | .vld .. | .vst .. | .updApply .. | .updNorm ..
  | .updWcopy .. | .sort .. | .merge .. | .union .. | .intersect .. | .unique .. | .topk .. | .segment .. | .hist ..
  | .instructionComplete .. | .rowRepairComplete .. | .sparingComplete .. | .stackTempRead .. | .tempStale ..
  | .memoryStepChange | .memoryStepDone | .platApply | .partitionMapApply | .routeTableApply | .portTrained ..
  | .linkRetrainDone .. | .laneFault .. | .handshakeSwitch .. | .laneRetrained .. | .partnerSilence ..
  | .portIdleTwoLane .. | .messageForward .. | .noRouteHold .. | .barrierArriveLocal .. | .barTimeout ..
  | .ethernetFrameReceive .. | .pfcFrame .. | .pauseFrame .. | .groupComplete .. | .gapTimeout .. | .resendTimeout ..
  | .doneSignal .. | .digestComplete .. | .buddyHalt .. | .suspectTimeout .. | .mailboxPoll .. | .closeTimeout ..
  | .updDoneSignal .. | .evalDoneSignal .. | .fpDigestDone .. | .fpRootsComplete .. | .fpBlockReceived ..
  | .fpTimeout .. | .roundOpen .. | .kernelLaunch .. | .kernelSetHeld .. | .setAcquireTimeout .. | .kernelHalt ..
  | .kernelOverrun .. | .roundDue .. | .forcedKernelResume .. | .loopbackSuspendEnd | .quarHoldExpiry ..
  | .failWindowExpiry .. | .easementLoan .. | .powerDecision .. | .powerFallback .. | .voltageCorrection ..
  | .avsWriteTimeout .. | .droopTrip .. | .pstepRaise .. | .pstepVerify .. | .pstepSwitch | .pstepAbort
  | .wStateEntry .. | .wake .. | .wStateExitDone | .jitterAlarm .. | .dutyAlarmEscalate .. | .relockCheck ..
  | .relockRelease | .sensorFailed .. | .tjWarn | .thermtrip .. | .keepWarmTick | .agentHeartbeat ..
  | .agentClaimTimer .. | .thermalReleaseTimer | .fwStageIdleTimeout | .setdasa .. | .setEndpointId ..
  | .getEndpointId .. | .getEndpointUuid .. | .getMctpVersionSupport .. | .getMessageTypeSupport .. | .getTid ..
  | .getPldmVersion .. | .getPldmTypes .. | .getPldmCommands .. | .getPdr .. | .getSensorReading ..
  | .getStateSensorReadings .. | .setNumericEffecterValue .. | .getNumericEffecterValue .. | .setEventReceiver ..
  | .platformEventAck .. | .queryDeviceIdentifiers .. | .getFirmwareParameters .. | .requestUpdate ..
  | .passComponentTable .. | .transferComplete .. | .verifyComplete .. | .applyComplete .. | .activateFirmware ..
  | .getStatus .. | .cancelUpdate .. | .getVersion .. | .getCapabilities .. | .negotiateAlgorithms ..
  | .getDigests .. | .newCodeAccept | .activationFallback | .activationCommit | .debugUnlock .. | .trstN ..
  | .pwrLossNAssert .. | .flushPage | .holdupTick .. | .pwrLossRecovery | .telemetryRecordWrite | .watchdog ..
  | .snapshotTriggerWrite .. | .snapshotSample | .snapshotCopyDone | .fieldBookDrain .. | .porNAssert
  | .porNDeassert .. | .ctrlFirmwareStart | .dataPlaneBootDone | .bootRecovery .. | .sysRstN | .perstN
  | .controlFault .. | .agentWatchdog .. | .progStopTimeout .. | .partitionResetDrained .. | .perstNDeassert ..
  | .sysRstNDeassert | .pwrLossNDeassert | .vaonRemoval .. | .uplinkDown .. | .exportDone .. | .memCopyDone .. => true

end Sys2Proof
end

