-- ==== Sys2Proof/Safety.lean ====
section
/-! DEFINITION.  What a sound state of the block is, in the terms that the claims use: the canonical forms of the stores
and the bounds that the manual puts on the queues. -/

namespace Sys2Proof.Machine

open Sys2Proof

/-- A sound state: the device memory, the poison marks and the host memory stand in their canonical forms; the
telemetry queue holds at most 256 records (R587); at most four transactions are open (R466). -/
structure State.Good (s : State) : Prop where
  mem : s.mem.wf = true
  poison : Marks.wf s.poison = true
  host : s.hostMem.wf = true
  telemetry : s.tel.queue.length ≤ 256
  transactions : s.kci.txns.length ≤ 4

/-- `t` follows `s` with the queue of waiting commands untouched and soundness kept. -/
structure Keeps (s t : State) : Prop where
  pending : t.pending = s.pending
  good : s.Good → t.Good

/-! ### What the statements about commands of the submission rings share -/

/-- The command that a submission ring offers next, with the host bytes that it reads, and the state in which it is
checked: the host's writes are done and the entry has left the ring. -/
def offered (s : State) (f : Fin 13) (r : Fin 32) (host : List (DWord × List Byte)) : Option (Cmd × State) :=
  match ringHead s f r with
  | none => none
  | some c =>
    let u := host.foldl (fun s w => s.hostWrite w.1.toNat w.2) s
    some ({ c with host := u.hostMem.readN (hostNeed c).1 (hostNeed c).2 }, popRing u f r)

/-- R450: the PENDING completion of an accepted command, where it asks for one. -/
def acknowledged (u : State) (c : Cmd) : State := if c.ack then post u c false kPENDING 0 [] else u

/-- A row of the submission rings: its constructor, the commands that are its own, its checks (R452). -/
structure KciRow where
  row : Fin 13 → Fin 32 → List (DWord × List Byte) → Instr
  mine : Cmd → Bool
  check : State → Cmd → Option Fail

/-- A command that passes its checks and is not staged completes: `effect` relates the state after its acceptance to
the one that it leaves; then the ring's commands of no known code complete (R451, R452). -/
def KciRow.Completes (k : KciRow) (effect : State → Cmd → State → Prop) : Prop :=
  ∀ (f : Fin 13) (r : Fin 32) (host : List (DWord × List Byte)) (s u : State) (c : Cmd),
    offered s f r host = some (c, u) → k.mine c = true → firstFail k.check u c = none → c.txn = false →
    ∃ t, exec (k.row f r host) s = .next (pump t f r) ∧ effect (acknowledged u c) c t

/-- The commands of one code. -/
def codeIs (o : Nat) (c : Cmd) : Bool := c.opcode == o

/-! ### What the statements about instructions of engines share -/

/-- A row of an engine: its constructor, the engine, the operation, what keeps it from starting, its work. -/
structure EngRow where
  row : Fin 96 → Nat → Instr
  eng : Fin 10
  op : Nat
  ready : State → Fin 96 → Nat → Bool
  work : Work

/-- The origin that an instruction takes at its start (R152); 0 where it draws nothing. -/
def originAt (b : State) (c : Fin 96) (e : Fin 10) (q : QEnt) : OriginRes :=
  if insDraws q.word.toNat then takeOrigin b c e q.word.toNat q.slot.toNat else .ok b 0

/-- The instruction `q` as it stands in flight: it was the head of its queue in `u`, took its origin in `v` and does the
work `f`. -/
def flightOf (u v : State) (c : Fin 96) (q : QEnt) (f : Eff) : Flight :=
  { ent := q, tag := (u.core c).stepTag
    descs := (namedDescs q.word.toNat).filterMap (fun i =>
      if i = 0 then none else some (i, BitVec.ofNat 512 (descOf u c i)))
    reads := f.reads, writes := f.writes, remote := f.remote, unsent := f.unsent, pois := f.pois, xi := f.xi, ringFill := f.fill, ringCons := f.cons
    start := (v.core c).ac.cycles }

/-- The head instruction `q` of the engine may start: the core is not absent, retired, gated or in reset, the instruction has
what R82 asks of it, and no stack makes its ranges wait (R221, R238). -/
def EngRow.Ready (k : EngRow) (c : Fin 96) (gap : Nat) (s : State) (q : QEnt) : Prop :=
  coreShut s c = false ∧ headReady (passCore s c gap) c k.eng k.op = some q ∧
    k.ready (passCore s c gap) c q.word.toNat = true ∧ stacksTake (passCore s c gap) c k.eng q k.work = true

/-- The head instruction of the engine, where it may start and passes the checks of R211, leaves its queue, takes its
origin, meets the memory errors of what it reads, does its work and is in flight; `last` is what follows on its core. -/
def EngRow.Starts (k : EngRow) (last : State → Fin 96 → State) : Prop :=
  ∀ (c : Fin 96) (gap : Nat) (s u b v m : State) (q : QEnt) (o : DWord) (f : Eff), k.Ready c gap s q →
    u = passCore s c gap → b = beginStart u c k.eng q → startCheck b c q.word.toNat = none →
    originAt b c k.eng q = .ok v o → m = meetErrs v (k.work v c q.word.toNat q.slot.toNat o).reads →
    f = k.work m c q.word.toNat q.slot.toNat o → f.fault = none →
    exec (k.row c gap) s = .next (last (f.st.modCore c (fun x => x.modEng k.eng (fun n =>
      { n with flight := n.flight ++ [flightOf u m c q f], accept := max 1 f.accept }))) c)

/-! ### What the statements about endpoints of the management plane share -/

/-- A request that an endpoint answers with the bytes `bs`; an endpoint that is not up answers nothing. -/
def Answers (i : Instr) (s : State) (ep : Fin 3) (bs : List Byte) : Prop :=
  (epUp s ep = true → exec i s = .next (say s ep bs)) ∧ (epUp s ep = false → exec i s = .next s)

/-- The endpoint serves PLDM Type 5 (R539). -/
def servesUpdate (s : State) (ep : Fin 3) : Bool :=
  epUp s ep && (decide (ep.val = 2) || (primaryEp s ep).isSome)

/-- A firmware update command that is legal in some states of its session: the standby answers ERROR_NOT_READY, and a
command in another state the state error (R539, R545). -/
def UpdateTurnedAway (i : Fin 3 → Instr) (legal : List Nat) : Prop :=
  ∀ (ep : Fin 3) (s : State),
    (epUp s ep = false → exec (i ep) s = .next s) ∧
    (epUp s ep = true → ep.val < 2 → (primaryEp s ep).isNone = true → exec (i ep) s = .next (respond s ep 4 [])) ∧
    (servesUpdate s ep = true → (vget s.mg.p5 (sessionOf ep)).state ∉ legal →
      exec (i ep) s = .next (respond s ep 0x84 []))

/-- A firmware update command in a state of its session that allows it. -/
def InUpdate (s : State) (ep : Fin 3) (legal : List Nat) : Prop :=
  servesUpdate s ep = true ∧ (vget s.mg.p5 (sessionOf ep)).state ∈ legal

/-- The SPDM responder has come as far as `least` and is not in the module's error state (R547, R562). -/
def spdmReady (s : State) (ep : Fin 3) (least : Nat) : Bool :=
  epUp s ep && !(decide (ep.val = 2) && s.sec.error) && decide (least ≤ (vget s.mg.ends ep).spdm)

/-- The commands of the management plane that move no data of the staging buffer. -/
def managementOnly : Instr → Bool
  | .deedReqClaim _ _ | .deedReqRelease _ _ _ | .agentHeartbeat _ | .agentClaimTimer _ | .thermalReleaseTimer |
    .fwStageIdleTimeout | .setdasa _ _ | .setEndpointId _ _ | .getEndpointId _ | .getEndpointUuid _ |
    .getMctpVersionSupport _ _ | .getMessageTypeSupport _ | .getTid _ | .getPldmVersion _ _ | .getPldmTypes _ |
    .getPldmCommands _ _ | .getPdr _ _ | .getSensorReading _ _ | .getStateSensorReadings _ _ |
    .setNumericEffecterValue _ _ _ | .getNumericEffecterValue _ _ | .setEventReceiver _ _ | .platformEventAck _ |
    .queryDeviceIdentifiers _ | .getFirmwareParameters _ | .requestUpdate _ | .passComponentTable _ |
    .updateComponent _ _ _ | .verifyComplete _ | .applyComplete _ | .activateFirmware _ _ | .getStatus _ |
    .cancelUpdate _ | .getVersion _ | .getCapabilities _ | .negotiateAlgorithms _ | .getDigests _ |
    .getCertificate _ _ _ _ | .challenge _ _ _ | .getMeasurements _ _ _ => true
  | _ => false

end Sys2Proof.Machine
end

