-- ==== Sys2Proof/Certificates/Slice0/Obligations.lean ====
section
/-! DEFINITION. The statements made about the model. -/

open Sys2Proof Sys2Proof.Machine

/-! ### Commands of the submission rings -/

/-- QUEUE_CREATE, QUEUE_DESTROY, DEV_QUERY, DEV_CAPS (R458 to R460): a ring pair is made or taken away; a report or
the capability block goes to host memory. -/
def Obligations.ring_and_device_commands_complete : Prop :=
  KciRow.Completes ⟨.queueCreate, codeIs 0x01, checkQueueCreate⟩ (fun v c t => ∀ q, ringOf? (c.b 16 1) = some q →
    t = atOnce (v.modFn c.fn (fun x => { x with
      rings := vset x.rings q (some (Ring.make (c.b 18 1) (c.b 19 1) (c.b 17 1) (c.b 24 8) (c.b 32 8))) })) c []) ∧
  KciRow.Completes ⟨.queueDestroy, codeIs 0x02, checkQueueDestroy⟩ (fun v c t => ∀ q, ringOf? (c.b 16 1) = some q →
    t = atOnce (v.modFn c.fn (fun x => { x with rings := vset x.rings q none })) c []) ∧
  KciRow.Completes ⟨.devQuery, codeIs 0x08, checkDevQuery⟩ (fun v c t =>
    (c.b 16 1 = 0 → ∃ id, id.length = 16 ∧ bytesAt id 1 1 = [0xB0] ∧ t = atOnce v c id) ∧
    (c.b 16 1 ≠ 0 → t = atOnce (v.hostWrite (c.b 24 8) (queryReport v c)) c [])) ∧
  KciRow.Completes ⟨.devCaps, codeIs 0x09, checkDevCaps⟩ (fun v c t =>
    t = atOnce (v.hostWrite (c.b 24 8) capBlock) c (leBytes 2 1 ++ leBytes 4 Config.sfuId.toNat))

/-- PART_CREATE, PART_DESTROY, PART_ASSIGN_PARCELS, PLAT_MAP, PLAT_UNMAP (R243, R246, R247, R458, R464): the staged
copy of the map or of the plat changes and waits for the next chain count; the active copies and memory stand. -/
def Obligations.partition_and_plat_commands_complete : Prop :=
  KciRow.Completes ⟨.partCreate, codeIs 0x10, checkPartCreate⟩ (fun v c t => ∀ p, partOf? c.part = some p →
    t = { v with ms := t.ms, kci := t.kci } ∧ t.kci.live = v.kci.live ++ [c] ∧
    t.ms.pmapDue = some (v.chain + 1) ∧ t.ms.pmapA = v.ms.pmapA ∧
    ∀ i : Fin 12, bit (c.b 16 2) i.val = true → vget t.ms.pmapS i = ⟨BitVec.ofNat 4 p.val, true⟩) ∧
  KciRow.Completes ⟨.partAssignParcels, codeIs 0x12, checkPartAssignParcels⟩ (fun v c t => ∀ p, c.scope v = some p →
    t = { v with ms := t.ms, kci := t.kci } ∧ t.kci.live = v.kci.live ++ [c] ∧
    t.ms.pmapDue = some (v.chain + 1) ∧ t.ms.pmapA = v.ms.pmapA ∧
    ∀ i : Fin 12, bit (c.b 16 2) i.val = true → vget t.ms.pmapS i = ⟨BitVec.ofNat 4 p.val, true⟩) ∧
  KciRow.Completes ⟨.partDestroy, codeIs 0x11, checkPartDestroy⟩ (fun v c t => ∀ p, c.scope v = some p →
    t = beginPartReset (goLive v c) p (fun d => decide (d.fn = c.fn ∧ d.ring = c.ring ∧ d.handle = c.handle))) ∧
  KciRow.Completes ⟨.platMap, codeIs 0x13, checkPlatMap⟩ (fun v c t => ∀ i, entryOf? (c.b 32 2) = some i →
    t = { v with ms := t.ms, kci := t.kci } ∧ t.kci.live = v.kci.live ++ [c] ∧ t.ms.platS = vset v.ms.platS i c.plat ∧
    t.ms.platDue = some (v.chain + 1) ∧ t.ms.platA = v.ms.platA) ∧
  KciRow.Completes ⟨.platUnmap, codeIs 0x14, checkPlatUnmap⟩ (fun v c t => ∀ i, entryOf? (c.b 32 2) = some i →
    t = { v with ms := t.ms, kci := t.kci } ∧ t.kci.live = v.kci.live ++ [c] ∧ t.ms.platS = vset v.ms.platS i .reset ∧
    t.ms.platDue = some (v.chain + 1) ∧ t.ms.platA = v.ms.platA)

/-- MEM_COPY, MEM_FILL, MEM_SCRUB (R255, R458): the bytes move to the addresses that the command names, a read of SRAM having
met the errors there (R256), and the command waits for the report that they are visible. -/
def Obligations.memory_commands_complete : Prop :=
  KciRow.Completes ⟨.memCopy, codeIs 0x18, checkMem checkMemCopy⟩
    (fun v c t =>
      (c.b 40 1 = 0 → t = goLive (pathWrite v (c.b 24 8) c.host false) { c with aux := kOK, due := 0 }) ∧
      ∃ m, m = meetErrs v [⟨c.b 16 8, c.b 32 8⟩] ∧
      (c.b 40 1 = 1 → pathPoison m (c.b 16 8) (c.b 32 8) = [] →
        t = goLive ((pathRead m (c.b 16 8) (c.b 32 8)).2.hostWrite (c.b 24 8) (pathRead m (c.b 16 8) (c.b 32 8)).1)
          { c with aux := kOK, due := 0 }) ∧
      (c.b 40 1 = 2 → pathPoison m (c.b 16 8) (c.b 32 8) = [] →
        t = goLive (pathWrite (pathRead m (c.b 16 8) (c.b 32 8)).2 (c.b 24 8) (pathRead m (c.b 16 8) (c.b 32 8)).1 false)
          { c with aux := kOK, due := 0 })) ∧
  KciRow.Completes ⟨.memFill, codeIs 0x19, checkMem checkMemFill⟩
    (fun v c t => t = goLive (pathWrite v (c.b 24 8)
      (List.replicate (c.b 32 8 / 8) (bytesAt c.raw 40 8)).flatten false) { c with aux := kOK, due := 0 }) ∧
  KciRow.Completes ⟨.memScrub, codeIs 0x1A, checkMem checkMemScrub⟩
    (fun v c t => t = goLive (pathWrite v (c.b 24 8) (List.replicate (c.b 32 8) 0) false) { c with aux := kOK, due := 0 })

/-- PROG_LOAD, PROG_START, PROG_STOP, PROG_STATUS (R88, R209, R458, R461). -/
def Obligations.program_commands_complete : Prop :=
  KciRow.Completes ⟨.progLoad, codeIs 0x20, checkProgLoad⟩ (fun v c t => ∀ p, c.scope v = some p →
    ∃ w, w = (maskCores c 28).foldl (fun s k => noteLoaded (loadImage s k c.host (loadCheck c.host)) p k) v ∧
      t = post (lookAgain w p) c true (if (loadCheck c.host).code = 0 then kOK else kFAULT) 0
        (leBytes 1 (loadCheck c.host).code ++ leBytes 1 (b2n (loadCheck c.host).partly) ++
          leBytes 2 (loadCheck c.host).slot ++ leBytes 1 (loadCheck c.host).desc)) ∧
  KciRow.Completes ⟨.progStart, codeIs 0x21, checkProgStart⟩ (fun v c t =>
    t = progCheck ((maskCores c 16).foldl startCore (goLive v { c with aux := 0, due := 0 }))) ∧
  KciRow.Completes ⟨.progStop, codeIs 0x22, checkProgStop⟩ (fun v c t =>
    t = stopCheck ((maskCores c 16).foldl haltCore (goLive v { c with due := v.ts }))) ∧
  KciRow.Completes ⟨.progStatus, codeIs 0x23, checkProgStatus⟩ (fun v c t =>
    t = atOnce (v.hostWrite (c.b 32 8) ((maskCores c 16).flatMap (fun k => leBytes 4 (coreCtrlWord v k) ++
        leBytes 4 (seqStatus (v.core k)) ++ leBytes 4 (v.core k).fault.word ++ leBytes 4 (phaseWord (v.core k))))) c
      (leBytes 1 ((maskCores c 16).filter (fun k => (v.core k).running)).length ++
        leBytes 1 ((maskCores c 16).filter (fun k => (v.core k).stopped && !(v.core k).faulted)).length ++
        leBytes 1 ((maskCores c 16).filter (fun k => (v.core k).faulted)).length))

/-- STEP_OPEN, STEP_CLOSE with its three ACTIONs, STEP_POLICY_SET, STEP_RECORD_GET (R346, R367, R369, R372). -/
def Obligations.step_commands_complete : Prop :=
  KciRow.Completes ⟨.stepOpen, codeIs 0x28, stepOpenBody⟩ (fun v c t => ∀ p, c.scope v = some p → t = openStep v p c) ∧
  KciRow.Completes ⟨.stepCloseRetry, fun c => codeIs 0x29 c && c.b 20 1 == 1, checkClose 1 haltedChecked⟩
    (fun v c t => ∀ p, c.scope v = some p → t = atOnce (actStepCloseRetry v p (parOf (BitVec.ofNat 32 (c.b 16 4)))) c []) ∧
  KciRow.Completes ⟨.stepCloseAbandon, fun c => codeIs 0x29 c && c.b 20 1 == 2, checkClose 2 haltedChecked⟩
    (fun v c t => ∀ p, c.scope v = some p → t = atOnce (openGate (modSlot v p (parOf (BitVec.ofNat 32 (c.b 16 4)))
      (fun x => { x with abandoned := true, halted := false, peerWait := false, pos := 1 })) p) c []) ∧
  KciRow.Completes ⟨.stepCloseEval, fun c => codeIs 0x29 c && c.b 20 1 == 3, checkClose 3 checkStepCloseEval⟩
    (fun v c t => ∀ p, c.scope v = some p →
      t = atOnce (modSlot v p (parOf (BitVec.ofNat 32 (c.b 16 4))) (fun x => { x with evalReq := true })) c []) ∧
  KciRow.Completes ⟨.stepPolicySet, codeIs 0x2A, checkStepPolicySet⟩ (fun v c t => ∀ p, c.scope v = some p →
    t = atOnce (setPolicy v p c.host) c []) ∧
  KciRow.Completes ⟨.stepRecordGet, codeIs 0x2B, checkStepRecordGet⟩ (fun v c t => ∀ p n r,
    c.scope v = some p → recordFor v p (c.b 16 4) = some (n, r) → v.poisoned (polNat v p 38 6 + r.off) r.len = false →
    ∃ w, w = v.hostWrite (c.b 24 8) (v.bytes (polNat v p 38 6 + r.off) r.len) ∧
      t = retryRecords (atOnce (if bit (c.b 20 1) 0 then modCl w p (fun cl => { cl with recs := cl.recs.drop (n + 1) }) else w)
        c (recordResult r ((if bit (c.b 20 1) 0 then modCl w p (fun cl => { cl with recs := cl.recs.drop (n + 1) }) else w).part p).cl.recs.length)) p)

/-- UPD_GROUP_SET, the exports and IMPORT_STATE (R403 to R408). -/
def Obligations.state_commands_complete : Prop :=
  KciRow.Completes ⟨.updGroupSet, codeIs 0x30, checkUpdGroupSet⟩ (fun v c t => ∀ p, c.scope v = some p →
    t = atOnce (modUc v p (fun u => { u with
      list := BitVec.ofNat 48 (c.b 16 6), count := BitVec.ofNat 9 (c.b 22 2), area := BitVec.ofNat 48 (c.b 24 6)
      peers := BitVec.ofNat 48 (c.b 30 6), period := BitVec.ofNat 16 (field (c.b 36 4) 0 16)
      member := BitVec.ofNat 3 (field (c.b 36 4) 16 3), role := BitVec.ofNat 2 (field (c.b 36 4) 19 2)
      members := BitVec.ofNat 4 (field (c.b 36 4) 21 4) })) c []) ∧
  KciRow.Completes ⟨.exportWorking, codeIs 0x31, checkExport false⟩ (fun v c t => ∀ p, c.scope v = some p →
    t = goLive (modCl v p (fun cl => { cl with exports := cl.exports + 1 })) c) ∧
  KciRow.Completes ⟨.exportLogical, codeIs 0x32, checkExport true⟩ (fun v c t => ∀ p, c.scope v = some p →
    t = goLive (modCl v p (fun cl => { cl with exports := cl.exports + 1 })) c) ∧
  KciRow.Completes ⟨.importState, codeIs 0x33, checkImportState⟩ (fun v c t => ∀ p, c.scope v = some p →
    t = restoreState v p c)

/-- TXN_BEGIN, TXN_COMMIT, TXN_ROLLBACK (R466, R468, R469): a transaction opens under the next TXN_ID; with no commit
count asked and every staged command ready it waits for the count 64 chain counts on, the voltage raise of a faster P-step
begun; or it ends with every staged command rolled back. -/
def Obligations.transaction_commands_complete : Prop :=
  KciRow.Completes ⟨.txnBegin, codeIs 0x38, checkTxnBegin⟩ (fun v c t =>
    t = atOnce (v.modKci (fun k => { k with
      nextTxn := if k.nextTxn = 0xFFFF then 1 else k.nextTxn + 1
      txns := k.txns ++ [⟨k.nextTxn, c.fn, v.ts, [], 0, 0, 0, none, 0, none⟩] })) c (leBytes 2 v.kci.nextTxn.toNat)) ∧
  (∀ unit : Option Nat, KciRow.Completes ⟨fun f r host => .txnCommit f r host unit, codeIs 0x39, checkTxnCommit⟩
    (fun v c t => ∀ x, namedTxn v c = some x → prepareFail v { x with commit := some c } unit = none → c.b 24 8 = 0 →
      t = modTxn (stageRaise v { x with commit := some c }) c.fn
        (fun t => { t with phase := 1, c := v.chain + 64, commit := some c }))) ∧
  KciRow.Completes ⟨.txnRollback, codeIs 0x3A, checkTxnRollback⟩ (fun v c t => ∀ x, namedTxn v c = some x →
    t = atOnce (rollBack v x (fun _ => kROLLED) kROLLED) c [])

/-- POWER_LIMIT_SET, PSTEP_POLICY_SET, LATTOL_SET (R26, R501, R473): the setting is in force and the result reports
what follows from it. -/
def Obligations.power_setting_commands_complete : Prop :=
  KciRow.Completes ⟨.powerLimitSet, codeIs 0x40, checkPowerLimitSet⟩ (fun v c t => ∃ w,
    w = limitsTook (v.modPw (fun x => { x with
      hostPl := if bit (c.b 19 1) 0 then BitVec.ofNat 9 (c.b 16 2) else x.hostPl
      hostTh1 := if bit (c.b 19 1) 1 then BitVec.ofNat 7 (c.b 18 1) else x.hostTh1 })) ∧
    t = atOnce w c (okResult w c)) ∧
  KciRow.Completes ⟨.pstepPolicySet, codeIs 0x41, checkPstepPolicySet⟩ (fun v c t => ∃ w,
    w = applyMstepPolicy (v.modPw (fun x => { x with
      ceil := BitVec.ofNat 4 (c.b 16 1), floor := BitVec.ofNat 4 (c.b 17 1), mstepPol := BitVec.ofNat 2 (c.b 18 1) })) ∧
    t = atOnce w c (okResult w c)) ∧
  KciRow.Completes ⟨.lattolSet, codeIs 0x42, checkLattolSet⟩ (fun v c t => ∃ w,
    w = wakeCheck (v.modFn c.fn (fun x => { x with tolUs := BitVec.ofNat 32 (c.b 16 4), allowW4 := bit (c.b 20 1) 0 })) ∧
    t = atOnce w c (okResult w c))

/-- FABRIC_CONFIG with each of its seven SELs (R462): the fields of that SEL take the command's values. -/
def Obligations.fabric_config_completes : Prop :=
  KciRow.Completes ⟨.fabricConfigIdentity, fun c => codeIs 0x48 c && c.b 16 1 == 1, checkFabric 1 checkFabricConfigIdentity⟩
    (fun v c t => ∃ w, w = setIdentity v (c.b 17 2) (c.b 19 1) (c.b 20 1) (c.b 21 1) ∧ t = atOnce w c (okResult w c)) ∧
  KciRow.Completes ⟨.fabricConfigJob, fun c => codeIs 0x48 c && c.b 16 1 == 2, checkFabric 2 checkFabricConfigJob⟩
    (fun v c t => ∀ p, partOf? c.part = some p → ∃ w,
      w = v.modPart p (fun q => { q with job := some (BitVec.ofNat 16 (c.b 17 2)) }) ∧ t = atOnce w c (okResult w c)) ∧
  KciRow.Completes ⟨.fabricConfigTimers, fun c => codeIs 0x48 c && c.b 16 1 == 3, checkFabric 3 checkFabricConfigTimers⟩
    (fun v c t => ∃ w, w = v.modFab (fun f => { f with
        gapUs := c.b 18 4, resendUs := c.b 22 4, resendLimit := c.b 26 1, holdUs := c.b 27 4, barUs := c.b 31 4 * 1000 }) ∧
      t = atOnce w c (okResult w c)) ∧
  KciRow.Completes ⟨.fabricConfigUplink, fun c => codeIs 0x48 c && c.b 16 1 == 4, checkFabric 4 checkFabricConfigUplink⟩
    (fun v c t => ∃ w, t = atOnce w c (okResult w c) ∧ w = v.modFab (fun f => { f with uplink := w.fab.uplink }) ∧
      w.fab.uplink.prefix24 = BitVec.ofNat 24 (c.b 17 3) ∧ w.fab.uplink.udp = decide (c.b 34 1 ≠ 0) ∧
      w.fab.uplink.mtu9000 = decide (c.b 35 1 = 1)) ∧
  KciRow.Completes ⟨.fabricConfigBarrier, fun c => codeIs 0x48 c && c.b 16 1 == 5, checkFabric 5 checkFabricConfigBarrier⟩
    (fun v c t => ∃ w, w = modBar v ⟨c.b 17 1 % 16, Nat.mod_lt _ (by decide)⟩ (fun b => b.config c) ∧
      t = atOnce w c (okResult w c)) ∧
  KciRow.Completes ⟨.fabricConfigStaging, fun c => codeIs 0x48 c && c.b 16 1 == 6, checkFabric 6 checkFabricConfigStaging⟩
    (fun v c t => ∀ p, partOf? c.part = some p → ∃ w,
      w = modXc v p (fun x => { x with slots := BitVec.ofNat 13 (c.b 17 2), stageBase := BitVec.ofNat 48 (c.b 24 6) }) ∧
      t = atOnce w c (okResult w c)) ∧
  KciRow.Completes ⟨.fabricConfigPort, fun c => codeIs 0x48 c && c.b 16 1 == 7, checkFabric 7 checkFabricConfigPort⟩
    (fun v c t => ∀ n, portNum? (c.b 17 1) = some n → ∃ w,
      w = writePortCfg v n (c.b 18 4) ∧ t = atOnce w c (okResult w c))

/-- ROUTE_TABLE_SET and LINK_STATUS (R292, R458, R462): the staged route entries take the command's and wait for the
next chain count; the port and router registers go to host memory. -/
def Obligations.route_and_link_commands_complete : Prop :=
  KciRow.Completes ⟨.routeTableSet, codeIs 0x49, checkRouteTableSet⟩ (fun v c t =>
    t.fab.routeDue = some (v.chain + 1) ∧ t.fab.routeA = v.fab.routeA ∧ t.fab.tractA = v.fab.tractA ∧
    t.kci.live = v.kci.live ++ [c] ∧ t = { v with fab := t.fab, kci := t.kci } ∧
    ∀ i : Fin 512, vget t.fab.routeS i =
      if c.b 16 1 = 0 ∧ c.b 17 2 ≤ i.val ∧ i.val < c.b 17 2 + c.b 19 2 then
        RouteEnt.ofBytes (bytesAt c.host (4 * (i.val - c.b 17 2)) 4) else vget v.fab.routeS i) ∧
  KciRow.Completes ⟨.linkStatus, codeIs 0x4A, checkLinkStatus⟩ (fun v c t => ∃ result,
    t = atOnce (v.hostWrite (c.b 24 8)
      ((List.finRange 8).flatMap (fun n => blockBytes (portWord v n) 0 6) ++ blockBytes (routerWord v) 0 8)) c result)

/-- TESTPACK_LOAD, TESTPACK_ACTIVATE, OBS_LEVEL_SET, CORE_RETIRE, SNAPSHOT_TAKE, TRACE_CONFIG, COUNTER_READ (R430,
R432, R436, R437, R463, R581, R589). -/
def Obligations.service_commands_complete : Prop :=
  KciRow.Completes ⟨.testpackLoad, codeIs 0x50, checkTestpackLoad⟩ (fun v c t =>
    t = goLive (stagePack v (c.b 16 1) c.host) c) ∧
  KciRow.Completes ⟨.testpackActivate, codeIs 0x51, checkTestpackActivate⟩ (fun v c t => ∀ i, packOf? (c.b 16 1) = some i →
    t = atOnce (activatePack v i).1 c (leBytes 4 (vget v.serv.packs i).version.toNat)) ∧
  KciRow.Completes ⟨.obsLevelSet, codeIs 0x52, checkObsLevelSet⟩ (fun v c t => ∀ k, coreOf? (c.b 16 1) = some k →
    t = atOnce (obsLevel v k (c.b 17 1) (bit (c.b 18 1) 0)) c []) ∧
  KciRow.Completes ⟨.coreRetire, codeIs 0x53, checkCoreRetire⟩ (fun v c t => ∀ k, coreOf? (c.b 16 1) = some k →
    ∃ w, w = buddyFails (leaveWork (abortKernel (goLive v c) k) k true) k ∧
      t = if (w.core k).retired then finish w c kOK 0 [] else w) ∧
  KciRow.Completes ⟨.snapshotTake, codeIs 0x58, checkSnapshotTake⟩ (fun v c t =>
    t = goLive (snapTrigger v 0) { c with aux := b2n v.snap.capturing }) ∧
  KciRow.Completes ⟨.traceConfig, codeIs 0x59, checkTraceConfig⟩ (fun v c t => ∃ w, t = atOnce w c [] ∧
    w = (maskCores c 16).zipIdx.foldl (fun s x =>
      fbCtrlWrite (modFb s x.1 (fun f => { f with
        ringAddr := BitVec.ofNat 48 (c.b 32 8 + x.2 * c.b 40 4), ringSize := BitVec.ofNat 16 (c.b 40 4 / 65536)
        owner := BitVec.ofNat 4 (match boundPart v c.fn with | some p => p.val | none => 15) })) x.1
        (BitVec.ofNat 32 (c.b 30 1 % 2 + c.b 28 1 * 2 + c.b 29 1 * 8))) v) ∧
  KciRow.Completes ⟨.counterRead, codeIs 0x5A, checkCounterRead⟩ (fun v c t => c.b 16 1 ≠ 0 → ∃ w,
    w = readWords (fun s o => spaceWord s (c.b 16 1) (c.b 17 1) o) (fun s o => spaceLatch s (c.b 16 1) (c.b 17 1) o) v
      (c.b 18 2) (c.b 20 2) ∧ t = atOnce (w.2.hostWrite (c.b 24 8) w.1) c [])

/-- TIME_SET, TIME_GET, DEED_CLAIM, DEED_RELEASE, DEED_QUERY (R470, R474, R564). -/
def Obligations.time_and_deed_commands_complete : Prop :=
  KciRow.Completes ⟨.timeSet, codeIs 0x60, checkTimeSet⟩ (fun v c t => ∀ n, timeOf c = some n →
    t = atOnce (v.modSec (fun x => { x with utcBase := BitVec.ofNat 64 n, tsBase := v.ts, timeValid := true })) c []) ∧
  KciRow.Completes ⟨.timeGet, codeIs 0x61, checkTimeGet⟩ (fun v c t =>
    t = atOnce v c (leBytes 8 (utcNow v) ++ leBytes 8 v.ts.toNat)) ∧
  KciRow.Completes ⟨.deedClaim, codeIs 0x68, checkDeed checkDeedClaim⟩
    (fun v c t => ∀ r, deedOf? (c.b 16 1) = some r → ∃ w, w = (deedClaim v .control r).1 ∧ t = atOnce w c (deedResult w r)) ∧
  KciRow.Completes ⟨.deedRelease, codeIs 0x69, checkDeed checkDeedRelease⟩
    (fun v c t => ∀ r, deedOf? (c.b 16 1) = some r → ∃ w,
      w = (deedRelease v .control r (BitVec.ofNat 32 c.epoch)).1 ∧ t = atOnce w c (deedResult w r)) ∧
  KciRow.Completes ⟨.deedQuery, codeIs 0x6A, checkDeed checkDeedQuery⟩
    (fun v c t => ∀ r, deedOf? (c.b 16 1) = some r → t = atOnce v c (deedResult v r))

/-- FW_STAGE, FW_ACTIVATE and KEY_PART_SET with its three OPs (R550, R552 to R558). -/
def Obligations.firmware_and_key_commands_complete : Prop :=
  KciRow.Completes ⟨.fwStage, codeIs 0x70, checkFwStage⟩ (fun v c t => ∃ w,
    w = stageChunk (if bit (c.b 32 1) 0 then sbOpen (v.modSb (fun b => { b with epoch := BitVec.ofNat 32 c.epoch })) 1 0
      else v.modSb (fun b => { b with epoch := BitVec.ofNat 32 c.epoch })) (c.b 28 4) c.host (bit (c.b 32 1) 1) ∧
    t = if bit (c.b 32 1) 1 then goLive w c else atOnce w c []) ∧
  KciRow.Completes ⟨.fwActivate, codeIs 0x71, checkFwActivate⟩ (fun v c t => t = beginActivation (goLive v c)) ∧
  KciRow.Completes ⟨.keyPartSetLoad, fun c => codeIs 0x78 c && c.b 17 1 == 1, checkKeyPartSetLoad⟩ (fun v c t =>
    ∀ own i, keyOwner v c = some own → slotOf? (c.b 16 1) = some i →
      (c.ktype = 4 → t = atOnce (inPart v c (kwkExchange v c)) c []) ∧
      ∀ key, c.ktype ≠ 4 → blobKey v c = some key → t = atOnce (fillSlot
        (if c.wrap = 0 then v.modSec (fun x => { x with nonapproved := true }) else v) i c own key) c []) ∧
  (∀ fail : Bool, KciRow.Completes ⟨fun f r host => .keyPartSetGenerate f r host fail, fun c => codeIs 0x78 c && c.b 17 1 == 2,
      checkKeyPartSetGenerate⟩ (fun v c t =>
    ∀ own i, keyOwner v c = some own → slotOf? (c.b 16 1) = some i →
      (c.ktype = 3 → fail = false → t = atOnce (inPart v c (makeSrk v c)) c []) ∧
      (c.ktype ≠ 3 → t = atOnce (fillSlot (draw v).2 i c own (leBytes 64 (draw v).1.toNat)) c []))) ∧
  KciRow.Completes ⟨.keyPartSetZeroise, fun c => codeIs 0x78 c && c.b 17 1 == 3, checkKeyPartSetZeroise⟩ (fun v c t =>
    ∀ i, slotOf? (c.b 16 1) = some i → t = atOnce (v.modSec (fun x => { x with
      slots := vset x.slots i .reset
      txFrames := x.txFrames.filter (fun t => decide (t.1.2 ≠ i.val))
      rxWins := x.rxWins.filter (fun w => decide (w.slot ≠ i.val)) })) c [])

/-- A command that fails a check leaves one final completion with the status, the detail and the result of the first
check that fails (R451, R452). -/
def Obligations.failed_check_completes_with_its_status : Prop :=
  ∀ k ∈ ([⟨.platMap, codeIs 0x13, checkPlatMap⟩, ⟨.progStart, codeIs 0x21, checkProgStart⟩,
      ⟨.stepOpen, codeIs 0x28, stepOpenBody⟩, ⟨.powerLimitSet, codeIs 0x40, checkPowerLimitSet⟩,
      ⟨.routeTableSet, codeIs 0x49, checkRouteTableSet⟩, ⟨.timeSet, codeIs 0x60, checkTimeSet⟩,
      ⟨.fwStage, codeIs 0x70, checkFwStage⟩] : List KciRow),
    ∀ (f : Fin 13) (r : Fin 32) (host : List (DWord × List Byte)) (s u : State) (c : Cmd) (status detail : Nat)
      (result : List Byte), offered s f r host = some (c, u) → k.mine c = true →
      firstFail k.check u c = some (status, detail, result) →
      exec (k.row f r host) s = .next (pump (post u c true status detail result) f r)

/-- A command with the TXN flag that passes its checks is staged: nothing of its effect happens, and its transaction
holds it behind those staged before (R467). -/
def Obligations.staged_command_waits_in_its_transaction : Prop :=
  ∀ k ∈ ([⟨.partAssignParcels, codeIs 0x12, checkPartAssignParcels⟩, ⟨.platMap, codeIs 0x13, checkPlatMap⟩,
      ⟨.platUnmap, codeIs 0x14, checkPlatUnmap⟩, ⟨.stepPolicySet, codeIs 0x2A, checkStepPolicySet⟩,
      ⟨.updGroupSet, codeIs 0x30, checkUpdGroupSet⟩, ⟨.powerLimitSet, codeIs 0x40, checkPowerLimitSet⟩,
      ⟨.pstepPolicySet, codeIs 0x41, checkPstepPolicySet⟩, ⟨.lattolSet, codeIs 0x42, checkLattolSet⟩,
      ⟨.routeTableSet, codeIs 0x49, checkRouteTableSet⟩] : List KciRow),
    ∀ (f : Fin 13) (r : Fin 32) (host : List (DWord × List Byte)) (s u : State) (c : Cmd),
      offered s f r host = some (c, u) → k.mine c = true → firstFail k.check u c = none → c.txn = true →
      exec (k.row f r host) s = .next (pump
        (modTxn (acknowledged u c) c.fn (fun t => { t with staged := t.staged ++ [c] })) f r)

/-! ### Functions, rings, BAR2, transactions and the events of commands that wait -/

/-- KCI_CTRL_ENABLE (R447): with firmware running, the function's ring 0 is made from ASQ, ACQ and A_CFG; the other
functions stand.  FUNCTION_LEVEL_RESET (R456): the rings and held postings of the function are gone. -/
def Obligations.function_enable_and_reset : Prop :=
  (∀ (f : Fin 13) (s : State), s.rst.ctlUp = true → ∃ t, exec (.kciCtrlEnable f) s = .next t ∧
    t = { s with kci := t.kci } ∧ (t.fn f).enable = true ∧ (∀ g, g ≠ f → t.fn g = s.fn g) ∧
    ((s.fn f).ready = true → vget (s.fn f).rings 0 = none →
      vget (t.fn f).rings 0 = some (Ring.make (s.fn f).sqLog2.toNat (s.fn f).cqLog2.toNat (s.fn f).vector.toNat
        (s.fn f).asq.toNat (s.fn f).acq.toNat))) ∧
  (∀ (f : Fin 13) (s : State), txnOf s f = none → ∃ t, exec (.functionLevelReset f) s = .next t ∧
    t = { s with kci := t.kci } ∧ (t.fn f).enable = false ∧ (∀ r, vget (t.fn f).rings r = none) ∧ (t.fn f).held = [] ∧
    (∀ g, g ≠ f → t.fn g = s.fn g))

/-- SQ_TAIL and CQ_HEAD (R446, R452, R453): a doorbell below its ring's size moves the index; the ring is fetched, or
held postings go out.  Any other doorbell only leaves a record. -/
def Obligations.doorbells : Prop :=
  (∀ (f : Fin 13) (r : Fin 32) (tail : BitVec 12) (entries : List (List Byte)) (s : State) (q : Ring),
    vget (s.fn f).rings r = some q → tail.toNat < 2 ^ q.sqLog2 → ∃ w,
      w = entries.zipIdx.foldl (fun s x =>
        s.hostWrite (q.sqAddr.toNat + 64 * ((q.tail + x.2) % 2 ^ q.sqLog2)) (padTo x.1 64)) s ∧
      exec (.sqTail f r tail entries) s =
        .next (pump (fetchRing (w.modRing f r (fun q => { q with tail := tail.toNat })) f r) f r)) ∧
  (∀ (f : Fin 13) (r : Fin 32) (head : BitVec 12) (s : State) (q : Ring), vget (s.fn f).rings r = some q →
    head.toNat < 2 ^ q.cqLog2 →
    exec (.cqHead f r head) s = .next (drainHeld (s.modRing f r (fun q => { q with cqHead := head.toNat })) f)) ∧
  (∀ (f : Fin 13) (r : Fin 32) (i : BitVec 12) (entries : List (List Byte)) (s : State),
    (∀ q, vget (s.fn f).rings r = some q → 2 ^ q.sqLog2 ≤ i.toNat ∧ 2 ^ q.cqLog2 ≤ i.toNat) →
    exec (.sqTail f r i entries) s = .next (controlRecord s (some 1)) ∧
    exec (.cqHead f r i) s = .next (controlRecord s (some 1)))

/-- BAR2_READ and BAR2_WRITE (R238, R444): an access inside the BAR to the stacks is one request of the control path; any
other that no check refuses reads or writes the local addresses that the BAR names; a refused read ends with Completer
Abort, a refused write leaves a record at most. -/
def Obligations.bar2_accesses : Prop :=
  (∀ (f : Fin 13) (x : BitVec 38) (s : State), s.rst.ctlUp = true →
    (∀ n : Nat, x.toNat + n ≤ 2 ^ bar2Log s f → bar2Addr s f x.toNat + n ≤ 6 * stackSpan →
      inStack (bar2Addr s f x.toNat) = true → exec (.bar2Read f x n) s = .next (stackRequest s
        { src := .control f, a := BitVec.ofNat 48 (bar2Addr s f x.toNat), write := none, n := n, errs := [] })) ∧
    (∀ bs : List Byte, x.toNat + bs.length ≤ 2 ^ bar2Log s f → bar2Addr s f x.toNat + bs.length ≤ 6 * stackSpan →
      inStack (bar2Addr s f x.toNat) = true → exec (.bar2Write f x bs) s = .next (stackRequest s
        { src := .control f, a := BitVec.ofNat 48 (bar2Addr s f x.toNat), write := some bs, n := 0, errs := [] }))) ∧
  (∀ (f : Fin 13) (x : BitVec 38) (n : Nat) (s m : State), s.rst.ctlUp = true → x.toNat + n ≤ 2 ^ bar2Log s f →
    inStack (bar2Addr s f x.toNat) = false ∨ 6 * stackSpan < bar2Addr s f x.toNat + n →
    pathFail s f false (bar2Addr s f x.toNat) n = none → m = meetErrs s [⟨bar2Addr s f x.toNat, n⟩] →
      ∃ t, exec (.bar2Read f x n) s = .next t ∧
      t.readData = (pathRead m (bar2Addr s f x.toNat) n).1 ∧
      t.busStatus = (if pathPoisoned m (bar2Addr s f x.toNat) n then 2 else 0) ∧
      t = { (pathRead m (bar2Addr s f x.toNat) n).2 with readData := t.readData, busStatus := t.busStatus }) ∧
  (∀ (f : Fin 13) (x : BitVec 38) (n : Nat) (s : State) (b : Nat), s.rst.ctlUp = true → x.toNat + n ≤ 2 ^ bar2Log s f →
    inStack (bar2Addr s f x.toNat) = false ∨ 6 * stackSpan < bar2Addr s f x.toNat + n →
    pathFail s f false (bar2Addr s f x.toNat) n = some b → ∃ t, exec (.bar2Read f x n) s = .next t ∧
      t.readData = [] ∧ t.busStatus = 1) ∧
  (∀ (f : Fin 13) (x : BitVec 38) (bs : List Byte) (s : State), s.rst.ctlUp = true → x.toNat + bs.length ≤ 2 ^ bar2Log s f →
    inStack (bar2Addr s f x.toNat) = false ∨ 6 * stackSpan < bar2Addr s f x.toNat + bs.length →
    pathFail s f true (bar2Addr s f x.toNat) bs.length = none →
    exec (.bar2Write f x bs) s = .next (pathWrite s (bar2Addr s f x.toNat) bs false)) ∧
  (∀ (f : Fin 13) (x : BitVec 38) (bs : List Byte) (s : State) (b : Nat), s.rst.ctlUp = true →
    x.toNat + bs.length ≤ 2 ^ bar2Log s f →
    inStack (bar2Addr s f x.toNat) = false ∨ 6 * stackSpan < bar2Addr s f x.toNat + bs.length →
    pathFail s f true (bar2Addr s f x.toNat) bs.length = some b →
    exec (.bar2Write f x bs) s = .next (pathViolation s f true b))

/-- TXN_TIMEOUT, TXN_SWITCH, TXN_VERIFY_REPORT, TXN_REVERT (R466, R468): after 10 s without a commit the transaction
is rolled back; at the commit count every staged command settles; a good report completes them, a fault sets the revert
count 64 chain counts on; at the revert count the settings from before return.  Memory whose key changes reads as its stored
bytes have it (R248). -/
def Obligations.transaction_events : Prop :=
  (∀ (f : Fin 13) (s : State) (t : Txn), txnOf s f = some t → t.phase = 0 → 10 * secTicks ≤ s.since t.born →
    exec (.txnTimeout f) s = .next (rollBack s t (fun _ => kROLLED) kROLLED)) ∧
  (∀ (f : Fin 13) (s : State) (t : Txn), txnOf s f = some t → t.phase = 1 → t.c ≤ s.chain → s.clk.relocking = false →
    exec (.txnSwitch f) s = .next (modTxn (rekey s (t.staged.foldl settle s)) f (fun t => { t with phase := 2, saved := some s.saved }))) ∧
  (∀ (f : Fin 13) (s : State) (t : Txn), txnOf s f = some t → t.phase = 2 → s.kci.paused = false → s.kci.cpFault = false →
    (∀ c ∈ t.staged, c.opcode ≠ 0x14) →
    exec (.txnVerifyReport f none) s = .next (endTxn s t (fun _ => kOK) kOK 0 (leBytes 8 t.c.toNat ++ leBytes 8 0))) ∧
  (∀ (f : Fin 13) (s : State) (t : Txn) (i : Nat) (c : Cmd), txnOf s f = some t → t.phase = 2 → s.kci.paused = false →
    s.kci.cpFault = false → t.staged[i]? = some c →
    exec (.txnVerifyReport f (some i)) s =
      .next (modTxn s f (fun t => { t with phase := 3, r := s.chain + 64, culprit := c.handle }))) ∧
  (∀ (f : Fin 13) (s : State) (t : Txn) (v : Saved), txnOf s f = some t → t.phase = 3 → t.r ≤ s.chain →
    s.clk.relocking = false → t.saved = some v →
    exec (.txnRevert f) s = .next (endTxn (unraise (rekey s (t.staged.reverse.foldl (restore v) s)) t) t
      (fun _ => kROLLED) kROLLED (seqOf t.culprit) (leBytes 8 t.c.toNat ++ leBytes 8 t.r.toNat)))

/-- What ends a waiting command: MEM_COPY_DONE and EXPORT_DONE (R255, R268, R403) give it its final completion, an export
while no live update holds the firmware; a partition reset that has drained gives PART_DESTROY its own (R602, log 83), and
a PROG_STOP whose cores do not stop in 10 ms fails and resets its partition (R602). -/
def Obligations.waiting_commands_end : Prop :=
  (∀ (p : Fin 12) (s : State),
    ((s.part p).underReset = false → exec (.partitionResetDrained p) s = .next s) ∧
    ((s.part p).underReset = true → ∃ u, u = endPartReset s p ∧ (u.part p).underReset = false ∧
      ((liveOf u 0x11 p) = [] → exec (.partitionResetDrained p) s = .next u) ∧
      ∀ c cs, liveOf u 0x11 p = c :: cs →
        exec (.partitionResetDrained p) s = .next (finish (destroyPart u p) c kOK 0 []))) ∧
  (∀ (p : Fin 12) (s : State),
    ((∀ c ∈ liveOf s 0x22 p, s.since c.due < 10 * msTicks) → exec (.progStopTimeout p) s = .next s) ∧
    ∀ c cs k ks, liveOf s 0x22 p = c :: cs → 10 * msTicks ≤ s.since c.due →
      (maskCores c 16).filter (fun k => !(s.core k).stopped) = k :: ks →
      exec (.progStopTimeout p) s = .next (beginPartReset (finish s c kFAULT k.val []) p (fun _ => false))) ∧
  (∀ (f : Fin 13) (h : Word) (s : State) (c : Cmd),
    s.kci.live.find? (fun c => decide (c.fn = f ∧ c.handle = h ∧ 0x18 ≤ c.opcode ∧ c.opcode ≤ 0x1A)) = some c →
    exec (.memCopyDone f h) s =
      .next (finish s c c.aux 0 (if c.opcode = 0x18 then leBytes 8 c.due.toNat else []))) ∧
  (∀ (f : Fin 13) (h : Word) (s : State) (c : Cmd) (p : Fin 12),
    s.kci.live.find? (fun c => decide (c.fn = f ∧ c.handle = h ∧ (c.opcode = 0x31 ∨ c.opcode = 0x32))) = some c →
    c.scope s = some p → gateAtRest s p = true → fwRuns s = true → exec (.exportDone f h) s = .next (endExport s p c))

/-! ### Cores: the sequencer, the control registers, the engines -/

/-- R77, R76: the instruction at the fetch index goes to the end of its engine's queue of at most 32 and fetching goes on, at
one instruction per CCLK cycle; with that queue full the sequencer waits and dispatches nothing; an entry frees when its
instruction starts. -/
def Obligations.sequencer_dispatches : Prop :=
  (∀ (c : Fin 96) (gap : Nat) (s u : State) (i w : Nat) (e : Fin 10), coreShut s c = false → u = passCore s c gap →
    (u.core c).fetching = true → (u.core c).seqDone = false → i = (u.core c).fetchIndex.toNat → i < 2048 →
    w = u.num (progAddr c i) 32 → w ≠ 0 → engOf? (insEng w) = some e → ((u.core c).engine e).queue.length < 32 →
    exec (.seqDispatch c gap) s = .next (seqNext (u.modCore c (fun k => k.modEng e (fun n =>
      { n with queue := n.queue ++ [⟨BitVec.ofNat 11 i, BitVec.ofNat 256 w⟩] }))) c i)) ∧
  (∀ (c : Fin 96) (gap : Nat) (s u : State) (i w : Nat) (e : Fin 10), coreShut s c = false → u = passCore s c gap →
    (u.core c).fetching = true → (u.core c).seqDone = false → i = (u.core c).fetchIndex.toNat → i < 2048 →
    w = u.num (progAddr c i) 32 → w ≠ 0 → engOf? (insEng w) = some e → 32 ≤ ((u.core c).engine e).queue.length →
    exec (.seqDispatch c gap) s = .next (u.modCore c (fun k => { k with blockCause := 1, blockEng := BitVec.ofNat 4 e.val }))) ∧
  (∀ (c : Fin 96) (gap : Nat) (s u : State), coreShut s c = false → u = passCore s c gap →
    ((u.core c).seqDone = true → exec (.seqDispatch c gap) s = .next u) ∧ (gap ≠ 0 → (u.core c).seqDone = false)) ∧
  (∀ (u : State) (c : Fin 96) (e : Fin 10) (q : QEnt), ((beginStart u c e q).core c |>.engine e).queue =
    ((u.core c).engine e).queue.tail)

/-- NOP, LOOP and HALT (R186 to R188) of a sequencer whose waits are met: NOP goes on; a LOOP with COUNT 0 goes on
after its last slot, any other opens a loop at the next slot; HALT stops fetching. -/
def Obligations.sequencer_operations_complete : Prop :=
  ∀ (c : Fin 96) (gap : Nat) (s u : State) (i w : Nat), coreShut s c = false → u = passCore s c gap →
    (u.core c).fetching = true → (u.core c).seqDone = false → i = (u.core c).fetchIndex.toNat → i < 2048 →
    w = u.num (progAddr c i) 32 → insEng w = 15 → waitsMet (u.core c) w = true →
    (insOp w = 1 → exec (.nop c gap) s = .next (seqNext (seqRan u c i w) c i)) ∧
    (insOp w = 2 → loopCount w = 0 → exec (.loop c gap) s = .next (seqNext (seqRan u c i w) c (loopEnd w))) ∧
    (insOp w = 2 → loopCount w ≠ 0 → exec (.loop c gap) s = .next ((seqRan u c i w).modCore c (fun k => { k with
      fetchIndex := BitVec.ofNat 12 (i + 1), loops := (i, loopEnd w, loopCount w) :: k.loops
      blockCause := 0, blockEng := 0, seqDone := true }))) ∧
    (insOp w = 3 → exec (.halt c gap) s = .next (progDone ((seqRan u c i w).modCore c (fun k => { k with
      fetching := false, halted := true, blockCause := 3, fetchIndex := BitVec.ofNat 12 (i + 1), seqDone := true })) c))

/-- INSTRUCTION_COMPLETE, INSTRUCTION_FAULT and CORE_STOPPED (R85, R87, R88, R221, R315): the oldest instruction in flight
completes, an XI instruction once its group is done, one of XO once the router has its messages, one whose write meets a
running compute instruction after that one, one with ranges in the stacks not during a memory-step change; one that faults
takes those behind it with it; a stopping core whose engines are idle is STOPPED. -/
def Obligations.instructions_end : Prop :=
  (∀ (c : Fin 96) (e : Fin 10) (gap : Nat) (s u : State) (f : Flight) (rest : List Flight), coreShut s c = false →
    u = passCore s c gap → (u.core c |>.engine e).flight = f :: rest →
    ((∀ x, f.xi = some x → x.done = true) → f.unsent = [] → heldWrite (u.core c) e f = false →
      u.ms.mstepTo = none ∨ f.onStack = false → exec (.instructionComplete c e gap) s = .next (completeOldest u c e)) ∧
    ((∃ x, f.xi = some x ∧ x.done = false) ∨ f.unsent ≠ [] ∨ heldWrite (u.core c) e f = true ∨
        (u.ms.mstepTo.isSome = true ∧ f.onStack = true) → exec (.instructionComplete c e gap) s = .next u)) ∧
  (∀ (c : Fin 96) (e : Fin 10) (k : Nat) (code : BitVec 8) (gap : Nat) (s : State) (f : Flight), coreShut s c = false →
    ((passCore s c gap).core c |>.engine e).flight[k]? = some f →
    code = 0x40 ∨ code = 0x43 ∨ code = 0x44 ∨ code = 0x48 →
    exec (.instructionFault c e k code gap) s =
      .next (faultHead (dropFlights (passCore s c gap) c e k) c e f.ent code.toNat)) ∧
  (∀ (c : Fin 96) (gap : Nat) (s u : State), coreShut s c = false → u = passCore s c gap → (u.core c).stopping = true →
    (u.core c).idle = true → kernelHolds u c = false →
    exec (.coreStopped c gap) s =
      .next (stopCheck (u.modCore c (fun k => { k with stopped := true, stopping := false }))))

/-- A write of CORE_CTRL (R75, R88, R98) by the control path, of a core whose window is open to it: START on a STOPPED
core whose program loaded well clears its fault, empties its queues and starts the sequencer at the START_INDEX that the
write stores.  STOP on a running or faulted core stores START_INDEX and makes the sequencer stop fetching; what is
queued is discarded.  CLR_COUNTERS on a STOPPED core clears every counter and its flags, and on another one leaves only
a CTRL_IGNORED record.  A quarantined or held-out core takes no write. -/
def Obligations.core_ctrl_writes : Prop :=
  (∀ (c : Fin 96) (v : Word) (gap : Nat) (s u : State), coreShut s c = false → u = passCore s c gap → coreOut u c = true →
    exec (.coreCtrlStart c v gap) s = .next u ∧ exec (.coreCtrlStop c v gap) s = .next u ∧
    exec (.coreCtrlClrCounters c v gap) s = .next u) ∧
  (∀ (c : Fin 96) (v : Word) (gap : Nat) (s u : State), coreShut s c = false → u = passCore s c gap → coreOut u c = false →
    (u.core c).stopped = true → (u.core c).loadFault = none → bit v.toNat 1 = false → bit v.toNat 2 = false →
    ∃ t, exec (.coreCtrlStart c v gap) s = .next t ∧ t = { u with cores := t.cores } ∧
      (∀ d, d ≠ c → t.core d = u.core d) ∧ (t.core c).stopped = false ∧ (t.core c).fetching = true ∧
      (t.core c).faulted = false ∧ (t.core c).fault.valid = false ∧ (t.core c).ctr = (u.core c).ctr ∧
      (t.core c).startIndex = BitVec.ofNat 11 (field v.toNat 16 11) ∧
      (t.core c).fetchIndex = BitVec.ofNat 12 (t.core c).startIndex.toNat ∧
      ∀ e, ((t.core c).engine e).queue = []) ∧
  ((∀ (c : Fin 96) (v : Word) (gap : Nat) (s u : State), coreShut s c = false → u = passCore s c gap → coreOut u c = false →
    (u.core c).stopped = false ∨ (u.core c).faulted = true → bit v.toNat 0 = false → bit v.toNat 2 = false →
    exec (.coreCtrlStop c v gap) s = .next (stopCore (u.modCore c (fun k =>
      { k with startIndex := BitVec.ofNat 11 (field v.toNat 16 11) })) c)) ∧
  (∀ (c : Fin 96) (v : Word) (gap : Nat) (s u : State), coreShut s c = false → u = passCore s c gap → coreOut u c = false →
    (u.core c).stopped = true → bit v.toNat 0 = false → bit v.toNat 1 = false →
    exec (.coreCtrlClrCounters c v gap) s = .next (u.modCore c (fun k =>
      { k with startIndex := BitVec.ofNat 11 (field v.toNat 16 11), ctr := Vector.replicate 64 .reset }))) ∧
  (∀ (c : Fin 96) (v : Word) (gap : Nat) (s u w : State), coreShut s c = false → u = passCore s c gap → coreOut u c = false →
    (u.core c).stopped = false → bit v.toNat 0 = false → bit v.toNat 1 = false →
    w = u.modCore c (fun k => { k with startIndex := BitVec.ofNat 11 (field v.toNat 16 11) }) →
    exec (.coreCtrlClrCounters c v gap) s =
      .next (recordCore w 0x0108 c (leBytes 4 (v ||| 4).toNat ++ leBytes 4 (coreCtrlWord w c)))))

/-- The other registers of a core (R75, R82, R90, R102, R159, R577, R578, R584): a write changes its own register of that
core, where its window is open to the control path; an increment of 0 signals nothing, STEP stands until the next start,
STEP_TAG takes effect three cycles on; a read that latches returns the low half and latches the high half. -/
def Obligations.core_registers : Prop :=
  (∀ (c : Fin 96) (gap : Nat) (s u : State), coreShut s c = false → u = passCore s c gap → coreOut u c = true →
    (∀ (n : Fin 64) (inc : BitVec 9), exec (.seqSignal c n inc gap) s = .next u) ∧
    (∀ tag : Word, exec (.stepTagWrite c tag gap) s = .next u) ∧
    (∀ (e : Fin 10) (hold : Bool), exec (.engCtrlStep c e hold gap) s = .next u) ∧
    (∀ v : BitVec 20, exec (.ologWptrWrite c v gap) s = .next u) ∧
    (∀ hi : Word, exec (.vxSeedHi c hi gap) s = .next u ∧ exec (.edgeSeedHi c hi gap) s = .next u)) ∧
  (∀ (c : Fin 96) (gap : Nat) (s u : State), coreShut s c = false → u = passCore s c gap → coreOut u c = false →
    (∀ (n : Fin 64) (inc : BitVec 9), inc ≠ 0 → exec (.seqSignal c n inc gap) s = .next (signal u c n 15 0xFFFF inc.toNat false)) ∧
    (∀ n : Fin 64, exec (.seqSignal c n 0 gap) s = .next u) ∧
    (∀ tag : Word, ∃ att : Nat, exec (.stepTagWrite c tag gap) s =
      .next (fbPut (u.modCore c (fun k => { k with tagPend := k.tagPend ++ [(tag, 3)] })) c 0x8 15
        (leBytes 1 att ++ [0, 0, 0] ++ leBytes 4 tag.toNat))) ∧
    (∀ (e : Fin 10) (hold : Bool), exec (.engCtrlStep c e hold gap) s =
      .next (u.modCore c (fun k => k.modEng e (fun n => { n with hold := hold, stepOnce := hold || n.stepOnce })))) ∧
    (∀ v : BitVec 20, exec (.ologWptrWrite c v gap) s =
      .next (u.modCore c (fun k => { k with lg := { k.lg with ologWptr := v, ologDrops := 0 } }))) ∧
    (∀ hi : Word, exec (.vxSeedHi c hi gap) s = .next (u.modCore c (fun k =>
      { k with lg := { k.lg with vx := { k.lg.vx with pend := some (hi ++ k.lg.vx.seedLo) } } }))) ∧
    (∀ hi : Word, exec (.edgeSeedHi c hi gap) s = .next (u.modCore c (fun k =>
      { k with lg := { k.lg with edge := { k.lg.edge with pend := some (hi ++ k.lg.edge.seedLo) } } })))) ∧
  (∀ (c : Fin 96) (gap : Nat) (s u : State), coreShut s c = false → u = passCore s c gap →
    exec (.acCtrlSample c gap) s = .next (u.modCore c (fun k =>
      { k with ac := { k.ac with view := k.ac.blocks, viewCycles := k.ac.cycles } })) ∧
    exec (.acCtrlClear c gap) s = .next (u.modCore c (fun k =>
      { k with ac := { ActCtrs.reset with hiLatch := k.ac.hiLatch } })) ∧
    (∀ v : Word, exec (.fbCtrlEnable c v gap) s = .next (fbCtrlWrite u c (v ||| 1))) ∧
    (∀ v : Word, exec (.fbCtrlTrigger c v gap) s = .next (fbCtrlWrite u c (v ||| 0x80)))) ∧
  ((∀ (c : Fin 96) (gap : Nat) (s u : State), coreAbsent c = false → coreOut s c = false → u = passCore s c gap →
    (∃ t, exec (.vxStateLo c gap) s = .next t ∧ t.readData = leBytes 4 (u.core c).lg.vx.s.toNat ∧
      (t.core c).lg.vx.hiLatch = BitVec.ofNat 32 ((u.core c).lg.vx.s.toNat / 2 ^ 32) ∧
      t = { u with cores := t.cores, readData := t.readData }) ∧
    (∃ t, exec (.edgeStateLo c gap) s = .next t ∧ t.readData = leBytes 4 (u.core c).lg.edge.s.toNat ∧
      (t.core c).lg.edge.hiLatch = BitVec.ofNat 32 ((u.core c).lg.edge.s.toNat / 2 ^ 32) ∧
      t = { u with cores := t.cores, readData := t.readData }) ∧
    (∀ (b i : Fin 11), ∃ t, exec (.acLoRead c b ⟨i.val, by omega⟩ gap) s = .next t ∧
      t.readData = leBytes 4 (lo32 (vget (vget (u.core c).ac.view b) i)) ∧
      (t.core c).ac.hiLatch = BitVec.ofNat 32 (hi32 (vget (vget (u.core c).ac.view b) i))) ∧
    (∀ b : Fin 11, ∃ t, exec (.acLoRead c b 11 gap) s = .next t ∧
      t.readData = leBytes 4 (lo32 (u.core c).ac.viewCycles))) ∧
  (∀ (c : Fin 96) (gap : Nat) (s : State), coreAbsent c = true ∨ coreOut s c = true →
    exec (.vxStateLo c gap) s = .next { s with readData := List.replicate 4 0 } ∧
    exec (.edgeStateLo c gap) s = .next { s with readData := List.replicate 4 0 }))

/-- The head instruction of LD, ST, GX, XO and XI starts (R82, R163 to R169, R200, R313 to R337). -/
def Obligations.movement_instructions_start : Prop :=
  (∀ k ∈ ([⟨.load, 0, 1, loadReady, workLoad⟩, ⟨.fill, 0, 2, always, workFill⟩, ⟨.store, 1, 1, always, workStore⟩,
    ⟨.gather, 2, 1, always, workGather⟩, ⟨.scatter, 2, 2, always, workScatter⟩,
    ⟨.scatterAdd, 2, 3, scatterAddReady, workScatterAdd⟩, ⟨.csrExpand, 2, 4, always, workCsrExpand⟩] : List EngRow),
    k.Starts (fun s _ => s)) ∧
  (∀ k ∈ ([⟨.put, 3, 1, xoReady, workPut 0x01⟩, ⟨.redPut, 3, 2, xoReady, workRedPut⟩, ⟨.mcast, 3, 3, xoReady, workPut 0x03⟩,
    ⟨.dispatch, 3, 4, xoReady, workDispatch⟩, ⟨.combine, 3, 5, xoReady, workCombine⟩, ⟨.expect, 4, 1, xiReady, workExpect⟩,
    ⟨.redExpect, 4, 2, xiReady, workRedExpect⟩, ⟨.tokenRecv, 4, 3, xiReady, workTokenRecv⟩,
    ⟨.combineRecv, 4, 4, xiReady, workCombineRecv⟩] : List EngRow), k.Starts (fun s _ => s))

/-- The head instruction of MX, MV and VX starts: the array, arithmetic, conversion, integer and row operations, the loads
and stores of vector registers (R108, R116, R131, R133, R137 to R148, R154, R205, R621). -/
def Obligations.array_and_vector_instructions_start : Prop :=
  (∀ k ∈ ([⟨.mmul, 5, 1, mxReady, workMmul⟩, ⟨.cvt, 5, 2, mxReady, workCvt⟩, ⟨.mvmul, 6, 1, mvReady, workMvmul⟩,
    ⟨.ringSet, 6, 2, ringSetReady, workRingSet⟩] : List EngRow), k.Starts (fun s _ => s)) ∧
  (∀ k ∈ ([⟨.add, 7, 1, vxReady, workArith 1⟩, ⟨.sub, 7, 2, vxReady, workArith 2⟩, ⟨.mul, 7, 3, vxReady, workArith 3⟩,
    ⟨.fma, 7, 4, vxReady, workArith 4⟩, ⟨.div, 7, 5, vxReady, workArith 5⟩, ⟨.min, 7, 6, vxReady, workArith 6⟩,
    ⟨.max, 7, 7, vxReady, workArith 7⟩, ⟨.abs, 7, 8, vxReady, workAbs⟩, ⟨.neg, 7, 9, vxReady, workNeg⟩,
    ⟨.sqrt, 7, 0xA, vxReady, workSqrt⟩, ⟨.copy, 7, 0xB, vxReady, workCopy⟩, ⟨.sfu, 7, 0x10, vxReady, workSfu⟩,
    ⟨.dropout, 7, 0x11, vxReady, workDropout⟩, ⟨.randU, 7, 0x12, vxReady, workRandU⟩,
    ⟨.iadd, 7, 0x18, vxReady, workInt (fun sat a b => intRes sat (a + b))⟩,
    ⟨.isub, 7, 0x19, vxReady, workInt (fun sat a b => intRes sat (a - b))⟩,
    ⟨.imin, 7, 0x1A, vxReady, workInt (fun sat a b => intRes sat (min a b))⟩,
    ⟨.imax, 7, 0x1B, vxReady, workInt (fun sat a b => intRes sat (max a b))⟩,
    ⟨.and, 7, 0x1C, vxReady, workInt (bitRes (· &&& ·))⟩, ⟨.or, 7, 0x1D, vxReady, workInt (bitRes (· ||| ·))⟩,
    ⟨.xor, 7, 0x1E, vxReady, workInt (bitRes (· ^^^ ·))⟩] : List EngRow), k.Starts (fun s _ => s)) ∧
  (∀ k ∈ ([⟨.softmax, 7, 0x20, vxReady, workSoftmax⟩, ⟨.lnorm, 7, 0x21, vxReady, workNorm false⟩,
    ⟨.rmsnorm, 7, 0x22, vxReady, workNorm true⟩, ⟨.osmUpdate, 7, 0x23, vxReady, workOsmUpdate⟩,
    ⟨.osmFinal, 7, 0x24, vxReady, workOsmFinal⟩, ⟨.rsum, 7, 0x25, vxReady, workReduce rowSum⟩,
    ⟨.rmax, 7, 0x26, vxReady, workReduce rowMax⟩, ⟨.vld, 7, 0x30, vxReady, workVld⟩,
    ⟨.vst, 7, 0x31, vxReady, workVst⟩] : List EngRow), k.Starts (fun s _ => s))

/-- The head instruction of RK and UP starts (R173 to R177, R352, R383, R386, R394): a gated one with the commit gate OPEN, and
with the gate at SKIP it is in flight without work, so that it writes nothing; UPD_NORM is not gated. -/
def Obligations.rank_and_update_instructions_start : Prop :=
  (∀ k ∈ ([⟨.sort, 9, 1, rkReady, workSort⟩, ⟨.merge, 9, 2, rkReady, workList mergeLists⟩,
    ⟨.union, 9, 3, rkReady, workList (setLists true)⟩, ⟨.intersect, 9, 4, rkReady, workList (setLists false)⟩,
    ⟨.unique, 9, 5, rkReady, workUnique⟩, ⟨.topk, 9, 6, rkReady, workTopk⟩, ⟨.segment, 9, 7, rkReady, workSegment⟩,
    ⟨.hist, 9, 8, rkReady, workHist⟩] : List EngRow), k.Starts (fun s _ => s)) ∧
  (EngRow.Starts ⟨.updNorm, 8, 2, normReady, workUpdNorm⟩ (fun s _ => s) ∧
  ∀ k ∈ ([⟨.updApply, 8, 1, fun s c w => gateReady s c w, workUpdApply⟩,
      ⟨.updWcopy, 8, 3, fun s c w => gateReady s c w, workUpdWcopy⟩] : List EngRow),
    (∀ (c : Fin 96) (gap : Nat) (s u b v m : State) (q : QEnt) (o : DWord) (f : Eff), gateOf s c ≠ 2 → k.Ready c gap s q →
      u = passCore s c gap → b = beginStart u c k.eng q → startCheck b c q.word.toNat = none →
      originAt b c k.eng q = .ok v o → m = meetErrs v (k.work v c q.word.toNat q.slot.toNat o).reads →
      f = k.work m c q.word.toNat q.slot.toNat o → f.fault = none →
      exec (k.row c gap) s = .next (f.st.modCore c (fun x => x.modEng k.eng (fun n =>
        { n with flight := n.flight ++ [flightOf u m c q f], accept := max 1 f.accept })))) ∧
    ∀ (c : Fin 96) (gap : Nat) (s u b : State) (q : QEnt), gateOf s c = 2 → coreShut s c = false → u = passCore s c gap →
      headReady u c k.eng k.op = some q → k.ready u c q.word.toNat = true → b = beginStart u c k.eng q → ∃ fl : Flight,
        fl.ent = q ∧ fl.writes = [] ∧ fl.remote = [] ∧ fl.pois = false ∧ b.mem = u.mem ∧ b.poison = u.poison ∧
        exec (k.row c gap) s =
          .next (b.modCore c (fun x => x.modEng k.eng (fun n => { n with flight := n.flight ++ [fl] }))))

/-- R82, R87, R211: an instruction of any engine but UP that fails a check at its start faults: it stays at the head of its
queue and its core's FAULT holds its code, its slot and its engine.  One that may not start yet, on a core that is not
shut, leaves only the passing of the cycles. -/
def Obligations.instructions_that_do_not_start : Prop :=
  (∀ k ∈ ([⟨.load, 0, 1, loadReady, workLoad⟩, ⟨.store, 1, 1, always, workStore⟩, ⟨.gather, 2, 1, always, workGather⟩,
    ⟨.put, 3, 1, xoReady, workPut 0x01⟩, ⟨.expect, 4, 1, xiReady, workExpect⟩, ⟨.mmul, 5, 1, mxReady, workMmul⟩,
    ⟨.mvmul, 6, 1, mvReady, workMvmul⟩, ⟨.add, 7, 1, vxReady, workArith 1⟩, ⟨.sort, 9, 1, rkReady, workSort⟩] : List EngRow),
    ∀ (c : Fin 96) (gap : Nat) (s b : State) (q : QEnt) (code : Nat), k.Ready c gap s q →
      b = beginStart (passCore s c gap) c k.eng q → startCheck b c q.word.toNat = some code →
      ∃ t, exec (k.row c gap) s = .next t ∧ t = faultHead b c k.eng q code ∧ (t.core c).faulted = true ∧
        (t.core c).stopped = true ∧ (t.core c).fetching = false) ∧
  (∀ k ∈ ([⟨.load, 0, 1, loadReady, workLoad⟩, ⟨.put, 3, 1, xoReady, workPut 0x01⟩, ⟨.expect, 4, 1, xiReady, workExpect⟩,
    ⟨.mmul, 5, 1, mxReady, workMmul⟩, ⟨.mvmul, 6, 1, mvReady, workMvmul⟩, ⟨.add, 7, 1, vxReady, workArith 1⟩,
    ⟨.sort, 9, 1, rkReady, workSort⟩] : List EngRow),
    ∀ (c : Fin 96) (gap : Nat) (s u : State), coreShut s c = false → u = passCore s c gap →
      (∀ q, headReady u c k.eng k.op = some q → k.ready u c q.word.toNat = false ∨ stacksTake u c k.eng q k.work = false) →
      exec (k.row c gap) s = .next u)

/-! ### Power, clocks, temperature, telemetry -/

/-- The limits block, the sense points, the supply telemetry and the corrections (R480 to R487, R509, R571): a COMMIT of
the holder of POWER_LIMITS under its epoch is judged and waits for the count 64 chain counts on; at the count the staged
copy is in force. -/
def Obligations.limits_and_supply_events : Prop :=
  (∀ (w : Writer) (epoch : Word) (s : State) (i : Fin 2), writerAgent w = some i →
    ((vget s.kci.deeds 4).holder = agentCode i → (vget s.kci.deeds 4).epoch = epoch → s.pw.limS.inRange = true →
      exec (.limCtrlCommit w epoch) s = .next { s with pw := { s.pw with
        limEpoch := epoch, limDue := some (s.pw.limS, s.chain + 64), limOutcome := 0 } }) ∧
    ((vget s.kci.deeds 4).holder = agentCode i → (vget s.kci.deeds 4).epoch = epoch → s.pw.limS.inRange = false →
      exec (.limCtrlCommit w epoch) s = .next { s with pw := { s.pw with limEpoch := epoch, limOutcome := 2 } }) ∧
    ((vget s.kci.deeds 4).holder ≠ agentCode i ∨ (vget s.kci.deeds 4).epoch ≠ epoch →
      exec (.limCtrlCommit w epoch) s =
        .next (standDown { s with pw := { s.pw with limEpoch := epoch, limOutcome := 3 } } i)) ∧
    (∀ stop, (vget s.kci.deeds 4).holder = agentCode i → (vget s.kci.deeds 4).epoch = epoch →
      exec (.limFlush w epoch stop) s = .next { s with pw := { s.pw with limEpoch := epoch, flushStop := stop } }) ∧
    (∀ stop, (vget s.kci.deeds 4).holder ≠ agentCode i ∨ (vget s.kci.deeds 4).epoch ≠ epoch →
      exec (.limFlush w epoch stop) s = .next { s with pw := { s.pw with limEpoch := epoch } })) ∧
  (∀ (s : State) (l : Limits) (c : DWord), s.pw.limDue = some (l, c) → c ≤ s.chain →
    exec .limitsApply s = .next (limitsTook { s with pw := { s.pw with limA := l, limDue := none, limOutcome := 1 } })) ∧
  (∀ (n : Fin 8) (mask : BitVec 16) (s : State),
    (mask ≠ 0 → exec (.pcSns n mask) s =
      .next { s with pw := { s.pw with maskDue := vset s.pw.maskDue n (some (mask, s.chain + 1)) } }) ∧
    exec (.pcSns n 0) s = .next s) ∧
  (∀ (n : Fin 8) (s : State) (m : BitVec 16) (c : DWord), vget s.pw.maskDue n = some (m, c) → c ≤ s.chain →
    exec (.pointMaskApply n) s =
      .next { s with pw := { s.pw with masks := vset s.pw.masks n m, maskDue := vset s.pw.maskDue n none } }) ∧
  (∀ (d : Fin 24) (mv cycles : Nat) (s : State), (mv : Int) < s.pw.vReq - droopMv s → s.clk.relocking = false →
    exec (.droopTrip d mv cycles) s =
      .next (skipFor { s with pw := { s.pw with droopTrips := satAdd s.pw.droopTrips 1 } } cycles)) ∧
  (∀ (cycles : Nat) (s : State), skipping s = false → ∃ t, skipFor s cycles = { s with pw := { s.pw with
    skipEdges := satAdd s.pw.skipEdges ((cycles + 16) / 2), skipUntil := s.ts + t } } ∧
    t = BitVec.ofNat 64 (ceilDiv ((cycles + 16) * 1600) (stepMhz s.pw.pstep.toNat))) ∧
  (∀ (bus : Fin 4) (sel : Fin 16) (s : State) (r : Fin 10), avsRail bus.val sel.val = some r →
    (s.pw.avsRetried.contains (bus.val * 16 + sel.val) = false → exec (.avsWriteTimeout bus sel) s =
      .next (record { s with pw := { s.pw with
        avsRetried := s.pw.avsRetried ++ [bus.val * 16 + sel.val]
        avsSent := s.pw.avsSent ++ [(bus.val * 16 + sel.val, avsRequest s r.val)] } }
        0x0502 15 0x7F ([2] ++ leBytes 1 r.val))) ∧
    (s.pw.avsRetried.contains (bus.val * 16 + sel.val) = true → ∃ t, exec (.avsWriteTimeout bus sel) s = .next t ∧
      t = { s with pw := { s.pw with
        cals := t.pw.cals, avsRetried := s.pw.avsRetried.filter (fun i => decide (i ≠ bus.val * 16 + sel.val))
        calValid := false } } ∧
      (vget t.pw.cals r).avsFailed = true ∧ (vget t.pw.cals r).lossAt.isSome = true ∧ (vget t.pw.cals r).fresh = 0 ∧
      (∀ q, q ≠ r → vget t.pw.cals q = vget s.pw.cals q))) ∧
  (∀ (lowest : Nat) (s : State), s.pw.move = none → s.th.tripped = false →
    (lowest + 10 < stepMv s.pw.pstep.toNat → clampInt (s.pw.corr + 2) (-20) 20 ≠ s.pw.corr → ∃ w,
      w = { s with pw := { s.pw with corr := clampInt (s.pw.corr + 2) (-20) 20 } } ∧
      exec (.voltageCorrection lowest) s = .next (writeVlog w (vlogRequest w s.pw.pstep.toNat))) ∧
    (stepMv s.pw.pstep.toNat + 15 < lowest → clampInt (s.pw.corr - 1) (-20) 20 ≠ s.pw.corr → ∃ w,
      w = { s with pw := { s.pw with corr := clampInt (s.pw.corr - 1) (-20) 20 } } ∧
      exec (.voltageCorrection lowest) s = .next (writeVlog w (vlogRequest w s.pw.pstep.toNat))) ∧
    (stepMv s.pw.pstep.toNat ≤ lowest + 10 → lowest ≤ stepMv s.pw.pstep.toNat + 15 →
      exec (.voltageCorrection lowest) s = .next s)) ∧
  (∀ (reads : List (Option (Nat × Nat × Nat))) (s : State), (primary? s).isSome = true → s.mg.descValid = true →
    ∃ t, exec (.pmbusPoll reads) s = .next t ∧ t = { s with pw := { s.pw with cals := t.pw.cals } } ∧ ∀ i : Fin 10,
      (∀ v a p, reads[i.val]? = some (some (v, a, p)) → (vget t.pw.cals i).volt = v ∧
        (vget t.pw.cals i).amp = (a : Rat) / 1000 ∧ (vget t.pw.cals i).watt = (p : Rat) / 1000 ∧
        (vget t.pw.cals i).readAt = s.ts ∧ (vget t.pw.cals i).new = true ∧
        ((vget s.pw.cals i).avsFailed = false → (vget t.pw.cals i).lossAt = none)) ∧
      (reads[i.val]? = none ∨ reads[i.val]? = some none → vget t.pw.cals i = { vget s.pw.cals i with
        new := false, lossAt := some ((vget s.pw.cals i).lossAt.getD s.ts) })) ∧
  (∀ (est : List Nat) (s : State), ∃ t, exec (.calibrationTick est) s = .next t ∧
    t = { s with pw := { s.pw with cals := t.pw.cals, calRun := t.pw.calRun, calValid := t.pw.calValid } } ∧
    (∀ i : Fin 10, vget t.pw.cals i = (vget s.pw.cals i).step s.ts (railT s i.val)
      ((vget s.pw.cals i).mean ((est.getD i.val 0 : Rat) / 1000))) ∧
    t.pw.calRun = (if s.pw.wstate = 0 then s.pw.calRun + 1 else 0) ∧
    (t.pw.cals.toList.any (fun c => c.lossAt.isSome) = true → t.pw.calValid = false) ∧
    (s.pw.calValid = false → t.pw.calRun < 64 → t.pw.calValid = false))

/-- The estimator, the loan of an idle core's share, the decisions, and the W-states (R427, R486, R489 to R499, R503 to
R508). -/
def Obligations.power_control_events : Prop :=
  (∀ rails matrix demand slots (s : State), ∃ t, exec (.estimatorTick rails matrix demand slots) s = .next t ∧
    t = { s with pw := t.pw } ∧
    t.pw.est = sumRat ((List.finRange 10).map (fun i =>
      (vget s.pw.cals i).gain * ((rails.getD i.val 0 : Rat) / 1000) + (vget s.pw.cals i).off)) ∧
    t.pw.ewmaShort = s.pw.ewmaShort + (t.pw.est - s.pw.ewmaShort) / 10000 ∧
    t.pw.ewmaSust = s.pw.ewmaSust + (t.pw.est - s.pw.ewmaSust) / 1000000 ∧
    t.pw.tdcI = s.pw.tdcI + (t.pw.vlogI - s.pw.tdcI) / 1000000) ∧
  (∀ (c : Fin 96) (s : State), runningCore s c = true → coreWaits s c = true → vget s.pw.lender c = false →
    exec (.easementLoan c) s = .next { s with pw := { s.pw with
      lender := vset s.pw.lender c true, easeLoans := satAdd s.pw.easeLoans 1 } }) ∧
  (∀ (dyn sram other leak : Nat) (s : State), (primary? s).isSome = true → s.th.tripped = false →
    exec (.powerDecision dyn sram other leak) s = .next (decide100 s (dyn, sram, other, leak))) ∧
  (∀ (dyn sram other leak : Nat) (s : State), s.pw.fallback = false → s.th.tripped = false →
    100 * msTicks ≤ s.since s.pw.lastDecision → ∃ w p, w = record { s with pw := { s.pw with
      t := some (s.pw.limA.plSust.toNat : Rat), limiter := 7, fallback := true } } 0x0502 15 0x7F [1, 0xFF] ∧
      5 ≤ p ∧ p ≤ 8 ∧ exec (.powerFallback dyn sram other leak) s = .next (if s.pw.wstate = 0 then startMove w p else w)) ∧
  (∀ (dyn sram other leak : Nat) (s : State), s.pw.fallback = true → s.th.tripped = false →
    100 * msTicks ≤ s.since s.pw.lastDecision → ∃ p, 5 ≤ p ∧ p ≤ 8 ∧
      exec (.powerFallback dyn sram other leak) s = .next (if s.pw.wstate = 0 then startMove s p else s)) ∧
  (∀ (blocked : Bool) (s : State), deviceIdle s = true → wAllowed s (s.pw.wstate.toNat + 1) = true →
    s.pw.wstate.toNat < 4 → s.pw.move = none → s.ms.mstepTo = none → s.pw.mstepDue = none → s.clk.relocking = false →
    s.pw.exiting = false → s.th.tripped = false → (s.pw.wstate = 3 → w4Ok s = true) →
    (s.pw.wstate = 0 ∨ blocked = true ∨ drained s = true) →
    ∃ t, exec (.wStateEntry blocked) s = .next t ∧ t = enterW s (s.pw.wstate.toNat + 1) ∧
      t.pw.wstate.toNat = s.pw.wstate.toNat + 1) ∧
  (∀ (cause : Fin 6) (s : State), s.pw.wstate ≠ 0 → s.th.tripped = false → exec (.wake cause) s = .next
    { s with pw := { s.pw with exiting := true }, th := { s.th with kwActive := false, heat := 0, kwLimited := false } }) ∧
  (∀ s : State, s.pw.exiting = true → ∃ t, exec .wStateExitDone s = .next ((List.finRange 96).foldl nextKernel t) ∧
    t.pw.wstate = 0 ∧ t.pw.exiting = false ∧
    (s.pw.wstate.toNat < 3 → t = { s with pw := { s.pw with wstate := 0, exiting := false } }) ∧
    (3 ≤ s.pw.wstate.toNat → t.pw.twoLane = 0)) ∧
  (∀ (n : Fin 6) (s : State), 3 ≤ s.pw.wstate.toNat → (portOf s ⟨n.val, by omega⟩).state = 1 →
    bit s.pw.twoLane.toNat n.val = false → exec (.portIdleTwoLane n) s =
      .next ((askSwitch s ⟨n.val, by omega⟩ 1).modPw (fun x =>
        { x with twoLane := x.twoLane ||| BitVec.ofNat 6 (2 ^ n.val) })))

/-- Step changes, clock alarms, relock, thermal events (R494, R516 to R531, R534). -/
def Obligations.clock_and_thermal_events : Prop :=
  (∀ (s : State) (m : StepMove), s.pw.move = some m →
    (∀ lowest : Nat, m.phase = 0 → s.pw.vReq < vlogRequest s m.target.toNat → s.pw.vReq - 5 ≤ (lowest : Int) →
      exec (.pstepRaise lowest) s = .next (writeVlog s (min (s.pw.vReq + 20) (vlogRequest s m.target.toNat)))) ∧
    (∀ first second : Nat, m.phase = 0 → vlogRequest s m.target.toNat ≤ s.pw.vReq → s.pw.vReq - 10 ≤ (first : Int) →
      s.pw.vReq - 10 ≤ (second : Int) → exec (.pstepVerify first second) s =
        .next { s with pw := { s.pw with move := some { m with phase := 1 } },
                       clk := { s.clk with armed := m.target, armValid := true, armCount := armCount s } }) ∧
    (m.phase = 1 → s.clk.armValid = true → s.clk.armCount ≤ s.chain → s.clk.relocking = false → ∃ t,
      exec .pstepSwitch s = .next (fallbackMove t) ∧ t = { s with pw := t.pw, clk := t.clk } ∧ t.clk.cur = s.clk.armed ∧
        t.clk.armValid = false ∧ t.pw.fallback = s.pw.fallback ∧ t.pw.pstep = m.target ∧ t.pw.move = none ∧
        t.pw.stepChanges = satAdd s.pw.stepChanges 1) ∧
    (m.phase = 0 → 200 * usTicks ≤ s.since m.began → exec .pstepAbort s = .next (fallbackMove (abortMove s false)))) ∧
  (∀ s : State, s.pw.fallback = false ∨ 5 ≤ s.pw.pstep.toNat ∨ s.pw.wstate ≠ 0 → fallbackMove s = s) ∧
  (∀ (m : Option (Fin 12)) (s : State), s.clk.relocking = false → s.clk.failed = false → s.th.tripped = false →
    ∃ t, exec (.jitterAlarm m) s = .next t ∧ t.clk.relocking = true ∧ t.clk.gated = true ∧
      t.clk.locked = false ∧ t.clk.tries = 0 ∧ t.clk.jitter = satAdd s.clk.jitter 1 ∧
      t.pw.move = none ∧ t = { s with clk := t.clk, pw := t.pw, tel := t.tel }) ∧
  (∀ (m : Fin 12) (pct : BitVec 7) (corr : BitVec 5) (s : State), ∃ t, exec (.dutyAlarm m pct corr) s = .next t ∧
    t = { s with clk := t.clk } ∧ (vget t.clk.mons m).dutyPct = pct ∧ (vget t.clk.mons m).corr = corr ∧
    (46 ≤ pct.toNat → pct.toNat ≤ 54 → t.clk.duty = s.clk.duty ∧
      (vget t.clk.mons m).dutyAlarm = (vget s.clk.mons m).dutyAlarm) ∧
    (pct.toNat < 46 ∨ 54 < pct.toNat → t.clk.duty = satAdd s.clk.duty 1 ∧ (vget t.clk.mons m).dutyAlarm = true)) ∧
  (∀ (m : Fin 12) (s : State), (vget s.clk.mons m).dutyAlarm = true →
    (vget s.clk.mons m).dutyPct.toNat < 46 ∨ 54 < (vget s.clk.mons m).dutyPct.toNat →
    exec (.dutyAlarmEscalate m) s = .next (jitterAlarm s m.val)) ∧
  (∀ (count : Nat) (s : State), s.clk.relocking = true → s.clk.failed = false → s.clk.checked = false →
    (3011 ≤ count → count ≤ 3133 →
      exec (.relockCheck count) s = .next { s with clk := { s.clk with checked := true, locked := true } }) ∧
    (count < 3011 ∨ 3133 < count → s.clk.tries < 2 →
      exec (.relockCheck count) s = .next { s with clk := { s.clk with tries := s.clk.tries + 1 } }) ∧
    (count < 3011 ∨ 3133 < count → 2 ≤ s.clk.tries → exec (.relockCheck count) s =
      .next (record { s with clk := { s.clk with tries := s.clk.tries + 1, failed := true } } 0x0502 15 0x7F [5, 0xFF]))) ∧
  (∀ s : State, s.clk.relocking = true → s.clk.checked = true → s.clk.failed = false → s.th.tripped = false →
    exec .relockRelease s = .next { s with clk := { s.clk with
      gated := false, relocking := false, checked := false, tries := 0, relocks := satAdd s.clk.relocks 1 } }) ∧
  (∀ s : State, (∃ t, exec (.clkLoRead 0) s = .next t ∧ t.readData = leBytes 4 s.clk.armCount.toNat ∧
      t.clk.armHi = BitVec.ofNat 32 (s.clk.armCount.toNat / 2 ^ 32)) ∧
    (∃ t, exec (.clkLoRead 1) s = .next t ∧ t.readData = leBytes 4 s.ts.toNat ∧
      t.clk.tsHi = BitVec.ofNat 32 (s.ts.toNat / 2 ^ 32)) ∧
    (∃ t, exec (.clkLoRead 2) s = .next t ∧ t.readData = leBytes 4 s.chain.toNat ∧
      t.clk.chainHi = BitVec.ofNat 32 (s.chain.toNat / 2 ^ 32))) ∧
  (∀ (i : Fin 112) (s : State), (vget s.th.sens i).failed = false → ∃ w, w = { s with th := { s.th with
      sens := vmod s.th.sens i (fun y => { y with failed := true }) } } ∧ exec (.sensorFailed i) s =
    .next (record w 0x0503 15 0x7F ([2] ++ leBytes 1 i.val ++ leBytes 2 (vget s.th.sens i).temp.toNat))) ∧
  (∀ s : State,
    (s.th.warn = false → 8 * (s.th.thWarn.toNat : Int) ≤ tjMax8 s → exec .tjWarn s = .next (thermalWatch
      (record { s with th := { s.th with warn := true } } 0x0503 15 0x7F ([1, 0xFF] ++ leBytes 2 (tc 16 (tjMax8 s)))))) ∧
    (s.th.warn = true → tjMax8 s ≤ 8 * (s.th.thWarn.toNat : Int) - 40 →
      exec .tjWarn s = .next (thermalWatch { s with th := { s.th with warn := false } })) ∧
    (8 * (s.th.thWarn.toNat : Int) - 40 < tjMax8 s → tjMax8 s < 8 * (s.th.thWarn.toNat : Int) →
      exec .tjWarn s = .next (thermalWatch s))) ∧
  (∀ (i : Fin 112) (s : State), s.th.tripped = false → ∃ t, exec (.thermtrip i) s = .next t ∧ t.th.tripped = true ∧
    t.th.tripSensor = BitVec.ofNat 7 i.val ∧ t.th.tripValid = true ∧ t.clk.gated = true ∧ t.pw.vReq = 500 ∧
    t.pw.move = none ∧ t = { s with th := t.th, clk := t.clk, pw := t.pw }) ∧
  (∀ s : State, (primary? s).isSome = true → 3 ≤ s.pw.wstate.toNat → s.th.kwEn = true → s.th.tripped = false →
    s.pw.exiting = false → ∃ t, exec .keepWarmTick s = .next t ∧ t.th.kwActive = true ∧
      t.pw.pstep = (if 0 < t.th.heat then 4 else 8) ∧ t = { s with th := t.th, clk := t.clk, pw := t.pw })

/-- Telemetry (R494, R510, R577, R581, R585 to R591): the ring takes the oldest record, samples and snapshots are
taken, a core without progress for WDOG_MS fires its watchdog. -/
def Obligations.telemetry_events : Prop :=
  (∀ (s : State) (r : Rec) (rest : List Rec), s.tel.queue = r :: rest →
    exec .telemetryRecordWrite s = .next (stopCheck (recordRead (writeRecord s r rest) r))) ∧
  (∀ s : State, ∃ t, exec .acSampleTick s = .next t ∧ t = { s with cores := t.cores } ∧ ∀ c : Fin 96,
    (coreShut s c = true → t.core c = s.core c) ∧ (coreShut s c = false → t.core c = { s.core c with
      ac := { (s.core c).ac with view := (s.core c).ac.blocks, viewCycles := (s.core c).ac.cycles } })) ∧
  (∀ (temps : List (BitVec 11)) (s : State), ∃ t, exec (.tjLoop temps) s = .next t ∧
    t = { s with th := t.th, pw := t.pw, tel := t.tel } ∧ ∀ i : Fin 112, vget t.th.sens i =
      if (vget s.th.sens i).failed then vget s.th.sens i
      else { vget s.th.sens i with temp := temps.getD i.val (vget s.th.sens i).temp }) ∧
  (∀ (c : Fin 96) (s : State), coreShut s c = false → (s.core c).running = true → (s.core c).wdogFired = false →
    waitsOutside s c = false → s.snap.wdogMs.toNat * msTicks ≤ s.since (s.core c).wdogMark → ∃ body,
      exec (.watchdog c) s = .next (snapTrigger (recordCore (s.modCore c (fun k => { k with wdogFired := true }))
        0x0107 c body) 1)) ∧
  (∀ (w : Writer) (s : State), primaryWrites s w = true → s.snap.hold = false → s.snap.capturing = false →
    s.snap.sampleAt = none → exec (.snapshotTriggerWrite w) s =
      .next { s with snap := { s.snap with sources := 4, sampleAt := some (s.chain + 2) } }) ∧
  (∀ (s : State) (c : DWord), s.snap.sampleAt = some c → c ≤ s.chain → s.clk.relocking = false →
    exec .snapshotSample s = .next ((List.finRange 96).foldl
      (fun s k => if (s.core k).fb.policy = 2 then fbTrigger s k 0x04 else s) { s with snap := { s.snap with
        latched := snapBytes s c s.snap.sources, copying := s.snap.sources, sources := 0, sampleAt := none
        capturing := true, next := 0 } })) ∧
  (∀ s : State, s.snap.capturing = true → s.snap.next = 0 → (∀ c ∈ s.kci.live, c.opcode ≠ 0x58) → ∃ w,
    w = s.snap.latched.foldl (fun s p => s.write (0x020000800000 + p.1) p.2 false)
      { s with mem := s.mem.clear 0x020000800000 0x200000 } ∧
    exec .snapshotCopyDone s = .next (record { w with snap := { w.snap with
        seq := s.snap.seq + 1, capturing := false, latched := [], copying := 0, next := 0 } }
      0x0703 15 0x7F (leBytes 4 (s.snap.seq + 1).toNat ++ leBytes 1 s.snap.copying.toNat))) ∧
  (∀ (c : Fin 96) (s : State), (s.core c).fb.enable = true → drainSlots (s.core c).fb ≠ [] → (s.core c).fb.ringSize ≠ 0 →
    s.pw.wstate.toNat < 2 → coreShut s c = false →
    stackWaits s (s.core c).fb.ringAddr.toNat ((s.core c).fb.ringSize.toNat * 65536) = false →
    platAll s .wr (s.core c).fb.owner.toNat (s.core c).fb.ringAddr.toNat ((s.core c).fb.ringSize.toNat * 65536) = true →
    ((s.core c).fb.policy = 0 ∨ (s.core c).fb.ringPos + 16 * (drainSlots (s.core c).fb).length -
      s.num ((s.core c).fb.ringAddr.toNat + 8) 8 ≤ (s.core c).fb.ringSize.toNat * 65536 - 64) →
    ∃ t, exec (.fieldBookDrain c) s = .next t ∧
      (t.core c).fb.ringPos = (s.core c).fb.ringPos + 16 * (drainSlots (s.core c).fb).length ∧
      ((s.core c).fb.policy ≠ 2 → (t.core c).fb.held = (s.core c).fb.held - (drainSlots (s.core c).fb).length))

/-! ### Stacks, maps, registers -/

/-- Requests to the stacks and what becomes of their errors (R219, R221, R225 to R233, R238 to R241, R245, R246, R256):
a request that the active plat refuses moves nothing and leaves its record; an admitted one waits, under the keys of its
entry, while the stacks change their step, and else, with no bank under repair and nothing waiting, is served at once; a
write that is served is in memory; a read returns the bytes that stand. The data plane's boot does the repairs and
applies the persistent log (R229, R599, R604, log 96). -/
def Obligations.memory_system_events : Prop :=
  (∀ s : State, s.rst.por = false → s.rst.sys = false → s.rst.dpUp = false → s.th.tripped = false →
    s.rst.pwrLoss = false → s.rst.pwrClear = none → s.clk.gated = false →
    exec .dataPlaneBootDone s = .next (dataReady (applyLog (bootRepairs { s with rst := { s.rst with dpUp := true } })))) ∧
  (∀ (src : Source) (a : BitVec 48) (write : Option (List Byte)) (n : Nat) (errs : List (BitVec 48 × Nat × EccErr))
      (s u : State) (r : StackReq), u = noteSramErrs s a.toNat n errs →
      r = { src := src, a := a, write := write, n := n, errs := errs } →
    (∀ c, write = none → sramReader u src a.toNat n = some c →
      exec (.stackRequest src a write n errs) s = .next (sramRead u c a.toNat n errs)) ∧
    (write ≠ none ∨ sramReader u src a.toNat n = none →
      (∀ b, sourceFail u src write.isSome a.toNat r.len = some b →
        exec (.stackRequest src a write n errs) s = .next (refuseRequest u r b)) ∧
      (sourceFail u src write.isSome a.toNat r.len = none →
        ((stackOf? a.toNat).isSome = true → s.ms.mstepTo.isSome = true → exec (.stackRequest src a write n errs) s =
          .next { u with ms := { u.ms with
            waiting := u.ms.waiting ++ [{ r with keys := r.sectors.map (cipherAt u) }] } }) ∧
        (s.ms.mstepTo = none → s.ms.waiting = [] → (∀ k, (s.stk k).repairing = none) →
          exec (.stackRequest src a write n errs) s = .next (serveRequest u r))))) ∧
  (∀ (s : State) (r : StackReq),
    (∀ bs, r.write = some bs → r.keys = [] → serveRequest s r = s.write r.a.toNat bs false) ∧
    (r.write = none → r.errs = [] → r.keys = [] → ∃ t, serveRequest s r = t ∧ t.readData = s.bytes r.a.toNat r.n ∧
      t = { s with readData := t.readData, busStatus := t.busStatus } ∧
      ((∃ f, r.src = .control f) → t.busStatus = if s.poisoned r.a.toNat r.n then 2 else 0) ∧
      ((∀ f, r.src ≠ .control f) → t.busStatus = s.busStatus)) ∧
    (∀ (b : Nat) (t : State), t = refuseRequest s r b →
      (r.write.isSome = true → t = sourceViolation s r.src true b) ∧
      (r.write = none → t = { sourceViolation s r.src false b with readData := t.readData, busStatus := t.busStatus } ∧
        (∀ x ∈ t.readData, x = 0) ∧ ((∃ k, r.src = .firmware k) → t.readData.length = r.len) ∧
        ((∃ f, r.src = .control f) → t.busStatus = 1)))) ∧
  (∀ (n : Fin 6) (pass : Bool) (s : State), (s.stk n).scrubEn = true → s.pw.wstate.toNat < 3 →
    exec (.patrolScrub n [] pass) s =
      .next (if pass then s.modStk n (fun k => { k with passes := satAdd k.passes 1 }) else s)) ∧
  (∀ (n : Fin 6) (s : State) (r : RowId), (s.stk n).repairing = some r →
    (∃ t, exec (.rowRepairComplete n true) s = .next (serveWaiting t) ∧ (t.stk n).repairing = (s.stk n).repairWait.head? ∧
      (t.stk n).repairWait = (s.stk n).repairWait.drop 1 ∧ (t.stk n).rprSoft = satAdd (s.stk n).rprSoft 1 ∧
      t.ms.softRepairs = s.ms.softRepairs ++ [(n.val, r)] ∧ t = { s with ms := t.ms, tel := t.tel }) ∧
    (∃ w, exec (.rowRepairComplete n false) s = .next (serveWaiting (spareCheck w n r.pc)) ∧
      (w.stk n).unrepRows = (s.stk n).unrepRows ++ [r] ∧ (w.stk n).rprUnrep = satAdd (s.stk n).rprUnrep 1)) ∧
  (∀ (n : Fin 6) (s : State), (s.stk n).sparing = true →
    (s.ms.mstepTo = none → ∃ t, exec (.sparingComplete n) s = .next t ∧ (t.stk n).sparing = false ∧ (t.stk n).spared = true ∧
      t = { s with ms := t.ms, tel := t.tel } ∧ ∀ m, m ≠ n → t.stk m = s.stk m) ∧
    (s.ms.mstepTo.isSome = true → exec (.sparingComplete n) s = .next s)) ∧
  (∀ (n : Fin 6) (x : BitVec 8) (s : State), ∃ t w, exec (.stackTempRead n x) s = .next t ∧ t = thermalWatch w ∧
    (w.stk n).temp = x ∧ (w.stk n).tempStale = false ∧ (w.stk n).critical = decide (effTh1 s + 12 ≤ x.toNat) ∧
    ((s.stk n).throttle.toNat < throttleFor (effTh1 s) x.toNat →
      (w.stk n).throttle.toNat = throttleFor (effTh1 s) x.toNat) ∧ ∀ m, m ≠ n → w.stk m = s.stk m) ∧
  (∀ (n : Fin 6) (s : State), exec (.tempStale n) s =
    .next (s.modStk n (fun k => { k with tempStale := true, throttle := 3, coolSince := none }))) ∧
  (∀ (s : State) (m : Bool) (c : DWord), s.pw.mstepDue = some (m, c) → c ≤ s.chain → s.clk.relocking = false →
    exec .memoryStepChange s =
      .next { s with pw := { s.pw with mstepDue := none }, ms := { s.ms with mstepTo := some m } }) ∧
  (∀ (s : State) (m : Bool), s.ms.mstepTo = some m → ∃ t, exec .memoryStepDone s =
      .next (applyMstepPolicy (firmwareActs ((List.finRange 96).foldl coreGoesOn (serveWaiting t)))) ∧
    t.ms.mstepTo = none ∧ (∀ n, (t.stk n).mstep = m) ∧ t = { s with ms := t.ms }) ∧
  (∀ (delivered admitted : List Nat) (s : State), (policyInForce s).2.2 = 2 → s.ms.mstepTo = none → s.pw.mstepDue = none →
    s.pw.lastMstep = 0 ∨ 100 * msTicks ≤ s.since s.pw.lastMstep →
    (memStep s = false → delivered.length = 6 → (∀ x ∈ delivered, x < 70) → exec (.mstepAutoDecision delivered admitted) s =
      .next { s with pw := { s.pw with mstepDue := some (true, s.chain + 1), lastMstep := s.ts } }) ∧
    (memStep s = true → (∃ x ∈ admitted, 90 < x) → exec (.mstepAutoDecision delivered admitted) s =
      .next { s with pw := { s.pw with mstepDue := some (false, s.chain + 1), lastMstep := s.ts } }))

/-- R246, R247, R292: at its chain count, and not during a relock, the staged plat, partition map or route table becomes
the active one, and the commands that waited for it complete, a PLAT_UNMAP once no admitted request of its entry waits;
under a new plat what an encrypted entry covers reads as its key has it (R248), and a new partition's cores get seeds
from the DRBG (R158). -/
def Obligations.maps_come_into_force : Prop :=
  (∀ (s : State) (c : DWord), s.ms.platDue = some c → c ≤ s.chain → s.clk.relocking = false →
    (∀ d ∈ s.kci.live, d.opcode ≠ 0x14) → exec .platApply s =
      .next ((s.kci.live.filter (fun d => d.opcode == 0x13)).foldl (fun s d => finish s d kOK 0 [])
        (rekey s { s with ms := { s.ms with platA := s.ms.platS, platDue := none } }))) ∧
  (∀ (s : State) (c : DWord) (d e : Cmd) (i : Fin 1024), s.ms.platDue = some c → c ≤ s.chain → s.clk.relocking = false →
    s.kci.live = [d] → d.opcode = 0x14 → d.aux = 0 → d.b 32 2 = i.val →
    e = { d with aux := (vget s.ms.platA i).range.1 + 1, due := BitVec.ofNat 64 (vget s.ms.platA i).range.2 } → ∃ w,
      w = setLive (rekey s { s with ms := { s.ms with platA := s.ms.platS, platDue := none } }) e ∧
      (behindRequest s (vget s.ms.platA i).range.1 (vget s.ms.platA i).range.2 = true → exec .platApply s = .next w) ∧
      (behindRequest s (vget s.ms.platA i).range.1 (vget s.ms.platA i).range.2 = false → exec .platApply s = .next (finish
        (if bit (d.b 34 1) 0 then zeroRange w (vget s.ms.platA i).range.1 (vget s.ms.platA i).range.2 else w) e kOK 0 []))) ∧
  (∀ (s : State) (c : DWord), s.ms.pmapDue = some c → c ≤ s.chain → s.clk.relocking = false → ∃ w : State,
    exec .partitionMapApply s = .next ((w.kci.live.filter (fun d => d.opcode == 0x10 || d.opcode == 0x12)).foldl (fun s d =>
      match (if d.opcode = 0x10 then partOf? d.part else none) with
      | some p => finish ((coresOf (s.setPart p { Part.reset with made := true }) p).foldl seedCore
          (s.setPart p { Part.reset with made := true })) d kOK 0 (leBytes 1 (d.part + 1))
      | none => finish s d kOK 0 []) w) ∧ w.kci = s.kci ∧
    w.ms = { s.ms with pmapA := s.ms.pmapS, pmapDue := none } ∧ ∀ k : Fin 96,
      (vget s.ms.pmapA (parcelOf k) = vget s.ms.pmapS (parcelOf k) → w.core k = s.core k) ∧
      (vget s.ms.pmapA (parcelOf k) ≠ vget s.ms.pmapS (parcelOf k) →
        (w.core k).ctr = Vector.replicate 64 .reset ∧ (w.core k).stepTag = 0 ∧ (w.core k).phaseValid = false)) ∧
  (∀ (s : State) (c : DWord), s.fab.routeDue = some c → c ≤ s.chain → s.clk.relocking = false →
    exec .routeTableApply s = .next ((s.kci.live.filter (fun d => d.opcode == 0x49)).foldl (fun s d => finish s d kOK 0 [])
      { s with fab := { s.fab with routeA := s.fab.routeS, tractA := s.fab.tractS, routeDue := none } })) ∧
  (∀ s : State, s.clk.relocking = true → exec .platApply s = .next s ∧ exec .partitionMapApply s = .next s ∧
    exec .routeTableApply s = .next s)

/-- R14: a register write stores an RW field and clears W1C bits where it has ones; a read-only register and the bytes of
a register block without a register stand; the BAR2 size takes the powers of two from 30 to 38 (R443); a write in the
window of a core that is shut, quarantined or held out does nothing. -/
def Obligations.register_writes : Prop :=
  (∀ (f : Fin 13) (v : Word) (s : State), s.rst.ctlUp = true →
    exec (.registerWrite (.function f 0x020) v) s = .next (s.modFn f (fun x => { x with
      sqLog2 := BitVec.ofNat 4 v.toNat, cqLog2 := BitVec.ofNat 4 (field v.toNat 4 4)
      vector := BitVec.ofNat 5 (field v.toNat 8 5) })) ∧
    exec (.registerWrite (.function f 0x004) v) s =
      .next (s.modFn f (fun x => { x with eventsLost := x.eventsLost && !bit v.toNat 4 })) ∧
    exec (.registerWrite (.function f 0x000) v) s = .next s) ∧
  (∀ (f : Fin 13) (off : BitVec 26) (v : Word) (s : State), s.rst.ctlUp = false →
    exec (.registerWrite (.function f off) v) s = .next s) ∧
  (∀ (c : Fin 96) (gap : Nat) (v : Word) (s u : State), coreShut s c = false → coreOut s c = false → u = passCore s c gap →
    coreShut u c = false → coreOut u c = false →
    (∀ n : Fin 64, exec (.registerWrite (.core c (BitVec.ofNat 24 (0x830000 + 64 * n.val)) gap) v) s =
      .next (u.modCore c (fun k => k.modCtr n (fun t => t.clearFlags v.toNat)))) ∧
    exec (.registerWrite (.core c 0x840014 gap) v) s =
      .next (u.modCore c (fun k => { k with num := k.num.clearBits v.toNat })) ∧
    exec (.registerWrite (.core c 0x84001C gap) v) s = .next (u.modCore c (fun k =>
      { k with fault := { k.fault with valid := k.fault.valid && !bit v.toNat 8 } })) ∧
    exec (.registerWrite (.core c 0x840004 gap) v) s = .next u) ∧
  (∀ (c : Fin 96) (off : BitVec 24) (gap : Nat) (v : Word) (s : State), coreShut s c = true ∨ coreOut s c = true →
    exec (.registerWrite (.core c off gap) v) s = .next s) ∧
  (∀ (v : Word) (s : State), (30 ≤ v.toNat → v.toNat ≤ 38 →
      exec (.registerWrite .bar2Size v) s = .next { s with kci := { s.kci with bar2Log := v.toNat } }) ∧
    (v.toNat < 30 ∨ 38 < v.toNat → exec (.registerWrite .bar2Size v) s = .next s))

/-! ### The fabric -/

/-- The ports of the torus (R273 to R282, R311): training, codewords good and bad and the flits that they carry, the
handshakes and their switches at HS_AT, lane faults, retrains, silence; what an uplink adds (R302, R306, R307). -/
def Obligations.port_events : Prop :=
  (∀ (n : Fin 8) (peer : Option (BitVec 16)) (s : State), (portOf s n).enable = true →
    (6 ≤ n.val → ∃ t, exec (.portTrained n peer) s = .next t ∧ (portOf t n).state = 1 ∧ (portOf t n).trained = true ∧
      (∀ m, m ≠ n → portOf t m = portOf s m) ∧ t = { s with fab := t.fab }) ∧
    (n.val < 6 → s.fab.idValid = true → 2 ≤ s.fab.len (n.val / 2) → peer = some (neighbour s.fab n.val) →
      ∃ t, exec (.portTrained n peer) s = .next t ∧ (portOf t n).state = 1 ∧ (portOf t n).miswired = false ∧
        t = { s with fab := t.fab }) ∧
    (n.val < 6 → s.fab.idValid = true → s.fab.len (n.val / 2) < 2 ∨ peer ≠ some (neighbour s.fab n.val) →
      ∃ t, exec (.portTrained n peer) s = .next t ∧ (portOf t n).state = 3 ∧ (portOf t n).miswired = true)) ∧
  (∀ (n : Fin 6) (count : BitVec 6) (corrected : Bool) (flits : List (List Byte)) (s : State) (k : Fin 8),
    k = ⟨n.val, by omega⟩ → (portOf s k).trained = true → (portOf s k).retraining = false →
    (∀ w, w = modPort s k (fun p => { p.passed count with
        cwCorr := if corrected then satAdd p.cwCorr 1 else p.cwCorr }) →
      (count = (portOf s k).rxCount → exec (.codewordReceive n count true corrected flits) s =
          .next (flits.foldl (takeFlit k) (acceptWord w k)) ∧
        (portOf (acceptWord w k) k).rxCount = (portOf s k).rxCount + 1 ∧
        (portOf (acceptWord w k) k).discarding = false ∧
        acceptWord w k = { s with fab := (acceptWord w k).fab }) ∧
      (count ≠ (portOf s k).rxCount → exec (.codewordReceive n count true corrected flits) s = .next w)) ∧
    ∀ w, w = modPort s k (fun p => { p.passed count with cwBad := satAdd p.cwBad 1 }) →
      ((portOf s k).discarding = false ∨ count = (portOf s k).rxCount →
        exec (.codewordReceive n count false corrected flits) s = .next (sendNak (modPort w k (fun p =>
          { p with discarding := true })) k)) ∧
      ((portOf s k).discarding = true → count ≠ (portOf s k).rxCount →
        exec (.codewordReceive n count false corrected flits) s = .next w)) ∧
  (∀ (p : Port) (count : BitVec 6), p.passed count = { p with hs := (p.passed count).hs } ∧
    (p.passed count).hs.length = p.hs.length ∧ ∀ (i : Nat) (h : Hs), p.hs[i]? = some h →
      (p.passed count).hs[i]? =
        some (if h.mine then h else { h with left := min h.left (h.at_ - count - 1).toNat })) ∧
  (∀ (k : Fin 8) (u : State) (flit : List Byte),
    ((portOf u k).rxLeft = 0 → natAt flit 0 1 % 4 = 0 ∨ natAt flit 0 1 % 4 = 3 → takeFlit k u flit = u) ∧
    ((portOf u k).rxLeft = 0 → natAt flit 0 1 % 4 = 2 → dataFlits flit = 0 → takeFlit k u flit = takeMsg u k flit) ∧
    ((portOf u k).rxLeft = 0 → natAt flit 0 1 % 4 = 2 → dataFlits flit ≠ 0 → takeFlit k u flit =
      modPort u k (fun p => { p with rxHead := flit, rxLeft := dataFlits flit })) ∧
    (1 < (portOf u k).rxLeft → takeFlit k u flit =
      modPort u k (fun p => { p with rxHead := p.rxHead ++ flit, rxLeft := p.rxLeft - 1 })) ∧
    ((portOf u k).rxLeft = 1 → takeFlit k u flit = takeMsg (modPort u k (fun p => { p with rxHead := [], rxLeft := 0 })) k
      ((portOf u k).rxHead ++ flit)) ∧
    (u.fab.idValid = true → (portOf u k).state = 1 → takeMsg u k flit = takeIn k.val u (msgOfBytes flit)) ∧
    (u.fab.idValid = false ∨ (portOf u k).state ≠ 1 → takeMsg u k flit = u)) ∧
  (∀ (n : Fin 6) (ack : BitVec 6) (nak : Option (BitVec 6)) (hs : BitVec 8) (at_ : BitVec 6) (lanes : BitVec 4)
      (dev : BitVec 16) (credits : List (BitVec 16)) (s : State) (k : Fin 8), k = ⟨n.val, by omega⟩ →
    (portOf s k).trained = true → ∃ w v x : State, w = { s with fab := w.fab } ∧
      (portOf w k).credits = Vector.ofFn (fun i : Fin 12 =>
        min (vget (portOf s k).credits i + (credits.getD i.val 0).toNat) (vget bufferTable i)) ∧
      (portOf w k).replay = (portOf s k).replay.filter (fun e => decide (32 ≤ (ack - e.count).toNat)) ∧
      (∀ m, m ≠ k → portOf w m = portOf s m) ∧ v = (match nak with | some c => takeNak w k c | none => w) ∧
      (hs = 0 ∨ 5 < hs.toNat → x = v) ∧
      (1 ≤ hs.toNat → hs.toNat ≤ 4 → x = modPort (if hs = 1 then putOff v k else v) k (fun p =>
        { p with hs := p.hs.filter (fun h => h.mine || h.code != hs) }.addHs
          ⟨hs, at_, lanes, false, (at_ - p.rxCount).toNat⟩)) ∧
      (hs = 5 → v.fab.idValid = true →
        x = judgePeer (modPort v k (fun p => { p with peerKnown := true, peerId := dev })) k (some dev)) ∧
      (hs = 5 → v.fab.idValid = false → x = modPort v k (fun p => { p with peerKnown := true, peerId := dev })) ∧
      exec (.linkControlFlit n ack nak hs at_ lanes dev credits) s =
        .next (flush k ((portOf x k).due.hs.length + 1) x)) ∧
  (∀ (n : Fin 6) (s w : State) (k : Fin 8), k = ⟨n.val, by omega⟩ → (portOf s k).trained = true →
    w = (if (portOf s k).retraining then s else forceRetrain s k) →
    (∃ t sent, exec (.linkRetrainDone n true) s = .next t ∧ (portOf t k).retraining = false ∧
      (portOf t k).afterRetrain = true ∧ (portOf t k).replay = (portOf s k).replay ++ sent ∧
      (portOf t k).retrains = (portOf w k).retrains ∧ t = { s with fab := t.fab }) ∧
    exec (.linkRetrainDone n false) s = .next (retrainFailed w k)) ∧
  (∀ (n : Fin 6) (lane : Fin 4) (s : State) (k : Fin 8), k = ⟨n.val, by omega⟩ → (portOf s k).trained = true →
    ∃ down w, down = (portOf s k).laneDown ||| BitVec.ofNat 4 (2 ^ lane.val) ∧
      w = modPort s k (fun p => { p with laneDown := down }) ∧
      ((portOf s k).lanes = 0 → (lanePair (~~~ down)).isSome = true →
        exec (.laneFault n lane) s = .next (askSwitch w k 1)) ∧
      ((portOf s k).lanes = 0 → lanePair (~~~ down) = none → exec (.laneFault n lane) s = .next (linkDown w k)) ∧
      ((portOf s k).lanes = 1 → lane.val < 2 → exec (.laneFault n lane) s = .next (linkDown w k)) ∧
      ((portOf s k).lanes = 1 → 2 ≤ lane.val → exec (.laneFault n lane) s = .next w) ∧
      ((portOf s k).lanes = 2 → 2 ≤ lane.val → exec (.laneFault n lane) s = .next (linkDown w k)) ∧
      ((portOf s k).lanes = 2 → lane.val < 2 → exec (.laneFault n lane) s = .next w)) ∧
  (∀ (n : Fin 6) (s w : State) (k : Fin 8) (g h : Hs) (rest next : List Hs), k = ⟨n.val, by omega⟩ →
    (portOf s k).hs = g :: rest → w = (if g.mine then fillIdle k g.left s else s) → (portOf w k).hs = h :: next →
    (h.left ≠ 0 → exec (.handshakeSwitch n) s = .next w) ∧
    (h.left = 0 → h.code = 1 → exec (.handshakeSwitch n) s = .next (askLater (modPort w k (fun p => { p with
        hs := next, lanes := (lanePair h.lanes).getD p.lanes
        degrades := if h.lanes = 0xF then p.degrades else satAdd p.degrades 1 })) k)) ∧
    (h.left = 0 → h.code = 2 → exec (.handshakeSwitch n) s =
      .next (askLater (modPort w k (fun p => { p with hs := next, lanes := 0 })) k)) ∧
    (h.left = 0 → h.code = 3 → exec (.handshakeSwitch n) s =
      .next (askLater (modPort w k (fun p => { p with hs := next, strong := false })) k)) ∧
    (h.left = 0 → h.code = 4 → exec (.handshakeSwitch n) s =
      .next (askLater (modPort w k (fun p => { p with hs := next, strong := true })) k))) ∧
  (∀ (s : State) (k : Fin 8), (portOf s k).later = [] → askLater s k = s) ∧
  (∀ (n : Fin 6) (s : State) (k : Fin 8), k = ⟨n.val, by omega⟩ →
    ((portOf s k).trained = true → (portOf s k).laneDown ≠ 0 → exec (.laneRetrained n) s =
      .next (askSwitch (modPort s k (fun p => { p with laneDown := 0 })) k 2)) ∧
    ((portOf s k).trained = true → ∃ t, exec (.partnerSilence n) s = .next t ∧ (portOf t k).state = 2 ∧
      (portOf t k).trained = false ∧ (portOf t k).replay = [] ∧ (portOf t k).downs = satAdd (portOf s k).downs 1 ∧
      (∀ w ∈ t.fab.waiting, w.port ≠ n.val))) ∧
  (∀ (u : Fin 2) (s : State) (k : Fin 8), k = ⟨u.val + 6, by omega⟩ →
    ((portOf s k).state = 1 → ∃ t, exec (.uplinkDown u) s = .next t ∧ (portOf t k).state = 2 ∧
      (portOf t k).downs = satAdd (portOf s k).downs 1 ∧ t.fab.waiting = s.fab.waiting) ∧
    exec (.pauseFrame u) s = .next (modPort s k (fun p => { p with pauses := satAdd p.pauses 1 })) ∧
    (∀ prio : BitVec 3, exec (.pfcFrame u prio true) s =
        .next (modPort s k (fun p => { p with paused := p.paused ||| BitVec.ofNat 8 (2 ^ prio.toNat) })) ∧
      exec (.pfcFrame u prio false) s =
        .next (modPort s k (fun p => { p with paused := p.paused &&& ~~~ BitVec.ofNat 8 (2 ^ prio.toNat) }))))

/-- The router (R284, R288, R290 to R294, R298, R302, R304, R312): it forwards a waiting message by the route that it has where
the output port's arbitration lets it go, CTRL before all others; it discards one of a reserved KIND, drops one whose route
has stayed blocked for NO_ROUTE_HOLD, sends a stored copy again after RESEND_TIMEOUT, takes in the messages of good frames. -/
def Obligations.router_events : Prop :=
  (∀ (i : Nat) (s : State) (w : Waiting), s.fab.waiting[i]? = some w → s.fab.idValid = true → kindOk w.msg = true →
    (w.port = 8 → w.msg.mcast = true → w.msg.escape = true) →
    (∀ (n : Fin 8) (cls : Nat) (esc dl : Bool), routeOf s w = .torus n cls esc dl →
      (∀ d, arbitrate s n w = some d → exec (.messageForward i) s =
        .next (sendTorus (served (leave s i w) n d) n cls { w.msg with escape := esc, dateline := dl })) ∧
      (arbitrate s n w = none → exec (.messageForward i) s = .next s)) ∧
    (∀ u dev up, routeOf s w = .uplink u dev up →
      (∀ d, arbitrate s u w = some d → exec (.messageForward i) s =
        .next (sendUplink (served (leave s i w) u d) u dev up w.msg)) ∧
      (arbitrate s u w = none → exec (.messageForward i) s = .next s)) ∧
    (routeOf s w = .here → w.msg.mcast = false →
      exec (.messageForward i) s = .next (arrive (leave s i w) w.port w.msg)) ∧
    (routeOf s w = .here → w.msg.mcast = true →
      exec (.messageForward i) s = .next (mcastArrive (unwait s i) w.port w.cls w.msg)) ∧
    (routeOf s w = .noDevice → w.msg.vc ≠ 1 → exec (.messageForward i) s = .next (refuse (leave s i w) w.msg rDEVICE)) ∧
    (∀ esc, routeOf s w = .wait esc → exec (.messageForward i) s = .next { s with fab := { s.fab with
      waiting := lmod s.fab.waiting i (fun w => { w with msg := { w.msg with escape := esc }, blocked := none }) } }) ∧
    (∀ esc, routeOf s w = .blocked esc → exec (.messageForward i) s = .next { s with fab := { s.fab with
      waiting := lmod s.fab.waiting i (fun w =>
        { w with msg := { w.msg with escape := esc }, blocked := some (w.blocked.getD s.ts) }) } })) ∧
  (∀ (i : Nat) (s : State) (w : Waiting), s.fab.waiting[i]? = some w → s.fab.idValid = true →
    (kindOk w.msg = false → exec (.messageForward i) s = .next (dropKind (leave s i w) w.msg)) ∧
    (kindOk w.msg = true → w.port = 8 → w.msg.mcast = true → w.msg.escape = false →
      (w.msg.dstDev = w.msg.srcDev → exec (.messageForward i) s = .next { s with fab := { s.fab with
        waiting := s.fab.waiting.eraseIdx i ++ mcastCopies s.fab w.msg } }) ∧
      (w.msg.dstDev ≠ w.msg.srcDev → exec (.messageForward i) s = .next (refuse (unwait s i) w.msg rMCAST)))) ∧
  (∀ (s : State) (n : Fin 8) (w : Waiting),
    (w.msg.vc = 3 → arbitrate s n w = some ((portOf s n).drrTurn, (portOf s n).drrDeficit)) ∧
    (w.msg.vc ≠ 3 → (∃ v ∈ s.fab.waiting, v.msg.vc = 3 ∧ (routeOf s v).out = some n) → arbitrate s n w = none)) ∧
  (∀ (i : Nat) (s : State) (w : Waiting) (b : DWord), s.fab.waiting[i]? = some w → w.blocked = some b →
    (∀ esc, s.fab.holdUs * usTicks ≤ s.since b → routeOf s w = .blocked esc → w.msg.vc ≠ 1 →
      exec (.noRouteHold i) s = .next (refuse (leave s i w) w.msg rROUTE)) ∧
    (s.since b < s.fab.holdUs * usTicks → exec (.noRouteHold i) s = .next s)) ∧
  (∀ (i : Nat) (s : State) (r : RtxEnt), s.fab.rtx[i]? = some r →
    (s.since r.since < s.fab.resendUs * usTicks → exec (.resendTimeout i) s = .next s) ∧
    (s.fab.resendUs * usTicks ≤ s.since r.since → r.sends < s.fab.resendLimit → ∃ t, exec (.resendTimeout i) s = .next t ∧
      t = { s with fab := t.fab } ∧ t.fab.resends = satAdd s.fab.resends 1 ∧
      t.fab.waiting = s.fab.waiting ++ [Waiting.of s.fab 8 0 r.msg] ∧
      t.fab.rtx = lmod s.fab.rtx i (fun r => { r with sends := r.sends + 1, since := s.ts })) ∧
    (s.fab.resendUs * usTicks ≤ s.since r.since → s.fab.resendLimit ≤ r.sends → ∃ t,
      exec (.resendTimeout i) s = .next (pumpSends t) ∧ t.fab.rtx = s.fab.rtx.eraseIdx i ∧
      t.fab.undeliv = satAdd s.fab.undeliv 1 ∧ t.fab.waiting = s.fab.waiting)) ∧
  (∀ (u : Fin 2) (x : FrameIn) (s w : State) (k : Fin 8), k = ⟨u.val + 6, by omega⟩ → (portOf s k).state = 1 →
    w = modPort s k (fun p => { p with cwCorr := satAdd p.cwCorr x.corrected, cwBad := satAdd p.cwBad x.bad }) →
    (x.bad ≠ 0 ∨ s.fab.idValid = false ∨ openEther s.fab u.val x.frame = none →
      exec (.ethernetFrameReceive u x) s = .next w) ∧
    (∀ payload, x.bad = 0 → s.fab.idValid = true → openEther s.fab u.val x.frame = some payload →
      exec (.ethernetFrameReceive u x) s = .next (takeFrame w k payload))) ∧
  (∀ (s : State) (k : Fin 8) (payload : List Byte) (ms : List Msg), natAt payload 0 1 = 1 → natAt payload 2 2 ≠ 0 →
    natAt payload 2 2 ≤ 8 → natAt payload 6 2 = s.fab.devId.toNat → bit (natAt payload 1 1) 0 = false →
    ms = msgsOfBytes (natAt payload 2 2) (payload.drop 8) →
    (oneVc ms = true → (∀ m ∈ ms, m.vc ≠ 1 → uplinkSlot s m.job = none) →
      takeFrame s k payload = pfcCheck (ms.foldl (takeIn k.val) s) k) ∧
    (oneVc ms = false ∨ (∃ m ∈ ms, m.vc ≠ 1 ∧ (uplinkSlot s m.job).isSome = true) → takeFrame s k payload = s))

/-- A message at its target router (R262, R265, R285, R294 to R299, R311, R322): a data message that every check admits lands
and is acknowledged, an ORDERED one in its place; one with a bad end-to-end check, or of no partition's JOB, or of a partition
under reset is refused; one of another ATTEMPT is dropped as stale; during a memory-step change, and behind a request that waits
for one of its sectors (R238), it waits.  An acknowledgement
frees the stored copy, and what waits for its room goes on (R296). -/
def Obligations.messages_arrive : Prop :=
  (∀ k ∈ ([(.putMessage, 0x01), (.redPutMessage, 0x02), (.dispatchMessage, 0x04), (.combineMessage, 0x05)] :
      List ((Msg → Instr) × BitVec 8)),
    ∀ (m : Msg) (s : State), m.kind = k.2 → m.vc = 0 ∨ m.vc = 2 → m.data.length ≤ 1024 → s.fab.idValid = true →
    (stalls s m = true → exec (k.1 m) s = .next { s with fab := { s.fab with
      waiting := s.fab.waiting ++ [{ Waiting.of s.fab 8 0 m with land := true }] } }) ∧
    (stalls s m = false → m.crc ≠ m.e2e → exec (k.1 m) s = .next (refuse s m rCRC)) ∧
    (stalls s m = false → m.crc = m.e2e → partOfJob s m.job = none → exec (k.1 m) s = .next (refuse s m rJOB)) ∧
    (∀ p, stalls s m = false → m.crc = m.e2e → partOfJob s m.job = some p →
      ((s.part p).underReset = true → exec (k.1 m) s = .next (refuse s m rRESET)) ∧
      ((s.part p).underReset = false → (s.part p).xc.attempt m.parity ≠ m.attempt →
        exec (k.1 m) s = .next (passSeq (modXc s p (fun x => { x with staleDrop := satAdd x.staleDrop 1 })) m)) ∧
      ((s.part p).underReset = false → (s.part p).xc.attempt m.parity = m.attempt → landCheck s p m = none →
        m.tracked = false → m.ordered = false → exec (k.1 m) s = .next (acceptMsg s p m).1) ∧
      ((s.part p).underReset = false → (s.part p).xc.attempt m.parity = m.attempt → landCheck s p m = none →
        m.tracked = false → m.ordered = true → exec (k.1 m) s = .next (placeOrdered s p m)))) ∧
  (∀ (s : State) (m : Msg), m.vc = 0 ∨ m.vc = 2 → (s.ms.mstepTo.isSome = true → stalls s m = true) ∧
    (s.ms.mstepTo = none → s.ms.waiting = [] → stalls s m = false)) ∧
  (∀ (s : State) (m : Msg), m.ordered = false → passSeq s m = s) ∧
  (∀ (port : Fin 6) (m : Msg) (s : State), m.kind = 0x03 → m.mcast = true → s.fab.idValid = true →
    (portOf s ⟨port.val, by omega⟩).state = 1 →
    exec (.mcastMessage port m) s = .next (mcastArrive s port.val (classOf m) m)) ∧
  (∀ (m : Msg) (s : State) (a : Answer), m.kind = 0x10 → m.vc = 1 → m.data.length ≤ 1024 → s.fab.idValid = true →
    m.answers = [a] → a.reason = 0 → exec (.ackMessage m) s = .next (pumpSends { s with fab := { s.fab with
      rtx := s.fab.rtx.filter (fun r => !decide (r.msg.srcCore = a.core ∧ r.msg.msgId = a.msgId)) } })) ∧
  (∀ (m : Msg) (s : State) (a : Answer), m.kind = 0x11 → m.vc = 1 → m.data.length ≤ 1024 → s.fab.idValid = true →
    m.answers = [a] → a.reason ≠ 0 → finalReason a.reason.toNat = false →
    exec (.refuseMessage m) s = .next (pumpSends { s with fab := { s.fab with rtx := s.fab.rtx.map (fun r =>
      if r.msg.srcCore = a.core ∧ r.msg.msgId = a.msgId then { r with since := s.ts } else r) } }))

/-- The barrier (R308, R309), groups and gaps (R263, R320, R323), ATTEMPT (R325). -/
def Obligations.barrier_and_group_events : Prop :=
  (∀ (port : Fin 9) (m : Msg) (s u : State) (i : Fin 16), m.vc = 3 → m.data.length ≤ 1024 → s.fab.idValid = true →
    m.crc = m.e2e → m.tracked = false → barOf s m.job = some i → u = dupMark s m →
    (m.kind = 0x21 → (vget s.fab.bars i).failed = 0 → BitVec.ofNat 16 (m.op 0 16) = (vget s.fab.bars i).gen →
      exec (.barReleaseMessage port m) s = .next (barRelease u i)) ∧
    (m.kind = 0x21 → (vget s.fab.bars i).failed = 0 → BitVec.ofNat 16 (m.op 0 16) ≠ (vget s.fab.bars i).gen →
      exec (.barReleaseMessage port m) s = .next (barFail u i 1)) ∧
    (m.kind = 0x20 → port.val < 6 → exec (.barArriveMessage port m) s = .next (barArrive u i (BitVec.ofNat 16 (m.op 0 16))
      (fun b => { b with fromPorts := b.fromPorts ||| BitVec.ofNat 6 (2 ^ port.val) })))) ∧
  (∀ (i : Fin 16) (gen : BitVec 16) (s : State), (vget s.fab.bars i).used = true →
    (partOfJob s (vget s.fab.bars i).job).isSome = true → exec (.barrierArriveLocal i gen) s =
      .next (barArrive s i gen (fun b => { b with arrived := true, since := s.ts }))) ∧
  (∀ (i : Fin 16) (s : State), (vget s.fab.bars i).used = true → (vget s.fab.bars i).arrived = true →
    (vget s.fab.bars i).failed = 0 →
    (s.fab.barUs * usTicks ≤ s.since (vget s.fab.bars i).since → ∃ t, exec (.barTimeout i) s = .next t ∧
      (vget t.fab.bars i).failed = 2 ∧ (∀ j, j ≠ i → vget t.fab.bars j = vget s.fab.bars j) ∧
      t = { s with fab := t.fab, tel := t.tel }) ∧
    (s.since (vget s.fab.bars i).since < s.fab.barUs * usTicks → exec (.barTimeout i) s = .next s)) ∧
  (∀ (c : Fin 96) (g : BitVec 12) (gap : Nat) (s u : State) (i : Nat) (x : XiWait) (f : Flight), u = passCore s c gap →
    xiOf (u.core c) g.toNat = some (i, x) → xiFlight u c i = some f →
    (groupDone ((u.core c).tally g.toNat) x = true → stackFree u (f.reads ++ f.writes) = true →
      exec (.groupComplete c g gap) s = .next (drainXi c 8 (endGroup u c i f x))) ∧
    (groupDone ((u.core c).tally g.toNat) x = false ∨ stackFree u (f.reads ++ f.writes) = false →
      exec (.groupComplete c g gap) s = .next u) ∧
    (u.ms.mstepTo = none → u.fab.held = [] → ∀ t, ((u.core c).tally g.toNat).since = some t →
      (groupDone ((u.core c).tally g.toNat) x = false → u.fab.gapUs * usTicks ≤ u.since t → ∃ w,
        w = gapRecord u c g.toNat ∧ xiFlight w c i = some f ∧
        exec (.gapTimeout c g gap) s = .next (heldTimeout (drainXi c 8 (closeGroup w c i f x)) c g.toNat false)) ∧
      (groupDone ((u.core c).tally g.toNat) x = true ∨ u.since t < u.fab.gapUs * usTicks →
        exec (.gapTimeout c g gap) s = .next u))) ∧
  (∀ (c : Fin 96) (g : BitVec 12) (gap : Nat) (s u : State), u = passCore s c gap →
    (u.ms.mstepTo.isSome = true → exec (.gapTimeout c g gap) s = .next u) ∧
    (u.ms.mstepTo = none → xiOf (u.core c) g.toNat = none →
      exec (.gapTimeout c g gap) s = .next (heldTimeout u c g.toNat true))) ∧
  (∀ (s : State) (c : Fin 96) (g : Nat) (counted : Bool), s.fab.held = [] → heldTimeout s c g counted = s) ∧
  (∀ (p : Fin 12) (even odd : BitVec 4) (s : State), ∃ t, exec (.xcAttempt p even odd) s = .next t ∧
    (t.part p).xc.attempt0 = even ∧ (t.part p).xc.attempt1 = odd ∧
    (s.fab.held = [] → ∀ q, q ≠ p → t.part q = s.part q) ∧
    ((s.part p).xc.attempt0 = even → (s.part p).xc.attempt1 = odd → t = s))

/-! ### Step closure, state fingerprints, in-service tests -/

/-- The signals and events by which a step closes (R268, R344, R348, R350 to R358, R361 to R363): DONE of every step core makes
the step REDUCED, and firmware goes on with the checks; the digest engine serves partitions in the order of their REDUCED
events; a suspect check ends by its buddy or by its timeout; a close timeout, counted from the own entry, fails the step; while
a live update holds the firmware, signals are only noted. -/
def Obligations.closure_events : Prop :=
  (∀ (c : Fin 96) (s u v : State) (p : Fin 12) (k : Word), ownerOf s c = some p → takeSig s c 0 = some (k, u) →
    (slotAt u p (parOf k)).stepId = k →
    (slotAt u p (parOf k)).state = stOPEN ∨ (slotAt u p (parOf k)).state = stREDUCED →
    v = tryReduced (modSlot u p (parOf k) (fun x => { x with done := insRise x.done c.val })) p (parOf k) →
    (fwRuns v = true → exec (.doneSignal c) s =
      .next (checkStep (startWaiting (releaseDue v p) p (parOf k)) p (parOf k))) ∧
    (fwRuns v = false → exec (.doneSignal c) s = .next v)) ∧
  (∀ (s : State) (p : Fin 12) (i : Fin 2), (slotAt s p i).state = stOPEN → (slotAt s p i).replayPos = 0 →
    (slotAt s p i).turn = 0 → (slotAt s p (otherSlot i)).replayed = false →
    (stepCores s p ≠ [] → (∀ c ∈ stepCores s p, (slotAt s p i).done.contains c.val = true) →
      (slotAt (tryReduced s p i) p i).state = stREDUCED ∧ (slotAt (tryReduced s p i) p i).turn = nextTurn s) ∧
    ((∃ c ∈ stepCores s p, (slotAt s p i).done.contains c.val = false) → tryReduced s p i = s)) ∧
  (∀ (c : Fin 96) (s u : State) (p : Fin 12) (k : Word), ownerOf s c = some p → takeSig s c 0 = some (k, u) →
    (slotAt u p (parOf k)).stepId ≠ k ∨
      ((slotAt u p (parOf k)).state ≠ stOPEN ∧ (slotAt u p (parOf k)).state ≠ stREDUCED) →
    exec (.doneSignal c) s = .next u) ∧
  (∀ (p : Fin 12) (s : State) (i : Fin 2) (n : Nat), digestDue s p = some (i, n) → fwRuns s = true →
    ((∀ q j m, digestDue s q = some (j, m) → n ≤ m) → ∃ w, w = modSlot s p i (fun y =>
      { y with digest := some (rangeDigest s (shardOf s p)) }) ∧ exec (.digestComplete p) s =
      .next (tryEntry (if rangePoison s (shardOf s p) then found w p i cPOISON 2 else w) p i)) ∧
    ((∃ q j m, digestDue s q = some (j, m) ∧ m < n) → exec (.digestComplete p) s = .next s)) ∧
  (∀ (p : Fin 12) (s : State) (i : Fin 2), closing? s p = some i → (slotAt s p i).state = stREDUCED →
    (slotAt s p i).checked = true → (slotAt s p i).digest = none → (slotAt s p i).replayPos = 0 →
    (slotAt s p i).halted = false → digestDue s p = some (i, (slotAt s p i).turn)) ∧
  (∀ (b : Fin 96) (s : State), (∀ p, ownerOf s b = some p → (s.core b).stopped = true → ∀ i : Fin 2,
      (slotAt s p i).suspects.find? (fun u => u.status == 1 && u.buddy == some b.val) = none) →
    exec (.buddyHalt b) s = .next s) ∧
  (∀ (b c : Fin 96) (s : State) (p : Fin 12) (u : Suspect), ownerOf s b = some p → (s.core b).stopped = true →
    fwRuns s = true →
    (slotAt s p 0).suspects.find? (fun u => u.status == 1 && u.buddy == some b.val) = some u → coreOf? u.core = some c →
    ∃ w, w = lateCheck (compareBuddy s p 0 c b) p 0 ∧
      ((slotAt w p 1).suspects.find? (fun u => u.status == 1 && u.buddy == some b.val) = none →
        exec (.buddyHalt b) s = .next w)) ∧
  (∀ (c : Fin 96) (s : State) (p : Fin 12) (u : Suspect), ownerOf s c = some p → fwRuns s = true →
    (slotAt s p 0).suspects.find? (fun u => u.core == c.val && decide (u.status < 2)) = some u → u.buddy = none →
    (slotAt s p 0).state = stREDUCED ∨ (slotAt s p 0).state = stCHECKED →
    polNat s p 24 4 * msTicks ≤ s.since (slotAt s p 0).reducedAt →
    ∃ w, w = lateCheck (suspectFails s p 0 c.val) p 0 ∧
      ((slotAt w p 1).suspects.find? (fun u => u.core == c.val && decide (u.status < 2)) = none →
        exec (.suspectTimeout c) s = .next w)) ∧
  (∀ (c : Fin 96) (s : State) (p : Fin 12), ownerOf s c = some p →
    (∀ i : Fin 2, s.since (slotAt s p i).reducedAt < polNat s p 24 4 * msTicks) →
    exec (.suspectTimeout c) s = .next s) ∧
  (∀ (p : Fin 12) (s : State) (i : Fin 2), closing? s p = some i → fwRuns s = true → (slotAt s p i).sent = true →
    (slotAt s p i).state = stREDUCED ∨ (slotAt s p i).state = stCHECKED → (slotAt s p i).halted = false →
    (slotAt s p i).pos = 0 → (slotAt s p i).replayPos = 0 → (slotAt s p i).curing = false →
    (countingEntries s p i).length < polNat s p 12 2 →
    (polNat s p 20 4 * msTicks ≤ s.since (slotAt s p i).sentAt →
      exec (.closeTimeout p) s = .next (failStep s p i cTIMEOUT)) ∧
    (s.since (slotAt s p i).sentAt < polNat s p 20 4 * msTicks → exec (.closeTimeout p) s = .next s)) ∧
  (∀ (p : Fin 12) (s : State), (fwRuns s = false → exec (.mailboxPoll p) s = .next s) ∧
    (fwRuns s = true → (∀ i : Fin 2, (slotAt s p i).pos ≠ 2) → (s.part p).cl.evalWait = 0 →
      exec (.mailboxPoll p) s = .next (lookAgain s p)) ∧
    (fwRuns s = true → (∀ i : Fin 2, (slotAt s p i).pos ≠ 2) → (s.part p).cl.evalWait ≠ 0 →
      (s.part p).cl.evalDone ≠ [] → (∀ d ∈ stepCores s p, (s.part p).cl.evalDone.contains d.val = true) →
      exec (.mailboxPoll p) s = .next (commitSignal s p))) ∧
  (∀ (c : Fin 96) (s u : State) (p : Fin 12) (k : Word) (i : Fin 2), ownerOf s c = some p → takeSig s c 1 = some (k, u) →
    ([0, 1] : List (Fin 2)).find? (fun i => decide ((slotAt u p i).pos = 2)) = some i → ∃ w, w = modCl u p (fun x =>
      { x with updDone := insRise x.updDone c.val }) ∧
      (fwRuns w = true → (∀ d ∈ stepCores w p, (w.part p).cl.updDone.contains d.val = true) →
        exec (.updDoneSignal c) s = .next (afterUpdate w p i)) ∧
      (fwRuns w = false ∨ (∃ d ∈ stepCores w p, (w.part p).cl.updDone.contains d.val = false) →
        exec (.updDoneSignal c) s = .next w)) ∧
  (∀ (c : Fin 96) (s u : State) (p : Fin 12) (k : Word), ownerOf s c = some p → takeSig s c 2 = some (k, u) → ∃ w,
    w = modCl u p (fun x => { x with evalDone := insRise x.evalDone c.val }) ∧
      (fwRuns w = true → (w.part p).cl.evalWait ≠ 0 →
        (∀ d ∈ stepCores w p, (w.part p).cl.evalDone.contains d.val = true) →
        exec (.evalDoneSignal c) s = .next (commitSignal w p)) ∧
      (fwRuns w = false ∨ (w.part p).cl.evalWait = 0 → exec (.evalDoneSignal c) s = .next w))

/-- The fingerprint pass (R396 to R402), while no live update holds the firmware (R268): the root entry goes out when the
digests are done; a pass whose members agree ends; a block that came as awaited is refreshed; a peer silent for CLOSE_TIMEOUT
ends the wait. -/
def Obligations.fingerprint_events : Prop :=
  (∀ (p : Fin 12) (s : State), (s.part p).uc.state = 1 → fwRuns s = true → ∃ w,
      w = fpSend s p (0x1000 + 0x10000 * (s.part p).uc.member.toNat)
        ((groupsFrom (leaves s p)).flatMap (fun g => leBytes 8 g.toNat)) ∧
    exec (.fpDigestDone p) s = .next (fpRoot w p (leaves s p))) ∧
  (∀ (p : Fin 12) (s : State), (s.part p).uc.state = 2 → (s.part p).uc.timeout = false → fwRuns s = true →
    (s.part p).uc.round = 0 →
    (fpEntries s p).length = (s.part p).uc.members.toNat → (∀ e ∈ fpEntries s p, bit (natAt e.2 7 1) 0 = false) →
    (∀ e ∈ fpEntries s p, ∀ f ∈ fpEntries s p, natAt e.2 8 8 = natAt f.2 8 8) →
    exec (.fpRootsComplete p) s = .next (endPass s p)) ∧
  (∀ (p : Fin 12) (s : State), (s.part p).uc.state = 2 → (s.part p).uc.timeout = false → fwRuns s = true →
    (s.part p).uc.round ≠ 0 → (fpEntries s p).length = (s.part p).uc.members.toNat →
    (fpResolve s p ((fpEntries s p).map (fun e => natAt e.2 5 1)) = none →
      exec (.fpRootsComplete p) s = .next (endRevert s p)) ∧
    ∀ w, fpResolve s p ((fpEntries s p).map (fun e => natAt e.2 5 1)) = some w →
      ((w.part p).uc.blocks = [] → exec (.fpRootsComplete p) s = .next (fpNext w p)) ∧
      ((w.part p).uc.blocks ≠ [] → exec (.fpRootsComplete p) s = .next (modUc w p (fun u => { u with state := 3 })))) ∧
  (∀ (p : Fin 12) (w : State), (w.part p).uc.groups.length ≤ 64 →
    fpNext w p = endPass (modUc w p (fun u => { u with groups := [] })) p) ∧
  (∀ (p : Fin 12) (b : Nat) (s : State) (w : DWord) (tries a c : Nat), fwRuns s = true →
    (s.part p).uc.blocks.find? (fun x => x.1 = b) = some (b, w, tries) → (fpBlocks s p)[b]? = some (a, c) →
    (leafOf s b a ≠ w → tries < 3 → exec (.fpBlockReceived p b) s = .next (modUc s p (fun u => { u with
      blocks := u.blocks.map (fun x => if x.1 = b then (x.1, x.2.1, x.2.2 + 1) else x) }))) ∧
    (leafOf s b a ≠ w → 3 ≤ tries → exec (.fpBlockReceived p b) s = .next (endRevert s p)) ∧
    (leafOf s b a = w → coreOf? c = none → ∃ t, t = modUc s p (fun u => { u with
        refreshed := satAdd u.refreshed 1, blocks := u.blocks.filter (fun x => x.1 ≠ b) }) ∧
      exec (.fpBlockReceived p b) s = .next (if (t.part p).uc.blocks.isEmpty then fpNext t p else t))) ∧
  (∀ (p : Fin 12) (s : State), (s.part p).uc.state = 2 → fwRuns s = true →
    (fpEntries s p).length < (s.part p).uc.members.toNat →
    (s.since (s.part p).uc.sentAt < polNat s p 20 4 * msTicks → exec (.fpTimeout p) s = .next s) ∧
    (polNat s p 20 4 * msTicks ≤ s.since (s.part p).uc.sentAt → (s.part p).uc.cure = true →
      exec (.fpTimeout p) s = .next (endRevert s p)) ∧
    (polNat s p 20 4 * msTicks ≤ s.since (s.part p).uc.sentAt → (s.part p).uc.cure = false →
      holds s p ((s.part p).uc.commit + 1) = none →
      exec (.fpTimeout p) s = .next (modUc s p (fun u => { u with timeout := true })))) ∧
  (∀ (p : Fin 12) (b : Nat) (s : State), fwRuns s = false → exec (.fpDigestDone p) s = .next s ∧
    exec (.fpRootsComplete p) s = .next s ∧ exec (.fpBlockReceived p b) s = .next s ∧ exec (.fpTimeout p) s = .next s)

/-- Rounds and kernels of the in-service tests (R89, R420 to R431): a round opens, its kernels are launched, take their engines,
run and end, and what they saved of the accumulators comes back; a due round is forced within the cap; levels expire.  Each
event waits for the time that the manual gives it. -/
def Obligations.in_service_test_events : Prop :=
  (∀ (c : Fin 96) (s : State) (n e : Nat), interval s c = some n →
    (roundAge s c e = true ↔ e * n * secTicks ≤ 8 * s.since (tcore s c).lastRound)) ∧
  (∀ (c : Fin 96) (s : State),
    (roundAge s c 7 = true → exec (.roundOpen c) s = .next (nextKernel (openRound s c) c)) ∧
    (roundAge s c 7 = false → exec (.roundOpen c) s = .next s)) ∧
  (∀ (c : Fin 96) (s : State), coreAbsent c = false → (tcore s c).isOpen = false → activeKernels s ≠ [] →
    s.pw.wstate.toNat < 2 → openRound s c = modTc s c (fun t => { t with isOpen := true, todo := activeKernels s, due := false })) ∧
  (∀ (c : Fin 96) (s : State) (k : Kernel) (rest : List Kernel), (tcore s c).todo = k :: rest →
    ((tcore s c).due = false → (tcore s c).level ≠ 2 →
      (mayLaunch s c k = true → fitsWait s c k = true → exec (.kernelLaunch c) s = .next (launch s c k false none)) ∧
      (mayLaunch s c k = false ∨ fitsWait s c k = false → exec (.kernelLaunch c) s = .next s)) ∧
    ((tcore s c).due = true → (tcore s c).level ≠ 2 → exec (.kernelLaunch c) s = .next (force s c)) ∧
    ((tcore s c).level = 2 → (s.core c).retired = false → mayLaunch s c k = true →
      exec (.kernelLaunch c) s = .next (launch s c k false none))) ∧
  (∀ (c : Fin 96) (s : State) (r : Run), (tcore s c).run = some r →
    (r.held = false → s.pw.wstate = 0 →
      (∀ e : Fin 10, bit r.kernel.engMask.toNat e.val = true → ((s.core c).engine e).flight = []) →
      exec (.kernelSetHeld c) s = .next (enterKernel
        (modTc s c (fun t => { t with run := some { r with held := true, launched := s.ts } })) c r.kernel)) ∧
    (r.held = true ∨ s.pw.wstate ≠ 0 → exec (.kernelSetHeld c) s = .next s) ∧
    (r.held = false → r.forced = false → r.secondFor = none → (tcore s c).level ≠ 2 →
      (20 * usTicks ≤ s.since r.launched → exec (.setAcquireTimeout c) s =
        .next (returnEngines (modTc s c (fun t => { t with run := none })) c)) ∧
      (s.since r.launched < 20 * usTicks → exec (.setAcquireTimeout c) s = .next s)) ∧
    (∀ result, exec (.kernelHalt c result) s = .next (kernelEnds c result s)) ∧
    (4 * kernelTicks s r.kernel ≤ s.since r.launched → exec (.kernelOverrun c) s = .next (kernelEnds c none s)) ∧
    (s.since r.launched < 4 * kernelTicks s r.kernel → exec (.kernelOverrun c) s = .next s) ∧
    (r.held = true → r.secondFor = none → ∃ w us, us = ceilDiv (s.since r.launched) usTicks ∧
      w = modTc s c (fun t => { t with
        run := none, stolen := if r.forced then satAdd t.stolen us else t.stolen
        forcedLog := if r.forced then recentForced s c ++ [(s.ts, us)] else t.forcedLog }) ∧
      ∀ result, kernelEnds c result s = ownEnds (settleStop (returnEngines
        (restoreSaved (kernelDone w c r.kernel result) c r.kernel) c) c) c r (decide (result = some r.kernel.digest))) ∧
    ∀ k : Kernel, k.accSave = false → restoreSaved s c k = s) ∧
  (∀ (c : Fin 96) (s : State), roundAge s c 8 = true → s.pw.wstate.toNat < 2 → (tcore s c).isOpen = true → ∃ w,
    w = modTc s c (fun t => { t with due := true }) ∧
    (s.pw.wstate = 0 → exec (.roundDue c) s = .next (force w c)) ∧
    (s.pw.wstate = 1 → s.th.tripped = false →
      exec (.roundDue c) s = .next { w with pw := { w.pw with exiting := true } })) ∧
  (∀ (c : Fin 96) (s : State), roundAge s c 8 = false → exec (.roundDue c) s = .next s) ∧
  (∀ (c : Fin 96) (s : State), (tcore s c).capHeld = true →
    (s.pw.wstate ≠ 1 ∨ s.th.tripped = true → exec (.forcedKernelResume c) s = .next (force s c)) ∧
    (s.pw.wstate = 1 → s.th.tripped = false →
      exec (.forcedKernelResume c) s = .next { s with pw := { s.pw with exiting := true } })) ∧
  (∀ (s : State) (t : DWord), s.serv.loopOff = some t →
    (60 * secTicks ≤ s.since t → exec .loopbackSuspendEnd s =
      .next ((List.finRange 96).foldl nextKernel { s with serv := { s.serv with loopOff := none } })) ∧
    (s.since t < 60 * secTicks → exec .loopbackSuspendEnd s = .next s)) ∧
  (∀ (c : Fin 96) (s : State), (tcore s c).level = 2 → (s.core c).retired = false → ∃ w,
    w = modTc (setLevel s c 1 0) c (fun t => { t with heldOut := true }) ∧
    ((tcore s c).advised = false → s.serv.quarHoldH.toNat * 3600 * secTicks ≤ s.since (tcore s c).quiet →
      exec (.quarHoldExpiry c) s = .next (if (tcore s c).run.isNone then returnEngines w c else w)) ∧
    ((tcore s c).advised = true ∨ s.since (tcore s c).quiet < s.serv.quarHoldH.toNat * 3600 * secTicks →
      exec (.quarHoldExpiry c) s = .next s)) ∧
  (∀ (c : Fin 96) (s : State), ∃ t, exec (.failWindowExpiry c) s = .next t ∧ t = { s with serv := t.serv } ∧
    (tcore t c).fails = (tcore s c).fails.filter (fun x => decide (s.since x < s.serv.failWindowH.toNat * 3600 * secTicks)) ∧
    ∀ d, d ≠ c → tcore t d = tcore s d)

/-! ### The management plane, the security block, power loss, resets -/

/-- Deeds and agents (R470 to R472, R537 to R541): a claim that is granted moves the deed under a new epoch, one that is
not leaves every deed; a release needs the epoch and the holder; heartbeats, the takeover of MGMT_PRIMARY, what the
primary gives back, and the restart of an agent that gave no heartbeat for 20 ms (R600). -/
def Obligations.deed_and_agent_commands : Prop :=
  (∀ (i : Fin 2) (s : State) (t : DWord), s.rst.por = false → (s.agent i).role ≠ 3 → (s.agent i).lastHb = some t →
    (s.since t < 20 * msTicks → exec (.agentWatchdog i) s = .next s) ∧
    (20 * msTicks ≤ s.since t → ∃ u, exec (.agentWatchdog i) s = .next u ∧
      u.agent i = { Agent.reset with lastHb := some t } ∧ (∀ j, j ≠ i → u.agent j = s.agent j) ∧
      u.rst = (if i = 0 then { s.rst with causeE := true } else { s.rst with causeW := true }) ∧
      u.kci = s.kci ∧ u.mem = s.mem ∧ u.cores = s.cores)) ∧
  (∀ (w : Writer) (r : Fin 5) (s : State),
    (claimOk s w r = false → exec (.deedReqClaim w r) s = .next (portOutcome s w 2)) ∧
    (claimOk s w r = true → (vget s.kci.deeds r).holder = writerCode w → r ≠ 4 →
      exec (.deedReqClaim w r) s = .next (portOutcome s w 1)) ∧
    (claimOk s w r = true → (vget s.kci.deeds r).holder ≠ writerCode w ∨ r = 4 → ∃ t,
      exec (.deedReqClaim w r) s = .next t ∧ (vget t.kci.deeds r).holder = writerCode w ∧
      (vget t.kci.deeds r).epoch = (vget s.kci.deeds r).epoch + 1 ∧ (vget t.kci.deeds r).chain = s.chain ∧
      (vget t.kci.deedPorts (writerPort w)).outcome = 1 ∧ ∀ q, q ≠ r → vget t.kci.deeds q = vget s.kci.deeds q)) ∧
  (∀ (w : Writer) (r : Fin 5) (e : Word) (s : State),
    ((vget s.kci.deeds r).epoch = e → (vget s.kci.deeds r).holder = writerCode w → ∃ t,
      exec (.deedReqRelease w r e) s = .next t ∧ (vget t.kci.deeds r).holder = 0 ∧ (vget t.kci.deeds r).epoch = e + 1 ∧
      (vget t.kci.deedPorts (writerPort w)).outcome = 1 ∧ ∀ q, q ≠ r → vget t.kci.deeds q = vget s.kci.deeds q) ∧
    ((vget s.kci.deeds r).epoch = e → (vget s.kci.deeds r).holder ≠ writerCode w → ∃ t,
      exec (.deedReqRelease w r e) s = .next t ∧ t = { s with kci := { s.kci with deedPorts := t.kci.deedPorts } } ∧
      (vget t.kci.deedPorts (writerPort w)).outcome = 2) ∧
    ((vget s.kci.deeds r).epoch ≠ e → ∃ t, exec (.deedReqRelease w r e) s = .next t ∧
      t.kci.deeds = s.kci.deeds ∧ (vget t.kci.deedPorts (writerPort w)).outcome = 3)) ∧
  (∀ (i : Fin 2) (s : State), ∃ b g, b = s.modAgent i (fun a => { a with lastHb := some s.ts }) ∧
    g = b.modAgent i (fun a => { a with started := true, startAt := s.ts, role := 1 }) ∧
    ((s.agent i).role = 3 ∨ s.rst.por = true → exec (.agentHeartbeat i) s = .next s) ∧
    ((s.agent i).role ≠ 3 → s.rst.por = false → (s.agent i).started = false →
      exec (.agentHeartbeat i) s = .next (if i = 0 then claimPrimary g i else g)) ∧
    ((s.agent i).role ≠ 3 → s.rst.por = false → (s.agent i).started = true →
      exec (.agentHeartbeat i) s = .next (if isPrimary b i then tellAlerts b i else standDown b i))) ∧
  (∀ (i : Fin 2) (s : State), (s.agent i).started = true → (s.agent i).role ≠ 3 → isPrimary s i = false → ∃ h,
    h = (vget s.kci.deeds 4).holder ∧
    ((h = 0 ∧ (i = 0 ∨ 50 * msTicks ≤ s.since (s.agent i).startAt)) ∨ holderLate s h = true →
      exec (.agentClaimTimer i) s = .next (claimPrimary s i)) ∧
    (h ≠ 0 → holderLate s h = false → exec (.agentClaimTimer i) s = .next s)) ∧
  (∀ (s : State) (i : Fin 2) (t : DWord), primary? s = some i → s.mg.clearSince = some t → s.mg.thermalClaim = true →
    thermalStake s = false → s.mg.eff101 = none →
    (60 * secTicks ≤ s.since t → exec .thermalReleaseTimer s = .next (dropLimits s i)) ∧
    (s.since t < 60 * secTicks → exec .thermalReleaseTimer s = .next s)) ∧
  (∀ (s : State) (i : Fin 2), primary? s = some i → (vget s.kci.deeds 3).holder = agentCode i →
    (vget s.mg.p5 0).state ≠ 6 →
    (600 * secTicks ≤ s.since (vget s.mg.p5 0).lastXfer →
      exec .fwStageIdleTimeout s = .next (updateOver (sbCancel s) 0 false)) ∧
    (s.since (vget s.mg.p5 0).lastXfer < 600 * secTicks → exec .fwStageIdleTimeout s = .next s)) ∧
  (∀ (n : Fin 8) (s : State), (primary? s).isSome = true → bit s.mg.notified.toNat n.val = true → ∃ m,
    exec (.platformEventAck n) s = .next { s with mg := m } ∧
    m = { s.mg with failover := m.failover, holdup := m.holdup, boardDesc := m.boardDesc, notified := m.notified } ∧
    m.failover = (s.mg.failover && decide (n ≠ 5)) ∧ m.holdup = (s.mg.holdup && decide (n ≠ 6)) ∧
    m.boardDesc = (s.mg.boardDesc && decide (n ≠ 7)) ∧ (n.val < 5 → m.notified = s.mg.notified))

/-- The endpoints (R542 to R544): addresses and endpoint identifiers, what each endpoint tells of itself, the sensors,
and the effecters, which only the primary serves. -/
def Obligations.endpoint_commands : Prop :=
  (∀ (dyn : BitVec 7) (s : State),
    exec (.setdasa 0x4C dyn) s = .next (s.modAgent 0 (fun a => { a with i3c := some dyn })) ∧
    exec (.setdasa 0x4D dyn) s = .next (s.modAgent 1 (fun a => { a with i3c := some dyn })) ∧
    ∀ q, q ≠ 0x4C → q ≠ 0x4D → exec (.setdasa q dyn) s = .next s) ∧
  (∀ (ep : Fin 3) (s : State) (eid : BitVec 8), epUp s ep = true →
    (∃ t, exec (.setEndpointId ep eid) s = .next t ∧ (vget t.mg.ends ep).eid = eid ∧
      t.mg.sent = s.mg.sent ++ [(ep.val, [0, eid])] ∧
      t = { s with mg := { s.mg with ends := t.mg.ends, sent := t.mg.sent } } ∧
      ∀ q, q ≠ ep → vget t.mg.ends q = vget s.mg.ends q) ∧
    (∃ t, exec (.setEventReceiver ep eid) s = .next t ∧ (vget t.mg.ends ep).receiver = some eid ∧
      t.mg.sent = s.mg.sent ++ [(ep.val, [0])] ∧
      t = { s with mg := { s.mg with ends := t.mg.ends, sent := t.mg.sent } } ∧
      ∀ q, q ≠ ep → vget t.mg.ends q = vget s.mg.ends q)) ∧
  (∀ (ep : Fin 3) (s : State) (type : BitVec 8) (id : BitVec 16) (handle : Nat),
    Answers (.getEndpointId ep) s ep [0, (vget s.mg.ends ep).eid] ∧
    Answers (.getEndpointUuid ep) s ep (0 :: leBytes 16 (Config.endpointUuid ep.val).toNat) ∧
    Answers (.getMctpVersionSupport ep type) s ep (if type ∈ [0, 1, 5, 0xFF] then [0, type] else [0x80]) ∧
    Answers (.getMessageTypeSupport ep) s ep [0, 3, 0, 1, 5] ∧
    Answers (.getTid ep) s ep [0, (vget s.mg.ends ep).eid] ∧
    Answers (.getPldmVersion ep type) s ep (if type ∈ [0, 2, 5] then [0, type] else [0x83]) ∧
    Answers (.getPldmTypes ep) s ep (0 :: leBytes 8 (1 + 4 + 32)) ∧
    Answers (.getPldmCommands ep type) s ep (if type ∈ [0, 2, 5] then [0, type] else [0x83]) ∧
    Answers (.getPdr ep handle) s ep (0 :: Config.pdrBytes handle) ∧
    Answers (.getSensorReading ep id) s ep (match sensorReading s id.toNat with
      | some v => 0 :: leBytes 4 (tc 32 v)
      | none => [0x80]) ∧
    Answers (.getStateSensorReadings ep id) s ep (match stateReading s id.toNat with
      | some v => 0 :: leBytes 1 v
      | none => [0x80])) ∧
  (∀ s : State, sensorReading s 1 = some (tjMax s).floor ∧ sensorReading s 2 = some (tjMean s).floor ∧
    (∀ n : Fin 6, sensorReading s (3 + n.val) = some (s.stk n).temp.toNat) ∧ sensorReading s 9 = some s.pw.est.floor ∧
    sensorReading s 10 = some s.pw.vlogI.floor ∧ sensorReading s 11 = some s.pw.pstep.toNat ∧
    (∀ n, n = 0 ∨ 12 < n → sensorReading s n = none)) ∧
  (∀ (ep : Fin 3) (s : State) (id : BitVec 16) (v : Nat), epUp s ep = true →
    (primaryEp s ep = none → exec (.setNumericEffecterValue ep id v) s = .next (respond s ep 4 []) ∧
      exec (.getNumericEffecterValue ep id) s = .next (respond s ep 4 [])) ∧
    ∀ i, primaryEp s ep = some i →
      exec (.setNumericEffecterValue ep id v) s =
        .next (respond (setEffecter s i id.toNat v).1 ep (if (setEffecter s i id.toNat v).2 then 0 else 1) []) ∧
      exec (.getNumericEffecterValue ep id) s = .next (match effecterValue s id.toNat with
        | some v => respond s ep 0 (leBytes 4 v)
        | none => respond s ep 0x80 [])) ∧
  (∀ (s : State) (i : Fin 2) (v : Nat),
    (150 ≤ v → v ≤ 350 → setEffecter s i 0x100 v =
      (commitLimits s i (fun l => { l with plSust := BitVec.ofNat 9 v }), true)) ∧
    (v < 150 ∨ 350 < v → setEffecter s i 0x100 v = (s, false)) ∧
    (70 ≤ v → v ≤ 95 → setEffecter s i 0x102 v =
      (commitLimits s i (fun l => { l with th1 := BitVec.ofNat 7 v }), true)) ∧
    (v < 70 ∨ 95 < v → setEffecter s i 0x102 v = (s, false)) ∧
    (∀ id, id ≠ 0x100 → id ≠ 0x101 → id ≠ 0x102 → id ≠ 0x103 → setEffecter s i id v = (s, false)))

/-- Firmware update over PLDM Type 5 and the SPDM responders (R539, R541, R545, R547): each command in the states that
allow it, and what turns it away elsewhere. -/
def Obligations.update_and_attestation_commands : Prop :=
  (∀ (id : BitVec 16) (size : Nat) (data : List Byte) (pack : Option (Fin 4)),
    UpdateTurnedAway .requestUpdate [0] ∧ UpdateTurnedAway .passComponentTable [1] ∧
    UpdateTurnedAway (.updateComponent · id size) [2] ∧ UpdateTurnedAway (.requestFirmwareData · data) [3] ∧
    UpdateTurnedAway .transferComplete [3] ∧ UpdateTurnedAway .verifyComplete [4] ∧
    UpdateTurnedAway .applyComplete [5] ∧ UpdateTurnedAway (.activateFirmware · pack) [2] ∧
    UpdateTurnedAway .cancelUpdate [1, 2, 3, 4, 5]) ∧
  (∀ (ep : Fin 3) (s : State), servesUpdate s ep = true →
    exec (.queryDeviceIdentifiers ep) s = .next (respond s ep 0 (leBytes 8 Config.serial.toNat)) ∧
    (∃ v, exec (.getFirmwareParameters ep) s = .next (respond s ep 0
      (leBytes 4 s.sec.running.version.toNat ++ leBytes 4 v ++ leBytes 1 s.mg.descVersion.toNat))) ∧
    exec (.getStatus ep) s = .next (respond s ep 0 (leBytes 1 (vget s.mg.p5 (sessionOf ep)).state ++
      leBytes 1 (b2n (vget s.mg.p5 (sessionOf ep)).failed)))) ∧
  (∀ (ep : Fin 3) (s : State), InUpdate s ep [0] →
    ((deedClaim s (epWriter ep) 3).2 = false → exec (.requestUpdate ep) s =
      .next (respond (deedClaim s (epWriter ep) 3).1 ep 1 [])) ∧
    ((deedClaim s (epWriter ep) 3).2 = true → exec (.requestUpdate ep) s =
      .next (respond (modP5 (deedClaim s (epWriter ep) 3).1 ep (fun _ =>
        { Pldm5.reset with state := 1, lastXfer := (deedClaim s (epWriter ep) 3).1.ts })) ep 0 []))) ∧
  (∀ (ep : Fin 3) (s : State), InUpdate s ep [1] →
    exec (.passComponentTable ep) s = .next (respond (modP5 s ep (fun p => { p with state := 2 })) ep 0 [])) ∧
  (∀ (ep : Fin 3) (s : State) (id : BitVec 16) (size : Nat), InUpdate s ep [2] →
    (id.toNat < 1 ∨ 4 < id.toNat ∨ (ep.val = 2 ∧ 3 ≤ id.toNat) →
      exec (.updateComponent ep id size) s = .next (respond s ep 1 [])) ∧
    (1 ≤ id.toNat → id.toNat ≤ 4 → (ep.val = 2 → id.toNat < 3) → ∃ u,
      u = (if id.toNat ≤ 3 then sbOpen s (BitVec.ofNat 8 id.toNat) (packSlotFor s) else s) ∧
      exec (.updateComponent ep id size) s = .next (respond (modP5 u ep (fun p => { p with
        state := 3, component := id.toNat, size := size, offset := 0, desc := [], lastXfer := u.ts })) ep 0 []))) ∧
  (∀ (ep : Fin 3) (s : State) (data : List Byte) (p : Pldm5), InUpdate s ep [3] → p = vget s.mg.p5 (sessionOf ep) →
    ∃ bs u, bs = data.take (min 1024 (p.size - p.offset)) ∧
      u = (if p.component = 4 then modP5 s ep (fun p => { p with desc := p.desc ++ bs })
        else stageChunk s (p.offset % 0x40000) bs false) ∧
      exec (.requestFirmwareData ep data) s = .next (modP5 u ep (fun p => { p with
        offset := p.offset + bs.length, lastXfer := u.ts })) ∧
      exec (.transferComplete ep) s = .next (respond (modP5
        (if p.component = 4 then s else stageChunk s (p.offset % 0x40000) [] true) ep (fun p => { p with state := 4 }))
        ep 0 [])) ∧
  (∀ (ep : Fin 3) (s : State) (p : Pldm5), InUpdate s ep [4] → p = vget s.mg.p5 (sessionOf ep) →
    (p.component ≠ 4 → s.sec.sb.state = 2 → exec (.verifyComplete ep) s = .next (respond s ep 4 [])) ∧
    ((p.component = 4 ∧ (Config.boardParse p.desc).isSome = true) ∨ (p.component ≠ 4 ∧ s.sec.sb.state = 3) →
      exec (.verifyComplete ep) s = .next (respond (modP5 s ep (fun p => { p with state := 5 })) ep 0 [])) ∧
    ((p.component = 4 ∧ (Config.boardParse p.desc).isSome = false) ∨
        (p.component ≠ 4 ∧ s.sec.sb.state ≠ 2 ∧ s.sec.sb.state ≠ 3) →
      exec (.verifyComplete ep) s = .next (respond (modP5 s ep (fun p => { p with state := 2 })) ep 1 []))) ∧
  (∀ (ep : Fin 3) (s : State) (p : Pldm5), InUpdate s ep [5] → p = vget s.mg.p5 (sessionOf ep) →
    ∃ u, u = (if p.component = 4 then readBoard { s with mg := { s.mg with eeprom := p.desc } } else s) ∧
      exec (.applyComplete ep) s = .next (respond (modP5 u ep (fun p => { p with state := 2 })) ep 0 [])) ∧
  (∀ (ep : Fin 3) (s : State), InUpdate s ep [2] →
    (∀ i u ok, activatePack s i = (u, ok) → exec (.activateFirmware ep (some i)) s =
      .next (respond (if ok then updateOver u (sessionOf ep) false else u) ep (if ok then 0 else 1) [])) ∧
    (s.sec.sb.component = 1 → mayActivate s = true → exec (.activateFirmware ep none) s =
      .next (respond (modP5 (beginActivation s) ep (fun p => { p with state := 6 })) ep 0 [])) ∧
    (s.sec.sb.component = 1 → mayActivate s = false → exec (.activateFirmware ep none) s = .next (respond s ep 1 [])) ∧
    (s.sec.sb.component ≠ 1 → exec (.activateFirmware ep none) s =
      .next (respond (updateOver s (sessionOf ep) false) ep 0 []))) ∧
  (∀ (ep : Fin 3) (s : State), InUpdate s ep [1, 2, 3, 4, 5] →
    exec (.cancelUpdate ep) s = .next (respond (updateOver (sbCancel s) (sessionOf ep) false) ep 0 [])) ∧
  (∀ (ep : Fin 3) (s : State),
    (spdmReady s ep 0 = true → exec (.getVersion ep) s = .next (respond (spdmStep s ep 1) ep 4 [0x12])) ∧
    (spdmReady s ep 1 = true → exec (.getCapabilities ep) s = .next (respond (spdmStep s ep 2) ep 0x61 [22])) ∧
    (spdmReady s ep 2 = true → exec (.negotiateAlgorithms ep) s =
      .next (respond (spdmStep s ep 3) ep 0x63 (ascii "P-384" ++ ascii "SHA-384"))) ∧
    (epUp s ep = true → spdmReady s ep 1 = false → exec (.getCapabilities ep) s = .next (respond s ep 0x7F [])) ∧
    (epUp s ep = true → spdmReady s ep 2 = false → exec (.negotiateAlgorithms ep) s = .next (respond s ep 0x7F []))) ∧
  (∀ (ep : Fin 3) (s : State) (slot : BitVec 4) (a n : Nat) (nonce : List Byte), spdmReady s ep 3 = true →
    exec (.getDigests ep) s = .next (respond s ep 1 (digestBytes (Config.sha384 (spdmChain s ep)))) ∧
    exec (.getCertificate ep 0 a n) s = .next (respond s ep 2 (((spdmChain s ep).drop a).take n)) ∧
    (slot ≠ 0 → exec (.getCertificate ep slot a n) s = .next (respond s ep 0x7F []) ∧
      exec (.challenge ep slot nonce) s = .next (respond s ep 0x7F [])) ∧
    ∀ k, spdmKey s ep = some k →
      (∃ body, body = padTo nonce 32 ++ digestBytes (Config.sha384 (spdmChain s ep)) ∧
        exec (.challenge ep 0 nonce) s = .next (respond s ep 3 (body ++
          (leBytes 96 (Config.ecdsaSign k (Config.sha384 body)).toNat).reverse))) ∧
      ∀ (i : BitVec 8) m, i ≠ 0xFF → measurementOf s ep i.toNat = some m → ∃ body,
        body = padTo nonce 32 ++ (i :: digestBytes m) ∧
        exec (.getMeasurements ep i nonce) s = .next (respond s ep 0x60 (body ++
          (leBytes 96 (Config.ecdsaSign k (Config.sha384 body)).toNat).reverse)))

/-- The boot of the control domain and its faults (R599 to R601, log 83): the ROM runs the bank that verifies, or waits for
recovery. The staging buffer, live activation, debug unlock and the loss of power (R550, R551, R561, R565 to R568, R572): a
write of the staging registers counts only from the holder of FW_STAGE under its epoch. -/
def Obligations.staging_activation_and_power_loss_events : Prop :=
  (∀ (s : State), ∃ v, v = s.modSec (fun x => { x with selftestOk := true }) ∧
    bootRom s false = { s with sec := { s.sec with error := true }, rst := { s.rst with stage := 1 } } ∧
    (bankOk s 0 = false → bankOk s 1 = false → bootRom s true = { v with rst := { v.rst with stage := 3 } }) ∧
    (∀ k : Fin 2, s.sec.bootActive = BitVec.ofNat 1 k.val → bankOk s k = true → (bootRom s true).rst.stage = 2 ∧
      (bootRom s true).sec.running = vget s.sec.banks k ∧ (bootRom s true).sec.bank = BitVec.ofNat 1 k.val) ∧
    (∀ k m : Fin 2, k ≠ m → s.sec.bootActive = BitVec.ofNat 1 m.val → bankOk s m = false → bankOk s k = true →
      (bootRom s true).rst.stage = 2 ∧ (bootRom s true).sec.running = vget s.sec.banks k)) ∧
  (∀ s : State, s.rst.ctlUp = true → s.rst.stage = 2 → s.th.tripped = false → ∃ t,
    exec .ctrlFirmwareStart s = .next t ∧ t.kci.cpFault = false ∧ (∀ f, (t.fn f).ready = true) ∧
    4 ≤ t.rst.stage.toNat) ∧
  (∀ (b : Bool) (s : State), s.rst.ctlUp = true → ∃ t, exec (.controlFault b) s = .next t ∧ t.rst.causeCp = true ∧
    t.kci.cpFault = true ∧ t.kci.live = [] ∧ t.cores = s.cores ∧ t.mem = s.mem ∧
    t.rst.ctlCount = satAdd s.rst.ctlCount 1) ∧
  (∀ (b : Bool) (s : State), s.rst.stage = 3 → s.sec.sb.state = 2 → s.sec.sb.component = 1 →
    (∀ r, imageFault s s.sec.sb.image = some r → exec (.bootRecovery b) s = .next (sbReject s r)) ∧
    (imageFault s s.sec.sb.image = none → ∃ u, u = s.modSec (fun x => { x with
        banks := vset x.banks 0 (imageOfBytes s.sec.sb.image), bootActive := 0, bootPending := false
        bootSeq := x.bootSeq + 1 }) ∧ exec (.bootRecovery b) s = .next (bootRom (controlReset u true) b))) ∧
  (∀ (w : Writer) (e : Word) (s b : State) (comp : BitVec 8) (slot : BitVec 2) (h : Fin 2) (len : BitVec 18),
    b = s.modSb (fun x => { x with epoch := e }) →
    ((vget s.kci.deeds 3).holder = writerCode w → (vget s.kci.deeds 3).epoch = e →
      exec (.sbCtrlOpen w e comp slot) s = .next (sbOpen b comp slot) ∧ exec (.sbCtrlClose w e) s = .next (sbClose b) ∧
      exec (.sbCtrlCancel w e) s = .next (sbCancel b) ∧ exec (.sbHalfFull w e h len) s = .next (sbFull b h len) ∧
      exec (.sbCtrlActivate w e) s = .next (if mayActivate b then beginActivation b else b)) ∧
    ((vget s.kci.deeds 3).holder ≠ writerCode w ∨ (vget s.kci.deeds 3).epoch ≠ e →
      exec (.sbCtrlOpen w e comp slot) s = .next (sbReject b 5) ∧ exec (.sbCtrlClose w e) s = .next (sbReject b 5) ∧
      exec (.sbCtrlCancel w e) s = .next (sbReject b 5) ∧ exec (.sbHalfFull w e h len) s = .next (sbReject b 5) ∧
      exec (.sbCtrlActivate w e) s = .next (sbReject b 5))) ∧
  (∀ (flash : Bool) (s u : State), s.sec.sb.state = 2 → s.rst.stage ≠ 3 → u = verifyStage s flash →
    exec (.stageVerifyComplete flash) s = .next ((u.kci.live.filter (fun c => c.opcode == 0x70 || c.opcode == 0x50)).foldl
      (fun v c => if u.sec.sb.state = 3 then finish v c kOK 0 (leBytes 4 u.sec.sb.version.toNat)
        else finish v c (if v.sec.error then kFAULT else if packTaken s then kDENIED else kBADARG) 0 []) u)) ∧
  (∀ (flash : Bool) (s : State), s.sec.sb.state ≠ 2 → exec (.stageVerifyComplete flash) s = .next s) ∧
  (∀ (s : State) (a : Activation), s.sec.act = some a → a.accepted = none →
    (s.since a.began ≤ 45 * msTicks → ∃ u v, u = s.modSec (fun x => { x with
        running := s.sec.sb.verified, bank := x.bank ^^^ 1, act := some { a with accepted := some s.ts }
        sb := { x.sb with state := 6 } }) ∧
      v = controlRecord (u.modSec (fun x => { x with aak := some (deriveAak u) })) (some 2) ∧
      exec .newCodeAccept s = .next (resumeKci a.began (activationOver
        ((v.kci.live.filter (fun c => c.opcode == 0x71)).foldl (fun w c =>
          finish w c kOK 0 (leBytes 4 s.sec.sb.verified.version.toNat)) v) false))) ∧
    (45 * msTicks < s.since a.began → exec .newCodeAccept s = .next s) ∧
    (∃ v, v = controlRecord (s.modSec (fun x => { x with
        act := none, bootPending := false, sb := { x.sb with state := 3 } })) (some 3) ∧
      exec .activationFallback s = .next (resumeKci a.began (activationOver
        ((v.kci.live.filter (fun c => c.opcode == 0x71)).foldl (fun w c => finish w c kFAULT 0 []) v) true)))) ∧
  (∀ (s : State) (a : Activation) (t : DWord), s.sec.act = some a → a.accepted = some t →
    (s.since t < 10 * secTicks → exec .activationCommit s = .next s) ∧
    (10 * secTicks ≤ s.since t → exec .activationCommit s = .next { s with sec := { s.sec with
      act := none, bootActive := s.sec.bank, bootPending := false, bootSeq := s.sec.bootSeq + 1
      svn := if s.sec.svn.toNat < s.sec.running.svn.toNat then s.sec.running.svn else s.sec.svn
      sb := { s.sec.sb with state := 0 } } })) ∧
  (∀ (s : State) (body sig : List Byte), s.rst.tapReset = false → bit s.rst.straps.toNat 4 = false → sig.length = 96 →
    (Config.ecdsaVerify 2 (Config.sha384 body) sig = false → exec (.debugUnlock (body ++ sig)) s = .next s) ∧
    (Config.ecdsaVerify 2 (Config.sha384 body) sig = true → ∃ t, exec (.debugUnlock (body ++ sig)) s = .next t ∧
      t.sec.debugUnlocked = true ∧ t.sec.nonapproved = true ∧ t.sec.dik = none ∧ t.sec.aak = none ∧
      t.sec.slots = Vector.replicate 32 .reset ∧ ∀ p, (t.part p).srk = none ∧ (t.part p).kwk = none)) ∧
  (∀ (mv : Nat) (s : State), s.rst.pwrLoss = false →
    (s.rst.por = true → exec (.pwrLossNAssert mv) s =
      .next { s with rst := { s.rst with pwrLoss := true, pwrClear := none } }) ∧
    (s.rst.por = false → ∃ t, exec (.pwrLossNAssert mv) s = .next t ∧ t.rst.pwrLoss = true ∧ t.mg.shed = true ∧
      t.clk.gated = true ∧ t.sec.flush = some 0 ∧ t.sec.gaspArea = 1 - s.sec.gaspArea ∧
      (∀ g ∈ t.sec.gasp, g ∈ s.sec.gasp ∧ g.area = s.sec.gaspArea))) ∧
  (∀ (mv : Nat) (s : State), s.rst.pwrLoss = true → exec (.pwrLossNAssert mv) s = .next s) ∧
  (∀ (s : State) (n : Nat), s.sec.flush = some n → n < 16 → s.pw.flushStop = false → ∃ t g,
    exec .flushPage s = .next t ∧ t = { s with sec := { s.sec with
      gasp := s.sec.gasp ++ [g], gaspSeq := s.sec.gaspSeq + 1
      flush := if n = 15 ∧ s.rst.pwrLoss = false then none else some (n + 1) } } ∧
    g.area = s.sec.gaspArea ∧ g.seq = s.sec.gaspSeq ∧ g.bytes = padTo ((upFrom
      (s.tel.nextSeq.toNat - min s.tel.nextSeq.toNat (64 * (n + 1)))
      (min s.tel.nextSeq.toNat (64 * (n + 1)) - min s.tel.nextSeq.toNat (64 * n))).flatMap (ringSlot s)) 4096) ∧
  (∀ (mv : Nat) (s : State) (i : Fin 2) (v e : Rat), primary? s = some i → s.mg.shed = true →
    s.sec.flush.isSome = true → v = holdupV s mv → e = eMeasOf s v →
    (s.mg.huVmin.toNat : Rat) / 20 ≤ v → v ≤ 5 / 4 * ((s.mg.huVnom.toNat : Rat) / 10) →
    s.mg.eInt - s.pw.est / 10 / ((s.mg.huEff.toNat : Rat) / 100) = e → (vget s.kci.deeds 4).holder = agentCode i →
    ∃ t, exec (.holdupTick mv) s = .next t ∧ t.mg.eMeas = e ∧ t.mg.eInt = e ∧ t.mg.holdup = s.mg.holdup ∧
      t.mg.disagree = s.mg.disagree ∧
      t.pw.flushStop = decide (e < 6 / 5 * (s.pw.est / ((s.mg.huEff.toNat : Rat) / 100)))) ∧
  (∀ s : State,
    (s.rst.pwrLoss = true → exec .pwrLossNDeassert s = .next { s with
      rst := { s.rst with pwrLoss := false, pwrClear := some s.ts }, pw := { s.pw with flushStop := false } }) ∧
    (s.rst.pwrLoss = false → exec .pwrLossNDeassert s = .next s) ∧
    (∀ t, s.rst.pwrClear = some t → s.rst.por = false → s.since t < 100 * msTicks →
      exec .pwrLossRecovery s = .next s) ∧
    (∀ t, s.rst.pwrClear = some t → s.rst.por = false → 100 * msTicks ≤ s.since t → ∃ u,
      exec .pwrLossRecovery s = .next u ∧ u.rst = { s.rst with pwrClear := none } ∧ u.mg = { s.mg with shed := false } ∧
      u.sec = { s.sec with flush := none } ∧
      (s.th.tripped = false → s.clk.relocking = false → s.clk.failed = false → u.clk.gated = false)))

/-- The reset inputs and the removal of VAON (R528, R540, R596, R599, R604, R613, R620): a reset input asserts, its domain
loses its state and counts it; a deassertion starts the boot that the other inputs and the trip latch allow. -/
def Obligations.reset_events : Prop :=
  (∀ (a : Bool) (s : State), exec (.trstN a) s = .next { s with rst := { s.rst with tapReset := a } }) ∧
  (∀ s : State, ∃ t, exec .porNAssert s = .next t ∧ t.rst.por = State.reset.rst.por ∧ t.cores = State.reset.cores ∧
    t.parts = State.reset.parts ∧ t.mem = State.reset.mem ∧ t.poison = State.reset.poison ∧ t.clk = State.reset.clk ∧
    t.pw = { State.reset.pw with avsSent := s.pw.avsSent } ∧ t.tel = State.reset.tel ∧ t.hostMem = s.hostMem ∧ t.sec.svn = s.sec.svn ∧
    t.sec.banks = s.sec.banks ∧ t.sec.bootActive = s.sec.bootActive ∧ t.serv.softFuses = s.serv.softFuses ∧
    t.serv.packs = s.serv.packs ∧ t.th.tripped = s.th.tripped ∧ t.mg.eeprom = s.mg.eeprom) ∧
  (∀ (straps : BitVec 8) (b : Bool) (s : State),
    (s.rst.por = false → exec (.porNDeassert straps b) s = .next s) ∧
    (s.rst.por = true → s.th.tripped = true → exec (.porNDeassert straps b) s =
      .next { s with rst := { s.rst with por := false, straps := straps.zeroExtend 16 } }) ∧
    (s.rst.por = true → s.th.tripped = false → ∃ u v, u = { s with rst := { s.rst with por := false, straps := straps.zeroExtend 16 } } ∧
      v = (if field straps.toNat 5 3 = 0 then u else controlRecord u none) ∧
      (s.rst.perst = true → exec (.porNDeassert straps b) s = .next (coldStart v)) ∧
      (s.rst.perst = false → exec (.porNDeassert straps b) s =
        .next (bootRom { coldStart v with rst := { v.rst with ctlUp := true } } b)))) ∧
  (∀ s : State, coldStart s = { s with
    clk := { s.clk with locked := true, refOk := true, gated := s.rst.pwrLoss, cur := if s.rst.sys then s.clk.cur else 4 }
    pw := { s.pw with
      avsSent := s.pw.avsSent ++ [(16, avsRequest s 1), (17, avsRequest s 2), (32, avsRequest s 3), (33, avsRequest s 4)] ++
        (List.range 6).flatMap (fun n => [(48 + n, avsRequest s 7), (54 + n, avsRequest s 8)])
      pstep := if s.rst.sys then s.pw.pstep else 4
      target := if s.rst.sys then s.pw.target else 4 }
    kci := { s.kci with dpBusy := true } }) ∧
  (∀ s : State, s.rst.por = false → ∃ t, exec .perstN s = .next t ∧ t.rst.perst = true ∧ t.rst.causePerst = true ∧
    t.rst.ctlUp = false ∧ t.rst.stage = 0 ∧ t.rst.ctlCount = satAdd s.rst.ctlCount 1 ∧ t.kci.live = [] ∧
    t.kci.txns = [] ∧ t.kci.cpFault = false ∧ (∀ f, t.fn f = Func.reset) ∧ t.sec.running = .none ∧ t.sec.aak = none ∧
    t.cores = s.cores ∧ t.mem = s.mem ∧ t.ms = s.ms) ∧
  (∀ (b : Bool) (s : State),
    (s.rst.perst = false → exec (.perstNDeassert b) s = .next s) ∧
    (s.rst.perst = true → s.rst.por = false → s.th.tripped = false → s.rst.ctlUp = false →
      exec (.perstNDeassert b) s = .next (bootRom { s with rst := { s.rst with perst := false, ctlUp := true } } b)) ∧
    (s.rst.perst = true → s.rst.por = true ∨ s.th.tripped = true ∨ s.rst.ctlUp = true →
      exec (.perstNDeassert b) s = .next { s with rst := { s.rst with perst := false } })) ∧
  (∀ s : State, s.rst.por = false → ∃ t, exec .sysRstN s = .next t ∧ t.rst.sys = true ∧ t.rst.dpUp = false ∧
    t.rst.causeSys = true ∧ t.rst.sysCount = satAdd s.rst.sysCount 1 ∧ t.kci.dpBusy = true ∧
    t.cores = Vector.replicate 96 .reset ∧ (∀ p, (t.part p).made = Part.reset.made) ∧
    (s.clk.failed = true → t.clk.relocking = true ∧ t.clk.failed = false)) ∧
  (∀ s : State,
    (s.rst.sys = false → exec .sysRstNDeassert s = .next s) ∧
    (s.rst.sys = true → s.rst.por = false → s.th.tripped = false → exec .sysRstNDeassert s = .next { s with
      rst := { s.rst with sys := false }, clk := { s.clk with cur := 4 }, pw := { s.pw with pstep := 4, target := 4 } }) ∧
    (s.rst.sys = true → s.rst.por = true ∨ s.th.tripped = true →
      exec .sysRstNDeassert s = .next { s with rst := { s.rst with sys := false } })) ∧
  (∀ s : State, (∃ t, exec (.vaonRemoval none) s = .next t ∧ t.th.tripped = false ∧ t.rst.por = State.reset.rst.por ∧
      t.rst.gpioIn = 0 ∧ t.mg.agents = Vector.replicate 2 .reset) ∧
    ∀ i : Fin 2, ∃ t, exec (.vaonRemoval (some i)) s = .next t ∧
      t = { s with mg := { s.mg with agents := t.mg.agents, ends := t.mg.ends }, kci := { s.kci with deeds := t.kci.deeds } } ∧
      (t.agent i).role = 3 ∧ (∀ j, j ≠ i → t.agent j = s.agent j) ∧
      ∀ r, (vget t.kci.deeds r).holder = (vget s.kci.deeds r).holder ∧
        (vget t.kci.deeds r).epoch = (vget s.kci.deeds r).epoch)

/-! ### The block as a whole, and what its families rest on -/

/-- A step takes the command at the front of the queue and is its execution with the queue's rest; with nothing waiting, it
is a tick of 64 NCLK cycles of the timestamp, which the timers of the in-service tests and the copies of sparing note, and on
which the scheduler of these tests acts, core after core (the model's choice, log 1). -/
def Obligations.step_runs_the_front_command : Prop :=
  (∀ (s : State) (c : Instr) (rest : List Instr), s.pending = c :: rest → step s = exec c { s with pending := rest }) ∧
  (∀ s : State, s.pending = [] → ∃ t, step s = .next ((List.finRange 96).foldl serveCore t) ∧ t.ts = s.ts + 64 ∧
    t = { s with ts := t.ts, serv := t.serv, ms := t.ms, freeCtr := t.freeCtr } ∧
    ((∀ n, (s.stk n).sparing = false) → t.ms = s.ms ∧ t.freeCtr = s.freeCtr)) ∧
  (∀ (s : State) (c : Fin 96), (tcore s c).loopWait = false → (tcore s c).isOpen = false → (tcore s c).level ≠ 2 →
    serveCore s c = { s with serv := (serveCore s c).serv })

/-- After reset the state is sound, nothing waits, every domain is in reset as after POR_N, the timestamp is 0 (R524), every
deed is held by NONE under epoch 0 (R470), TH_WARN is 105 °C (R527), memory lists nothing, and no function's rings,
transaction or started command is left. -/
def Obligations.reset_state : Prop :=
  State.reset.Good ∧ State.reset.pending = [] ∧ State.reset.ts = 0 ∧ State.reset.mem = [] ∧ State.reset.poison = [] ∧
  (∀ r : Fin 5, (vget State.reset.kci.deeds r).holder = 0 ∧ (vget State.reset.kci.deeds r).epoch = 0) ∧
  State.reset.th.thWarn = 105 ∧ State.reset.kci.live = [] ∧ State.reset.kci.txns = [] ∧
  (∀ f : Fin 13, (State.reset.fn f).enable = false) ∧ ∀ c : Fin 96, (State.reset.core c).fetching = false

/-- Every step keeps a state sound: memory, poison and host memory in their canonical forms, at most 256 records queued
(R587), at most four transactions open (R466). -/
def Obligations.every_step_keeps_the_state_sound : Prop :=
  ∀ s t : State, s.Good → step s = .next t → t.Good

/-- Every command, in every state and with every operand, completes with a next state, and leaves the queue of waiting
commands as it was. -/
def Obligations.every_command_completes : Prop :=
  ∀ (i : Instr) (s : State), ∃ t, exec i s = .next t ∧ t.pending = s.pending

/-- R93, R95: waits compare with the counter at the start of the cycle (and of the one before, R82); the exact sum of a
cycle is clamped at 0xFFFFFF with SAT and at 0 with UNDER; a saturated counter stays, and satisfies every wait. -/
def Obligations.counters_close_their_cycle : Prop :=
  (∀ (k : Core) (f : WaitF), f.mode ≠ 0 → (waitMet k f = true ↔
    f.val ≤ (vget k.ctr f.ctr).val.toNat ∧ f.val ≤ (vget k.ctr f.ctr).prev.toNat)) ∧
  (∀ (k : Core) (w : Nat) (n : Fin 64), (vget (subWaits k w).ctr n).val = (vget k.ctr n).val ∧
    (vget (subWaits k w).ctr n).inc = (vget k.ctr n).inc ∧
    (vget (subWaits k w).ctr n).sub = (vget k.ctr n).sub +
      (if (insWaitA w).mode = 2 ∧ (insWaitA w).ctr = n then (insWaitA w).val else 0) +
      (if (insWaitB w).mode = 2 ∧ (insWaitB w).ctr = n then (insWaitB w).val else 0)) ∧
  (∀ (k : Ctr) (eng index inc : Nat) (pois : Bool), (k.signal eng index inc pois).val = k.val ∧
    (k.signal eng index inc pois).inc = k.inc + inc ∧ (k.signal eng index inc pois).sub = k.sub) ∧
  (∀ k : Ctr,
    (0xFFFFFF + k.sub < k.val.toNat + k.inc → k.close.1.val = 0xFFFFFF ∧ k.close.1.sat = true) ∧
    (k.val.toNat + k.inc < k.sub → k.close.1.val = 0 ∧ k.close.1.under = true) ∧
    (k.sub ≤ k.val.toNat + k.inc → k.val.toNat + k.inc ≤ 0xFFFFFF + k.sub →
      k.close.1.val.toNat = k.val.toNat + k.inc - k.sub ∧ k.close.1.sat = k.sat ∧ k.close.1.under = k.under) ∧
    k.close.1.inc = 0 ∧ k.close.1.sub = 0) ∧
  (∀ (s : State) (c : Fin 96) (n : Fin 64) (g : Nat), vget ((passCore s c (g + 1)).core c).ctr n =
    { (vget (s.core c).ctr n).close.1 with
      prev := if g = 0 then (vget (s.core c).ctr n).val else (vget (s.core c).ctr n).close.1.val }) ∧
  (∀ k : Ctr, k.val = 0xFFFFFF → k.sub = 0 → k.close.1.val = 0xFFFFFF) ∧
  (∀ (k : Core) (f : WaitF), f.mode = 1 → f.val < 2 ^ 24 → (vget k.ctr f.ctr).val = 0xFFFFFF →
    (vget k.ctr f.ctr).prev = 0xFFFFFF → waitMet k f = true)

/-- R81, R208: a start with PHASE_MARK sets PHASE to the ID that the instruction carries, at once; a start without it leaves
PHASE; of marks that start in one CCLK cycle the engine with the highest ID wins. -/
def Obligations.phase_mark_sets_the_phase : Prop :=
  (∀ (s : State) (c : Fin 96) (e : Fin 10) (q : QEnt),
    (insPhaseMark q.word.toNat = true → (∀ f, (s.core c).phaseEng = some f → f.val < e.val) →
      ((beginStart s c e q).core c).phaseId.toNat = insPhase q.word.toNat ∧
      ((beginStart s c e q).core c).phaseValid = true ∧ ((beginStart s c e q).core c).phaseEng = some e) ∧
    (insPhaseMark q.word.toNat = false ∨ (∃ f, (s.core c).phaseEng = some f ∧ e.val ≤ f.val) →
      ((beginStart s c e q).core c).phaseId = (s.core c).phaseId ∧
      ((beginStart s c e q).core c).phaseValid = (s.core c).phaseValid)) ∧
  (∀ (s : State) (c : Fin 96) (g : Nat), ((passCore s c (g + 1)).core c).phaseEng = none)

/-- R449: bits [31:27] of a handle are the ring, bits [26:0] SEQ, which counts the ring's commands from 0 modulo 2^27 and on
ring 31 skips 0x7FFFFFF, so that no command has the handle 0xFFFFFFFF. -/
def Obligations.command_handles : Prop :=
  (∀ a b v x y : Nat, (Ring.make a b v x y).seq = 0) ∧
  (∀ (r : Fin 32) (n : Nat), n < 2 ^ 27 → r ≠ 31 → nextSeq r n = (n + 1) % 2 ^ 27) ∧
  (∀ n : Nat, n < 0x7FFFFFE → nextSeq 31 n = n + 1) ∧ nextSeq 31 0x7FFFFFE = 0 ∧
  (∀ (s : State) (f : Fin 13) (r : Fin 32) (q : Ring), fetches s f = true → vget (s.fn f).rings r = some q →
    q.head ≠ q.tail → (q.head + 1) % 2 ^ q.sqLog2 = q.tail → q.seq < 2 ^ 27 → (r = 31 → q.seq < 0x7FFFFFF) →
    ∃ p c, vget ((fetchRing s f r).fn f).rings r = some p ∧ p.fetched = q.fetched ++ [c] ∧ p.head = q.tail ∧
      p.seq = nextSeq r q.seq ∧ c.fn = f ∧ c.ring = some r ∧
      c.raw = s.hostMem.readN (q.sqAddr.toNat + 64 * q.head) 64 ∧
      c.handle.toNat / 2 ^ 27 = r.val ∧ c.handle.toNat % 2 ^ 27 = q.seq ∧ c.handle ≠ 0xFFFFFFFF)

/-- R48: the magnitude that each rounding mode gives to N/D units: to nearest with ties to even, toward zero, stochastic by
a 16-bit draw, and the modes of strict arithmetic. -/
def Obligations.rounding_modes : Prop :=
  ∀ (neg : Bool) (N D : Nat), 0 < D →
    (∀ m, m = roundUnits .rne neg N D → 2 * (m * D) ≤ 2 * N + D ∧ 2 * N ≤ 2 * (m * D) + D ∧
      (2 * (m * D) = 2 * N + D ∨ 2 * N = 2 * (m * D) + D → m % 2 = 0)) ∧
    (∀ m, m = roundUnits .rtz neg N D → m * D ≤ N ∧ N < (m + 1) * D) ∧
    (∀ d, roundUnits (.sr d) neg N D = N / D + (if d < N % D * 65536 / D then 1 else 0)) ∧
    (∀ m, m = roundUnits .up false N D → N ≤ m * D ∧ m * D < N + D) ∧ roundUnits .up true N D = N / D ∧
    (∀ m, m = roundUnits .down true N D → N ≤ m * D ∧ m * D < N + D) ∧ roundUnits .down false N D = N / D ∧
    (∀ m, m = roundUnits .rna neg N D → 2 * (m * D) ≤ 2 * N + D ∧ 2 * N < 2 * (m * D) + D) ∧
    (∀ r, N % D = 0 → roundUnits r neg N D = N / D)

/-- R36, R43: the bits of a number of binary32, BF16, binary16 and binary64 that is no NaN come back from its value, and
every NaN comes back as the canonical quiet NaN. -/
def Obligations.float_bits_come_back : Prop :=
  ∀ f ∈ [f32, fbf16, ff16, f64], ∀ b : Nat, b < 2 ^ f.w →
    ((decodeFloat f b).isNan = false → encodeFloat f (decodeFloat f b) = b) ∧
    ((decodeFloat f b).isNan = true →
      encodeFloat f (decodeFloat f b) = (2 ^ (f.w - f.p) - 1) * 2 ^ (f.p - 1) + 2 ^ (f.p - 2))

/-- R226, R257: a write puts its bytes where it says and nowhere else; clean data clears the poison of the 32-byte units
that it covers whole and of no other, poisoned data marks every unit that it touches. -/
def Obligations.writes_of_memory : Prop :=
  ∀ (s : State) (a : Nat) (bs : List Byte) (pois : Bool) (x : Nat),
    (∀ n : Nat, n < bs.length → (s.write a bs pois).mem.read (a + n) = bs.getD n 0) ∧
    (x < a ∨ a + bs.length ≤ x → (s.write a bs pois).mem.read x = s.mem.read x) ∧
    ((s.write a bs true).poison.at x = true ↔
      s.poison.at x = true ∨ (bs ≠ [] ∧ a / 32 ≤ x / 32 ∧ x / 32 ≤ (a + bs.length - 1) / 32)) ∧
    ((s.write a bs false).poison.at x = true ↔
      s.poison.at x = true ∧ ¬ (a ≤ 32 * (x / 32) ∧ 32 * (x / 32) + 32 ≤ a + bs.length)) ∧
    (∃ t, t = s.write a bs pois ∧ t = { s with mem := t.mem, poison := t.poison })

/-- What an element-wise instruction, a fill, a copy or a store writes: memory outside the bytes of its destination, and
outside the delayed-scaling entry that its descriptor names, reads as before. -/
def Obligations.elementwise_instructions_store_in_their_destination : Prop :=
  ∀ (s : State) (c : Fin 96) (w slot : Nat) (o : DWord) (d : Nat) (dst : Lay) (a : Nat),
    d = descOf s c (insDst w) → dst = absT c d → 0 < dst.n0 →
    (absT c (descOf s c (insA w))).count = dst.count →
    (∀ r ∈ dst.ranges, a < r.addr ∨ r.addr + r.len ≤ a) →
    (∀ b, dHasDs d = true → dsBaseOf s c = some b → a < b + 64 * dDs d ∨ b + 64 * dDs d + 64 ≤ a) →
    (∀ k ∈ ([workFill, workStore, workCopy, workArith 1, workArith 2, workArith 3, workArith 4, workArith 5, workArith 6,
        workArith 7, workAbs, workNeg, workSqrt, workSfu, workDropout, workRandU,
        workInt (fun sat a b => intRes sat (a + b)), workInt (fun sat a b => intRes sat (a - b)),
        workInt (fun sat a b => intRes sat (min a b)), workInt (fun sat a b => intRes sat (max a b)),
        workInt (bitRes (· &&& ·)), workInt (bitRes (· ||| ·)), workInt (bitRes (· ^^^ ·))] : List Work),
      (k s c w slot o).st.mem.read a = s.mem.read a) ∧
    (dSpace d ≠ 3 → (workLoad s c w slot o).st.mem.read a = s.mem.read a)

/-- The commands of the management plane that move no data of the staging buffer change nothing of the cores, the
partitions, the memory, the memory system, the fabric, the clocks, the thermal unit or the reset block. -/
def Obligations.management_commands_leave_the_data_plane : Prop :=
  ∀ (i : Instr) (s : State), managementOnly i = true → ∃ t, exec i s = .next t ∧
    t = { s with tel := t.tel, sec := t.sec, kci := t.kci, pw := t.pw, serv := t.serv, mg := t.mg }
end

