-- ==== Sys2Proof/Laws/State.lean ====
section
/-! SUPPORT. Each field of the state after each named update: the one it writes, and the others as before. -/

namespace Sys2Proof.Machine

@[simp] theorem State.setCore_cores (s : State) (c : Fin 96) (x : Core) : (s.setCore c x).cores = vset s.cores c x := rfl
@[simp] theorem State.setCore_parts (s : State) (c : Fin 96) (x : Core) : (s.setCore c x).parts = s.parts := rfl
@[simp] theorem State.setCore_mem (s : State) (c : Fin 96) (x : Core) : (s.setCore c x).mem = s.mem := rfl
@[simp] theorem State.setCore_poison (s : State) (c : Fin 96) (x : Core) : (s.setCore c x).poison = s.poison := rfl
@[simp] theorem State.setCore_hostMem (s : State) (c : Fin 96) (x : Core) : (s.setCore c x).hostMem = s.hostMem := rfl
@[simp] theorem State.setCore_ms (s : State) (c : Fin 96) (x : Core) : (s.setCore c x).ms = s.ms := rfl
@[simp] theorem State.setCore_tel (s : State) (c : Fin 96) (x : Core) : (s.setCore c x).tel = s.tel := rfl
@[simp] theorem State.setCore_fab (s : State) (c : Fin 96) (x : Core) : (s.setCore c x).fab = s.fab := rfl
@[simp] theorem State.setCore_sec (s : State) (c : Fin 96) (x : Core) : (s.setCore c x).sec = s.sec := rfl
@[simp] theorem State.setCore_kci (s : State) (c : Fin 96) (x : Core) : (s.setCore c x).kci = s.kci := rfl
@[simp] theorem State.setCore_pw (s : State) (c : Fin 96) (x : Core) : (s.setCore c x).pw = s.pw := rfl
@[simp] theorem State.setCore_clk (s : State) (c : Fin 96) (x : Core) : (s.setCore c x).clk = s.clk := rfl
@[simp] theorem State.setCore_th (s : State) (c : Fin 96) (x : Core) : (s.setCore c x).th = s.th := rfl
@[simp] theorem State.setCore_serv (s : State) (c : Fin 96) (x : Core) : (s.setCore c x).serv = s.serv := rfl
@[simp] theorem State.setCore_snap (s : State) (c : Fin 96) (x : Core) : (s.setCore c x).snap = s.snap := rfl
@[simp] theorem State.setCore_mg (s : State) (c : Fin 96) (x : Core) : (s.setCore c x).mg = s.mg := rfl
@[simp] theorem State.setCore_rst (s : State) (c : Fin 96) (x : Core) : (s.setCore c x).rst = s.rst := rfl
@[simp] theorem State.setCore_ts (s : State) (c : Fin 96) (x : Core) : (s.setCore c x).ts = s.ts := rfl
@[simp] theorem State.setCore_readData (s : State) (c : Fin 96) (x : Core) : (s.setCore c x).readData = s.readData := rfl
@[simp] theorem State.setCore_busStatus (s : State) (c : Fin 96) (x : Core) : (s.setCore c x).busStatus = s.busStatus := rfl
@[simp] theorem State.setCore_freeCtr (s : State) (c : Fin 96) (x : Core) : (s.setCore c x).freeCtr = s.freeCtr := rfl
@[simp] theorem State.setCore_pending (s : State) (c : Fin 96) (x : Core) : (s.setCore c x).pending = s.pending := rfl

@[simp] theorem State.modCore_cores (s : State) (c : Fin 96) (f : Core → Core) : (s.modCore c f).cores = vset s.cores c (f (s.core c)) := rfl
@[simp] theorem State.modCore_parts (s : State) (c : Fin 96) (f : Core → Core) : (s.modCore c f).parts = s.parts := rfl
@[simp] theorem State.modCore_mem (s : State) (c : Fin 96) (f : Core → Core) : (s.modCore c f).mem = s.mem := rfl
@[simp] theorem State.modCore_poison (s : State) (c : Fin 96) (f : Core → Core) : (s.modCore c f).poison = s.poison := rfl
@[simp] theorem State.modCore_hostMem (s : State) (c : Fin 96) (f : Core → Core) : (s.modCore c f).hostMem = s.hostMem := rfl
@[simp] theorem State.modCore_ms (s : State) (c : Fin 96) (f : Core → Core) : (s.modCore c f).ms = s.ms := rfl
@[simp] theorem State.modCore_tel (s : State) (c : Fin 96) (f : Core → Core) : (s.modCore c f).tel = s.tel := rfl
@[simp] theorem State.modCore_fab (s : State) (c : Fin 96) (f : Core → Core) : (s.modCore c f).fab = s.fab := rfl
@[simp] theorem State.modCore_sec (s : State) (c : Fin 96) (f : Core → Core) : (s.modCore c f).sec = s.sec := rfl
@[simp] theorem State.modCore_kci (s : State) (c : Fin 96) (f : Core → Core) : (s.modCore c f).kci = s.kci := rfl
@[simp] theorem State.modCore_pw (s : State) (c : Fin 96) (f : Core → Core) : (s.modCore c f).pw = s.pw := rfl
@[simp] theorem State.modCore_clk (s : State) (c : Fin 96) (f : Core → Core) : (s.modCore c f).clk = s.clk := rfl
@[simp] theorem State.modCore_th (s : State) (c : Fin 96) (f : Core → Core) : (s.modCore c f).th = s.th := rfl
@[simp] theorem State.modCore_serv (s : State) (c : Fin 96) (f : Core → Core) : (s.modCore c f).serv = s.serv := rfl
@[simp] theorem State.modCore_snap (s : State) (c : Fin 96) (f : Core → Core) : (s.modCore c f).snap = s.snap := rfl
@[simp] theorem State.modCore_mg (s : State) (c : Fin 96) (f : Core → Core) : (s.modCore c f).mg = s.mg := rfl
@[simp] theorem State.modCore_rst (s : State) (c : Fin 96) (f : Core → Core) : (s.modCore c f).rst = s.rst := rfl
@[simp] theorem State.modCore_ts (s : State) (c : Fin 96) (f : Core → Core) : (s.modCore c f).ts = s.ts := rfl
@[simp] theorem State.modCore_readData (s : State) (c : Fin 96) (f : Core → Core) : (s.modCore c f).readData = s.readData := rfl
@[simp] theorem State.modCore_busStatus (s : State) (c : Fin 96) (f : Core → Core) : (s.modCore c f).busStatus = s.busStatus := rfl
@[simp] theorem State.modCore_freeCtr (s : State) (c : Fin 96) (f : Core → Core) : (s.modCore c f).freeCtr = s.freeCtr := rfl
@[simp] theorem State.modCore_pending (s : State) (c : Fin 96) (f : Core → Core) : (s.modCore c f).pending = s.pending := rfl

@[simp] theorem State.setPart_cores (s : State) (p : Fin 12) (x : Part) : (s.setPart p x).cores = s.cores := rfl
@[simp] theorem State.setPart_parts (s : State) (p : Fin 12) (x : Part) : (s.setPart p x).parts = vset s.parts p x := rfl
@[simp] theorem State.setPart_mem (s : State) (p : Fin 12) (x : Part) : (s.setPart p x).mem = s.mem := rfl
@[simp] theorem State.setPart_poison (s : State) (p : Fin 12) (x : Part) : (s.setPart p x).poison = s.poison := rfl
@[simp] theorem State.setPart_hostMem (s : State) (p : Fin 12) (x : Part) : (s.setPart p x).hostMem = s.hostMem := rfl
@[simp] theorem State.setPart_ms (s : State) (p : Fin 12) (x : Part) : (s.setPart p x).ms = s.ms := rfl
@[simp] theorem State.setPart_tel (s : State) (p : Fin 12) (x : Part) : (s.setPart p x).tel = s.tel := rfl
@[simp] theorem State.setPart_fab (s : State) (p : Fin 12) (x : Part) : (s.setPart p x).fab = s.fab := rfl
@[simp] theorem State.setPart_sec (s : State) (p : Fin 12) (x : Part) : (s.setPart p x).sec = s.sec := rfl
@[simp] theorem State.setPart_kci (s : State) (p : Fin 12) (x : Part) : (s.setPart p x).kci = s.kci := rfl
@[simp] theorem State.setPart_pw (s : State) (p : Fin 12) (x : Part) : (s.setPart p x).pw = s.pw := rfl
@[simp] theorem State.setPart_clk (s : State) (p : Fin 12) (x : Part) : (s.setPart p x).clk = s.clk := rfl
@[simp] theorem State.setPart_th (s : State) (p : Fin 12) (x : Part) : (s.setPart p x).th = s.th := rfl
@[simp] theorem State.setPart_serv (s : State) (p : Fin 12) (x : Part) : (s.setPart p x).serv = s.serv := rfl
@[simp] theorem State.setPart_snap (s : State) (p : Fin 12) (x : Part) : (s.setPart p x).snap = s.snap := rfl
@[simp] theorem State.setPart_mg (s : State) (p : Fin 12) (x : Part) : (s.setPart p x).mg = s.mg := rfl
@[simp] theorem State.setPart_rst (s : State) (p : Fin 12) (x : Part) : (s.setPart p x).rst = s.rst := rfl
@[simp] theorem State.setPart_ts (s : State) (p : Fin 12) (x : Part) : (s.setPart p x).ts = s.ts := rfl
@[simp] theorem State.setPart_readData (s : State) (p : Fin 12) (x : Part) : (s.setPart p x).readData = s.readData := rfl
@[simp] theorem State.setPart_busStatus (s : State) (p : Fin 12) (x : Part) : (s.setPart p x).busStatus = s.busStatus := rfl
@[simp] theorem State.setPart_freeCtr (s : State) (p : Fin 12) (x : Part) : (s.setPart p x).freeCtr = s.freeCtr := rfl
@[simp] theorem State.setPart_pending (s : State) (p : Fin 12) (x : Part) : (s.setPart p x).pending = s.pending := rfl

@[simp] theorem State.modPart_cores (s : State) (p : Fin 12) (f : Part → Part) : (s.modPart p f).cores = s.cores := rfl
@[simp] theorem State.modPart_parts (s : State) (p : Fin 12) (f : Part → Part) : (s.modPart p f).parts = vset s.parts p (f (s.part p)) := rfl
@[simp] theorem State.modPart_mem (s : State) (p : Fin 12) (f : Part → Part) : (s.modPart p f).mem = s.mem := rfl
@[simp] theorem State.modPart_poison (s : State) (p : Fin 12) (f : Part → Part) : (s.modPart p f).poison = s.poison := rfl
@[simp] theorem State.modPart_hostMem (s : State) (p : Fin 12) (f : Part → Part) : (s.modPart p f).hostMem = s.hostMem := rfl
@[simp] theorem State.modPart_ms (s : State) (p : Fin 12) (f : Part → Part) : (s.modPart p f).ms = s.ms := rfl
@[simp] theorem State.modPart_tel (s : State) (p : Fin 12) (f : Part → Part) : (s.modPart p f).tel = s.tel := rfl
@[simp] theorem State.modPart_fab (s : State) (p : Fin 12) (f : Part → Part) : (s.modPart p f).fab = s.fab := rfl
@[simp] theorem State.modPart_sec (s : State) (p : Fin 12) (f : Part → Part) : (s.modPart p f).sec = s.sec := rfl
@[simp] theorem State.modPart_kci (s : State) (p : Fin 12) (f : Part → Part) : (s.modPart p f).kci = s.kci := rfl
@[simp] theorem State.modPart_pw (s : State) (p : Fin 12) (f : Part → Part) : (s.modPart p f).pw = s.pw := rfl
@[simp] theorem State.modPart_clk (s : State) (p : Fin 12) (f : Part → Part) : (s.modPart p f).clk = s.clk := rfl
@[simp] theorem State.modPart_th (s : State) (p : Fin 12) (f : Part → Part) : (s.modPart p f).th = s.th := rfl
@[simp] theorem State.modPart_serv (s : State) (p : Fin 12) (f : Part → Part) : (s.modPart p f).serv = s.serv := rfl
@[simp] theorem State.modPart_snap (s : State) (p : Fin 12) (f : Part → Part) : (s.modPart p f).snap = s.snap := rfl
@[simp] theorem State.modPart_mg (s : State) (p : Fin 12) (f : Part → Part) : (s.modPart p f).mg = s.mg := rfl
@[simp] theorem State.modPart_rst (s : State) (p : Fin 12) (f : Part → Part) : (s.modPart p f).rst = s.rst := rfl
@[simp] theorem State.modPart_ts (s : State) (p : Fin 12) (f : Part → Part) : (s.modPart p f).ts = s.ts := rfl
@[simp] theorem State.modPart_readData (s : State) (p : Fin 12) (f : Part → Part) : (s.modPart p f).readData = s.readData := rfl
@[simp] theorem State.modPart_busStatus (s : State) (p : Fin 12) (f : Part → Part) : (s.modPart p f).busStatus = s.busStatus := rfl
@[simp] theorem State.modPart_freeCtr (s : State) (p : Fin 12) (f : Part → Part) : (s.modPart p f).freeCtr = s.freeCtr := rfl
@[simp] theorem State.modPart_pending (s : State) (p : Fin 12) (f : Part → Part) : (s.modPart p f).pending = s.pending := rfl

@[simp] theorem State.write_cores (s : State) (a : Nat) (bs : List Byte) (po : Bool) : (s.write a bs po).cores = s.cores := rfl
@[simp] theorem State.write_parts (s : State) (a : Nat) (bs : List Byte) (po : Bool) : (s.write a bs po).parts = s.parts := rfl
@[simp] theorem State.write_mem (s : State) (a : Nat) (bs : List Byte) (po : Bool) : (s.write a bs po).mem = s.mem.write a bs := rfl
@[simp] theorem State.write_poison (s : State) (a : Nat) (bs : List Byte) (po : Bool) :
    (s.write a bs po).poison = if po then s.poison.set a bs.length else s.poison.clearWhole a bs.length := rfl
@[simp] theorem State.write_hostMem (s : State) (a : Nat) (bs : List Byte) (po : Bool) : (s.write a bs po).hostMem = s.hostMem := rfl
@[simp] theorem State.write_ms (s : State) (a : Nat) (bs : List Byte) (po : Bool) : (s.write a bs po).ms = s.ms := rfl
@[simp] theorem State.write_tel (s : State) (a : Nat) (bs : List Byte) (po : Bool) : (s.write a bs po).tel = s.tel := rfl
@[simp] theorem State.write_fab (s : State) (a : Nat) (bs : List Byte) (po : Bool) : (s.write a bs po).fab = s.fab := rfl
@[simp] theorem State.write_sec (s : State) (a : Nat) (bs : List Byte) (po : Bool) : (s.write a bs po).sec = s.sec := rfl
@[simp] theorem State.write_kci (s : State) (a : Nat) (bs : List Byte) (po : Bool) : (s.write a bs po).kci = s.kci := rfl
@[simp] theorem State.write_pw (s : State) (a : Nat) (bs : List Byte) (po : Bool) : (s.write a bs po).pw = s.pw := rfl
@[simp] theorem State.write_clk (s : State) (a : Nat) (bs : List Byte) (po : Bool) : (s.write a bs po).clk = s.clk := rfl
@[simp] theorem State.write_th (s : State) (a : Nat) (bs : List Byte) (po : Bool) : (s.write a bs po).th = s.th := rfl
@[simp] theorem State.write_serv (s : State) (a : Nat) (bs : List Byte) (po : Bool) : (s.write a bs po).serv = s.serv := rfl
@[simp] theorem State.write_snap (s : State) (a : Nat) (bs : List Byte) (po : Bool) : (s.write a bs po).snap = s.snap := rfl
@[simp] theorem State.write_mg (s : State) (a : Nat) (bs : List Byte) (po : Bool) : (s.write a bs po).mg = s.mg := rfl
@[simp] theorem State.write_rst (s : State) (a : Nat) (bs : List Byte) (po : Bool) : (s.write a bs po).rst = s.rst := rfl
@[simp] theorem State.write_ts (s : State) (a : Nat) (bs : List Byte) (po : Bool) : (s.write a bs po).ts = s.ts := rfl
@[simp] theorem State.write_readData (s : State) (a : Nat) (bs : List Byte) (po : Bool) : (s.write a bs po).readData = s.readData := rfl
@[simp] theorem State.write_busStatus (s : State) (a : Nat) (bs : List Byte) (po : Bool) : (s.write a bs po).busStatus = s.busStatus := rfl
@[simp] theorem State.write_freeCtr (s : State) (a : Nat) (bs : List Byte) (po : Bool) : (s.write a bs po).freeCtr = s.freeCtr := rfl
@[simp] theorem State.write_pending (s : State) (a : Nat) (bs : List Byte) (po : Bool) : (s.write a bs po).pending = s.pending := rfl

@[simp] theorem State.mark_cores (s : State) (a n : Nat) : (s.mark a n).cores = s.cores := rfl
@[simp] theorem State.mark_parts (s : State) (a n : Nat) : (s.mark a n).parts = s.parts := rfl
@[simp] theorem State.mark_mem (s : State) (a n : Nat) : (s.mark a n).mem = s.mem := rfl
@[simp] theorem State.mark_poison (s : State) (a n : Nat) : (s.mark a n).poison = s.poison.set a n := rfl
@[simp] theorem State.mark_hostMem (s : State) (a n : Nat) : (s.mark a n).hostMem = s.hostMem := rfl
@[simp] theorem State.mark_ms (s : State) (a n : Nat) : (s.mark a n).ms = s.ms := rfl
@[simp] theorem State.mark_tel (s : State) (a n : Nat) : (s.mark a n).tel = s.tel := rfl
@[simp] theorem State.mark_fab (s : State) (a n : Nat) : (s.mark a n).fab = s.fab := rfl
@[simp] theorem State.mark_sec (s : State) (a n : Nat) : (s.mark a n).sec = s.sec := rfl
@[simp] theorem State.mark_kci (s : State) (a n : Nat) : (s.mark a n).kci = s.kci := rfl
@[simp] theorem State.mark_pw (s : State) (a n : Nat) : (s.mark a n).pw = s.pw := rfl
@[simp] theorem State.mark_clk (s : State) (a n : Nat) : (s.mark a n).clk = s.clk := rfl
@[simp] theorem State.mark_th (s : State) (a n : Nat) : (s.mark a n).th = s.th := rfl
@[simp] theorem State.mark_serv (s : State) (a n : Nat) : (s.mark a n).serv = s.serv := rfl
@[simp] theorem State.mark_snap (s : State) (a n : Nat) : (s.mark a n).snap = s.snap := rfl
@[simp] theorem State.mark_mg (s : State) (a n : Nat) : (s.mark a n).mg = s.mg := rfl
@[simp] theorem State.mark_rst (s : State) (a n : Nat) : (s.mark a n).rst = s.rst := rfl
@[simp] theorem State.mark_ts (s : State) (a n : Nat) : (s.mark a n).ts = s.ts := rfl
@[simp] theorem State.mark_readData (s : State) (a n : Nat) : (s.mark a n).readData = s.readData := rfl
@[simp] theorem State.mark_busStatus (s : State) (a n : Nat) : (s.mark a n).busStatus = s.busStatus := rfl
@[simp] theorem State.mark_freeCtr (s : State) (a n : Nat) : (s.mark a n).freeCtr = s.freeCtr := rfl
@[simp] theorem State.mark_pending (s : State) (a n : Nat) : (s.mark a n).pending = s.pending := rfl

@[simp] theorem State.hostWrite_cores (s : State) (a : Nat) (bs : List Byte) : (s.hostWrite a bs).cores = s.cores := rfl
@[simp] theorem State.hostWrite_parts (s : State) (a : Nat) (bs : List Byte) : (s.hostWrite a bs).parts = s.parts := rfl
@[simp] theorem State.hostWrite_mem (s : State) (a : Nat) (bs : List Byte) : (s.hostWrite a bs).mem = s.mem := rfl
@[simp] theorem State.hostWrite_poison (s : State) (a : Nat) (bs : List Byte) : (s.hostWrite a bs).poison = s.poison := rfl
@[simp] theorem State.hostWrite_hostMem (s : State) (a : Nat) (bs : List Byte) : (s.hostWrite a bs).hostMem = s.hostMem.write a bs := rfl
@[simp] theorem State.hostWrite_ms (s : State) (a : Nat) (bs : List Byte) : (s.hostWrite a bs).ms = s.ms := rfl
@[simp] theorem State.hostWrite_tel (s : State) (a : Nat) (bs : List Byte) : (s.hostWrite a bs).tel = s.tel := rfl
@[simp] theorem State.hostWrite_fab (s : State) (a : Nat) (bs : List Byte) : (s.hostWrite a bs).fab = s.fab := rfl
@[simp] theorem State.hostWrite_sec (s : State) (a : Nat) (bs : List Byte) : (s.hostWrite a bs).sec = s.sec := rfl
@[simp] theorem State.hostWrite_kci (s : State) (a : Nat) (bs : List Byte) : (s.hostWrite a bs).kci = s.kci := rfl
@[simp] theorem State.hostWrite_pw (s : State) (a : Nat) (bs : List Byte) : (s.hostWrite a bs).pw = s.pw := rfl
@[simp] theorem State.hostWrite_clk (s : State) (a : Nat) (bs : List Byte) : (s.hostWrite a bs).clk = s.clk := rfl
@[simp] theorem State.hostWrite_th (s : State) (a : Nat) (bs : List Byte) : (s.hostWrite a bs).th = s.th := rfl
@[simp] theorem State.hostWrite_serv (s : State) (a : Nat) (bs : List Byte) : (s.hostWrite a bs).serv = s.serv := rfl
@[simp] theorem State.hostWrite_snap (s : State) (a : Nat) (bs : List Byte) : (s.hostWrite a bs).snap = s.snap := rfl
@[simp] theorem State.hostWrite_mg (s : State) (a : Nat) (bs : List Byte) : (s.hostWrite a bs).mg = s.mg := rfl
@[simp] theorem State.hostWrite_rst (s : State) (a : Nat) (bs : List Byte) : (s.hostWrite a bs).rst = s.rst := rfl
@[simp] theorem State.hostWrite_ts (s : State) (a : Nat) (bs : List Byte) : (s.hostWrite a bs).ts = s.ts := rfl
@[simp] theorem State.hostWrite_readData (s : State) (a : Nat) (bs : List Byte) : (s.hostWrite a bs).readData = s.readData := rfl
@[simp] theorem State.hostWrite_busStatus (s : State) (a : Nat) (bs : List Byte) : (s.hostWrite a bs).busStatus = s.busStatus := rfl
@[simp] theorem State.hostWrite_freeCtr (s : State) (a : Nat) (bs : List Byte) : (s.hostWrite a bs).freeCtr = s.freeCtr := rfl
@[simp] theorem State.hostWrite_pending (s : State) (a : Nat) (bs : List Byte) : (s.hostWrite a bs).pending = s.pending := rfl

@[simp] theorem State.modFab_cores (s : State) (f : Fabric → Fabric) : (s.modFab f).cores = s.cores := rfl
@[simp] theorem State.modFab_parts (s : State) (f : Fabric → Fabric) : (s.modFab f).parts = s.parts := rfl
@[simp] theorem State.modFab_mem (s : State) (f : Fabric → Fabric) : (s.modFab f).mem = s.mem := rfl
@[simp] theorem State.modFab_poison (s : State) (f : Fabric → Fabric) : (s.modFab f).poison = s.poison := rfl
@[simp] theorem State.modFab_hostMem (s : State) (f : Fabric → Fabric) : (s.modFab f).hostMem = s.hostMem := rfl
@[simp] theorem State.modFab_ms (s : State) (f : Fabric → Fabric) : (s.modFab f).ms = s.ms := rfl
@[simp] theorem State.modFab_tel (s : State) (f : Fabric → Fabric) : (s.modFab f).tel = s.tel := rfl
@[simp] theorem State.modFab_fab (s : State) (f : Fabric → Fabric) : (s.modFab f).fab = f s.fab := rfl
@[simp] theorem State.modFab_sec (s : State) (f : Fabric → Fabric) : (s.modFab f).sec = s.sec := rfl
@[simp] theorem State.modFab_kci (s : State) (f : Fabric → Fabric) : (s.modFab f).kci = s.kci := rfl
@[simp] theorem State.modFab_pw (s : State) (f : Fabric → Fabric) : (s.modFab f).pw = s.pw := rfl
@[simp] theorem State.modFab_clk (s : State) (f : Fabric → Fabric) : (s.modFab f).clk = s.clk := rfl
@[simp] theorem State.modFab_th (s : State) (f : Fabric → Fabric) : (s.modFab f).th = s.th := rfl
@[simp] theorem State.modFab_serv (s : State) (f : Fabric → Fabric) : (s.modFab f).serv = s.serv := rfl
@[simp] theorem State.modFab_snap (s : State) (f : Fabric → Fabric) : (s.modFab f).snap = s.snap := rfl
@[simp] theorem State.modFab_mg (s : State) (f : Fabric → Fabric) : (s.modFab f).mg = s.mg := rfl
@[simp] theorem State.modFab_rst (s : State) (f : Fabric → Fabric) : (s.modFab f).rst = s.rst := rfl
@[simp] theorem State.modFab_ts (s : State) (f : Fabric → Fabric) : (s.modFab f).ts = s.ts := rfl
@[simp] theorem State.modFab_readData (s : State) (f : Fabric → Fabric) : (s.modFab f).readData = s.readData := rfl
@[simp] theorem State.modFab_busStatus (s : State) (f : Fabric → Fabric) : (s.modFab f).busStatus = s.busStatus := rfl
@[simp] theorem State.modFab_freeCtr (s : State) (f : Fabric → Fabric) : (s.modFab f).freeCtr = s.freeCtr := rfl
@[simp] theorem State.modFab_pending (s : State) (f : Fabric → Fabric) : (s.modFab f).pending = s.pending := rfl

@[simp] theorem State.modKci_cores (s : State) (f : Kci → Kci) : (s.modKci f).cores = s.cores := rfl
@[simp] theorem State.modKci_parts (s : State) (f : Kci → Kci) : (s.modKci f).parts = s.parts := rfl
@[simp] theorem State.modKci_mem (s : State) (f : Kci → Kci) : (s.modKci f).mem = s.mem := rfl
@[simp] theorem State.modKci_poison (s : State) (f : Kci → Kci) : (s.modKci f).poison = s.poison := rfl
@[simp] theorem State.modKci_hostMem (s : State) (f : Kci → Kci) : (s.modKci f).hostMem = s.hostMem := rfl
@[simp] theorem State.modKci_ms (s : State) (f : Kci → Kci) : (s.modKci f).ms = s.ms := rfl
@[simp] theorem State.modKci_tel (s : State) (f : Kci → Kci) : (s.modKci f).tel = s.tel := rfl
@[simp] theorem State.modKci_fab (s : State) (f : Kci → Kci) : (s.modKci f).fab = s.fab := rfl
@[simp] theorem State.modKci_sec (s : State) (f : Kci → Kci) : (s.modKci f).sec = s.sec := rfl
@[simp] theorem State.modKci_kci (s : State) (f : Kci → Kci) : (s.modKci f).kci = f s.kci := rfl
@[simp] theorem State.modKci_pw (s : State) (f : Kci → Kci) : (s.modKci f).pw = s.pw := rfl
@[simp] theorem State.modKci_clk (s : State) (f : Kci → Kci) : (s.modKci f).clk = s.clk := rfl
@[simp] theorem State.modKci_th (s : State) (f : Kci → Kci) : (s.modKci f).th = s.th := rfl
@[simp] theorem State.modKci_serv (s : State) (f : Kci → Kci) : (s.modKci f).serv = s.serv := rfl
@[simp] theorem State.modKci_snap (s : State) (f : Kci → Kci) : (s.modKci f).snap = s.snap := rfl
@[simp] theorem State.modKci_mg (s : State) (f : Kci → Kci) : (s.modKci f).mg = s.mg := rfl
@[simp] theorem State.modKci_rst (s : State) (f : Kci → Kci) : (s.modKci f).rst = s.rst := rfl
@[simp] theorem State.modKci_ts (s : State) (f : Kci → Kci) : (s.modKci f).ts = s.ts := rfl
@[simp] theorem State.modKci_readData (s : State) (f : Kci → Kci) : (s.modKci f).readData = s.readData := rfl
@[simp] theorem State.modKci_busStatus (s : State) (f : Kci → Kci) : (s.modKci f).busStatus = s.busStatus := rfl
@[simp] theorem State.modKci_freeCtr (s : State) (f : Kci → Kci) : (s.modKci f).freeCtr = s.freeCtr := rfl
@[simp] theorem State.modKci_pending (s : State) (f : Kci → Kci) : (s.modKci f).pending = s.pending := rfl

@[simp] theorem State.modFn_cores (s : State) (n : Fin 13) (f : Func → Func) : (s.modFn n f).cores = s.cores := rfl
@[simp] theorem State.modFn_parts (s : State) (n : Fin 13) (f : Func → Func) : (s.modFn n f).parts = s.parts := rfl
@[simp] theorem State.modFn_mem (s : State) (n : Fin 13) (f : Func → Func) : (s.modFn n f).mem = s.mem := rfl
@[simp] theorem State.modFn_poison (s : State) (n : Fin 13) (f : Func → Func) : (s.modFn n f).poison = s.poison := rfl
@[simp] theorem State.modFn_hostMem (s : State) (n : Fin 13) (f : Func → Func) : (s.modFn n f).hostMem = s.hostMem := rfl
@[simp] theorem State.modFn_ms (s : State) (n : Fin 13) (f : Func → Func) : (s.modFn n f).ms = s.ms := rfl
@[simp] theorem State.modFn_tel (s : State) (n : Fin 13) (f : Func → Func) : (s.modFn n f).tel = s.tel := rfl
@[simp] theorem State.modFn_fab (s : State) (n : Fin 13) (f : Func → Func) : (s.modFn n f).fab = s.fab := rfl
@[simp] theorem State.modFn_sec (s : State) (n : Fin 13) (f : Func → Func) : (s.modFn n f).sec = s.sec := rfl
@[simp] theorem State.modFn_pw (s : State) (n : Fin 13) (f : Func → Func) : (s.modFn n f).pw = s.pw := rfl
@[simp] theorem State.modFn_clk (s : State) (n : Fin 13) (f : Func → Func) : (s.modFn n f).clk = s.clk := rfl
@[simp] theorem State.modFn_th (s : State) (n : Fin 13) (f : Func → Func) : (s.modFn n f).th = s.th := rfl
@[simp] theorem State.modFn_serv (s : State) (n : Fin 13) (f : Func → Func) : (s.modFn n f).serv = s.serv := rfl
@[simp] theorem State.modFn_snap (s : State) (n : Fin 13) (f : Func → Func) : (s.modFn n f).snap = s.snap := rfl
@[simp] theorem State.modFn_mg (s : State) (n : Fin 13) (f : Func → Func) : (s.modFn n f).mg = s.mg := rfl
@[simp] theorem State.modFn_rst (s : State) (n : Fin 13) (f : Func → Func) : (s.modFn n f).rst = s.rst := rfl
@[simp] theorem State.modFn_ts (s : State) (n : Fin 13) (f : Func → Func) : (s.modFn n f).ts = s.ts := rfl
@[simp] theorem State.modFn_readData (s : State) (n : Fin 13) (f : Func → Func) : (s.modFn n f).readData = s.readData := rfl
@[simp] theorem State.modFn_busStatus (s : State) (n : Fin 13) (f : Func → Func) : (s.modFn n f).busStatus = s.busStatus := rfl
@[simp] theorem State.modFn_freeCtr (s : State) (n : Fin 13) (f : Func → Func) : (s.modFn n f).freeCtr = s.freeCtr := rfl
@[simp] theorem State.modFn_pending (s : State) (n : Fin 13) (f : Func → Func) : (s.modFn n f).pending = s.pending := rfl

@[simp] theorem State.modRing_cores (s : State) (n : Fin 13) (r : Fin 32) (f : Ring → Ring) : (s.modRing n r f).cores = s.cores := rfl
@[simp] theorem State.modRing_parts (s : State) (n : Fin 13) (r : Fin 32) (f : Ring → Ring) : (s.modRing n r f).parts = s.parts := rfl
@[simp] theorem State.modRing_mem (s : State) (n : Fin 13) (r : Fin 32) (f : Ring → Ring) : (s.modRing n r f).mem = s.mem := rfl
@[simp] theorem State.modRing_poison (s : State) (n : Fin 13) (r : Fin 32) (f : Ring → Ring) : (s.modRing n r f).poison = s.poison := rfl
@[simp] theorem State.modRing_hostMem (s : State) (n : Fin 13) (r : Fin 32) (f : Ring → Ring) : (s.modRing n r f).hostMem = s.hostMem := rfl
@[simp] theorem State.modRing_ms (s : State) (n : Fin 13) (r : Fin 32) (f : Ring → Ring) : (s.modRing n r f).ms = s.ms := rfl
@[simp] theorem State.modRing_tel (s : State) (n : Fin 13) (r : Fin 32) (f : Ring → Ring) : (s.modRing n r f).tel = s.tel := rfl
@[simp] theorem State.modRing_fab (s : State) (n : Fin 13) (r : Fin 32) (f : Ring → Ring) : (s.modRing n r f).fab = s.fab := rfl
@[simp] theorem State.modRing_sec (s : State) (n : Fin 13) (r : Fin 32) (f : Ring → Ring) : (s.modRing n r f).sec = s.sec := rfl
@[simp] theorem State.modRing_pw (s : State) (n : Fin 13) (r : Fin 32) (f : Ring → Ring) : (s.modRing n r f).pw = s.pw := rfl
@[simp] theorem State.modRing_clk (s : State) (n : Fin 13) (r : Fin 32) (f : Ring → Ring) : (s.modRing n r f).clk = s.clk := rfl
@[simp] theorem State.modRing_th (s : State) (n : Fin 13) (r : Fin 32) (f : Ring → Ring) : (s.modRing n r f).th = s.th := rfl
@[simp] theorem State.modRing_serv (s : State) (n : Fin 13) (r : Fin 32) (f : Ring → Ring) : (s.modRing n r f).serv = s.serv := rfl
@[simp] theorem State.modRing_snap (s : State) (n : Fin 13) (r : Fin 32) (f : Ring → Ring) : (s.modRing n r f).snap = s.snap := rfl
@[simp] theorem State.modRing_mg (s : State) (n : Fin 13) (r : Fin 32) (f : Ring → Ring) : (s.modRing n r f).mg = s.mg := rfl
@[simp] theorem State.modRing_rst (s : State) (n : Fin 13) (r : Fin 32) (f : Ring → Ring) : (s.modRing n r f).rst = s.rst := rfl
@[simp] theorem State.modRing_ts (s : State) (n : Fin 13) (r : Fin 32) (f : Ring → Ring) : (s.modRing n r f).ts = s.ts := rfl
@[simp] theorem State.modRing_readData (s : State) (n : Fin 13) (r : Fin 32) (f : Ring → Ring) : (s.modRing n r f).readData = s.readData := rfl
@[simp] theorem State.modRing_busStatus (s : State) (n : Fin 13) (r : Fin 32) (f : Ring → Ring) : (s.modRing n r f).busStatus = s.busStatus := rfl
@[simp] theorem State.modRing_freeCtr (s : State) (n : Fin 13) (r : Fin 32) (f : Ring → Ring) : (s.modRing n r f).freeCtr = s.freeCtr := rfl
@[simp] theorem State.modRing_pending (s : State) (n : Fin 13) (r : Fin 32) (f : Ring → Ring) : (s.modRing n r f).pending = s.pending := rfl

@[simp] theorem State.modStk_cores (s : State) (n : Fin 6) (f : Stack → Stack) : (s.modStk n f).cores = s.cores := rfl
@[simp] theorem State.modStk_parts (s : State) (n : Fin 6) (f : Stack → Stack) : (s.modStk n f).parts = s.parts := rfl
@[simp] theorem State.modStk_mem (s : State) (n : Fin 6) (f : Stack → Stack) : (s.modStk n f).mem = s.mem := rfl
@[simp] theorem State.modStk_poison (s : State) (n : Fin 6) (f : Stack → Stack) : (s.modStk n f).poison = s.poison := rfl
@[simp] theorem State.modStk_hostMem (s : State) (n : Fin 6) (f : Stack → Stack) : (s.modStk n f).hostMem = s.hostMem := rfl
@[simp] theorem State.modStk_tel (s : State) (n : Fin 6) (f : Stack → Stack) : (s.modStk n f).tel = s.tel := rfl
@[simp] theorem State.modStk_fab (s : State) (n : Fin 6) (f : Stack → Stack) : (s.modStk n f).fab = s.fab := rfl
@[simp] theorem State.modStk_sec (s : State) (n : Fin 6) (f : Stack → Stack) : (s.modStk n f).sec = s.sec := rfl
@[simp] theorem State.modStk_kci (s : State) (n : Fin 6) (f : Stack → Stack) : (s.modStk n f).kci = s.kci := rfl
@[simp] theorem State.modStk_pw (s : State) (n : Fin 6) (f : Stack → Stack) : (s.modStk n f).pw = s.pw := rfl
@[simp] theorem State.modStk_clk (s : State) (n : Fin 6) (f : Stack → Stack) : (s.modStk n f).clk = s.clk := rfl
@[simp] theorem State.modStk_th (s : State) (n : Fin 6) (f : Stack → Stack) : (s.modStk n f).th = s.th := rfl
@[simp] theorem State.modStk_serv (s : State) (n : Fin 6) (f : Stack → Stack) : (s.modStk n f).serv = s.serv := rfl
@[simp] theorem State.modStk_snap (s : State) (n : Fin 6) (f : Stack → Stack) : (s.modStk n f).snap = s.snap := rfl
@[simp] theorem State.modStk_mg (s : State) (n : Fin 6) (f : Stack → Stack) : (s.modStk n f).mg = s.mg := rfl
@[simp] theorem State.modStk_rst (s : State) (n : Fin 6) (f : Stack → Stack) : (s.modStk n f).rst = s.rst := rfl
@[simp] theorem State.modStk_ts (s : State) (n : Fin 6) (f : Stack → Stack) : (s.modStk n f).ts = s.ts := rfl
@[simp] theorem State.modStk_readData (s : State) (n : Fin 6) (f : Stack → Stack) : (s.modStk n f).readData = s.readData := rfl
@[simp] theorem State.modStk_busStatus (s : State) (n : Fin 6) (f : Stack → Stack) : (s.modStk n f).busStatus = s.busStatus := rfl
@[simp] theorem State.modStk_freeCtr (s : State) (n : Fin 6) (f : Stack → Stack) : (s.modStk n f).freeCtr = s.freeCtr := rfl
@[simp] theorem State.modStk_pending (s : State) (n : Fin 6) (f : Stack → Stack) : (s.modStk n f).pending = s.pending := rfl

@[simp] theorem State.modPw_cores (s : State) (f : Power → Power) : (s.modPw f).cores = s.cores := rfl
@[simp] theorem State.modPw_parts (s : State) (f : Power → Power) : (s.modPw f).parts = s.parts := rfl
@[simp] theorem State.modPw_mem (s : State) (f : Power → Power) : (s.modPw f).mem = s.mem := rfl
@[simp] theorem State.modPw_poison (s : State) (f : Power → Power) : (s.modPw f).poison = s.poison := rfl
@[simp] theorem State.modPw_hostMem (s : State) (f : Power → Power) : (s.modPw f).hostMem = s.hostMem := rfl
@[simp] theorem State.modPw_ms (s : State) (f : Power → Power) : (s.modPw f).ms = s.ms := rfl
@[simp] theorem State.modPw_tel (s : State) (f : Power → Power) : (s.modPw f).tel = s.tel := rfl
@[simp] theorem State.modPw_fab (s : State) (f : Power → Power) : (s.modPw f).fab = s.fab := rfl
@[simp] theorem State.modPw_sec (s : State) (f : Power → Power) : (s.modPw f).sec = s.sec := rfl
@[simp] theorem State.modPw_kci (s : State) (f : Power → Power) : (s.modPw f).kci = s.kci := rfl
@[simp] theorem State.modPw_pw (s : State) (f : Power → Power) : (s.modPw f).pw = f s.pw := rfl
@[simp] theorem State.modPw_clk (s : State) (f : Power → Power) : (s.modPw f).clk = s.clk := rfl
@[simp] theorem State.modPw_th (s : State) (f : Power → Power) : (s.modPw f).th = s.th := rfl
@[simp] theorem State.modPw_serv (s : State) (f : Power → Power) : (s.modPw f).serv = s.serv := rfl
@[simp] theorem State.modPw_snap (s : State) (f : Power → Power) : (s.modPw f).snap = s.snap := rfl
@[simp] theorem State.modPw_mg (s : State) (f : Power → Power) : (s.modPw f).mg = s.mg := rfl
@[simp] theorem State.modPw_rst (s : State) (f : Power → Power) : (s.modPw f).rst = s.rst := rfl
@[simp] theorem State.modPw_ts (s : State) (f : Power → Power) : (s.modPw f).ts = s.ts := rfl
@[simp] theorem State.modPw_readData (s : State) (f : Power → Power) : (s.modPw f).readData = s.readData := rfl
@[simp] theorem State.modPw_busStatus (s : State) (f : Power → Power) : (s.modPw f).busStatus = s.busStatus := rfl
@[simp] theorem State.modPw_freeCtr (s : State) (f : Power → Power) : (s.modPw f).freeCtr = s.freeCtr := rfl
@[simp] theorem State.modPw_pending (s : State) (f : Power → Power) : (s.modPw f).pending = s.pending := rfl

@[simp] theorem State.modClk_cores (s : State) (f : Clk → Clk) : (s.modClk f).cores = s.cores := rfl
@[simp] theorem State.modClk_parts (s : State) (f : Clk → Clk) : (s.modClk f).parts = s.parts := rfl
@[simp] theorem State.modClk_mem (s : State) (f : Clk → Clk) : (s.modClk f).mem = s.mem := rfl
@[simp] theorem State.modClk_poison (s : State) (f : Clk → Clk) : (s.modClk f).poison = s.poison := rfl
@[simp] theorem State.modClk_hostMem (s : State) (f : Clk → Clk) : (s.modClk f).hostMem = s.hostMem := rfl
@[simp] theorem State.modClk_ms (s : State) (f : Clk → Clk) : (s.modClk f).ms = s.ms := rfl
@[simp] theorem State.modClk_tel (s : State) (f : Clk → Clk) : (s.modClk f).tel = s.tel := rfl
@[simp] theorem State.modClk_fab (s : State) (f : Clk → Clk) : (s.modClk f).fab = s.fab := rfl
@[simp] theorem State.modClk_sec (s : State) (f : Clk → Clk) : (s.modClk f).sec = s.sec := rfl
@[simp] theorem State.modClk_kci (s : State) (f : Clk → Clk) : (s.modClk f).kci = s.kci := rfl
@[simp] theorem State.modClk_pw (s : State) (f : Clk → Clk) : (s.modClk f).pw = s.pw := rfl
@[simp] theorem State.modClk_clk (s : State) (f : Clk → Clk) : (s.modClk f).clk = f s.clk := rfl
@[simp] theorem State.modClk_th (s : State) (f : Clk → Clk) : (s.modClk f).th = s.th := rfl
@[simp] theorem State.modClk_serv (s : State) (f : Clk → Clk) : (s.modClk f).serv = s.serv := rfl
@[simp] theorem State.modClk_snap (s : State) (f : Clk → Clk) : (s.modClk f).snap = s.snap := rfl
@[simp] theorem State.modClk_mg (s : State) (f : Clk → Clk) : (s.modClk f).mg = s.mg := rfl
@[simp] theorem State.modClk_rst (s : State) (f : Clk → Clk) : (s.modClk f).rst = s.rst := rfl
@[simp] theorem State.modClk_ts (s : State) (f : Clk → Clk) : (s.modClk f).ts = s.ts := rfl
@[simp] theorem State.modClk_readData (s : State) (f : Clk → Clk) : (s.modClk f).readData = s.readData := rfl
@[simp] theorem State.modClk_busStatus (s : State) (f : Clk → Clk) : (s.modClk f).busStatus = s.busStatus := rfl
@[simp] theorem State.modClk_freeCtr (s : State) (f : Clk → Clk) : (s.modClk f).freeCtr = s.freeCtr := rfl
@[simp] theorem State.modClk_pending (s : State) (f : Clk → Clk) : (s.modClk f).pending = s.pending := rfl

@[simp] theorem State.modTh_cores (s : State) (f : Therm → Therm) : (s.modTh f).cores = s.cores := rfl
@[simp] theorem State.modTh_parts (s : State) (f : Therm → Therm) : (s.modTh f).parts = s.parts := rfl
@[simp] theorem State.modTh_mem (s : State) (f : Therm → Therm) : (s.modTh f).mem = s.mem := rfl
@[simp] theorem State.modTh_poison (s : State) (f : Therm → Therm) : (s.modTh f).poison = s.poison := rfl
@[simp] theorem State.modTh_hostMem (s : State) (f : Therm → Therm) : (s.modTh f).hostMem = s.hostMem := rfl
@[simp] theorem State.modTh_ms (s : State) (f : Therm → Therm) : (s.modTh f).ms = s.ms := rfl
@[simp] theorem State.modTh_tel (s : State) (f : Therm → Therm) : (s.modTh f).tel = s.tel := rfl
@[simp] theorem State.modTh_fab (s : State) (f : Therm → Therm) : (s.modTh f).fab = s.fab := rfl
@[simp] theorem State.modTh_sec (s : State) (f : Therm → Therm) : (s.modTh f).sec = s.sec := rfl
@[simp] theorem State.modTh_kci (s : State) (f : Therm → Therm) : (s.modTh f).kci = s.kci := rfl
@[simp] theorem State.modTh_pw (s : State) (f : Therm → Therm) : (s.modTh f).pw = s.pw := rfl
@[simp] theorem State.modTh_clk (s : State) (f : Therm → Therm) : (s.modTh f).clk = s.clk := rfl
@[simp] theorem State.modTh_th (s : State) (f : Therm → Therm) : (s.modTh f).th = f s.th := rfl
@[simp] theorem State.modTh_serv (s : State) (f : Therm → Therm) : (s.modTh f).serv = s.serv := rfl
@[simp] theorem State.modTh_snap (s : State) (f : Therm → Therm) : (s.modTh f).snap = s.snap := rfl
@[simp] theorem State.modTh_mg (s : State) (f : Therm → Therm) : (s.modTh f).mg = s.mg := rfl
@[simp] theorem State.modTh_rst (s : State) (f : Therm → Therm) : (s.modTh f).rst = s.rst := rfl
@[simp] theorem State.modTh_ts (s : State) (f : Therm → Therm) : (s.modTh f).ts = s.ts := rfl
@[simp] theorem State.modTh_readData (s : State) (f : Therm → Therm) : (s.modTh f).readData = s.readData := rfl
@[simp] theorem State.modTh_busStatus (s : State) (f : Therm → Therm) : (s.modTh f).busStatus = s.busStatus := rfl
@[simp] theorem State.modTh_freeCtr (s : State) (f : Therm → Therm) : (s.modTh f).freeCtr = s.freeCtr := rfl
@[simp] theorem State.modTh_pending (s : State) (f : Therm → Therm) : (s.modTh f).pending = s.pending := rfl

@[simp] theorem State.modServ_cores (s : State) (f : Serv → Serv) : (s.modServ f).cores = s.cores := rfl
@[simp] theorem State.modServ_parts (s : State) (f : Serv → Serv) : (s.modServ f).parts = s.parts := rfl
@[simp] theorem State.modServ_mem (s : State) (f : Serv → Serv) : (s.modServ f).mem = s.mem := rfl
@[simp] theorem State.modServ_poison (s : State) (f : Serv → Serv) : (s.modServ f).poison = s.poison := rfl
@[simp] theorem State.modServ_hostMem (s : State) (f : Serv → Serv) : (s.modServ f).hostMem = s.hostMem := rfl
@[simp] theorem State.modServ_ms (s : State) (f : Serv → Serv) : (s.modServ f).ms = s.ms := rfl
@[simp] theorem State.modServ_tel (s : State) (f : Serv → Serv) : (s.modServ f).tel = s.tel := rfl
@[simp] theorem State.modServ_fab (s : State) (f : Serv → Serv) : (s.modServ f).fab = s.fab := rfl
@[simp] theorem State.modServ_sec (s : State) (f : Serv → Serv) : (s.modServ f).sec = s.sec := rfl
@[simp] theorem State.modServ_kci (s : State) (f : Serv → Serv) : (s.modServ f).kci = s.kci := rfl
@[simp] theorem State.modServ_pw (s : State) (f : Serv → Serv) : (s.modServ f).pw = s.pw := rfl
@[simp] theorem State.modServ_clk (s : State) (f : Serv → Serv) : (s.modServ f).clk = s.clk := rfl
@[simp] theorem State.modServ_th (s : State) (f : Serv → Serv) : (s.modServ f).th = s.th := rfl
@[simp] theorem State.modServ_serv (s : State) (f : Serv → Serv) : (s.modServ f).serv = f s.serv := rfl
@[simp] theorem State.modServ_snap (s : State) (f : Serv → Serv) : (s.modServ f).snap = s.snap := rfl
@[simp] theorem State.modServ_mg (s : State) (f : Serv → Serv) : (s.modServ f).mg = s.mg := rfl
@[simp] theorem State.modServ_rst (s : State) (f : Serv → Serv) : (s.modServ f).rst = s.rst := rfl
@[simp] theorem State.modServ_ts (s : State) (f : Serv → Serv) : (s.modServ f).ts = s.ts := rfl
@[simp] theorem State.modServ_readData (s : State) (f : Serv → Serv) : (s.modServ f).readData = s.readData := rfl
@[simp] theorem State.modServ_busStatus (s : State) (f : Serv → Serv) : (s.modServ f).busStatus = s.busStatus := rfl
@[simp] theorem State.modServ_freeCtr (s : State) (f : Serv → Serv) : (s.modServ f).freeCtr = s.freeCtr := rfl
@[simp] theorem State.modServ_pending (s : State) (f : Serv → Serv) : (s.modServ f).pending = s.pending := rfl

@[simp] theorem State.modSec_cores (s : State) (f : Sec → Sec) : (s.modSec f).cores = s.cores := rfl
@[simp] theorem State.modSec_parts (s : State) (f : Sec → Sec) : (s.modSec f).parts = s.parts := rfl
@[simp] theorem State.modSec_mem (s : State) (f : Sec → Sec) : (s.modSec f).mem = s.mem := rfl
@[simp] theorem State.modSec_poison (s : State) (f : Sec → Sec) : (s.modSec f).poison = s.poison := rfl
@[simp] theorem State.modSec_hostMem (s : State) (f : Sec → Sec) : (s.modSec f).hostMem = s.hostMem := rfl
@[simp] theorem State.modSec_ms (s : State) (f : Sec → Sec) : (s.modSec f).ms = s.ms := rfl
@[simp] theorem State.modSec_tel (s : State) (f : Sec → Sec) : (s.modSec f).tel = s.tel := rfl
@[simp] theorem State.modSec_fab (s : State) (f : Sec → Sec) : (s.modSec f).fab = s.fab := rfl
@[simp] theorem State.modSec_sec (s : State) (f : Sec → Sec) : (s.modSec f).sec = f s.sec := rfl
@[simp] theorem State.modSec_kci (s : State) (f : Sec → Sec) : (s.modSec f).kci = s.kci := rfl
@[simp] theorem State.modSec_pw (s : State) (f : Sec → Sec) : (s.modSec f).pw = s.pw := rfl
@[simp] theorem State.modSec_clk (s : State) (f : Sec → Sec) : (s.modSec f).clk = s.clk := rfl
@[simp] theorem State.modSec_th (s : State) (f : Sec → Sec) : (s.modSec f).th = s.th := rfl
@[simp] theorem State.modSec_serv (s : State) (f : Sec → Sec) : (s.modSec f).serv = s.serv := rfl
@[simp] theorem State.modSec_snap (s : State) (f : Sec → Sec) : (s.modSec f).snap = s.snap := rfl
@[simp] theorem State.modSec_mg (s : State) (f : Sec → Sec) : (s.modSec f).mg = s.mg := rfl
@[simp] theorem State.modSec_rst (s : State) (f : Sec → Sec) : (s.modSec f).rst = s.rst := rfl
@[simp] theorem State.modSec_ts (s : State) (f : Sec → Sec) : (s.modSec f).ts = s.ts := rfl
@[simp] theorem State.modSec_readData (s : State) (f : Sec → Sec) : (s.modSec f).readData = s.readData := rfl
@[simp] theorem State.modSec_busStatus (s : State) (f : Sec → Sec) : (s.modSec f).busStatus = s.busStatus := rfl
@[simp] theorem State.modSec_freeCtr (s : State) (f : Sec → Sec) : (s.modSec f).freeCtr = s.freeCtr := rfl
@[simp] theorem State.modSec_pending (s : State) (f : Sec → Sec) : (s.modSec f).pending = s.pending := rfl

@[simp] theorem State.modSb_cores (s : State) (f : Staging → Staging) : (s.modSb f).cores = s.cores := rfl
@[simp] theorem State.modSb_parts (s : State) (f : Staging → Staging) : (s.modSb f).parts = s.parts := rfl
@[simp] theorem State.modSb_mem (s : State) (f : Staging → Staging) : (s.modSb f).mem = s.mem := rfl
@[simp] theorem State.modSb_poison (s : State) (f : Staging → Staging) : (s.modSb f).poison = s.poison := rfl
@[simp] theorem State.modSb_hostMem (s : State) (f : Staging → Staging) : (s.modSb f).hostMem = s.hostMem := rfl
@[simp] theorem State.modSb_ms (s : State) (f : Staging → Staging) : (s.modSb f).ms = s.ms := rfl
@[simp] theorem State.modSb_tel (s : State) (f : Staging → Staging) : (s.modSb f).tel = s.tel := rfl
@[simp] theorem State.modSb_fab (s : State) (f : Staging → Staging) : (s.modSb f).fab = s.fab := rfl
@[simp] theorem State.modSb_kci (s : State) (f : Staging → Staging) : (s.modSb f).kci = s.kci := rfl
@[simp] theorem State.modSb_pw (s : State) (f : Staging → Staging) : (s.modSb f).pw = s.pw := rfl
@[simp] theorem State.modSb_clk (s : State) (f : Staging → Staging) : (s.modSb f).clk = s.clk := rfl
@[simp] theorem State.modSb_th (s : State) (f : Staging → Staging) : (s.modSb f).th = s.th := rfl
@[simp] theorem State.modSb_serv (s : State) (f : Staging → Staging) : (s.modSb f).serv = s.serv := rfl
@[simp] theorem State.modSb_snap (s : State) (f : Staging → Staging) : (s.modSb f).snap = s.snap := rfl
@[simp] theorem State.modSb_mg (s : State) (f : Staging → Staging) : (s.modSb f).mg = s.mg := rfl
@[simp] theorem State.modSb_rst (s : State) (f : Staging → Staging) : (s.modSb f).rst = s.rst := rfl
@[simp] theorem State.modSb_ts (s : State) (f : Staging → Staging) : (s.modSb f).ts = s.ts := rfl
@[simp] theorem State.modSb_readData (s : State) (f : Staging → Staging) : (s.modSb f).readData = s.readData := rfl
@[simp] theorem State.modSb_busStatus (s : State) (f : Staging → Staging) : (s.modSb f).busStatus = s.busStatus := rfl
@[simp] theorem State.modSb_freeCtr (s : State) (f : Staging → Staging) : (s.modSb f).freeCtr = s.freeCtr := rfl
@[simp] theorem State.modSb_pending (s : State) (f : Staging → Staging) : (s.modSb f).pending = s.pending := rfl

@[simp] theorem State.modMg_cores (s : State) (f : Mgmt → Mgmt) : (s.modMg f).cores = s.cores := rfl
@[simp] theorem State.modMg_parts (s : State) (f : Mgmt → Mgmt) : (s.modMg f).parts = s.parts := rfl
@[simp] theorem State.modMg_mem (s : State) (f : Mgmt → Mgmt) : (s.modMg f).mem = s.mem := rfl
@[simp] theorem State.modMg_poison (s : State) (f : Mgmt → Mgmt) : (s.modMg f).poison = s.poison := rfl
@[simp] theorem State.modMg_hostMem (s : State) (f : Mgmt → Mgmt) : (s.modMg f).hostMem = s.hostMem := rfl
@[simp] theorem State.modMg_ms (s : State) (f : Mgmt → Mgmt) : (s.modMg f).ms = s.ms := rfl
@[simp] theorem State.modMg_tel (s : State) (f : Mgmt → Mgmt) : (s.modMg f).tel = s.tel := rfl
@[simp] theorem State.modMg_fab (s : State) (f : Mgmt → Mgmt) : (s.modMg f).fab = s.fab := rfl
@[simp] theorem State.modMg_sec (s : State) (f : Mgmt → Mgmt) : (s.modMg f).sec = s.sec := rfl
@[simp] theorem State.modMg_kci (s : State) (f : Mgmt → Mgmt) : (s.modMg f).kci = s.kci := rfl
@[simp] theorem State.modMg_pw (s : State) (f : Mgmt → Mgmt) : (s.modMg f).pw = s.pw := rfl
@[simp] theorem State.modMg_clk (s : State) (f : Mgmt → Mgmt) : (s.modMg f).clk = s.clk := rfl
@[simp] theorem State.modMg_th (s : State) (f : Mgmt → Mgmt) : (s.modMg f).th = s.th := rfl
@[simp] theorem State.modMg_serv (s : State) (f : Mgmt → Mgmt) : (s.modMg f).serv = s.serv := rfl
@[simp] theorem State.modMg_snap (s : State) (f : Mgmt → Mgmt) : (s.modMg f).snap = s.snap := rfl
@[simp] theorem State.modMg_mg (s : State) (f : Mgmt → Mgmt) : (s.modMg f).mg = f s.mg := rfl
@[simp] theorem State.modMg_rst (s : State) (f : Mgmt → Mgmt) : (s.modMg f).rst = s.rst := rfl
@[simp] theorem State.modMg_ts (s : State) (f : Mgmt → Mgmt) : (s.modMg f).ts = s.ts := rfl
@[simp] theorem State.modMg_readData (s : State) (f : Mgmt → Mgmt) : (s.modMg f).readData = s.readData := rfl
@[simp] theorem State.modMg_busStatus (s : State) (f : Mgmt → Mgmt) : (s.modMg f).busStatus = s.busStatus := rfl
@[simp] theorem State.modMg_freeCtr (s : State) (f : Mgmt → Mgmt) : (s.modMg f).freeCtr = s.freeCtr := rfl
@[simp] theorem State.modMg_pending (s : State) (f : Mgmt → Mgmt) : (s.modMg f).pending = s.pending := rfl

@[simp] theorem State.modAgent_cores (s : State) (i : Fin 2) (f : Agent → Agent) : (s.modAgent i f).cores = s.cores := rfl
@[simp] theorem State.modAgent_parts (s : State) (i : Fin 2) (f : Agent → Agent) : (s.modAgent i f).parts = s.parts := rfl
@[simp] theorem State.modAgent_mem (s : State) (i : Fin 2) (f : Agent → Agent) : (s.modAgent i f).mem = s.mem := rfl
@[simp] theorem State.modAgent_poison (s : State) (i : Fin 2) (f : Agent → Agent) : (s.modAgent i f).poison = s.poison := rfl
@[simp] theorem State.modAgent_hostMem (s : State) (i : Fin 2) (f : Agent → Agent) : (s.modAgent i f).hostMem = s.hostMem := rfl
@[simp] theorem State.modAgent_ms (s : State) (i : Fin 2) (f : Agent → Agent) : (s.modAgent i f).ms = s.ms := rfl
@[simp] theorem State.modAgent_tel (s : State) (i : Fin 2) (f : Agent → Agent) : (s.modAgent i f).tel = s.tel := rfl
@[simp] theorem State.modAgent_fab (s : State) (i : Fin 2) (f : Agent → Agent) : (s.modAgent i f).fab = s.fab := rfl
@[simp] theorem State.modAgent_sec (s : State) (i : Fin 2) (f : Agent → Agent) : (s.modAgent i f).sec = s.sec := rfl
@[simp] theorem State.modAgent_kci (s : State) (i : Fin 2) (f : Agent → Agent) : (s.modAgent i f).kci = s.kci := rfl
@[simp] theorem State.modAgent_pw (s : State) (i : Fin 2) (f : Agent → Agent) : (s.modAgent i f).pw = s.pw := rfl
@[simp] theorem State.modAgent_clk (s : State) (i : Fin 2) (f : Agent → Agent) : (s.modAgent i f).clk = s.clk := rfl
@[simp] theorem State.modAgent_th (s : State) (i : Fin 2) (f : Agent → Agent) : (s.modAgent i f).th = s.th := rfl
@[simp] theorem State.modAgent_serv (s : State) (i : Fin 2) (f : Agent → Agent) : (s.modAgent i f).serv = s.serv := rfl
@[simp] theorem State.modAgent_snap (s : State) (i : Fin 2) (f : Agent → Agent) : (s.modAgent i f).snap = s.snap := rfl
@[simp] theorem State.modAgent_rst (s : State) (i : Fin 2) (f : Agent → Agent) : (s.modAgent i f).rst = s.rst := rfl
@[simp] theorem State.modAgent_ts (s : State) (i : Fin 2) (f : Agent → Agent) : (s.modAgent i f).ts = s.ts := rfl
@[simp] theorem State.modAgent_readData (s : State) (i : Fin 2) (f : Agent → Agent) : (s.modAgent i f).readData = s.readData := rfl
@[simp] theorem State.modAgent_busStatus (s : State) (i : Fin 2) (f : Agent → Agent) : (s.modAgent i f).busStatus = s.busStatus := rfl
@[simp] theorem State.modAgent_freeCtr (s : State) (i : Fin 2) (f : Agent → Agent) : (s.modAgent i f).freeCtr = s.freeCtr := rfl
@[simp] theorem State.modAgent_pending (s : State) (i : Fin 2) (f : Agent → Agent) : (s.modAgent i f).pending = s.pending := rfl

@[simp] theorem State.modRst_cores (s : State) (f : Rst → Rst) : (s.modRst f).cores = s.cores := rfl
@[simp] theorem State.modRst_parts (s : State) (f : Rst → Rst) : (s.modRst f).parts = s.parts := rfl
@[simp] theorem State.modRst_mem (s : State) (f : Rst → Rst) : (s.modRst f).mem = s.mem := rfl
@[simp] theorem State.modRst_poison (s : State) (f : Rst → Rst) : (s.modRst f).poison = s.poison := rfl
@[simp] theorem State.modRst_hostMem (s : State) (f : Rst → Rst) : (s.modRst f).hostMem = s.hostMem := rfl
@[simp] theorem State.modRst_ms (s : State) (f : Rst → Rst) : (s.modRst f).ms = s.ms := rfl
@[simp] theorem State.modRst_tel (s : State) (f : Rst → Rst) : (s.modRst f).tel = s.tel := rfl
@[simp] theorem State.modRst_fab (s : State) (f : Rst → Rst) : (s.modRst f).fab = s.fab := rfl
@[simp] theorem State.modRst_sec (s : State) (f : Rst → Rst) : (s.modRst f).sec = s.sec := rfl
@[simp] theorem State.modRst_kci (s : State) (f : Rst → Rst) : (s.modRst f).kci = s.kci := rfl
@[simp] theorem State.modRst_pw (s : State) (f : Rst → Rst) : (s.modRst f).pw = s.pw := rfl
@[simp] theorem State.modRst_clk (s : State) (f : Rst → Rst) : (s.modRst f).clk = s.clk := rfl
@[simp] theorem State.modRst_th (s : State) (f : Rst → Rst) : (s.modRst f).th = s.th := rfl
@[simp] theorem State.modRst_serv (s : State) (f : Rst → Rst) : (s.modRst f).serv = s.serv := rfl
@[simp] theorem State.modRst_snap (s : State) (f : Rst → Rst) : (s.modRst f).snap = s.snap := rfl
@[simp] theorem State.modRst_mg (s : State) (f : Rst → Rst) : (s.modRst f).mg = s.mg := rfl
@[simp] theorem State.modRst_rst (s : State) (f : Rst → Rst) : (s.modRst f).rst = f s.rst := rfl
@[simp] theorem State.modRst_ts (s : State) (f : Rst → Rst) : (s.modRst f).ts = s.ts := rfl
@[simp] theorem State.modRst_readData (s : State) (f : Rst → Rst) : (s.modRst f).readData = s.readData := rfl
@[simp] theorem State.modRst_busStatus (s : State) (f : Rst → Rst) : (s.modRst f).busStatus = s.busStatus := rfl
@[simp] theorem State.modRst_freeCtr (s : State) (f : Rst → Rst) : (s.modRst f).freeCtr = s.freeCtr := rfl
@[simp] theorem State.modRst_pending (s : State) (f : Rst → Rst) : (s.modRst f).pending = s.pending := rfl

@[simp] theorem State.modSnap_cores (s : State) (f : Snap → Snap) : (s.modSnap f).cores = s.cores := rfl
@[simp] theorem State.modSnap_parts (s : State) (f : Snap → Snap) : (s.modSnap f).parts = s.parts := rfl
@[simp] theorem State.modSnap_mem (s : State) (f : Snap → Snap) : (s.modSnap f).mem = s.mem := rfl
@[simp] theorem State.modSnap_poison (s : State) (f : Snap → Snap) : (s.modSnap f).poison = s.poison := rfl
@[simp] theorem State.modSnap_hostMem (s : State) (f : Snap → Snap) : (s.modSnap f).hostMem = s.hostMem := rfl
@[simp] theorem State.modSnap_ms (s : State) (f : Snap → Snap) : (s.modSnap f).ms = s.ms := rfl
@[simp] theorem State.modSnap_tel (s : State) (f : Snap → Snap) : (s.modSnap f).tel = s.tel := rfl
@[simp] theorem State.modSnap_fab (s : State) (f : Snap → Snap) : (s.modSnap f).fab = s.fab := rfl
@[simp] theorem State.modSnap_sec (s : State) (f : Snap → Snap) : (s.modSnap f).sec = s.sec := rfl
@[simp] theorem State.modSnap_kci (s : State) (f : Snap → Snap) : (s.modSnap f).kci = s.kci := rfl
@[simp] theorem State.modSnap_pw (s : State) (f : Snap → Snap) : (s.modSnap f).pw = s.pw := rfl
@[simp] theorem State.modSnap_clk (s : State) (f : Snap → Snap) : (s.modSnap f).clk = s.clk := rfl
@[simp] theorem State.modSnap_th (s : State) (f : Snap → Snap) : (s.modSnap f).th = s.th := rfl
@[simp] theorem State.modSnap_serv (s : State) (f : Snap → Snap) : (s.modSnap f).serv = s.serv := rfl
@[simp] theorem State.modSnap_snap (s : State) (f : Snap → Snap) : (s.modSnap f).snap = f s.snap := rfl
@[simp] theorem State.modSnap_mg (s : State) (f : Snap → Snap) : (s.modSnap f).mg = s.mg := rfl
@[simp] theorem State.modSnap_rst (s : State) (f : Snap → Snap) : (s.modSnap f).rst = s.rst := rfl
@[simp] theorem State.modSnap_ts (s : State) (f : Snap → Snap) : (s.modSnap f).ts = s.ts := rfl
@[simp] theorem State.modSnap_readData (s : State) (f : Snap → Snap) : (s.modSnap f).readData = s.readData := rfl
@[simp] theorem State.modSnap_busStatus (s : State) (f : Snap → Snap) : (s.modSnap f).busStatus = s.busStatus := rfl
@[simp] theorem State.modSnap_freeCtr (s : State) (f : Snap → Snap) : (s.modSnap f).freeCtr = s.freeCtr := rfl
@[simp] theorem State.modSnap_pending (s : State) (f : Snap → Snap) : (s.modSnap f).pending = s.pending := rfl

@[simp] theorem State.returns_cores (s : State) (bs : List Byte) : (s.returns bs).cores = s.cores := rfl
@[simp] theorem State.returns_parts (s : State) (bs : List Byte) : (s.returns bs).parts = s.parts := rfl
@[simp] theorem State.returns_mem (s : State) (bs : List Byte) : (s.returns bs).mem = s.mem := rfl
@[simp] theorem State.returns_poison (s : State) (bs : List Byte) : (s.returns bs).poison = s.poison := rfl
@[simp] theorem State.returns_hostMem (s : State) (bs : List Byte) : (s.returns bs).hostMem = s.hostMem := rfl
@[simp] theorem State.returns_ms (s : State) (bs : List Byte) : (s.returns bs).ms = s.ms := rfl
@[simp] theorem State.returns_tel (s : State) (bs : List Byte) : (s.returns bs).tel = s.tel := rfl
@[simp] theorem State.returns_fab (s : State) (bs : List Byte) : (s.returns bs).fab = s.fab := rfl
@[simp] theorem State.returns_sec (s : State) (bs : List Byte) : (s.returns bs).sec = s.sec := rfl
@[simp] theorem State.returns_kci (s : State) (bs : List Byte) : (s.returns bs).kci = s.kci := rfl
@[simp] theorem State.returns_pw (s : State) (bs : List Byte) : (s.returns bs).pw = s.pw := rfl
@[simp] theorem State.returns_clk (s : State) (bs : List Byte) : (s.returns bs).clk = s.clk := rfl
@[simp] theorem State.returns_th (s : State) (bs : List Byte) : (s.returns bs).th = s.th := rfl
@[simp] theorem State.returns_serv (s : State) (bs : List Byte) : (s.returns bs).serv = s.serv := rfl
@[simp] theorem State.returns_snap (s : State) (bs : List Byte) : (s.returns bs).snap = s.snap := rfl
@[simp] theorem State.returns_mg (s : State) (bs : List Byte) : (s.returns bs).mg = s.mg := rfl
@[simp] theorem State.returns_rst (s : State) (bs : List Byte) : (s.returns bs).rst = s.rst := rfl
@[simp] theorem State.returns_ts (s : State) (bs : List Byte) : (s.returns bs).ts = s.ts := rfl
@[simp] theorem State.returns_readData (s : State) (bs : List Byte) : (s.returns bs).readData = bs := rfl
@[simp] theorem State.returns_busStatus (s : State) (bs : List Byte) : (s.returns bs).busStatus = s.busStatus := rfl
@[simp] theorem State.returns_freeCtr (s : State) (bs : List Byte) : (s.returns bs).freeCtr = s.freeCtr := rfl
@[simp] theorem State.returns_pending (s : State) (bs : List Byte) : (s.returns bs).pending = s.pending := rfl

/-- A register file read back at the place written. -/
@[simp] theorem vget_vset_self {α : Type} {n : Nat} (v : Vector α n) (i : Fin n) (x : α) : vget (vset v i x) i = x := by
  simp [vget, vset]

/-- A register file read back at another place. -/
theorem vget_vset_of_ne {α : Type} {n : Nat} (v : Vector α n) (i j : Fin n) (x : α) (h : i ≠ j) :
    vget (vset v i x) j = vget v j := by
  have h' : i.val ≠ j.val := fun e => h (Fin.ext e)
  simp [vget, vset, Vector.getElem_set, h']

@[simp] theorem State.core_modCore (s : State) (c : Fin 96) (f : Core → Core) : (s.modCore c f).core c = f (s.core c) := by
  simp [State.core]

theorem State.core_modCore_of_ne (s : State) (c d : Fin 96) (f : Core → Core) (h : c ≠ d) :
    (s.modCore c f).core d = s.core d := by
  simp [State.core, vget_vset_of_ne _ _ _ _ h]

@[simp] theorem State.part_modPart (s : State) (p : Fin 12) (f : Part → Part) : (s.modPart p f).part p = f (s.part p) := by
  simp [State.part]

theorem State.part_modPart_of_ne (s : State) (p q : Fin 12) (f : Part → Part) (h : p ≠ q) :
    (s.modPart p f).part q = s.part q := by
  simp [State.part, vget_vset_of_ne _ _ _ _ h]

@[simp] theorem State.fn_modFn (s : State) (n : Fin 13) (f : Func → Func) : (s.modFn n f).fn n = f (s.fn n) := by
  simp [State.fn, State.modFn, vmod]

@[simp] theorem State.stk_modStk (s : State) (n : Fin 6) (f : Stack → Stack) : (s.modStk n f).stk n = f (s.stk n) := by
  simp [State.stk, State.modStk, vmod]

@[simp] theorem State.part_modCore (s : State) (c : Fin 96) (f : Core → Core) (p : Fin 12) :
    (s.modCore c f).part p = s.part p := rfl
@[simp] theorem State.core_modPart (s : State) (p : Fin 12) (f : Part → Part) (c : Fin 96) :
    (s.modPart p f).core c = s.core c := rfl
@[simp] theorem State.core_write (s : State) (a : Nat) (bs : List Byte) (po : Bool) (c : Fin 96) :
    (s.write a bs po).core c = s.core c := rfl
@[simp] theorem State.core_modPw (s : State) (f : Power → Power) (c : Fin 96) : (s.modPw f).core c = s.core c := rfl
@[simp] theorem State.core_modClk (s : State) (f : Clk → Clk) (c : Fin 96) : (s.modClk f).core c = s.core c := rfl
@[simp] theorem State.core_modKci (s : State) (f : Kci → Kci) (c : Fin 96) : (s.modKci f).core c = s.core c := rfl

end Sys2Proof.Machine
end

