-- ==== Sys2Proof/Laws/Closure.lean ====
section
/-! SUPPORT.  What the shared operations of step closure leave alone. -/

namespace Sys2Proof.Machine

@[simp] theorem modSlot_kci (s : State) (p : Fin 12) (i : Fin 2) (f : Slot → Slot) : (modSlot s p i f).kci = s.kci := rfl

theorem record_kci (s : State) (code part core : Nat) (body : List Byte) : (record s code part core body).kci = s.kci := by
  unfold record
  split <;> rfl

@[simp] theorem modSlot_ms (s : State) (p : Fin 12) (i : Fin 2) (f : Slot → Slot) : (modSlot s p i f).ms = s.ms := rfl

theorem record_ms (s : State) (code part core : Nat) (body : List Byte) : (record s code part core body).ms = s.ms := by
  unfold record
  split <;> rfl

/-- A change of a step's state touches its slot and the telemetry queue alone (R344). -/
theorem setStep_kci (s : State) (p : Fin 12) (i : Fin 2) (st : BitVec 4) : (setStep s p i st).kci = s.kci := by
  simp [setStep, record_kci]

/-- REDUCED changes nothing of the command interface (R344, R349). -/
theorem tryReduced_kci (s : State) (p : Fin 12) (i : Fin 2) : (tryReduced s p i).kci = s.kci := by
  unfold tryReduced
  dsimp only
  split
  · split
    · rfl
    · simp [setStep_kci]
  · rfl

/-- REDUCED changes nothing of the memory system (R344, R349). -/
theorem tryReduced_ms (s : State) (p : Fin 12) (i : Fin 2) : (tryReduced s p i).ms = s.ms := by
  unfold tryReduced
  dsimp only
  split
  · split
    · rfl
    · simp [setStep, record_ms]
  · rfl

/-- Whether control firmware runs is a matter of the command interface and of memory-step changes alone (R221, R268). -/
theorem fwRuns_congr {s t : State} (h : s.kci = t.kci) (m : s.ms = t.ms) : fwRuns s = fwRuns t := by
  simp [fwRuns, h, m]

end Sys2Proof.Machine
end

