-- ==== Sys2Proof/Laws/Exec.lean ====
section
/-! SUPPORT. One equation per arm of the dispatch, and what a step does with the queue. -/

namespace Sys2Proof.Machine

/-- A step with a waiting command runs it. -/
theorem step_cons (s : State) (c : Instr) (rest : List Instr) (h : s.pending = c :: rest) :
    step s = exec c { s with pending := rest } := by
  unfold step; rw [h]

/-- A step with an empty queue lets time pass. -/
theorem step_nil (s : State) (h : s.pending = []) : step s = .next (tick s) := by
  unfold step; rw [h]

theorem exec_kciCtrlEnable (f : Fin 13) (s : State) :
    exec (.kciCtrlEnable f) s = execKciCtrlEnable f s := rfl
theorem exec_functionLevelReset (f : Fin 13) (s : State) :
    exec (.functionLevelReset f) s = execFunctionLevelReset f s := rfl
theorem exec_sqTail (f : Fin 13) (r : Fin 32) (tail : BitVec 12) (entries : List (List Byte)) (s : State) :
    exec (.sqTail f r tail entries) s = execSqTail f r tail entries s := rfl
theorem exec_cqHead (f : Fin 13) (r : Fin 32) (head : BitVec 12) (s : State) :
    exec (.cqHead f r head) s = execCqHead f r head s := rfl
theorem exec_bar2Read (f : Fin 13) (x : BitVec 38) (n : Nat) (s : State) :
    exec (.bar2Read f x n) s = execBar2Read f x n s := rfl
theorem exec_bar2Write (f : Fin 13) (x : BitVec 38) (bs : List Byte) (s : State) :
    exec (.bar2Write f x bs) s = execBar2Write f x bs s := rfl
theorem exec_queueCreate (f : Fin 13) (r : Fin 32) (host : List (DWord × List Byte)) (s : State) :
    exec (.queueCreate f r host) s = execQueueCreate f r host s := rfl
theorem exec_queueDestroy (f : Fin 13) (r : Fin 32) (host : List (DWord × List Byte)) (s : State) :
    exec (.queueDestroy f r host) s = execQueueDestroy f r host s := rfl
theorem exec_devQuery (f : Fin 13) (r : Fin 32) (host : List (DWord × List Byte)) (s : State) :
    exec (.devQuery f r host) s = execDevQuery f r host s := rfl
theorem exec_devCaps (f : Fin 13) (r : Fin 32) (host : List (DWord × List Byte)) (s : State) :
    exec (.devCaps f r host) s = execDevCaps f r host s := rfl
theorem exec_partCreate (f : Fin 13) (r : Fin 32) (host : List (DWord × List Byte)) (s : State) :
    exec (.partCreate f r host) s = execPartCreate f r host s := rfl
theorem exec_partDestroy (f : Fin 13) (r : Fin 32) (host : List (DWord × List Byte)) (s : State) :
    exec (.partDestroy f r host) s = execPartDestroy f r host s := rfl
theorem exec_partAssignParcels (f : Fin 13) (r : Fin 32) (host : List (DWord × List Byte)) (s : State) :
    exec (.partAssignParcels f r host) s = execPartAssignParcels f r host s := rfl
theorem exec_platMap (f : Fin 13) (r : Fin 32) (host : List (DWord × List Byte)) (s : State) :
    exec (.platMap f r host) s = execPlatMap f r host s := rfl
theorem exec_platUnmap (f : Fin 13) (r : Fin 32) (host : List (DWord × List Byte)) (s : State) :
    exec (.platUnmap f r host) s = execPlatUnmap f r host s := rfl
theorem exec_memCopy (f : Fin 13) (r : Fin 32) (host : List (DWord × List Byte)) (s : State) :
    exec (.memCopy f r host) s = execMemCopy f r host s := rfl
theorem exec_memFill (f : Fin 13) (r : Fin 32) (host : List (DWord × List Byte)) (s : State) :
    exec (.memFill f r host) s = execMemFill f r host s := rfl
theorem exec_memScrub (f : Fin 13) (r : Fin 32) (host : List (DWord × List Byte)) (s : State) :
    exec (.memScrub f r host) s = execMemScrub f r host s := rfl
theorem exec_progLoad (f : Fin 13) (r : Fin 32) (host : List (DWord × List Byte)) (s : State) :
    exec (.progLoad f r host) s = execProgLoad f r host s := rfl
theorem exec_progStart (f : Fin 13) (r : Fin 32) (host : List (DWord × List Byte)) (s : State) :
    exec (.progStart f r host) s = execProgStart f r host s := rfl
theorem exec_progStop (f : Fin 13) (r : Fin 32) (host : List (DWord × List Byte)) (s : State) :
    exec (.progStop f r host) s = execProgStop f r host s := rfl
theorem exec_progStatus (f : Fin 13) (r : Fin 32) (host : List (DWord × List Byte)) (s : State) :
    exec (.progStatus f r host) s = execProgStatus f r host s := rfl
theorem exec_stepOpen (f : Fin 13) (r : Fin 32) (host : List (DWord × List Byte)) (s : State) :
    exec (.stepOpen f r host) s = execStepOpen f r host s := rfl
theorem exec_stepCloseRetry (f : Fin 13) (r : Fin 32) (host : List (DWord × List Byte)) (s : State) :
    exec (.stepCloseRetry f r host) s = execStepCloseRetry f r host s := rfl
theorem exec_stepCloseAbandon (f : Fin 13) (r : Fin 32) (host : List (DWord × List Byte)) (s : State) :
    exec (.stepCloseAbandon f r host) s = execStepCloseAbandon f r host s := rfl
theorem exec_stepCloseEval (f : Fin 13) (r : Fin 32) (host : List (DWord × List Byte)) (s : State) :
    exec (.stepCloseEval f r host) s = execStepCloseEval f r host s := rfl
theorem exec_stepPolicySet (f : Fin 13) (r : Fin 32) (host : List (DWord × List Byte)) (s : State) :
    exec (.stepPolicySet f r host) s = execStepPolicySet f r host s := rfl
theorem exec_stepRecordGet (f : Fin 13) (r : Fin 32) (host : List (DWord × List Byte)) (s : State) :
    exec (.stepRecordGet f r host) s = execStepRecordGet f r host s := rfl
theorem exec_updGroupSet (f : Fin 13) (r : Fin 32) (host : List (DWord × List Byte)) (s : State) :
    exec (.updGroupSet f r host) s = execUpdGroupSet f r host s := rfl
theorem exec_exportWorking (f : Fin 13) (r : Fin 32) (host : List (DWord × List Byte)) (s : State) :
    exec (.exportWorking f r host) s = execExportWorking f r host s := rfl
theorem exec_exportLogical (f : Fin 13) (r : Fin 32) (host : List (DWord × List Byte)) (s : State) :
    exec (.exportLogical f r host) s = execExportLogical f r host s := rfl
theorem exec_importState (f : Fin 13) (r : Fin 32) (host : List (DWord × List Byte)) (s : State) :
    exec (.importState f r host) s = execImportState f r host s := rfl
theorem exec_txnBegin (f : Fin 13) (r : Fin 32) (host : List (DWord × List Byte)) (s : State) :
    exec (.txnBegin f r host) s = execTxnBegin f r host s := rfl
theorem exec_txnCommit (f : Fin 13) (r : Fin 32) (host : List (DWord × List Byte)) (unit : Option Nat) (s : State) :
    exec (.txnCommit f r host unit) s = execTxnCommit f r host unit s := rfl
theorem exec_txnRollback (f : Fin 13) (r : Fin 32) (host : List (DWord × List Byte)) (s : State) :
    exec (.txnRollback f r host) s = execTxnRollback f r host s := rfl
theorem exec_txnTimeout (f : Fin 13) (s : State) :
    exec (.txnTimeout f) s = execTxnTimeout f s := rfl
theorem exec_txnSwitch (f : Fin 13) (s : State) :
    exec (.txnSwitch f) s = execTxnSwitch f s := rfl
theorem exec_txnVerifyReport (f : Fin 13) (fault : Option Nat) (s : State) :
    exec (.txnVerifyReport f fault) s = execTxnVerifyReport f fault s := rfl
theorem exec_txnRevert (f : Fin 13) (s : State) :
    exec (.txnRevert f) s = execTxnRevert f s := rfl
theorem exec_powerLimitSet (f : Fin 13) (r : Fin 32) (host : List (DWord × List Byte)) (s : State) :
    exec (.powerLimitSet f r host) s = execPowerLimitSet f r host s := rfl
theorem exec_pstepPolicySet (f : Fin 13) (r : Fin 32) (host : List (DWord × List Byte)) (s : State) :
    exec (.pstepPolicySet f r host) s = execPstepPolicySet f r host s := rfl
theorem exec_lattolSet (f : Fin 13) (r : Fin 32) (host : List (DWord × List Byte)) (s : State) :
    exec (.lattolSet f r host) s = execLattolSet f r host s := rfl
theorem exec_fabricConfigIdentity (f : Fin 13) (r : Fin 32) (host : List (DWord × List Byte)) (s : State) :
    exec (.fabricConfigIdentity f r host) s = execFabricConfigIdentity f r host s := rfl
theorem exec_fabricConfigJob (f : Fin 13) (r : Fin 32) (host : List (DWord × List Byte)) (s : State) :
    exec (.fabricConfigJob f r host) s = execFabricConfigJob f r host s := rfl
theorem exec_fabricConfigTimers (f : Fin 13) (r : Fin 32) (host : List (DWord × List Byte)) (s : State) :
    exec (.fabricConfigTimers f r host) s = execFabricConfigTimers f r host s := rfl
theorem exec_fabricConfigUplink (f : Fin 13) (r : Fin 32) (host : List (DWord × List Byte)) (s : State) :
    exec (.fabricConfigUplink f r host) s = execFabricConfigUplink f r host s := rfl
theorem exec_fabricConfigBarrier (f : Fin 13) (r : Fin 32) (host : List (DWord × List Byte)) (s : State) :
    exec (.fabricConfigBarrier f r host) s = execFabricConfigBarrier f r host s := rfl
theorem exec_fabricConfigStaging (f : Fin 13) (r : Fin 32) (host : List (DWord × List Byte)) (s : State) :
    exec (.fabricConfigStaging f r host) s = execFabricConfigStaging f r host s := rfl
theorem exec_fabricConfigPort (f : Fin 13) (r : Fin 32) (host : List (DWord × List Byte)) (s : State) :
    exec (.fabricConfigPort f r host) s = execFabricConfigPort f r host s := rfl
theorem exec_routeTableSet (f : Fin 13) (r : Fin 32) (host : List (DWord × List Byte)) (s : State) :
    exec (.routeTableSet f r host) s = execRouteTableSet f r host s := rfl
theorem exec_linkStatus (f : Fin 13) (r : Fin 32) (host : List (DWord × List Byte)) (s : State) :
    exec (.linkStatus f r host) s = execLinkStatus f r host s := rfl
theorem exec_testpackLoad (f : Fin 13) (r : Fin 32) (host : List (DWord × List Byte)) (s : State) :
    exec (.testpackLoad f r host) s = execTestpackLoad f r host s := rfl
theorem exec_testpackActivate (f : Fin 13) (r : Fin 32) (host : List (DWord × List Byte)) (s : State) :
    exec (.testpackActivate f r host) s = execTestpackActivate f r host s := rfl
theorem exec_obsLevelSet (f : Fin 13) (r : Fin 32) (host : List (DWord × List Byte)) (s : State) :
    exec (.obsLevelSet f r host) s = execObsLevelSet f r host s := rfl
theorem exec_coreRetire (f : Fin 13) (r : Fin 32) (host : List (DWord × List Byte)) (s : State) :
    exec (.coreRetire f r host) s = execCoreRetire f r host s := rfl
theorem exec_snapshotTake (f : Fin 13) (r : Fin 32) (host : List (DWord × List Byte)) (s : State) :
    exec (.snapshotTake f r host) s = execSnapshotTake f r host s := rfl
theorem exec_traceConfig (f : Fin 13) (r : Fin 32) (host : List (DWord × List Byte)) (s : State) :
    exec (.traceConfig f r host) s = execTraceConfig f r host s := rfl
theorem exec_counterRead (f : Fin 13) (r : Fin 32) (host : List (DWord × List Byte)) (s : State) :
    exec (.counterRead f r host) s = execCounterRead f r host s := rfl
theorem exec_timeSet (f : Fin 13) (r : Fin 32) (host : List (DWord × List Byte)) (s : State) :
    exec (.timeSet f r host) s = execTimeSet f r host s := rfl
theorem exec_timeGet (f : Fin 13) (r : Fin 32) (host : List (DWord × List Byte)) (s : State) :
    exec (.timeGet f r host) s = execTimeGet f r host s := rfl
theorem exec_deedClaim (f : Fin 13) (r : Fin 32) (host : List (DWord × List Byte)) (s : State) :
    exec (.deedClaim f r host) s = execDeedClaim f r host s := rfl
theorem exec_deedRelease (f : Fin 13) (r : Fin 32) (host : List (DWord × List Byte)) (s : State) :
    exec (.deedRelease f r host) s = execDeedRelease f r host s := rfl
theorem exec_deedQuery (f : Fin 13) (r : Fin 32) (host : List (DWord × List Byte)) (s : State) :
    exec (.deedQuery f r host) s = execDeedQuery f r host s := rfl
theorem exec_fwStage (f : Fin 13) (r : Fin 32) (host : List (DWord × List Byte)) (s : State) :
    exec (.fwStage f r host) s = execFwStage f r host s := rfl
theorem exec_fwActivate (f : Fin 13) (r : Fin 32) (host : List (DWord × List Byte)) (s : State) :
    exec (.fwActivate f r host) s = execFwActivate f r host s := rfl
theorem exec_keyPartSetLoad (f : Fin 13) (r : Fin 32) (host : List (DWord × List Byte)) (s : State) :
    exec (.keyPartSetLoad f r host) s = execKeyPartSetLoad f r host s := rfl
theorem exec_keyPartSetGenerate (f : Fin 13) (r : Fin 32) (host : List (DWord × List Byte)) (fail : Bool) (s : State) :
    exec (.keyPartSetGenerate f r host fail) s = execKeyPartSetGenerate f r host fail s := rfl
theorem exec_keyPartSetZeroise (f : Fin 13) (r : Fin 32) (host : List (DWord × List Byte)) (s : State) :
    exec (.keyPartSetZeroise f r host) s = execKeyPartSetZeroise f r host s := rfl
theorem exec_coreCtrlStart (c : Fin 96) (v : Word) (gap : Nat) (s : State) :
    exec (.coreCtrlStart c v gap) s = execCoreCtrlStart c v gap s := rfl
theorem exec_coreCtrlStop (c : Fin 96) (v : Word) (gap : Nat) (s : State) :
    exec (.coreCtrlStop c v gap) s = execCoreCtrlStop c v gap s := rfl
theorem exec_coreCtrlClrCounters (c : Fin 96) (v : Word) (gap : Nat) (s : State) :
    exec (.coreCtrlClrCounters c v gap) s = execCoreCtrlClrCounters c v gap s := rfl
theorem exec_coreStopped (c : Fin 96) (gap : Nat) (s : State) :
    exec (.coreStopped c gap) s = execCoreStopped c gap s := rfl
theorem exec_seqSignal (c : Fin 96) (n : Fin 64) (inc : BitVec 9) (gap : Nat) (s : State) :
    exec (.seqSignal c n inc gap) s = execSeqSignal c n inc gap s := rfl
theorem exec_stepTagWrite (c : Fin 96) (tag : Word) (gap : Nat) (s : State) :
    exec (.stepTagWrite c tag gap) s = execStepTagWrite c tag gap s := rfl
theorem exec_engCtrlStep (c : Fin 96) (e : Fin 10) (hold : Bool) (gap : Nat) (s : State) :
    exec (.engCtrlStep c e hold gap) s = execEngCtrlStep c e hold gap s := rfl
theorem exec_ologWptrWrite (c : Fin 96) (v : BitVec 20) (gap : Nat) (s : State) :
    exec (.ologWptrWrite c v gap) s = execOlogWptrWrite c v gap s := rfl
theorem exec_vxSeedHi (c : Fin 96) (hi : Word) (gap : Nat) (s : State) :
    exec (.vxSeedHi c hi gap) s = execVxSeedHi c hi gap s := rfl
theorem exec_edgeSeedHi (c : Fin 96) (hi : Word) (gap : Nat) (s : State) :
    exec (.edgeSeedHi c hi gap) s = execEdgeSeedHi c hi gap s := rfl
theorem exec_vxStateLo (c : Fin 96) (gap : Nat) (s : State) :
    exec (.vxStateLo c gap) s = execVxStateLo c gap s := rfl
theorem exec_edgeStateLo (c : Fin 96) (gap : Nat) (s : State) :
    exec (.edgeStateLo c gap) s = execEdgeStateLo c gap s := rfl
theorem exec_acLoRead (c : Fin 96) (b : Fin 11) (j : Fin 12) (gap : Nat) (s : State) :
    exec (.acLoRead c b j gap) s = execAcLoRead c b j gap s := rfl
theorem exec_clkLoRead (r : Fin 3) (s : State) :
    exec (.clkLoRead r) s = execClkLoRead r s := rfl
theorem exec_acCtrlSample (c : Fin 96) (gap : Nat) (s : State) :
    exec (.acCtrlSample c gap) s = execAcCtrlSample c gap s := rfl
theorem exec_acCtrlClear (c : Fin 96) (gap : Nat) (s : State) :
    exec (.acCtrlClear c gap) s = execAcCtrlClear c gap s := rfl
theorem exec_acSampleTick (s : State) :
    exec (.acSampleTick) s = execAcSampleTick s := rfl
theorem exec_fbCtrlEnable (c : Fin 96) (v : Word) (gap : Nat) (s : State) :
    exec (.fbCtrlEnable c v gap) s = execFbCtrlEnable c v gap s := rfl
theorem exec_fbCtrlTrigger (c : Fin 96) (v : Word) (gap : Nat) (s : State) :
    exec (.fbCtrlTrigger c v gap) s = execFbCtrlTrigger c v gap s := rfl
theorem exec_xcAttempt (p : Fin 12) (even : BitVec 4) (odd : BitVec 4) (s : State) :
    exec (.xcAttempt p even odd) s = execXcAttempt p even odd s := rfl
theorem exec_limCtrlCommit (w : Writer) (epoch : Word) (s : State) :
    exec (.limCtrlCommit w epoch) s = execLimCtrlCommit w epoch s := rfl
theorem exec_limitsApply (s : State) :
    exec (.limitsApply) s = execLimitsApply s := rfl
theorem exec_limFlush (w : Writer) (epoch : Word) (stop : Bool) (s : State) :
    exec (.limFlush w epoch stop) s = execLimFlush w epoch stop s := rfl
theorem exec_pcSns (n : Fin 8) (mask : BitVec 16) (s : State) :
    exec (.pcSns n mask) s = execPcSns n mask s := rfl
theorem exec_pointMaskApply (n : Fin 8) (s : State) :
    exec (.pointMaskApply n) s = execPointMaskApply n s := rfl
theorem exec_deedReqClaim (w : Writer) (r : Fin 5) (s : State) :
    exec (.deedReqClaim w r) s = execDeedReqClaim w r s := rfl
theorem exec_deedReqRelease (w : Writer) (r : Fin 5) (epoch : Word) (s : State) :
    exec (.deedReqRelease w r epoch) s = execDeedReqRelease w r epoch s := rfl
theorem exec_sbCtrlOpen (w : Writer) (epoch : Word) (comp : BitVec 8) (slot : BitVec 2) (s : State) :
    exec (.sbCtrlOpen w epoch comp slot) s = execSbCtrlOpen w epoch comp slot s := rfl
theorem exec_sbCtrlClose (w : Writer) (epoch : Word) (s : State) :
    exec (.sbCtrlClose w epoch) s = execSbCtrlClose w epoch s := rfl
theorem exec_sbCtrlActivate (w : Writer) (epoch : Word) (s : State) :
    exec (.sbCtrlActivate w epoch) s = execSbCtrlActivate w epoch s := rfl
theorem exec_sbCtrlCancel (w : Writer) (epoch : Word) (s : State) :
    exec (.sbCtrlCancel w epoch) s = execSbCtrlCancel w epoch s := rfl
theorem exec_sbHalfFull (w : Writer) (epoch : Word) (h : Fin 2) (len : BitVec 18) (s : State) :
    exec (.sbHalfFull w epoch h len) s = execSbHalfFull w epoch h len s := rfl
theorem exec_stageVerifyComplete (flash : Bool) (s : State) :
    exec (.stageVerifyComplete flash) s = execStageVerifyComplete flash s := rfl
theorem exec_registerWrite (at_ : RegAddr) (value : Word) (s : State) :
    exec (.registerWrite at_ value) s = execRegisterWrite at_ value s := rfl
theorem exec_seqDispatch (c : Fin 96) (gap : Nat) (s : State) :
    exec (.seqDispatch c gap) s = execSeqDispatch c gap s := rfl
theorem exec_nop (c : Fin 96) (gap : Nat) (s : State) :
    exec (.nop c gap) s = execNop c gap s := rfl
theorem exec_loop (c : Fin 96) (gap : Nat) (s : State) :
    exec (.loop c gap) s = execLoop c gap s := rfl
theorem exec_halt (c : Fin 96) (gap : Nat) (s : State) :
    exec (.halt c gap) s = execHalt c gap s := rfl
theorem exec_load (c : Fin 96) (gap : Nat) (s : State) :
    exec (.load c gap) s = execLoad c gap s := rfl
theorem exec_fill (c : Fin 96) (gap : Nat) (s : State) :
    exec (.fill c gap) s = execFill c gap s := rfl
theorem exec_store (c : Fin 96) (gap : Nat) (s : State) :
    exec (.store c gap) s = execStore c gap s := rfl
theorem exec_gather (c : Fin 96) (gap : Nat) (s : State) :
    exec (.gather c gap) s = execGather c gap s := rfl
theorem exec_scatter (c : Fin 96) (gap : Nat) (s : State) :
    exec (.scatter c gap) s = execScatter c gap s := rfl
theorem exec_scatterAdd (c : Fin 96) (gap : Nat) (s : State) :
    exec (.scatterAdd c gap) s = execScatterAdd c gap s := rfl
theorem exec_csrExpand (c : Fin 96) (gap : Nat) (s : State) :
    exec (.csrExpand c gap) s = execCsrExpand c gap s := rfl
theorem exec_put (c : Fin 96) (gap : Nat) (s : State) :
    exec (.put c gap) s = execPut c gap s := rfl
theorem exec_redPut (c : Fin 96) (gap : Nat) (s : State) :
    exec (.redPut c gap) s = execRedPut c gap s := rfl
theorem exec_mcast (c : Fin 96) (gap : Nat) (s : State) :
    exec (.mcast c gap) s = execMcast c gap s := rfl
theorem exec_dispatch (c : Fin 96) (gap : Nat) (s : State) :
    exec (.dispatch c gap) s = execDispatch c gap s := rfl
theorem exec_combine (c : Fin 96) (gap : Nat) (s : State) :
    exec (.combine c gap) s = execCombine c gap s := rfl
theorem exec_expect (c : Fin 96) (gap : Nat) (s : State) :
    exec (.expect c gap) s = execExpect c gap s := rfl
theorem exec_redExpect (c : Fin 96) (gap : Nat) (s : State) :
    exec (.redExpect c gap) s = execRedExpect c gap s := rfl
theorem exec_tokenRecv (c : Fin 96) (gap : Nat) (s : State) :
    exec (.tokenRecv c gap) s = execTokenRecv c gap s := rfl
theorem exec_combineRecv (c : Fin 96) (gap : Nat) (s : State) :
    exec (.combineRecv c gap) s = execCombineRecv c gap s := rfl
theorem exec_mmul (c : Fin 96) (gap : Nat) (s : State) :
    exec (.mmul c gap) s = execMmul c gap s := rfl
theorem exec_cvt (c : Fin 96) (gap : Nat) (s : State) :
    exec (.cvt c gap) s = execCvt c gap s := rfl
theorem exec_mvmul (c : Fin 96) (gap : Nat) (s : State) :
    exec (.mvmul c gap) s = execMvmul c gap s := rfl
theorem exec_ringSet (c : Fin 96) (gap : Nat) (s : State) :
    exec (.ringSet c gap) s = execRingSet c gap s := rfl
theorem exec_add (c : Fin 96) (gap : Nat) (s : State) :
    exec (.add c gap) s = execAdd c gap s := rfl
theorem exec_sub (c : Fin 96) (gap : Nat) (s : State) :
    exec (.sub c gap) s = execSub c gap s := rfl
theorem exec_mul (c : Fin 96) (gap : Nat) (s : State) :
    exec (.mul c gap) s = execMul c gap s := rfl
theorem exec_fma (c : Fin 96) (gap : Nat) (s : State) :
    exec (.fma c gap) s = execFma c gap s := rfl
theorem exec_div (c : Fin 96) (gap : Nat) (s : State) :
    exec (.div c gap) s = execDiv c gap s := rfl
theorem exec_min (c : Fin 96) (gap : Nat) (s : State) :
    exec (.min c gap) s = execMin c gap s := rfl
theorem exec_max (c : Fin 96) (gap : Nat) (s : State) :
    exec (.max c gap) s = execMax c gap s := rfl
theorem exec_abs (c : Fin 96) (gap : Nat) (s : State) :
    exec (.abs c gap) s = execAbs c gap s := rfl
theorem exec_neg (c : Fin 96) (gap : Nat) (s : State) :
    exec (.neg c gap) s = execNeg c gap s := rfl
theorem exec_sqrt (c : Fin 96) (gap : Nat) (s : State) :
    exec (.sqrt c gap) s = execSqrt c gap s := rfl
theorem exec_copy (c : Fin 96) (gap : Nat) (s : State) :
    exec (.copy c gap) s = execCopy c gap s := rfl
theorem exec_sfu (c : Fin 96) (gap : Nat) (s : State) :
    exec (.sfu c gap) s = execSfu c gap s := rfl
theorem exec_dropout (c : Fin 96) (gap : Nat) (s : State) :
    exec (.dropout c gap) s = execDropout c gap s := rfl
theorem exec_randU (c : Fin 96) (gap : Nat) (s : State) :
    exec (.randU c gap) s = execRandU c gap s := rfl
theorem exec_iadd (c : Fin 96) (gap : Nat) (s : State) :
    exec (.iadd c gap) s = execIadd c gap s := rfl
theorem exec_isub (c : Fin 96) (gap : Nat) (s : State) :
    exec (.isub c gap) s = execIsub c gap s := rfl
theorem exec_imin (c : Fin 96) (gap : Nat) (s : State) :
    exec (.imin c gap) s = execImin c gap s := rfl
theorem exec_imax (c : Fin 96) (gap : Nat) (s : State) :
    exec (.imax c gap) s = execImax c gap s := rfl
theorem exec_and (c : Fin 96) (gap : Nat) (s : State) :
    exec (.and c gap) s = execAnd c gap s := rfl
theorem exec_or (c : Fin 96) (gap : Nat) (s : State) :
    exec (.or c gap) s = execOr c gap s := rfl
theorem exec_xor (c : Fin 96) (gap : Nat) (s : State) :
    exec (.xor c gap) s = execXor c gap s := rfl
theorem exec_softmax (c : Fin 96) (gap : Nat) (s : State) :
    exec (.softmax c gap) s = execSoftmax c gap s := rfl
theorem exec_lnorm (c : Fin 96) (gap : Nat) (s : State) :
    exec (.lnorm c gap) s = execLnorm c gap s := rfl
theorem exec_rmsnorm (c : Fin 96) (gap : Nat) (s : State) :
    exec (.rmsnorm c gap) s = execRmsnorm c gap s := rfl
theorem exec_osmUpdate (c : Fin 96) (gap : Nat) (s : State) :
    exec (.osmUpdate c gap) s = execOsmUpdate c gap s := rfl
theorem exec_osmFinal (c : Fin 96) (gap : Nat) (s : State) :
    exec (.osmFinal c gap) s = execOsmFinal c gap s := rfl
theorem exec_rsum (c : Fin 96) (gap : Nat) (s : State) :
    exec (.rsum c gap) s = execRsum c gap s := rfl
theorem exec_rmax (c : Fin 96) (gap : Nat) (s : State) :
    exec (.rmax c gap) s = execRmax c gap s := rfl
theorem exec_vld (c : Fin 96) (gap : Nat) (s : State) :
    exec (.vld c gap) s = execVld c gap s := rfl
theorem exec_vst (c : Fin 96) (gap : Nat) (s : State) :
    exec (.vst c gap) s = execVst c gap s := rfl
theorem exec_updApply (c : Fin 96) (gap : Nat) (s : State) :
    exec (.updApply c gap) s = execUpdApply c gap s := rfl
theorem exec_updNorm (c : Fin 96) (gap : Nat) (s : State) :
    exec (.updNorm c gap) s = execUpdNorm c gap s := rfl
theorem exec_updWcopy (c : Fin 96) (gap : Nat) (s : State) :
    exec (.updWcopy c gap) s = execUpdWcopy c gap s := rfl
theorem exec_sort (c : Fin 96) (gap : Nat) (s : State) :
    exec (.sort c gap) s = execSort c gap s := rfl
theorem exec_merge (c : Fin 96) (gap : Nat) (s : State) :
    exec (.merge c gap) s = execMerge c gap s := rfl
theorem exec_union (c : Fin 96) (gap : Nat) (s : State) :
    exec (.union c gap) s = execUnion c gap s := rfl
theorem exec_intersect (c : Fin 96) (gap : Nat) (s : State) :
    exec (.intersect c gap) s = execIntersect c gap s := rfl
theorem exec_unique (c : Fin 96) (gap : Nat) (s : State) :
    exec (.unique c gap) s = execUnique c gap s := rfl
theorem exec_topk (c : Fin 96) (gap : Nat) (s : State) :
    exec (.topk c gap) s = execTopk c gap s := rfl
theorem exec_segment (c : Fin 96) (gap : Nat) (s : State) :
    exec (.segment c gap) s = execSegment c gap s := rfl
theorem exec_hist (c : Fin 96) (gap : Nat) (s : State) :
    exec (.hist c gap) s = execHist c gap s := rfl
theorem exec_instructionComplete (c : Fin 96) (e : Fin 10) (gap : Nat) (s : State) :
    exec (.instructionComplete c e gap) s = execInstructionComplete c e gap s := rfl
theorem exec_instructionFault (c : Fin 96) (e : Fin 10) (k : Nat) (code : BitVec 8) (gap : Nat) (s : State) :
    exec (.instructionFault c e k code gap) s = execInstructionFault c e k code gap s := rfl
theorem exec_stackRequest (src : Source) (a : BitVec 48) (write : Option (List Byte)) (n : Nat) (errs : List (BitVec 48 × Nat × EccErr)) (s : State) :
    exec (.stackRequest src a write n errs) s = execStackRequest src a write n errs s := rfl
theorem exec_rowRepairComplete (n : Fin 6) (done : Bool) (s : State) :
    exec (.rowRepairComplete n done) s = execRowRepairComplete n done s := rfl
theorem exec_sparingComplete (n : Fin 6) (s : State) :
    exec (.sparingComplete n) s = execSparingComplete n s := rfl
theorem exec_patrolScrub (n : Fin 6) (errs : List (BitVec 48 × Nat × EccErr)) (pass : Bool) (s : State) :
    exec (.patrolScrub n errs pass) s = execPatrolScrub n errs pass s := rfl
theorem exec_stackTempRead (n : Fin 6) (t : BitVec 8) (s : State) :
    exec (.stackTempRead n t) s = execStackTempRead n t s := rfl
theorem exec_tempStale (n : Fin 6) (s : State) :
    exec (.tempStale n) s = execTempStale n s := rfl
theorem exec_memoryStepChange (s : State) :
    exec (.memoryStepChange) s = execMemoryStepChange s := rfl
theorem exec_memoryStepDone (s : State) :
    exec (.memoryStepDone) s = execMemoryStepDone s := rfl
theorem exec_mstepAutoDecision (delivered : List Nat) (admitted : List Nat) (s : State) :
    exec (.mstepAutoDecision delivered admitted) s = execMstepAutoDecision delivered admitted s := rfl
theorem exec_platApply (s : State) :
    exec (.platApply) s = execPlatApply s := rfl
theorem exec_partitionMapApply (s : State) :
    exec (.partitionMapApply) s = execPartitionMapApply s := rfl
theorem exec_routeTableApply (s : State) :
    exec (.routeTableApply) s = execRouteTableApply s := rfl
theorem exec_portTrained (n : Fin 8) (peer : Option (BitVec 16)) (s : State) :
    exec (.portTrained n peer) s = execPortTrained n peer s := rfl
theorem exec_codewordReceive (n : Fin 6) (count : BitVec 6) (good : Bool) (corrected : Bool) (flits : List (List Byte)) (s : State) :
    exec (.codewordReceive n count good corrected flits) s = execCodewordReceive n count good corrected flits s := rfl
theorem exec_linkControlFlit (n : Fin 6) (ack : BitVec 6) (nak : Option (BitVec 6)) (hs : BitVec 8) (hsAt : BitVec 6) (lanes : BitVec 4) (dev : BitVec 16) (credits : List (BitVec 16)) (s : State) :
    exec (.linkControlFlit n ack nak hs hsAt lanes dev credits) s = execLinkControlFlit n ack nak hs hsAt lanes dev credits s := rfl
theorem exec_linkRetrainDone (n : Fin 6) (ok : Bool) (s : State) :
    exec (.linkRetrainDone n ok) s = execLinkRetrainDone n ok s := rfl
theorem exec_laneFault (n : Fin 6) (lane : Fin 4) (s : State) :
    exec (.laneFault n lane) s = execLaneFault n lane s := rfl
theorem exec_handshakeSwitch (n : Fin 6) (s : State) :
    exec (.handshakeSwitch n) s = execHandshakeSwitch n s := rfl
theorem exec_laneRetrained (n : Fin 6) (s : State) :
    exec (.laneRetrained n) s = execLaneRetrained n s := rfl
theorem exec_partnerSilence (n : Fin 6) (s : State) :
    exec (.partnerSilence n) s = execPartnerSilence n s := rfl
theorem exec_portIdleTwoLane (n : Fin 6) (s : State) :
    exec (.portIdleTwoLane n) s = execPortIdleTwoLane n s := rfl
theorem exec_messageForward (i0 : Nat) (s : State) :
    exec (.messageForward i0) s = execMessageForward i0 s := rfl
theorem exec_noRouteHold (i0 : Nat) (s : State) :
    exec (.noRouteHold i0) s = execNoRouteHold i0 s := rfl
theorem exec_putMessage (m : Msg) (s : State) :
    exec (.putMessage m) s = execPutMessage m s := rfl
theorem exec_redPutMessage (m : Msg) (s : State) :
    exec (.redPutMessage m) s = execRedPutMessage m s := rfl
theorem exec_mcastMessage (port : Fin 6) (m : Msg) (s : State) :
    exec (.mcastMessage port m) s = execMcastMessage port m s := rfl
theorem exec_dispatchMessage (m : Msg) (s : State) :
    exec (.dispatchMessage m) s = execDispatchMessage m s := rfl
theorem exec_combineMessage (m : Msg) (s : State) :
    exec (.combineMessage m) s = execCombineMessage m s := rfl
theorem exec_ackMessage (m : Msg) (s : State) :
    exec (.ackMessage m) s = execAckMessage m s := rfl
theorem exec_refuseMessage (m : Msg) (s : State) :
    exec (.refuseMessage m) s = execRefuseMessage m s := rfl
theorem exec_barArriveMessage (port : Fin 9) (m : Msg) (s : State) :
    exec (.barArriveMessage port m) s = execBarArriveMessage port m s := rfl
theorem exec_barReleaseMessage (port : Fin 9) (m : Msg) (s : State) :
    exec (.barReleaseMessage port m) s = execBarReleaseMessage port m s := rfl
theorem exec_barrierArriveLocal (i0 : Fin 16) (gen : BitVec 16) (s : State) :
    exec (.barrierArriveLocal i0 gen) s = execBarrierArriveLocal i0 gen s := rfl
theorem exec_barTimeout (i0 : Fin 16) (s : State) :
    exec (.barTimeout i0) s = execBarTimeout i0 s := rfl
theorem exec_ethernetFrameReceive (u : Fin 2) (payload : FrameIn) (s : State) :
    exec (.ethernetFrameReceive u payload) s = execEthernetFrameReceive u payload s := rfl
theorem exec_pfcFrame (u : Fin 2) (prio : BitVec 3) (xoff : Bool) (s : State) :
    exec (.pfcFrame u prio xoff) s = execPfcFrame u prio xoff s := rfl
theorem exec_pauseFrame (u : Fin 2) (s : State) :
    exec (.pauseFrame u) s = execPauseFrame u s := rfl
theorem exec_groupComplete (c : Fin 96) (group : BitVec 12) (gap : Nat) (s : State) :
    exec (.groupComplete c group gap) s = execGroupComplete c group gap s := rfl
theorem exec_gapTimeout (c : Fin 96) (group : BitVec 12) (gap : Nat) (s : State) :
    exec (.gapTimeout c group gap) s = execGapTimeout c group gap s := rfl
theorem exec_resendTimeout (i0 : Nat) (s : State) :
    exec (.resendTimeout i0) s = execResendTimeout i0 s := rfl
theorem exec_doneSignal (c : Fin 96) (s : State) :
    exec (.doneSignal c) s = execDoneSignal c s := rfl
theorem exec_digestComplete (p : Fin 12) (s : State) :
    exec (.digestComplete p) s = execDigestComplete p s := rfl
theorem exec_buddyHalt (b : Fin 96) (s : State) :
    exec (.buddyHalt b) s = execBuddyHalt b s := rfl
theorem exec_suspectTimeout (c : Fin 96) (s : State) :
    exec (.suspectTimeout c) s = execSuspectTimeout c s := rfl
theorem exec_mailboxPoll (p : Fin 12) (s : State) :
    exec (.mailboxPoll p) s = execMailboxPoll p s := rfl
theorem exec_closeTimeout (p : Fin 12) (s : State) :
    exec (.closeTimeout p) s = execCloseTimeout p s := rfl
theorem exec_updDoneSignal (c : Fin 96) (s : State) :
    exec (.updDoneSignal c) s = execUpdDoneSignal c s := rfl
theorem exec_evalDoneSignal (c : Fin 96) (s : State) :
    exec (.evalDoneSignal c) s = execEvalDoneSignal c s := rfl
theorem exec_fpDigestDone (p : Fin 12) (s : State) :
    exec (.fpDigestDone p) s = execFpDigestDone p s := rfl
theorem exec_fpRootsComplete (p : Fin 12) (s : State) :
    exec (.fpRootsComplete p) s = execFpRootsComplete p s := rfl
theorem exec_fpBlockReceived (p : Fin 12) (b : Nat) (s : State) :
    exec (.fpBlockReceived p b) s = execFpBlockReceived p b s := rfl
theorem exec_fpTimeout (p : Fin 12) (s : State) :
    exec (.fpTimeout p) s = execFpTimeout p s := rfl
theorem exec_roundOpen (c : Fin 96) (s : State) :
    exec (.roundOpen c) s = execRoundOpen c s := rfl
theorem exec_kernelLaunch (c : Fin 96) (s : State) :
    exec (.kernelLaunch c) s = execKernelLaunch c s := rfl
theorem exec_kernelSetHeld (c : Fin 96) (s : State) :
    exec (.kernelSetHeld c) s = execKernelSetHeld c s := rfl
theorem exec_setAcquireTimeout (c : Fin 96) (s : State) :
    exec (.setAcquireTimeout c) s = execSetAcquireTimeout c s := rfl
theorem exec_kernelHalt (c : Fin 96) (result : Option DWord) (s : State) :
    exec (.kernelHalt c result) s = execKernelHalt c result s := rfl
theorem exec_kernelOverrun (c : Fin 96) (s : State) :
    exec (.kernelOverrun c) s = execKernelOverrun c s := rfl
theorem exec_roundDue (c : Fin 96) (s : State) :
    exec (.roundDue c) s = execRoundDue c s := rfl
theorem exec_forcedKernelResume (c : Fin 96) (s : State) :
    exec (.forcedKernelResume c) s = execForcedKernelResume c s := rfl
theorem exec_loopbackSuspendEnd (s : State) :
    exec (.loopbackSuspendEnd) s = execLoopbackSuspendEnd s := rfl
theorem exec_quarHoldExpiry (c : Fin 96) (s : State) :
    exec (.quarHoldExpiry c) s = execQuarHoldExpiry c s := rfl
theorem exec_failWindowExpiry (c : Fin 96) (s : State) :
    exec (.failWindowExpiry c) s = execFailWindowExpiry c s := rfl
theorem exec_estimatorTick (rails : List Nat) (matrix : Nat) (demand : List Nat) (slots : List (Fin 96 × Nat × Nat × Nat × Nat)) (s : State) :
    exec (.estimatorTick rails matrix demand slots) s = execEstimatorTick rails matrix demand slots s := rfl
theorem exec_easementLoan (c : Fin 96) (s : State) :
    exec (.easementLoan c) s = execEasementLoan c s := rfl
theorem exec_powerDecision (dyn : Nat) (sram : Nat) (other : Nat) (leak : Nat) (s : State) :
    exec (.powerDecision dyn sram other leak) s = execPowerDecision dyn sram other leak s := rfl
theorem exec_tjLoop (temps : List (BitVec 11)) (s : State) :
    exec (.tjLoop temps) s = execTjLoop temps s := rfl
theorem exec_powerFallback (dyn : Nat) (sram : Nat) (other : Nat) (leak : Nat) (s : State) :
    exec (.powerFallback dyn sram other leak) s = execPowerFallback dyn sram other leak s := rfl
theorem exec_calibrationTick (est : List Nat) (s : State) :
    exec (.calibrationTick est) s = execCalibrationTick est s := rfl
theorem exec_voltageCorrection (lowest : Nat) (s : State) :
    exec (.voltageCorrection lowest) s = execVoltageCorrection lowest s := rfl
theorem exec_pmbusPoll (reads : List (Option (Nat × Nat × Nat))) (s : State) :
    exec (.pmbusPoll reads) s = execPmbusPoll reads s := rfl
theorem exec_avsWriteTimeout (bus : Fin 4) (sel : Fin 16) (s : State) :
    exec (.avsWriteTimeout bus sel) s = execAvsWriteTimeout bus sel s := rfl
theorem exec_droopTrip (d : Fin 24) (mv : Nat) (cycles : Nat) (s : State) :
    exec (.droopTrip d mv cycles) s = execDroopTrip d mv cycles s := rfl
theorem exec_pstepRaise (lowest : Nat) (s : State) :
    exec (.pstepRaise lowest) s = execPstepRaise lowest s := rfl
theorem exec_pstepVerify (first : Nat) (second : Nat) (s : State) :
    exec (.pstepVerify first second) s = execPstepVerify first second s := rfl
theorem exec_pstepSwitch (s : State) :
    exec (.pstepSwitch) s = execPstepSwitch s := rfl
theorem exec_pstepAbort (s : State) :
    exec (.pstepAbort) s = execPstepAbort s := rfl
theorem exec_wStateEntry (blocked : Bool) (s : State) :
    exec (.wStateEntry blocked) s = execWStateEntry blocked s := rfl
theorem exec_wake (cause : Fin 6) (s : State) :
    exec (.wake cause) s = execWake cause s := rfl
theorem exec_wStateExitDone (s : State) :
    exec (.wStateExitDone) s = execWStateExitDone s := rfl
theorem exec_jitterAlarm (m : Option (Fin 12)) (s : State) :
    exec (.jitterAlarm m) s = execJitterAlarm m s := rfl
theorem exec_dutyAlarmEscalate (m : Fin 12) (s : State) :
    exec (.dutyAlarmEscalate m) s = execDutyAlarmEscalate m s := rfl
theorem exec_relockCheck (count : Nat) (s : State) :
    exec (.relockCheck count) s = execRelockCheck count s := rfl
theorem exec_relockRelease (s : State) :
    exec (.relockRelease) s = execRelockRelease s := rfl
theorem exec_sensorFailed (i0 : Fin 112) (s : State) :
    exec (.sensorFailed i0) s = execSensorFailed i0 s := rfl
theorem exec_tjWarn (s : State) :
    exec (.tjWarn) s = execTjWarn s := rfl
theorem exec_thermtrip (i0 : Fin 112) (s : State) :
    exec (.thermtrip i0) s = execThermtrip i0 s := rfl
theorem exec_keepWarmTick (s : State) :
    exec (.keepWarmTick) s = execKeepWarmTick s := rfl
theorem exec_agentHeartbeat (i0 : Fin 2) (s : State) :
    exec (.agentHeartbeat i0) s = execAgentHeartbeat i0 s := rfl
theorem exec_agentClaimTimer (i0 : Fin 2) (s : State) :
    exec (.agentClaimTimer i0) s = execAgentClaimTimer i0 s := rfl
theorem exec_thermalReleaseTimer (s : State) :
    exec (.thermalReleaseTimer) s = execThermalReleaseTimer s := rfl
theorem exec_fwStageIdleTimeout (s : State) :
    exec (.fwStageIdleTimeout) s = execFwStageIdleTimeout s := rfl
theorem exec_setdasa (stat : BitVec 7) (dyn : BitVec 7) (s : State) :
    exec (.setdasa stat dyn) s = execSetdasa stat dyn s := rfl
theorem exec_setEndpointId (ep : Fin 3) (eid : BitVec 8) (s : State) :
    exec (.setEndpointId ep eid) s = execSetEndpointId ep eid s := rfl
theorem exec_getEndpointId (ep : Fin 3) (s : State) :
    exec (.getEndpointId ep) s = execGetEndpointId ep s := rfl
theorem exec_getEndpointUuid (ep : Fin 3) (s : State) :
    exec (.getEndpointUuid ep) s = execGetEndpointUuid ep s := rfl
theorem exec_getMctpVersionSupport (ep : Fin 3) (type : BitVec 8) (s : State) :
    exec (.getMctpVersionSupport ep type) s = execGetMctpVersionSupport ep type s := rfl
theorem exec_getMessageTypeSupport (ep : Fin 3) (s : State) :
    exec (.getMessageTypeSupport ep) s = execGetMessageTypeSupport ep s := rfl
theorem exec_getTid (ep : Fin 3) (s : State) :
    exec (.getTid ep) s = execGetTid ep s := rfl
theorem exec_getPldmVersion (ep : Fin 3) (type : BitVec 8) (s : State) :
    exec (.getPldmVersion ep type) s = execGetPldmVersion ep type s := rfl
theorem exec_getPldmTypes (ep : Fin 3) (s : State) :
    exec (.getPldmTypes ep) s = execGetPldmTypes ep s := rfl
theorem exec_getPldmCommands (ep : Fin 3) (type : BitVec 8) (s : State) :
    exec (.getPldmCommands ep type) s = execGetPldmCommands ep type s := rfl
theorem exec_getPdr (ep : Fin 3) (handle : Nat) (s : State) :
    exec (.getPdr ep handle) s = execGetPdr ep handle s := rfl
theorem exec_getSensorReading (ep : Fin 3) (id : BitVec 16) (s : State) :
    exec (.getSensorReading ep id) s = execGetSensorReading ep id s := rfl
theorem exec_getStateSensorReadings (ep : Fin 3) (id : BitVec 16) (s : State) :
    exec (.getStateSensorReadings ep id) s = execGetStateSensorReadings ep id s := rfl
theorem exec_setNumericEffecterValue (ep : Fin 3) (id : BitVec 16) (v : Nat) (s : State) :
    exec (.setNumericEffecterValue ep id v) s = execSetNumericEffecterValue ep id v s := rfl
theorem exec_getNumericEffecterValue (ep : Fin 3) (id : BitVec 16) (s : State) :
    exec (.getNumericEffecterValue ep id) s = execGetNumericEffecterValue ep id s := rfl
theorem exec_setEventReceiver (ep : Fin 3) (eid : BitVec 8) (s : State) :
    exec (.setEventReceiver ep eid) s = execSetEventReceiver ep eid s := rfl
theorem exec_platformEventAck (n : Fin 8) (s : State) :
    exec (.platformEventAck n) s = execPlatformEventAck n s := rfl
theorem exec_queryDeviceIdentifiers (ep : Fin 3) (s : State) :
    exec (.queryDeviceIdentifiers ep) s = execQueryDeviceIdentifiers ep s := rfl
theorem exec_getFirmwareParameters (ep : Fin 3) (s : State) :
    exec (.getFirmwareParameters ep) s = execGetFirmwareParameters ep s := rfl
theorem exec_requestUpdate (ep : Fin 3) (s : State) :
    exec (.requestUpdate ep) s = execRequestUpdate ep s := rfl
theorem exec_passComponentTable (ep : Fin 3) (s : State) :
    exec (.passComponentTable ep) s = execPassComponentTable ep s := rfl
theorem exec_updateComponent (ep : Fin 3) (id : BitVec 16) (size : Nat) (s : State) :
    exec (.updateComponent ep id size) s = execUpdateComponent ep id size s := rfl
theorem exec_requestFirmwareData (ep : Fin 3) (data : List Byte) (s : State) :
    exec (.requestFirmwareData ep data) s = execRequestFirmwareData ep data s := rfl
theorem exec_transferComplete (ep : Fin 3) (s : State) :
    exec (.transferComplete ep) s = execTransferComplete ep s := rfl
theorem exec_verifyComplete (ep : Fin 3) (s : State) :
    exec (.verifyComplete ep) s = execVerifyComplete ep s := rfl
theorem exec_applyComplete (ep : Fin 3) (s : State) :
    exec (.applyComplete ep) s = execApplyComplete ep s := rfl
theorem exec_activateFirmware (ep : Fin 3) (pack : Option (Fin 4)) (s : State) :
    exec (.activateFirmware ep pack) s = execActivateFirmware ep pack s := rfl
theorem exec_getStatus (ep : Fin 3) (s : State) :
    exec (.getStatus ep) s = execGetStatus ep s := rfl
theorem exec_cancelUpdate (ep : Fin 3) (s : State) :
    exec (.cancelUpdate ep) s = execCancelUpdate ep s := rfl
theorem exec_getVersion (ep : Fin 3) (s : State) :
    exec (.getVersion ep) s = execGetVersion ep s := rfl
theorem exec_getCapabilities (ep : Fin 3) (s : State) :
    exec (.getCapabilities ep) s = execGetCapabilities ep s := rfl
theorem exec_negotiateAlgorithms (ep : Fin 3) (s : State) :
    exec (.negotiateAlgorithms ep) s = execNegotiateAlgorithms ep s := rfl
theorem exec_getDigests (ep : Fin 3) (s : State) :
    exec (.getDigests ep) s = execGetDigests ep s := rfl
theorem exec_getCertificate (ep : Fin 3) (slot : BitVec 4) (off : Nat) (len : Nat) (s : State) :
    exec (.getCertificate ep slot off len) s = execGetCertificate ep slot off len s := rfl
theorem exec_challenge (ep : Fin 3) (slot : BitVec 4) (nonce : List Byte) (s : State) :
    exec (.challenge ep slot nonce) s = execChallenge ep slot nonce s := rfl
theorem exec_getMeasurements (ep : Fin 3) (index : BitVec 8) (nonce : List Byte) (s : State) :
    exec (.getMeasurements ep index nonce) s = execGetMeasurements ep index nonce s := rfl
theorem exec_newCodeAccept (s : State) :
    exec (.newCodeAccept) s = execNewCodeAccept s := rfl
theorem exec_activationFallback (s : State) :
    exec (.activationFallback) s = execActivationFallback s := rfl
theorem exec_activationCommit (s : State) :
    exec (.activationCommit) s = execActivationCommit s := rfl
theorem exec_debugUnlock (token : List Byte) (s : State) :
    exec (.debugUnlock token) s = execDebugUnlock token s := rfl
theorem exec_trstN (asserted : Bool) (s : State) :
    exec (.trstN asserted) s = execTrstN asserted s := rfl
theorem exec_pwrLossNAssert (mv : Nat) (s : State) :
    exec (.pwrLossNAssert mv) s = execPwrLossNAssert mv s := rfl
theorem exec_flushPage (s : State) :
    exec (.flushPage) s = execFlushPage s := rfl
theorem exec_holdupTick (mv : Nat) (s : State) :
    exec (.holdupTick mv) s = execHoldupTick mv s := rfl
theorem exec_pwrLossRecovery (s : State) :
    exec (.pwrLossRecovery) s = execPwrLossRecovery s := rfl
theorem exec_telemetryRecordWrite (s : State) :
    exec (.telemetryRecordWrite) s = execTelemetryRecordWrite s := rfl
theorem exec_watchdog (c : Fin 96) (s : State) :
    exec (.watchdog c) s = execWatchdog c s := rfl
theorem exec_snapshotTriggerWrite (w : Writer) (s : State) :
    exec (.snapshotTriggerWrite w) s = execSnapshotTriggerWrite w s := rfl
theorem exec_snapshotSample (s : State) :
    exec (.snapshotSample) s = execSnapshotSample s := rfl
theorem exec_snapshotCopyDone (s : State) :
    exec (.snapshotCopyDone) s = execSnapshotCopyDone s := rfl
theorem exec_fieldBookDrain (c : Fin 96) (s : State) :
    exec (.fieldBookDrain c) s = execFieldBookDrain c s := rfl
theorem exec_porNAssert (s : State) :
    exec (.porNAssert) s = execPorNAssert s := rfl
theorem exec_porNDeassert (straps : BitVec 8) (selftest : Bool) (s : State) :
    exec (.porNDeassert straps selftest) s = execPorNDeassert straps selftest s := rfl
theorem exec_ctrlFirmwareStart (s : State) :
    exec (.ctrlFirmwareStart) s = execCtrlFirmwareStart s := rfl
theorem exec_dataPlaneBootDone (s : State) :
    exec (.dataPlaneBootDone) s = execDataPlaneBootDone s := rfl
theorem exec_bootRecovery (selftest : Bool) (s : State) :
    exec (.bootRecovery selftest) s = execBootRecovery selftest s := rfl
theorem exec_sysRstN (s : State) :
    exec (.sysRstN) s = execSysRstN s := rfl
theorem exec_perstN (s : State) :
    exec (.perstN) s = execPerstN s := rfl
theorem exec_controlFault (selftest : Bool) (s : State) :
    exec (.controlFault selftest) s = execControlFault selftest s := rfl
theorem exec_agentWatchdog (i0 : Fin 2) (s : State) :
    exec (.agentWatchdog i0) s = execAgentWatchdog i0 s := rfl
theorem exec_progStopTimeout (p : Fin 12) (s : State) :
    exec (.progStopTimeout p) s = execProgStopTimeout p s := rfl
theorem exec_partitionResetDrained (p : Fin 12) (s : State) :
    exec (.partitionResetDrained p) s = execPartitionResetDrained p s := rfl
theorem exec_perstNDeassert (selftest : Bool) (s : State) :
    exec (.perstNDeassert selftest) s = execPerstNDeassert selftest s := rfl
theorem exec_sysRstNDeassert (s : State) :
    exec (.sysRstNDeassert) s = execSysRstNDeassert s := rfl
theorem exec_pwrLossNDeassert (s : State) :
    exec (.pwrLossNDeassert) s = execPwrLossNDeassert s := rfl
theorem exec_vaonRemoval (half : Option (Fin 2)) (s : State) :
    exec (.vaonRemoval half) s = execVaonRemoval half s := rfl
theorem exec_uplinkDown (u : Fin 2) (s : State) :
    exec (.uplinkDown u) s = execUplinkDown u s := rfl
theorem exec_dutyAlarm (m : Fin 12) (pct : BitVec 7) (corr : BitVec 5) (s : State) :
    exec (.dutyAlarm m pct corr) s = execDutyAlarm m pct corr s := rfl
theorem exec_exportDone (f : Fin 13) (handle : Word) (s : State) :
    exec (.exportDone f handle) s = execExportDone f handle s := rfl
theorem exec_memCopyDone (f : Fin 13) (handle : Word) (s : State) :
    exec (.memCopyDone f handle) s = execMemCopyDone f handle s := rfl

end Sys2Proof.Machine
end

