-- ==== Sys2Proof/Laws/Kci.lean ====
section
/-! SUPPORT. What a row of the submission rings does, once for all of them: it completes, is staged, or fails. -/

namespace Sys2Proof.Machine

/-- What an offered command tells of the ring's head. -/
theorem offered_head {s u : State} {f : Fin 13} {r : Fin 32} {host : List (DWord × List Byte)} {c : Cmd}
    (h : offered s f r host = some (c, u)) :
    ∃ c₀, ringHead s f r = some c₀ ∧ c.opcode = c₀.opcode ∧ c.raw = c₀.raw ∧
      u = popRing (host.foldl (fun s w => s.hostWrite w.1.toNat w.2) s) f r ∧
      c = { c₀ with host := (host.foldl (fun s w => s.hostWrite w.1.toNat w.2) s).hostMem.readN (hostNeed c₀).1 (hostNeed c₀).2 } := by
  unfold offered at h
  split at h
  · cases h
  · rename_i c₀ hc
    cases h
    exact ⟨c₀, hc, rfl, rfl, rfl, rfl⟩

/-- A row on an offered command that is its own: the checks decide between a refusal and an acceptance. -/
theorem runRow_offered {mine : Cmd → Bool} {body note act} {s u : State} {f : Fin 13} {r : Fin 32}
    {host : List (DWord × List Byte)} {c : Cmd} (h : offered s f r host = some (c, u))
    (hm : ∀ c₀ : Cmd, c.opcode = c₀.opcode → c.raw = c₀.raw → mine c₀ = true) :
    runRow mine body note act f r host s = .next (match firstFail body u c with
      | some w => pump (post (note u c w) c true w.1 w.2.1 w.2.2) f r
      | none => pump (accept act u c) f r) := by
  obtain ⟨c₀, h1, h2, h3, rfl, rfl⟩ := offered_head h
  unfold runRow
  rw [h1]
  simp only [hm c₀ h2 h3]
  rfl

/-- A row whose command passes its checks unstaged leaves the effect on the acknowledged state. -/
theorem KciRow.completes_of {k : KciRow} {mine : Cmd → Bool} {note act} {effect : State → Cmd → State → Prop}
    (hrow : ∀ f r host s, exec (k.row f r host) s = runRow mine k.check note act f r host s)
    (hmine : ∀ c c₀ : Cmd, k.mine c = true → c.opcode = c₀.opcode → c.raw = c₀.raw → mine c₀ = true)
    (hact : ∀ v c, k.mine c = true → effect v c (act v c)) : k.Completes effect := by
  intro f r host s u c h hm hf hx
  refine ⟨act (acknowledged u c) c, ?_, hact _ _ hm⟩
  rw [hrow, runRow_offered h (hmine c · hm), hf]
  simp [accept, hx, acknowledged]

/-! ### Completions and fetching touch the rings and the host memory only -/

/-- `t` follows `s` with nothing changed but the command interface and the host memory. -/
def OnlyKci (s t : State) : Prop := t = { s with kci := t.kci, hostMem := t.hostMem }

theorem OnlyKci.refl (s : State) : OnlyKci s s := rfl
theorem OnlyKci.trans {s t u : State} (h : OnlyKci s t) (g : OnlyKci t u) : OnlyKci s u := by
  unfold OnlyKci at *; rw [g, h]
theorem OnlyKci.after {s t u : State} (h : OnlyKci t u) (g : OnlyKci s t) : OnlyKci s u := g.trans h
theorem OnlyKci.foldl {α : Type} (f : State → α → State) (h : ∀ s a, OnlyKci s (f s a)) (l : List α) :
    ∀ s, OnlyKci s (l.foldl f s) := by
  induction l with
  | nil => exact fun _ => rfl
  | cons a l ih => exact fun s => (h s a).trans (ih _)

theorem raiseVector_onlyKci (s : State) (f : Fin 13) (v : Nat) : OnlyKci s (raiseVector s f v) := by
  unfold raiseVector; split <;> rfl
theorem putCompletion_onlyKci (s : State) (f : Fin 13) (r : Fin 32) (bs : List Byte) :
    OnlyKci s (putCompletion s f r bs) := by
  unfold putCompletion
  split
  · rfl
  · exact (raiseVector_onlyKci _ _ _).after rfl
theorem deliver_onlyKci (s : State) (f : Fin 13) (r : Fin 32) (bs : List Byte) (e : Bool) :
    OnlyKci s (deliver s f r bs e) := by
  unfold deliver
  split
  · rfl
  · dsimp only
    split
    · exact putCompletion_onlyKci _ _ _ _
    · repeat' split
      all_goals rfl
theorem post_onlyKci (s : State) (c : Cmd) (fin : Bool) (st d : Nat) (bs : List Byte) :
    OnlyKci s (post s c fin st d bs) := by
  unfold post
  split
  · rfl
  · split
    · rfl
    · exact deliver_onlyKci _ _ _ _ _
theorem pumpFuel_onlyKci (f : Fin 13) (r : Fin 32) : ∀ (n : Nat) (s : State), OnlyKci s (pumpFuel f r n s)
  | 0, _ => rfl
  | n + 1, s => by
    unfold pumpFuel
    split
    · split
      · rfl
      · exact ((pumpFuel_onlyKci f r n _).after (post_onlyKci _ _ _ _ _ _)).after rfl
    · rfl
theorem pump_onlyKci (s : State) (f : Fin 13) (r : Fin 32) : OnlyKci s (pump s f r) := by
  unfold pump
  split
  · exact pumpFuel_onlyKci _ _ _ _
  · rfl
theorem finish_onlyKci (s : State) (c : Cmd) (st d : Nat) (bs : List Byte) : OnlyKci s (finish s c st d bs) := by
  unfold finish
  dsimp only
  split
  · exact ((pump_onlyKci _ _ _).after (post_onlyKci _ _ _ _ _ _)).after rfl
  · exact (post_onlyKci _ _ _ _ _ _).after rfl
theorem endTxn_onlyKci (s : State) (t : Txn) (f : Cmd → Nat) (st d : Nat) (bs : List Byte) :
    OnlyKci s (endTxn s t f st d bs) := by
  unfold endTxn
  dsimp only
  split
  · exact ((finish_onlyKci _ _ _ _ _).after (OnlyKci.foldl _ (fun _ _ => finish_onlyKci _ _ _ _ _) _ _)).after rfl
  · exact (OnlyKci.foldl _ (fun _ _ => finish_onlyKci _ _ _ _ _) _ _).after rfl

end Sys2Proof.Machine
end

