-- ==== Sys2Proof/Laws/Mem.lean ====
section
/-! SUPPORT.  The laws of the byte memory and of the poison marks: every operation keeps the canonical form, and a
read after a write. -/

namespace Sys2Proof.Machine

open Sys2Proof

/-- The canonical form: addresses strictly rise, and no listed byte is blank. -/
theorem Mem.wf_iff (m : Mem) :
    m.wf = true ↔ m.Pairwise (fun c d => c.1 < d.1) ∧ ∀ c ∈ m, c.2 ≠ Mem.blank := by
  induction m with
  | nil => simp [Mem.wf]
  | cons c t ih =>
    cases t with
    | nil => simp [Mem.wf]
    | cons d t =>
      simp only [Mem.wf, Bool.and_eq_true, decide_eq_true_eq, ih, List.pairwise_cons, List.mem_cons]
      constructor
      · rintro ⟨⟨h, hlt⟩, ⟨hd, ht⟩, hb⟩
        refine ⟨⟨?_, hd, ht⟩, ?_⟩
        · rintro e (rfl | he)
          · exact hlt
          · exact hlt.trans (hd e he)
        · rintro e (rfl | he)
          · exact h
          · exact hb e he
      · rintro ⟨⟨h, hd, ht⟩, hb⟩
        exact ⟨⟨hb c (.inl rfl), h d (.inl rfl)⟩, ⟨hd, ht⟩, fun e he => hb e (.inr he)⟩

/-- The marks strictly rise. -/
theorem Marks.wf_iff (p : Marks) : Marks.wf p = true ↔ p.Pairwise (· < ·) := by
  induction p with
  | nil => simp [Marks.wf]
  | cons c t ih =>
    cases t with
    | nil => simp [Marks.wf]
    | cons d t =>
      simp only [Marks.wf, Bool.and_eq_true, decide_eq_true_eq, ih, List.pairwise_cons, List.mem_cons]
      constructor
      · rintro ⟨hlt, hd, ht⟩
        refine ⟨?_, hd, ht⟩
        rintro e (rfl | he)
        · exact hlt
        · exact hlt.trans (hd e he)
      · rintro ⟨h, hd, ht⟩
        exact ⟨h d (.inl rfl), hd, ht⟩

/-- The cells of a byte string lie in its range. -/
theorem Mem.cells_range (bs : List Byte) : ∀ (a : Nat), ∀ c ∈ Mem.cells a bs, a ≤ c.1 ∧ c.1 < a + bs.length := by
  induction bs with
  | nil => simp [Mem.cells]
  | cons b bs ih =>
    intro a c hc
    simp only [Mem.cells] at hc
    have hc' : c = (a, b) ∨ c ∈ Mem.cells (a + 1) bs := by
      split at hc
      · exact .inr hc
      · simpa using hc
    rcases hc' with rfl | hc'
    · simp
    · have := ih (a + 1) c hc'
      simp only [List.length_cons]
      omega

/-- The cells of a byte string are in canonical form. -/
theorem Mem.cells_wf (bs : List Byte) : ∀ (a : Nat), (Mem.cells a bs).wf = true := by
  induction bs with
  | nil => intro a; rfl
  | cons b bs ih =>
    intro a
    simp only [Mem.cells]
    split
    · exact ih _
    · rename_i hb
      have h := (Mem.wf_iff _).1 (ih (a + 1))
      rw [Mem.wf_iff]
      refine ⟨List.pairwise_cons.2 ⟨fun c hc => ?_, h.1⟩, ?_⟩
      · have := Mem.cells_range bs (a + 1) c hc
        show a < c.1
        omega
      · intro c hc
        rcases List.mem_cons.1 hc with rfl | hc
        · exact hb
        · exact h.2 c hc

/-- A write keeps the canonical form. -/
theorem Mem.write_wf (m : Mem) (a : Nat) (bs : List Byte) (h : m.wf = true) : (m.write a bs).wf = true := by
  have hm := (Mem.wf_iff _).1 h
  have hc := (Mem.wf_iff _).1 (Mem.cells_wf bs a)
  have hr := Mem.cells_range bs a
  rw [Mem.wf_iff]
  unfold Mem.write
  constructor
  · simp only [List.pairwise_append, List.mem_append, List.mem_filter, decide_eq_true_eq]
    refine ⟨⟨hm.1.filter _, hc.1, fun x hx y hy => ?_⟩, hm.1.filter _, fun x hx y hy => ?_⟩
    · have := hr y hy
      omega
    · rcases hx with hx | hx
      · omega
      · have := hr x hx
        omega
  · intro c hc'
    simp only [List.mem_append, List.mem_filter] at hc'
    rcases hc' with (hc' | hc') | hc'
    · exact hm.2 c hc'.1
    · exact hc.2 c hc'
    · exact hm.2 c hc'.1

/-- A clear keeps the canonical form. -/
theorem Mem.clear_wf (m : Mem) (a n : Nat) (h : m.wf = true) : (m.clear a n).wf = true := by
  have hm := (Mem.wf_iff _).1 h
  rw [Mem.wf_iff]
  unfold Mem.clear
  constructor
  · simp only [List.pairwise_append, List.mem_filter, decide_eq_true_eq]
    exact ⟨hm.1.filter _, hm.1.filter _, fun x hx y hy => by omega⟩
  · intro c hc'
    simp only [List.mem_append, List.mem_filter] at hc'
    rcases hc' with hc' | hc'
    · exact hm.2 c hc'.1
    · exact hm.2 c hc'.1

theorem upFrom_mem (a n x : Nat) : x ∈ upFrom a n ↔ a ≤ x ∧ x < a + n := by
  induction n generalizing a with
  | zero => simp [upFrom]
  | succ n ih => simp only [upFrom, List.mem_cons, ih]; omega

theorem upFrom_rising (a n : Nat) : (upFrom a n).Pairwise (· < ·) := by
  induction n generalizing a with
  | zero => simp [upFrom]
  | succ n ih =>
    simp only [upFrom, List.pairwise_cons, ih, and_true]
    intro x hx
    have := (upFrom_mem _ _ _).1 hx
    omega

/-- Marking keeps the canonical form. -/
theorem Marks.set_wf (p : Marks) (a n : Nat) (h : Marks.wf p = true) : Marks.wf (p.set a n) = true := by
  have hp := (Marks.wf_iff _).1 h
  unfold Marks.set
  split
  · exact h
  · rw [Marks.wf_iff]
    simp only [List.pairwise_append, List.mem_append, List.mem_filter, decide_eq_true_eq, upFrom_mem]
    refine ⟨⟨hp.filter _, upFrom_rising _ _, fun x hx y hy => by omega⟩, hp.filter _, fun x hx y hy => ?_⟩
    have : a / 32 ≤ (a + n - 1) / 32 := Nat.div_le_div_right (by omega)
    omega

/-- Clearing marks keeps the canonical form. -/
theorem Marks.clearWhole_wf (p : Marks) (a n : Nat) (h : Marks.wf p = true) : Marks.wf (p.clearWhole a n) = true := by
  rw [Marks.wf_iff] at *
  exact h.filter _

/-- Clearing marks keeps the canonical form. -/
theorem Marks.clearAny_wf (p : Marks) (a n : Nat) (h : Marks.wf p = true) : Marks.wf (p.clearAny a n) = true := by
  rw [Marks.wf_iff] at *
  exact h.filter _

/-- Reading an address: its listed cell, or blank. -/
theorem Mem.read_append (m n : Mem) (a : Nat) :
    (m ++ n).read a = if a ∈ m.map (·.1) then m.read a else n.read a := by
  induction m with
  | nil => simp
  | cons c t ih =>
    obtain ⟨k, b⟩ := c
    simp only [List.cons_append, Mem.read, ih, List.map_cons, List.mem_cons]
    by_cases hk : k = a
    · simp [hk]
    · simp [hk, Ne.symm hk]

theorem Mem.read_filter (m : Mem) (p : Nat → Bool) (a : Nat) :
    Mem.read (m.filter (fun c => p c.1)) a = if p a then m.read a else Mem.blank := by
  induction m with
  | nil => simp [Mem.read]
  | cons c t ih =>
    obtain ⟨k, b⟩ := c
    simp only [List.filter_cons]
    by_cases hp : p k = true
    · simp only [hp, if_true, Mem.read, ih]
      by_cases hk : k = a
      · subst hk; simp [hp]
      · simp [hk]
    · simp only [hp, Bool.false_eq_true, if_false, ih, Mem.read]
      by_cases hk : k = a
      · subst hk; simp [hp]
      · simp [hk]

theorem Mem.read_absent (m : Mem) (a : Nat) (h : a ∉ m.map (·.1)) : m.read a = Mem.blank := by
  induction m with
  | nil => rfl
  | cons c t ih =>
    obtain ⟨k, b⟩ := c
    simp only [List.map_cons, List.mem_cons, not_or] at h
    simp [Mem.read, Ne.symm h.1, ih h.2]

/-- The cells of a byte string read as the string. -/
theorem Mem.read_cells (bs : List Byte) : ∀ (a x : Nat),
    Mem.read (Mem.cells a bs) x = if a ≤ x ∧ x < a + bs.length then bs.getD (x - a) 0 else Mem.blank := by
  induction bs with
  | nil => intro a x; simp [Mem.cells, Mem.read]
  | cons b bs ih =>
    intro a x
    have key : Mem.read (if b = Mem.blank then Mem.cells (a + 1) bs else (a, b) :: Mem.cells (a + 1) bs) x =
        if a = x then b else Mem.read (Mem.cells (a + 1) bs) x := by
      split
      · rename_i hb
        by_cases hx : a = x
        · subst hx
          rw [ih, if_neg (by omega), if_pos rfl, hb]
        · rw [if_neg hx]
      · simp [Mem.read]
    simp only [Mem.cells]
    rw [key, ih]
    by_cases hx : a = x
    · subst hx
      simp
    · rw [if_neg hx]
      by_cases h : a + 1 ≤ x ∧ x < a + 1 + bs.length
      · rw [if_pos h, if_pos (by simp only [List.length_cons]; omega)]
        obtain ⟨k, hk⟩ : ∃ k, x - a = k + 1 := ⟨x - a - 1, by omega⟩
        rw [hk, show x - (a + 1) = k by omega]
        simp
      · rw [if_neg h, if_neg (by simp only [List.length_cons]; omega)]

/-- A read after a write: the bytes written inside the range, what was there before outside it. -/
theorem Mem.read_write (m : Mem) (a : Nat) (bs : List Byte) (x : Nat) :
    (m.write a bs).read x = if a ≤ x ∧ x < a + bs.length then bs.getD (x - a) 0 else m.read x := by
  unfold Mem.write
  rw [Mem.read_append, Mem.read_append]
  have e1 := Mem.read_filter m (fun k => decide (k < a)) x
  have e2 := Mem.read_filter m (fun k => decide (a + bs.length ≤ k)) x
  have e3 := Mem.read_cells bs a x
  have mem1 : x ∈ (m.filter (fun c => decide (c.1 < a))).map (·.1) → x < a := by
    simp only [List.mem_map, List.mem_filter, decide_eq_true_eq]
    rintro ⟨c, ⟨_, h⟩, rfl⟩
    exact h
  have mem2 : x ∈ (Mem.cells a bs).map (·.1) → a ≤ x ∧ x < a + bs.length := by
    simp only [List.mem_map]
    rintro ⟨c, hc, rfl⟩
    exact Mem.cells_range bs a c hc
  simp only [List.map_append, List.mem_append]
  by_cases hin : a ≤ x ∧ x < a + bs.length
  · have n1 : x ∉ (m.filter (fun c => decide (c.1 < a))).map (·.1) := fun h => by have := mem1 h; omega
    rw [if_pos hin] at e3 ⊢
    by_cases h2 : x ∈ (Mem.cells a bs).map (·.1)
    · rw [if_pos (.inr h2), if_neg n1, e3]
    · rw [if_neg (by tauto), e2, if_neg (by simp; omega), ← e3, Mem.read_absent _ _ h2]
  · have n2 : x ∉ (Mem.cells a bs).map (·.1) := fun h => hin (mem2 h)
    rw [if_neg hin]
    by_cases h1 : x ∈ (m.filter (fun c => decide (c.1 < a))).map (·.1)
    · rw [if_pos (.inl h1), if_pos h1, e1, if_pos (by simpa using mem1 h1)]
    · rw [if_neg (by tauto), e2]
      by_cases hx : x < a
      · rw [if_neg (by simp; omega)]
        rw [if_pos (by simpa using hx)] at e1
        rw [← e1, Mem.read_absent _ _ h1]
      · rw [if_pos (by simp; omega)]

end Sys2Proof.Machine
end

