-- ==== Sys2Proof/Laws/Keeps.lean ====
section
/-! SUPPORT. How `Keeps` passes through the shapes that the model's definitions are made of: updates, branches,
folds, pairs and outcomes. -/

namespace Sys2Proof.Machine

theorem Keeps.refl (s : State) : Keeps s s := ⟨rfl, id⟩
theorem Keeps.trans {s t u : State} (h : Keeps s t) (k : Keeps t u) : Keeps s u :=
  ⟨k.pending.trans h.pending, fun g => k.good (h.good g)⟩
theorem Keeps.upd {s u : State} {co pa ms tel fa se kci pw cl th ser sn mg rst ts rd bu fr} (h : Keeps s u)  (h5 : tel.queue = u.tel.queue) (h6 : kci.txns = u.kci.txns) : Keeps s ⟨co, pa, u.mem, u.poison, u.hostMem, ms, tel, fa, se, kci, pw, cl, th, ser, sn, mg, rst, ts, rd, bu, fr, u.pending⟩ :=
  h.trans ⟨rfl, fun g => ⟨g.1, g.2, g.3, h5 ▸ g.4, h6 ▸ g.5⟩⟩
/-- A meaning goes on to a state that keeps. -/
def Goes (s : State) (o : Out) : Prop := ∃ t, o = .next t ∧ Keeps s t
theorem Goes.next {s t : State} (h : Keeps s t) : Goes s (.next t) := ⟨t, rfl, h⟩
theorem Keeps.ite {c : Prop} [Decidable c] {s t u : State} (h : Keeps s t) (k : Keeps s u) : Keeps s (if c then t else u) := by
  split <;> assumption
theorem Goes.ite {c : Prop} [Decidable c] {s : State} {t u : Out} (h : Goes s t) (k : Goes s u) : Goes s (if c then t else u) := by
  split <;> assumption
theorem Keeps.foldl {α} {f : State → α → State} {l : List α} {s u : State} (h : ∀ s a, Keeps s (f s a)) (k : Keeps s u) : Keeps s (l.foldl f u) := by
  induction l generalizing u with
  | nil => exact k
  | cons a l ih => exact ih (k.trans (h u a))
theorem Keeps.pair1 {α} {s t : State} {a : α} {p : State × α} (h : p = (t, a)) (k : Keeps s p.1) : Keeps s t := by subst h; exact k
theorem Keeps.pair2 {α} {s t : State} {a : α} {p : α × State} (h : p = (a, t)) (k : Keeps s p.2) : Keeps s t := by subst h; exact k
abbrev FK1 (f : State → State) : Prop := ∀ s, Keeps s (f s)
abbrev FK2 {α} (f : State → α → State) : Prop := ∀ s a, Keeps s (f s a)
abbrev FK3 {α β} (f : State → α → β → State) : Prop := ∀ s a b, Keeps s (f s a b)
def OriginRes.state : OriginRes → State
  | .ok s _ => s
  | .bad s _ => s
def Land.state : Land → State
  | .landed s => s
  | .refused s _ => s


theorem Keeps.poison {s u : State} {pz} (h : Keeps s u) (k : Marks.wf u.poison = true → Marks.wf pz = true) : Keeps s { u with poison := pz } :=
  h.trans ⟨rfl, fun g => ⟨g.1, k g.2, g.3, g.4, g.5⟩⟩
theorem Keeps.memPoison {s u : State} {m pz} (h : Keeps s u) (k1 : Mem.wf u.mem = true → Mem.wf m = true) (k : Marks.wf u.poison = true → Marks.wf pz = true) : Keeps s { u with mem := m, poison := pz } :=
  h.trans ⟨rfl, fun g => ⟨k1 g.1, k g.2, g.3, g.4, g.5⟩⟩

theorem Keeps.clear {s u : State} {a n} (h : Keeps s u) : Keeps s { u with mem := u.mem.clear a n } :=
  h.trans ⟨rfl, fun g => ⟨Mem.clear_wf _ _ _ g.1, g.2, g.3, g.4, g.5⟩⟩
theorem Keeps.clear2 {s u : State} {a n b m} (h : Keeps s u) : Keeps s { u with mem := u.mem.clear a n, poison := Marks.clearAny u.poison b m } :=
  h.trans ⟨rfl, fun g => ⟨Mem.clear_wf _ _ _ g.1, Marks.clearAny_wf _ _ _ g.2, g.3, g.4, g.5⟩⟩

theorem Keeps.bindLet {G : Prop} {s x : State} (h : Keeps s x) (k : Keeps s x → G) : G := k h

theorem Keeps.after {s t u : State} (k : Keeps t u) (h : Keeps s t) : Keeps s u := h.trans k

theorem Keeps.foldl1 {α β} {f : State × β → α → State × β} {l : List α} {s : State} {u : State × β} (h : ∀ s b a, Keeps s (f (s, b) a).1) (k : Keeps s u.1) : Keeps s (l.foldl f u).1 := by
  induction l generalizing u with
  | nil => exact k
  | cons a l ih => exact ih (k.trans (h u.1 u.2 a))
theorem Keeps.foldl2 {α β} {f : β × State → α → β × State} {l : List α} {s : State} {u : β × State} (h : ∀ s b a, Keeps s (f (b, s) a).2) (k : Keeps s u.2) : Keeps s (l.foldl f u).2 := by
  induction l generalizing u with
  | nil => exact k
  | cons a l ih => exact ih (k.trans (h u.2 u.1 a))
theorem Keeps.okOf {s t : State} {o} {r : OriginRes} (h : r = .ok t o) (k : Keeps s r.state) : Keeps s t := by subst h; exact k
theorem Keeps.badOf {s t : State} {o} {r : OriginRes} (h : r = .bad t o) (k : Keeps s r.state) : Keeps s t := by subst h; exact k
theorem Keeps.landedOf {s t : State} {r : Land} (h : r = .landed t) (k : Keeps s r.state) : Keeps s t := by subst h; exact k
theorem Keeps.refusedOf {s t : State} {o} {r : Land} (h : r = .refused t o) (k : Keeps s r.state) : Keeps s t := by subst h; exact k
theorem Keeps.ok {s t : State} {o} (h : Keeps s t) : Keeps s (OriginRes.ok t o).state := h
theorem Keeps.bad {s t : State} {o} (h : Keeps s t) : Keeps s (OriginRes.bad t o).state := h
theorem Keeps.landed {s t : State} (h : Keeps s t) : Keeps s (Land.landed t).state := h
theorem Keeps.refused {s t : State} {o} (h : Keeps s t) : Keeps s (Land.refused t o).state := h
theorem Keeps.eff {s t : State} {a b c d e f g i j k} (h : Keeps s t) : Keeps s (Eff.mk t a b c d e f g i j k).st := h
theorem Keeps.fst {s t : State} {α} {a : α} (h : Keeps s t) : Keeps s (t, a).1 := h
theorem Keeps.snd {s t : State} {α} {a : α} (h : Keeps s t) : Keeps s (a, t).2 := h
theorem Keeps.iteSt {c : Prop} [Decidable c] {s : State} {t u : Eff} (h : Keeps s t.st) (k : Keeps s u.st) : Keeps s (if c then t else u).st := by
  split <;> assumption
theorem Keeps.iteState {c : Prop} [Decidable c] {s : State} {t u : OriginRes} (h : Keeps s t.state) (k : Keeps s u.state) : Keeps s (if c then t else u).state := by
  split <;> assumption
theorem Keeps.iteLand {c : Prop} [Decidable c] {s : State} {t u : Land} (h : Keeps s t.state) (k : Keeps s u.state) : Keeps s (if c then t else u).state := by
  split <;> assumption
theorem Keeps.iteFst {c : Prop} [Decidable c] {s : State} {α} {t u : State × α} (h : Keeps s t.1) (k : Keeps s u.1) : Keeps s (if c then t else u).1 := by
  split <;> assumption
theorem Keeps.iteSnd {c : Prop} [Decidable c] {s : State} {α} {t u : α × State} (h : Keeps s t.2) (k : Keeps s u.2) : Keeps s (if c then t else u).2 := by
  split <;> assumption
theorem Keeps.foldlOpt {α β} {f : Option (State × β) → α → Option (State × β)}
    (hf : ∀ acc a t b, f acc a = some (t, b) → ∃ u c, acc = some (u, c) ∧ Keeps u t) (l : List α) :
    ∀ acc t b, l.foldl f acc = some (t, b) → ∃ u c, acc = some (u, c) ∧ Keeps u t := by
  induction l with
  | nil => intro acc t b h; exact ⟨t, b, h, Keeps.refl _⟩
  | cons a l ih =>
    intro acc t b h
    obtain ⟨u, c, h1, h2⟩ := ih _ _ _ h
    obtain ⟨v, d, h3, h4⟩ := hf _ _ _ _ h1
    exact ⟨v, d, h3, h4.trans h2⟩
theorem Keeps.updTxn {s u : State} {co pa ms tel fa se kci pw cl th ser sn mg rst ts rd bu fr} (h : Keeps s u)  (h5 : tel.queue = u.tel.queue) (h6 : kci.txns.length ≤ u.kci.txns.length) : Keeps s ⟨co, pa, u.mem, u.poison, u.hostMem, ms, tel, fa, se, kci, pw, cl, th, ser, sn, mg, rst, ts, rd, bu, fr, u.pending⟩ :=
  h.trans ⟨rfl, fun g => ⟨g.1, g.2, g.3, h5 ▸ g.4, Nat.le_trans h6 g.5⟩⟩
theorem Keeps.dite {c : Prop} [Decidable c] {s : State} {t : c → State} {u : ¬c → State} (h : ∀ p, Keeps s (t p)) (k : ∀ p, Keeps s (u p)) :
    Keeps s (if p : c then t p else u p) := by
  split
  · exact h _
  · exact k _

end Sys2Proof.Machine
end

