-- ==== Sys2Proof/Laws/KeepsCore.lean ====
section
/-! SUPPORT. One lemma per operation: it keeps what the state must keep. Here: the named operations, the operand forms, the flags and the engines' shared operations. -/

namespace Sys2Proof.Machine

/-! ### Ops -/

theorem State.setCore_keeps (s) (c) (a2) : Keeps s (State.setCore s c a2) := by
  unfold State.setCore
  with_reducible apply Keeps.upd ?_ rfl rfl
  exact Keeps.refl _

theorem State.modCore_keeps (s) (c) (f) : Keeps s (State.modCore s c f) := by
  unfold State.modCore
  with_reducible apply Keeps.after (State.setCore_keeps _ _ _)
  exact Keeps.refl _

theorem State.setPart_keeps (s) (p) (a2) : Keeps s (State.setPart s p a2) := by
  unfold State.setPart
  with_reducible apply Keeps.upd ?_ rfl rfl
  exact Keeps.refl _

theorem State.modPart_keeps (s) (p) (f) : Keeps s (State.modPart s p f) := by
  unfold State.modPart
  with_reducible apply Keeps.after (State.setPart_keeps _ _ _)
  exact Keeps.refl _

theorem State.fresh_keeps (s) : Keeps s (State.fresh s).2 := by
  unfold State.fresh
  with_reducible apply Keeps.snd
  with_reducible apply Keeps.upd ?_ rfl rfl
  exact Keeps.refl _

theorem State.freshBytes_keeps (s) (n) : Keeps s (State.freshBytes s n).2 := by
  unfold State.freshBytes
  with_reducible apply Keeps.snd
  with_reducible apply Keeps.upd ?_ rfl rfl
  exact Keeps.refl _

theorem draw_keeps (s) : Keeps s (draw s).2 := by
  unfold draw
  with_reducible apply Keeps.snd
  with_reducible apply Keeps.upd ?_ rfl rfl
  with_reducible refine Keeps.upd ?_ rfl rfl
  exact Keeps.refl _

theorem record_keeps (s code part core body) : Keeps s (record s code part core body) := by
  unfold record
  split
  · rename_i h
    exact ⟨rfl, fun g => ⟨g.1, g.2, g.3, by simp only [List.length_append, List.length_cons, List.length_nil]; omega, g.5⟩⟩
  · exact ⟨rfl, fun g => ⟨g.1, g.2, g.3, g.4, g.5⟩⟩

theorem recordCore_keeps (s) (code) (c) (body) : Keeps s (recordCore s code c body) := by
  unfold recordCore
  with_reducible apply Keeps.after (record_keeps _ _ _ _ _)
  exact Keeps.refl _

theorem controlRecord_keeps (s) (kind) : Keeps s (controlRecord s kind) := by
  unfold controlRecord
  split
  split
  with_reducible apply Keeps.after (record_keeps _ _ _ _ _)
  refine Keeps.pair2 (by assumption) ?_
  with_reducible apply Keeps.after (State.freshBytes_keeps _ _)
  refine Keeps.pair2 (by assumption) ?_
  split
  with_reducible apply Keeps.snd
  exact Keeps.refl _
  with_reducible apply Keeps.after (State.freshBytes_keeps _ _)
  exact Keeps.refl _

theorem State.write_keeps (s a bs pois) : Keeps s (State.write s a bs pois) := by
  unfold State.write
  refine Keeps.memPoison (Keeps.refl s) (fun h => Mem.write_wf _ _ _ h) (fun h => ?_)
  split
  · exact Marks.set_wf _ _ _ h
  · exact Marks.clearWhole_wf _ _ _ h

theorem State.mark_keeps (s a n) : Keeps s (State.mark s a n) :=
  Keeps.poison (Keeps.refl s) (fun h => Marks.set_wf _ _ _ h)

theorem State.copyFrom_keeps (s) (t) (a) (b) (n) : Keeps s (State.copyFrom s t a b n) := by
  unfold State.copyFrom
  with_reducible apply Keeps.foldl (fun z0 _ => ?_) ?_
  with_reducible apply Keeps.after (State.write_keeps _ _ _ _)
  exact Keeps.refl _
  with_reducible apply Keeps.after (State.mark_keeps _ _ _)
  exact Keeps.refl _

theorem State.copyMarked_keeps (s) (a) (b) (n) : Keeps s (State.copyMarked s a b n) := by
  unfold State.copyMarked
  with_reducible apply Keeps.after (State.copyFrom_keeps _ _ _ _ _)
  exact Keeps.refl _

theorem State.writes_keeps (s) (l) : Keeps s (State.writes s l) := by
  unfold State.writes
  with_reducible apply Keeps.foldl (fun z0 _ => ?_) ?_
  exact Keeps.refl _
  with_reducible apply Keeps.after (State.write_keeps _ _ _ _)
  exact Keeps.refl _

theorem State.hostWrite_keeps (s a bs) : Keeps s (State.hostWrite s a bs) :=
  ⟨rfl, fun g => ⟨g.1, g.2, Mem.write_wf _ _ _ g.3, g.4, g.5⟩⟩

theorem State.spoil_keeps (s) (rs) : Keeps s (State.spoil s rs) := by
  unfold State.spoil
  with_reducible apply Keeps.foldl (fun z0 _ => ?_) ?_
  exact Keeps.refl _
  split
  with_reducible apply Keeps.after (State.write_keeps _ _ _ _)
  refine Keeps.pair2 (by assumption) ?_
  with_reducible apply Keeps.after (State.freshBytes_keeps _ _)
  exact Keeps.refl _

theorem sramHit_keeps (s) (c) (o) : Keeps s (sramHit s c o) := by
  unfold sramHit
  with_reducible apply Keeps.after (recordCore_keeps _ _ _ _)
  with_reducible apply Keeps.after (State.mark_keeps _ _ _)
  exact Keeps.refl _

theorem meetErrs_keeps (s rs) : Keeps s (meetErrs s rs) := by
  unfold meetErrs
  dsimp only
  split
  · exact Keeps.refl _
  · refine Keeps.foldl (fun z u => ?_) (Keeps.upd (Keeps.refl _) rfl rfl)
    split
    · exact sramHit_keeps _ _ _
    · exact Keeps.refl _

theorem retCount_keeps (s) (part) (a2) : Keeps s (retCount s part a2) := by
  unfold retCount
  with_reducible apply Keeps.ite
  with_reducible apply Keeps.foldl (fun z0 _ => ?_) ?_
  exact Keeps.refl _
  with_reducible apply Keeps.after (State.modPart_keeps _ _ _)
  exact Keeps.refl _
  exact Keeps.refl _

theorem violation_keeps (s) (rq) (part) (core) (a4) : Keeps s (violation s rq part core a4) := by
  unfold violation
  split
  with_reducible apply Keeps.ite
  lift_lets
  intro x0
  refine Keeps.bindLet (s := s) (x := x0) ?_ (fun h1 => ?_)
  subst x0
  with_reducible apply Keeps.after (record_keeps _ _ _ _ _)
  exact Keeps.refl _
  clear_value x0
  intro x2
  subst x2
  with_reducible apply Keeps.upd ?_ rfl rfl
  assumption
  split
  with_reducible apply Keeps.upd ?_ rfl rfl
  exact Keeps.refl _
  exact Keeps.refl _

theorem unmapped_keeps (s) (kind) (part) (core) (a4) : Keeps s (unmapped s kind part core a4) := by
  unfold unmapped
  with_reducible apply Keeps.after (record_keeps _ _ _ _ _)
  exact Keeps.refl _

theorem refusedAt_keeps (s) (rq) (part) (core) (a4) : Keeps s (refusedAt s rq part core a4) := by
  unfold refusedAt
  with_reducible apply Keeps.ite
  with_reducible apply Keeps.after (retCount_keeps _ _ _)
  with_reducible apply Keeps.after (violation_keeps _ _ _ _ _)
  exact Keeps.refl _
  with_reducible apply Keeps.after (unmapped_keeps _ _ _ _ _)
  exact Keeps.refl _

theorem engViolation_keeps (s) (c) (a2) : Keeps s (engViolation s c a2) := by
  unfold engViolation
  with_reducible apply Keeps.ite
  with_reducible apply Keeps.after (violation_keeps _ _ _ _ _)
  exact Keeps.refl _
  with_reducible apply Keeps.after (refusedAt_keeps _ _ _ _ _)
  exact Keeps.refl _

theorem State.spoilFor_keeps (s) (c) (rs) : Keeps s (State.spoilFor s c rs) := by
  unfold State.spoilFor
  with_reducible apply Keeps.after (State.spoil_keeps _ _)
  exact Keeps.refl _

/-! ### Trace -/

theorem fbStore_keeps (s) (c) (slot) (bs) : Keeps s (fbStore s c slot bs) := by
  unfold fbStore
  with_reducible apply Keeps.after (State.write_keeps _ _ _ _)
  exact Keeps.refl _

theorem modFb_keeps (s) (c) (f) : Keeps s (modFb s c f) := by
  unfold modFb
  with_reducible apply Keeps.after (State.modCore_keeps _ _ _)
  exact Keeps.refl _

theorem fbAppend_keeps (s) (c) (bs) : Keeps s (fbAppend s c bs) := by
  unfold fbAppend
  lift_lets
  intro x0
  subst x0
  with_reducible apply Keeps.after (modFb_keeps _ _ _)
  with_reducible apply Keeps.after (fbStore_keeps _ _ _ _)
  exact Keeps.refl _

theorem fbRemove_keeps (s) (c) (wptr) (d) : Keeps s (fbRemove s c wptr d) := by
  unfold fbRemove
  with_reducible apply Keeps.foldl (fun z0 _ => ?_) ?_
  exact Keeps.refl _
  lift_lets
  intro x1
  subst x1
  with_reducible apply Keeps.after (fbStore_keeps _ _ _ _)
  exact Keeps.refl _

theorem fbJudge_keeps (s) (c) (prio) (bs) : Keeps s (fbJudge s c prio bs) := by
  unfold fbJudge
  lift_lets
  intro x0
  subst x0
  intro x1
  refine Keeps.bindLet (s := s) (x := x1) ?_ (fun h2 => ?_)
  subst x1
  with_reducible apply Keeps.after (modFb_keeps _ _ _)
  exact Keeps.refl _
  clear_value x1
  intro x3
  subst x3
  intro x4
  refine Keeps.bindLet (s := s) (x := x4) ?_ (fun h5 => ?_)
  subst x4
  with_reducible apply Keeps.after (fbStore_keeps _ _ _ _)
  exact Keeps.refl _
  clear_value x4
  intro x6
  refine Keeps.bindLet (s := s) (x := x6) ?_ (fun h7 => ?_)
  subst x6
  with_reducible apply Keeps.after (fbStore_keeps _ _ _ _)
  exact Keeps.refl _
  clear_value x6
  intro x8
  subst x8
  intro x9
  subst x9
  with_reducible apply Keeps.ite
  assumption
  with_reducible apply Keeps.ite
  with_reducible apply Keeps.ite
  with_reducible apply Keeps.after (fbAppend_keeps _ _ _)
  exact Keeps.refl _
  with_reducible apply Keeps.after (modFb_keeps _ _ _)
  with_reducible apply Keeps.after (fbAppend_keeps _ _ _)
  exact Keeps.refl _
  with_reducible apply Keeps.ite
  with_reducible apply Keeps.ite
  with_reducible apply Keeps.after (fbAppend_keeps _ _ _)
  exact Keeps.refl _
  with_reducible apply Keeps.after (modFb_keeps _ _ _)
  assumption
  with_reducible apply Keeps.ite
  with_reducible apply Keeps.ite
  with_reducible apply Keeps.ite
  with_reducible apply Keeps.after (modFb_keeps _ _ _)
  assumption
  assumption
  with_reducible apply Keeps.ite
  assumption
  with_reducible apply Keeps.after (modFb_keeps _ _ _)
  assumption
  with_reducible apply Keeps.ite
  with_reducible apply Keeps.after (fbAppend_keeps _ _ _)
  exact Keeps.refl _
  with_reducible apply Keeps.ite
  assumption
  split
  assumption
  lift_lets
  intro x10
  subst x10
  intro x11
  subst x11
  intro x12
  refine Keeps.bindLet (s := s) (x := x12) ?_ (fun h13 => ?_)
  subst x12
  with_reducible apply Keeps.after (fbRemove_keeps _ _ _ _)
  exact Keeps.refl _
  clear_value x12
  intro x14
  refine Keeps.bindLet (s := s) (x := x14) ?_ (fun h15 => ?_)
  subst x14
  with_reducible apply Keeps.after (modFb_keeps _ _ _)
  assumption
  clear_value x14
  with_reducible apply Keeps.after (fbAppend_keeps _ _ _)
  assumption

theorem fbPut_keeps (s) (c) (kind) (eng) (payload) : Keeps s (fbPut s c kind eng payload) := by
  unfold fbPut
  lift_lets
  intro x0
  subst x0
  intro x1
  subst x1
  intro x2
  refine Keeps.bindLet (s := s) (x := x2) ?_ (fun h3 => ?_)
  subst x2
  with_reducible apply Keeps.ite
  exact Keeps.refl _
  with_reducible apply Keeps.after (modFb_keeps _ _ _)
  with_reducible apply Keeps.after (fbJudge_keeps _ _ _ _)
  exact Keeps.refl _
  clear_value x2
  intro x4
  subst x4
  intro x5
  subst x5
  intro x6
  refine Keeps.bindLet (s := s) (x := x6) ?_ (fun h7 => ?_)
  subst x6
  with_reducible apply Keeps.ite
  assumption
  with_reducible apply Keeps.after (fbJudge_keeps _ _ _ _)
  with_reducible apply Keeps.after (modFb_keeps _ _ _)
  assumption
  clear_value x6
  with_reducible apply Keeps.ite
  exact Keeps.refl _
  with_reducible apply Keeps.after (fbJudge_keeps _ _ _ _)
  assumption

theorem fbTrigger_keeps (s) (c) (source) : Keeps s (fbTrigger s c source) := by
  unfold fbTrigger
  lift_lets
  intro x0
  subst x0
  intro x1
  refine Keeps.bindLet (s := s) (x := x1) ?_ (fun h2 => ?_)
  subst x1
  with_reducible apply Keeps.after (modFb_keeps _ _ _)
  exact Keeps.refl _
  clear_value x1
  with_reducible apply Keeps.ite
  exact Keeps.refl _
  with_reducible apply Keeps.ite
  with_reducible apply Keeps.after (modFb_keeps _ _ _)
  exact Keeps.refl _
  with_reducible apply Keeps.after (fbPut_keeps _ _ _ _ _)
  assumption

theorem fbEnable_keeps (s) (c) : Keeps s (fbEnable s c) := by
  unfold fbEnable
  lift_lets
  intro x0
  refine Keeps.bindLet (s := s) (x := x0) ?_ (fun h1 => ?_)
  subst x0
  with_reducible apply Keeps.clear
  exact Keeps.refl _
  clear_value x0
  intro x2
  subst x2
  intro x3
  refine Keeps.bindLet (s := s) (x := x3) ?_ (fun h4 => ?_)
  subst x3
  with_reducible apply Keeps.after (modFb_keeps _ _ _)
  assumption
  clear_value x3
  with_reducible apply Keeps.after (fbPut_keeps _ _ _ _ _)
  assumption

/-! ### Flags -/

theorem flagSet_keeps (s) (c) (n) (flagBit) : Keeps s (flagSet s c n flagBit) := by
  unfold flagSet
  with_reducible apply Keeps.after (fbTrigger_keeps _ _ _)
  with_reducible apply Keeps.after (recordCore_keeps _ _ _ _)
  exact Keeps.refl _

theorem stepSignal_keeps (s) (c) (n) : Keeps s (stepSignal s c n) := by
  unfold stepSignal
  split
  lift_lets
  intro x0
  subst x0
  with_reducible apply Keeps.after (State.modCore_keeps _ _ _)
  with_reducible apply Keeps.after (recordCore_keeps _ _ _ _)
  exact Keeps.refl _
  exact Keeps.refl _

theorem progress_keeps (s) (c) : Keeps s (progress s c) := by
  unfold progress
  with_reducible apply Keeps.after (State.modCore_keeps _ _ _)
  exact Keeps.refl _

theorem signal_keeps (s) (c) (n) (eng) (index) (inc) (pois) : Keeps s (signal s c n eng index inc pois) := by
  unfold signal
  lift_lets
  intro x0
  subst x0
  intro x1
  refine Keeps.bindLet (s := s) (x := x1) ?_ (fun h2 => ?_)
  subst x1
  with_reducible apply Keeps.after (stepSignal_keeps _ _ _)
  with_reducible apply Keeps.after (State.modCore_keeps _ _ _)
  with_reducible apply Keeps.after (progress_keeps _ _)
  exact Keeps.refl _
  clear_value x1
  with_reducible apply Keeps.ite
  with_reducible apply Keeps.after (flagSet_keeps _ _ _ _)
  assumption
  assumption

theorem raiseNum_keeps (s) (c) (f) (tern) : Keeps s (raiseNum s c f tern) := by
  unfold raiseNum
  with_reducible apply Keeps.after (State.modCore_keeps _ _ _)
  exact Keeps.refl _

/-! ### Operands -/

theorem storeRun_keeps (s) (l) (r) (o) : Keeps s (storeRun s l r o) := by
  unfold storeRun
  split
  lift_lets
  intro x0
  refine Keeps.bindLet (s := s) (x := x0) ?_ (fun h1 => ?_)
  subst x0
  with_reducible apply Keeps.after (State.write_keeps _ _ _ _)
  exact Keeps.refl _
  clear_value x0
  intro x2
  refine Keeps.bindLet (s := s) (x := x2) ?_ (fun h3 => ?_)
  subst x2
  with_reducible apply Keeps.ite
  with_reducible apply Keeps.after (State.write_keeps _ _ _ _)
  assumption
  assumption
  clear_value x2
  with_reducible apply Keeps.foldl (fun z4 _ => ?_) ?_
  assumption
  split
  lift_lets
  intro x5
  refine Keeps.bindLet (s := z4) (x := x5) ?_ (fun h6 => ?_)
  subst x5
  with_reducible apply Keeps.after (State.mark_keeps _ _ _)
  exact Keeps.refl _
  clear_value x5
  with_reducible apply Keeps.ite
  with_reducible apply Keeps.ite
  with_reducible apply Keeps.after (State.mark_keeps _ _ _)
  assumption
  assumption
  exact Keeps.refl _

theorem storeAll_keeps (s) (l) (os) : Keeps s (storeAll s l os) := by
  unfold storeAll
  with_reducible apply Keeps.foldl (fun z0 _ => ?_) ?_
  exact Keeps.refl _
  split
  with_reducible apply Keeps.after (storeRun_keeps _ _ _ _)
  exact Keeps.refl _

theorem dsUpdate_keeps (s c d tag tensor elems ev) : ∀ t, dsUpdate s c d tag tensor elems ev = some t → Keeps s t := by
  intro t h
  unfold dsUpdate at h
  split at h
  · cases h; exact Keeps.refl _
  · split at h
    · cases h
    · dsimp only at h
      split at h
      · cases h
      · cases h
        exact ⟨rfl, fun g => ⟨Mem.write_wf _ _ _ g.1, g.2, g.3, g.4, g.5⟩⟩

theorem ringWrite_keeps (s) (c) (region) (off) (bs) (marks) : Keeps s (ringWrite s c region off bs marks) := by
  unfold ringWrite
  lift_lets
  intro x0
  subst x0
  intro x1
  refine Keeps.bindLet (s := s) (x := x1) ?_ (fun h2 => ?_)
  subst x1
  with_reducible apply Keeps.foldl1 (fun z3 _ _ => ?_) ?_
  with_reducible apply Keeps.fst
  exact Keeps.refl _
  with_reducible apply Keeps.fst
  with_reducible apply Keeps.after (State.write_keeps _ _ _ _)
  with_reducible apply Keeps.fst
  exact Keeps.refl _
  clear_value x1
  with_reducible apply Keeps.foldl (fun z4 _ => ?_) ?_
  assumption
  with_reducible apply Keeps.foldl (fun z5 _ => ?_) ?_
  exact Keeps.refl _
  with_reducible apply Keeps.after (State.mark_keeps _ _ _)
  exact Keeps.refl _

/-! ### Engine -/

theorem splitCycles_keeps (l : List (Fin 11)) (n : Nat) (s : State) : Keeps s (splitCycles l n s).2 := by
  induction l generalizing n s with
  | nil => exact Keeps.refl _
  | cons x l ih =>
    cases l with
    | nil => exact Keeps.refl _
    | cons y l => exact (State.fresh_keeps s).trans (ih _ _)

theorem skipAct_keeps (s) (c) (g) : Keeps s (skipAct s c g) := by
  unfold skipAct
  with_reducible apply Keeps.ite
  exact Keeps.refl _
  lift_lets
  intro x0
  subst x0
  intro x1
  subst x1
  intro x2
  subst x2
  intro x3
  subst x3
  with_reducible apply Keeps.after (State.setCore_keeps _ _ _)
  exact Keeps.refl _

theorem passAct_keeps (s) (c) (g) : Keeps s (passAct s c g) := by
  unfold passAct
  with_reducible apply Keeps.ite
  exact Keeps.refl _
  lift_lets
  intro x0
  subst x0
  intro x1
  subst x1
  intro x2
  subst x2
  intro x3
  refine Keeps.bindLet (s := s) (x := x3) ?_ (fun h4 => ?_)
  subst x3
  with_reducible apply Keeps.after (State.setCore_keeps _ _ _)
  with_reducible apply Keeps.foldl2 (fun z5 _ _ => ?_) ?_
  with_reducible apply Keeps.snd
  exact Keeps.refl _
  lift_lets
  intro x6
  subst x6
  with_reducible apply Keeps.snd
  with_reducible apply Keeps.after (splitCycles_keeps _ _ _)
  with_reducible apply Keeps.snd
  exact Keeps.refl _
  clear_value x3
  with_reducible apply Keeps.ite
  with_reducible apply Keeps.after (skipAct_keeps _ _ _)
  assumption
  assumption

theorem passLog_keeps (s) (c) : Keeps s (passLog s c) := by
  unfold passLog
  lift_lets
  intro x0
  subst x0
  with_reducible apply Keeps.ite
  exact Keeps.refl _
  split
  dsimp -zeta only
  dsimp only
  with_reducible apply Keeps.after (State.modCore_keeps _ _ _)
  with_reducible apply Keeps.after (State.fresh_keeps _)
  refine Keeps.pair2 (by assumption) ?_
  with_reducible apply Keeps.after (State.fresh_keeps _)
  exact Keeps.refl _

theorem landLog_keeps (s) (c) (e) : Keeps s (landLog s c e) := by
  unfold landLog
  with_reducible apply Keeps.after (State.modCore_keeps _ _ _)
  exact Keeps.refl _

theorem passCore_keeps (s) (c) (g) : Keeps s (passCore s c g) := by
  unfold passCore
  with_reducible apply Keeps.ite
  exact Keeps.refl _
  lift_lets
  intro x0
  refine Keeps.bindLet (s := s) (x := x0) ?_ (fun h1 => ?_)
  subst x0
  with_reducible apply Keeps.after (passLog_keeps _ _)
  with_reducible apply Keeps.after (passAct_keeps _ _ _)
  exact Keeps.refl _
  clear_value x0
  intro x2
  subst x2
  intro x3
  subst x3
  intro x4
  subst x4
  intro x5
  subst x5
  with_reducible apply Keeps.foldl (fun z6 _ => ?_) ?_
  with_reducible apply Keeps.after (State.setCore_keeps _ _ _)
  assumption
  with_reducible apply Keeps.after (flagSet_keeps _ _ _ _)
  exact Keeps.refl _

theorem faultWith_keeps (s) (c) (e) (slot) (code) (more) : Keeps s (faultWith s c e slot code more) := by
  unfold faultWith
  lift_lets
  intro x0
  subst x0
  intro x1
  subst x1
  intro x2
  subst x2
  intro x3
  subst x3
  intro x4
  refine Keeps.bindLet (s := s) (x := x4) ?_ (fun h5 => ?_)
  subst x4
  with_reducible apply Keeps.after (State.setCore_keeps _ _ _)
  exact Keeps.refl _
  intro x6
  subst x6
  intro x7
  refine Keeps.bindLet (s := s) (x := x7) ?_ (fun h8 => ?_)
  subst x7
  clear_value x4
  with_reducible apply Keeps.after (recordCore_keeps _ _ _ _)
  assumption
  intro x9
  refine Keeps.bindLet (s := s) (x := x9) ?_ (fun h10 => ?_)
  subst x9
  clear_value x7
  clear_value x4
  with_reducible apply Keeps.after (fbPut_keeps _ _ _ _ _)
  assumption
  clear_value x9
  clear_value x7
  clear_value x4
  with_reducible apply Keeps.after (fbTrigger_keeps _ _ _)
  assumption

theorem faultCore_keeps (s) (c) (e) (slot) (code) : Keeps s (faultCore s c e slot code) := by
  unfold faultCore
  with_reducible apply Keeps.after (faultWith_keeps _ _ _ _ _ _)
  exact Keeps.refl _

theorem dropFlights_keeps (s) (c) (e) (i) : Keeps s (dropFlights s c e i) := by
  unfold dropFlights
  lift_lets
  intro x0
  subst x0
  intro x1
  refine Keeps.bindLet (s := s) (x := x1) ?_ (fun h2 => ?_)
  subst x1
  with_reducible apply Keeps.after (State.modCore_keeps _ _ _)
  exact Keeps.refl _
  clear_value x1
  with_reducible apply Keeps.after (State.spoil_keeps _ _)
  with_reducible apply Keeps.after (State.spoilFor_keeps _ _ _)
  assumption

theorem logOrigin_keeps (s) (c) (e) (slot) (o) (tag) : Keeps s (logOrigin s c e slot o tag).state := by
  unfold logOrigin
  lift_lets
  intro x0
  subst x0
  intro x1
  subst x1
  intro x2
  subst x2
  intro x3
  subst x3
  intro x4
  subst x4
  intro x5
  subst x5
  intro x6
  subst x6
  with_reducible apply Keeps.iteState
  with_reducible apply Keeps.ok
  beta_reduce
  with_reducible apply Keeps.after (State.modCore_keeps _ _ _)
  with_reducible apply Keeps.after (State.modCore_keeps _ _ _)
  exact Keeps.refl _
  split
  with_reducible apply Keeps.bad
  with_reducible apply Keeps.after (engViolation_keeps _ _ _)
  exact Keeps.refl _
  with_reducible apply Keeps.ok
  beta_reduce
  with_reducible apply Keeps.after (State.modCore_keeps _ _ _)
  with_reducible apply Keeps.after (State.modCore_keeps _ _ _)
  with_reducible apply Keeps.after (State.write_keeps _ _ _ _)
  exact Keeps.refl _

theorem takeOrigin_keeps (s) (c) (e) (w) (slot) : Keeps s (takeOrigin s c e w slot).state := by
  unfold takeOrigin
  lift_lets
  intro x0
  subst x0
  intro x1
  subst x1
  intro x2
  subst x2
  intro x3
  subst x3
  intro x4
  subst x4
  intro x5
  subst x5
  with_reducible apply Keeps.iteState
  with_reducible apply Keeps.iteState
  with_reducible apply Keeps.bad
  exact Keeps.refl _
  with_reducible apply Keeps.iteState
  with_reducible apply Keeps.bad
  with_reducible apply Keeps.after (engViolation_keeps _ _ _)
  exact Keeps.refl _
  with_reducible apply Keeps.iteState
  beta_reduce
  lift_lets
  intro x6
  refine Keeps.bindLet (s := s) (x := x6) ?_ (fun h7 => ?_)
  subst x6
  with_reducible apply Keeps.after (State.modCore_keeps _ _ _)
  with_reducible apply Keeps.after (State.modCore_keeps _ _ _)
  exact Keeps.refl _
  clear_value x6
  with_reducible apply Keeps.iteState
  with_reducible apply Keeps.after (logOrigin_keeps _ _ _ _ _ _)
  assumption
  with_reducible apply Keeps.ok
  assumption
  with_reducible apply Keeps.bad
  exact Keeps.refl _
  beta_reduce
  lift_lets
  intro x8
  refine Keeps.bindLet (s := s) (x := x8) ?_ (fun h9 => ?_)
  subst x8
  with_reducible apply Keeps.after (State.modCore_keeps _ _ _)
  exact Keeps.refl _
  clear_value x8
  with_reducible apply Keeps.iteState
  with_reducible apply Keeps.after (logOrigin_keeps _ _ _ _ _ _)
  assumption
  with_reducible apply Keeps.ok
  assumption

theorem Eff.done_keeps (s reads writes pois) : Keeps s (Eff.done s reads writes pois).st := Keeps.refl s

theorem Eff.bad_keeps (s writes code a) : Keeps s (Eff.bad s writes code a).st := Keeps.refl s

theorem beginStart_keeps (s) (c) (e) (q) : Keeps s (beginStart s c e q) := by
  unfold beginStart
  lift_lets
  intro x0
  subst x0
  intro x1
  subst x1
  intro x2
  subst x2
  intro x3
  subst x3
  intro x4
  subst x4
  intro x5
  subst x5
  with_reducible apply Keeps.after (fbPut_keeps _ _ _ _ _)
  with_reducible apply Keeps.after (progress_keeps _ _)
  with_reducible apply Keeps.after (State.setCore_keeps _ _ _)
  exact Keeps.refl _

theorem faultHead_keeps (s) (c) (e) (q) (code) : Keeps s (faultHead s c e q code) := by
  unfold faultHead
  with_reducible apply Keeps.after (faultCore_keeps _ _ _ _ _)
  with_reducible apply Keeps.after (State.modCore_keeps _ _ _)
  exact Keeps.refl _

theorem Eff.lost_keeps (f) (s) (c) : Keeps s (Eff.lost f s c) := by
  unfold Eff.lost
  with_reducible apply Keeps.after (State.spoil_keeps _ _)
  with_reducible apply Keeps.after (State.spoilFor_keeps _ _ _)
  exact Keeps.refl _

theorem startHead_keeps (s) (c) (e) (q) (work) (h_work : ∀ s c w i o, Keeps s (work s c w i o).st) : Keeps s (startHead s c e q work) := by
  unfold startHead
  lift_lets
  intro x0
  subst x0
  intro x1
  subst x1
  intro x2
  subst x2
  intro x3
  subst x3
  intro x4
  refine Keeps.bindLet (s := s) (x := x4) ?_ (fun h5 => ?_)
  subst x4
  with_reducible apply Keeps.after (beginStart_keeps _ _ _ _)
  exact Keeps.refl _
  clear_value x4
  split
  with_reducible apply Keeps.after (faultHead_keeps _ _ _ _ _)
  assumption
  split
  with_reducible apply Keeps.after (faultHead_keeps _ _ _ _ _)
  with_reducible apply Keeps.ite
  with_reducible apply Keeps.after (Eff.lost_keeps _ _ _)
  refine Keeps.badOf (by assumption) ?_
  with_reducible apply Keeps.iteState
  with_reducible apply Keeps.after (takeOrigin_keeps _ _ _ _ _)
  assumption
  with_reducible apply Keeps.ok
  assumption
  refine Keeps.badOf (by assumption) ?_
  with_reducible apply Keeps.iteState
  with_reducible apply Keeps.after (takeOrigin_keeps _ _ _ _ _)
  assumption
  with_reducible apply Keeps.ok
  assumption
  lift_lets
  intro x6
  refine Keeps.bindLet (s := s) (x := x6) ?_ (fun h7 => ?_)
  subst x6
  with_reducible apply Keeps.after (meetErrs_keeps _ _)
  refine Keeps.okOf (by assumption) ?_
  with_reducible apply Keeps.iteState
  with_reducible apply Keeps.after (takeOrigin_keeps _ _ _ _ _)
  assumption
  with_reducible apply Keeps.ok
  assumption
  clear_value x6
  intro x8
  subst x8
  intro x9
  refine Keeps.bindLet (s := s) (x := x9) ?_ (fun h10 => ?_)
  subst x9
  with_reducible apply Keeps.after (Eff.lost_keeps _ _ _)
  with_reducible apply Keeps.after (h_work _ _ _ _ _)
  assumption
  clear_value x9
  intro x11
  subst x11
  split
  dsimp only
  with_reducible apply Keeps.after (faultHead_keeps _ _ _ _ _)
  split
  with_reducible apply Keeps.ite
  with_reducible apply Keeps.after (engViolation_keeps _ _ _)
  assumption
  assumption
  assumption
  with_reducible apply Keeps.after (State.modCore_keeps _ _ _)
  with_reducible apply Keeps.after (h_work _ _ _ _ _)
  assumption

theorem startCmd_keeps (s) (c) (e) (op) (gap) (ready) (work) (h_work : ∀ s c w i o, Keeps s (work s c w i o).st) : Keeps s (startCmd s c e op gap ready work) := by
  unfold startCmd
  with_reducible apply Keeps.ite
  exact Keeps.refl _
  lift_lets
  intro x0
  refine Keeps.bindLet (s := s) (x := x0) ?_ (fun h1 => ?_)
  subst x0
  with_reducible apply Keeps.after (passCore_keeps _ _ _)
  exact Keeps.refl _
  clear_value x0
  split
  assumption
  with_reducible apply Keeps.ite
  with_reducible apply Keeps.after (startHead_keeps _ _ _ _ _ (fun z2 _ _ _ _ => ?_))
  assumption
  with_reducible apply Keeps.after (h_work _ _ _ _ _)
  exact Keeps.refl _
  assumption

theorem progDone_keeps (s) (c) : Keeps s (progDone s c) := by
  unfold progDone
  lift_lets
  intro x0
  subst x0
  intro x1
  refine Keeps.bindLet (s := s) (x := x1) ?_ (fun h2 => ?_)
  subst x1
  with_reducible apply Keeps.after (State.setCore_keeps _ _ _)
  exact Keeps.refl _
  clear_value x1
  with_reducible apply Keeps.ite
  with_reducible apply Keeps.after (recordCore_keeps _ _ _ _)
  assumption
  exact Keeps.refl _

theorem completeSignal_keeps (s) (c) (e) (f) : Keeps s (completeSignal s c e f) := by
  unfold completeSignal
  lift_lets
  intro x0
  subst x0
  with_reducible apply Keeps.ite
  with_reducible apply Keeps.after (signal_keeps _ _ _ _ _ _ _)
  exact Keeps.refl _
  with_reducible apply Keeps.ite
  with_reducible apply Keeps.after (State.modCore_keeps _ _ _)
  exact Keeps.refl _
  exact Keeps.refl _

theorem completeOldest_keeps (s) (c) (e) : Keeps s (completeOldest s c e) := by
  unfold completeOldest
  split
  exact Keeps.refl _
  lift_lets
  intro x0
  refine Keeps.bindLet (s := s) (x := x0) ?_ (fun h1 => ?_)
  subst x0
  with_reducible apply Keeps.after (State.modCore_keeps _ _ _)
  exact Keeps.refl _
  clear_value x0
  intro x2
  refine Keeps.bindLet (s := s) (x := x2) ?_ (fun h3 => ?_)
  subst x2
  with_reducible apply Keeps.after (completeSignal_keeps _ _ _ _)
  with_reducible apply Keeps.after (progress_keeps _ _)
  with_reducible apply Keeps.after (landLog_keeps _ _ _)
  assumption
  clear_value x2
  intro x4
  refine Keeps.bindLet (s := s) (x := x4) ?_ (fun h5 => ?_)
  subst x4
  with_reducible apply Keeps.after (fbPut_keeps _ _ _ _ _)
  assumption
  clear_value x4
  with_reducible apply Keeps.after (progDone_keeps _ _)
  assumption

/-! ### Traverse -/

theorem noteTern_keeps (s) (c) (es) : Keeps s (noteTern s c es) := by
  unfold noteTern
  with_reducible apply Keeps.ite
  with_reducible apply Keeps.after (raiseNum_keeps _ _ _ _)
  exact Keeps.refl _
  exact Keeps.refl _

theorem moveWork_keeps (s) (c) (w) (d) (o) (src) (dst) : Keeps s (moveWork s c w d o src dst).st := by
  unfold moveWork
  split
  with_reducible apply Keeps.after (Eff.bad_keeps _ _ _ _)
  exact Keeps.refl _
  lift_lets
  intro x0
  subst x0
  split
  split
  with_reducible apply Keeps.after (Eff.bad_keeps _ _ _ _)
  exact Keeps.refl _
  with_reducible apply Keeps.after (Eff.done_keeps _ _ _ _)
  with_reducible apply Keeps.after (noteTern_keeps _ _ _)
  with_reducible apply Keeps.after (storeAll_keeps _ _ _)
  refine Keeps.trans ?_ (dsUpdate_keeps _ _ _ _ _ _ _ _ (by assumption))
  exact Keeps.refl _

theorem loadRing_keeps (s) (c) (w) (d) (o) (src) : Keeps s (loadRing s c w d o src).st := by
  unfold loadRing
  dsimp only
  split
  with_reducible apply Keeps.after (Eff.bad_keeps _ _ _ _)
  exact Keeps.refl _
  split
  with_reducible apply Keeps.after (Eff.bad_keeps _ _ _ _)
  exact Keeps.refl _
  with_reducible apply Keeps.eff
  with_reducible apply Keeps.after (Eff.done_keeps _ _ _ _)
  with_reducible apply Keeps.after (noteTern_keeps _ _ _)
  with_reducible apply Keeps.after (ringWrite_keeps _ _ _ _ _ _)
  refine Keeps.trans ?_ (dsUpdate_keeps _ _ _ _ _ _ _ _ (by assumption))
  exact Keeps.refl _

theorem workLoad_keeps (a0) (a1) (a2) (a3) (a4) : Keeps a0 (workLoad a0 a1 a2 a3 a4).st := by
  unfold workLoad
  lift_lets
  intro x0
  subst x0
  intro x1
  subst x1
  with_reducible apply Keeps.iteSt
  with_reducible apply Keeps.after (loadRing_keeps _ _ _ _ _ _)
  exact Keeps.refl _
  with_reducible apply Keeps.after (moveWork_keeps _ _ _ _ _ _ _)
  exact Keeps.refl _

theorem workFill_keeps (a0) (a1) (a2) (a3) (a4) : Keeps a0 (workFill a0 a1 a2 a3 a4).st := by
  unfold workFill
  lift_lets
  intro x0
  subst x0
  intro x1
  subst x1
  intro x2
  subst x2
  with_reducible apply Keeps.after (Eff.done_keeps _ _ _ _)
  with_reducible apply Keeps.after (storeAll_keeps _ _ _)
  exact Keeps.refl _

theorem workStore_keeps (a0) (a1) (a2) (a3) (a4) : Keeps a0 (workStore a0 a1 a2 a3 a4).st := by
  unfold workStore
  lift_lets
  intro x0
  subst x0
  with_reducible apply Keeps.after (moveWork_keeps _ _ _ _ _ _ _)
  exact Keeps.refl _

theorem putResult_keeps (s) (c) (w) (out) (need) (aux) (flags) (pois) : Keeps s (putResult s c w out need aux flags pois) := by
  unfold putResult
  with_reducible apply Keeps.after (State.write_keeps _ _ _ _)
  exact Keeps.refl _

theorem GxAcc.move_keeps (s0 c src dst tensor m p rs rd) (a : GxAcc) :
    Keeps a.st (GxAcc.move s0 c src dst tensor m p rs rd a).st := by
  unfold GxAcc.move
  split
  · exact Keeps.refl _
  · exact storeRun_keeps _ _ _ _

theorem GxAcc.finish_keeps (c w d tag aux reads writes) (a : GxAcc) : Keeps a.st (GxAcc.finish c w d tag aux reads writes a).st := by
  unfold GxAcc.finish
  split
  · exact Keeps.refl _
  · split
    · exact Keeps.refl _
    · rename_i h
      refine (dsUpdate_keeps _ _ _ _ _ _ _ _ h).trans ?_
      refine Keeps.after (Eff.done_keeps _ _ _ _) (Keeps.after (putResult_keeps _ _ _ _ _ _ _ _) ?_)
      exact Keeps.ite (raiseNum_keeps _ _ _ _) (Keeps.refl _)

theorem addElem_keeps (c tab rnd o) (g : GxAcc) (a : AddOne) : Keeps g.st (addElem c tab rnd o g a).st := by
  unfold addElem
  dsimp only
  split
  · exact Keeps.refl _
  · exact Keeps.ite (Keeps.after (State.mark_keeps _ _ _) (State.write_keeps _ _ _ _)) (State.write_keeps _ _ _ _)

theorem GxAcc.foldl_keeps {α : Type} {f : GxAcc → α → GxAcc} (h : ∀ g a, Keeps g.st (f g a).st) (l : List α) (g : GxAcc) :
    Keeps g.st (l.foldl f g).st := by
  induction l generalizing g with
  | nil => exact Keeps.refl _
  | cons a l ih => exact (h g a).trans (ih _)

theorem GxAcc.ite_keeps {c : Prop} [Decidable c] {g h : GxAcc} (k : Keeps g.st h.st) : Keeps g.st (if c then g else h).st := by
  split
  · exact Keeps.refl _
  · exact k

theorem workGather_keeps (s c w i o) : Keeps s (workGather s c w i o).st := by
  unfold workGather
  dsimp only
  refine Keeps.after (GxAcc.finish_keeps _ _ _ _ _ _ _ _) (GxAcc.foldl_keeps (fun g p => ?_) _ (GxAcc.init s))
  split
  · exact Keeps.refl _
  · split
    · exact GxAcc.move_keeps _ _ _ _ _ _ _ _ _ _
    · exact Keeps.refl _
    · exact Keeps.refl _
    · exact storeRun_keeps _ _ _ _

theorem workScatter_keeps (s c w i o) : Keeps s (workScatter s c w i o).st := by
  unfold workScatter
  dsimp only
  refine Keeps.after (GxAcc.finish_keeps _ _ _ _ _ _ _ _) (GxAcc.foldl_keeps (fun g p => ?_) _ (GxAcc.init s))
  split
  · exact Keeps.refl _
  · split
    · exact GxAcc.move_keeps _ _ _ _ _ _ _ _ _ _
    · exact Keeps.refl _
    · exact Keeps.refl _

theorem shuffle_keeps {α : Type} (n : Nat) (xs : List α) (s : State) : Keeps s (shuffle n xs s).2 := by
  induction n generalizing xs s with
  | zero => exact Keeps.refl _
  | succ n ih =>
    cases xs with
    | nil => exact Keeps.refl _
    | cons x xs => exact (State.fresh_keeps s).trans (ih _ _)

theorem workScatterAdd_keeps (s c w i o) : Keeps s (workScatterAdd s c w i o).st := by
  unfold workScatterAdd
  dsimp only
  split
  · exact Keeps.refl _
  · split
    · exact Keeps.refl _
    · split
      · refine Keeps.after (GxAcc.finish_keeps _ _ _ _ _ _ _ _) ?_
        refine GxAcc.foldl_keeps (fun g p => ?_) _ (GxAcc.init s)
        exact GxAcc.ite_keeps (addElem_keeps _ _ _ _ _ _)
      · refine Keeps.after (GxAcc.finish_keeps _ _ _ _ _ _ _ _) ?_
        refine (shuffle_keeps _ _ s).trans (GxAcc.foldl_keeps (fun g p => ?_) _ (GxAcc.init _))
        exact GxAcc.ite_keeps (addElem_keeps _ _ _ _ _ _)

theorem storeFlat_keeps (s) (l) (codes) (pois) : Keeps s (storeFlat s l codes pois) := by
  unfold storeFlat
  with_reducible apply Keeps.foldl (fun z0 _ => ?_) ?_
  exact Keeps.refl _
  split
  with_reducible apply Keeps.after (storeRun_keeps _ _ _ _)
  exact Keeps.refl _

theorem workCsrExpand_keeps (a0) (a1) (a2) (a3) (a4) : Keeps a0 (workCsrExpand a0 a1 a2 a3 a4).st := by
  unfold workCsrExpand
  lift_lets
  intro x0
  subst x0
  intro x1
  subst x1
  intro x2
  subst x2
  intro x3
  subst x3
  intro x4
  subst x4
  intro x5
  subst x5
  intro x6
  subst x6
  intro x7
  subst x7
  intro x8
  subst x8
  intro x9
  subst x9
  intro x10
  subst x10
  intro x11
  subst x11
  intro x12
  subst x12
  intro x13
  subst x13
  intro x14
  subst x14
  intro x15
  subst x15
  intro x16
  subst x16
  intro x17
  subst x17
  intro x18
  subst x18
  intro x19
  refine Keeps.bindLet (s := a0) (x := x19) ?_ (fun h20 => ?_)
  subst x19
  with_reducible apply Keeps.after (storeFlat_keeps _ _ _ _)
  exact Keeps.refl _
  clear_value x19
  intro x21
  refine Keeps.bindLet (s := a0) (x := x21) ?_ (fun h22 => ?_)
  subst x21
  with_reducible apply Keeps.after (storeFlat_keeps _ _ _ _)
  assumption
  clear_value x21
  intro x23
  subst x23
  intro x24
  subst x24
  intro x25
  subst x25
  split
  with_reducible apply Keeps.after (Eff.bad_keeps _ _ _ _)
  exact Keeps.refl _
  with_reducible apply Keeps.iteSt
  beta_reduce
  with_reducible apply Keeps.after (Eff.done_keeps _ _ _ _)
  with_reducible apply Keeps.after (putResult_keeps _ _ _ _ _ _ _ _)
  assumption
  split
  with_reducible apply Keeps.after (Eff.bad_keeps _ _ _ _)
  assumption
  split
  split
  with_reducible apply Keeps.after (Eff.bad_keeps _ _ _ _)
  assumption
  beta_reduce
  with_reducible apply Keeps.after (Eff.done_keeps _ _ _ _)
  with_reducible apply Keeps.after (putResult_keeps _ _ _ _ _ _ _ _)
  with_reducible apply Keeps.after (noteTern_keeps _ _ _)
  with_reducible apply Keeps.after (storeAll_keeps _ _ _)
  refine Keeps.trans ?_ (dsUpdate_keeps _ _ _ _ _ _ _ _ (by assumption))
  assumption

theorem execLoad_keeps (c) (gap) (s) : Goes s (execLoad c gap s) := by
  unfold execLoad
  with_reducible apply Goes.next
  with_reducible apply Keeps.after (startCmd_keeps _ _ _ _ _ _ _ (fun z0 _ _ _ _ => ?_))
  exact Keeps.refl _
  with_reducible apply Keeps.after (workLoad_keeps _ _ _ _ _)
  exact Keeps.refl _

theorem execFill_keeps (c) (gap) (s) : Goes s (execFill c gap s) := by
  unfold execFill
  with_reducible apply Goes.next
  with_reducible apply Keeps.after (startCmd_keeps _ _ _ _ _ _ _ (fun z0 _ _ _ _ => ?_))
  exact Keeps.refl _
  with_reducible apply Keeps.after (workFill_keeps _ _ _ _ _)
  exact Keeps.refl _

theorem execStore_keeps (c) (gap) (s) : Goes s (execStore c gap s) := by
  unfold execStore
  with_reducible apply Goes.next
  with_reducible apply Keeps.after (startCmd_keeps _ _ _ _ _ _ _ (fun z0 _ _ _ _ => ?_))
  exact Keeps.refl _
  with_reducible apply Keeps.after (workStore_keeps _ _ _ _ _)
  exact Keeps.refl _

theorem execGather_keeps (c) (gap) (s) : Goes s (execGather c gap s) := by
  unfold execGather
  with_reducible apply Goes.next
  with_reducible apply Keeps.after (startCmd_keeps _ _ _ _ _ _ _ (fun z0 _ _ _ _ => ?_))
  exact Keeps.refl _
  with_reducible apply Keeps.after (workGather_keeps _ _ _ _ _)
  exact Keeps.refl _

theorem execScatter_keeps (c) (gap) (s) : Goes s (execScatter c gap s) := by
  unfold execScatter
  with_reducible apply Goes.next
  with_reducible apply Keeps.after (startCmd_keeps _ _ _ _ _ _ _ (fun z0 _ _ _ _ => ?_))
  exact Keeps.refl _
  with_reducible apply Keeps.after (workScatter_keeps _ _ _ _ _)
  exact Keeps.refl _

theorem execScatterAdd_keeps (c) (gap) (s) : Goes s (execScatterAdd c gap s) := by
  unfold execScatterAdd
  with_reducible apply Goes.next
  with_reducible apply Keeps.after (startCmd_keeps _ _ _ _ _ _ _ (fun z0 _ _ _ _ => ?_))
  exact Keeps.refl _
  with_reducible apply Keeps.after (workScatterAdd_keeps _ _ _ _ _)
  exact Keeps.refl _

theorem execCsrExpand_keeps (c) (gap) (s) : Goes s (execCsrExpand c gap s) := by
  unfold execCsrExpand
  with_reducible apply Goes.next
  with_reducible apply Keeps.after (startCmd_keeps _ _ _ _ _ _ _ (fun z0 _ _ _ _ => ?_))
  exact Keeps.refl _
  with_reducible apply Keeps.after (workCsrExpand_keeps _ _ _ _ _)
  exact Keeps.refl _

end Sys2Proof.Machine
end

