-- ==== Sys2Proof/Laws/KeepsEngine.lean ====
section
/-! SUPPORT. One lemma per operation: it keeps what the state must keep. Here: the engine instructions of MX, MV, VX, SFU, GX and the rank unit. -/

namespace Sys2Proof.Machine

/-! ### Matrix -/

theorem tileStat_keeps (s) (c) (e) (slot) (tile) (ev) : Keeps s (tileStat s c e slot tile ev) := by
  unfold tileStat
  lift_lets
  intro x0
  subst x0
  intro x1
  refine Keeps.bindLet (s := s) (x := x1) ?_ (fun h2 => ?_)
  subst x1
  with_reducible apply Keeps.after (fbPut_keeps _ _ _ _ _)
  exact Keeps.refl _
  clear_value x1
  with_reducible apply Keeps.ite
  exact Keeps.refl _
  with_reducible apply Keeps.ite
  assumption
  with_reducible apply Keeps.after (fbTrigger_keeps _ _ _)
  assumption

theorem mmSlot_keeps (s) (c) (w) (m) (t) : Keeps s (mmSlot s c w m t).1 := by
  unfold mmSlot
  lift_lets
  intro x0
  subst x0
  intro x1
  subst x1
  intro x2
  subst x2
  intro x3
  subst x3
  intro x4
  subst x4
  with_reducible apply Keeps.foldl1 (fun z5 _ _ => ?_) ?_
  with_reducible apply Keeps.fst
  exact Keeps.refl _
  lift_lets
  intro x6
  subst x6
  dsimp -zeta only
  dsimp only
  with_reducible apply Keeps.after (storeRun_keeps _ _ _ _)
  exact Keeps.refl _

theorem workMmul_keeps (s c w i o) : Keeps s (workMmul s c w i o).st := by
  unfold workMmul
  dsimp only
  split
  · exact Keeps.after (Eff.bad_keeps _ _ _ _) (State.modCore_keeps _ _ _)
  · rename_i t po te h
    have h1 := Keeps.foldlOpt (fun acc p t b h => by
      split at h
      · rename_i s po te tl h1
        split at h
        · split at h
          · cases h
          · rename_i h3
            cases h
            exact ⟨_, _, rfl, Keeps.after (tileStat_keeps _ _ _ _ _ _) ((mmSlot_keeps _ _ _ _ _).trans (dsUpdate_keeps _ _ _ _ _ _ _ _ h3))⟩
        · cases h; exact ⟨_, _, rfl, Keeps.refl _⟩
      · cases h; exact ⟨_, _, rfl, Keeps.refl _⟩) _ _ _ _ h
    obtain ⟨u, d, h1, h2⟩ := h1
    cases h1
    refine Keeps.eff (Keeps.after (Eff.done_keeps _ _ _ _) (Keeps.ite (Keeps.after (raiseNum_keeps _ _ _ _) ?_) ?_))
    all_goals exact (State.modCore_keeps _ _ _).trans h2

theorem workCvt_keeps (a0) (a1) (a2) (a3) (a4) : Keeps a0 (workCvt a0 a1 a2 a3 a4).st := by
  unfold workCvt
  lift_lets
  intro x0
  subst x0
  intro x1
  subst x1
  intro x2
  subst x2
  intro x3
  subst x3
  split
  split
  with_reducible apply Keeps.after (Eff.bad_keeps _ _ _ _)
  exact Keeps.refl _
  with_reducible apply Keeps.after (Eff.done_keeps _ _ _ _)
  with_reducible apply Keeps.after (tileStat_keeps _ _ _ _ _ _)
  with_reducible apply Keeps.after (storeAll_keeps _ _ _)
  refine Keeps.trans ?_ (dsUpdate_keeps _ _ _ _ _ _ _ _ (by assumption))
  exact Keeps.refl _

theorem workMvmul_keeps (a0) (a1) (a2) (a3) (a4) : Keeps a0 (workMvmul a0 a1 a2 a3 a4).st := by
  unfold workMvmul
  lift_lets
  intro x0
  subst x0
  intro x1
  subst x1
  intro x2
  subst x2
  intro x3
  subst x3
  intro x4
  subst x4
  intro x5
  subst x5
  intro x6
  subst x6
  intro x7
  subst x7
  intro x8
  subst x8
  intro x9
  subst x9
  split
  with_reducible apply Keeps.after (Eff.bad_keeps _ _ _ _)
  with_reducible apply Keeps.foldl1 (fun z10 _ _ => ?_) ?_
  with_reducible apply Keeps.fst
  exact Keeps.refl _
  lift_lets
  intro x11
  subst x11
  intro x12
  subst x12
  intro x13
  subst x13
  intro x14
  subst x14
  with_reducible apply Keeps.fst
  with_reducible apply Keeps.after (storeRun_keeps _ _ _ _)
  with_reducible apply Keeps.fst
  exact Keeps.refl _
  lift_lets
  intro x15
  refine Keeps.bindLet (s := a0) (x := x15) ?_ (fun h16 => ?_)
  subst x15
  with_reducible apply Keeps.after (tileStat_keeps _ _ _ _ _ _)
  refine Keeps.trans ?_ (dsUpdate_keeps _ _ _ _ _ _ _ _ (by assumption))
  with_reducible apply Keeps.foldl1 (fun z17 _ _ => ?_) ?_
  with_reducible apply Keeps.fst
  exact Keeps.refl _
  lift_lets
  intro x18
  subst x18
  intro x19
  subst x19
  intro x20
  subst x20
  intro x21
  subst x21
  with_reducible apply Keeps.fst
  with_reducible apply Keeps.after (storeRun_keeps _ _ _ _)
  with_reducible apply Keeps.fst
  exact Keeps.refl _
  clear_value x15
  intro x22
  refine Keeps.bindLet (s := a0) (x := x22) ?_ (fun h23 => ?_)
  subst x22
  with_reducible apply Keeps.ite
  with_reducible apply Keeps.after (raiseNum_keeps _ _ _ _)
  assumption
  assumption
  clear_value x22
  intro x24
  subst x24
  with_reducible apply Keeps.eff
  with_reducible apply Keeps.after (Eff.done_keeps _ _ _ _)
  assumption

theorem workRingSet_keeps (a0) (a1) (a2) (a3) (a4) : Keeps a0 (workRingSet a0 a1 a2 a3 a4).st := by
  unfold workRingSet
  with_reducible apply Keeps.after (Eff.done_keeps _ _ _ _)
  with_reducible apply Keeps.after (State.modCore_keeps _ _ _)
  exact Keeps.refl _

theorem execMmul_keeps (c) (gap) (s) : Goes s (execMmul c gap s) := by
  unfold execMmul
  with_reducible apply Goes.next
  with_reducible apply Keeps.after (startCmd_keeps _ _ _ _ _ _ _ (fun z0 _ _ _ _ => ?_))
  exact Keeps.refl _
  with_reducible apply Keeps.after (workMmul_keeps _ _ _ _ _)
  exact Keeps.refl _

theorem execCvt_keeps (c) (gap) (s) : Goes s (execCvt c gap s) := by
  unfold execCvt
  with_reducible apply Goes.next
  with_reducible apply Keeps.after (startCmd_keeps _ _ _ _ _ _ _ (fun z0 _ _ _ _ => ?_))
  exact Keeps.refl _
  with_reducible apply Keeps.after (workCvt_keeps _ _ _ _ _)
  exact Keeps.refl _

theorem execMvmul_keeps (c) (gap) (s) : Goes s (execMvmul c gap s) := by
  unfold execMvmul
  with_reducible apply Goes.next
  with_reducible apply Keeps.after (startCmd_keeps _ _ _ _ _ _ _ (fun z0 _ _ _ _ => ?_))
  exact Keeps.refl _
  with_reducible apply Keeps.after (workMvmul_keeps _ _ _ _ _)
  exact Keeps.refl _

theorem execRingSet_keeps (c) (gap) (s) : Goes s (execRingSet c gap s) := by
  unfold execRingSet
  with_reducible apply Goes.next
  with_reducible apply Keeps.after (startCmd_keeps _ _ _ _ _ _ _ (fun z0 _ _ _ _ => ?_))
  exact Keeps.refl _
  with_reducible apply Keeps.after (workRingSet_keeps _ _ _ _ _)
  exact Keeps.refl _

/-! ### Vector -/

theorem vxOut_keeps (s) (c) (w) (o) (reads) (extra) (vals) (fl) : Keeps s (vxOut s c w o reads extra vals fl).st := by
  unfold vxOut
  lift_lets
  intro x0
  subst x0
  intro x1
  subst x1
  dsimp -zeta only
  split
  with_reducible apply Keeps.after (Eff.bad_keeps _ _ _ _)
  exact Keeps.refl _
  with_reducible apply Keeps.after (Eff.done_keeps _ _ _ _)
  with_reducible apply Keeps.after (raiseNum_keeps _ _ _ _)
  with_reducible apply Keeps.after (storeAll_keeps _ _ _)
  refine Keeps.trans ?_ (dsUpdate_keeps _ _ _ _ _ _ _ _ (by assumption))
  exact Keeps.refl _

theorem workArith_keeps (op) (a1) (a2) (a3) (a4) (a5) : Keeps a1 (workArith op a1 a2 a3 a4 a5).st := by
  unfold workArith
  lift_lets
  intro x0
  subst x0
  intro x1
  subst x1
  intro x2
  subst x2
  intro x3
  subst x3
  intro x4
  subst x4
  intro x5
  subst x5
  intro x6
  subst x6
  intro x7
  subst x7
  with_reducible apply Keeps.after (vxOut_keeps _ _ _ _ _ _ _ _)
  exact Keeps.refl _

theorem workUnary_keeps (f) (a1) (a2) (a3) (a4) (a5) : Keeps a1 (workUnary f a1 a2 a3 a4 a5).st := by
  unfold workUnary
  lift_lets
  intro x0
  subst x0
  intro x1
  subst x1
  intro x2
  subst x2
  with_reducible apply Keeps.after (vxOut_keeps _ _ _ _ _ _ _ _)
  exact Keeps.refl _

theorem workAbs_keeps (a0) (a1) (a2) (a3) (a4) : Keeps a0 (workAbs a0 a1 a2 a3 a4).st := by
  unfold workAbs
  with_reducible apply Keeps.after (workUnary_keeps _ _ _ _ _ _)
  exact Keeps.refl _

theorem workNeg_keeps (a0) (a1) (a2) (a3) (a4) : Keeps a0 (workNeg a0 a1 a2 a3 a4).st := by
  unfold workNeg
  with_reducible apply Keeps.after (workUnary_keeps _ _ _ _ _ _)
  exact Keeps.refl _

theorem workSqrt_keeps (a0) (a1) (a2) (a3) (a4) : Keeps a0 (workSqrt a0 a1 a2 a3 a4).st := by
  unfold workSqrt
  with_reducible apply Keeps.after (workUnary_keeps _ _ _ _ _ _)
  exact Keeps.refl _

theorem workSfu_keeps (a0) (a1) (a2) (a3) (a4) : Keeps a0 (workSfu a0 a1 a2 a3 a4).st := by
  unfold workSfu
  with_reducible apply Keeps.after (workUnary_keeps _ _ _ _ _ _)
  exact Keeps.refl _

theorem workCopy_keeps (a0) (a1) (a2) (a3) (a4) : Keeps a0 (workCopy a0 a1 a2 a3 a4).st := by
  unfold workCopy
  lift_lets
  intro x0
  subst x0
  with_reducible apply Keeps.after (moveWork_keeps _ _ _ _ _ _ _)
  exact Keeps.refl _

theorem workDropout_keeps (a0) (a1) (a2) (a3) (a4) : Keeps a0 (workDropout a0 a1 a2 a3 a4).st := by
  unfold workDropout
  lift_lets
  intro x0
  subst x0
  intro x1
  subst x1
  intro x2
  subst x2
  intro x3
  subst x3
  intro x4
  subst x4
  with_reducible apply Keeps.after (vxOut_keeps _ _ _ _ _ _ _ _)
  exact Keeps.refl _

theorem workRandU_keeps (a0) (a1) (a2) (a3) (a4) : Keeps a0 (workRandU a0 a1 a2 a3 a4).st := by
  unfold workRandU
  lift_lets
  intro x0
  subst x0
  with_reducible apply Keeps.after (vxOut_keeps _ _ _ _ _ _ _ _)
  exact Keeps.refl _

theorem workInt_keeps (f) (a1) (a2) (a3) (a4) (a5) : Keeps a1 (workInt f a1 a2 a3 a4 a5).st := by
  unfold workInt
  lift_lets
  intro x0
  subst x0
  intro x1
  subst x1
  intro x2
  subst x2
  intro x3
  subst x3
  intro x4
  subst x4
  intro x5
  subst x5
  intro x6
  subst x6
  split
  with_reducible apply Keeps.after (Eff.bad_keeps _ _ _ _)
  exact Keeps.refl _
  with_reducible apply Keeps.after (Eff.done_keeps _ _ _ _)
  with_reducible apply Keeps.after (storeAll_keeps _ _ _)
  refine Keeps.trans ?_ (dsUpdate_keeps _ _ _ _ _ _ _ _ (by assumption))
  exact Keeps.refl _

theorem workRows_keeps (f) (extraReads) (a2) (a3) (a4) (a5) (a6) : Keeps a2 (workRows f extraReads a2 a3 a4 a5 a6).st := by
  unfold workRows
  lift_lets
  intro x0
  subst x0
  intro x1
  subst x1
  with_reducible apply Keeps.after (vxOut_keeps _ _ _ _ _ _ _ _)
  exact Keeps.refl _

theorem workSoftmax_keeps (a0) (a1) (a2) (a3) (a4) : Keeps a0 (workSoftmax a0 a1 a2 a3 a4).st := by
  unfold workSoftmax
  with_reducible apply Keeps.after (workRows_keeps _ _ _ _ _ _ _)
  exact Keeps.refl _

theorem workNorm_keeps (rms) (a1) (a2) (a3) (a4) (a5) : Keeps a1 (workNorm rms a1 a2 a3 a4 a5).st := by
  unfold workNorm
  lift_lets
  intro x0
  subst x0
  intro x1
  subst x1
  intro x2
  subst x2
  intro x3
  subst x3
  intro x4
  subst x4
  with_reducible apply Keeps.after (workRows_keeps _ _ _ _ _ _ _)
  exact Keeps.refl _

theorem workReduce_keeps (f) (a1) (a2) (a3) (a4) (a5) : Keeps a1 (workReduce f a1 a2 a3 a4 a5).st := by
  unfold workReduce
  with_reducible apply Keeps.after (workRows_keeps _ _ _ _ _ _ _)
  exact Keeps.refl _

theorem workOsmUpdate_keeps (a0) (a1) (a2) (a3) (a4) : Keeps a0 (workOsmUpdate a0 a1 a2 a3 a4).st := by
  unfold workOsmUpdate
  lift_lets
  intro x0
  subst x0
  intro x1
  subst x1
  intro x2
  subst x2
  intro x3
  refine Keeps.bindLet (s := a0) (x := x3) ?_ (fun h4 => ?_)
  subst x3
  with_reducible apply Keeps.foldl (fun z5 _ => ?_) ?_
  exact Keeps.refl _
  lift_lets
  intro x6
  refine Keeps.bindLet (s := z5) (x := x6) ?_ (fun h7 => ?_)
  subst x6
  with_reducible apply Keeps.after (State.write_keeps _ _ _ _)
  exact Keeps.refl _
  clear_value x6
  with_reducible apply Keeps.ite
  with_reducible apply Keeps.after (State.mark_keeps _ _ _)
  assumption
  assumption
  clear_value x3
  intro x8
  subst x8
  with_reducible apply Keeps.eff
  with_reducible apply Keeps.after (vxOut_keeps _ _ _ _ _ _ _ _)
  assumption

theorem workOsmFinal_keeps (a0) (a1) (a2) (a3) (a4) : Keeps a0 (workOsmFinal a0 a1 a2 a3 a4).st := by
  unfold workOsmFinal
  lift_lets
  intro x0
  subst x0
  with_reducible apply Keeps.after (workRows_keeps _ _ _ _ _ _ _)
  exact Keeps.refl _

theorem workVld_keeps (a0) (a1) (a2) (a3) (a4) : Keeps a0 (workVld a0 a1 a2 a3 a4).st := by
  unfold workVld
  lift_lets
  intro x0
  subst x0
  intro x1
  subst x1
  intro x2
  subst x2
  intro x3
  subst x3
  intro x4
  subst x4
  with_reducible apply Keeps.after (Eff.done_keeps _ _ _ _)
  with_reducible apply Keeps.after (State.modCore_keeps _ _ _)
  exact Keeps.refl _

theorem workVst_keeps (a0) (a1) (a2) (a3) (a4) : Keeps a0 (workVst a0 a1 a2 a3 a4).st := by
  unfold workVst
  lift_lets
  intro x0
  subst x0
  intro x1
  subst x1
  intro x2
  subst x2
  intro x3
  subst x3
  intro x4
  subst x4
  with_reducible apply Keeps.iteSt
  split
  with_reducible apply Keeps.after (Eff.bad_keeps _ _ _ _)
  exact Keeps.refl _
  with_reducible apply Keeps.after (Eff.done_keeps _ _ _ _)
  with_reducible apply Keeps.after (storeRun_keeps _ _ _ _)
  refine Keeps.trans ?_ (dsUpdate_keeps _ _ _ _ _ _ _ _ (by assumption))
  exact Keeps.refl _
  with_reducible apply Keeps.after (vxOut_keeps _ _ _ _ _ _ _ _)
  exact Keeps.refl _

theorem vxCmd_keeps (op) (work) (c) (gap) (s) (h_work : ∀ s c w i o, Keeps s (work s c w i o).st) : Goes s (vxCmd op work c gap s) := by
  unfold vxCmd
  with_reducible apply Goes.next
  with_reducible apply Keeps.after (startCmd_keeps _ _ _ _ _ _ _ (fun z0 _ _ _ _ => ?_))
  exact Keeps.refl _
  with_reducible apply Keeps.after (h_work _ _ _ _ _)
  exact Keeps.refl _

theorem execAdd_keeps (c) (gap) (s) : Goes s (execAdd c gap s) := by
  unfold execAdd
  with_reducible apply vxCmd_keeps _ _ _ _ _ (fun z0 _ _ _ _ => ?_)
  with_reducible apply Keeps.after (workArith_keeps _ _ _ _ _ _)
  exact Keeps.refl _

theorem execSub_keeps (c) (gap) (s) : Goes s (execSub c gap s) := by
  unfold execSub
  with_reducible apply vxCmd_keeps _ _ _ _ _ (fun z0 _ _ _ _ => ?_)
  with_reducible apply Keeps.after (workArith_keeps _ _ _ _ _ _)
  exact Keeps.refl _

theorem execMul_keeps (c) (gap) (s) : Goes s (execMul c gap s) := by
  unfold execMul
  with_reducible apply vxCmd_keeps _ _ _ _ _ (fun z0 _ _ _ _ => ?_)
  with_reducible apply Keeps.after (workArith_keeps _ _ _ _ _ _)
  exact Keeps.refl _

theorem execFma_keeps (c) (gap) (s) : Goes s (execFma c gap s) := by
  unfold execFma
  with_reducible apply vxCmd_keeps _ _ _ _ _ (fun z0 _ _ _ _ => ?_)
  with_reducible apply Keeps.after (workArith_keeps _ _ _ _ _ _)
  exact Keeps.refl _

theorem execDiv_keeps (c) (gap) (s) : Goes s (execDiv c gap s) := by
  unfold execDiv
  with_reducible apply vxCmd_keeps _ _ _ _ _ (fun z0 _ _ _ _ => ?_)
  with_reducible apply Keeps.after (workArith_keeps _ _ _ _ _ _)
  exact Keeps.refl _

theorem execMin_keeps (c) (gap) (s) : Goes s (execMin c gap s) := by
  unfold execMin
  with_reducible apply vxCmd_keeps _ _ _ _ _ (fun z0 _ _ _ _ => ?_)
  with_reducible apply Keeps.after (workArith_keeps _ _ _ _ _ _)
  exact Keeps.refl _

theorem execMax_keeps (c) (gap) (s) : Goes s (execMax c gap s) := by
  unfold execMax
  with_reducible apply vxCmd_keeps _ _ _ _ _ (fun z0 _ _ _ _ => ?_)
  with_reducible apply Keeps.after (workArith_keeps _ _ _ _ _ _)
  exact Keeps.refl _

theorem execAbs_keeps (c) (gap) (s) : Goes s (execAbs c gap s) := by
  unfold execAbs
  with_reducible apply vxCmd_keeps _ _ _ _ _ (fun z0 _ _ _ _ => ?_)
  with_reducible apply Keeps.after (workAbs_keeps _ _ _ _ _)
  exact Keeps.refl _

theorem execNeg_keeps (c) (gap) (s) : Goes s (execNeg c gap s) := by
  unfold execNeg
  with_reducible apply vxCmd_keeps _ _ _ _ _ (fun z0 _ _ _ _ => ?_)
  with_reducible apply Keeps.after (workNeg_keeps _ _ _ _ _)
  exact Keeps.refl _

theorem execSqrt_keeps (c) (gap) (s) : Goes s (execSqrt c gap s) := by
  unfold execSqrt
  with_reducible apply vxCmd_keeps _ _ _ _ _ (fun z0 _ _ _ _ => ?_)
  with_reducible apply Keeps.after (workSqrt_keeps _ _ _ _ _)
  exact Keeps.refl _

theorem execCopy_keeps (c) (gap) (s) : Goes s (execCopy c gap s) := by
  unfold execCopy
  with_reducible apply vxCmd_keeps _ _ _ _ _ (fun z0 _ _ _ _ => ?_)
  with_reducible apply Keeps.after (workCopy_keeps _ _ _ _ _)
  exact Keeps.refl _

theorem execSfu_keeps (c) (gap) (s) : Goes s (execSfu c gap s) := by
  unfold execSfu
  with_reducible apply vxCmd_keeps _ _ _ _ _ (fun z0 _ _ _ _ => ?_)
  with_reducible apply Keeps.after (workSfu_keeps _ _ _ _ _)
  exact Keeps.refl _

theorem execDropout_keeps (c) (gap) (s) : Goes s (execDropout c gap s) := by
  unfold execDropout
  with_reducible apply vxCmd_keeps _ _ _ _ _ (fun z0 _ _ _ _ => ?_)
  with_reducible apply Keeps.after (workDropout_keeps _ _ _ _ _)
  exact Keeps.refl _

theorem execRandU_keeps (c) (gap) (s) : Goes s (execRandU c gap s) := by
  unfold execRandU
  with_reducible apply vxCmd_keeps _ _ _ _ _ (fun z0 _ _ _ _ => ?_)
  with_reducible apply Keeps.after (workRandU_keeps _ _ _ _ _)
  exact Keeps.refl _

theorem execIadd_keeps (c) (gap) (s) : Goes s (execIadd c gap s) := by
  unfold execIadd
  with_reducible apply vxCmd_keeps _ _ _ _ _ (fun z0 _ _ _ _ => ?_)
  with_reducible apply Keeps.after (workInt_keeps _ _ _ _ _ _)
  exact Keeps.refl _

theorem execIsub_keeps (c) (gap) (s) : Goes s (execIsub c gap s) := by
  unfold execIsub
  with_reducible apply vxCmd_keeps _ _ _ _ _ (fun z0 _ _ _ _ => ?_)
  with_reducible apply Keeps.after (workInt_keeps _ _ _ _ _ _)
  exact Keeps.refl _

theorem execImin_keeps (c) (gap) (s) : Goes s (execImin c gap s) := by
  unfold execImin
  with_reducible apply vxCmd_keeps _ _ _ _ _ (fun z0 _ _ _ _ => ?_)
  with_reducible apply Keeps.after (workInt_keeps _ _ _ _ _ _)
  exact Keeps.refl _

theorem execImax_keeps (c) (gap) (s) : Goes s (execImax c gap s) := by
  unfold execImax
  with_reducible apply vxCmd_keeps _ _ _ _ _ (fun z0 _ _ _ _ => ?_)
  with_reducible apply Keeps.after (workInt_keeps _ _ _ _ _ _)
  exact Keeps.refl _

theorem execAnd_keeps (c) (gap) (s) : Goes s (execAnd c gap s) := by
  unfold execAnd
  with_reducible apply vxCmd_keeps _ _ _ _ _ (fun z0 _ _ _ _ => ?_)
  with_reducible apply Keeps.after (workInt_keeps _ _ _ _ _ _)
  exact Keeps.refl _

theorem execOr_keeps (c) (gap) (s) : Goes s (execOr c gap s) := by
  unfold execOr
  with_reducible apply vxCmd_keeps _ _ _ _ _ (fun z0 _ _ _ _ => ?_)
  with_reducible apply Keeps.after (workInt_keeps _ _ _ _ _ _)
  exact Keeps.refl _

theorem execXor_keeps (c) (gap) (s) : Goes s (execXor c gap s) := by
  unfold execXor
  with_reducible apply vxCmd_keeps _ _ _ _ _ (fun z0 _ _ _ _ => ?_)
  with_reducible apply Keeps.after (workInt_keeps _ _ _ _ _ _)
  exact Keeps.refl _

theorem execSoftmax_keeps (c) (gap) (s) : Goes s (execSoftmax c gap s) := by
  unfold execSoftmax
  with_reducible apply vxCmd_keeps _ _ _ _ _ (fun z0 _ _ _ _ => ?_)
  with_reducible apply Keeps.after (workSoftmax_keeps _ _ _ _ _)
  exact Keeps.refl _

theorem execLnorm_keeps (c) (gap) (s) : Goes s (execLnorm c gap s) := by
  unfold execLnorm
  with_reducible apply vxCmd_keeps _ _ _ _ _ (fun z0 _ _ _ _ => ?_)
  with_reducible apply Keeps.after (workNorm_keeps _ _ _ _ _ _)
  exact Keeps.refl _

theorem execRmsnorm_keeps (c) (gap) (s) : Goes s (execRmsnorm c gap s) := by
  unfold execRmsnorm
  with_reducible apply vxCmd_keeps _ _ _ _ _ (fun z0 _ _ _ _ => ?_)
  with_reducible apply Keeps.after (workNorm_keeps _ _ _ _ _ _)
  exact Keeps.refl _

theorem execOsmUpdate_keeps (c) (gap) (s) : Goes s (execOsmUpdate c gap s) := by
  unfold execOsmUpdate
  with_reducible apply vxCmd_keeps _ _ _ _ _ (fun z0 _ _ _ _ => ?_)
  with_reducible apply Keeps.after (workOsmUpdate_keeps _ _ _ _ _)
  exact Keeps.refl _

theorem execOsmFinal_keeps (c) (gap) (s) : Goes s (execOsmFinal c gap s) := by
  unfold execOsmFinal
  with_reducible apply vxCmd_keeps _ _ _ _ _ (fun z0 _ _ _ _ => ?_)
  with_reducible apply Keeps.after (workOsmFinal_keeps _ _ _ _ _)
  exact Keeps.refl _

theorem execRsum_keeps (c) (gap) (s) : Goes s (execRsum c gap s) := by
  unfold execRsum
  with_reducible apply vxCmd_keeps _ _ _ _ _ (fun z0 _ _ _ _ => ?_)
  with_reducible apply Keeps.after (workReduce_keeps _ _ _ _ _ _)
  exact Keeps.refl _

theorem execRmax_keeps (c) (gap) (s) : Goes s (execRmax c gap s) := by
  unfold execRmax
  with_reducible apply vxCmd_keeps _ _ _ _ _ (fun z0 _ _ _ _ => ?_)
  with_reducible apply Keeps.after (workReduce_keeps _ _ _ _ _ _)
  exact Keeps.refl _

theorem execVld_keeps (c) (gap) (s) : Goes s (execVld c gap s) := by
  unfold execVld
  with_reducible apply vxCmd_keeps _ _ _ _ _ (fun z0 _ _ _ _ => ?_)
  with_reducible apply Keeps.after (workVld_keeps _ _ _ _ _)
  exact Keeps.refl _

theorem execVst_keeps (c) (gap) (s) : Goes s (execVst c gap s) := by
  unfold execVst
  with_reducible apply vxCmd_keeps _ _ _ _ _ (fun z0 _ _ _ _ => ?_)
  with_reducible apply Keeps.after (workVst_keeps _ _ _ _ _)
  exact Keeps.refl _

/-! ### Rank -/

theorem rkFinish_keeps (s) (c) (w) (o) (out) (need) (aux) (flags) (p) : Keeps s (rkFinish s c w o out need aux flags p).st := by
  unfold rkFinish
  with_reducible apply Keeps.after (Eff.done_keeps _ _ _ _)
  with_reducible apply Keeps.after (putResult_keeps _ _ _ _ _ _ _ _)
  exact Keeps.refl _

theorem workSort_keeps (a0) (a1) (a2) (a3) (a4) : Keeps a0 (workSort a0 a1 a2 a3 a4).st := by
  unfold workSort
  lift_lets
  intro x0
  subst x0
  intro x1
  subst x1
  intro x2
  subst x2
  intro x3
  subst x3
  intro x4
  subst x4
  intro x5
  subst x5
  intro x6
  refine Keeps.bindLet (s := a0) (x := x6) ?_ (fun h7 => ?_)
  subst x6
  with_reducible apply Keeps.after (storeAll_keeps _ _ _)
  exact Keeps.refl _
  clear_value x6
  intro x8
  refine Keeps.bindLet (s := a0) (x := x8) ?_ (fun h9 => ?_)
  subst x8
  with_reducible apply Keeps.ite
  assumption
  with_reducible apply Keeps.after (storeAll_keeps _ _ _)
  assumption
  clear_value x8
  with_reducible apply Keeps.after (Eff.done_keeps _ _ _ _)
  assumption

theorem workList_keeps (f) (a1) (a2) (a3) (a4) (a5) : Keeps a1 (workList f a1 a2 a3 a4 a5).st := by
  unfold workList
  lift_lets
  intro x0
  subst x0
  intro x1
  subst x1
  intro x2
  subst x2
  intro x3
  subst x3
  dsimp -zeta only
  dsimp only
  with_reducible apply Keeps.after (rkFinish_keeps _ _ _ _ _ _ _ _ _)
  with_reducible apply Keeps.after (storeFlat_keeps _ _ _ _)
  exact Keeps.refl _

theorem workUnique_keeps (a0) (a1) (a2) (a3) (a4) : Keeps a0 (workUnique a0 a1 a2 a3 a4).st := by
  unfold workUnique
  lift_lets
  intro x0
  subst x0
  intro x1
  subst x1
  intro x2
  subst x2
  intro x3
  subst x3
  intro x4
  subst x4
  intro x5
  refine Keeps.bindLet (s := a0) (x := x5) ?_ (fun h6 => ?_)
  subst x5
  with_reducible apply Keeps.after (storeFlat_keeps _ _ _ _)
  exact Keeps.refl _
  clear_value x5
  intro x7
  refine Keeps.bindLet (s := a0) (x := x7) ?_ (fun h8 => ?_)
  subst x7
  with_reducible apply Keeps.ite
  assumption
  with_reducible apply Keeps.after (storeFlat_keeps _ _ _ _)
  assumption
  clear_value x7
  with_reducible apply Keeps.after (rkFinish_keeps _ _ _ _ _ _ _ _ _)
  assumption

theorem workTopk_keeps (a0) (a1) (a2) (a3) (a4) : Keeps a0 (workTopk a0 a1 a2 a3 a4).st := by
  unfold workTopk
  lift_lets
  intro x0
  subst x0
  intro x1
  subst x1
  intro x2
  subst x2
  intro x3
  subst x3
  intro x4
  subst x4
  intro x5
  subst x5
  intro x6
  subst x6
  intro x7
  subst x7
  intro x8
  subst x8
  intro x9
  subst x9
  intro x10
  subst x10
  intro x11
  subst x11
  intro x12
  subst x12
  intro x13
  subst x13
  intro x14
  subst x14
  intro x15
  refine Keeps.bindLet (s := a0) (x := x15) ?_ (fun h16 => ?_)
  subst x15
  with_reducible apply Keeps.after (storeFlat_keeps _ _ _ _)
  exact Keeps.refl _
  clear_value x15
  intro x17
  refine Keeps.bindLet (s := a0) (x := x17) ?_ (fun h18 => ?_)
  subst x17
  with_reducible apply Keeps.ite
  with_reducible apply Keeps.after (storeFlat_keeps _ _ _ _)
  assumption
  with_reducible apply Keeps.after (storeFlat_keeps _ _ _ _)
  exact Keeps.refl _
  clear_value x17
  with_reducible apply Keeps.after (rkFinish_keeps _ _ _ _ _ _ _ _ _)
  assumption

theorem rkCounted_keeps (s) (c) (w) (o) (n) (ev) (fin) (h_fin : ∀ s, Keeps s (fin s).st) : Keeps s ((rkCounted s c w o n ev fin).st) := by
  unfold rkCounted
  lift_lets
  intro x0
  subst x0
  split
  with_reducible apply Keeps.after (Eff.bad_keeps _ _ _ _)
  exact Keeps.refl _
  with_reducible apply Keeps.after (h_fin _)
  refine Keeps.trans ?_ (dsUpdate_keeps _ _ _ _ _ _ _ _ (by assumption))
  exact Keeps.refl _

theorem workSegment_keeps (a0) (a1) (a2) (a3) (a4) : Keeps a0 (workSegment a0 a1 a2 a3 a4).st := by
  unfold workSegment
  lift_lets
  intro x0
  subst x0
  intro x1
  subst x1
  intro x2
  subst x2
  intro x3
  subst x3
  intro x4
  subst x4
  intro x5
  subst x5
  intro x6
  subst x6
  intro x7
  subst x7
  with_reducible apply Keeps.after (rkCounted_keeps _ _ _ _ _ _ _ (fun z8 => ?_))
  exact Keeps.refl _
  lift_lets
  intro x9
  refine Keeps.bindLet (s := z8) (x := x9) ?_ (fun h10 => ?_)
  subst x9
  with_reducible apply Keeps.after (storeFlat_keeps _ _ _ _)
  exact Keeps.refl _
  clear_value x9
  intro x11
  refine Keeps.bindLet (s := z8) (x := x11) ?_ (fun h12 => ?_)
  subst x11
  with_reducible apply Keeps.ite
  assumption
  with_reducible apply Keeps.after (storeFlat_keeps _ _ _ _)
  assumption
  clear_value x11
  with_reducible apply Keeps.after (rkFinish_keeps _ _ _ _ _ _ _ _ _)
  assumption

theorem workHist_keeps (a0) (a1) (a2) (a3) (a4) : Keeps a0 (workHist a0 a1 a2 a3 a4).st := by
  unfold workHist
  lift_lets
  intro x0
  subst x0
  intro x1
  subst x1
  intro x2
  subst x2
  intro x3
  subst x3
  intro x4
  subst x4
  intro x5
  subst x5
  intro x6
  subst x6
  intro x7
  subst x7
  intro x8
  subst x8
  with_reducible apply Keeps.after (rkCounted_keeps _ _ _ _ _ _ _ (fun z9 => ?_))
  exact Keeps.refl _
  lift_lets
  intro x10
  subst x10
  with_reducible apply Keeps.iteSt
  with_reducible apply Keeps.eff
  with_reducible apply Keeps.after (rkFinish_keeps _ _ _ _ _ _ _ _ _)
  with_reducible apply Keeps.after (storeFlat_keeps _ _ _ _)
  exact Keeps.refl _
  with_reducible apply Keeps.after (rkFinish_keeps _ _ _ _ _ _ _ _ _)
  with_reducible apply Keeps.after (storeFlat_keeps _ _ _ _)
  exact Keeps.refl _

theorem rkCmd_keeps (op) (work) (c) (gap) (s) (h_work : ∀ s c w i o, Keeps s (work s c w i o).st) : Goes s (rkCmd op work c gap s) := by
  unfold rkCmd
  with_reducible apply Goes.next
  with_reducible apply Keeps.after (startCmd_keeps _ _ _ _ _ _ _ (fun z0 _ _ _ _ => ?_))
  exact Keeps.refl _
  with_reducible apply Keeps.after (h_work _ _ _ _ _)
  exact Keeps.refl _

theorem execSort_keeps (c) (gap) (s) : Goes s (execSort c gap s) := by
  unfold execSort
  with_reducible apply rkCmd_keeps _ _ _ _ _ (fun z0 _ _ _ _ => ?_)
  with_reducible apply Keeps.after (workSort_keeps _ _ _ _ _)
  exact Keeps.refl _

theorem execMerge_keeps (c) (gap) (s) : Goes s (execMerge c gap s) := by
  unfold execMerge
  with_reducible apply rkCmd_keeps _ _ _ _ _ (fun z0 _ _ _ _ => ?_)
  with_reducible apply Keeps.after (workList_keeps _ _ _ _ _ _)
  exact Keeps.refl _

theorem execUnion_keeps (c) (gap) (s) : Goes s (execUnion c gap s) := by
  unfold execUnion
  with_reducible apply rkCmd_keeps _ _ _ _ _ (fun z0 _ _ _ _ => ?_)
  with_reducible apply Keeps.after (workList_keeps _ _ _ _ _ _)
  exact Keeps.refl _

theorem execIntersect_keeps (c) (gap) (s) : Goes s (execIntersect c gap s) := by
  unfold execIntersect
  with_reducible apply rkCmd_keeps _ _ _ _ _ (fun z0 _ _ _ _ => ?_)
  with_reducible apply Keeps.after (workList_keeps _ _ _ _ _ _)
  exact Keeps.refl _

theorem execUnique_keeps (c) (gap) (s) : Goes s (execUnique c gap s) := by
  unfold execUnique
  with_reducible apply rkCmd_keeps _ _ _ _ _ (fun z0 _ _ _ _ => ?_)
  with_reducible apply Keeps.after (workUnique_keeps _ _ _ _ _)
  exact Keeps.refl _

theorem execTopk_keeps (c) (gap) (s) : Goes s (execTopk c gap s) := by
  unfold execTopk
  with_reducible apply rkCmd_keeps _ _ _ _ _ (fun z0 _ _ _ _ => ?_)
  with_reducible apply Keeps.after (workTopk_keeps _ _ _ _ _)
  exact Keeps.refl _

theorem execSegment_keeps (c) (gap) (s) : Goes s (execSegment c gap s) := by
  unfold execSegment
  with_reducible apply rkCmd_keeps _ _ _ _ _ (fun z0 _ _ _ _ => ?_)
  with_reducible apply Keeps.after (workSegment_keeps _ _ _ _ _)
  exact Keeps.refl _

theorem execHist_keeps (c) (gap) (s) : Goes s (execHist c gap s) := by
  unfold execHist
  with_reducible apply rkCmd_keeps _ _ _ _ _ (fun z0 _ _ _ _ => ?_)
  with_reducible apply Keeps.after (workHist_keeps _ _ _ _ _)
  exact Keeps.refl _

end Sys2Proof.Machine
end

