-- ==== Sys2Proof/Laws/KeepsFabric.lean ====
section
/-! SUPPORT. One lemma per operation: it keeps what the state must keep. Here: landing, the exchange, the sequencer and the links. -/

namespace Sys2Proof.Machine

/-! ### Landing -/

theorem State.modFab_keeps (s) (f) : Keeps s (State.modFab s f) := by
  unfold State.modFab
  with_reducible apply Keeps.upd ?_ rfl rfl
  exact Keeps.refl _

theorem injectAt_keeps (s) (port) (m) : Keeps s (injectAt s port m) := by
  unfold injectAt
  with_reducible apply Keeps.after (State.modFab_keeps _ _)
  exact Keeps.refl _

theorem inject_keeps (s) (m) : Keeps s (inject s m) := by
  unfold inject
  with_reducible apply Keeps.after (injectAt_keeps _ _ _)
  exact Keeps.refl _

theorem answer_keeps (s) (m) (reason) : Keeps s (answer s m reason) := by
  unfold answer
  with_reducible apply Keeps.after (inject_keeps _ _)
  exact Keeps.refl _

theorem refuse_keeps (s) (m) (reason) : Keeps s (refuse s m reason) := by
  unfold refuse
  with_reducible apply Keeps.after (answer_keeps _ _ _)
  with_reducible apply Keeps.after (State.modFab_keeps _ _)
  exact Keeps.refl _

theorem ack_keeps (s) (m) : Keeps s (ack s m) := by
  unfold ack
  with_reducible apply Keeps.ite
  with_reducible apply Keeps.after (answer_keeps _ _ _)
  exact Keeps.refl _
  exact Keeps.refl _

theorem remoteReject_keeps (s) (c) (a) (target) : Keeps s (remoteReject s c a target) := by
  unfold remoteReject
  lift_lets
  intro x0
  subst x0
  intro x1
  subst x1
  split
  with_reducible apply Keeps.after (faultWith_keeps _ _ _ _ _ _)
  exact Keeps.refl _
  split
  with_reducible apply Keeps.after (faultWith_keeps _ _ _ _ _ _)
  exact Keeps.refl _
  split
  with_reducible apply Keeps.after (faultWith_keeps _ _ _ _ _ _)
  refine Keeps.pair2 (by assumption) ?_
  with_reducible apply Keeps.after (State.fresh_keeps _)
  exact Keeps.refl _

theorem takeAnswer_keeps (dev) (s) (a) : Keeps s (takeAnswer dev s a) := by
  unfold takeAnswer
  lift_lets
  intro x0
  subst x0
  with_reducible apply Keeps.ite
  with_reducible apply Keeps.after (State.modFab_keeps _ _)
  exact Keeps.refl _
  with_reducible apply Keeps.ite
  split
  lift_lets
  intro x1
  refine Keeps.bindLet (s := s) (x := x1) ?_ (fun h2 => ?_)
  subst x1
  with_reducible apply Keeps.after (State.modFab_keeps _ _)
  refine Keeps.pair2 (by assumption) ?_
  split
  with_reducible apply Keeps.snd
  exact Keeps.refl _
  split
  with_reducible apply Keeps.snd
  refine Keeps.pair2 (by assumption) ?_
  with_reducible apply Keeps.after (State.fresh_keeps _)
  exact Keeps.refl _
  clear_value x1
  split
  with_reducible apply Keeps.after (remoteReject_keeps _ _ _ _)
  assumption
  assumption
  with_reducible apply Keeps.after (State.modFab_keeps _ _)
  exact Keeps.refl _

theorem routerSend_keeps (s) (port) (src) (m) : Keeps s ((routerSend s port src m).1) := by
  unfold routerSend
  lift_lets
  intro x0
  subst x0
  intro x1
  subst x1
  intro x2
  subst x2
  intro x3
  subst x3
  intro x4
  refine Keeps.bindLet (s := s) (x := x4) ?_ (fun h5 => ?_)
  subst x4
  with_reducible apply Keeps.after (State.modFab_keeps _ _)
  exact Keeps.refl _
  clear_value x4
  with_reducible apply Keeps.fst
  with_reducible apply Keeps.after (injectAt_keeps _ _ _)
  assumption

theorem fwSend_keeps (s) (port) (m) : Keeps s (fwSend s port m) := by
  unfold fwSend
  with_reducible apply Keeps.ite
  with_reducible apply Keeps.after (routerSend_keeps _ _ _ _)
  exact Keeps.refl _
  with_reducible apply Keeps.after (State.modFab_keeps _ _)
  exact Keeps.refl _

theorem sendOne_keeps (s) (c) (m) : Keeps s (sendOne s c m) := by
  unfold sendOne
  lift_lets
  intro x0
  subst x0
  split
  with_reducible apply Keeps.after (fbPut_keeps _ _ _ _ _)
  refine Keeps.pair1 (by assumption) ?_
  with_reducible apply Keeps.after (routerSend_keeps _ _ _ _)
  with_reducible apply Keeps.after (State.modCore_keeps _ _ _)
  exact Keeps.refl _

theorem sendMsgs_keeps (c) (s) (ms) : Keeps s (sendMsgs c s ms).1 := by
  induction ms generalizing s with
  | nil => exact Keeps.refl _
  | cons m t ih =>
    unfold sendMsgs
    with_reducible apply Keeps.iteFst
    with_reducible apply Keeps.after (ih _)
    with_reducible apply Keeps.after (sendOne_keeps _ _ _)
    exact Keeps.refl _
    with_reducible apply Keeps.fst
    exact Keeps.refl _

theorem pumpFw_keeps (n) (s) : Keeps s (pumpFw n s) := by
  induction n generalizing s with
  | zero => exact Keeps.refl _
  | succ n ih =>
    unfold pumpFw
    split
    exact Keeps.refl _
    with_reducible apply Keeps.ite
    with_reducible apply Keeps.after (ih _)
    with_reducible apply Keeps.after (routerSend_keeps _ _ _ _)
    with_reducible apply Keeps.after (State.modFab_keeps _ _)
    exact Keeps.refl _
    exact Keeps.refl _

theorem pumpCore_keeps (s) (c) : Keeps s (pumpCore s c) := by
  unfold pumpCore
  split
  exact Keeps.refl _
  lift_lets
  intro x0
  subst x0
  with_reducible apply Keeps.after (State.modCore_keeps _ _ _)
  with_reducible apply Keeps.after (sendMsgs_keeps _ _ _)
  exact Keeps.refl _

theorem pumpSends_keeps (s) : Keeps s (pumpSends s) := by
  unfold pumpSends
  with_reducible apply Keeps.foldl (fun z0 _ => ?_) ?_
  with_reducible apply Keeps.after (pumpFw_keeps _ _)
  exact Keeps.refl _
  with_reducible apply Keeps.after (pumpCore_keeps _ _)
  exact Keeps.refl _

theorem modTally_keeps (s) (c) (g) (f) : Keeps s (modTally s c g f) := by
  unfold modTally
  with_reducible apply Keeps.after (State.modCore_keeps _ _ _)
  exact Keeps.refl _

theorem modXc_keeps (s) (p) (f) : Keeps s (modXc s p f) := by
  unfold modXc
  with_reducible apply Keeps.after (State.modPart_keeps _ _ _)
  exact Keeps.refl _

theorem exchDrop_keeps (s) (p) (m) (cause) : Keeps s (exchDrop s p m cause) := by
  unfold exchDrop
  with_reducible apply Keeps.after (record_keeps _ _ _ _ _)
  exact Keeps.refl _

theorem landBytes_keeps (s) (a1) (bs) (off) (poison) : Keeps s (landBytes s a1 bs off poison) := by
  unfold landBytes
  lift_lets
  intro x0
  subst x0
  with_reducible apply Keeps.foldl (fun z1 _ => ?_) ?_
  with_reducible apply Keeps.after (State.write_keeps _ _ _ _)
  exact Keeps.refl _
  lift_lets
  intro x2
  subst x2
  intro x3
  subst x3
  with_reducible apply Keeps.ite
  with_reducible apply Keeps.after (State.mark_keeps _ _ _)
  exact Keeps.refl _
  exact Keeps.refl _

theorem addChunk_keeps (s) (c) (g) (a3) (bs) (po) : Keeps s (addChunk s c g a3 bs po) := by
  unfold addChunk
  lift_lets
  intro x0
  refine Keeps.bindLet (s := s) (x := x0) ?_ (fun h1 => ?_)
  subst x0
  with_reducible apply Keeps.ite
  exact Keeps.refl _
  with_reducible apply Keeps.after (meetErrs_keeps _ _)
  exact Keeps.refl _
  clear_value x0
  intro x2
  subst x2
  intro x3
  subst x3
  intro x4
  subst x4
  intro x5
  subst x5
  intro x6
  subst x6
  intro x7
  refine Keeps.bindLet (s := s) (x := x7) ?_ (fun h8 => ?_)
  subst x7
  with_reducible apply Keeps.after (State.write_keeps _ _ _ _)
  assumption
  clear_value x7
  intro x9
  refine Keeps.bindLet (s := s) (x := x9) ?_ (fun h10 => ?_)
  subst x9
  with_reducible apply Keeps.foldl (fun z11 _ => ?_) ?_
  assumption
  split
  with_reducible apply Keeps.ite
  with_reducible apply Keeps.after (State.mark_keeps _ _ _)
  exact Keeps.refl _
  exact Keeps.refl _
  clear_value x9
  intro x12
  subst x12
  split
  dsimp -zeta only
  dsimp only
  with_reducible apply Keeps.after (State.modCore_keeps _ _ _)
  assumption

theorem nextRankOf_keeps (s) (c) (g) : Keeps s (nextRankOf s c g) := by
  unfold nextRankOf
  with_reducible apply Keeps.after (State.modCore_keeps _ _ _)
  with_reducible apply Keeps.after (modTally_keeps _ _ _ _)
  exact Keeps.refl _

theorem advanceRank_keeps (c) (p) (g) (total) (a4) (a5) : Keeps a5 (advanceRank c p g total a4 a5) := by
  unfold advanceRank
  split
  exact Keeps.refl _
  lift_lets
  intro x0
  subst x0
  intro x1
  refine Keeps.bindLet (s := a5) (x := x1) ?_ (fun h2 => ?_)
  subst x1
  with_reducible apply Keeps.after (nextRankOf_keeps _ _ _)
  exact Keeps.refl _
  clear_value x1
  intro x3
  subst x3
  intro x4
  subst x4
  intro x5
  subst x5
  intro x6
  refine Keeps.bindLet (s := a5) (x := x6) ?_ (fun h7 => ?_)
  subst x6
  with_reducible apply Keeps.foldl (fun z8 _ => ?_) ?_
  assumption
  lift_lets
  intro x9
  subst x9
  with_reducible apply Keeps.after (addChunk_keeps _ _ _ _ _ _)
  exact Keeps.refl _
  clear_value x6
  intro x10
  refine Keeps.bindLet (s := a5) (x := x10) ?_ (fun h11 => ?_)
  subst x10
  with_reducible apply Keeps.after (modXc_keeps _ _ _)
  assumption
  clear_value x10
  with_reducible apply Keeps.ite
  exact Keeps.refl _
  split
  assumption
  with_reducible apply Keeps.after (advanceRank_keeps _ _ _ _ _ _)
  assumption

theorem landReduction_keeps (s) (c) (p) (m) : Keeps s (landReduction s c p m).state := by
  unfold landReduction
  lift_lets
  intro x0
  subst x0
  intro x1
  subst x1
  intro x2
  subst x2
  intro x3
  subst x3
  intro x4
  subst x4
  intro x5
  refine Keeps.bindLet (s := s) (x := x5) ?_ (fun h6 => ?_)
  subst x5
  with_reducible apply Keeps.after (modTally_keeps _ _ _ _)
  exact Keeps.refl _
  clear_value x5
  intro x7
  refine Keeps.bindLet (s := s) (x := x7) ?_ (fun h8 => ?_)
  subst x7
  with_reducible apply Keeps.after (addChunk_keeps _ _ _ _ _ _)
  assumption
  clear_value x7
  intro x9
  subst x9
  with_reducible apply Keeps.iteLand
  with_reducible apply Keeps.landed
  with_reducible apply Keeps.after (exchDrop_keeps _ _ _ _)
  with_reducible apply Keeps.after (modXc_keeps _ _ _)
  exact Keeps.refl _
  with_reducible apply Keeps.iteLand
  with_reducible apply Keeps.landed
  with_reducible apply Keeps.after (modXc_keeps _ _ _)
  exact Keeps.refl _
  with_reducible apply Keeps.iteLand
  with_reducible apply Keeps.landed
  with_reducible apply Keeps.after (advanceRank_keeps _ _ _ _ _ _)
  assumption
  split
  lift_lets
  intro x10
  refine Keeps.bindLet (s := s) (x := x10) ?_ (fun h11 => ?_)
  subst x10
  with_reducible apply Keeps.after (landBytes_keeps _ _ _ _ _)
  assumption
  clear_value x10
  with_reducible apply Keeps.iteLand
  with_reducible apply Keeps.landed
  with_reducible apply Keeps.after (modXc_keeps _ _ _)
  assumption
  with_reducible apply Keeps.refused
  with_reducible apply Keeps.after (modXc_keeps _ _ _)
  exact Keeps.refl _
  with_reducible apply Keeps.refused
  with_reducible apply Keeps.after (modXc_keeps _ _ _)
  exact Keeps.refl _

theorem landTokens_keeps (s) (c) (m) : Keeps s (landTokens s c m) := by
  unfold landTokens
  lift_lets
  intro x0
  subst x0
  intro x1
  subst x1
  intro x2
  subst x2
  intro x3
  subst x3
  intro x4
  subst x4
  intro x5
  subst x5
  intro x6
  subst x6
  intro x7
  subst x7
  intro x8
  refine Keeps.bindLet (s := s) (x := x8) ?_ (fun h9 => ?_)
  subst x8
  with_reducible apply Keeps.after (State.write_keeps _ _ _ _)
  exact Keeps.refl _
  clear_value x8
  intro x10
  refine Keeps.bindLet (s := s) (x := x10) ?_ (fun h11 => ?_)
  subst x10
  with_reducible apply Keeps.after (State.write_keeps _ _ _ _)
  assumption
  clear_value x10
  intro x12
  subst x12
  intro x13
  refine Keeps.bindLet (s := s) (x := x13) ?_ (fun h14 => ?_)
  subst x13
  with_reducible apply Keeps.after (State.write_keeps _ _ _ _)
  assumption
  clear_value x13
  intro x15
  subst x15
  intro x16
  subst x16
  intro x17
  subst x17
  intro x18
  refine Keeps.bindLet (s := s) (x := x18) ?_ (fun h19 => ?_)
  subst x18
  with_reducible apply Keeps.after (landBytes_keeps _ _ _ _ _)
  exact Keeps.refl _
  clear_value x18
  intro x20
  refine Keeps.bindLet (s := s) (x := x20) ?_ (fun h21 => ?_)
  subst x20
  with_reducible apply Keeps.after (landBytes_keeps _ _ _ _ _)
  assumption
  clear_value x20
  intro x22
  refine Keeps.bindLet (s := s) (x := x22) ?_ (fun h23 => ?_)
  subst x22
  with_reducible apply Keeps.ite
  with_reducible apply Keeps.after (State.write_keeps _ _ _ _)
  assumption
  assumption
  clear_value x22
  with_reducible apply Keeps.ite
  with_reducible apply Keeps.after (modTally_keeps _ _ _ _)
  assumption
  with_reducible apply Keeps.after (modTally_keeps _ _ _ _)
  assumption

theorem recvRecord_keeps (s) (c) (m) (dup) : Keeps s (recvRecord s c m dup) := by
  unfold recvRecord
  with_reducible apply Keeps.after (fbPut_keeps _ _ _ _ _)
  exact Keeps.refl _

theorem xiLand_keeps (s) (p) (m) : Keeps s (xiLand s p m).state := by
  unfold xiLand
  split
  with_reducible apply Keeps.iteLand
  with_reducible apply Keeps.refused
  exact Keeps.refl _
  with_reducible apply Keeps.landed
  with_reducible apply Keeps.after (landBytes_keeps _ _ _ _ _)
  exact Keeps.refl _
  with_reducible apply Keeps.iteLand
  with_reducible apply Keeps.landed
  with_reducible apply Keeps.after (recvRecord_keeps _ _ _ _)
  with_reducible apply Keeps.after (landBytes_keeps _ _ _ _ _)
  exact Keeps.refl _
  lift_lets
  intro x0
  subst x0
  intro x1
  subst x1
  intro x2
  refine Keeps.bindLet (s := s) (x := x2) ?_ (fun h3 => ?_)
  subst x2
  with_reducible apply Keeps.after (modTally_keeps _ _ _ _)
  exact Keeps.refl _
  clear_value x2
  intro x4
  subst x4
  with_reducible apply Keeps.iteLand
  with_reducible apply Keeps.landed
  with_reducible apply Keeps.after (exchDrop_keeps _ _ _ _)
  with_reducible apply Keeps.after (modXc_keeps _ _ _)
  exact Keeps.refl _
  split
  with_reducible apply Keeps.landed
  with_reducible apply Keeps.after (recvRecord_keeps _ _ _ _)
  refine Keeps.landedOf (by assumption) ?_
  with_reducible apply Keeps.iteLand
  with_reducible apply Keeps.after (landReduction_keeps _ _ _ _)
  assumption
  with_reducible apply Keeps.iteLand
  with_reducible apply Keeps.landed
  with_reducible apply Keeps.after (landTokens_keeps _ _ _)
  assumption
  with_reducible apply Keeps.landed
  with_reducible apply Keeps.after (modTally_keeps _ _ _ _)
  with_reducible apply Keeps.after (landBytes_keeps _ _ _ _ _)
  assumption
  with_reducible apply Keeps.refused
  with_reducible apply Keeps.after (State.modCore_keeps _ _ _)
  refine Keeps.refusedOf (by assumption) ?_
  with_reducible apply Keeps.iteLand
  with_reducible apply Keeps.after (landReduction_keeps _ _ _ _)
  assumption
  with_reducible apply Keeps.iteLand
  with_reducible apply Keeps.landed
  with_reducible apply Keeps.after (landTokens_keeps _ _ _)
  assumption
  with_reducible apply Keeps.landed
  with_reducible apply Keeps.after (modTally_keeps _ _ _ _)
  with_reducible apply Keeps.after (landBytes_keeps _ _ _ _ _)
  assumption

theorem dupCheck_keeps (s) (m) : Keeps s (dupCheck s m).2 := by
  unfold dupCheck
  lift_lets
  intro x0
  subst x0
  intro x1
  subst x1
  intro x2
  subst x2
  split
  lift_lets
  intro x3
  subst x3
  intro x4
  subst x4
  with_reducible apply Keeps.snd
  with_reducible apply Keeps.after (State.modFab_keeps _ _)
  exact Keeps.refl _
  with_reducible apply Keeps.iteSnd
  with_reducible apply Keeps.snd
  with_reducible apply Keeps.after (State.modFab_keeps _ _)
  exact Keeps.refl _
  split
  with_reducible apply Keeps.snd
  exact Keeps.refl _
  with_reducible apply Keeps.snd
  with_reducible apply Keeps.after (State.modFab_keeps _ _)
  exact Keeps.refl _

theorem dupMark_keeps (s) (m) : Keeps s (dupMark s m) := by
  unfold dupMark
  with_reducible apply Keeps.after (State.modFab_keeps _ _)
  exact Keeps.refl _

theorem acceptMsg_keeps (s) (p) (m) : Keeps s (acceptMsg s p m).1 := by
  unfold acceptMsg
  split
  with_reducible apply Keeps.fst
  with_reducible apply Keeps.after (ack_keeps _ _)
  with_reducible apply Keeps.after (dupMark_keeps _ _)
  refine Keeps.landedOf (by assumption) ?_
  with_reducible apply Keeps.after (xiLand_keeps _ _ _)
  exact Keeps.refl _
  with_reducible apply Keeps.fst
  with_reducible apply Keeps.after (refuse_keeps _ _ _)
  refine Keeps.refusedOf (by assumption) ?_
  with_reducible apply Keeps.after (xiLand_keeps _ _ _)
  exact Keeps.refl _

theorem dropStale_keeps (s) (p) : Keeps s (dropStale s p) := by
  unfold dropStale
  with_reducible apply Keeps.after (modXc_keeps _ _ _)
  exact Keeps.refl _

theorem stepSeq_keeps (s) (k) : Keeps s (stepSeq s k) := by
  unfold stepSeq
  lift_lets
  intro x0
  subst x0
  with_reducible apply Keeps.after (State.modFab_keeps _ _)
  exact Keeps.refl _

theorem releaseHeld_keeps (k) (n) (s) : Keeps s (releaseHeld k n s) := by
  induction n generalizing s with
  | zero => exact Keeps.refl _
  | succ n ih =>
    unfold releaseHeld
    lift_lets
    intro x0
    subst x0
    have drop : ∀ g : Fabric → Fabric, Keeps s (s.modFab g) := fun g => State.modFab_keeps _ _
    have next : ∀ u, Keeps s u → Keeps s (releaseHeld k n (stepSeq u k)) := fun u h => (h.trans (stepSeq_keeps _ _)).trans (ih _)
    refine Keeps.ite (next _ (drop _)) ?_
    split
    · exact Keeps.refl _
    refine Keeps.ite (Keeps.refl _) ?_
    split
    · exact next _ (drop _)
    refine Keeps.ite (next _ ((drop _).trans (dropStale_keeps _ _))) ?_
    split
    · exact next _ (Keeps.pair1 (by assumption) ((drop _).trans (acceptMsg_keeps _ _ _)))
    · exact Keeps.pair1 (by assumption) ((drop _).trans (acceptMsg_keeps _ _ _))

theorem passSeq_keeps (s) (m) : Keeps s (passSeq s m) := by
  unfold passSeq
  lift_lets
  intro x0
  subst x0
  with_reducible apply Keeps.ite
  exact Keeps.refl _
  with_reducible apply Keeps.ite
  with_reducible apply Keeps.after (releaseHeld_keeps _ _ _)
  with_reducible apply Keeps.after (stepSeq_keeps _ _)
  exact Keeps.refl _
  with_reducible apply Keeps.after (State.modFab_keeps _ _)
  exact Keeps.refl _

theorem placeOrdered_keeps (s) (p) (m) : Keeps s (placeOrdered s p m) := by
  unfold placeOrdered
  lift_lets
  intro x0
  subst x0
  intro x1
  subst x1
  with_reducible apply Keeps.ite
  with_reducible apply Keeps.after (ack_keeps _ _)
  with_reducible apply Keeps.after (State.modFab_keeps _ _)
  exact Keeps.refl _
  with_reducible apply Keeps.ite
  split
  dsimp only
  with_reducible apply Keeps.after (releaseHeld_keeps _ _ _)
  with_reducible apply Keeps.after (stepSeq_keeps _ _)
  refine Keeps.pair1 (by assumption) ?_
  with_reducible apply Keeps.after (acceptMsg_keeps _ _ _)
  exact Keeps.refl _
  refine Keeps.pair1 (by assumption) ?_
  with_reducible apply Keeps.after (acceptMsg_keeps _ _ _)
  exact Keeps.refl _
  with_reducible apply Keeps.ite
  exact Keeps.refl _
  with_reducible apply Keeps.ite
  with_reducible apply Keeps.after (refuse_keeps _ _ _)
  exact Keeps.refl _
  with_reducible apply Keeps.after (State.modFab_keeps _ _)
  exact Keeps.refl _

theorem arriveData_keeps (s) (m) : Keeps s (arriveData s m) := by
  unfold arriveData
  with_reducible apply Keeps.ite
  with_reducible apply Keeps.after (refuse_keeps _ _ _)
  exact Keeps.refl _
  split
  with_reducible apply Keeps.after (refuse_keeps _ _ _)
  exact Keeps.refl _
  with_reducible apply Keeps.ite
  with_reducible apply Keeps.after (refuse_keeps _ _ _)
  exact Keeps.refl _
  with_reducible apply Keeps.ite
  with_reducible apply Keeps.after (passSeq_keeps _ _)
  with_reducible apply Keeps.after (dropStale_keeps _ _)
  exact Keeps.refl _
  split
  lift_lets
  intro x0
  refine Keeps.bindLet (s := s) (x := x0) ?_ (fun h1 => ?_)
  subst x0
  with_reducible apply Keeps.ite
  with_reducible apply Keeps.after (refusedAt_keeps _ _ _ _ _)
  exact Keeps.refl _
  exact Keeps.refl _
  clear_value x0
  with_reducible apply Keeps.after (passSeq_keeps _ _)
  with_reducible apply Keeps.after (refuse_keeps _ _ _)
  assumption
  split
  with_reducible apply Keeps.ite
  with_reducible apply Keeps.after (refuse_keeps _ _ _)
  refine Keeps.pair2 (by assumption) ?_
  with_reducible apply Keeps.iteSnd
  with_reducible apply Keeps.after (dupCheck_keeps _ _)
  exact Keeps.refl _
  with_reducible apply Keeps.snd
  exact Keeps.refl _
  with_reducible apply Keeps.ite
  lift_lets
  intro x2
  refine Keeps.bindLet (s := s) (x := x2) ?_ (fun h3 => ?_)
  subst x2
  with_reducible apply Keeps.after (modXc_keeps _ _ _)
  refine Keeps.pair2 (by assumption) ?_
  with_reducible apply Keeps.iteSnd
  with_reducible apply Keeps.after (dupCheck_keeps _ _)
  exact Keeps.refl _
  with_reducible apply Keeps.snd
  exact Keeps.refl _
  clear_value x2
  intro x4
  refine Keeps.bindLet (s := s) (x := x4) ?_ (fun h5 => ?_)
  subst x4
  split
  with_reducible apply Keeps.after (recvRecord_keeps _ _ _ _)
  assumption
  assumption
  clear_value x4
  with_reducible apply Keeps.after (ack_keeps _ _)
  assumption
  with_reducible apply Keeps.ite
  with_reducible apply Keeps.after (placeOrdered_keeps _ _ _)
  refine Keeps.pair2 (by assumption) ?_
  with_reducible apply Keeps.iteSnd
  with_reducible apply Keeps.after (dupCheck_keeps _ _)
  exact Keeps.refl _
  with_reducible apply Keeps.snd
  exact Keeps.refl _
  with_reducible apply Keeps.after (acceptMsg_keeps _ _ _)
  refine Keeps.pair2 (by assumption) ?_
  with_reducible apply Keeps.iteSnd
  with_reducible apply Keeps.after (dupCheck_keeps _ _)
  exact Keeps.refl _
  with_reducible apply Keeps.snd
  exact Keeps.refl _

theorem modBar_keeps (s) (i) (f) : Keeps s (modBar s i f) := by
  unfold modBar
  with_reducible apply Keeps.after (State.modFab_keeps _ _)
  exact Keeps.refl _

theorem barSend_keeps (s) (port) (b) (release) (dst) : Keeps s (barSend s port b release dst) := by
  unfold barSend
  with_reducible apply Keeps.after (fwSend_keeps _ _ _)
  exact Keeps.refl _

theorem barSendPort_keeps (s) (b) (release) (n) : Keeps s (barSendPort s b release n) := by
  unfold barSendPort
  with_reducible apply Keeps.after (barSend_keeps _ _ _ _ _)
  exact Keeps.refl _

theorem barRecord_keeps (s) (i) (status) : Keeps s (barRecord s i status) := by
  unfold barRecord
  lift_lets
  intro x0
  subst x0
  with_reducible apply Keeps.after (record_keeps _ _ _ _ _)
  exact Keeps.refl _

theorem barFail_keeps (s) (i) (status) : Keeps s (barFail s i status) := by
  unfold barFail
  with_reducible apply Keeps.after (modBar_keeps _ _ _)
  with_reducible apply Keeps.after (barRecord_keeps _ _ _)
  exact Keeps.refl _

theorem barRelease_keeps (s) (i) : Keeps s (barRelease s i) := by
  unfold barRelease
  lift_lets
  intro x0
  subst x0
  intro x1
  refine Keeps.bindLet (s := s) (x := x1) ?_ (fun h2 => ?_)
  subst x1
  with_reducible apply Keeps.foldl (fun z3 _ => ?_) ?_
  exact Keeps.refl _
  with_reducible apply Keeps.after (barSendPort_keeps _ _ _ _)
  exact Keeps.refl _
  clear_value x1
  intro x4
  refine Keeps.bindLet (s := s) (x := x4) ?_ (fun h5 => ?_)
  subst x4
  with_reducible apply Keeps.foldl (fun z6 _ => ?_) ?_
  assumption
  with_reducible apply Keeps.after (barSend_keeps _ _ _ _ _)
  exact Keeps.refl _
  clear_value x4
  with_reducible apply Keeps.after (modBar_keeps _ _ _)
  with_reducible apply Keeps.after (barRecord_keeps _ _ _)
  assumption

theorem barCheck_keeps (s) (i) : Keeps s (barCheck s i) := by
  unfold barCheck
  lift_lets
  intro x0
  subst x0
  with_reducible apply Keeps.ite
  exact Keeps.refl _
  with_reducible apply Keeps.ite
  with_reducible apply Keeps.after (barRelease_keeps _ _)
  exact Keeps.refl _
  with_reducible apply Keeps.ite
  with_reducible apply Keeps.after (barSendPort_keeps _ _ _ _)
  exact Keeps.refl _
  with_reducible apply Keeps.after (barSend_keeps _ _ _ _ _)
  exact Keeps.refl _

theorem barArrive_keeps (s) (i) (gen) (mark) : Keeps s (barArrive s i gen mark) := by
  unfold barArrive
  lift_lets
  intro x0
  subst x0
  with_reducible apply Keeps.ite
  exact Keeps.refl _
  with_reducible apply Keeps.ite
  with_reducible apply Keeps.after (barFail_keeps _ _ _)
  exact Keeps.refl _
  with_reducible apply Keeps.ite
  exact Keeps.refl _
  with_reducible apply Keeps.after (barCheck_keeps _ _)
  with_reducible apply Keeps.after (modBar_keeps _ _ _)
  exact Keeps.refl _

theorem arriveBarrier_keeps (s) (port) (m) : Keeps s (arriveBarrier s port m) := by
  unfold arriveBarrier
  split
  with_reducible apply Keeps.ite
  with_reducible apply Keeps.after (refuse_keeps _ _ _)
  refine Keeps.pair2 (by assumption) ?_
  with_reducible apply Keeps.iteSnd
  with_reducible apply Keeps.after (dupCheck_keeps _ _)
  exact Keeps.refl _
  with_reducible apply Keeps.snd
  exact Keeps.refl _
  with_reducible apply Keeps.ite
  with_reducible apply Keeps.after (refuse_keeps _ _ _)
  refine Keeps.pair2 (by assumption) ?_
  with_reducible apply Keeps.iteSnd
  with_reducible apply Keeps.after (dupCheck_keeps _ _)
  exact Keeps.refl _
  with_reducible apply Keeps.snd
  exact Keeps.refl _
  with_reducible apply Keeps.ite
  with_reducible apply Keeps.after (ack_keeps _ _)
  split
  with_reducible apply Keeps.after (modXc_keeps _ _ _)
  refine Keeps.pair2 (by assumption) ?_
  with_reducible apply Keeps.iteSnd
  with_reducible apply Keeps.after (dupCheck_keeps _ _)
  exact Keeps.refl _
  with_reducible apply Keeps.snd
  exact Keeps.refl _
  refine Keeps.pair2 (by assumption) ?_
  with_reducible apply Keeps.iteSnd
  with_reducible apply Keeps.after (dupCheck_keeps _ _)
  exact Keeps.refl _
  with_reducible apply Keeps.snd
  exact Keeps.refl _
  lift_lets
  intro x0
  refine Keeps.bindLet (s := s) (x := x0) ?_ (fun h1 => ?_)
  subst x0
  with_reducible apply Keeps.after (ack_keeps _ _)
  with_reducible apply Keeps.after (dupMark_keeps _ _)
  refine Keeps.pair2 (by assumption) ?_
  with_reducible apply Keeps.iteSnd
  with_reducible apply Keeps.after (dupCheck_keeps _ _)
  exact Keeps.refl _
  with_reducible apply Keeps.snd
  exact Keeps.refl _
  clear_value x0
  intro x2
  subst x2
  split
  with_reducible apply Keeps.after (record_keeps _ _ _ _ _)
  assumption
  lift_lets
  intro x3
  subst x3
  with_reducible apply Keeps.ite
  with_reducible apply Keeps.after (barArrive_keeps _ _ _ _)
  assumption
  with_reducible apply Keeps.ite
  assumption
  with_reducible apply Keeps.ite
  with_reducible apply Keeps.after (barFail_keeps _ _ _)
  assumption
  with_reducible apply Keeps.after (barRelease_keeps _ _)
  assumption

theorem dropKind_keeps (s) (m) : Keeps s (dropKind s m) := by
  unfold dropKind
  with_reducible apply Keeps.after (record_keeps _ _ _ _ _)
  exact Keeps.refl _

theorem arrive_keeps (s) (port) (m) : Keeps s (arrive s port m) := by
  unfold arrive
  with_reducible apply Keeps.ite
  with_reducible apply Keeps.after (dropKind_keeps _ _)
  exact Keeps.refl _
  with_reducible apply Keeps.ite
  with_reducible apply Keeps.after (pumpSends_keeps _)
  with_reducible apply Keeps.foldl (fun z0 _ => ?_) ?_
  exact Keeps.refl _
  with_reducible apply Keeps.after (takeAnswer_keeps _ _ _)
  exact Keeps.refl _
  with_reducible apply Keeps.ite
  with_reducible apply Keeps.after (arriveBarrier_keeps _ _ _)
  exact Keeps.refl _
  with_reducible apply Keeps.after (arriveData_keeps _ _)
  exact Keeps.refl _

/-! ### Exchange -/

theorem markStart_keeps (s) (c) (slot) : Keeps s (markStart s c slot) := by
  unfold markStart
  with_reducible apply Keeps.after (State.modCore_keeps _ _ _)
  exact Keeps.refl _

theorem sendEff_keeps (s) (c) (slot) (ms) (reads) (writes) : Keeps s ((sendEff s c slot ms reads writes).st) := by
  unfold sendEff
  lift_lets
  intro x0
  subst x0
  intro x1
  subst x1
  with_reducible apply Keeps.eff
  with_reducible apply Keeps.after (Eff.done_keeps _ _ _ _)
  with_reducible apply Keeps.after (sendMsgs_keeps _ _ _)
  with_reducible apply Keeps.after (markStart_keeps _ _ _)
  exact Keeps.refl _

theorem xoBase_keeps (s) (c) (w) (d) (kind) : Keeps s (xoBase s c w d kind).2 := by
  unfold xoBase
  lift_lets
  intro x0
  subst x0
  intro x1
  subst x1
  intro x2
  subst x2
  split
  lift_lets
  intro x3
  subst x3
  with_reducible apply Keeps.snd
  refine Keeps.pair2 (by assumption) ?_
  split
  with_reducible apply Keeps.snd
  exact Keeps.refl _
  with_reducible apply Keeps.after (State.fresh_keeps _)
  exact Keeps.refl _

theorem putEff_keeps (s) (c) (slot) (es) (src) (ms) : Keeps s ((putEff s c slot es src ms).st) := by
  unfold putEff
  split
  dsimp only
  with_reducible apply Keeps.after (Eff.bad_keeps _ _ _ _)
  exact Keeps.refl _
  with_reducible apply Keeps.after (sendEff_keeps _ _ _ _ _ _)
  with_reducible apply Keeps.after (noteTern_keeps _ _ _)
  exact Keeps.refl _

theorem workPut_keeps (kind) (a1) (a2) (a3) (a4) (a5) : Keeps a1 (workPut kind a1 a2 a3 a4 a5).st := by
  unfold workPut
  lift_lets
  intro x0
  subst x0
  intro x1
  subst x1
  intro x2
  subst x2
  intro x3
  subst x3
  intro x4
  subst x4
  split
  dsimp -zeta only
  dsimp only
  with_reducible apply Keeps.after (putEff_keeps _ _ _ _ _ _)
  with_reducible apply Keeps.after (xoBase_keeps _ _ _ _ _)
  exact Keeps.refl _
  dsimp -zeta only
  dsimp only
  with_reducible apply Keeps.after (putEff_keeps _ _ _ _ _ _)
  with_reducible apply Keeps.after (xoBase_keeps _ _ _ _ _)
  exact Keeps.refl _

theorem workRedPut_keeps (a0) (a1) (a2) (a3) (a4) : Keeps a0 (workRedPut a0 a1 a2 a3 a4).st := by
  unfold workRedPut
  lift_lets
  intro x0
  subst x0
  intro x1
  subst x1
  intro x2
  subst x2
  intro x3
  subst x3
  intro x4
  subst x4
  intro x5
  subst x5
  dsimp -zeta only
  dsimp only
  with_reducible apply Keeps.after (putEff_keeps _ _ _ _ _ _)
  with_reducible apply Keeps.after (xoBase_keeps _ _ _ _ _)
  exact Keeps.refl _

theorem workDispatch_keeps (a0) (a1) (a2) (a3) (a4) : Keeps a0 (workDispatch a0 a1 a2 a3 a4).st := by
  unfold workDispatch
  lift_lets
  intro x0
  subst x0
  intro x1
  subst x1
  intro x2
  subst x2
  intro x3
  subst x3
  intro x4
  subst x4
  intro x5
  subst x5
  intro x6
  subst x6
  intro x7
  subst x7
  intro x8
  subst x8
  intro x9
  subst x9
  intro x10
  subst x10
  intro x11
  subst x11
  intro x12
  subst x12
  intro x13
  subst x13
  intro x14
  subst x14
  intro x15
  subst x15
  intro x16
  subst x16
  intro x17
  subst x17
  with_reducible apply Keeps.iteSt
  with_reducible apply Keeps.after (Eff.bad_keeps _ _ _ _)
  exact Keeps.refl _
  dsimp -zeta only
  dsimp only
  with_reducible apply Keeps.after (sendEff_keeps _ _ _ _ _ _)
  split
  with_reducible apply Keeps.after (modXc_keeps _ _ _)
  with_reducible apply Keeps.after (State.write_keeps _ _ _ _)
  with_reducible apply Keeps.after (putResult_keeps _ _ _ _ _ _ _ _)
  with_reducible apply Keeps.after (noteTern_keeps _ _ _)
  with_reducible apply Keeps.after (xoBase_keeps _ _ _ _ _)
  exact Keeps.refl _
  with_reducible apply Keeps.after (State.write_keeps _ _ _ _)
  with_reducible apply Keeps.after (putResult_keeps _ _ _ _ _ _ _ _)
  with_reducible apply Keeps.after (noteTern_keeps _ _ _)
  with_reducible apply Keeps.after (xoBase_keeps _ _ _ _ _)
  exact Keeps.refl _

theorem workCombine_keeps (a0) (a1) (a2) (a3) (a4) : Keeps a0 (workCombine a0 a1 a2 a3 a4).st := by
  unfold workCombine
  lift_lets
  intro x0
  subst x0
  intro x1
  subst x1
  intro x2
  subst x2
  intro x3
  subst x3
  intro x4
  subst x4
  dsimp -zeta only
  dsimp only
  with_reducible apply Keeps.after (sendEff_keeps _ _ _ _ _ _)
  with_reducible apply Keeps.after (noteTern_keeps _ _ _)
  with_reducible apply Keeps.after (xoBase_keeps _ _ _ _ _)
  exact Keeps.refl _

theorem postGroup_keeps (s) (c) (g) (kind) : Keeps s (postGroup s c g kind) := by
  unfold postGroup
  lift_lets
  intro x0
  subst x0
  intro x1
  subst x1
  with_reducible apply Keeps.after (modTally_keeps _ _ _ _)
  exact Keeps.refl _

theorem xiStart_keeps (s) (c) (w) (kind) (tally) (need) (writes) : Keeps s (xiStart s c w kind tally need writes).st := by
  unfold xiStart
  lift_lets
  intro x0
  subst x0
  with_reducible apply Keeps.eff
  with_reducible apply Keeps.after (Eff.done_keeps _ _ _ _)
  with_reducible apply Keeps.after (postGroup_keeps _ _ _ _)
  exact Keeps.refl _

theorem workExpect_keeps (a0) (a1) (a2) (a3) (a4) : Keeps a0 (workExpect a0 a1 a2 a3 a4).st := by
  unfold workExpect
  with_reducible apply Keeps.after (xiStart_keeps _ _ _ _ _ _ _)
  exact Keeps.refl _

theorem workRedExpect_keeps (a0) (a1) (a2) (a3) (a4) : Keeps a0 (workRedExpect a0 a1 a2 a3 a4).st := by
  unfold workRedExpect
  lift_lets
  intro x0
  subst x0
  intro x1
  subst x1
  intro x2
  subst x2
  intro x3
  refine Keeps.bindLet (s := a0) (x := x3) ?_ (fun h4 => ?_)
  subst x3
  split
  with_reducible apply Keeps.after (modXc_keeps _ _ _)
  exact Keeps.refl _
  exact Keeps.refl _
  clear_value x3
  with_reducible apply Keeps.after (xiStart_keeps _ _ _ _ _ _ _)
  assumption

theorem workTokenRecv_keeps (a0) (a1) (a2) (a3) (a4) : Keeps a0 (workTokenRecv a0 a1 a2 a3 a4).st := by
  unfold workTokenRecv
  lift_lets
  intro x0
  subst x0
  with_reducible apply Keeps.after (xiStart_keeps _ _ _ _ _ _ _)
  exact Keeps.refl _

theorem workCombineRecv_keeps (a0) (a1) (a2) (a3) (a4) : Keeps a0 (workCombineRecv a0 a1 a2 a3 a4).st := by
  unfold workCombineRecv
  lift_lets
  intro x0
  subst x0
  intro x1
  subst x1
  with_reducible apply Keeps.after (xiStart_keeps _ _ _ _ _ _ _)
  exact Keeps.refl _

theorem writeNoise_keeps (s) (c) (f) (ranks) (pois) : Keeps s (writeNoise s c f ranks pois) := by
  unfold writeNoise
  lift_lets
  intro x0
  subst x0
  intro x1
  subst x1
  intro x2
  subst x2
  intro x3
  subst x3
  with_reducible apply Keeps.ite
  exact Keeps.refl _
  split
  split
  with_reducible apply Keeps.after (State.write_keeps _ _ _ _)
  refine Keeps.pair2 (by assumption) ?_
  with_reducible apply Keeps.iteSnd
  with_reducible apply Keeps.after (State.fresh_keeps _)
  refine Keeps.pair2 (by assumption) ?_
  with_reducible apply Keeps.iteSnd
  with_reducible apply Keeps.after (State.fresh_keeps _)
  exact Keeps.refl _
  with_reducible apply Keeps.snd
  exact Keeps.refl _
  with_reducible apply Keeps.snd
  refine Keeps.pair2 (by assumption) ?_
  with_reducible apply Keeps.iteSnd
  with_reducible apply Keeps.after (State.fresh_keeps _)
  exact Keeps.refl _
  with_reducible apply Keeps.snd
  exact Keeps.refl _

theorem combineRows_keeps (s) (c) (f) : Keeps s ((combineRows s c f).1) := by
  unfold combineRows
  lift_lets
  intro x0
  subst x0
  intro x1
  subst x1
  intro x2
  subst x2
  intro x3
  refine Keeps.bindLet (s := s) (x := x3) ?_ (fun h4 => ?_)
  subst x3
  with_reducible apply Keeps.after (meetErrs_keeps _ _)
  exact Keeps.refl _
  clear_value x3
  intro x5
  subst x5
  split
  split
  dsimp -zeta only
  refine Keeps.pair1 (by assumption) ?_
  with_reducible apply Keeps.foldl1 (fun z6 _ _ => ?_) ?_
  with_reducible apply Keeps.fst
  assumption
  split
  dsimp -zeta only
  dsimp only
  with_reducible apply Keeps.after (storeRun_keeps _ _ _ _)
  refine Keeps.pair1 (by assumption) ?_
  with_reducible apply Keeps.fst
  exact Keeps.refl _
  with_reducible apply Keeps.fst
  with_reducible apply Keeps.after (putResult_keeps _ _ _ _ _ _ _ _)
  refine Keeps.trans ?_ (dsUpdate_keeps _ _ _ _ _ _ _ _ (by assumption))
  refine Keeps.pair1 (by assumption) ?_
  with_reducible apply Keeps.foldl1 (fun z8 _ _ => ?_) ?_
  with_reducible apply Keeps.fst
  assumption
  split
  dsimp -zeta only
  dsimp only
  with_reducible apply Keeps.after (storeRun_keeps _ _ _ _)
  refine Keeps.pair1 (by assumption) ?_
  with_reducible apply Keeps.fst
  exact Keeps.refl _

theorem groupEffect_keeps (s) (c) (f) (x) (t) : Keeps s ((groupEffect s c f x t).1) := by
  unfold groupEffect
  with_reducible apply Keeps.iteFst
  with_reducible apply Keeps.fst
  with_reducible apply Keeps.after (writeNoise_keeps _ _ _ _ _)
  exact Keeps.refl _
  with_reducible apply Keeps.iteFst
  lift_lets
  intro x0
  subst x0
  intro x1
  subst x1
  with_reducible apply Keeps.fst
  with_reducible apply Keeps.after (putResult_keeps _ _ _ _ _ _ _ _)
  exact Keeps.refl _
  with_reducible apply Keeps.iteFst
  with_reducible apply Keeps.after (combineRows_keeps _ _ _)
  exact Keeps.refl _
  with_reducible apply Keeps.fst
  exact Keeps.refl _

theorem drainXi_keeps (c) (a1) (a2) : Keeps a2 (drainXi c a1 a2) := by
  unfold drainXi
  split
  exact Keeps.refl _
  split
  with_reducible apply Keeps.ite
  with_reducible apply Keeps.after (drainXi_keeps _ _ _)
  with_reducible apply Keeps.after (completeOldest_keeps _ _ _)
  exact Keeps.refl _
  exact Keeps.refl _
  exact Keeps.refl _

theorem endGroup_keeps (s) (c) (i) (f) (a4) : Keeps s (endGroup s c i f a4) := by
  unfold endGroup
  lift_lets
  intro x0
  subst x0
  intro x1
  subst x1
  intro x2
  refine Keeps.bindLet (s := s) (x := x2) ?_ (fun h3 => ?_)
  subst x2
  split
  with_reducible apply Keeps.after (faultHead_keeps _ _ _ _ _)
  with_reducible apply Keeps.after (dropFlights_keeps _ _ _ _)
  with_reducible apply Keeps.after (engViolation_keeps _ _ _)
  with_reducible apply Keeps.after (groupEffect_keeps _ _ _ _ _)
  exact Keeps.refl _
  with_reducible apply Keeps.after (groupEffect_keeps _ _ _ _ _)
  exact Keeps.refl _
  clear_value x2
  with_reducible apply Keeps.after (State.modCore_keeps _ _ _)
  assumption

theorem groupComplete_keeps (s) (c) (g) : Keeps s (groupComplete s c g) := by
  unfold groupComplete
  split
  exact Keeps.refl _
  split
  exact Keeps.refl _
  with_reducible apply Keeps.ite
  with_reducible apply Keeps.after (drainXi_keeps _ _ _)
  with_reducible apply Keeps.after (endGroup_keeps _ _ _ _ _)
  exact Keeps.refl _
  exact Keeps.refl _

theorem gapRecord_keeps (s) (c) (g) : Keeps s (gapRecord s c g) := by
  unfold gapRecord
  split
  with_reducible apply Keeps.after (recordCore_keeps _ _ _ _)
  refine Keeps.pair2 (by assumption) ?_
  with_reducible apply Keeps.after (State.freshBytes_keeps _ _)
  exact Keeps.refl _

theorem passGap_keeps (s) (m) : Keeps s (passGap s m) := by
  unfold passGap
  lift_lets
  intro x0
  subst x0
  intro x1
  subst x1
  intro x2
  subst x2
  intro x3
  subst x3
  intro x4
  refine Keeps.bindLet (s := s) (x := x4) ?_ (fun h5 => ?_)
  subst x4
  with_reducible apply Keeps.after (record_keeps _ _ _ _ _)
  exact Keeps.refl _
  clear_value x4
  intro x6
  refine Keeps.bindLet (s := s) (x := x6) ?_ (fun h7 => ?_)
  subst x6
  with_reducible apply Keeps.after (State.modFab_keeps _ _)
  assumption
  clear_value x6
  with_reducible apply Keeps.after (releaseHeld_keeps _ _ _)
  assumption

theorem passGaps_keeps (p) (n) (s) : Keeps s (passGaps p n s) := by
  induction n generalizing s with
  | zero => exact Keeps.refl _
  | succ n ih =>
    unfold passGaps
    split
    exact Keeps.refl _
    with_reducible apply Keeps.after (ih _)
    with_reducible apply Keeps.after (passGap_keeps _ _)
    exact Keeps.refl _

theorem closeRanks_keeps (c) (p) (l) (x) (n) (s) : Keeps s (closeRanks c p l x n s) := by
  induction n generalizing s with
  | zero => exact Keeps.refl _
  | succ n ih =>
    unfold closeRanks
    lift_lets
    intro x0
    subst x0
    intro x1
    subst x1
    intro x2
    subst x2
    intro x3
    subst x3
    intro x4
    refine Keeps.bindLet (s := s) (x := x4) ?_ (fun h5 => ?_)
    subst x4
    with_reducible apply Keeps.ite
    with_reducible apply Keeps.after (addChunk_keeps _ _ _ _ _ _)
    exact Keeps.refl _
    exact Keeps.refl _
    clear_value x4
    intro x6
    refine Keeps.bindLet (s := s) (x := x6) ?_ (fun h7 => ?_)
    subst x6
    with_reducible apply Keeps.after (modXc_keeps _ _ _)
    assumption
    clear_value x6
    with_reducible apply Keeps.ite
    exact Keeps.refl _
    with_reducible apply Keeps.after (ih _)
    with_reducible apply Keeps.after (nextRankOf_keeps _ _ _)
    assumption

theorem closeGroup_keeps (s) (c) (i) (f) (a4) : Keeps s (closeGroup s c i f a4) := by
  unfold closeGroup
  lift_lets
  intro x0
  subst x0
  intro x1
  refine Keeps.bindLet (s := s) (x := x1) ?_ (fun h2 => ?_)
  subst x1
  split
  with_reducible apply Keeps.ite
  with_reducible apply Keeps.after (closeRanks_keeps _ _ _ _ _ _)
  exact Keeps.refl _
  exact Keeps.refl _
  exact Keeps.refl _
  clear_value x1
  intro x3
  refine Keeps.bindLet (s := s) (x := x3) ?_ (fun h4 => ?_)
  subst x3
  with_reducible apply Keeps.after (modTally_keeps _ _ _ _)
  assumption
  clear_value x3
  intro x5
  refine Keeps.bindLet (s := s) (x := x5) ?_ (fun h6 => ?_)
  subst x5
  with_reducible apply Keeps.after (endGroup_keeps _ _ _ _ _)
  assumption
  clear_value x5
  intro x7
  refine Keeps.bindLet (s := s) (x := x7) ?_ (fun h8 => ?_)
  subst x7
  with_reducible apply Keeps.foldl (fun z9 _ => ?_) ?_
  assumption
  with_reducible apply Keeps.after (State.mark_keeps _ _ _)
  exact Keeps.refl _
  clear_value x7
  split
  with_reducible apply Keeps.after (modXc_keeps _ _ _)
  assumption
  assumption

theorem closeNow_keeps (s) (c) (i) (x) : Keeps s (closeNow s c i x) := by
  unfold closeNow
  lift_lets
  intro x0
  subst x0
  intro x1
  refine Keeps.bindLet (s := s) (x := x1) ?_ (fun h2 => ?_)
  subst x1
  with_reducible apply Keeps.ite
  with_reducible apply Keeps.after (passGaps_keeps _ _ _)
  exact Keeps.refl _
  with_reducible apply Keeps.after (gapRecord_keeps _ _ _)
  exact Keeps.refl _
  clear_value x1
  split
  with_reducible apply Keeps.after (closeGroup_keeps _ _ _ _ _)
  assumption
  assumption

theorem heldTimeout_keeps (s) (c) (g) (counted) : Keeps s (heldTimeout s c g counted) := by
  unfold heldTimeout
  lift_lets
  intro x0
  subst x0
  intro x1
  subst x1
  intro x2
  refine Keeps.bindLet (s := s) (x := x2) ?_ (fun h3 => ?_)
  subst x2
  with_reducible apply Keeps.after (passGaps_keeps _ _ _)
  exact Keeps.refl _
  clear_value x2
  with_reducible apply Keeps.ite
  with_reducible apply Keeps.ite
  with_reducible apply Keeps.after (modTally_keeps _ _ _ _)
  assumption
  assumption
  exact Keeps.refl _

theorem gapTimeout_keeps (s) (c) (g) : Keeps s (gapTimeout s c g) := by
  unfold gapTimeout
  with_reducible apply Keeps.ite
  exact Keeps.refl _
  split
  lift_lets
  intro x0
  subst x0
  intro x1
  refine Keeps.bindLet (s := s) (x := x1) ?_ (fun h2 => ?_)
  subst x1
  with_reducible apply Keeps.ite
  with_reducible apply Keeps.after (drainXi_keeps _ _ _)
  with_reducible apply Keeps.after (closeNow_keeps _ _ _ _)
  exact Keeps.refl _
  exact Keeps.refl _
  clear_value x1
  with_reducible apply Keeps.after (heldTimeout_keeps _ _ _ _)
  assumption
  with_reducible apply Keeps.after (heldTimeout_keeps _ _ _ _)
  exact Keeps.refl _

theorem closeAll_keeps (s) (c) : Keeps s (closeAll s c) := by
  unfold closeAll
  with_reducible apply Keeps.ite
  exact Keeps.refl _
  lift_lets
  intro x0
  refine Keeps.bindLet (s := s) (x := x0) ?_ (fun h1 => ?_)
  subst x0
  with_reducible apply Keeps.foldl (fun z2 _ => ?_) ?_
  exact Keeps.refl _
  split
  split
  with_reducible apply Keeps.ite
  exact Keeps.refl _
  with_reducible apply Keeps.ite
  with_reducible apply Keeps.after (endGroup_keeps _ _ _ _ _)
  exact Keeps.refl _
  with_reducible apply Keeps.after (closeNow_keeps _ _ _ _)
  exact Keeps.refl _
  exact Keeps.refl _
  exact Keeps.refl _
  clear_value x0
  with_reducible apply Keeps.after (drainXi_keeps _ _ _)
  assumption

theorem setAttempt_keeps (s) (p) (odd) (v) : Keeps s (setAttempt s p odd v) := by
  unfold setAttempt
  lift_lets
  intro x0
  subst x0
  intro x1
  refine Keeps.bindLet (s := s) (x := x1) ?_ (fun h2 => ?_)
  subst x1
  with_reducible apply Keeps.after (modXc_keeps _ _ _)
  exact Keeps.refl _
  clear_value x1
  intro x3
  refine Keeps.bindLet (s := s) (x := x3) ?_ (fun h4 => ?_)
  subst x3
  with_reducible apply Keeps.foldl (fun z5 _ => ?_) ?_
  assumption
  with_reducible apply Keeps.after (State.modCore_keeps _ _ _)
  exact Keeps.refl _
  clear_value x3
  intro x6
  subst x6
  intro x7
  subst x7
  intro x8
  refine Keeps.bindLet (s := s) (x := x8) ?_ (fun h9 => ?_)
  subst x8
  with_reducible apply Keeps.after (State.modFab_keeps _ _)
  assumption
  clear_value x8
  with_reducible apply Keeps.after (pumpSends_keeps _)
  with_reducible apply Keeps.foldl (fun z10 _ => ?_) ?_
  assumption
  with_reducible apply Keeps.after (passSeq_keeps _ _)
  with_reducible apply Keeps.after (dropStale_keeps _ _)
  exact Keeps.refl _

theorem xoCmd_keeps (op) (work) (c) (gap) (s) (h_work : ∀ s c w i o, Keeps s (work s c w i o).st) : Goes s (xoCmd op work c gap s) := by
  unfold xoCmd
  with_reducible apply Goes.next
  with_reducible apply Keeps.after (startCmd_keeps _ _ _ _ _ _ _ (fun z0 _ _ _ _ => ?_))
  exact Keeps.refl _
  with_reducible apply Keeps.after (h_work _ _ _ _ _)
  exact Keeps.refl _

theorem xiCmd_keeps (op) (work) (c) (gap) (s) (h_work : ∀ s c w i o, Keeps s (work s c w i o).st) : Goes s (xiCmd op work c gap s) := by
  unfold xiCmd
  with_reducible apply Goes.next
  with_reducible apply Keeps.after (startCmd_keeps _ _ _ _ _ _ _ (fun z0 _ _ _ _ => ?_))
  exact Keeps.refl _
  with_reducible apply Keeps.after (h_work _ _ _ _ _)
  exact Keeps.refl _

theorem execPut_keeps (c) (gap) (s) : Goes s (execPut c gap s) := by
  unfold execPut
  with_reducible apply xoCmd_keeps _ _ _ _ _ (fun z0 _ _ _ _ => ?_)
  with_reducible apply Keeps.after (workPut_keeps _ _ _ _ _ _)
  exact Keeps.refl _

theorem execRedPut_keeps (c) (gap) (s) : Goes s (execRedPut c gap s) := by
  unfold execRedPut
  with_reducible apply xoCmd_keeps _ _ _ _ _ (fun z0 _ _ _ _ => ?_)
  with_reducible apply Keeps.after (workRedPut_keeps _ _ _ _ _)
  exact Keeps.refl _

theorem execMcast_keeps (c) (gap) (s) : Goes s (execMcast c gap s) := by
  unfold execMcast
  with_reducible apply xoCmd_keeps _ _ _ _ _ (fun z0 _ _ _ _ => ?_)
  with_reducible apply Keeps.after (workPut_keeps _ _ _ _ _ _)
  exact Keeps.refl _

theorem execDispatch_keeps (c) (gap) (s) : Goes s (execDispatch c gap s) := by
  unfold execDispatch
  with_reducible apply xoCmd_keeps _ _ _ _ _ (fun z0 _ _ _ _ => ?_)
  with_reducible apply Keeps.after (workDispatch_keeps _ _ _ _ _)
  exact Keeps.refl _

theorem execCombine_keeps (c) (gap) (s) : Goes s (execCombine c gap s) := by
  unfold execCombine
  with_reducible apply xoCmd_keeps _ _ _ _ _ (fun z0 _ _ _ _ => ?_)
  with_reducible apply Keeps.after (workCombine_keeps _ _ _ _ _)
  exact Keeps.refl _

theorem execExpect_keeps (c) (gap) (s) : Goes s (execExpect c gap s) := by
  unfold execExpect
  with_reducible apply xiCmd_keeps _ _ _ _ _ (fun z0 _ _ _ _ => ?_)
  with_reducible apply Keeps.after (workExpect_keeps _ _ _ _ _)
  exact Keeps.refl _

theorem execRedExpect_keeps (c) (gap) (s) : Goes s (execRedExpect c gap s) := by
  unfold execRedExpect
  with_reducible apply xiCmd_keeps _ _ _ _ _ (fun z0 _ _ _ _ => ?_)
  with_reducible apply Keeps.after (workRedExpect_keeps _ _ _ _ _)
  exact Keeps.refl _

theorem execTokenRecv_keeps (c) (gap) (s) : Goes s (execTokenRecv c gap s) := by
  unfold execTokenRecv
  with_reducible apply xiCmd_keeps _ _ _ _ _ (fun z0 _ _ _ _ => ?_)
  with_reducible apply Keeps.after (workTokenRecv_keeps _ _ _ _ _)
  exact Keeps.refl _

theorem execCombineRecv_keeps (c) (gap) (s) : Goes s (execCombineRecv c gap s) := by
  unfold execCombineRecv
  with_reducible apply xiCmd_keeps _ _ _ _ _ (fun z0 _ _ _ _ => ?_)
  with_reducible apply Keeps.after (workCombineRecv_keeps _ _ _ _ _)
  exact Keeps.refl _

theorem execGroupComplete_keeps (c) (group) (gap) (s) : Goes s (execGroupComplete c group gap s) := by
  unfold execGroupComplete
  with_reducible apply Goes.next
  with_reducible apply Keeps.after (groupComplete_keeps _ _ _)
  with_reducible apply Keeps.after (passCore_keeps _ _ _)
  exact Keeps.refl _

theorem execGapTimeout_keeps (c) (group) (gap) (s) : Goes s (execGapTimeout c group gap s) := by
  unfold execGapTimeout
  with_reducible apply Goes.next
  with_reducible apply Keeps.after (gapTimeout_keeps _ _ _)
  with_reducible apply Keeps.after (passCore_keeps _ _ _)
  exact Keeps.refl _

theorem execXcAttempt_keeps (p) (even) (odd) (s) : Goes s (execXcAttempt p even odd s) := by
  unfold execXcAttempt
  lift_lets
  intro x0
  subst x0
  intro x1
  refine Keeps.bindLet (s := s) (x := x1) ?_ (fun h2 => ?_)
  subst x1
  with_reducible apply Keeps.ite
  exact Keeps.refl _
  with_reducible apply Keeps.after (setAttempt_keeps _ _ _ _)
  exact Keeps.refl _
  clear_value x1
  with_reducible apply Goes.next
  with_reducible apply Keeps.ite
  assumption
  with_reducible apply Keeps.after (setAttempt_keeps _ _ _ _)
  assumption

theorem arriveKind_keeps (kind) (port) (m) (s) : Goes s (arriveKind kind port m s) := by
  unfold arriveKind
  with_reducible apply Goes.next
  with_reducible apply Keeps.ite
  with_reducible apply Keeps.ite
  with_reducible apply Keeps.after (State.modFab_keeps _ _)
  exact Keeps.refl _
  with_reducible apply Keeps.after (arrive_keeps _ _ _)
  exact Keeps.refl _
  exact Keeps.refl _

theorem execPutMessage_keeps (m) (s) : Goes s (execPutMessage m s) := by
  unfold execPutMessage
  with_reducible apply arriveKind_keeps _ _ _ _

theorem execRedPutMessage_keeps (m) (s) : Goes s (execRedPutMessage m s) := by
  unfold execRedPutMessage
  with_reducible apply arriveKind_keeps _ _ _ _

theorem execDispatchMessage_keeps (m) (s) : Goes s (execDispatchMessage m s) := by
  unfold execDispatchMessage
  with_reducible apply arriveKind_keeps _ _ _ _

theorem execCombineMessage_keeps (m) (s) : Goes s (execCombineMessage m s) := by
  unfold execCombineMessage
  with_reducible apply arriveKind_keeps _ _ _ _

theorem execAckMessage_keeps (m) (s) : Goes s (execAckMessage m s) := by
  unfold execAckMessage
  with_reducible apply arriveKind_keeps _ _ _ _

theorem execRefuseMessage_keeps (m) (s) : Goes s (execRefuseMessage m s) := by
  unfold execRefuseMessage
  with_reducible apply arriveKind_keeps _ _ _ _

theorem execBarArriveMessage_keeps (port) (m) (s) : Goes s (execBarArriveMessage port m s) := by
  unfold execBarArriveMessage
  with_reducible apply arriveKind_keeps _ _ _ _

theorem execBarReleaseMessage_keeps (port) (m) (s) : Goes s (execBarReleaseMessage port m s) := by
  unfold execBarReleaseMessage
  with_reducible apply arriveKind_keeps _ _ _ _

theorem execResendTimeout_keeps (i) (s) : Goes s (execResendTimeout i s) := by
  unfold execResendTimeout
  with_reducible apply Goes.next
  split
  exact Keeps.refl _
  with_reducible apply Keeps.ite
  exact Keeps.refl _
  with_reducible apply Keeps.ite
  with_reducible apply Keeps.after (inject_keeps _ _)
  with_reducible apply Keeps.after (State.modFab_keeps _ _)
  exact Keeps.refl _
  lift_lets
  intro x0
  refine Keeps.bindLet (s := s) (x := x0) ?_ (fun h1 => ?_)
  subst x0
  with_reducible apply Keeps.after (State.modFab_keeps _ _)
  exact Keeps.refl _
  clear_value x0
  with_reducible apply Keeps.after (pumpSends_keeps _)
  with_reducible apply Keeps.after (record_keeps _ _ _ _ _)
  assumption

theorem execBarrierArriveLocal_keeps (i) (gen) (s) : Goes s (execBarrierArriveLocal i gen s) := by
  unfold execBarrierArriveLocal
  lift_lets
  intro x0
  subst x0
  with_reducible apply Goes.next
  with_reducible apply Keeps.ite
  with_reducible apply Keeps.after (barArrive_keeps _ _ _ _)
  exact Keeps.refl _
  exact Keeps.refl _

theorem execBarTimeout_keeps (i) (s) : Goes s (execBarTimeout i s) := by
  unfold execBarTimeout
  lift_lets
  intro x0
  subst x0
  with_reducible apply Goes.next
  with_reducible apply Keeps.ite
  with_reducible apply Keeps.after (barFail_keeps _ _ _)
  exact Keeps.refl _
  exact Keeps.refl _

/-! ### Seq -/

theorem onCore_keeps (c) (gap) (s) (f) (h_f : FK1 f) : Goes s (onCore c gap s f) := by
  unfold onCore
  with_reducible apply Goes.next
  with_reducible apply Keeps.ite
  exact Keeps.refl _
  with_reducible apply Keeps.after (h_f _)
  with_reducible apply Keeps.after (passCore_keeps _ _ _)
  exact Keeps.refl _

theorem seqFault_keeps (s) (c) (slot) (code) : Keeps s (seqFault s c slot code) := by
  unfold seqFault
  with_reducible apply Keeps.after (faultCore_keeps _ _ _ _ _)
  exact Keeps.refl _

theorem setBlock_keeps (s) (c) (cause) (e) : Keeps s (setBlock s c cause e) := by
  unfold setBlock
  with_reducible apply Keeps.after (State.modCore_keeps _ _ _)
  exact Keeps.refl _

theorem seqNext_keeps (s) (c) (i) : Keeps s (seqNext s c i) := by
  unfold seqNext
  with_reducible apply Keeps.after (State.modCore_keeps _ _ _)
  exact Keeps.refl _

theorem seqDispatch_keeps (s) (c) : Keeps s (seqDispatch s c) := by
  unfold seqDispatch
  lift_lets
  intro x0
  subst x0
  intro x1
  subst x1
  intro x2
  subst x2
  with_reducible apply Keeps.ite
  exact Keeps.refl _
  with_reducible apply Keeps.ite
  with_reducible apply Keeps.after (seqFault_keeps _ _ _ _)
  exact Keeps.refl _
  with_reducible apply Keeps.ite
  with_reducible apply Keeps.after (seqFault_keeps _ _ _ _)
  exact Keeps.refl _
  split
  with_reducible apply Keeps.ite
  with_reducible apply Keeps.after (seqNext_keeps _ _ _)
  with_reducible apply Keeps.after (State.modCore_keeps _ _ _)
  exact Keeps.refl _
  with_reducible apply Keeps.after (setBlock_keeps _ _ _ _)
  exact Keeps.refl _
  with_reducible apply Keeps.ite
  with_reducible apply Keeps.after (seqFault_keeps _ _ _ _)
  exact Keeps.refl _
  with_reducible apply Keeps.ite
  with_reducible apply Keeps.after (seqFault_keeps _ _ _ _)
  exact Keeps.refl _
  with_reducible apply Keeps.after (setBlock_keeps _ _ _ _)
  exact Keeps.refl _

theorem seqRan_keeps (s) (c) (i) (w) : Keeps s (seqRan s c i w) := by
  unfold seqRan
  lift_lets
  intro x0
  refine Keeps.bindLet (s := s) (x := x0) ?_ (fun h1 => ?_)
  subst x0
  with_reducible apply Keeps.after (State.modCore_keeps _ _ _)
  with_reducible apply Keeps.after (progress_keeps _ _)
  exact Keeps.refl _
  clear_value x0
  intro x2
  subst x2
  intro x3
  refine Keeps.bindLet (s := s) (x := x3) ?_ (fun h4 => ?_)
  subst x3
  with_reducible apply Keeps.after (fbPut_keeps _ _ _ _ _)
  assumption
  clear_value x3
  intro x5
  refine Keeps.bindLet (s := s) (x := x5) ?_ (fun h6 => ?_)
  subst x5
  with_reducible apply Keeps.ite
  with_reducible apply Keeps.after (signal_keeps _ _ _ _ _ _ _)
  assumption
  assumption
  clear_value x5
  with_reducible apply Keeps.after (fbPut_keeps _ _ _ _ _)
  assumption

theorem seqExec_keeps (op) (act) (c) (s) (h_act : FK3 act) : Keeps s (seqExec op act c s) := by
  unfold seqExec
  lift_lets
  intro x0
  subst x0
  intro x1
  subst x1
  intro x2
  subst x2
  with_reducible apply Keeps.ite
  exact Keeps.refl _
  with_reducible apply Keeps.ite
  with_reducible apply Keeps.after (setBlock_keeps _ _ _ _)
  exact Keeps.refl _
  with_reducible apply Keeps.after (h_act _ _ _)
  with_reducible apply Keeps.after (seqRan_keeps _ _ _ _)
  exact Keeps.refl _

theorem loopAct_keeps (c) (s) (i) (w) : Keeps s (loopAct c s i w) := by
  unfold loopAct
  with_reducible apply Keeps.ite
  with_reducible apply Keeps.after (seqNext_keeps _ _ _)
  exact Keeps.refl _
  with_reducible apply Keeps.after (State.modCore_keeps _ _ _)
  exact Keeps.refl _

theorem haltAct_keeps (c) (s) (i) (a3) : Keeps s (haltAct c s i a3) := by
  unfold haltAct
  with_reducible apply Keeps.after (progDone_keeps _ _)
  with_reducible apply Keeps.after (State.modCore_keeps _ _ _)
  exact Keeps.refl _

theorem execSeqDispatch_keeps (c) (gap) (s) : Goes s (execSeqDispatch c gap s) := by
  unfold execSeqDispatch
  with_reducible apply onCore_keeps _ _ _ _ (fun z0 => ?_)
  with_reducible apply Keeps.after (seqDispatch_keeps _ _)
  exact Keeps.refl _

theorem execNop_keeps (c) (gap) (s) : Goes s (execNop c gap s) := by
  unfold execNop
  with_reducible apply onCore_keeps _ _ _ _ (fun z0 => ?_)
  with_reducible apply Keeps.after (seqExec_keeps _ _ _ _ (fun z1 _ _ => ?_))
  exact Keeps.refl _
  with_reducible apply Keeps.after (seqNext_keeps _ _ _)
  exact Keeps.refl _

theorem execLoop_keeps (c) (gap) (s) : Goes s (execLoop c gap s) := by
  unfold execLoop
  with_reducible apply onCore_keeps _ _ _ _ (fun z0 => ?_)
  with_reducible apply Keeps.after (seqExec_keeps _ _ _ _ (fun z1 _ _ => ?_))
  exact Keeps.refl _
  with_reducible apply Keeps.after (loopAct_keeps _ _ _ _)
  exact Keeps.refl _

theorem execHalt_keeps (c) (gap) (s) : Goes s (execHalt c gap s) := by
  unfold execHalt
  with_reducible apply onCore_keeps _ _ _ _ (fun z0 => ?_)
  with_reducible apply Keeps.after (seqExec_keeps _ _ _ _ (fun z1 _ _ => ?_))
  exact Keeps.refl _
  with_reducible apply Keeps.after (haltAct_keeps _ _ _ _)
  exact Keeps.refl _

theorem execInstructionComplete_keeps (c) (e) (gap) (s) : Goes s (execInstructionComplete c e gap s) := by
  unfold execInstructionComplete
  with_reducible apply onCore_keeps _ _ _ _ (fun z0 => ?_)
  split
  with_reducible apply Keeps.ite
  with_reducible apply Keeps.after (completeOldest_keeps _ _ _)
  exact Keeps.refl _
  exact Keeps.refl _
  exact Keeps.refl _

theorem startCore_keeps (s) (c) : Keeps s (startCore s c) := by
  unfold startCore
  lift_lets
  intro x0
  refine Keeps.bindLet (s := s) (x := x0) ?_ (fun h1 => ?_)
  subst x0
  with_reducible apply Keeps.after (State.modCore_keeps _ _ _)
  exact Keeps.refl _
  clear_value x0
  split
  with_reducible apply Keeps.after (seqFault_keeps _ _ _ _)
  assumption
  with_reducible apply Keeps.after (State.modCore_keeps _ _ _)
  assumption

theorem stopCore_keeps (s) (c) : Keeps s (stopCore s c) := by
  unfold stopCore
  lift_lets
  intro x0
  refine Keeps.bindLet (s := s) (x := x0) ?_ (fun h1 => ?_)
  subst x0
  with_reducible apply Keeps.after (State.modCore_keeps _ _ _)
  exact Keeps.refl _
  clear_value x0
  with_reducible apply Keeps.after (closeAll_keeps _ _)
  assumption

theorem returnEngines_keeps (s) (c) : Keeps s (returnEngines s c) := by
  unfold returnEngines
  lift_lets
  intro x0
  subst x0
  with_reducible apply Keeps.after (State.modCore_keeps _ _ _)
  exact Keeps.refl _

theorem moveSaved_keeps (s) (a) (b) : Keeps s (moveSaved s a b) := by
  unfold moveSaved
  with_reducible apply Keeps.after (State.copyMarked_keeps _ _ _ _)
  with_reducible apply Keeps.after (meetErrs_keeps _ _)
  exact Keeps.refl _

theorem enterKernel_keeps (s) (c) (k) : Keeps s (enterKernel s c k) := by
  unfold enterKernel
  lift_lets
  intro x0
  refine Keeps.bindLet (s := s) (x := x0) ?_ (fun h1 => ?_)
  subst x0
  with_reducible apply Keeps.after (State.write_keeps _ _ _ _)
  exact Keeps.refl _
  clear_value x0
  with_reducible apply Keeps.ite
  with_reducible apply Keeps.after (State.spoil_keeps _ _)
  with_reducible apply Keeps.after (moveSaved_keeps _ _ _)
  assumption
  assumption

theorem restoreSaved_keeps (s) (c) (k) : Keeps s (restoreSaved s c k) := by
  unfold restoreSaved
  with_reducible apply Keeps.ite
  with_reducible apply Keeps.after (moveSaved_keeps _ _ _)
  exact Keeps.refl _
  exact Keeps.refl _

theorem abortKernel_keeps (s) (c) : Keeps s (abortKernel s c) := by
  unfold abortKernel
  lift_lets
  intro x0
  refine Keeps.bindLet (s := s) (x := x0) ?_ (fun h1 => ?_)
  subst x0
  split
  with_reducible apply Keeps.ite
  with_reducible apply Keeps.after (restoreSaved_keeps _ _ _)
  with_reducible apply Keeps.after (State.spoil_keeps _ _)
  exact Keeps.refl _
  exact Keeps.refl _
  exact Keeps.refl _
  clear_value x0
  intro x2
  subst x2
  with_reducible apply Keeps.after (returnEngines_keeps _ _)
  with_reducible apply Keeps.upd ?_ rfl rfl
  with_reducible refine Keeps.upd ?_ rfl rfl
  assumption

theorem settleStop_keeps (s) (c) : Keeps s (settleStop s c) := by
  unfold settleStop
  lift_lets
  intro x0
  subst x0
  with_reducible apply Keeps.ite
  with_reducible apply Keeps.after (State.modCore_keeps _ _ _)
  exact Keeps.refl _
  exact Keeps.refl _

theorem clrCounters_keeps (s) (c) (v) : Keeps s (clrCounters s c v) := by
  unfold clrCounters
  with_reducible apply Keeps.ite
  with_reducible apply Keeps.after (State.modCore_keeps _ _ _)
  exact Keeps.refl _
  with_reducible apply Keeps.after (recordCore_keeps _ _ _ _)
  exact Keeps.refl _

theorem coreCtrlWrite_keeps (s) (c) (v) : Keeps s (coreCtrlWrite s c v) := by
  unfold coreCtrlWrite
  lift_lets
  intro x0
  refine Keeps.bindLet (s := s) (x := x0) ?_ (fun h1 => ?_)
  subst x0
  with_reducible apply Keeps.after (State.modCore_keeps _ _ _)
  exact Keeps.refl _
  clear_value x0
  intro x2
  refine Keeps.bindLet (s := s) (x := x2) ?_ (fun h3 => ?_)
  subst x2
  with_reducible apply Keeps.ite
  with_reducible apply Keeps.after (clrCounters_keeps _ _ _)
  assumption
  assumption
  clear_value x2
  intro x4
  refine Keeps.bindLet (s := s) (x := x4) ?_ (fun h5 => ?_)
  subst x4
  with_reducible apply Keeps.ite
  with_reducible apply Keeps.after (stopCore_keeps _ _)
  assumption
  assumption
  clear_value x4
  with_reducible apply Keeps.ite
  with_reducible apply Keeps.after (startCore_keeps _ _)
  assumption
  assumption

theorem onPath_keeps (c) (gap) (s) (f) (h_f : FK1 f) : Goes s (onPath c gap s f) := by
  unfold onPath
  with_reducible apply onCore_keeps _ _ _ _ (fun z0 => ?_)
  with_reducible apply Keeps.ite
  exact Keeps.refl _
  with_reducible apply Keeps.after (h_f _)
  exact Keeps.refl _

theorem execCoreCtrlStart_keeps (c) (v) (gap) (s) : Goes s (execCoreCtrlStart c v gap s) := by
  unfold execCoreCtrlStart
  with_reducible apply onPath_keeps _ _ _ _ (fun z0 => ?_)
  with_reducible apply Keeps.after (coreCtrlWrite_keeps _ _ _)
  exact Keeps.refl _

theorem execCoreCtrlStop_keeps (c) (v) (gap) (s) : Goes s (execCoreCtrlStop c v gap s) := by
  unfold execCoreCtrlStop
  with_reducible apply onPath_keeps _ _ _ _ (fun z0 => ?_)
  with_reducible apply Keeps.after (coreCtrlWrite_keeps _ _ _)
  exact Keeps.refl _

theorem execCoreCtrlClrCounters_keeps (c) (v) (gap) (s) : Goes s (execCoreCtrlClrCounters c v gap s) := by
  unfold execCoreCtrlClrCounters
  with_reducible apply onPath_keeps _ _ _ _ (fun z0 => ?_)
  with_reducible apply Keeps.after (coreCtrlWrite_keeps _ _ _)
  exact Keeps.refl _

theorem contextSwitch_keeps (s) (c) : Keeps s (contextSwitch s c) := by
  unfold contextSwitch
  with_reducible apply Keeps.after (State.modCore_keeps _ _ _)
  with_reducible apply Keeps.after (abortKernel_keeps _ _)
  exact Keeps.refl _

theorem execSeqSignal_keeps (c) (n) (inc) (gap) (s) : Goes s (execSeqSignal c n inc gap s) := by
  unfold execSeqSignal
  with_reducible apply onPath_keeps _ _ _ _ (fun z0 => ?_)
  with_reducible apply Keeps.ite
  exact Keeps.refl _
  with_reducible apply Keeps.after (signal_keeps _ _ _ _ _ _ _)
  exact Keeps.refl _

theorem writeTag_keeps (s) (c) (tag) : Keeps s (writeTag s c tag) := by
  unfold writeTag
  lift_lets
  intro x0
  subst x0
  with_reducible apply Keeps.after (fbPut_keeps _ _ _ _ _)
  with_reducible apply Keeps.after (State.modCore_keeps _ _ _)
  exact Keeps.refl _

theorem execStepTagWrite_keeps (c) (tag) (gap) (s) : Goes s (execStepTagWrite c tag gap s) := by
  unfold execStepTagWrite
  with_reducible apply onPath_keeps _ _ _ _ (fun z0 => ?_)
  with_reducible apply Keeps.after (writeTag_keeps _ _ _)
  exact Keeps.refl _

theorem execEngCtrlStep_keeps (c) (e) (hold) (gap) (s) : Goes s (execEngCtrlStep c e hold gap s) := by
  unfold execEngCtrlStep
  with_reducible apply onPath_keeps _ _ _ _ (fun z0 => ?_)
  with_reducible apply Keeps.after (State.modCore_keeps _ _ _)
  exact Keeps.refl _

theorem execOlogWptrWrite_keeps (c) (v) (gap) (s) : Goes s (execOlogWptrWrite c v gap s) := by
  unfold execOlogWptrWrite
  with_reducible apply onPath_keeps _ _ _ _ (fun z0 => ?_)
  with_reducible apply Keeps.after (State.modCore_keeps _ _ _)
  exact Keeps.refl _

theorem execVxSeedHi_keeps (c) (hi) (gap) (s) : Goes s (execVxSeedHi c hi gap s) := by
  unfold execVxSeedHi
  with_reducible apply onPath_keeps _ _ _ _ (fun z0 => ?_)
  with_reducible apply Keeps.after (State.modCore_keeps _ _ _)
  exact Keeps.refl _

theorem execEdgeSeedHi_keeps (c) (hi) (gap) (s) : Goes s (execEdgeSeedHi c hi gap s) := by
  unfold execEdgeSeedHi
  with_reducible apply onPath_keeps _ _ _ _ (fun z0 => ?_)
  with_reducible apply Keeps.after (State.modCore_keeps _ _ _)
  exact Keeps.refl _

theorem State.returns_keeps (s) (bs) : Keeps s (State.returns s bs) := by
  unfold State.returns
  with_reducible apply Keeps.upd ?_ rfl rfl
  exact Keeps.refl _

theorem readCore_keeps (c) (gap) (s) (f) (h_f : FK1 f) : Goes s (readCore c gap s f) := by
  unfold readCore
  with_reducible apply Goes.next
  with_reducible apply Keeps.ite
  with_reducible apply Keeps.after (State.returns_keeps _ _)
  exact Keeps.refl _
  with_reducible apply Keeps.after (h_f _)
  with_reducible apply Keeps.after (passCore_keeps _ _ _)
  exact Keeps.refl _

theorem execVxStateLo_keeps (c) (gap) (s) : Goes s (execVxStateLo c gap s) := by
  unfold execVxStateLo
  with_reducible apply readCore_keeps _ _ _ _ (fun z0 => ?_)
  with_reducible apply Keeps.after (State.returns_keeps _ _)
  with_reducible apply Keeps.after (State.modCore_keeps _ _ _)
  exact Keeps.refl _

theorem execEdgeStateLo_keeps (c) (gap) (s) : Goes s (execEdgeStateLo c gap s) := by
  unfold execEdgeStateLo
  with_reducible apply readCore_keeps _ _ _ _ (fun z0 => ?_)
  with_reducible apply Keeps.after (State.returns_keeps _ _)
  with_reducible apply Keeps.after (State.modCore_keeps _ _ _)
  exact Keeps.refl _

/-! ### Links -/

theorem modPort_keeps (s) (n) (f) : Keeps s (modPort s n f) := by
  unfold modPort
  with_reducible apply Keeps.after (State.modFab_keeps _ _)
  exact Keeps.refl _

theorem linkRecord_keeps (s) (n) : Keeps s (linkRecord s n) := by
  unfold linkRecord
  with_reducible apply Keeps.after (record_keeps _ _ _ _ _)
  exact Keeps.refl _

theorem sendWords_keeps (s) (n) (k) (b) : Keeps s (sendWords s n k b) := by
  unfold sendWords
  with_reducible apply Keeps.after (State.modFab_keeps _ _)
  with_reducible apply Keeps.after (modPort_keeps _ _ _)
  exact Keeps.refl _

theorem sendFlit_keeps (s) (n) : Keeps s (sendFlit s n) := by
  unfold sendFlit
  lift_lets
  intro x0
  subst x0
  intro x1
  subst x1
  intro x2
  subst x2
  intro x3
  subst x3
  with_reducible apply Keeps.after (sendWords_keeps _ _ _ _)
  with_reducible apply Keeps.after (modPort_keeps _ _ _)
  exact Keeps.refl _

theorem flush_keeps (n) (k) (s) : Keeps s (flush n k s) := by
  induction k generalizing s with
  | zero => exact Keeps.refl _
  | succ k ih =>
    unfold flush
    with_reducible apply Keeps.ite
    with_reducible apply Keeps.after (ih _)
    with_reducible apply Keeps.after (sendFlit_keeps _ _)
    exact Keeps.refl _
    exact Keeps.refl _

theorem sendControl_keeps (s) (n) (f) : Keeps s (sendControl s n f) := by
  unfold sendControl
  lift_lets
  intro x0
  refine Keeps.bindLet (s := s) (x := x0) ?_ (fun h1 => ?_)
  subst x0
  with_reducible apply Keeps.after (modPort_keeps _ _ _)
  exact Keeps.refl _
  clear_value x0
  with_reducible apply Keeps.after (flush_keeps _ _ _)
  assumption

theorem sendNak_keeps (s) (n) : Keeps s (sendNak s n) := by
  unfold sendNak
  with_reducible apply Keeps.after (sendControl_keeps _ _ _)
  exact Keeps.refl _

theorem sendHs_keeps (s) (n) (code) (a3) : Keeps s (sendHs s n code a3) := by
  unfold sendHs
  with_reducible apply Keeps.after (sendControl_keeps _ _ _)
  exact Keeps.refl _

theorem freeBuffer_keeps (s) (port) (cls) (m) : Keeps s (freeBuffer s port cls m) := by
  unfold freeBuffer
  split
  with_reducible apply Keeps.ite
  with_reducible apply Keeps.after (sendControl_keeps _ _ _)
  exact Keeps.refl _
  exact Keeps.refl _
  exact Keeps.refl _

theorem linkDown_keeps (s) (n) : Keeps s (linkDown s n) := by
  unfold linkDown
  lift_lets
  intro x0
  refine Keeps.bindLet (s := s) (x := x0) ?_ (fun h1 => ?_)
  subst x0
  with_reducible apply Keeps.after (modPort_keeps _ _ _)
  exact Keeps.refl _
  clear_value x0
  intro x2
  refine Keeps.bindLet (s := s) (x := x2) ?_ (fun h3 => ?_)
  subst x2
  with_reducible apply Keeps.ite
  with_reducible apply Keeps.after (State.modFab_keeps _ _)
  assumption
  assumption
  clear_value x2
  with_reducible apply Keeps.after (linkRecord_keeps _ _)
  assumption

theorem judgePeer_keeps (s) (n) (peer) : Keeps s (judgePeer s n peer) := by
  unfold judgePeer
  lift_lets
  intro x0
  subst x0
  intro x1
  refine Keeps.bindLet (s := s) (x := x1) ?_ (fun h2 => ?_)
  subst x1
  with_reducible apply Keeps.after (modPort_keeps _ _ _)
  exact Keeps.refl _
  clear_value x1
  with_reducible apply Keeps.ite
  assumption
  with_reducible apply Keeps.after (linkRecord_keeps _ _)
  assumption

theorem execPortTrained_keeps (n) (peer) (s) : Goes s (execPortTrained n peer s) := by
  unfold execPortTrained
  with_reducible apply Goes.next
  with_reducible apply Keeps.ite
  exact Keeps.refl _
  lift_lets
  intro x0
  refine Keeps.bindLet (s := s) (x := x0) ?_ (fun h1 => ?_)
  subst x0
  with_reducible apply Keeps.after (modPort_keeps _ _ _)
  exact Keeps.refl _
  clear_value x0
  intro x2
  refine Keeps.bindLet (s := s) (x := x2) ?_ (fun h3 => ?_)
  subst x2
  with_reducible apply Keeps.after (modPort_keeps _ _ _)
  assumption
  clear_value x2
  with_reducible apply Keeps.ite
  with_reducible apply Keeps.after (modPort_keeps _ _ _)
  assumption
  with_reducible apply Keeps.ite
  with_reducible apply Keeps.after (judgePeer_keeps _ _ _)
  with_reducible apply Keeps.after (sendHs_keeps _ _ _ _)
  assumption
  assumption

theorem resendFrom_keeps (s) (n) (c) : Keeps s (resendFrom s n c) := by
  unfold resendFrom
  lift_lets
  intro x0
  subst x0
  with_reducible apply Keeps.after (State.modFab_keeps _ _)
  exact Keeps.refl _

theorem forceRetrain_keeps (s) (n) : Keeps s (forceRetrain s n) := by
  unfold forceRetrain
  with_reducible apply Keeps.after (modPort_keeps _ _ _)
  exact Keeps.refl _

theorem askOne_keeps (s) (n) (code) : Keeps s (askOne s n code) := by
  unfold askOne
  split
  lift_lets
  intro x0
  subst x0
  intro x1
  subst x1
  intro x2
  subst x2
  intro x3
  subst x3
  with_reducible apply Keeps.after (sendHs_keeps _ _ _ _)
  with_reducible apply Keeps.after (modPort_keeps _ _ _)
  refine Keeps.pair2 (by assumption) ?_
  with_reducible apply Keeps.after (State.fresh_keeps _)
  exact Keeps.refl _

theorem askSwitch_keeps (s) (n) (code) : Keeps s (askSwitch s n code) := by
  unfold askSwitch
  with_reducible apply Keeps.ite
  lift_lets
  intro x0
  subst x0
  intro x1
  refine Keeps.bindLet (s := s) (x := x1) ?_ (fun h2 => ?_)
  subst x1
  with_reducible apply Keeps.after (modPort_keeps _ _ _)
  exact Keeps.refl _
  clear_value x1
  with_reducible apply Keeps.foldl (fun z3 _ => ?_) ?_
  with_reducible apply Keeps.after (askOne_keeps _ _ _)
  assumption
  with_reducible apply Keeps.after (askOne_keeps _ _ _)
  exact Keeps.refl _
  with_reducible apply Keeps.ite
  with_reducible apply Keeps.after (modPort_keeps _ _ _)
  exact Keeps.refl _
  with_reducible apply Keeps.after (askOne_keeps _ _ _)
  exact Keeps.refl _

theorem countRetry_keeps (s) (n) : Keeps s (countRetry s n) := by
  unfold countRetry
  lift_lets
  intro x0
  refine Keeps.bindLet (s := s) (x := x0) ?_ (fun h1 => ?_)
  subst x0
  with_reducible apply Keeps.after (modPort_keeps _ _ _)
  exact Keeps.refl _
  clear_value x0
  intro x2
  subst x2
  with_reducible apply Keeps.ite
  with_reducible apply Keeps.after (askSwitch_keeps _ _ _)
  assumption
  assumption

theorem retrainFailed_keeps (s) (n) : Keeps s (retrainFailed s n) := by
  unfold retrainFailed
  lift_lets
  intro x0
  refine Keeps.bindLet (s := s) (x := x0) ?_ (fun h1 => ?_)
  subst x0
  with_reducible apply Keeps.after (modPort_keeps _ _ _)
  exact Keeps.refl _
  clear_value x0
  with_reducible apply Keeps.ite
  with_reducible apply Keeps.after (linkDown_keeps _ _)
  assumption
  with_reducible apply Keeps.after (forceRetrain_keeps _ _)
  assumption

theorem takeNak_keeps (s) (n) (c) : Keeps s (takeNak s n c) := by
  unfold takeNak
  lift_lets
  intro x0
  refine Keeps.bindLet (s := s) (x := x0) ?_ (fun h1 => ?_)
  subst x0
  with_reducible apply Keeps.after (modPort_keeps _ _ _)
  exact Keeps.refl _
  clear_value x0
  intro x2
  subst x2
  with_reducible apply Keeps.ite
  with_reducible apply Keeps.ite
  with_reducible apply Keeps.after (retrainFailed_keeps _ _)
  with_reducible apply Keeps.after (modPort_keeps _ _ _)
  assumption
  with_reducible apply Keeps.after (forceRetrain_keeps _ _)
  assumption
  with_reducible apply Keeps.ite
  with_reducible apply Keeps.after (resendFrom_keeps _ _ _)
  with_reducible apply Keeps.after (countRetry_keeps _ _)
  assumption
  with_reducible apply Keeps.after (forceRetrain_keeps _ _)
  assumption

theorem takeAck_keeps (s) (n) (c) : Keeps s (takeAck s n c) := by
  unfold takeAck
  lift_lets
  intro x0
  subst x0
  intro x1
  subst x1
  with_reducible apply Keeps.ite
  exact Keeps.refl _
  with_reducible apply Keeps.after (modPort_keeps _ _ _)
  exact Keeps.refl _

theorem takeReport_keeps (s) (n) (ack) (nak) (credits) : Keeps s (takeReport s n ack nak credits) := by
  unfold takeReport
  lift_lets
  intro x0
  refine Keeps.bindLet (s := s) (x := x0) ?_ (fun h1 => ?_)
  subst x0
  with_reducible apply Keeps.after (takeAck_keeps _ _ _)
  exact Keeps.refl _
  clear_value x0
  intro x2
  refine Keeps.bindLet (s := s) (x := x2) ?_ (fun h3 => ?_)
  subst x2
  with_reducible apply Keeps.after (modPort_keeps _ _ _)
  assumption
  clear_value x2
  split
  with_reducible apply Keeps.after (takeNak_keeps _ _ _)
  assumption
  assumption

theorem putOff_keeps (s) (n) : Keeps s (putOff s n) := by
  unfold putOff
  lift_lets
  intro x0
  subst x0
  with_reducible apply Keeps.after (modPort_keeps _ _ _)
  exact Keeps.refl _

theorem takeControl_keeps (s) (n) (ack) (nak) (hs) (hsAt) (lanes) (dev) (credits) : Keeps s (takeControl s n ack nak hs hsAt lanes dev credits) := by
  unfold takeControl
  with_reducible apply Keeps.ite
  exact Keeps.refl _
  lift_lets
  intro x0
  refine Keeps.bindLet (s := s) (x := x0) ?_ (fun h1 => ?_)
  subst x0
  with_reducible apply Keeps.after (takeReport_keeps _ _ _ _ _)
  exact Keeps.refl _
  clear_value x0
  intro x2
  refine Keeps.bindLet (s := s) (x := x2) ?_ (fun h3 => ?_)
  subst x2
  with_reducible apply Keeps.after (modPort_keeps _ _ _)
  assumption
  clear_value x2
  intro x4
  refine Keeps.bindLet (s := s) (x := x4) ?_ (fun h5 => ?_)
  subst x4
  with_reducible apply Keeps.ite
  with_reducible apply Keeps.ite
  with_reducible apply Keeps.after (judgePeer_keeps _ _ _)
  assumption
  assumption
  with_reducible apply Keeps.ite
  with_reducible apply Keeps.after (modPort_keeps _ _ _)
  with_reducible apply Keeps.ite
  with_reducible apply Keeps.after (putOff_keeps _ _)
  assumption
  assumption
  assumption
  clear_value x4
  with_reducible apply Keeps.after (flush_keeps _ _ _)
  assumption

theorem execLinkControlFlit_keeps (n) (ack) (nak) (hs) (hsAt) (lanes) (dev) (credits) (s) : Goes s (execLinkControlFlit n ack nak hs hsAt lanes dev credits s) := by
  unfold execLinkControlFlit
  with_reducible apply Goes.next
  with_reducible apply Keeps.after (takeControl_keeps _ _ _ _ _ _ _ _ _)
  exact Keeps.refl _

theorem execLinkRetrainDone_keeps (n) (ok) (s) : Goes s (execLinkRetrainDone n ok s) := by
  unfold execLinkRetrainDone
  lift_lets
  intro x0
  subst x0
  intro x1
  refine Keeps.bindLet (s := s) (x := x1) ?_ (fun h2 => ?_)
  subst x1
  with_reducible apply Keeps.ite
  exact Keeps.refl _
  with_reducible apply Keeps.after (forceRetrain_keeps _ _)
  exact Keeps.refl _
  clear_value x1
  intro x3
  refine Keeps.bindLet (s := s) (x := x3) ?_ (fun h4 => ?_)
  subst x3
  with_reducible apply Keeps.after (modPort_keeps _ _ _)
  assumption
  clear_value x3
  intro x5
  refine Keeps.bindLet (s := s) (x := x5) ?_ (fun h6 => ?_)
  subst x5
  split
  with_reducible apply Keeps.after (resendFrom_keeps _ _ _)
  assumption
  assumption
  clear_value x5
  with_reducible apply Goes.next
  with_reducible apply Keeps.ite
  exact Keeps.refl _
  with_reducible apply Keeps.ite
  with_reducible apply Keeps.after (flush_keeps _ _ _)
  assumption
  with_reducible apply Keeps.after (retrainFailed_keeps _ _)
  assumption

theorem execLaneFault_keeps (n) (lane) (s) : Goes s (execLaneFault n lane s) := by
  unfold execLaneFault
  lift_lets
  intro x0
  subst x0
  intro x1
  subst x1
  intro x2
  subst x2
  intro x3
  refine Keeps.bindLet (s := s) (x := x3) ?_ (fun h4 => ?_)
  subst x3
  with_reducible apply Keeps.after (modPort_keeps _ _ _)
  exact Keeps.refl _
  clear_value x3
  intro x5
  subst x5
  with_reducible apply Goes.next
  with_reducible apply Keeps.ite
  exact Keeps.refl _
  with_reducible apply Keeps.ite
  split
  with_reducible apply Keeps.after (askSwitch_keeps _ _ _)
  assumption
  with_reducible apply Keeps.after (linkDown_keeps _ _)
  assumption
  with_reducible apply Keeps.ite
  with_reducible apply Keeps.after (linkDown_keeps _ _)
  assumption
  assumption

theorem fillIdle_keeps (n) (k) (s) : Keeps s (fillIdle n k s) := by
  induction k generalizing s with
  | zero => exact Keeps.refl _
  | succ k ih =>
    unfold fillIdle
    with_reducible apply Keeps.ite
    exact Keeps.refl _
    with_reducible apply Keeps.after (ih _)
    with_reducible apply Keeps.ite
    with_reducible apply Keeps.after (sendFlit_keeps _ _)
    exact Keeps.refl _
    with_reducible apply Keeps.after (sendWords_keeps _ _ _ _)
    exact Keeps.refl _

theorem askLater_keeps (s) (n) : Keeps s (askLater s n) := by
  unfold askLater
  lift_lets
  intro x0
  subst x0
  with_reducible apply Keeps.ite
  exact Keeps.refl _
  with_reducible apply Keeps.foldl (fun z1 _ => ?_) ?_
  with_reducible apply Keeps.after (modPort_keeps _ _ _)
  exact Keeps.refl _
  with_reducible apply Keeps.after (askSwitch_keeps _ _ _)
  exact Keeps.refl _

theorem execHandshakeSwitch_keeps (n) (s) : Goes s (execHandshakeSwitch n s) := by
  unfold execHandshakeSwitch
  lift_lets
  intro x0
  subst x0
  with_reducible apply Goes.next
  dsimp only
  split
  exact Keeps.refl _
  split
  with_reducible apply Keeps.ite
  with_reducible apply Keeps.after (fillIdle_keeps _ _ _)
  exact Keeps.refl _
  exact Keeps.refl _
  with_reducible apply Keeps.ite
  with_reducible apply Keeps.after (askLater_keeps _ _)
  with_reducible apply Keeps.after (modPort_keeps _ _ _)
  with_reducible apply Keeps.ite
  with_reducible apply Keeps.after (fillIdle_keeps _ _ _)
  exact Keeps.refl _
  exact Keeps.refl _
  with_reducible apply Keeps.ite
  with_reducible apply Keeps.after (fillIdle_keeps _ _ _)
  exact Keeps.refl _
  exact Keeps.refl _

theorem execLaneRetrained_keeps (n) (s) : Goes s (execLaneRetrained n s) := by
  unfold execLaneRetrained
  lift_lets
  intro x0
  subst x0
  with_reducible apply Goes.next
  with_reducible apply Keeps.ite
  with_reducible apply Keeps.after (askSwitch_keeps _ _ _)
  with_reducible apply Keeps.after (modPort_keeps _ _ _)
  exact Keeps.refl _
  exact Keeps.refl _

theorem execPartnerSilence_keeps (n) (s) : Goes s (execPartnerSilence n s) := by
  unfold execPartnerSilence
  lift_lets
  intro x0
  subst x0
  with_reducible apply Goes.next
  with_reducible apply Keeps.ite
  with_reducible apply Keeps.after (linkDown_keeps _ _)
  exact Keeps.refl _
  exact Keeps.refl _

theorem unwait_keeps (s) (i) : Keeps s (unwait s i) := by
  unfold unwait
  with_reducible apply Keeps.after (State.modFab_keeps _ _)
  exact Keeps.refl _

theorem modWait_keeps (s) (i) (f) : Keeps s (modWait s i f) := by
  unfold modWait
  with_reducible apply Keeps.after (State.modFab_keeps _ _)
  exact Keeps.refl _

theorem sendTorus_keeps (s) (n) (cls) (m) : Keeps s (sendTorus s n cls m) := by
  unfold sendTorus
  lift_lets
  intro x0
  subst x0
  intro x1
  refine Keeps.bindLet (s := s) (x := x1) ?_ (fun h2 => ?_)
  subst x1
  with_reducible apply Keeps.ite
  with_reducible apply Keeps.after (sendFlit_keeps _ _)
  exact Keeps.refl _
  exact Keeps.refl _
  clear_value x1
  with_reducible apply Keeps.after (sendWords_keeps _ _ _ _)
  with_reducible apply Keeps.after (modPort_keeps _ _ _)
  assumption

theorem served_keeps (s) (n) (d) : Keeps s (served s n d) := by
  unfold served
  with_reducible apply Keeps.after (modPort_keeps _ _ _)
  exact Keeps.refl _

theorem sendUplink_keeps (s) (u) (dev) (up) (m) : Keeps s (sendUplink s u dev up m) := by
  unfold sendUplink
  lift_lets
  intro x0
  subst x0
  intro x1
  subst x1
  intro x2
  subst x2
  split
  beta_reduce
  with_reducible apply Keeps.after (State.modFab_keeps _ _)
  exact Keeps.refl _
  lift_lets
  intro x3
  subst x3
  intro x4
  subst x4
  intro x5
  subst x5
  intro x6
  refine Keeps.bindLet (s := s) (x := x6) ?_ (fun h7 => ?_)
  subst x6
  with_reducible apply Keeps.upd ?_ rfl rfl
  with_reducible refine Keeps.upd ?_ rfl rfl
  exact Keeps.refl _
  clear_value x6
  intro x8
  subst x8
  with_reducible apply Keeps.ite
  with_reducible apply Keeps.after (record_keeps _ _ _ _ _)
  exact Keeps.refl _
  beta_reduce
  with_reducible apply Keeps.after (State.modFab_keeps _ _)
  assumption

theorem pfcCheck_keeps (s) (u) : Keeps s (pfcCheck s u) := by
  unfold pfcCheck
  with_reducible apply Keeps.foldl (fun z0 _ => ?_) ?_
  exact Keeps.refl _
  lift_lets
  intro x1
  subst x1
  intro x2
  subst x2
  with_reducible apply Keeps.ite
  exact Keeps.refl _
  with_reducible apply Keeps.after (State.modFab_keeps _ _)
  with_reducible apply Keeps.after (modPort_keeps _ _ _)
  exact Keeps.refl _

theorem leave_keeps (s) (i) (w) : Keeps s (leave s i w) := by
  unfold leave
  lift_lets
  intro x0
  refine Keeps.bindLet (s := s) (x := x0) ?_ (fun h1 => ?_)
  subst x0
  with_reducible apply Keeps.after (freeBuffer_keeps _ _ _ _)
  with_reducible apply Keeps.after (unwait_keeps _ _)
  exact Keeps.refl _
  clear_value x0
  with_reducible apply Keeps.ite
  with_reducible apply Keeps.after (pfcCheck_keeps _ _)
  assumption
  with_reducible apply Keeps.ite
  with_reducible apply Keeps.after (pfcCheck_keeps _ _)
  assumption
  assumption

theorem refuseWay_keeps (s) (m) (reason) : Keeps s (refuseWay s m reason) := by
  unfold refuseWay
  with_reducible apply Keeps.ite
  exact Keeps.refl _
  with_reducible apply Keeps.after (refuse_keeps _ _ _)
  exact Keeps.refl _

theorem mcastArrive_keeps (s) (port) (cls) (m) : Keeps s (mcastArrive s port cls m) := by
  unfold mcastArrive
  lift_lets
  intro x0
  subst x0
  intro x1
  subst x1
  intro x2
  subst x2
  intro x3
  subst x3
  intro x4
  subst x4
  intro x5
  subst x5
  intro x6
  refine Keeps.bindLet (s := s) (x := x6) ?_ (fun h7 => ?_)
  subst x6
  with_reducible apply Keeps.ite
  with_reducible apply Keeps.after (State.modFab_keeps _ _)
  exact Keeps.refl _
  with_reducible apply Keeps.after (freeBuffer_keeps _ _ _ _)
  exact Keeps.refl _
  clear_value x6
  with_reducible apply Keeps.ite
  with_reducible apply Keeps.after (freeBuffer_keeps _ _ _ _)
  exact Keeps.refl _
  with_reducible apply Keeps.ite
  with_reducible apply Keeps.after (State.modFab_keeps _ _)
  exact Keeps.refl _
  with_reducible apply Keeps.after (arrive_keeps _ _ _)
  assumption

theorem forward_keeps (s) (i) : Keeps s (forward s i) := by
  unfold forward
  split
  exact Keeps.refl _
  with_reducible apply Keeps.ite
  exact Keeps.refl _
  with_reducible apply Keeps.ite
  with_reducible apply Keeps.after (dropKind_keeps _ _)
  with_reducible apply Keeps.after (leave_keeps _ _ _)
  exact Keeps.refl _
  with_reducible apply Keeps.ite
  lift_lets
  intro x0
  refine Keeps.bindLet (s := s) (x := x0) ?_ (fun h1 => ?_)
  subst x0
  with_reducible apply Keeps.after (unwait_keeps _ _)
  exact Keeps.refl _
  clear_value x0
  with_reducible apply Keeps.ite
  with_reducible apply Keeps.after (refuse_keeps _ _ _)
  assumption
  with_reducible apply Keeps.after (State.modFab_keeps _ _)
  assumption
  split
  with_reducible apply Keeps.ite
  with_reducible apply Keeps.after (mcastArrive_keeps _ _ _ _)
  with_reducible apply Keeps.after (unwait_keeps _ _)
  exact Keeps.refl _
  with_reducible apply Keeps.after (arrive_keeps _ _ _)
  with_reducible apply Keeps.after (leave_keeps _ _ _)
  exact Keeps.refl _
  with_reducible apply Keeps.after (refuseWay_keeps _ _ _)
  with_reducible apply Keeps.after (leave_keeps _ _ _)
  exact Keeps.refl _
  split
  with_reducible apply Keeps.after (sendTorus_keeps _ _ _ _)
  with_reducible apply Keeps.after (served_keeps _ _ _)
  with_reducible apply Keeps.after (leave_keeps _ _ _)
  exact Keeps.refl _
  exact Keeps.refl _
  split
  with_reducible apply Keeps.after (sendUplink_keeps _ _ _ _ _)
  with_reducible apply Keeps.after (served_keeps _ _ _)
  with_reducible apply Keeps.after (leave_keeps _ _ _)
  exact Keeps.refl _
  exact Keeps.refl _
  with_reducible apply Keeps.after (modWait_keeps _ _ _)
  exact Keeps.refl _
  with_reducible apply Keeps.after (modWait_keeps _ _ _)
  exact Keeps.refl _

theorem takeIn_keeps (port) (s) (m) : Keeps s (takeIn port s m) := by
  unfold takeIn
  with_reducible apply Keeps.ite
  with_reducible apply Keeps.after (mcastArrive_keeps _ _ _ _)
  exact Keeps.refl _
  with_reducible apply Keeps.after (State.modFab_keeps _ _)
  exact Keeps.refl _

theorem takeMsg_keeps (s) (n) (bs) : Keeps s (takeMsg s n bs) := by
  unfold takeMsg
  with_reducible apply Keeps.ite
  with_reducible apply Keeps.after (takeIn_keeps _ _ _)
  exact Keeps.refl _
  exact Keeps.refl _

theorem takeFlit_keeps (n) (s) (flit) : Keeps s (takeFlit n s flit) := by
  unfold takeFlit
  lift_lets
  intro x0
  subst x0
  intro x1
  refine Keeps.bindLet (s := s) (x := x1) ?_ (fun h2 => ?_)
  subst x1
  with_reducible apply Keeps.after (modPort_keeps _ _ _)
  exact Keeps.refl _
  clear_value x1
  intro x3
  subst x3
  with_reducible apply Keeps.ite
  with_reducible apply Keeps.ite
  with_reducible apply Keeps.after (takeMsg_keeps _ _ _)
  assumption
  assumption
  with_reducible apply Keeps.ite
  with_reducible apply Keeps.after (takeControl_keeps _ _ _ _ _ _ _ _ _)
  exact Keeps.refl _
  with_reducible apply Keeps.ite
  with_reducible apply Keeps.ite
  with_reducible apply Keeps.after (takeMsg_keeps _ _ _)
  exact Keeps.refl _
  with_reducible apply Keeps.after (modPort_keeps _ _ _)
  exact Keeps.refl _
  exact Keeps.refl _

theorem acceptWord_keeps (s) (n) : Keeps s (acceptWord s n) := by
  unfold acceptWord
  with_reducible apply Keeps.after (sendControl_keeps _ _ _)
  with_reducible apply Keeps.after (modPort_keeps _ _ _)
  exact Keeps.refl _

theorem execCodewordReceive_keeps (n) (count) (good) (corrected) (msgs) (s) : Goes s (execCodewordReceive n count good corrected msgs s) := by
  unfold execCodewordReceive
  lift_lets
  intro x0
  subst x0
  intro x1
  subst x1
  intro x2
  refine Keeps.bindLet (s := s) (x := x2) ?_ (fun h3 => ?_)
  subst x2
  with_reducible apply Keeps.after (modPort_keeps _ _ _)
  exact Keeps.refl _
  clear_value x2
  with_reducible apply Goes.next
  with_reducible apply Keeps.ite
  exact Keeps.refl _
  with_reducible apply Keeps.ite
  with_reducible apply Keeps.ite
  assumption
  with_reducible apply Keeps.after (sendNak_keeps _ _)
  with_reducible apply Keeps.after (modPort_keeps _ _ _)
  assumption
  with_reducible apply Keeps.ite
  assumption
  with_reducible apply Keeps.foldl (fun z4 _ => ?_) ?_
  with_reducible apply Keeps.after (acceptWord_keeps _ _)
  assumption
  with_reducible apply Keeps.after (takeFlit_keeps _ _ _)
  exact Keeps.refl _

theorem execMessageForward_keeps (i) (s) : Goes s (execMessageForward i s) := by
  unfold execMessageForward
  with_reducible apply Goes.next
  with_reducible apply Keeps.after (forward_keeps _ _)
  exact Keeps.refl _

theorem execNoRouteHold_keeps (i) (s) : Goes s (execNoRouteHold i s) := by
  unfold execNoRouteHold
  with_reducible apply Goes.next
  split
  exact Keeps.refl _
  with_reducible apply Keeps.ite
  with_reducible apply Keeps.after (refuseWay_keeps _ _ _)
  with_reducible apply Keeps.after (leave_keeps _ _ _)
  exact Keeps.refl _
  exact Keeps.refl _

theorem execMcastMessage_keeps (port) (m) (s) : Goes s (execMcastMessage port m s) := by
  unfold execMcastMessage
  with_reducible apply Goes.next
  with_reducible apply Keeps.ite
  with_reducible apply Keeps.after (mcastArrive_keeps _ _ _ _)
  exact Keeps.refl _
  exact Keeps.refl _

theorem openFrame_keeps (s payload) : ∀ t, openFrame s payload = some t → Keeps s t.2 := by
  intro t h
  unfold openFrame at h
  dsimp only at h
  repeat' split at h
  all_goals cases h
  exact Keeps.upd (Keeps.refl s) rfl rfl

theorem takeFrame_keeps (s) (n) (payload) : Keeps s (takeFrame s n payload) := by
  unfold takeFrame
  lift_lets
  intro x0
  subst x0
  intro x1
  subst x1
  with_reducible apply Keeps.ite
  exact Keeps.refl _
  with_reducible apply Keeps.ite
  split
  exact Keeps.refl _
  with_reducible apply Keeps.ite
  with_reducible apply Keeps.after (pfcCheck_keeps _ _)
  with_reducible apply Keeps.foldl (fun z2 _ => ?_) ?_
  refine Keeps.trans ?_ (openFrame_keeps _ _ _ (by assumption))
  exact Keeps.refl _
  with_reducible apply Keeps.after (takeIn_keeps _ _ _)
  exact Keeps.refl _
  exact Keeps.refl _
  with_reducible apply Keeps.ite
  exact Keeps.refl _
  with_reducible apply Keeps.after (pfcCheck_keeps _ _)
  with_reducible apply Keeps.foldl (fun z4 _ => ?_) ?_
  exact Keeps.refl _
  with_reducible apply Keeps.after (takeIn_keeps _ _ _)
  exact Keeps.refl _

theorem execEthernetFrameReceive_keeps (u) (payload) (s) : Goes s (execEthernetFrameReceive u payload s) := by
  unfold execEthernetFrameReceive
  lift_lets
  intro x0
  subst x0
  intro x1
  refine Keeps.bindLet (s := s) (x := x1) ?_ (fun h2 => ?_)
  subst x1
  with_reducible apply Keeps.after (modPort_keeps _ _ _)
  exact Keeps.refl _
  clear_value x1
  with_reducible apply Goes.next
  with_reducible apply Keeps.ite
  exact Keeps.refl _
  with_reducible apply Keeps.ite
  assumption
  split
  with_reducible apply Keeps.after (takeFrame_keeps _ _ _)
  assumption
  assumption

theorem execPfcFrame_keeps (u) (prio) (xoff) (s) : Goes s (execPfcFrame u prio xoff s) := by
  unfold execPfcFrame
  lift_lets
  intro x0
  subst x0
  with_reducible apply Goes.next
  with_reducible apply Keeps.after (modPort_keeps _ _ _)
  exact Keeps.refl _

theorem execPauseFrame_keeps (u) (s) : Goes s (execPauseFrame u s) := by
  unfold execPauseFrame
  with_reducible apply Goes.next
  with_reducible apply Keeps.after (modPort_keeps _ _ _)
  exact Keeps.refl _

theorem execUplinkDown_keeps (u) (s) : Goes s (execUplinkDown u s) := by
  unfold execUplinkDown
  lift_lets
  intro x0
  subst x0
  with_reducible apply Goes.next
  with_reducible apply Keeps.ite
  with_reducible apply Keeps.after (linkDown_keeps _ _)
  exact Keeps.refl _
  exact Keeps.refl _

end Sys2Proof.Machine
end

