-- ==== Sys2Proof/Laws/KeepsKci.lean ====
section
/-! SUPPORT. One lemma per operation: it keeps what the state must keep. Here: rings and completions, deeds, the memory system, the step and its closure. -/

namespace Sys2Proof.Machine

/-! ### Kci -/

theorem State.modFn_keeps (s) (f) (g) : Keeps s (State.modFn s f g) := by
  unfold State.modFn State.modKci
  dsimp -zeta only
  with_reducible refine Keeps.upd ?_ rfl rfl
  exact Keeps.refl _

theorem State.modRing_keeps (s) (f) (r) (g) : Keeps s (State.modRing s f r g) := by
  unfold State.modRing
  with_reducible apply Keeps.after (State.modFn_keeps _ _ _)
  exact Keeps.refl _

theorem raiseVector_keeps (s) (f) (v) : Keeps s (raiseVector s f v) := by
  unfold raiseVector State.modKci
  dsimp -zeta only
  with_reducible apply Keeps.ite
  with_reducible apply Keeps.after (State.modFn_keeps _ _ _)
  exact Keeps.refl _
  with_reducible refine Keeps.upd ?_ rfl rfl
  exact Keeps.refl _

theorem putCompletion_keeps (s) (f) (r) (bytes) : Keeps s (putCompletion s f r bytes) := by
  unfold putCompletion
  split
  exact Keeps.refl _
  lift_lets
  intro x0
  subst x0
  intro x1
  subst x1
  intro x2
  refine Keeps.bindLet (s := s) (x := x2) ?_ (fun h3 => ?_)
  subst x2
  with_reducible apply Keeps.after (State.hostWrite_keeps _ _ _)
  exact Keeps.refl _
  clear_value x2
  intro x4
  subst x4
  intro x5
  refine Keeps.bindLet (s := s) (x := x5) ?_ (fun h6 => ?_)
  subst x5
  with_reducible apply Keeps.after (State.modRing_keeps _ _ _ _)
  assumption
  clear_value x5
  with_reducible apply Keeps.after (raiseVector_keeps _ _ _)
  assumption

theorem deliver_keeps (s) (f) (r) (bytes) (event) : Keeps s (deliver s f r bytes event) := by
  unfold deliver
  split
  exact Keeps.refl _
  lift_lets
  intro x0
  subst x0
  with_reducible apply Keeps.ite
  with_reducible apply Keeps.after (putCompletion_keeps _ _ _ _)
  exact Keeps.refl _
  with_reducible apply Keeps.ite
  with_reducible apply Keeps.after (State.modFn_keeps _ _ _)
  exact Keeps.refl _
  with_reducible apply Keeps.ite
  with_reducible apply Keeps.after (State.modFn_keeps _ _ _)
  exact Keeps.refl _
  split
  with_reducible apply Keeps.after (State.modFn_keeps _ _ _)
  exact Keeps.refl _
  with_reducible apply Keeps.after (State.modFn_keeps _ _ _)
  exact Keeps.refl _

theorem post_keeps (s) (c) (final) (status) (detail) (result) : Keeps s (post s c final status detail result) := by
  unfold post
  split
  exact Keeps.refl _
  split
  exact Keeps.refl _
  with_reducible apply Keeps.after (deliver_keeps _ _ _ _ _)
  exact Keeps.refl _

theorem postEvent_keeps (s) (f) (code) (head) : Keeps s (postEvent s f code head) := by
  unfold postEvent
  split
  exact Keeps.refl _
  with_reducible apply Keeps.after (deliver_keeps _ _ _ _ _)
  exact Keeps.refl _

theorem eventTo_keeps (s) (code) (part) (head) : Keeps s (eventTo s code part head) := by
  unfold eventTo
  lift_lets
  intro x0
  refine Keeps.bindLet (s := s) (x := x0) ?_ (fun h1 => ?_)
  subst x0
  with_reducible apply Keeps.after (postEvent_keeps _ _ _ _)
  exact Keeps.refl _
  clear_value x0
  split
  with_reducible apply Keeps.ite
  with_reducible apply Keeps.after (postEvent_keeps _ _ _ _)
  assumption
  assumption
  assumption

theorem fetchRing_keeps (s) (f) (r) : Keeps s (fetchRing s f r) := by
  unfold fetchRing
  with_reducible apply Keeps.ite
  with_reducible apply Keeps.after (State.modRing_keeps _ _ _ _)
  exact Keeps.refl _
  exact Keeps.refl _

theorem popRing_keeps (s) (f) (r) : Keeps s (popRing s f r) := by
  unfold popRing
  with_reducible apply Keeps.after (State.modRing_keeps _ _ _ _)
  exact Keeps.refl _

theorem pumpFuel_keeps (f) (r) (a2) (a3) : Keeps a3 (pumpFuel f r a2 a3) := by
  unfold pumpFuel
  split
  exact Keeps.refl _
  split
  with_reducible apply Keeps.ite
  exact Keeps.refl _
  with_reducible apply Keeps.after (pumpFuel_keeps _ _ _ _)
  with_reducible apply Keeps.after (post_keeps _ _ _ _ _ _)
  with_reducible apply Keeps.after (popRing_keeps _ _ _)
  exact Keeps.refl _
  exact Keeps.refl _

theorem pump_keeps (s) (f) (r) : Keeps s (pump s f r) := by
  unfold pump
  split
  with_reducible apply Keeps.after (pumpFuel_keeps _ _ _ _)
  exact Keeps.refl _
  exact Keeps.refl _

theorem finish_keeps (s) (c) (status) (detail) (result) : Keeps s (finish s c status detail result) := by
  unfold finish State.modKci
  dsimp -zeta only
  lift_lets
  intro x0
  refine Keeps.bindLet (s := s) (x := x0) ?_ (fun h1 => ?_)
  subst x0
  with_reducible refine Keeps.upd ?_ rfl rfl
  exact Keeps.refl _
  clear_value x0
  intro x2
  refine Keeps.bindLet (s := s) (x := x2) ?_ (fun h3 => ?_)
  subst x2
  with_reducible apply Keeps.after (post_keeps _ _ _ _ _ _)
  assumption
  clear_value x2
  split
  with_reducible apply Keeps.after (pump_keeps _ _ _)
  assumption
  assumption

theorem goLive_keeps (s) (c) : Keeps s (goLive s c) := by
  unfold goLive State.modKci
  dsimp -zeta only
  with_reducible refine Keeps.upd ?_ rfl rfl
  exact Keeps.refl _

theorem setLive_keeps (s) (c) : Keeps s (setLive s c) := by
  unfold setLive State.modKci
  dsimp -zeta only
  with_reducible refine Keeps.upd ?_ rfl rfl
  exact Keeps.refl _

theorem drainHeld_keeps (s) (f) : Keeps s (drainHeld s f) := by
  unfold drainHeld
  lift_lets
  intro x0
  subst x0
  intro x1
  refine Keeps.bindLet (s := s) (x := x1) ?_ (fun h2 => ?_)
  subst x1
  with_reducible apply Keeps.after (State.modFn_keeps _ _ _)
  exact Keeps.refl _
  clear_value x1
  split
  lift_lets
  intro x3
  refine Keeps.bindLet (s := s) (x := x3) ?_ (fun h4 => ?_)
  subst x3
  with_reducible apply Keeps.after (State.modFn_keeps _ _ _)
  refine Keeps.pair1 (by assumption) ?_
  with_reducible apply Keeps.foldl1 (fun z5 _ _ => ?_) ?_
  with_reducible apply Keeps.fst
  assumption
  split
  with_reducible apply Keeps.fst
  exact Keeps.refl _
  with_reducible apply Keeps.iteFst
  with_reducible apply Keeps.fst
  with_reducible apply Keeps.fst
  exact Keeps.refl _
  with_reducible apply Keeps.fst
  with_reducible apply Keeps.after (putCompletion_keeps _ _ _ _)
  with_reducible apply Keeps.fst
  exact Keeps.refl _
  clear_value x3
  intro x6
  refine Keeps.bindLet (s := s) (x := x6) ?_ (fun h7 => ?_)
  subst x6
  with_reducible apply Keeps.ite
  with_reducible apply Keeps.after (postEvent_keeps _ _ _ _)
  with_reducible apply Keeps.after (State.modFn_keeps _ _ _)
  assumption
  assumption
  clear_value x6
  with_reducible apply Keeps.foldl (fun z8 _ => ?_) ?_
  assumption
  with_reducible apply Keeps.after (pump_keeps _ _ _)
  with_reducible apply Keeps.after (fetchRing_keeps _ _ _)
  exact Keeps.refl _

theorem execKciCtrlEnable_keeps (f) (s) : Goes s (execKciCtrlEnable f s) := by
  unfold execKciCtrlEnable
  with_reducible apply Goes.next
  with_reducible apply Keeps.ite
  with_reducible apply Keeps.after (State.modFn_keeps _ _ _)
  exact Keeps.refl _
  exact Keeps.refl _

theorem doorbellDrop_keeps (s) : Keeps s (doorbellDrop s) := by
  unfold doorbellDrop
  with_reducible apply Keeps.after (controlRecord_keeps _ _)
  exact Keeps.refl _

theorem execSqTail_keeps (f) (r) (tail) (entries) (s) : Goes s (execSqTail f r tail entries s) := by
  unfold execSqTail
  with_reducible apply Goes.next
  split
  with_reducible apply Keeps.after (doorbellDrop_keeps _)
  exact Keeps.refl _
  with_reducible apply Keeps.ite
  with_reducible apply Keeps.after (doorbellDrop_keeps _)
  exact Keeps.refl _
  lift_lets
  intro x0
  refine Keeps.bindLet (s := s) (x := x0) ?_ (fun h1 => ?_)
  subst x0
  with_reducible apply Keeps.foldl (fun z2 _ => ?_) ?_
  exact Keeps.refl _
  dsimp -zeta only
  with_reducible apply Keeps.after (State.hostWrite_keeps _ _ _)
  exact Keeps.refl _
  clear_value x0
  intro x3
  refine Keeps.bindLet (s := s) (x := x3) ?_ (fun h4 => ?_)
  subst x3
  with_reducible apply Keeps.after (State.modRing_keeps _ _ _ _)
  assumption
  clear_value x3
  with_reducible apply Keeps.after (pump_keeps _ _ _)
  with_reducible apply Keeps.after (fetchRing_keeps _ _ _)
  assumption

theorem execCqHead_keeps (f) (r) (head) (s) : Goes s (execCqHead f r head s) := by
  unfold execCqHead
  with_reducible apply Goes.next
  split
  with_reducible apply Keeps.after (doorbellDrop_keeps _)
  exact Keeps.refl _
  with_reducible apply Keeps.ite
  with_reducible apply Keeps.after (doorbellDrop_keeps _)
  exact Keeps.refl _
  with_reducible apply Keeps.after (drainHeld_keeps _ _)
  with_reducible apply Keeps.after (State.modRing_keeps _ _ _ _)
  exact Keeps.refl _

/-! ### Deeds -/

theorem State.modStk_keeps (s) (n) (f) : Keeps s (State.modStk s n f) := by
  unfold State.modStk
  with_reducible refine Keeps.upd ?_ rfl rfl
  exact Keeps.refl _

theorem State.modPw_keeps (s) (f) : Keeps s (State.modPw s f) := by
  unfold State.modPw
  with_reducible refine Keeps.upd ?_ rfl rfl
  exact Keeps.refl _

theorem State.modMg_keeps (s) (f) : Keeps s (State.modMg s f) := by
  unfold State.modMg
  with_reducible refine Keeps.upd ?_ rfl rfl
  exact Keeps.refl _

theorem State.modAgent_keeps (s) (i) (f) : Keeps s (State.modAgent s i f) := by
  unfold State.modAgent
  with_reducible apply Keeps.after (State.modMg_keeps _ _)
  exact Keeps.refl _

theorem limitsTook_keeps (s) : Keeps s (limitsTook s) := by
  unfold limitsTook
  lift_lets
  intro x0
  subst x0
  with_reducible apply Keeps.after (State.modPw_keeps _ _)
  exact Keeps.refl _

theorem askMstep_keeps (s) (m) : Keeps s (askMstep s m) := by
  unfold askMstep
  with_reducible apply Keeps.ite
  with_reducible apply Keeps.after (State.modPw_keeps _ _)
  exact Keeps.refl _
  with_reducible apply Keeps.ite
  exact Keeps.refl _
  with_reducible apply Keeps.upd ?_ rfl rfl
  with_reducible refine Keeps.upd ?_ rfl rfl
  exact Keeps.refl _

theorem applyMstepPolicy_keeps (s) : Keeps s (applyMstepPolicy s) := by
  unfold applyMstepPolicy
  lift_lets
  intro x0
  subst x0
  with_reducible apply Keeps.ite
  with_reducible apply Keeps.after (askMstep_keeps _ _)
  exact Keeps.refl _
  with_reducible apply Keeps.ite
  with_reducible apply Keeps.after (askMstep_keeps _ _)
  exact Keeps.refl _
  exact Keeps.refl _

theorem moveDeed_keeps (s) (r) (dest) (plane) : Keeps s (moveDeed s r dest plane) := by
  unfold moveDeed
  lift_lets
  intro x0
  subst x0
  intro x1
  subst x1
  intro x2
  refine Keeps.bindLet (s := s) (x := x2) ?_ (fun h3 => ?_)
  subst x2
  unfold State.modKci
  with_reducible refine Keeps.upd ?_ rfl rfl
  exact Keeps.refl _
  clear_value x2
  intro x4
  refine Keeps.bindLet (s := s) (x := x4) ?_ (fun h5 => ?_)
  subst x4
  with_reducible apply Keeps.ite
  with_reducible apply Keeps.after (State.modPw_keeps _ _)
  assumption
  assumption
  clear_value x4
  with_reducible apply Keeps.after (record_keeps _ _ _ _ _)
  assumption

theorem readBoard_keeps (s) : Keeps s (readBoard s) := by
  unfold readBoard
  with_reducible apply Keeps.after (State.modMg_keeps _ _)
  exact Keeps.refl _

theorem becomePrimary_keeps (s) (i) (old) : Keeps s (becomePrimary s i old) := by
  unfold becomePrimary
  lift_lets
  intro x0
  subst x0
  intro x1
  refine Keeps.bindLet (s := s) (x := x1) ?_ (fun h2 => ?_)
  subst x1
  with_reducible apply Keeps.foldl (fun z3 _ => ?_) ?_
  exact Keeps.refl _
  with_reducible apply Keeps.after (State.modAgent_keeps _ _ _)
  exact Keeps.refl _
  clear_value x1
  with_reducible apply Keeps.after (readBoard_keeps _)
  with_reducible apply Keeps.after (State.modMg_keeps _ _)
  assumption

theorem takeSteps_keeps (s) (ceil) : Keeps s (takeSteps s ceil) := by
  unfold takeSteps
  with_reducible apply Keeps.after (applyMstepPolicy_keeps _)
  with_reducible apply Keeps.after (State.modPw_keeps _ _)
  exact Keeps.refl _

theorem deedClaim_keeps (s) (w) (r) : Keeps s (deedClaim s w r).1 := by
  unfold deedClaim
  with_reducible apply Keeps.iteFst
  with_reducible apply Keeps.fst
  exact Keeps.refl _
  lift_lets
  intro x0
  subst x0
  intro x1
  subst x1
  intro x2
  refine Keeps.bindLet (s := s) (x := x2) ?_ (fun h3 => ?_)
  subst x2
  with_reducible apply Keeps.after (moveDeed_keeps _ _ _ _)
  exact Keeps.refl _
  clear_value x2
  intro x4
  refine Keeps.bindLet (s := s) (x := x4) ?_ (fun h5 => ?_)
  subst x4
  split
  with_reducible apply Keeps.ite
  with_reducible apply Keeps.after (becomePrimary_keeps _ _ _)
  assumption
  with_reducible apply Keeps.ite
  with_reducible apply Keeps.after (takeSteps_keeps _ _)
  assumption
  assumption
  with_reducible apply Keeps.ite
  with_reducible apply Keeps.after (applyMstepPolicy_keeps _)
  assumption
  assumption
  clear_value x4
  with_reducible apply Keeps.iteFst
  with_reducible apply Keeps.fst
  exact Keeps.refl _
  with_reducible apply Keeps.fst
  with_reducible apply Keeps.ite
  with_reducible apply Keeps.after (limitsTook_keeps _)
  assumption
  assumption

theorem standDown_keeps (s) (i) : Keeps s (standDown s i) := by
  unfold standDown
  with_reducible apply Keeps.after (State.modAgent_keeps _ _ _)
  exact Keeps.refl _

theorem deedRelease_keeps (s) (w) (r) (epoch) : Keeps s (deedRelease s w r epoch).1 := by
  unfold deedRelease
  lift_lets
  intro x0
  subst x0
  intro x1
  subst x1
  intro x2
  refine Keeps.bindLet (s := s) (x := x2) ?_ (fun h3 => ?_)
  subst x2
  with_reducible apply Keeps.after (moveDeed_keeps _ _ _ _)
  exact Keeps.refl _
  clear_value x2
  intro x4
  refine Keeps.bindLet (s := s) (x := x4) ?_ (fun h5 => ?_)
  subst x4
  with_reducible apply Keeps.ite
  beta_reduce
  split
  with_reducible apply Keeps.after (standDown_keeps _ _)
  assumption
  assumption
  assumption
  clear_value x4
  intro x6
  refine Keeps.bindLet (s := s) (x := x6) ?_ (fun h7 => ?_)
  subst x6
  with_reducible apply Keeps.ite
  with_reducible apply Keeps.after (applyMstepPolicy_keeps _)
  with_reducible apply Keeps.after (State.modPw_keeps _ _)
  assumption
  assumption
  clear_value x6
  with_reducible apply Keeps.iteFst
  with_reducible apply Keeps.fst
  with_reducible apply Keeps.ite
  beta_reduce
  split
  with_reducible apply Keeps.after (standDown_keeps _ _)
  exact Keeps.refl _
  exact Keeps.refl _
  exact Keeps.refl _
  with_reducible apply Keeps.iteFst
  with_reducible apply Keeps.fst
  exact Keeps.refl _
  with_reducible apply Keeps.fst
  with_reducible apply Keeps.ite
  with_reducible apply Keeps.after (limitsTook_keeps _)
  assumption
  assumption

theorem agentDrops_keeps (s) (i) (r) : Keeps s (agentDrops s i r) := by
  unfold agentDrops
  with_reducible apply Keeps.after (deedRelease_keeps _ _ _ _)
  exact Keeps.refl _

theorem thermalWatch_keeps (s) : Keeps s (thermalWatch s) := by
  unfold thermalWatch
  split
  exact Keeps.refl _
  with_reducible apply Keeps.ite
  lift_lets
  intro x0
  refine Keeps.bindLet (s := s) (x := x0) ?_ (fun h1 => ?_)
  subst x0
  with_reducible apply Keeps.after (State.modMg_keeps _ _)
  exact Keeps.refl _
  clear_value x0
  intro x2
  refine Keeps.bindLet (s := s) (x := x2) ?_ (fun h3 => ?_)
  subst x2
  with_reducible apply Keeps.after (deedClaim_keeps _ _ _)
  assumption
  clear_value x2
  with_reducible apply Keeps.after (deedClaim_keeps _ _ _)
  assumption
  with_reducible apply Keeps.ite
  with_reducible apply Keeps.after (State.modMg_keeps _ _)
  exact Keeps.refl _
  exact Keeps.refl _

theorem dropLimits_keeps (s) (i) : Keeps s (dropLimits s i) := by
  unfold dropLimits
  lift_lets
  intro x0
  refine Keeps.bindLet (s := s) (x := x0) ?_ (fun h1 => ?_)
  subst x0
  with_reducible apply Keeps.after (State.modMg_keeps _ _)
  exact Keeps.refl _
  clear_value x0
  with_reducible apply Keeps.after (agentDrops_keeps _ _ _)
  with_reducible apply Keeps.after (agentDrops_keeps _ _ _)
  assumption

/-! ### MemSys -/

theorem degrade_keeps (s) (n) : Keeps s (degrade s n) := by
  unfold degrade
  with_reducible apply Keeps.ite
  exact Keeps.refl _
  lift_lets
  intro x0
  refine Keeps.bindLet (s := s) (x := x0) ?_ (fun h1 => ?_)
  subst x0
  with_reducible apply Keeps.after (State.modStk_keeps _ _ _)
  exact Keeps.refl _
  clear_value x0
  with_reducible apply Keeps.after (record_keeps _ _ _ _ _)
  assumption

theorem spare_keeps (s) (n) (pc) : Keeps s (spare s n pc) := by
  unfold spare
  lift_lets
  intro x0
  subst x0
  intro x1
  refine Keeps.bindLet (s := s) (x := x1) ?_ (fun h2 => ?_)
  subst x1
  with_reducible apply Keeps.after (State.modStk_keeps _ _ _)
  exact Keeps.refl _
  clear_value x1
  with_reducible apply Keeps.ite
  with_reducible apply Keeps.ite
  exact Keeps.refl _
  with_reducible apply Keeps.after (degrade_keeps _ _)
  exact Keeps.refl _
  with_reducible apply Keeps.after (record_keeps _ _ _ _ _)
  assumption

theorem spareCheck_keeps (s) (n) (pc) : Keeps s (spareCheck s n pc) := by
  unfold spareCheck
  lift_lets
  intro x0
  subst x0
  intro x1
  subst x1
  intro x2
  subst x2
  with_reducible apply Keeps.ite
  with_reducible apply Keeps.after (spare_keeps _ _ _)
  exact Keeps.refl _
  exact Keeps.refl _

theorem wantRepair_keeps (s) (n) (r) : Keeps s (wantRepair s n r) := by
  unfold wantRepair
  with_reducible apply Keeps.after (State.modStk_keeps _ _ _)
  exact Keeps.refl _

theorem rowCorrected_keeps (s) (n) (r) : Keeps s (rowCorrected s n r) := by
  unfold rowCorrected
  lift_lets
  intro x0
  refine Keeps.bindLet (s := s) (x := x0) ?_ (fun h1 => ?_)
  subst x0
  with_reducible apply Keeps.after (State.modStk_keeps _ _ _)
  exact Keeps.refl _
  clear_value x0
  intro x2
  subst x2
  with_reducible apply Keeps.ite
  with_reducible apply Keeps.after (wantRepair_keeps _ _ _)
  assumption
  assumption

theorem eccHit_keeps (s) (n) (a2) (row) (e) : Keeps s (eccHit s n a2 row e) := by
  unfold eccHit
  lift_lets
  intro x0
  subst x0
  intro x1
  subst x1
  intro x2
  refine Keeps.bindLet (s := s) (x := x2) ?_ (fun h3 => ?_)
  subst x2
  with_reducible apply Keeps.after (State.mark_keeps _ _ _)
  with_reducible apply Keeps.after (State.modStk_keeps _ _ _)
  exact Keeps.refl _
  clear_value x2
  intro x4
  refine Keeps.bindLet (s := s) (x := x4) ?_ (fun h5 => ?_)
  subst x4
  with_reducible apply Keeps.after (record_keeps _ _ _ _ _)
  assumption
  clear_value x4
  split
  with_reducible apply Keeps.after (rowCorrected_keeps _ _ _)
  exact Keeps.refl _
  with_reducible apply Keeps.after (State.modStk_keeps _ _ _)
  exact Keeps.refl _
  exact Keeps.refl _
  with_reducible apply Keeps.after (rowCorrected_keeps _ _ _)
  exact Keeps.refl _
  with_reducible apply Keeps.after (spareCheck_keeps _ _ _)
  with_reducible apply Keeps.after (wantRepair_keeps _ _ _)
  assumption
  with_reducible apply Keeps.after (spare_keeps _ _ _)
  exact Keeps.refl _

theorem sourceViolation_keeps (s) (src) (wr) (a3) : Keeps s (sourceViolation s src wr a3) := by
  unfold sourceViolation
  split
  exact Keeps.refl _
  lift_lets
  intro x0
  subst x0
  with_reducible apply Keeps.after (refusedAt_keeps _ _ _ _ _)
  exact Keeps.refl _

theorem sramRead_keeps (s) (c) (a2) (n) (errs) : Keeps s (sramRead s c a2 n errs) := by
  unfold sramRead
  with_reducible apply Keeps.after (State.returns_keeps _ _)
  with_reducible apply Keeps.foldl (fun z0 _ => ?_) ?_
  exact Keeps.refl _
  with_reducible apply Keeps.ite
  with_reducible apply Keeps.after (sramHit_keeps _ _ _)
  exact Keeps.refl _
  exact Keeps.refl _

theorem bankBusy_keeps (s) (r) : Keeps s ((bankBusy s r).2) := by
  unfold bankBusy
  split
  dsimp -zeta only
  exact Keeps.refl _
  split
  dsimp -zeta only
  exact Keeps.refl _
  lift_lets
  intro x0
  subst x0
  with_reducible apply Keeps.iteSnd
  split
  dsimp -zeta only
  refine Keeps.pair2 (by assumption) ?_
  with_reducible apply Keeps.after (State.fresh_keeps _)
  exact Keeps.refl _
  with_reducible apply Keeps.snd
  exact Keeps.refl _

theorem mustWait_keeps (s) (r) : Keeps s ((mustWait s r).2) := by
  unfold mustWait
  with_reducible apply Keeps.iteSnd
  with_reducible apply Keeps.snd
  exact Keeps.refl _
  with_reducible apply Keeps.iteSnd
  with_reducible apply Keeps.snd
  exact Keeps.refl _
  with_reducible apply Keeps.after (bankBusy_keeps _ _)
  exact Keeps.refl _

theorem recode_keeps (old new s a) : Keeps s (recode old new s a) := by
  unfold recode
  split
  · exact Keeps.refl _
  · exact ⟨rfl, fun g => ⟨Mem.write_wf _ _ _ g.1, g.2, g.3, g.4, g.5⟩⟩

theorem underKeys_keeps (r) (f) (s) (h_f : FK1 f) : Keeps s (underKeys r f s) := by
  unfold underKeys
  lift_lets
  intro x0
  subst x0
  intro x1
  refine Keeps.bindLet (s := s) (x := x1) ?_ (fun h2 => ?_)
  subst x1
  with_reducible apply Keeps.after (h_f _)
  with_reducible apply Keeps.foldl (fun z3 _ => ?_) ?_
  exact Keeps.refl _
  with_reducible apply Keeps.after (recode_keeps _ _ _ _)
  exact Keeps.refl _
  clear_value x1
  with_reducible apply Keeps.foldl (fun z4 _ => ?_) ?_
  assumption
  with_reducible apply Keeps.after (recode_keeps _ _ _ _)
  exact Keeps.refl _

theorem StackReq.gives_keeps (r) (s) (bs) (status) : Keeps s (StackReq.gives r s bs status) := by
  unfold StackReq.gives
  split
  dsimp only
  with_reducible apply Keeps.upd ?_ rfl rfl
  with_reducible refine Keeps.upd ?_ rfl rfl
  with_reducible apply Keeps.after (State.returns_keeps _ _)
  exact Keeps.refl _
  with_reducible apply Keeps.after (State.returns_keeps _ _)
  exact Keeps.refl _

theorem refuseRequest_keeps (s) (r) (b) : Keeps s (refuseRequest s r b) := by
  unfold refuseRequest
  lift_lets
  intro x0
  refine Keeps.bindLet (s := s) (x := x0) ?_ (fun h1 => ?_)
  subst x0
  with_reducible apply Keeps.after (sourceViolation_keeps _ _ _ _)
  exact Keeps.refl _
  clear_value x0
  with_reducible apply Keeps.ite
  assumption
  with_reducible apply Keeps.after (StackReq.gives_keeps _ _ _ _)
  assumption

theorem serveRequest_keeps (s) (r) : Keeps s (serveRequest s r) := by
  unfold serveRequest
  split
  with_reducible apply Keeps.after (underKeys_keeps _ _ _ (fun z0 => ?_))
  exact Keeps.refl _
  with_reducible apply Keeps.after (State.write_keeps _ _ _ _)
  exact Keeps.refl _
  lift_lets
  intro x1
  refine Keeps.bindLet (s := s) (x := x1) ?_ (fun h2 => ?_)
  subst x1
  with_reducible apply Keeps.foldl (fun z3 _ => ?_) ?_
  exact Keeps.refl _
  with_reducible apply Keeps.ite
  split
  with_reducible apply Keeps.after (eccHit_keeps _ _ _ _ _)
  exact Keeps.refl _
  exact Keeps.refl _
  exact Keeps.refl _
  clear_value x1
  with_reducible apply Keeps.after (underKeys_keeps _ _ _ (fun z4 => ?_))
  assumption
  with_reducible apply Keeps.after (StackReq.gives_keeps _ _ _ _)
  exact Keeps.refl _

theorem admitRequest_keeps (s) (r) : Keeps s (admitRequest s r) := by
  unfold admitRequest
  split
  dsimp only
  with_reducible apply Keeps.ite
  with_reducible apply Keeps.upd ?_ rfl rfl
  with_reducible refine Keeps.upd ?_ rfl rfl
  refine Keeps.pair2 (by assumption) ?_
  with_reducible apply Keeps.after (mustWait_keeps _ _)
  exact Keeps.refl _
  with_reducible apply Keeps.after (serveRequest_keeps _ _)
  refine Keeps.pair2 (by assumption) ?_
  with_reducible apply Keeps.after (mustWait_keeps _ _)
  exact Keeps.refl _

theorem stackRequest_keeps (s) (r) : Keeps s (stackRequest s r) := by
  unfold stackRequest
  split
  with_reducible apply Keeps.after (refuseRequest_keeps _ _ _)
  exact Keeps.refl _
  with_reducible apply Keeps.after (admitRequest_keeps _ _)
  exact Keeps.refl _

theorem zeroRange_keeps (s) (a1) (n) : Keeps s (zeroRange s a1 n) := by
  unfold zeroRange
  with_reducible apply Keeps.clear2
  exact Keeps.refl _

theorem endUnmap_keeps (s) (d) : Keeps s (endUnmap s d) := by
  unfold endUnmap
  with_reducible apply Keeps.ite
  exact Keeps.refl _
  with_reducible apply Keeps.after (finish_keeps _ _ _ _ _)
  with_reducible apply Keeps.ite
  with_reducible apply Keeps.after (zeroRange_keeps _ _ _)
  exact Keeps.refl _
  exact Keeps.refl _

theorem endUnmaps_keeps (s) : Keeps s (endUnmaps s) := by
  unfold endUnmaps
  with_reducible apply Keeps.foldl (fun z0 _ => ?_) ?_
  exact Keeps.refl _
  with_reducible apply Keeps.after (endUnmap_keeps _ _)
  exact Keeps.refl _

theorem landHeld_keeps (s) : Keeps s (landHeld s) := by
  unfold landHeld
  with_reducible apply Keeps.foldl (fun z0 _ => ?_) ?_
  exact Keeps.refl _
  with_reducible apply Keeps.after (releaseHeld_keeps _ _ _)
  exact Keeps.refl _

theorem serveWaiting_keeps (s) : Keeps s (serveWaiting s) := by
  unfold serveWaiting
  with_reducible apply Keeps.after (landHeld_keeps _)
  with_reducible apply Keeps.after (endUnmaps_keeps _)
  with_reducible apply Keeps.foldl (fun z0 _ => ?_) ?_
  with_reducible apply Keeps.upd ?_ rfl rfl
  with_reducible refine Keeps.upd ?_ rfl rfl
  exact Keeps.refl _
  with_reducible apply Keeps.after (admitRequest_keeps _ _)
  exact Keeps.refl _

theorem noteSramErrs_keeps (s) (a) (n) (errs) : Keeps s (noteSramErrs s a n errs) := by
  unfold noteSramErrs
  with_reducible apply Keeps.upd ?_ rfl rfl
  with_reducible refine Keeps.upd ?_ rfl rfl
  exact Keeps.refl _

theorem execStackRequest_keeps (src) (a1) (write) (n) (errs) (s) : Goes s (execStackRequest src a1 write n errs s) := by
  unfold execStackRequest
  lift_lets
  intro x0
  refine Keeps.bindLet (s := s) (x := x0) ?_ (fun h1 => ?_)
  subst x0
  with_reducible apply Keeps.after (noteSramErrs_keeps _ _ _ _)
  exact Keeps.refl _
  clear_value x0
  with_reducible apply Goes.next
  split
  with_reducible apply Keeps.after (sramRead_keeps _ _ _ _ _)
  assumption
  with_reducible apply Keeps.after (stackRequest_keeps _ _)
  assumption

theorem execPatrolScrub_keeps (n) (errs) (pass) (s) : Goes s (execPatrolScrub n errs pass s) := by
  unfold execPatrolScrub
  with_reducible apply Goes.next
  with_reducible apply Keeps.ite
  exact Keeps.refl _
  lift_lets
  intro x0
  refine Keeps.bindLet (s := s) (x := x0) ?_ (fun h1 => ?_)
  subst x0
  with_reducible apply Keeps.foldl (fun z2 _ => ?_) ?_
  exact Keeps.refl _
  with_reducible apply Keeps.ite
  with_reducible apply Keeps.after (eccHit_keeps _ _ _ _ _)
  exact Keeps.refl _
  exact Keeps.refl _
  clear_value x0
  with_reducible apply Keeps.ite
  with_reducible apply Keeps.after (State.modStk_keeps _ _ _)
  assumption
  assumption

theorem execRowRepairComplete_keeps (n) (done) (s) : Goes s (execRowRepairComplete n done s) := by
  unfold execRowRepairComplete
  with_reducible apply Goes.next
  split
  exact Keeps.refl _
  lift_lets
  intro x0
  refine Keeps.bindLet (s := s) (x := x0) ?_ (fun h1 => ?_)
  subst x0
  with_reducible apply Keeps.after (State.modStk_keeps _ _ _)
  exact Keeps.refl _
  clear_value x0
  intro x2
  refine Keeps.bindLet (s := s) (x := x2) ?_ (fun h3 => ?_)
  subst x2
  with_reducible apply Keeps.after (State.modStk_keeps _ _ _)
  assumption
  clear_value x2
  intro x4
  subst x4
  intro x5
  refine Keeps.bindLet (s := s) (x := x5) ?_ (fun h6 => ?_)
  subst x5
  with_reducible apply Keeps.ite
  with_reducible apply Keeps.upd ?_ rfl rfl
  with_reducible refine Keeps.upd ?_ rfl rfl
  assumption
  with_reducible apply Keeps.after (State.modStk_keeps _ _ _)
  assumption
  clear_value x5
  intro x7
  refine Keeps.bindLet (s := s) (x := x7) ?_ (fun h8 => ?_)
  subst x7
  with_reducible apply Keeps.after (record_keeps _ _ _ _ _)
  assumption
  clear_value x7
  with_reducible apply Keeps.after (serveWaiting_keeps _)
  with_reducible apply Keeps.ite
  assumption
  with_reducible apply Keeps.after (spareCheck_keeps _ _ _)
  assumption

theorem bootRepair_keeps (s) (x) : Keeps s (bootRepair s x) := by
  unfold bootRepair
  with_reducible apply Keeps.dite (fun _ => ?_) (fun _ => ?_)
  lift_lets
  intro x0
  subst x0
  split
  dsimp only
  with_reducible apply Keeps.ite
  with_reducible apply Keeps.after (State.modStk_keeps _ _ _)
  refine Keeps.pair2 (by assumption) ?_
  with_reducible apply Keeps.after (State.fresh_keeps _)
  exact Keeps.refl _
  with_reducible apply Keeps.ite
  with_reducible apply Keeps.upd ?_ rfl rfl
  with_reducible refine Keeps.upd ?_ rfl rfl
  with_reducible apply Keeps.after (State.modStk_keeps _ _ _)
  refine Keeps.pair2 (by assumption) ?_
  with_reducible apply Keeps.after (State.fresh_keeps _)
  exact Keeps.refl _
  with_reducible apply Keeps.after (spareCheck_keeps _ _ _)
  with_reducible apply Keeps.after (State.modStk_keeps _ _ _)
  refine Keeps.pair2 (by assumption) ?_
  with_reducible apply Keeps.after (State.fresh_keeps _)
  exact Keeps.refl _
  exact Keeps.refl _

theorem bootRepairs_keeps (s) : Keeps s (bootRepairs s) := by
  unfold bootRepairs
  with_reducible apply Keeps.foldl (fun z0 _ => ?_) ?_
  with_reducible apply Keeps.upd ?_ rfl rfl
  with_reducible refine Keeps.upd ?_ rfl rfl
  exact Keeps.refl _
  with_reducible apply Keeps.after (bootRepair_keeps _ _)
  exact Keeps.refl _

theorem sparePass_keeps (s) (n) : Keeps s (sparePass s n) := by
  unfold sparePass
  with_reducible apply Keeps.ite
  split
  with_reducible apply Keeps.after (State.modStk_keeps _ _ _)
  refine Keeps.pair2 (by assumption) ?_
  with_reducible apply Keeps.after (State.fresh_keeps _)
  exact Keeps.refl _
  exact Keeps.refl _

theorem execSparingComplete_keeps (n) (s) : Goes s (execSparingComplete n s) := by
  unfold execSparingComplete
  with_reducible apply Goes.next
  with_reducible apply Keeps.ite
  lift_lets
  intro x0
  refine Keeps.bindLet (s := s) (x := x0) ?_ (fun h1 => ?_)
  subst x0
  with_reducible apply Keeps.after (State.modStk_keeps _ _ _)
  exact Keeps.refl _
  clear_value x0
  with_reducible apply Keeps.after (record_keeps _ _ _ _ _)
  assumption
  exact Keeps.refl _

theorem execStackTempRead_keeps (n) (t) (s) : Goes s (execStackTempRead n t s) := by
  unfold execStackTempRead
  lift_lets
  intro x0
  subst x0
  intro x1
  subst x1
  intro x2
  subst x2
  intro x3
  subst x3
  intro x4
  refine Keeps.bindLet (s := s) (x := x4) ?_ (fun h5 => ?_)
  subst x4
  with_reducible apply Keeps.after (State.modStk_keeps _ _ _)
  exact Keeps.refl _
  clear_value x4
  with_reducible apply Goes.next
  with_reducible apply Keeps.after (thermalWatch_keeps _)
  with_reducible apply Keeps.ite
  with_reducible apply Keeps.after (record_keeps _ _ _ _ _)
  assumption
  assumption

theorem execTempStale_keeps (n) (s) : Goes s (execTempStale n s) := by
  unfold execTempStale
  with_reducible apply Goes.next
  with_reducible apply Keeps.after (State.modStk_keeps _ _ _)
  exact Keeps.refl _

theorem execMemoryStepChange_keeps (s) : Goes s (execMemoryStepChange s) := by
  unfold execMemoryStepChange
  with_reducible apply Goes.next
  split
  with_reducible apply Keeps.ite
  with_reducible refine Keeps.upd ?_ rfl rfl
  exact Keeps.refl _
  exact Keeps.refl _
  exact Keeps.refl _

theorem stacksRun_keeps (s) (m) : Keeps s (stacksRun s m) := by
  unfold stacksRun
  with_reducible apply Keeps.after (serveWaiting_keeps _)
  with_reducible apply Keeps.upd ?_ rfl rfl
  with_reducible refine Keeps.upd ?_ rfl rfl
  exact Keeps.refl _

theorem execMstepAutoDecision_keeps (delivered) (admitted) (s) : Goes s (execMstepAutoDecision delivered admitted s) := by
  unfold execMstepAutoDecision
  with_reducible apply Goes.next
  with_reducible apply Keeps.ite
  exact Keeps.refl _
  with_reducible apply Keeps.ite
  with_reducible apply Keeps.ite
  with_reducible apply Keeps.after (askMstep_keeps _ _)
  exact Keeps.refl _
  exact Keeps.refl _
  with_reducible apply Keeps.ite
  with_reducible apply Keeps.after (askMstep_keeps _ _)
  exact Keeps.refl _
  exact Keeps.refl _

theorem rekey_keeps (old) (s) : Keeps s (rekey old s) := by
  unfold rekey
  lift_lets
  intro x0
  subst x0
  intro x1
  subst x1
  with_reducible apply Keeps.foldl (fun z2 _ => ?_) ?_
  exact Keeps.refl _
  lift_lets
  intro x3
  subst x3
  intro x4
  subst x4
  with_reducible apply Keeps.ite
  exact Keeps.refl _
  with_reducible apply Keeps.foldl (fun z5 _ => ?_) ?_
  exact Keeps.refl _
  with_reducible apply Keeps.after (recode_keeps _ _ _ _)
  exact Keeps.refl _

theorem execPlatApply_keeps (s) : Goes s (execPlatApply s) := by
  unfold execPlatApply
  with_reducible apply Goes.next
  split
  exact Keeps.refl _
  with_reducible apply Keeps.ite
  lift_lets
  intro x0
  subst x0
  intro x1
  subst x1
  intro x2
  refine Keeps.bindLet (s := s) (x := x2) ?_ (fun h3 => ?_)
  subst x2
  with_reducible apply Keeps.after (rekey_keeps _ _)
  with_reducible apply Keeps.upd ?_ rfl rfl
  with_reducible refine Keeps.upd ?_ rfl rfl
  exact Keeps.refl _
  clear_value x2
  intro x4
  refine Keeps.bindLet (s := s) (x := x4) ?_ (fun h5 => ?_)
  subst x4
  with_reducible apply Keeps.foldl (fun z6 _ => ?_) ?_
  assumption
  with_reducible apply Keeps.after (finish_keeps _ _ _ _ _)
  exact Keeps.refl _
  clear_value x4
  with_reducible apply Keeps.after (endUnmaps_keeps _)
  with_reducible apply Keeps.foldl (fun z7 _ => ?_) ?_
  assumption
  lift_lets
  intro x8
  subst x8
  with_reducible apply Keeps.after (setLive_keeps _ _)
  exact Keeps.refl _
  exact Keeps.refl _

theorem coreReassigned_keeps (s) (c) : Keeps s (coreReassigned s c) := by
  unfold coreReassigned
  lift_lets
  intro x0
  refine Keeps.bindLet (s := s) (x := x0) ?_ (fun h1 => ?_)
  subst x0
  with_reducible apply Keeps.after (contextSwitch_keeps _ _)
  exact Keeps.refl _
  clear_value x0
  intro x2
  refine Keeps.bindLet (s := s) (x := x2) ?_ (fun h3 => ?_)
  subst x2
  with_reducible apply Keeps.after (State.modCore_keeps _ _ _)
  assumption
  clear_value x2
  intro x4
  subst x4
  with_reducible refine Keeps.upd ?_ rfl rfl
  assumption

theorem seedCore_keeps (s) (c) : Keeps s (seedCore s c) := by
  unfold seedCore
  split
  dsimp only
  with_reducible apply Keeps.after (State.modCore_keeps _ _ _)
  refine Keeps.pair2 (by assumption) ?_
  with_reducible apply Keeps.after (draw_keeps _)
  exact Keeps.refl _

theorem execPartitionMapApply_keeps (s) : Goes s (execPartitionMapApply s) := by
  unfold execPartitionMapApply
  with_reducible apply Goes.next
  split
  exact Keeps.refl _
  with_reducible apply Keeps.ite
  lift_lets
  intro x0
  subst x0
  intro x1
  subst x1
  intro x2
  refine Keeps.bindLet (s := s) (x := x2) ?_ (fun h3 => ?_)
  subst x2
  with_reducible apply Keeps.upd ?_ rfl rfl
  with_reducible refine Keeps.upd ?_ rfl rfl
  exact Keeps.refl _
  clear_value x2
  intro x4
  refine Keeps.bindLet (s := s) (x := x4) ?_ (fun h5 => ?_)
  subst x4
  with_reducible apply Keeps.foldl (fun z6 _ => ?_) ?_
  assumption
  with_reducible apply Keeps.ite
  exact Keeps.refl _
  with_reducible apply Keeps.after (coreReassigned_keeps _ _)
  exact Keeps.refl _
  clear_value x4
  intro x7
  subst x7
  with_reducible apply Keeps.foldl (fun z8 _ => ?_) ?_
  assumption
  split
  dsimp only
  with_reducible apply Keeps.after (finish_keeps _ _ _ _ _)
  with_reducible apply Keeps.foldl (fun z9 _ => ?_) ?_
  with_reducible apply Keeps.after (State.setPart_keeps _ _ _)
  exact Keeps.refl _
  with_reducible apply Keeps.after (seedCore_keeps _ _)
  exact Keeps.refl _
  with_reducible apply Keeps.after (finish_keeps _ _ _ _ _)
  exact Keeps.refl _
  exact Keeps.refl _

/-! ### Rounds -/

theorem modTc_keeps (s) (c) (f) : Keeps s (modTc s c f) := by
  unfold modTc
  with_reducible apply Keeps.upd ?_ rfl rfl
  with_reducible refine Keeps.upd ?_ rfl rfl
  exact Keeps.refl _

theorem watchWait_keeps (s) (c) : Keeps s (watchWait s c) := by
  unfold watchWait
  lift_lets
  intro x0
  subst x0
  intro x1
  subst x1
  with_reducible apply Keeps.ite
  exact Keeps.refl _
  with_reducible apply Keeps.after (modTc_keeps _ _ _)
  exact Keeps.refl _

theorem takeEngines_keeps (s) (c) (mask) : Keeps s (takeEngines s c mask) := by
  unfold takeEngines
  with_reducible apply Keeps.after (State.modCore_keeps _ _ _)
  exact Keeps.refl _

theorem holdSet_keeps (s) (c) : Keeps s (holdSet s c) := by
  unfold holdSet
  split
  with_reducible apply Keeps.ite
  with_reducible apply Keeps.after (enterKernel_keeps _ _ _)
  with_reducible apply Keeps.after (modTc_keeps _ _ _)
  exact Keeps.refl _
  exact Keeps.refl _
  exact Keeps.refl _

theorem launch_keeps (s) (c) (k) (forced) (first) : Keeps s (launch s c k forced first) := by
  unfold launch
  lift_lets
  intro x0
  subst x0
  intro x1
  refine Keeps.bindLet (s := s) (x := x1) ?_ (fun h2 => ?_)
  subst x1
  with_reducible apply Keeps.after (takeEngines_keeps _ _ _)
  with_reducible apply Keeps.after (modTc_keeps _ _ _)
  exact Keeps.refl _
  clear_value x1
  with_reducible apply Keeps.ite
  with_reducible apply Keeps.after (holdSet_keeps _ _)
  assumption
  assumption

theorem force_keeps (s) (c) : Keeps s (force s c) := by
  unfold force
  lift_lets
  intro x0
  subst x0
  split
  exact Keeps.refl _
  with_reducible apply Keeps.ite
  exact Keeps.refl _
  with_reducible apply Keeps.ite
  with_reducible apply Keeps.after (modTc_keeps _ _ _)
  exact Keeps.refl _
  with_reducible apply Keeps.after (launch_keeps _ _ _ _ _)
  with_reducible apply Keeps.after (modTc_keeps _ _ _)
  exact Keeps.refl _

theorem nextKernel_keeps (s) (c) : Keeps s (nextKernel s c) := by
  unfold nextKernel
  lift_lets
  intro x0
  subst x0
  with_reducible apply Keeps.ite
  split
  with_reducible apply Keeps.ite
  with_reducible apply Keeps.after (launch_keeps _ _ _ _ _)
  exact Keeps.refl _
  exact Keeps.refl _
  exact Keeps.refl _
  with_reducible apply Keeps.ite
  with_reducible apply Keeps.after (force_keeps _ _)
  exact Keeps.refl _
  exact Keeps.refl _

theorem openRound_keeps (s) (c) : Keeps s (openRound s c) := by
  unfold openRound
  lift_lets
  intro x0
  subst x0
  intro x1
  subst x1
  with_reducible apply Keeps.ite
  exact Keeps.refl _
  with_reducible apply Keeps.after (modTc_keeps _ _ _)
  exact Keeps.refl _

theorem endRound_keeps (s) (c) : Keeps s (endRound s c) := by
  unfold endRound
  with_reducible apply Keeps.after (modTc_keeps _ _ _)
  exact Keeps.refl _

theorem goOn_keeps (s) (c) : Keeps s (goOn s c) := by
  unfold goOn
  with_reducible apply Keeps.ite
  with_reducible apply Keeps.after (nextKernel_keeps _ _)
  with_reducible apply Keeps.after (openRound_keeps _ _)
  exact Keeps.refl _
  exact Keeps.refl _

theorem forceAwake_keeps (s) (c) : Keeps s (forceAwake s c) := by
  unfold forceAwake
  with_reducible apply Keeps.ite
  with_reducible apply Keeps.upd ?_ rfl rfl
  with_reducible refine Keeps.upd ?_ rfl rfl
  exact Keeps.refl _
  with_reducible apply Keeps.after (force_keeps _ _)
  exact Keeps.refl _

/-! ### Ds -/

theorem modCl_keeps (s) (p) (f) : Keeps s (modCl s p f) := by
  unfold modCl
  with_reducible apply Keeps.after (State.modPart_keeps _ _ _)
  exact Keeps.refl _

theorem modSlot_keeps (s) (p) (i) (f) : Keeps s (modSlot s p i f) := by
  unfold modSlot
  with_reducible apply Keeps.after (modCl_keeps _ _ _)
  exact Keeps.refl _

theorem dsEach_keeps (s) (p) (whole) (f) : Keeps s (dsEach s p whole f) := by
  unfold dsEach
  split
  exact Keeps.refl _
  with_reducible apply Keeps.foldl (fun z0 _ => ?_) ?_
  exact Keeps.refl _
  lift_lets
  intro x1
  subst x1
  intro x2
  refine Keeps.bindLet (s := z0) (x := x2) ?_ (fun h3 => ?_)
  subst x2
  with_reducible apply Keeps.after (State.write_keeps _ _ _ _)
  exact Keeps.refl _
  clear_value x2
  with_reducible apply Keeps.ite
  with_reducible apply Keeps.ite
  with_reducible apply Keeps.after (State.mark_keeps _ _ _)
  assumption
  assumption
  exact Keeps.refl _

theorem dsFresh_keeps (s) (p) (first) : Keeps s (dsFresh s p first) := by
  unfold dsFresh
  with_reducible apply Keeps.after (dsEach_keeps _ _ _ _)
  exact Keeps.refl _

/-! ### Replay -/

theorem setStep_keeps (s) (p) (i) (st) : Keeps s (setStep s p i st) := by
  unfold setStep
  lift_lets
  intro x0
  subst x0
  with_reducible apply Keeps.after (record_keeps _ _ _ _ _)
  with_reducible apply Keeps.after (modSlot_keeps _ _ _ _)
  exact Keeps.refl _

theorem addCause_keeps (s) (p) (i) (c) : Keeps s (addCause s p i c) := by
  unfold addCause
  with_reducible apply Keeps.after (modSlot_keeps _ _ _ _)
  exact Keeps.refl _

theorem finishOpen_keeps (s) (p) (i) (status) : Keeps s (finishOpen s p i status) := by
  unfold finishOpen
  lift_lets
  intro x0
  subst x0
  split
  with_reducible apply Keeps.after (finish_keeps _ _ _ _ _)
  exact Keeps.refl _
  exact Keeps.refl _

theorem haltStep_keeps (s) (p) (i) (c) : Keeps s (haltStep s p i c) := by
  unfold haltStep
  lift_lets
  intro x0
  refine Keeps.bindLet (s := s) (x := x0) ?_ (fun h1 => ?_)
  subst x0
  with_reducible apply Keeps.after (modSlot_keeps _ _ _ _)
  with_reducible apply Keeps.after (addCause_keeps _ _ _ _)
  exact Keeps.refl _
  clear_value x0
  intro x2
  refine Keeps.bindLet (s := s) (x := x2) ?_ (fun h3 => ?_)
  subst x2
  with_reducible apply Keeps.ite
  assumption
  with_reducible apply Keeps.after (setStep_keeps _ _ _ _)
  assumption
  clear_value x2
  with_reducible apply Keeps.after (finishOpen_keeps _ _ _ _)
  assumption

theorem fwSignal_keeps (s) (p) (off) (c) : Keeps s (fwSignal s p off c) := by
  unfold fwSignal
  with_reducible apply Keeps.after (signal_keeps _ _ _ _ _ _ _)
  exact Keeps.refl _

theorem writeCount_keeps (s) (c) (slot) (count) : Keeps s (writeCount s c slot count) := by
  unfold writeCount
  with_reducible apply Keeps.ite
  with_reducible apply Keeps.after (State.write_keeps _ _ _ _)
  exact Keeps.refl _
  exact Keeps.refl _

theorem evalGo_keeps (s) (p) (count) (wait) : Keeps s (evalGo s p count wait) := by
  unfold evalGo
  lift_lets
  intro x0
  refine Keeps.bindLet (s := s) (x := x0) ?_ (fun h1 => ?_)
  subst x0
  with_reducible apply Keeps.after (modCl_keeps _ _ _)
  exact Keeps.refl _
  clear_value x0
  with_reducible apply Keeps.foldl (fun z2 _ => ?_) ?_
  assumption
  lift_lets
  intro x3
  refine Keeps.bindLet (s := z2) (x := x3) ?_ (fun h4 => ?_)
  subst x3
  with_reducible apply Keeps.ite
  with_reducible apply Keeps.after (writeCount_keeps _ _ _ _)
  exact Keeps.refl _
  exact Keeps.refl _
  clear_value x3
  with_reducible apply Keeps.after (fwSignal_keeps _ _ _ _)
  assumption

theorem keepLog_keeps (s) (p) (c) : Keeps s (keepLog s p c) := by
  unfold keepLog
  lift_lets
  intro x0
  subst x0
  with_reducible apply Keeps.after (modSlot_keeps _ _ _ _)
  exact Keeps.refl _

theorem loadOrigins_keeps (s) (p) (c) (es) (replay) : Keeps s (loadOrigins s p c es replay) := by
  unfold loadOrigins
  lift_lets
  intro x0
  subst x0
  intro x1
  refine Keeps.bindLet (s := s) (x := x1) ?_ (fun h2 => ?_)
  subst x1
  with_reducible apply Keeps.after (State.write_keeps _ _ _ _)
  exact Keeps.refl _
  clear_value x1
  intro x3
  subst x3
  with_reducible apply Keeps.after (State.modCore_keeps _ _ _)
  assumption

theorem releaseOn_keeps (s) (p) (i) (replay) (c) : Keeps s (releaseOn s p i replay c) := by
  unfold releaseOn
  lift_lets
  intro x0
  subst x0
  intro x1
  refine Keeps.bindLet (s := s) (x := x1) ?_ (fun h2 => ?_)
  subst x1
  with_reducible apply Keeps.after (keepLog_keeps _ _ _)
  exact Keeps.refl _
  clear_value x1
  intro x3
  refine Keeps.bindLet (s := s) (x := x3) ?_ (fun h4 => ?_)
  subst x3
  with_reducible apply Keeps.after (State.modCore_keeps _ _ _)
  assumption
  clear_value x3
  intro x5
  refine Keeps.bindLet (s := s) (x := x5) ?_ (fun h6 => ?_)
  subst x5
  with_reducible apply Keeps.after (fwSignal_keeps _ _ _ _)
  with_reducible apply Keeps.after (writeTag_keeps _ _ _)
  assumption
  clear_value x5
  with_reducible apply Keeps.after (modSlot_keeps _ _ _ _)
  assumption

theorem releaseDue_keeps (s) (p) : Keeps s (releaseDue s p) := by
  unfold releaseDue
  with_reducible apply Keeps.foldl (fun z0 _ => ?_) ?_
  exact Keeps.refl _
  with_reducible apply Keeps.foldl (fun z1 _ => ?_) ?_
  exact Keeps.refl _
  with_reducible apply Keeps.ite
  with_reducible apply Keeps.after (releaseOn_keeps _ _ _ _ _)
  exact Keeps.refl _
  exact Keeps.refl _

theorem retireCore_keeps (s) (c) : Keeps s (retireCore s c) := by
  unfold retireCore
  with_reducible apply Keeps.ite
  exact Keeps.refl _
  lift_lets
  intro x0
  subst x0
  intro x1
  refine Keeps.bindLet (s := s) (x := x1) ?_ (fun h2 => ?_)
  subst x1
  with_reducible refine Keeps.upd ?_ rfl rfl
  exact Keeps.refl _
  clear_value x1
  intro x3
  refine Keeps.bindLet (s := s) (x := x3) ?_ (fun h4 => ?_)
  subst x3
  with_reducible apply Keeps.after (State.modCore_keeps _ _ _)
  assumption
  clear_value x3
  intro x5
  refine Keeps.bindLet (s := s) (x := x5) ?_ (fun h6 => ?_)
  subst x5
  with_reducible apply Keeps.after (abortKernel_keeps _ _)
  with_reducible apply Keeps.after (modTc_keeps _ _ _)
  assumption
  clear_value x5
  with_reducible apply Keeps.after (recordCore_keeps _ _ _ _)
  assumption

theorem haltCore_keeps (s) (c) : Keeps s (haltCore s c) := by
  unfold haltCore
  with_reducible apply Keeps.ite
  exact Keeps.refl _
  with_reducible apply Keeps.after (settleStop_keeps _ _)
  with_reducible apply Keeps.after (stopCore_keeps _ _)
  exact Keeps.refl _

theorem startReplay_keeps (s) (p) (i) (counts) : Keeps s (startReplay s p i counts) := by
  unfold startReplay
  lift_lets
  intro x0
  subst x0
  intro x1
  subst x1
  intro x2
  refine Keeps.bindLet (s := s) (x := x2) ?_ (fun h3 => ?_)
  subst x2
  with_reducible apply Keeps.after (modSlot_keeps _ _ _ _)
  exact Keeps.refl _
  clear_value x2
  intro x4
  refine Keeps.bindLet (s := s) (x := x4) ?_ (fun h5 => ?_)
  subst x4
  with_reducible apply Keeps.after (modSlot_keeps _ _ _ _)
  assumption
  clear_value x4
  intro x6
  refine Keeps.bindLet (s := s) (x := x6) ?_ (fun h7 => ?_)
  subst x6
  with_reducible apply Keeps.after (modCl_keeps _ _ _)
  assumption
  clear_value x6
  intro x8
  refine Keeps.bindLet (s := s) (x := x8) ?_ (fun h9 => ?_)
  subst x8
  with_reducible apply Keeps.ite
  assumption
  with_reducible apply Keeps.after (setStep_keeps _ _ _ _)
  assumption
  clear_value x8
  intro x10
  refine Keeps.bindLet (s := s) (x := x10) ?_ (fun h11 => ?_)
  subst x10
  with_reducible apply Keeps.after (modXc_keeps _ _ _)
  assumption
  clear_value x10
  intro x12
  subst x12
  with_reducible apply Keeps.foldl (fun z13 _ => ?_) ?_
  assumption
  with_reducible apply Keeps.after (haltCore_keeps _ _)
  exact Keeps.refl _

theorem notePeer_keeps (s) (p) (i) : Keeps s (notePeer s p i) := by
  unfold notePeer
  with_reducible apply Keeps.ite
  with_reducible apply Keeps.after (addCause_keeps _ _ _ _)
  exact Keeps.refl _
  exact Keeps.refl _

theorem failStep_keeps (s) (p) (i) (c) : Keeps s (failStep s p i c) := by
  unfold failStep
  lift_lets
  intro x0
  subst x0
  intro x1
  refine Keeps.bindLet (s := s) (x := x1) ?_ (fun h2 => ?_)
  subst x1
  with_reducible apply Keeps.after (notePeer_keeps _ _ _)
  exact Keeps.refl _
  clear_value x1
  with_reducible apply Keeps.ite
  with_reducible apply Keeps.after (addCause_keeps _ _ _ _)
  assumption
  with_reducible apply Keeps.ite
  with_reducible apply Keeps.after (haltStep_keeps _ _ _ _)
  assumption
  with_reducible apply Keeps.ite
  with_reducible apply Keeps.after (haltStep_keeps _ _ _ _)
  assumption
  with_reducible apply Keeps.ite
  with_reducible apply Keeps.after (haltStep_keeps _ _ _ _)
  assumption
  with_reducible apply Keeps.after (startReplay_keeps _ _ _ _)
  with_reducible apply Keeps.after (addCause_keeps _ _ _ _)
  assumption

theorem replayStart_keeps (s) (p) (i) : Keeps s (replayStart s p i) := by
  unfold replayStart
  lift_lets
  intro x0
  refine Keeps.bindLet (s := s) (x := x0) ?_ (fun h1 => ?_)
  subst x0
  with_reducible apply Keeps.after (modSlot_keeps _ _ _ _)
  exact Keeps.refl _
  clear_value x0
  intro x2
  refine Keeps.bindLet (s := s) (x := x2) ?_ (fun h3 => ?_)
  subst x2
  with_reducible apply Keeps.foldl (fun z4 _ => ?_) ?_
  assumption
  with_reducible apply Keeps.after (startCore_keeps _ _)
  exact Keeps.refl _
  clear_value x2
  intro x5
  refine Keeps.bindLet (s := s) (x := x5) ?_ (fun h6 => ?_)
  subst x5
  with_reducible apply Keeps.after (setStep_keeps _ _ _ _)
  assumption
  clear_value x5
  intro x7
  refine Keeps.bindLet (s := s) (x := x7) ?_ (fun h8 => ?_)
  subst x7
  with_reducible apply Keeps.foldl (fun z9 _ => ?_) ?_
  assumption
  with_reducible apply Keeps.after (releaseOn_keeps _ _ _ _ _)
  exact Keeps.refl _
  clear_value x7
  with_reducible apply Keeps.after (evalGo_keeps _ _ _ _)
  assumption

theorem replayArrive_keeps (s) (p) (i) (b) : Keeps s (replayArrive s p i b) := by
  unfold replayArrive
  lift_lets
  intro x0
  subst x0
  with_reducible apply Keeps.after (barArrive_keeps _ _ _ _)
  with_reducible apply Keeps.after (modSlot_keeps _ _ _ _)
  exact Keeps.refl _

theorem replayMeet_keeps (s) (p) (i) : Keeps s (replayMeet s p i) := by
  unfold replayMeet
  with_reducible apply Keeps.ite
  with_reducible apply Keeps.after (replayStart_keeps _ _ _)
  exact Keeps.refl _
  split
  with_reducible apply Keeps.after (replayArrive_keeps _ _ _ _)
  exact Keeps.refl _
  with_reducible apply Keeps.after (modSlot_keeps _ _ _ _)
  exact Keeps.refl _

theorem replayPrepare_keeps (s) (p) (i) : Keeps s (replayPrepare s p i) := by
  unfold replayPrepare
  lift_lets
  intro x0
  subst x0
  intro x1
  subst x1
  intro x2
  subst x2
  intro x3
  subst x3
  intro x4
  subst x4
  intro x5
  subst x5
  intro x6
  subst x6
  intro x7
  refine Keeps.bindLet (s := s) (x := x7) ?_ (fun h8 => ?_)
  subst x7
  with_reducible apply Keeps.foldl (fun z9 _ => ?_) ?_
  exact Keeps.refl _
  with_reducible apply Keeps.after (State.modCore_keeps _ _ _)
  exact Keeps.refl _
  clear_value x7
  intro x10
  refine Keeps.bindLet (s := s) (x := x10) ?_ (fun h11 => ?_)
  subst x10
  with_reducible apply Keeps.after (dsEach_keeps _ _ _ _)
  assumption
  clear_value x10
  intro x12
  refine Keeps.bindLet (s := s) (x := x12) ?_ (fun h13 => ?_)
  subst x12
  with_reducible apply Keeps.foldl (fun z14 _ => ?_) ?_
  assumption
  with_reducible apply Keeps.after (loadOrigins_keeps _ _ _ _ _)
  exact Keeps.refl _
  clear_value x12
  with_reducible apply Keeps.after (replayMeet_keeps _ _ _)
  with_reducible apply Keeps.ite
  with_reducible apply Keeps.after (addCause_keeps _ _ _ _)
  assumption
  assumption

theorem replayAdvance_keeps (s) (p) (i) : Keeps s (replayAdvance s p i) := by
  unfold replayAdvance
  lift_lets
  intro x0
  subst x0
  intro x1
  refine Keeps.bindLet (s := s) (x := x1) ?_ (fun h2 => ?_)
  subst x1
  with_reducible apply Keeps.after (notePeer_keeps _ _ _)
  exact Keeps.refl _
  clear_value x1
  intro x3
  refine Keeps.bindLet (s := s) (x := x3) ?_ (fun h4 => ?_)
  subst x3
  with_reducible apply Keeps.foldl (fun z5 _ => ?_) ?_
  assumption
  split
  with_reducible apply Keeps.ite
  with_reducible apply Keeps.after (retireCore_keeps _ _)
  exact Keeps.refl _
  exact Keeps.refl _
  exact Keeps.refl _
  clear_value x3
  intro x6
  refine Keeps.bindLet (s := s) (x := x6) ?_ (fun h7 => ?_)
  subst x6
  with_reducible apply Keeps.ite
  assumption
  with_reducible apply Keeps.after (setStep_keeps _ _ _ _)
  assumption
  clear_value x6
  intro x8
  subst x8
  intro x9
  refine Keeps.bindLet (s := s) (x := x9) ?_ (fun h10 => ?_)
  subst x9
  with_reducible apply Keeps.after (setAttempt_keeps _ _ _ _)
  assumption
  clear_value x9
  intro x11
  refine Keeps.bindLet (s := s) (x := x11) ?_ (fun h12 => ?_)
  subst x11
  with_reducible apply Keeps.after (modSlot_keeps _ _ _ _)
  assumption
  clear_value x11
  intro x13
  subst x13
  intro x14
  refine Keeps.bindLet (s := s) (x := x14) ?_ (fun h15 => ?_)
  subst x14
  with_reducible apply Keeps.ite
  with_reducible apply Keeps.after (modSlot_keeps _ _ _ _)
  assumption
  assumption
  clear_value x14
  with_reducible apply Keeps.ite
  with_reducible apply Keeps.after (replayPrepare_keeps _ _ _)
  assumption
  with_reducible apply Keeps.after (modSlot_keeps _ _ _ _)
  assumption

theorem replayOn_keeps (s) (p) (i) : Keeps s (replayOn s p i) := by
  unfold replayOn
  lift_lets
  intro x0
  subst x0
  with_reducible apply Keeps.ite
  with_reducible apply Keeps.ite
  with_reducible apply Keeps.after (replayAdvance_keeps _ _ _)
  exact Keeps.refl _
  exact Keeps.refl _
  with_reducible apply Keeps.ite
  with_reducible apply Keeps.ite
  with_reducible apply Keeps.after (replayPrepare_keeps _ _ _)
  exact Keeps.refl _
  exact Keeps.refl _
  with_reducible apply Keeps.ite
  with_reducible apply Keeps.after (replayMeet_keeps _ _ _)
  exact Keeps.refl _
  with_reducible apply Keeps.ite
  split
  with_reducible apply Keeps.after (modSlot_keeps _ _ _ _)
  exact Keeps.refl _
  lift_lets
  intro x1
  subst x1
  with_reducible apply Keeps.ite
  with_reducible apply Keeps.after (replayStart_keeps _ _ _)
  exact Keeps.refl _
  with_reducible apply Keeps.ite
  with_reducible apply Keeps.after (replayArrive_keeps _ _ _ _)
  exact Keeps.refl _
  exact Keeps.refl _
  exact Keeps.refl _

theorem noteLoaded_keeps (s) (p) (c) : Keeps s (noteLoaded s p c) := by
  unfold noteLoaded
  with_reducible apply Keeps.foldl (fun z0 _ => ?_) ?_
  exact Keeps.refl _
  with_reducible apply Keeps.after (modSlot_keeps _ _ _ _)
  exact Keeps.refl _

theorem leaveWork_keeps (s) (c) (retire) : Keeps s (leaveWork s c retire) := by
  unfold leaveWork
  split
  with_reducible apply Keeps.ite
  with_reducible apply Keeps.after (retireCore_keeps _ _)
  exact Keeps.refl _
  exact Keeps.refl _
  split
  with_reducible apply Keeps.ite
  with_reducible apply Keeps.after (retireCore_keeps _ _)
  exact Keeps.refl _
  exact Keeps.refl _
  lift_lets
  intro x0
  subst x0
  intro x1
  refine Keeps.bindLet (s := s) (x := x1) ?_ (fun h2 => ?_)
  subst x1
  with_reducible apply Keeps.after (modSlot_keeps _ _ _ _)
  exact Keeps.refl _
  clear_value x1
  with_reducible apply Keeps.ite
  with_reducible apply Keeps.ite
  with_reducible apply Keeps.after (retireCore_keeps _ _)
  assumption
  assumption
  with_reducible apply Keeps.ite
  with_reducible apply Keeps.after (haltCore_keeps _ _)
  with_reducible apply Keeps.after (modSlot_keeps _ _ _ _)
  assumption
  with_reducible apply Keeps.after (haltCore_keeps _ _)
  with_reducible apply Keeps.after (startReplay_keeps _ _ _ _)
  with_reducible apply Keeps.after (addCause_keeps _ _ _ _)
  assumption

theorem logLevel_keeps (s) (c) : Keeps s (logLevel s c) := by
  unfold logLevel
  with_reducible apply Keeps.upd ?_ rfl rfl
  with_reducible refine Keeps.upd ?_ rfl rfl
  exact Keeps.refl _

theorem setLevel_keeps (s) (c) (l) (kernel) : Keeps s (setLevel s c l kernel) := by
  unfold setLevel
  lift_lets
  intro x0
  subst x0
  intro x1
  refine Keeps.bindLet (s := s) (x := x1) ?_ (fun h2 => ?_)
  subst x1
  with_reducible apply Keeps.after (logLevel_keeps _ _)
  with_reducible apply Keeps.after (modTc_keeps _ _ _)
  exact Keeps.refl _
  clear_value x1
  intro x3
  refine Keeps.bindLet (s := s) (x := x3) ?_ (fun h4 => ?_)
  subst x3
  with_reducible apply Keeps.after (recordCore_keeps _ _ _ _)
  assumption
  clear_value x3
  with_reducible apply Keeps.ite
  exact Keeps.refl _
  with_reducible apply Keeps.ite
  with_reducible apply Keeps.after (goOn_keeps _ _)
  with_reducible apply Keeps.after (takeEngines_keeps _ _ _)
  assumption
  assumption

theorem judgeFails_keeps (s) (c) (kernel) : Keeps s (judgeFails s c kernel) := by
  unfold judgeFails
  lift_lets
  intro x0
  subst x0
  intro x1
  subst x1
  intro x2
  refine Keeps.bindLet (s := s) (x := x2) ?_ (fun h3 => ?_)
  subst x2
  with_reducible apply Keeps.ite
  with_reducible apply Keeps.after (setLevel_keeps _ _ _ _)
  exact Keeps.refl _
  exact Keeps.refl _
  clear_value x2
  intro x4
  refine Keeps.bindLet (s := s) (x := x4) ?_ (fun h5 => ?_)
  subst x4
  with_reducible apply Keeps.ite
  with_reducible apply Keeps.after (leaveWork_keeps _ _ _)
  with_reducible apply Keeps.after (setLevel_keeps _ _ _ _)
  assumption
  assumption
  clear_value x4
  with_reducible apply Keeps.ite
  with_reducible apply Keeps.ite
  with_reducible apply Keeps.after (leaveWork_keeps _ _ _)
  assumption
  with_reducible apply Keeps.after (modTc_keeps _ _ _)
  assumption
  assumption

theorem addFailure_keeps (s) (c) (kernel) : Keeps s (addFailure s c kernel) := by
  unfold addFailure
  with_reducible apply Keeps.ite
  exact Keeps.refl _
  with_reducible apply Keeps.after (judgeFails_keeps _ _ _)
  with_reducible apply Keeps.after (logLevel_keeps _ _)
  with_reducible apply Keeps.after (modTc_keeps _ _ _)
  exact Keeps.refl _

/-! ### Closure -/

theorem State.wipe_keeps (s) (a1) (n) : Keeps s (State.wipe s a1 n) := by
  unfold State.wipe
  with_reducible apply Keeps.clear2
  exact Keeps.refl _

theorem loadImage_keeps (s) (c) (bs) (rep) : Keeps s (loadImage s c bs rep) := by
  unfold loadImage
  lift_lets
  intro x0
  subst x0
  intro x1
  subst x1
  intro x2
  subst x2
  intro x3
  refine Keeps.bindLet (s := s) (x := x3) ?_ (fun h4 => ?_)
  subst x3
  with_reducible apply Keeps.after (State.wipe_keeps _ _ _)
  with_reducible apply Keeps.after (State.wipe_keeps _ _ _)
  exact Keeps.refl _
  clear_value x3
  intro x5
  refine Keeps.bindLet (s := s) (x := x5) ?_ (fun h6 => ?_)
  subst x5
  with_reducible apply Keeps.after (State.write_keeps _ _ _ _)
  assumption
  clear_value x5
  intro x7
  refine Keeps.bindLet (s := s) (x := x7) ?_ (fun h8 => ?_)
  subst x7
  with_reducible apply Keeps.after (State.write_keeps _ _ _ _)
  assumption
  clear_value x7
  intro x9
  refine Keeps.bindLet (s := s) (x := x9) ?_ (fun h10 => ?_)
  subst x9
  with_reducible apply Keeps.after (contextSwitch_keeps _ _)
  assumption
  clear_value x9
  with_reducible apply Keeps.after (State.modCore_keeps _ _ _)
  assumption

theorem found_keeps (s) (p) (i) (cause) (bits) : Keeps s (found s p i cause bits) := by
  unfold found
  with_reducible apply Keeps.after (modSlot_keeps _ _ _ _)
  with_reducible apply Keeps.after (addCause_keeps _ _ _ _)
  exact Keeps.refl _

theorem lateBits_keeps (s) (p) (i) : Keeps s (lateBits s p i) := by
  unfold lateBits
  lift_lets
  intro x0
  subst x0
  intro x1
  refine Keeps.bindLet (s := s) (x := x1) ?_ (fun h2 => ?_)
  subst x1
  with_reducible apply Keeps.ite
  with_reducible apply Keeps.after (State.modPart_keeps _ _ _)
  with_reducible apply Keeps.after (found_keeps _ _ _ _ _)
  exact Keeps.refl _
  exact Keeps.refl _
  clear_value x1
  intro x3
  refine Keeps.bindLet (s := s) (x := x3) ?_ (fun h4 => ?_)
  subst x3
  with_reducible apply Keeps.ite
  with_reducible apply Keeps.after (found_keeps _ _ _ _ _)
  assumption
  assumption
  clear_value x3
  intro x5
  refine Keeps.bindLet (s := s) (x := x5) ?_ (fun h6 => ?_)
  subst x5
  with_reducible apply Keeps.ite
  with_reducible apply Keeps.after (found_keeps _ _ _ _ _)
  assumption
  assumption
  clear_value x5
  with_reducible apply Keeps.ite
  with_reducible apply Keeps.after (modSlot_keeps _ _ _ _)
  assumption
  assumption

theorem sendEntry_keeps (s) (p) (i) (early) : Keeps s (sendEntry s p i early) := by
  unfold sendEntry
  lift_lets
  intro x0
  refine Keeps.bindLet (s := s) (x := x0) ?_ (fun h1 => ?_)
  subst x0
  with_reducible apply Keeps.after (lateBits_keeps _ _ _)
  exact Keeps.refl _
  clear_value x0
  intro x2
  subst x2
  intro x3
  subst x3
  intro x4
  subst x4
  intro x5
  subst x5
  intro x6
  subst x6
  intro x7
  refine Keeps.bindLet (s := s) (x := x7) ?_ (fun h8 => ?_)
  subst x7
  with_reducible apply Keeps.after (modSlot_keeps _ _ _ _)
  assumption
  clear_value x7
  intro x9
  refine Keeps.bindLet (s := s) (x := x9) ?_ (fun h10 => ?_)
  subst x9
  with_reducible apply Keeps.after (State.write_keeps _ _ _ _)
  assumption
  clear_value x9
  intro x11
  subst x11
  with_reducible apply Keeps.foldl (fun z12 _ => ?_) ?_
  assumption
  lift_lets
  intro x13
  subst x13
  with_reducible apply Keeps.ite
  exact Keeps.refl _
  with_reducible apply Keeps.after (fwSend_keeps _ _ _)
  exact Keeps.refl _

theorem modSuspect_keeps (s) (p) (i) (c) (f) : Keeps s (modSuspect s p i c f) := by
  unfold modSuspect
  with_reducible apply Keeps.after (modSlot_keeps _ _ _ _)
  exact Keeps.refl _

theorem suspectFails_keeps (s) (p) (i) (c) : Keeps s (suspectFails s p i c) := by
  unfold suspectFails
  with_reducible apply Keeps.after (found_keeps _ _ _ _ _)
  with_reducible apply Keeps.after (modSuspect_keeps _ _ _ _ _)
  exact Keeps.refl _

theorem startCheckOf_keeps (s) (p) (i) (c) : Keeps s (startCheckOf s p i c) := by
  unfold startCheckOf
  lift_lets
  intro x0
  subst x0
  intro x1
  subst x1
  intro x2
  subst x2
  intro x3
  subst x3
  with_reducible apply Keeps.ite
  with_reducible apply Keeps.after (suspectFails_keeps _ _ _ _)
  exact Keeps.refl _
  with_reducible apply Keeps.ite
  exact Keeps.refl _
  split
  exact Keeps.refl _
  lift_lets
  intro x4
  refine Keeps.bindLet (s := s) (x := x4) ?_ (fun h5 => ?_)
  subst x4
  with_reducible apply Keeps.after (loadImage_keeps _ _ _ _)
  exact Keeps.refl _
  clear_value x4
  intro x6
  refine Keeps.bindLet (s := s) (x := x6) ?_ (fun h7 => ?_)
  subst x6
  with_reducible apply Keeps.after (loadOrigins_keeps _ _ _ _ _)
  assumption
  clear_value x6
  intro x8
  refine Keeps.bindLet (s := s) (x := x8) ?_ (fun h9 => ?_)
  subst x8
  with_reducible apply Keeps.after (State.modCore_keeps _ _ _)
  assumption
  clear_value x8
  intro x10
  refine Keeps.bindLet (s := s) (x := x10) ?_ (fun h11 => ?_)
  subst x10
  with_reducible apply Keeps.after (startCore_keeps _ _)
  with_reducible apply Keeps.after (writeTag_keeps _ _ _)
  assumption
  clear_value x10
  with_reducible apply Keeps.after (modSuspect_keeps _ _ _ _ _)
  assumption

theorem startWaiting_keeps (s) (p) (i) : Keeps s (startWaiting s p i) := by
  unfold startWaiting
  with_reducible apply Keeps.foldl (fun z0 _ => ?_) ?_
  exact Keeps.refl _
  with_reducible apply Keeps.ite
  split
  with_reducible apply Keeps.after (startCheckOf_keeps _ _ _ _)
  exact Keeps.refl _
  exact Keeps.refl _
  exact Keeps.refl _

theorem goEval_keeps (s) (p) (i) : Keeps s (goEval s p i) := by
  unfold goEval
  lift_lets
  intro x0
  subst x0
  with_reducible apply Keeps.after (evalGo_keeps _ _ _ _)
  with_reducible apply Keeps.after (modSlot_keeps _ _ _ _)
  exact Keeps.refl _

theorem releaseRanges_keeps (s) (p) (i) : Keeps s (releaseRanges s p i) := by
  unfold releaseRanges
  with_reducible apply Keeps.after (modCl_keeps _ _ _)
  exact Keeps.refl _

theorem closeStep_keeps (s) (p) (i) : Keeps s (closeStep s p i) := by
  unfold closeStep
  lift_lets
  intro x0
  subst x0
  intro x1
  subst x1
  intro x2
  subst x2
  with_reducible apply Keeps.ite
  exact Keeps.refl _
  split
  with_reducible apply Keeps.ite
  exact Keeps.refl _
  with_reducible apply Keeps.after (setStep_keeps _ _ _ _)
  with_reducible apply Keeps.after (modSlot_keeps _ _ _ _)
  exact Keeps.refl _
  lift_lets
  intro x3
  refine Keeps.bindLet (s := s) (x := x3) ?_ (fun h4 => ?_)
  subst x3
  with_reducible apply Keeps.after (State.write_keeps _ _ _ _)
  exact Keeps.refl _
  clear_value x3
  intro x5
  refine Keeps.bindLet (s := s) (x := x5) ?_ (fun h6 => ?_)
  subst x5
  with_reducible apply Keeps.after (modCl_keeps _ _ _)
  assumption
  clear_value x5
  intro x7
  refine Keeps.bindLet (s := s) (x := x7) ?_ (fun h8 => ?_)
  subst x7
  with_reducible apply Keeps.after (modSlot_keeps _ _ _ _)
  assumption
  clear_value x7
  intro x9
  refine Keeps.bindLet (s := s) (x := x9) ?_ (fun h10 => ?_)
  subst x9
  with_reducible apply Keeps.after (setStep_keeps _ _ _ _)
  assumption
  clear_value x9
  intro x11
  refine Keeps.bindLet (s := s) (x := x11) ?_ (fun h12 => ?_)
  subst x11
  with_reducible apply Keeps.after (releaseRanges_keeps _ _ _)
  assumption
  clear_value x11
  intro x13
  refine Keeps.bindLet (s := s) (x := x13) ?_ (fun h14 => ?_)
  subst x13
  with_reducible apply Keeps.after (finishOpen_keeps _ _ _ _)
  assumption
  clear_value x13
  with_reducible apply Keeps.after (goEval_keeps _ _ _)
  assumption

theorem commitNoise_keeps (s) (p) (i) : Keeps s (commitNoise s p i) := by
  unfold commitNoise
  lift_lets
  intro x0
  subst x0
  intro x1
  subst x1
  intro x2
  refine Keeps.bindLet (s := s) (x := x2) ?_ (fun h3 => ?_)
  subst x2
  with_reducible apply Keeps.after (modXc_keeps _ _ _)
  exact Keeps.refl _
  clear_value x2
  with_reducible apply Keeps.ite
  assumption
  with_reducible apply Keeps.ite
  with_reducible apply Keeps.after (modSlot_keeps _ _ _ _)
  assumption
  dsimp -zeta only
  dsimp only
  with_reducible apply Keeps.ite
  split
  with_reducible apply Keeps.after (modXc_keeps _ _ _)
  with_reducible apply Keeps.after (modSlot_keeps _ _ _ _)
  with_reducible apply Keeps.after (modSlot_keeps _ _ _ _)
  with_reducible apply Keeps.after (modXc_keeps _ _ _)
  assumption
  with_reducible apply Keeps.after (modSlot_keeps _ _ _ _)
  with_reducible apply Keeps.after (modXc_keeps _ _ _)
  assumption
  with_reducible apply Keeps.after (modSlot_keeps _ _ _ _)
  with_reducible apply Keeps.after (modXc_keeps _ _ _)
  assumption

theorem afterUpdate_keeps (s) (p) (i) : Keeps s (afterUpdate s p i) := by
  unfold afterUpdate
  lift_lets
  intro x0
  subst x0
  intro x1
  refine Keeps.bindLet (s := s) (x := x1) ?_ (fun h2 => ?_)
  subst x1
  with_reducible apply Keeps.after (modCl_keeps _ _ _)
  exact Keeps.refl _
  clear_value x1
  intro x3
  subst x3
  intro x4
  refine Keeps.bindLet (s := s) (x := x4) ?_ (fun h5 => ?_)
  subst x4
  with_reducible apply Keeps.after (dsEach_keeps _ _ _ _)
  assumption
  clear_value x4
  intro x6
  refine Keeps.bindLet (s := s) (x := x6) ?_ (fun h7 => ?_)
  subst x6
  with_reducible apply Keeps.after (commitNoise_keeps _ _ _)
  assumption
  clear_value x6
  with_reducible apply Keeps.after (closeStep_keeps _ _ _)
  with_reducible apply Keeps.after (modSlot_keeps _ _ _ _)
  assumption

theorem openGate_keeps (s) (p) : Keeps s (openGate s p) := by
  unfold openGate
  split
  exact Keeps.refl _
  with_reducible apply Keeps.ite
  exact Keeps.refl _
  lift_lets
  intro x0
  subst x0
  intro x1
  refine Keeps.bindLet (s := s) (x := x1) ?_ (fun h2 => ?_)
  subst x1
  with_reducible apply Keeps.after (modSlot_keeps _ _ _ _)
  exact Keeps.refl _
  clear_value x1
  intro x3
  subst x3
  intro x4
  refine Keeps.bindLet (s := s) (x := x4) ?_ (fun h5 => ?_)
  subst x4
  with_reducible apply Keeps.after (modCl_keeps _ _ _)
  assumption
  clear_value x4
  intro x6
  refine Keeps.bindLet (s := s) (x := x6) ?_ (fun h7 => ?_)
  subst x6
  with_reducible apply Keeps.foldl (fun z8 _ => ?_) ?_
  assumption
  with_reducible apply Keeps.after (State.modCore_keeps _ _ _)
  exact Keeps.refl _
  clear_value x6
  with_reducible apply Keeps.ite
  with_reducible apply Keeps.after (afterUpdate_keeps _ _ _)
  assumption
  assumption

theorem passStep_keeps (s) (p) (i) (es) : Keeps s (passStep s p i es) := by
  unfold passStep
  lift_lets
  intro x0
  subst x0
  intro x1
  subst x1
  intro x2
  subst x2
  intro x3
  subst x3
  intro x4
  subst x4
  intro x5
  refine Keeps.bindLet (s := s) (x := x5) ?_ (fun h6 => ?_)
  subst x5
  with_reducible apply Keeps.after (modSlot_keeps _ _ _ _)
  exact Keeps.refl _
  clear_value x5
  with_reducible apply Keeps.after (openGate_keeps _ _)
  assumption

theorem judged_keeps (s) (p) (i) : Keeps s (judged s p i) := by
  unfold judged
  with_reducible apply Keeps.ite
  exact Keeps.refl _
  with_reducible apply Keeps.after (setStep_keeps _ _ _ _)
  exact Keeps.refl _

theorem formVerdict_keeps (s) (p) (i) (es) : Keeps s (formVerdict s p i es) := by
  unfold formVerdict
  lift_lets
  intro x0
  subst x0
  intro x1
  subst x1
  intro x2
  refine Keeps.bindLet (s := s) (x := x2) ?_ (fun h3 => ?_)
  subst x2
  with_reducible apply Keeps.after (judged_keeps _ _ _)
  exact Keeps.refl _
  clear_value x2
  intro x4
  subst x4
  with_reducible apply Keeps.ite
  with_reducible apply Keeps.after (failStep_keeps _ _ _ _)
  assumption
  with_reducible apply Keeps.ite
  with_reducible apply Keeps.after (failStep_keeps _ _ _ _)
  assumption
  with_reducible apply Keeps.after (passStep_keeps _ _ _ _)
  assumption

theorem readMail_keeps (s) (p) (i) : Keeps s (readMail s p i) := by
  unfold readMail
  lift_lets
  intro x0
  subst x0
  intro x1
  subst x1
  with_reducible apply Keeps.ite
  exact Keeps.refl _
  with_reducible apply Keeps.ite
  with_reducible apply Keeps.after (failStep_keeps _ _ _ _)
  with_reducible apply Keeps.ite
  with_reducible apply Keeps.after (sendEntry_keeps _ _ _ _)
  exact Keeps.refl _
  exact Keeps.refl _
  with_reducible apply Keeps.ite
  with_reducible apply Keeps.after (formVerdict_keeps _ _ _ _)
  exact Keeps.refl _
  exact Keeps.refl _

theorem curePass_keeps (s) (p) : Keeps s (curePass s p) := by
  unfold curePass
  with_reducible apply Keeps.after (State.modPart_keeps _ _ _)
  exact Keeps.refl _

theorem joinPass_keeps (s) (p) : Keeps s (joinPass s p) := by
  unfold joinPass
  lift_lets
  intro x0
  subst x0
  intro x1
  subst x1
  intro x2
  subst x2
  with_reducible apply Keeps.ite
  with_reducible apply Keeps.after (curePass_keeps _ _)
  exact Keeps.refl _
  exact Keeps.refl _

theorem failOwn_keeps (s) (p) (i) (fixed) : Keeps s (failOwn s p i fixed) := by
  unfold failOwn
  with_reducible apply Keeps.ite
  with_reducible apply Keeps.after (haltStep_keeps _ _ _ _)
  exact Keeps.refl _
  with_reducible apply Keeps.ite
  with_reducible apply Keeps.ite
  lift_lets
  intro x0
  refine Keeps.bindLet (s := s) (x := x0) ?_ (fun h1 => ?_)
  subst x0
  with_reducible apply Keeps.after (modSlot_keeps _ _ _ _)
  with_reducible apply Keeps.after (judged_keeps _ _ _)
  exact Keeps.refl _
  clear_value x0
  with_reducible apply Keeps.ite
  with_reducible apply Keeps.after (curePass_keeps _ _)
  assumption
  assumption
  with_reducible apply Keeps.after (haltStep_keeps _ _ _ _)
  exact Keeps.refl _
  with_reducible apply Keeps.after (failStep_keeps _ _ _ _)
  exact Keeps.refl _

theorem tryEntry_keeps (s) (p) (i) : Keeps s (tryEntry s p i) := by
  unfold tryEntry
  lift_lets
  intro x0
  subst x0
  intro x1
  refine Keeps.bindLet (s := s) (x := x1) ?_ (fun h2 => ?_)
  subst x1
  with_reducible apply Keeps.after (sendEntry_keeps _ _ _ _)
  exact Keeps.refl _
  clear_value x1
  with_reducible apply Keeps.ite
  with_reducible apply Keeps.ite
  with_reducible apply Keeps.after (haltStep_keeps _ _ _ _)
  assumption
  with_reducible apply Keeps.ite
  with_reducible apply Keeps.after (haltStep_keeps _ _ _ _)
  assumption
  with_reducible apply Keeps.ite
  with_reducible apply Keeps.after (failOwn_keeps _ _ _ _)
  with_reducible apply Keeps.after (judged_keeps _ _ _)
  assumption
  with_reducible apply Keeps.after (readMail_keeps _ _ _)
  assumption
  exact Keeps.refl _

theorem checkStep_keeps (s) (p) (i) : Keeps s (checkStep s p i) := by
  unfold checkStep
  lift_lets
  intro x0
  subst x0
  intro x1
  subst x1
  intro x2
  subst x2
  intro x3
  subst x3
  intro x4
  refine Keeps.bindLet (s := s) (x := x4) ?_ (fun h5 => ?_)
  subst x4
  with_reducible apply Keeps.after (modSlot_keeps _ _ _ _)
  exact Keeps.refl _
  clear_value x4
  intro x6
  refine Keeps.bindLet (s := s) (x := x6) ?_ (fun h7 => ?_)
  subst x6
  with_reducible apply Keeps.ite
  with_reducible apply Keeps.after (found_keeps _ _ _ _ _)
  assumption
  assumption
  clear_value x6
  intro x8
  refine Keeps.bindLet (s := s) (x := x8) ?_ (fun h9 => ?_)
  subst x8
  with_reducible apply Keeps.ite
  with_reducible apply Keeps.after (found_keeps _ _ _ _ _)
  assumption
  assumption
  clear_value x8
  intro x10
  refine Keeps.bindLet (s := s) (x := x10) ?_ (fun h11 => ?_)
  subst x10
  with_reducible apply Keeps.ite
  with_reducible apply Keeps.after (found_keeps _ _ _ _ _)
  assumption
  assumption
  clear_value x10
  intro x12
  refine Keeps.bindLet (s := s) (x := x12) ?_ (fun h13 => ?_)
  subst x12
  with_reducible apply Keeps.after (sendEntry_keeps _ _ _ _)
  assumption
  clear_value x12
  with_reducible apply Keeps.ite
  exact Keeps.refl _
  with_reducible apply Keeps.ite
  with_reducible apply Keeps.after (failOwn_keeps _ _ _ _)
  assumption
  with_reducible apply Keeps.after (tryEntry_keeps _ _ _)
  with_reducible apply Keeps.after (startWaiting_keeps _ _ _)
  assumption

theorem earlyFault_keeps (s) (p) (i) : Keeps s (earlyFault s p i) := by
  unfold earlyFault
  lift_lets
  intro x0
  subst x0
  with_reducible apply Keeps.ite
  with_reducible apply Keeps.after (failStep_keeps _ _ _ _)
  with_reducible apply Keeps.after (sendEntry_keeps _ _ _ _)
  with_reducible apply Keeps.after (found_keeps _ _ _ _ _)
  exact Keeps.refl _
  exact Keeps.refl _

theorem tryReduced_keeps (s) (p) (i) : Keeps s (tryReduced s p i) := by
  unfold tryReduced
  lift_lets
  intro x0
  subst x0
  intro x1
  subst x1
  intro x2
  refine Keeps.bindLet (s := s) (x := x2) ?_ (fun h3 => ?_)
  subst x2
  with_reducible apply Keeps.after (modSlot_keeps _ _ _ _)
  exact Keeps.refl _
  clear_value x2
  with_reducible apply Keeps.ite
  with_reducible apply Keeps.ite
  assumption
  with_reducible apply Keeps.after (setStep_keeps _ _ _ _)
  assumption
  exact Keeps.refl _

theorem actUpFault_keeps (s) (p) : Keeps s (actUpFault s p) := by
  unfold actUpFault
  split
  dsimp only
  with_reducible apply Keeps.ite
  with_reducible apply Keeps.after (finishOpen_keeps _ _ _ _)
  with_reducible apply Keeps.after (setStep_keeps _ _ _ _)
  with_reducible apply Keeps.after (modSlot_keeps _ _ _ _)
  with_reducible apply Keeps.after (addCause_keeps _ _ _ _)
  with_reducible apply Keeps.foldl (fun z0 _ => ?_) ?_
  with_reducible apply Keeps.after (modCl_keeps _ _ _)
  exact Keeps.refl _
  with_reducible apply Keeps.after (haltCore_keeps _ _)
  exact Keeps.refl _
  exact Keeps.refl _
  exact Keeps.refl _

theorem lookAgain_keeps (s) (p) : Keeps s (lookAgain s p) := by
  unfold lookAgain
  with_reducible apply Keeps.ite
  exact Keeps.refl _
  lift_lets
  intro x0
  refine Keeps.bindLet (s := s) (x := x0) ?_ (fun h1 => ?_)
  subst x0
  with_reducible apply Keeps.after (joinPass_keeps _ _)
  with_reducible apply Keeps.after (releaseDue_keeps _ _)
  with_reducible apply Keeps.after (actUpFault_keeps _ _)
  exact Keeps.refl _
  clear_value x0
  intro x2
  refine Keeps.bindLet (s := s) (x := x2) ?_ (fun h3 => ?_)
  subst x2
  with_reducible apply Keeps.after (startWaiting_keeps _ _ _)
  with_reducible apply Keeps.after (startWaiting_keeps _ _ _)
  assumption
  clear_value x2
  split
  assumption
  lift_lets
  intro x4
  refine Keeps.bindLet (s := s) (x := x4) ?_ (fun h5 => ?_)
  subst x4
  with_reducible apply Keeps.after (replayOn_keeps _ _ _)
  assumption
  clear_value x4
  intro x6
  refine Keeps.bindLet (s := s) (x := x6) ?_ (fun h7 => ?_)
  subst x6
  with_reducible apply Keeps.after (earlyFault_keeps _ _ _)
  assumption
  clear_value x6
  intro x8
  refine Keeps.bindLet (s := s) (x := x8) ?_ (fun h9 => ?_)
  subst x8
  with_reducible apply Keeps.after (tryReduced_keeps _ _ _)
  assumption
  clear_value x8
  intro x10
  refine Keeps.bindLet (s := s) (x := x10) ?_ (fun h11 => ?_)
  subst x10
  with_reducible apply Keeps.after (checkStep_keeps _ _ _)
  assumption
  clear_value x10
  intro x12
  refine Keeps.bindLet (s := s) (x := x12) ?_ (fun h13 => ?_)
  subst x12
  with_reducible apply Keeps.after (tryEntry_keeps _ _ _)
  assumption
  clear_value x12
  with_reducible apply Keeps.after (readMail_keeps _ _ _)
  assumption

theorem coreFaulted_keeps (s) (c) (gated) : Keeps s (coreFaulted s c gated) := by
  unfold coreFaulted
  lift_lets
  intro x0
  refine Keeps.bindLet (s := s) (x := x0) ?_ (fun h1 => ?_)
  subst x0
  with_reducible apply Keeps.after (State.modCore_keeps _ _ _)
  exact Keeps.refl _
  clear_value x0
  split
  assumption
  lift_lets
  intro x2
  subst x2
  intro x3
  refine Keeps.bindLet (s := s) (x := x3) ?_ (fun h4 => ?_)
  subst x3
  with_reducible apply Keeps.ite
  with_reducible apply Keeps.after (modCl_keeps _ _ _)
  assumption
  assumption
  clear_value x3
  intro x5
  refine Keeps.bindLet (s := s) (x := x5) ?_ (fun h6 => ?_)
  subst x5
  with_reducible apply Keeps.after (actUpFault_keeps _ _)
  assumption
  clear_value x5
  with_reducible apply Keeps.ite
  assumption
  split
  with_reducible apply Keeps.after (earlyFault_keeps _ _ _)
  assumption
  assumption

theorem takeSig_keeps (s c role) : ∀ t, takeSig s c role = some t → Keeps s t.2 := by
  intro t h
  unfold takeSig at h
  split at h
  · cases h; exact Keeps.snd (State.modCore_keeps _ _ _)
  · cases h

theorem execDoneSignal_keeps (c) (s) : Goes s (execDoneSignal c s) := by
  unfold execDoneSignal
  with_reducible apply Goes.next
  split
  dsimp only
  with_reducible apply Keeps.ite
  with_reducible apply Keeps.ite
  with_reducible apply Keeps.after (tryReduced_keeps _ _ _)
  with_reducible apply Keeps.after (modSlot_keeps _ _ _ _)
  refine Keeps.trans ?_ (takeSig_keeps _ _ _ _ (by assumption))
  exact Keeps.refl _
  with_reducible apply Keeps.after (checkStep_keeps _ _ _)
  with_reducible apply Keeps.after (startWaiting_keeps _ _ _)
  with_reducible apply Keeps.after (releaseDue_keeps _ _)
  with_reducible apply Keeps.after (tryReduced_keeps _ _ _)
  with_reducible apply Keeps.after (modSlot_keeps _ _ _ _)
  refine Keeps.trans ?_ (takeSig_keeps _ _ _ _ (by assumption))
  exact Keeps.refl _
  refine Keeps.trans ?_ (takeSig_keeps _ _ _ _ (by assumption))
  exact Keeps.refl _
  exact Keeps.refl _

theorem execDigestComplete_keeps (p) (s) : Goes s (execDigestComplete p s) := by
  unfold execDigestComplete
  with_reducible apply Goes.next
  split
  exact Keeps.refl _
  with_reducible apply Keeps.ite
  lift_lets
  intro x0
  subst x0
  intro x1
  refine Keeps.bindLet (s := s) (x := x1) ?_ (fun h2 => ?_)
  subst x1
  with_reducible apply Keeps.after (modSlot_keeps _ _ _ _)
  exact Keeps.refl _
  clear_value x1
  with_reducible apply Keeps.after (tryEntry_keeps _ _ _)
  with_reducible apply Keeps.ite
  with_reducible apply Keeps.after (found_keeps _ _ _ _ _)
  assumption
  assumption
  exact Keeps.refl _

theorem compareBuddy_keeps (s) (p) (i) (c) (b) : Keeps s (compareBuddy s p i c b) := by
  unfold compareBuddy
  with_reducible apply Keeps.ite
  with_reducible apply Keeps.after (suspectFails_keeps _ _ _ _)
  exact Keeps.refl _
  lift_lets
  intro x0
  subst x0
  intro x1
  subst x1
  intro x2
  refine Keeps.bindLet (s := s) (x := x2) ?_ (fun h3 => ?_)
  subst x2
  with_reducible apply Keeps.after (suspectFails_keeps _ _ _ _)
  exact Keeps.refl _
  clear_value x2
  with_reducible apply Keeps.ite
  with_reducible apply Keeps.after (modSuspect_keeps _ _ _ _ _)
  exact Keeps.refl _
  with_reducible apply Keeps.ite
  with_reducible apply Keeps.after (addFailure_keeps _ _ _)
  with_reducible apply Keeps.after (failStep_keeps _ _ _ _)
  with_reducible apply Keeps.after (sendEntry_keeps _ _ _ _)
  assumption
  with_reducible apply Keeps.after (addFailure_keeps _ _ _)
  assumption

theorem lateCheck_keeps (s) (p) (i) : Keeps s (lateCheck s p i) := by
  unfold lateCheck
  lift_lets
  intro x0
  subst x0
  with_reducible apply Keeps.ite
  with_reducible apply Keeps.after (failStep_keeps _ _ _ _)
  with_reducible apply Keeps.after (sendEntry_keeps _ _ _ _)
  exact Keeps.refl _
  with_reducible apply Keeps.after (tryEntry_keeps _ _ _)
  exact Keeps.refl _

theorem execBuddyHalt_keeps (b) (s) : Goes s (execBuddyHalt b s) := by
  unfold execBuddyHalt
  with_reducible apply Goes.next
  split
  exact Keeps.refl _
  with_reducible apply Keeps.ite
  exact Keeps.refl _
  with_reducible apply Keeps.foldl (fun z0 _ => ?_) ?_
  exact Keeps.refl _
  split
  split
  with_reducible apply Keeps.after (lateCheck_keeps _ _ _)
  with_reducible apply Keeps.after (compareBuddy_keeps _ _ _ _ _)
  exact Keeps.refl _
  exact Keeps.refl _
  exact Keeps.refl _

theorem execSuspectTimeout_keeps (c) (s) : Goes s (execSuspectTimeout c s) := by
  unfold execSuspectTimeout
  with_reducible apply Goes.next
  split
  exact Keeps.refl _
  with_reducible apply Keeps.foldl (fun z0 _ => ?_) ?_
  exact Keeps.refl _
  lift_lets
  intro x1
  subst x1
  split
  dsimp only
  with_reducible apply Keeps.ite
  exact Keeps.refl _
  with_reducible apply Keeps.after (lateCheck_keeps _ _ _)
  with_reducible apply Keeps.after (suspectFails_keeps _ _ _ _)
  split
  with_reducible apply Keeps.after (haltCore_keeps _ _)
  exact Keeps.refl _
  exact Keeps.refl _
  exact Keeps.refl _

theorem execCloseTimeout_keeps (p) (s) : Goes s (execCloseTimeout p s) := by
  unfold execCloseTimeout
  with_reducible apply Goes.next
  split
  exact Keeps.refl _
  lift_lets
  intro x0
  subst x0
  with_reducible apply Keeps.ite
  with_reducible apply Keeps.after (failStep_keeps _ _ _ _)
  exact Keeps.refl _
  exact Keeps.refl _

theorem execUpdDoneSignal_keeps (c) (s) : Goes s (execUpdDoneSignal c s) := by
  unfold execUpdDoneSignal
  with_reducible apply Goes.next
  split
  split
  refine Keeps.trans ?_ (takeSig_keeps _ _ _ _ (by assumption))
  exact Keeps.refl _
  lift_lets
  intro x0
  refine Keeps.bindLet (s := s) (x := x0) ?_ (fun h1 => ?_)
  subst x0
  with_reducible apply Keeps.after (modCl_keeps _ _ _)
  refine Keeps.trans ?_ (takeSig_keeps _ _ _ _ (by assumption))
  exact Keeps.refl _
  clear_value x0
  with_reducible apply Keeps.ite
  with_reducible apply Keeps.after (afterUpdate_keeps _ _ _)
  assumption
  assumption
  exact Keeps.refl _

theorem applyMNext_keeps (s) (p) : Keeps s (applyMNext s p) := by
  unfold applyMNext
  lift_lets
  intro x0
  subst x0
  split
  exact Keeps.refl _
  lift_lets
  intro x1
  refine Keeps.bindLet (s := s) (x := x1) ?_ (fun h2 => ?_)
  subst x1
  with_reducible apply Keeps.ite
  with_reducible apply Keeps.foldl (fun z3 _ => ?_) ?_
  exact Keeps.refl _
  with_reducible apply Keeps.after (writeCount_keeps _ _ _ _)
  exact Keeps.refl _
  exact Keeps.refl _
  clear_value x1
  with_reducible apply Keeps.after (modXc_keeps _ _ _)
  assumption

theorem startPass_keeps (s) (p) (k) : Keeps s (startPass s p k) := by
  unfold startPass
  with_reducible apply Keeps.ite
  with_reducible apply Keeps.after (State.modPart_keeps _ _ _)
  exact Keeps.refl _
  exact Keeps.refl _

theorem commitSignal_keeps (s) (p) : Keeps s (commitSignal s p) := by
  unfold commitSignal
  lift_lets
  intro x0
  refine Keeps.bindLet (s := s) (x := x0) ?_ (fun h1 => ?_)
  subst x0
  with_reducible apply Keeps.ite
  with_reducible apply Keeps.after (applyMNext_keeps _ _)
  exact Keeps.refl _
  exact Keeps.refl _
  clear_value x0
  intro x2
  refine Keeps.bindLet (s := s) (x := x2) ?_ (fun h3 => ?_)
  subst x2
  with_reducible apply Keeps.foldl (fun z4 _ => ?_) ?_
  assumption
  lift_lets
  intro x5
  subst x5
  intro x6
  refine Keeps.bindLet (s := z4) (x := x6) ?_ (fun h7 => ?_)
  subst x6
  with_reducible apply Keeps.ite
  with_reducible apply Keeps.after (modXc_keeps _ _ _)
  exact Keeps.refl _
  exact Keeps.refl _
  clear_value x6
  intro x8
  refine Keeps.bindLet (s := z4) (x := x8) ?_ (fun h9 => ?_)
  subst x8
  with_reducible apply Keeps.after (modXc_keeps _ _ _)
  assumption
  clear_value x8
  intro x10
  refine Keeps.bindLet (s := z4) (x := x10) ?_ (fun h11 => ?_)
  subst x10
  with_reducible apply Keeps.after (setStep_keeps _ _ _ _)
  assumption
  clear_value x10
  with_reducible apply Keeps.ite
  with_reducible apply Keeps.after (startPass_keeps _ _ _)
  with_reducible apply Keeps.after (modSlot_keeps _ _ _ _)
  assumption
  exact Keeps.refl _
  clear_value x2
  intro x12
  refine Keeps.bindLet (s := s) (x := x12) ?_ (fun h13 => ?_)
  subst x12
  with_reducible apply Keeps.foldl (fun z14 _ => ?_) ?_
  assumption
  with_reducible apply Keeps.after (fwSignal_keeps _ _ _ _)
  exact Keeps.refl _
  clear_value x12
  with_reducible apply Keeps.after (openGate_keeps _ _)
  with_reducible apply Keeps.after (lookAgain_keeps _ _)
  with_reducible apply Keeps.after (modCl_keeps _ _ _)
  assumption

theorem pollStep_keeps (s) (p) : Keeps s (pollStep s p) := by
  unfold pollStep
  lift_lets
  intro x0
  refine Keeps.bindLet (s := s) (x := x0) ?_ (fun h1 => ?_)
  subst x0
  split
  with_reducible apply Keeps.ite
  with_reducible apply Keeps.after (afterUpdate_keeps _ _ _)
  exact Keeps.refl _
  exact Keeps.refl _
  exact Keeps.refl _
  with_reducible apply Keeps.ite
  clear_value x0
  with_reducible apply Keeps.after (commitSignal_keeps _ _)
  assumption
  clear_value x0
  with_reducible apply Keeps.after (lookAgain_keeps _ _)
  assumption

theorem execMailboxPoll_keeps (p s) : Goes s (execMailboxPoll p s) := by
  unfold execMailboxPoll
  with_reducible apply Goes.next
  with_reducible apply Keeps.ite
  with_reducible apply Keeps.after (pollStep_keeps _ _)
  exact Keeps.refl _
  exact Keeps.refl _

theorem resumeClosure_keeps (t) (s) (p) : Keeps s (resumeClosure t s p) := by
  unfold resumeClosure
  lift_lets
  intro x0
  subst x0
  intro x1
  refine Keeps.bindLet (s := s) (x := x1) ?_ (fun h2 => ?_)
  subst x1
  with_reducible apply Keeps.foldl (fun z3 _ => ?_) ?_
  exact Keeps.refl _
  with_reducible apply Keeps.after (modSlot_keeps _ _ _ _)
  exact Keeps.refl _
  clear_value x1
  intro x4
  refine Keeps.bindLet (s := s) (x := x4) ?_ (fun h5 => ?_)
  subst x4
  split
  dsimp only
  with_reducible apply Keeps.ite
  with_reducible apply Keeps.after (modSlot_keeps _ _ _ _)
  with_reducible apply Keeps.foldl (fun z6 _ => ?_) ?_
  assumption
  with_reducible apply Keeps.after (haltCore_keeps _ _)
  exact Keeps.refl _
  assumption
  assumption
  clear_value x4
  with_reducible apply Keeps.ite
  with_reducible apply Keeps.after (pollStep_keeps _ _)
  assumption
  assumption

theorem execEvalDoneSignal_keeps (c) (s) : Goes s (execEvalDoneSignal c s) := by
  unfold execEvalDoneSignal
  with_reducible apply Goes.next
  split
  lift_lets
  intro x0
  refine Keeps.bindLet (s := s) (x := x0) ?_ (fun h1 => ?_)
  subst x0
  with_reducible apply Keeps.after (modCl_keeps _ _ _)
  refine Keeps.trans ?_ (takeSig_keeps _ _ _ _ (by assumption))
  exact Keeps.refl _
  clear_value x0
  with_reducible apply Keeps.ite
  with_reducible apply Keeps.after (commitSignal_keeps _ _)
  assumption
  assumption
  exact Keeps.refl _

theorem execInstructionFault_keeps (c) (e) (k) (code) (gap) (s) : Goes s (execInstructionFault c e k code gap s) := by
  unfold execInstructionFault
  with_reducible apply onCore_keeps _ _ _ _ (fun z0 => ?_)
  split
  exact Keeps.refl _
  with_reducible apply Keeps.ite
  with_reducible apply Keeps.after (faultHead_keeps _ _ _ _ _)
  with_reducible apply Keeps.after (dropFlights_keeps _ _ _ _)
  exact Keeps.refl _
  exact Keeps.refl _

end Sys2Proof.Machine
end

