-- ==== Sys2Proof/Laws/KeepsPower.lean ====
section
/-! SUPPORT. One lemma per operation: it keeps what the state must keep. Here: power, clocks, service, security, management, telemetry and the fingerprint. -/

namespace Sys2Proof.Machine

/-! ### Power -/

theorem sendAvs_keeps (s) (key) (mv) : Keeps s (sendAvs s key mv) := by
  unfold sendAvs
  with_reducible apply Keeps.after (State.modPw_keeps _ _)
  exact Keeps.refl _

theorem writeVlog_keeps (s) (mv) : Keeps s (writeVlog s mv) := by
  unfold writeVlog
  with_reducible apply Keeps.after (sendAvs_keeps _ _ _)
  with_reducible apply Keeps.after (State.modPw_keeps _ _)
  exact Keeps.refl _

theorem raiseVlog_keeps (s) (goal) : Keeps s (raiseVlog s goal) := by
  unfold raiseVlog
  with_reducible apply Keeps.foldl (fun z0 _ => ?_) ?_
  exact Keeps.refl _
  with_reducible apply Keeps.after (writeVlog_keeps _ _)
  exact Keeps.refl _

theorem execLimCtrlCommit_keeps (w) (epoch) (s) : Goes s (execLimCtrlCommit w epoch s) := by
  unfold execLimCtrlCommit
  with_reducible apply Goes.next
  split
  exact Keeps.refl _
  lift_lets
  intro x0
  subst x0
  intro x1
  refine Keeps.bindLet (s := s) (x := x1) ?_ (fun h2 => ?_)
  subst x1
  with_reducible apply Keeps.after (State.modPw_keeps _ _)
  exact Keeps.refl _
  clear_value x1
  with_reducible apply Keeps.ite
  with_reducible apply Keeps.after (standDown_keeps _ _)
  with_reducible apply Keeps.after (State.modPw_keeps _ _)
  assumption
  with_reducible apply Keeps.ite
  with_reducible apply Keeps.after (State.modPw_keeps _ _)
  assumption
  with_reducible apply Keeps.after (State.modPw_keeps _ _)
  assumption

theorem execLimitsApply_keeps (s) : Goes s (execLimitsApply s) := by
  unfold execLimitsApply
  with_reducible apply Goes.next
  split
  with_reducible apply Keeps.ite
  with_reducible apply Keeps.after (limitsTook_keeps _)
  with_reducible apply Keeps.after (State.modPw_keeps _ _)
  exact Keeps.refl _
  exact Keeps.refl _
  exact Keeps.refl _

theorem execLimFlush_keeps (w) (epoch) (stop) (s) : Goes s (execLimFlush w epoch stop s) := by
  unfold execLimFlush
  with_reducible apply Goes.next
  split
  exact Keeps.refl _
  lift_lets
  intro x0
  subst x0
  intro x1
  refine Keeps.bindLet (s := s) (x := x1) ?_ (fun h2 => ?_)
  subst x1
  with_reducible apply Keeps.after (State.modPw_keeps _ _)
  exact Keeps.refl _
  clear_value x1
  with_reducible apply Keeps.ite
  with_reducible apply Keeps.after (State.modPw_keeps _ _)
  assumption
  assumption

theorem execPcSns_keeps (n) (mask) (s) : Goes s (execPcSns n mask s) := by
  unfold execPcSns
  with_reducible apply Goes.next
  with_reducible apply Keeps.ite
  exact Keeps.refl _
  with_reducible apply Keeps.after (State.modPw_keeps _ _)
  exact Keeps.refl _

theorem execPointMaskApply_keeps (n) (s) : Goes s (execPointMaskApply n s) := by
  unfold execPointMaskApply
  with_reducible apply Goes.next
  split
  with_reducible apply Keeps.ite
  with_reducible apply Keeps.after (State.modPw_keeps _ _)
  exact Keeps.refl _
  exact Keeps.refl _
  exact Keeps.refl _

theorem skipFor_keeps (s) (cycles) : Keeps s (skipFor s cycles) := by
  unfold skipFor
  lift_lets
  intro x0
  subst x0
  intro x1
  subst x1
  with_reducible apply Keeps.after (State.modPw_keeps _ _)
  exact Keeps.refl _

theorem execDroopTrip_keeps (d) (mv) (cycles) (s) : Goes s (execDroopTrip d mv cycles s) := by
  unfold execDroopTrip
  with_reducible apply Goes.next
  with_reducible apply Keeps.ite
  with_reducible apply Keeps.after (skipFor_keeps _ _)
  with_reducible apply Keeps.after (State.modPw_keeps _ _)
  exact Keeps.refl _
  exact Keeps.refl _

theorem execAvsWriteTimeout_keeps (bus) (sel) (s) : Goes s (execAvsWriteTimeout bus sel s) := by
  unfold execAvsWriteTimeout
  with_reducible apply Goes.next
  split
  exact Keeps.refl _
  lift_lets
  intro x0
  subst x0
  with_reducible apply Keeps.ite
  with_reducible apply Keeps.after (State.modPw_keeps _ _)
  exact Keeps.refl _
  with_reducible apply Keeps.after (record_keeps _ _ _ _ _)
  with_reducible apply Keeps.after (sendAvs_keeps _ _ _)
  with_reducible apply Keeps.after (State.modPw_keeps _ _)
  exact Keeps.refl _

theorem execVoltageCorrection_keeps (lowest) (s) : Goes s (execVoltageCorrection lowest s) := by
  unfold execVoltageCorrection
  lift_lets
  intro x0
  subst x0
  intro x1
  subst x1
  intro x2
  subst x2
  intro x3
  refine Keeps.bindLet (s := s) (x := x3) ?_ (fun h4 => ?_)
  subst x3
  with_reducible apply Keeps.after (State.modPw_keeps _ _)
  exact Keeps.refl _
  clear_value x3
  with_reducible apply Goes.next
  with_reducible apply Keeps.ite
  assumption
  with_reducible apply Keeps.after (writeVlog_keeps _ _)
  assumption

theorem execPmbusPoll_keeps (reads) (s) : Goes s (execPmbusPoll reads s) := by
  unfold execPmbusPoll
  with_reducible apply Goes.next
  with_reducible apply Keeps.ite
  exact Keeps.refl _
  with_reducible apply Keeps.after (State.modPw_keeps _ _)
  exact Keeps.refl _

theorem execCalibrationTick_keeps (est) (s) : Goes s (execCalibrationTick est s) := by
  unfold execCalibrationTick
  lift_lets
  intro x0
  subst x0
  intro x1
  subst x1
  intro x2
  subst x2
  with_reducible apply Goes.next
  with_reducible apply Keeps.after (State.modPw_keeps _ _)
  exact Keeps.refl _

theorem visitStep_keeps (s) (c) (w) : Keeps s (visitStep s c w) := by
  unfold visitStep
  lift_lets
  intro x0
  subst x0
  intro x1
  subst x1
  intro x2
  subst x2
  intro x3
  refine Keeps.bindLet (s := s) (x := x3) ?_ (fun h4 => ?_)
  subst x3
  with_reducible apply Keeps.ite
  exact Keeps.refl _
  with_reducible apply Keeps.after (State.modPw_keeps _ _)
  exact Keeps.refl _
  clear_value x3
  with_reducible apply Keeps.after (State.modPw_keeps _ _)
  assumption

theorem fillBuckets_keeps (s) (spent) : Keeps s (fillBuckets s spent) := by
  unfold fillBuckets
  with_reducible apply Keeps.after (State.modPw_keeps _ _)
  exact Keeps.refl _

theorem judgeTrips_keeps (s) : Keeps s (judgeTrips s) := by
  unfold judgeTrips
  lift_lets
  intro x0
  subst x0
  with_reducible apply Keeps.after (State.modPw_keeps _ _)
  exact Keeps.refl _

theorem execEstimatorTick_keeps (rails) (matrix) (demand) (slots) (s) : Goes s (execEstimatorTick rails matrix demand slots s) := by
  unfold execEstimatorTick
  lift_lets
  intro x0
  subst x0
  intro x1
  subst x1
  intro x2
  subst x2
  intro x3
  subst x3
  intro x4
  subst x4
  intro x5
  subst x5
  intro x6
  subst x6
  intro x7
  subst x7
  intro x8
  subst x8
  intro x9
  subst x9
  intro x10
  refine Keeps.bindLet (s := s) (x := x10) ?_ (fun h11 => ?_)
  subst x10
  with_reducible apply Keeps.after (State.modPw_keeps _ _)
  exact Keeps.refl _
  clear_value x10
  intro x12
  refine Keeps.bindLet (s := s) (x := x12) ?_ (fun h13 => ?_)
  subst x12
  with_reducible apply Keeps.after (judgeTrips_keeps _)
  with_reducible apply Keeps.ite
  with_reducible apply Keeps.after (skipFor_keeps _ _)
  assumption
  assumption
  clear_value x12
  intro x14
  refine Keeps.bindLet (s := s) (x := x14) ?_ (fun h15 => ?_)
  subst x14
  with_reducible apply Keeps.foldl (fun z16 _ => ?_) ?_
  assumption
  with_reducible apply Keeps.after (visitStep_keeps _ _ _)
  exact Keeps.refl _
  clear_value x14
  intro x17
  subst x17
  intro x18
  refine Keeps.bindLet (s := s) (x := x18) ?_ (fun h19 => ?_)
  subst x18
  with_reducible apply Keeps.ite
  with_reducible apply Keeps.after (State.modPw_keeps _ _)
  assumption
  with_reducible apply Keeps.after (State.modPw_keeps _ _)
  assumption
  clear_value x18
  with_reducible apply Goes.next
  with_reducible apply Keeps.ite
  with_reducible apply Keeps.after (fillBuckets_keeps _ _)
  assumption
  with_reducible apply Keeps.after (State.modPw_keeps _ _)
  assumption

theorem execEasementLoan_keeps (c) (s) : Goes s (execEasementLoan c s) := by
  unfold execEasementLoan
  with_reducible apply Goes.next
  with_reducible apply Keeps.ite
  with_reducible apply Keeps.after (State.modPw_keeps _ _)
  exact Keeps.refl _
  exact Keeps.refl _

theorem armDivider_keeps (s) (p) : Keeps s (armDivider s p) := by
  unfold armDivider
  with_reducible refine Keeps.upd ?_ rfl rfl
  exact Keeps.refl _

theorem startMove_keeps (s) (p) : Keeps s (startMove s p) := by
  unfold startMove
  lift_lets
  intro x0
  subst x0
  intro x1
  subst x1
  intro x2
  refine Keeps.bindLet (s := s) (x := x2) ?_ (fun h3 => ?_)
  subst x2
  with_reducible apply Keeps.after (State.modPw_keeps _ _)
  exact Keeps.refl _
  clear_value x2
  with_reducible apply Keeps.ite
  exact Keeps.refl _
  with_reducible apply Keeps.ite
  with_reducible apply Keeps.after (writeVlog_keeps _ _)
  assumption
  with_reducible apply Keeps.after (armDivider_keeps _ _)
  assumption

theorem setTarget_keeps (s) : Keeps s (setTarget s) := by
  unfold setTarget
  lift_lets
  intro x0
  subst x0
  intro x1
  subst x1
  with_reducible apply Keeps.after (State.modPw_keeps _ _)
  exact Keeps.refl _

theorem decide100_keeps (s) (act) : Keeps s (decide100 s act) := by
  unfold decide100
  lift_lets
  intro x0
  refine Keeps.bindLet (s := s) (x := x0) ?_ (fun h1 => ?_)
  subst x0
  with_reducible apply Keeps.after (setTarget_keeps _)
  with_reducible apply Keeps.after (judgeTrips_keeps _)
  exact Keeps.refl _
  clear_value x0
  with_reducible apply Keeps.ite
  with_reducible apply Keeps.after (startMove_keeps _ _)
  assumption
  assumption

theorem execPowerDecision_keeps (dyn) (sram) (other) (leak) (s) : Goes s (execPowerDecision dyn sram other leak s) := by
  unfold execPowerDecision
  with_reducible apply Goes.next
  with_reducible apply Keeps.ite
  exact Keeps.refl _
  with_reducible apply Keeps.after (decide100_keeps _ _)
  exact Keeps.refl _

theorem execPowerFallback_keeps (dyn) (sram) (other) (leak) (s) : Goes s (execPowerFallback dyn sram other leak s) := by
  unfold execPowerFallback
  with_reducible apply Goes.next
  with_reducible apply Keeps.ite
  exact Keeps.refl _
  lift_lets
  intro x0
  subst x0
  intro x1
  refine Keeps.bindLet (s := s) (x := x1) ?_ (fun h2 => ?_)
  subst x1
  with_reducible apply Keeps.ite
  exact Keeps.refl _
  with_reducible apply Keeps.after (record_keeps _ _ _ _ _)
  with_reducible apply Keeps.after (State.modPw_keeps _ _)
  exact Keeps.refl _
  clear_value x1
  intro x3
  subst x3
  with_reducible apply Keeps.ite
  with_reducible apply Keeps.after (startMove_keeps _ _)
  assumption
  assumption

theorem enterW_keeps (s) (w) : Keeps s (enterW s w) := by
  unfold enterW
  lift_lets
  intro x0
  refine Keeps.bindLet (s := s) (x := x0) ?_ (fun h1 => ?_)
  subst x0
  with_reducible apply Keeps.after (State.modPw_keeps _ _)
  exact Keeps.refl _
  clear_value x0
  intro x2
  refine Keeps.bindLet (s := s) (x := x2) ?_ (fun h3 => ?_)
  subst x2
  with_reducible apply Keeps.after (State.modPw_keeps _ _)
  assumption
  clear_value x2
  intro x4
  subst x4
  intro x5
  refine Keeps.bindLet (s := s) (x := x5) ?_ (fun h6 => ?_)
  subst x5
  with_reducible refine Keeps.upd ?_ rfl rfl
  assumption
  clear_value x5
  intro x7
  subst x7
  with_reducible apply Keeps.ite
  with_reducible apply Keeps.after (writeVlog_keeps _ _)
  assumption
  with_reducible apply Keeps.ite
  with_reducible refine Keeps.upd ?_ rfl rfl
  assumption
  assumption

theorem execWStateEntry_keeps (blocked) (s) : Goes s (execWStateEntry blocked s) := by
  unfold execWStateEntry
  lift_lets
  intro x0
  subst x0
  with_reducible apply Goes.next
  with_reducible apply Keeps.ite
  exact Keeps.refl _
  with_reducible apply Keeps.after (enterW_keeps _ _)
  exact Keeps.refl _

theorem execWake_keeps (cause) (s) : Goes s (execWake cause s) := by
  unfold execWake
  with_reducible apply Goes.next
  with_reducible apply Keeps.ite
  exact Keeps.refl _
  lift_lets
  intro x0
  refine Keeps.bindLet (s := s) (x := x0) ?_ (fun h1 => ?_)
  subst x0
  with_reducible apply Keeps.after (State.modPw_keeps _ _)
  exact Keeps.refl _
  clear_value x0
  intro x2
  subst x2
  with_reducible refine Keeps.upd ?_ rfl rfl
  assumption

theorem coreAfterW4_keeps (s) (c) : Keeps s (coreAfterW4 s c) := by
  unfold coreAfterW4
  with_reducible apply Keeps.after (contextSwitch_keeps _ _)
  with_reducible apply Keeps.clear2
  exact Keeps.refl _

theorem execWStateExitDone_keeps (s) : Goes s (execWStateExitDone s) := by
  unfold execWStateExitDone
  with_reducible apply Goes.next
  with_reducible apply Keeps.ite
  exact Keeps.refl _
  lift_lets
  intro x0
  subst x0
  intro x1
  refine Keeps.bindLet (s := s) (x := x1) ?_ (fun h2 => ?_)
  subst x1
  with_reducible apply Keeps.ite
  with_reducible apply Keeps.foldl (fun z3 _ => ?_) ?_
  exact Keeps.refl _
  with_reducible apply Keeps.after (coreAfterW4_keeps _ _)
  exact Keeps.refl _
  exact Keeps.refl _
  clear_value x1
  intro x4
  subst x4
  intro x5
  refine Keeps.bindLet (s := s) (x := x5) ?_ (fun h6 => ?_)
  subst x5
  with_reducible apply Keeps.after (State.modPw_keeps _ _)
  assumption
  clear_value x5
  intro x7
  subst x7
  intro x8
  refine Keeps.bindLet (s := s) (x := x8) ?_ (fun h9 => ?_)
  subst x8
  with_reducible apply Keeps.upd ?_ rfl rfl
  with_reducible refine Keeps.upd ?_ rfl rfl
  assumption
  clear_value x8
  intro x10
  refine Keeps.bindLet (s := s) (x := x10) ?_ (fun h11 => ?_)
  subst x10
  with_reducible apply Keeps.after (writeVlog_keeps _ _)
  assumption
  clear_value x10
  intro x12
  refine Keeps.bindLet (s := s) (x := x12) ?_ (fun h13 => ?_)
  subst x12
  with_reducible apply Keeps.foldl (fun z14 _ => ?_) ?_
  assumption
  with_reducible apply Keeps.ite
  with_reducible apply Keeps.after (askSwitch_keeps _ _ _)
  exact Keeps.refl _
  exact Keeps.refl _
  clear_value x12
  intro x15
  refine Keeps.bindLet (s := s) (x := x15) ?_ (fun h16 => ?_)
  subst x15
  with_reducible apply Keeps.ite
  with_reducible apply Keeps.after (State.modPw_keeps _ _)
  assumption
  assumption
  clear_value x15
  with_reducible apply Keeps.foldl (fun z17 _ => ?_) ?_
  with_reducible apply Keeps.after (State.modPw_keeps _ _)
  assumption
  with_reducible apply Keeps.after (nextKernel_keeps _ _)
  exact Keeps.refl _

theorem execPortIdleTwoLane_keeps (n) (s) : Goes s (execPortIdleTwoLane n s) := by
  unfold execPortIdleTwoLane
  with_reducible apply Goes.next
  with_reducible apply Keeps.ite
  with_reducible apply Keeps.after (State.modPw_keeps _ _)
  with_reducible apply Keeps.after (askSwitch_keeps _ _ _)
  exact Keeps.refl _
  exact Keeps.refl _

/-! ### Clock -/

theorem State.modClk_keeps (s) (f) : Keeps s (State.modClk s f) := by
  unfold State.modClk
  with_reducible refine Keeps.upd ?_ rfl rfl
  exact Keeps.refl _

theorem State.modTh_keeps (s) (f) : Keeps s (State.modTh s f) := by
  unfold State.modTh
  with_reducible refine Keeps.upd ?_ rfl rfl
  exact Keeps.refl _

theorem execPstepRaise_keeps (lowest) (s) : Goes s (execPstepRaise lowest s) := by
  unfold execPstepRaise
  with_reducible apply Goes.next
  split
  lift_lets
  intro x0
  subst x0
  with_reducible apply Keeps.ite
  with_reducible apply Keeps.after (writeVlog_keeps _ _)
  exact Keeps.refl _
  exact Keeps.refl _
  exact Keeps.refl _

theorem execPstepVerify_keeps (first) (second) (s) : Goes s (execPstepVerify first second s) := by
  unfold execPstepVerify
  with_reducible apply Goes.next
  split
  lift_lets
  intro x0
  subst x0
  with_reducible apply Keeps.ite
  with_reducible apply Keeps.after (armDivider_keeps _ _)
  with_reducible apply Keeps.after (State.modPw_keeps _ _)
  exact Keeps.refl _
  exact Keeps.refl _
  exact Keeps.refl _

theorem rescaleDemand_keeps (s) (old) (new) : Keeps s (rescaleDemand s old new) := by
  unfold rescaleDemand
  with_reducible apply Keeps.after (State.modPw_keeps _ _)
  exact Keeps.refl _

theorem fallbackMove_keeps (s) : Keeps s (fallbackMove s) := by
  unfold fallbackMove
  with_reducible apply Keeps.ite
  with_reducible apply Keeps.after (startMove_keeps _ _)
  exact Keeps.refl _
  exact Keeps.refl _

theorem execPstepSwitch_keeps (s) : Goes s (execPstepSwitch s) := by
  unfold execPstepSwitch
  with_reducible apply Goes.next
  split
  dsimp only
  with_reducible apply Keeps.ite
  with_reducible apply Keeps.after (fallbackMove_keeps _)
  with_reducible apply Keeps.ite
  with_reducible apply Keeps.after (writeVlog_keeps _ _)
  with_reducible apply Keeps.after (rescaleDemand_keeps _ _ _)
  with_reducible apply Keeps.after (State.modPw_keeps _ _)
  with_reducible apply Keeps.after (State.modClk_keeps _ _)
  exact Keeps.refl _
  with_reducible apply Keeps.after (rescaleDemand_keeps _ _ _)
  with_reducible apply Keeps.after (State.modPw_keeps _ _)
  with_reducible apply Keeps.after (State.modClk_keeps _ _)
  exact Keeps.refl _
  exact Keeps.refl _
  exact Keeps.refl _

theorem abortMove_keeps (s) (keep) : Keeps s (abortMove s keep) := by
  unfold abortMove
  split
  exact Keeps.refl _
  lift_lets
  intro x0
  refine Keeps.bindLet (s := s) (x := x0) ?_ (fun h1 => ?_)
  subst x0
  with_reducible apply Keeps.after (State.modPw_keeps _ _)
  exact Keeps.refl _
  clear_value x0
  intro x2
  refine Keeps.bindLet (s := s) (x := x2) ?_ (fun h3 => ?_)
  subst x2
  with_reducible apply Keeps.after (State.modClk_keeps _ _)
  assumption
  clear_value x2
  intro x4
  refine Keeps.bindLet (s := s) (x := x4) ?_ (fun h5 => ?_)
  subst x4
  with_reducible apply Keeps.ite
  assumption
  with_reducible apply Keeps.after (writeVlog_keeps _ _)
  assumption
  clear_value x4
  with_reducible apply Keeps.after (record_keeps _ _ _ _ _)
  assumption

theorem execPstepAbort_keeps (s) : Goes s (execPstepAbort s) := by
  unfold execPstepAbort
  with_reducible apply Goes.next
  split
  with_reducible apply Keeps.ite
  with_reducible apply Keeps.after (fallbackMove_keeps _)
  with_reducible apply Keeps.after (abortMove_keeps _ _)
  exact Keeps.refl _
  exact Keeps.refl _
  exact Keeps.refl _

theorem jitterAlarm_keeps (s) (m) : Keeps s (jitterAlarm s m) := by
  unfold jitterAlarm
  with_reducible apply Keeps.ite
  with_reducible apply Keeps.after (State.modClk_keeps _ _)
  exact Keeps.refl _
  lift_lets
  intro x0
  refine Keeps.bindLet (s := s) (x := x0) ?_ (fun h1 => ?_)
  subst x0
  with_reducible apply Keeps.after (abortMove_keeps _ _)
  exact Keeps.refl _
  clear_value x0
  intro x2
  refine Keeps.bindLet (s := s) (x := x2) ?_ (fun h3 => ?_)
  subst x2
  with_reducible apply Keeps.after (State.modClk_keeps _ _)
  assumption
  clear_value x2
  with_reducible apply Keeps.after (record_keeps _ _ _ _ _)
  assumption

theorem execJitterAlarm_keeps (m) (s) : Goes s (execJitterAlarm m s) := by
  unfold execJitterAlarm
  with_reducible apply Goes.next
  split
  with_reducible apply Keeps.after (jitterAlarm_keeps _ _)
  with_reducible apply Keeps.after (State.modClk_keeps _ _)
  exact Keeps.refl _
  with_reducible apply Keeps.after (jitterAlarm_keeps _ _)
  exact Keeps.refl _

theorem execDutyAlarm_keeps (m) (pct) (corr) (s) : Goes s (execDutyAlarm m pct corr s) := by
  unfold execDutyAlarm
  lift_lets
  intro x0
  subst x0
  with_reducible apply Goes.next
  with_reducible apply Keeps.after (State.modClk_keeps _ _)
  exact Keeps.refl _

theorem execDutyAlarmEscalate_keeps (m) (s) : Goes s (execDutyAlarmEscalate m s) := by
  unfold execDutyAlarmEscalate
  with_reducible apply Goes.next
  with_reducible apply Keeps.ite
  with_reducible apply Keeps.after (jitterAlarm_keeps _ _)
  exact Keeps.refl _
  exact Keeps.refl _

theorem execRelockCheck_keeps (count) (s) : Goes s (execRelockCheck count s) := by
  unfold execRelockCheck
  with_reducible apply Goes.next
  with_reducible apply Keeps.ite
  exact Keeps.refl _
  with_reducible apply Keeps.ite
  with_reducible apply Keeps.after (State.modClk_keeps _ _)
  exact Keeps.refl _
  with_reducible apply Keeps.ite
  with_reducible apply Keeps.after (State.modClk_keeps _ _)
  exact Keeps.refl _
  with_reducible apply Keeps.after (record_keeps _ _ _ _ _)
  with_reducible apply Keeps.after (State.modClk_keeps _ _)
  exact Keeps.refl _

theorem execRelockRelease_keeps (s) : Goes s (execRelockRelease s) := by
  unfold execRelockRelease
  with_reducible apply Goes.next
  with_reducible apply Keeps.ite
  with_reducible apply Keeps.after (State.modClk_keeps _ _)
  exact Keeps.refl _
  exact Keeps.refl _

theorem execClkLoRead_keeps (r) (s) : Goes s (execClkLoRead r s) := by
  unfold execClkLoRead
  lift_lets
  intro x0
  subst x0
  intro x1
  subst x1
  intro x2
  refine Keeps.bindLet (s := s) (x := x2) ?_ (fun h3 => ?_)
  subst x2
  with_reducible apply Keeps.after (State.modClk_keeps _ _)
  exact Keeps.refl _
  clear_value x2
  with_reducible apply Goes.next
  with_reducible apply Keeps.after (State.returns_keeps _ _)
  assumption

theorem noteMean_keeps (s) : Keeps s (noteMean s) := by
  unfold noteMean
  with_reducible apply Keeps.ite
  with_reducible apply Keeps.after (State.modTh_keeps _ _)
  exact Keeps.refl _
  exact Keeps.refl _

theorem tjStep_keeps (s) : Keeps s (tjStep s) := by
  unfold tjStep
  lift_lets
  intro x0
  subst x0
  intro x1
  subst x1
  intro x2
  refine Keeps.bindLet (s := s) (x := x2) ?_ (fun h3 => ?_)
  subst x2
  with_reducible apply Keeps.ite
  with_reducible apply Keeps.ite
  with_reducible apply Keeps.after (State.modPw_keeps _ _)
  exact Keeps.refl _
  exact Keeps.refl _
  exact Keeps.refl _
  clear_value x2
  intro x4
  subst x4
  intro x5
  refine Keeps.bindLet (s := s) (x := x5) ?_ (fun h6 => ?_)
  subst x5
  with_reducible apply Keeps.after (State.modPw_keeps _ _)
  assumption
  clear_value x5
  with_reducible apply Keeps.ite
  assumption
  split
  with_reducible apply Keeps.ite
  with_reducible apply Keeps.after (State.modPw_keeps _ _)
  assumption
  assumption
  assumption

theorem execSensorFailed_keeps (i) (s) : Goes s (execSensorFailed i s) := by
  unfold execSensorFailed
  with_reducible apply Goes.next
  with_reducible apply Keeps.ite
  exact Keeps.refl _
  lift_lets
  intro x0
  subst x0
  with_reducible apply Keeps.after (record_keeps _ _ _ _ _)
  with_reducible apply Keeps.after (State.modTh_keeps _ _)
  exact Keeps.refl _

theorem execTjWarn_keeps (s) : Goes s (execTjWarn s) := by
  unfold execTjWarn
  lift_lets
  intro x0
  subst x0
  intro x1
  subst x1
  with_reducible apply Goes.next
  with_reducible apply Keeps.after (thermalWatch_keeps _)
  with_reducible apply Keeps.ite
  with_reducible apply Keeps.after (record_keeps _ _ _ _ _)
  with_reducible apply Keeps.after (State.modTh_keeps _ _)
  exact Keeps.refl _
  with_reducible apply Keeps.ite
  with_reducible apply Keeps.after (State.modTh_keeps _ _)
  exact Keeps.refl _
  exact Keeps.refl _

theorem execThermtrip_keeps (i) (s) : Goes s (execThermtrip i s) := by
  unfold execThermtrip
  with_reducible apply Goes.next
  with_reducible apply Keeps.ite
  exact Keeps.refl _
  lift_lets
  intro x0
  refine Keeps.bindLet (s := s) (x := x0) ?_ (fun h1 => ?_)
  subst x0
  with_reducible apply Keeps.after (State.modTh_keeps _ _)
  exact Keeps.refl _
  clear_value x0
  intro x2
  refine Keeps.bindLet (s := s) (x := x2) ?_ (fun h3 => ?_)
  subst x2
  with_reducible apply Keeps.after (State.modClk_keeps _ _)
  assumption
  clear_value x2
  with_reducible apply Keeps.after (writeVlog_keeps _ _)
  with_reducible apply Keeps.after (State.modPw_keeps _ _)
  assumption

theorem execKeepWarmTick_keeps (s) : Goes s (execKeepWarmTick s) := by
  unfold execKeepWarmTick
  with_reducible apply Goes.next
  with_reducible apply Keeps.ite
  with_reducible apply Keeps.ite
  exact Keeps.refl _
  with_reducible apply Keeps.after (State.modTh_keeps _ _)
  exact Keeps.refl _
  lift_lets
  intro x0
  subst x0
  intro x1
  subst x1
  intro x2
  subst x2
  intro x3
  subst x3
  intro x4
  subst x4
  intro x5
  subst x5
  intro x6
  subst x6
  intro x7
  subst x7
  intro x8
  subst x8
  intro x9
  refine Keeps.bindLet (s := s) (x := x9) ?_ (fun h10 => ?_)
  subst x9
  with_reducible apply Keeps.after (State.modTh_keeps _ _)
  exact Keeps.refl _
  clear_value x9
  intro x11
  subst x11
  intro x12
  refine Keeps.bindLet (s := s) (x := x12) ?_ (fun h13 => ?_)
  subst x12
  with_reducible apply Keeps.after (State.modPw_keeps _ _)
  assumption
  clear_value x12
  with_reducible apply Keeps.ite
  assumption
  with_reducible apply Keeps.after (writeVlog_keeps _ _)
  with_reducible apply Keeps.after (State.modClk_keeps _ _)
  assumption

/-! ### Hidden -/

theorem hidErrs_keeps (s) (t) (c) : Keeps s (hidErrs s t c) := by
  unfold hidErrs
  with_reducible apply Keeps.after (meetErrs_keeps _ _)
  exact Keeps.refl _

theorem kernelRuns_keeps (s) (c) (k) : Keeps s ((kernelRuns s c k).1) := by
  unfold kernelRuns
  dsimp only
  refine Keeps.after (meetErrs_keeps _ _) (Keeps.after (State.modCore_keeps _ _ _)
    (Keeps.after (State.copyFrom_keeps _ _ _ _ _) (Keeps.after (hidErrs_keeps _ _ _) ?_)))
  exact Keeps.upd (meetErrs_keeps _ _) rfl rfl

theorem kernelDone_keeps (s) (c) (k) (result) : Keeps s (kernelDone s c k result) := by
  unfold kernelDone
  lift_lets
  intro x0
  subst x0
  with_reducible apply Keeps.ite
  with_reducible apply Keeps.after (kernelRuns_keeps _ _ _)
  exact Keeps.refl _
  with_reducible apply Keeps.after (State.spoil_keeps _ _)
  with_reducible apply Keeps.after (kernelRuns_keeps _ _ _)
  exact Keeps.refl _

/-! ### Service -/

theorem kernelSuspect_keeps (s) (c) : Keeps s (kernelSuspect s c) := by
  unfold kernelSuspect
  split
  exact Keeps.refl _
  with_reducible apply Keeps.foldl (fun z0 _ => ?_) ?_
  exact Keeps.refl _
  lift_lets
  intro x1
  subst x1
  intro x2
  refine Keeps.bindLet (s := z0) (x := x2) ?_ (fun h3 => ?_)
  subst x2
  with_reducible apply Keeps.after (modSlot_keeps _ _ _ _)
  exact Keeps.refl _
  clear_value x2
  with_reducible apply Keeps.ite
  with_reducible apply Keeps.ite
  with_reducible apply Keeps.after (startCheckOf_keeps _ _ _ _)
  assumption
  assumption
  exact Keeps.refl _

theorem buddyFails_keeps (s) (b) : Keeps s (buddyFails s b) := by
  unfold buddyFails
  split
  exact Keeps.refl _
  with_reducible apply Keeps.foldl (fun z0 _ => ?_) ?_
  exact Keeps.refl _
  with_reducible apply Keeps.ite
  lift_lets
  intro x1
  refine Keeps.bindLet (s := z0) (x := x1) ?_ (fun h2 => ?_)
  subst x1
  with_reducible apply Keeps.after (modSlot_keeps _ _ _ _)
  exact Keeps.refl _
  clear_value x1
  with_reducible apply Keeps.after (startWaiting_keeps _ _ _)
  with_reducible apply Keeps.after (haltCore_keeps _ _)
  assumption
  exact Keeps.refl _

theorem charge_keeps (s) (c) (k) : Keeps s (charge s c k) := by
  unfold charge
  lift_lets
  intro x0
  refine Keeps.bindLet (s := s) (x := x0) ?_ (fun h1 => ?_)
  subst x0
  with_reducible apply Keeps.after (endRound_keeps _ _)
  exact Keeps.refl _
  clear_value x0
  intro x2
  refine Keeps.bindLet (s := s) (x := x2) ?_ (fun h3 => ?_)
  subst x2
  with_reducible apply Keeps.ite
  with_reducible apply Keeps.after (modTc_keeps _ _ _)
  assumption
  with_reducible apply Keeps.after (buddyFails_keeps _ _)
  with_reducible apply Keeps.after (addFailure_keeps _ _ _)
  with_reducible apply Keeps.after (kernelSuspect_keeps _ _)
  assumption
  clear_value x2
  with_reducible apply Keeps.after (goOn_keeps _ _)
  with_reducible apply Keeps.after (returnEngines_keeps _ _)
  assumption

theorem cleanRound_keeps (s) (c) : Keeps s (cleanRound s c) := by
  unfold cleanRound
  lift_lets
  intro x0
  refine Keeps.bindLet (s := s) (x := x0) ?_ (fun h1 => ?_)
  subst x0
  with_reducible apply Keeps.after (endRound_keeps _ _)
  exact Keeps.refl _
  clear_value x0
  intro x2
  refine Keeps.bindLet (s := s) (x := x2) ?_ (fun h3 => ?_)
  subst x2
  with_reducible apply Keeps.ite
  assumption
  with_reducible apply Keeps.after (modTc_keeps _ _ _)
  assumption
  clear_value x2
  intro x4
  subst x4
  intro x5
  refine Keeps.bindLet (s := s) (x := x5) ?_ (fun h6 => ?_)
  subst x5
  with_reducible apply Keeps.ite
  with_reducible apply Keeps.after (setLevel_keeps _ _ _ _)
  assumption
  assumption
  clear_value x5
  with_reducible apply Keeps.after (goOn_keeps _ _)
  assumption

theorem trySecond_keeps (s) (c) : Keeps s (trySecond s c) := by
  unfold trySecond
  lift_lets
  intro x0
  subst x0
  split
  with_reducible apply Keeps.ite
  exact Keeps.refl _
  split
  with_reducible apply Keeps.after (launch_keeps _ _ _ _ _)
  exact Keeps.refl _
  exact Keeps.refl _
  exact Keeps.refl _

theorem ownEnds_keeps (s) (c) (r) (passed) : Keeps s (ownEnds s c r passed) := by
  unfold ownEnds
  with_reducible apply Keeps.ite
  lift_lets
  intro x0
  refine Keeps.bindLet (s := s) (x := x0) ?_ (fun h1 => ?_)
  subst x0
  with_reducible apply Keeps.after (modTc_keeps _ _ _)
  exact Keeps.refl _
  clear_value x0
  with_reducible apply Keeps.ite
  with_reducible apply Keeps.after (cleanRound_keeps _ _)
  assumption
  with_reducible apply Keeps.after (nextKernel_keeps _ _)
  assumption
  with_reducible apply Keeps.ite
  with_reducible apply Keeps.after (trySecond_keeps _ _)
  with_reducible apply Keeps.after (modTc_keeps _ _ _)
  exact Keeps.refl _
  with_reducible apply Keeps.after (charge_keeps _ _ _)
  exact Keeps.refl _

theorem secondEnds_keeps (s) (c) (k) (passed) : Keeps s (secondEnds s c k passed) := by
  unfold secondEnds
  lift_lets
  intro x0
  refine Keeps.bindLet (s := s) (x := x0) ?_ (fun h1 => ?_)
  subst x0
  with_reducible apply Keeps.after (modTc_keeps _ _ _)
  exact Keeps.refl _
  clear_value x0
  intro x2
  refine Keeps.bindLet (s := s) (x := x2) ?_ (fun h3 => ?_)
  subst x2
  with_reducible apply Keeps.after (record_keeps _ _ _ _ _)
  assumption
  clear_value x2
  intro x4
  subst x4
  with_reducible apply Keeps.ite
  with_reducible apply Keeps.after (charge_keeps _ _ _)
  assumption
  with_reducible apply Keeps.after (goOn_keeps _ _)
  with_reducible apply Keeps.after (endRound_keeps _ _)
  with_reducible refine Keeps.upd ?_ rfl rfl
  assumption

theorem kernelEnds_keeps (c) (passed) (s) : Keeps s (kernelEnds c passed s) := by
  unfold kernelEnds
  split
  exact Keeps.refl _
  with_reducible apply Keeps.ite
  exact Keeps.refl _
  lift_lets
  intro x0
  subst x0
  intro x1
  subst x1
  intro x2
  refine Keeps.bindLet (s := s) (x := x2) ?_ (fun h3 => ?_)
  subst x2
  with_reducible apply Keeps.after (modTc_keeps _ _ _)
  exact Keeps.refl _
  clear_value x2
  intro x4
  refine Keeps.bindLet (s := s) (x := x4) ?_ (fun h5 => ?_)
  subst x4
  with_reducible apply Keeps.after (settleStop_keeps _ _)
  with_reducible apply Keeps.after (returnEngines_keeps _ _)
  with_reducible apply Keeps.after (restoreSaved_keeps _ _ _)
  with_reducible apply Keeps.after (kernelDone_keeps _ _ _ _)
  assumption
  clear_value x4
  split
  split
  with_reducible apply Keeps.after (nextKernel_keeps _ _)
  with_reducible apply Keeps.after (secondEnds_keeps _ _ _ _)
  assumption
  assumption
  with_reducible apply Keeps.after (ownEnds_keeps _ _ _ _)
  assumption

theorem execRoundOpen_keeps (c) (s) : Goes s (execRoundOpen c s) := by
  unfold execRoundOpen
  with_reducible apply Goes.next
  with_reducible apply Keeps.ite
  with_reducible apply Keeps.after (nextKernel_keeps _ _)
  with_reducible apply Keeps.after (openRound_keeps _ _)
  exact Keeps.refl _
  exact Keeps.refl _

theorem execKernelLaunch_keeps (c) (s) : Goes s (execKernelLaunch c s) := by
  unfold execKernelLaunch
  lift_lets
  intro x0
  subst x0
  with_reducible apply Goes.next
  with_reducible apply Keeps.ite
  with_reducible apply Keeps.after (nextKernel_keeps _ _)
  exact Keeps.refl _
  split
  with_reducible apply Keeps.ite
  with_reducible apply Keeps.after (launch_keeps _ _ _ _ _)
  exact Keeps.refl _
  exact Keeps.refl _
  exact Keeps.refl _

theorem execKernelSetHeld_keeps (c) (s) : Goes s (execKernelSetHeld c s) := by
  unfold execKernelSetHeld
  with_reducible apply Goes.next
  with_reducible apply Keeps.after (holdSet_keeps _ _)
  exact Keeps.refl _

theorem execSetAcquireTimeout_keeps (c) (s) : Goes s (execSetAcquireTimeout c s) := by
  unfold execSetAcquireTimeout
  with_reducible apply Goes.next
  split
  with_reducible apply Keeps.ite
  with_reducible apply Keeps.after (returnEngines_keeps _ _)
  with_reducible apply Keeps.after (modTc_keeps _ _ _)
  exact Keeps.refl _
  exact Keeps.refl _
  exact Keeps.refl _

theorem execKernelHalt_keeps (c) (result) (s) : Goes s (execKernelHalt c result s) := by
  unfold execKernelHalt
  with_reducible apply Goes.next
  with_reducible apply Keeps.after (kernelEnds_keeps _ _ _)
  exact Keeps.refl _

theorem execKernelOverrun_keeps (c) (s) : Goes s (execKernelOverrun c s) := by
  unfold execKernelOverrun
  with_reducible apply Goes.next
  split
  with_reducible apply Keeps.ite
  with_reducible apply Keeps.after (kernelEnds_keeps _ _ _)
  exact Keeps.refl _
  exact Keeps.refl _
  exact Keeps.refl _

theorem execRoundDue_keeps (c) (s) : Goes s (execRoundDue c s) := by
  unfold execRoundDue
  with_reducible apply Goes.next
  with_reducible apply Keeps.ite
  exact Keeps.refl _
  lift_lets
  intro x0
  refine Keeps.bindLet (s := s) (x := x0) ?_ (fun h1 => ?_)
  subst x0
  with_reducible apply Keeps.after (openRound_keeps _ _)
  exact Keeps.refl _
  clear_value x0
  with_reducible apply Keeps.ite
  with_reducible apply Keeps.after (forceAwake_keeps _ _)
  with_reducible apply Keeps.after (modTc_keeps _ _ _)
  assumption
  assumption

theorem execForcedKernelResume_keeps (c) (s) : Goes s (execForcedKernelResume c s) := by
  unfold execForcedKernelResume
  with_reducible apply Goes.next
  with_reducible apply Keeps.ite
  with_reducible apply Keeps.after (forceAwake_keeps _ _)
  exact Keeps.refl _
  exact Keeps.refl _

theorem execLoopbackSuspendEnd_keeps (s) : Goes s (execLoopbackSuspendEnd s) := by
  unfold execLoopbackSuspendEnd
  with_reducible apply Goes.next
  split
  dsimp only
  with_reducible apply Keeps.ite
  exact Keeps.refl _
  with_reducible apply Keeps.foldl (fun z0 _ => ?_) ?_
  with_reducible apply Keeps.upd ?_ rfl rfl
  with_reducible refine Keeps.upd ?_ rfl rfl
  exact Keeps.refl _
  with_reducible apply Keeps.after (nextKernel_keeps _ _)
  exact Keeps.refl _
  exact Keeps.refl _

theorem execQuarHoldExpiry_keeps (c) (s) : Goes s (execQuarHoldExpiry c s) := by
  unfold execQuarHoldExpiry
  lift_lets
  intro x0
  subst x0
  intro x1
  refine Keeps.bindLet (s := s) (x := x1) ?_ (fun h2 => ?_)
  subst x1
  with_reducible apply Keeps.after (modTc_keeps _ _ _)
  with_reducible apply Keeps.after (setLevel_keeps _ _ _ _)
  exact Keeps.refl _
  clear_value x1
  with_reducible apply Goes.next
  with_reducible apply Keeps.ite
  with_reducible apply Keeps.ite
  with_reducible apply Keeps.after (returnEngines_keeps _ _)
  assumption
  assumption
  exact Keeps.refl _

theorem execFailWindowExpiry_keeps (c) (s) : Goes s (execFailWindowExpiry c s) := by
  unfold execFailWindowExpiry
  with_reducible apply Goes.next
  with_reducible apply Keeps.after (logLevel_keeps _ _)
  with_reducible apply Keeps.after (modTc_keeps _ _ _)
  exact Keeps.refl _

theorem coreGoesOn_keeps (s) (c) : Keeps s (coreGoesOn s c) := by
  unfold coreGoesOn
  with_reducible apply Keeps.ite
  with_reducible apply Keeps.after (settleStop_keeps _ _)
  with_reducible apply Keeps.after (closeAll_keeps _ _)
  exact Keeps.refl _
  with_reducible apply Keeps.after (drainXi_keeps _ _ _)
  exact Keeps.refl _

theorem firmwareActs_keeps (s) : Keeps s (firmwareActs s) := by
  unfold firmwareActs
  with_reducible apply Keeps.foldl (fun z0 _ => ?_) ?_
  exact Keeps.refl _
  with_reducible apply Keeps.ite
  with_reducible apply Keeps.after (pollStep_keeps _ _)
  exact Keeps.refl _
  exact Keeps.refl _

theorem execMemoryStepDone_keeps (s) : Goes s (execMemoryStepDone s) := by
  unfold execMemoryStepDone
  with_reducible apply Goes.next
  split
  with_reducible apply Keeps.after (applyMstepPolicy_keeps _)
  with_reducible apply Keeps.after (firmwareActs_keeps _)
  with_reducible apply Keeps.foldl (fun z0 _ => ?_) ?_
  with_reducible apply Keeps.after (stacksRun_keeps _ _)
  exact Keeps.refl _
  with_reducible apply Keeps.after (coreGoesOn_keeps _ _)
  exact Keeps.refl _
  exact Keeps.refl _

theorem holdRounds_keeps (s) (n) : Keeps s (holdRounds s n) := by
  unfold holdRounds
  lift_lets
  intro x0
  subst x0
  intro x1
  subst x1
  intro x2
  subst x2
  with_reducible apply Keeps.ite
  exact Keeps.refl _
  with_reducible refine Keeps.upd ?_ rfl rfl
  exact Keeps.refl _

theorem serveCore_keeps (s) (c) : Keeps s (serveCore s c) := by
  unfold serveCore
  lift_lets
  intro x0
  subst x0
  intro x1
  refine Keeps.bindLet (s := s) (x := x1) ?_ (fun h2 => ?_)
  subst x1
  with_reducible apply Keeps.after (watchWait_keeps _ _)
  exact Keeps.refl _
  clear_value x1
  with_reducible apply Keeps.ite
  with_reducible apply Keeps.after (trySecond_keeps _ _)
  assumption
  with_reducible apply Keeps.ite
  assumption
  with_reducible apply Keeps.ite
  with_reducible apply Keeps.after (nextKernel_keeps _ _)
  assumption
  with_reducible apply Keeps.after (goOn_keeps _ _)
  assumption

theorem tick_keeps (s) : Keeps s (tick s) := by
  unfold tick
  with_reducible apply Keeps.foldl (fun z0 _ => ?_) ?_
  with_reducible apply Keeps.foldl (fun z1 _ => ?_) ?_
  with_reducible apply Keeps.after (holdRounds_keeps _ _)
  with_reducible apply Keeps.upd ?_ rfl rfl
  with_reducible refine Keeps.upd ?_ rfl rfl
  exact Keeps.refl _
  with_reducible apply Keeps.after (sparePass_keeps _ _)
  exact Keeps.refl _
  with_reducible apply Keeps.after (serveCore_keeps _ _)
  exact Keeps.refl _

/-! ### Fp -/

theorem modUc_keeps (s) (p) (f) : Keeps s (modUc s p f) := by
  unfold modUc
  with_reducible apply Keeps.after (State.modPart_keeps _ _ _)
  exact Keeps.refl _

theorem fpSend_keeps (s) (p) (off) (bs) : Keeps s (fpSend s p off bs) := by
  unfold fpSend
  lift_lets
  intro x0
  subst x0
  intro x1
  refine Keeps.bindLet (s := s) (x := x1) ?_ (fun h2 => ?_)
  subst x1
  with_reducible apply Keeps.after (State.write_keeps _ _ _ _)
  exact Keeps.refl _
  clear_value x1
  intro x3
  subst x3
  with_reducible apply Keeps.foldl (fun z4 _ => ?_) ?_
  assumption
  lift_lets
  intro x5
  subst x5
  with_reducible apply Keeps.ite
  exact Keeps.refl _
  with_reducible apply Keeps.foldl (fun z6 _ => ?_) ?_
  exact Keeps.refl _
  split
  with_reducible apply Keeps.after (fwSend_keeps _ _ _)
  exact Keeps.refl _

theorem fpGroups_keeps (s) (p) (ls) : Keeps s (fpGroups s p ls) := by
  unfold fpGroups
  with_reducible apply Keeps.after (fpSend_keeps _ _ _ _)
  exact Keeps.refl _

theorem fpRoot_keeps (s) (p) (ls) : Keeps s (fpRoot s p ls) := by
  unfold fpRoot
  lift_lets
  intro x0
  refine Keeps.bindLet (s := s) (x := x0) ?_ (fun h1 => ?_)
  subst x0
  with_reducible apply Keeps.after (fpSend_keeps _ _ _ _)
  exact Keeps.refl _
  clear_value x0
  with_reducible apply Keeps.after (modUc_keeps _ _ _)
  assumption

theorem execFpDigestDone_keeps (p) (s) : Goes s (execFpDigestDone p s) := by
  unfold execFpDigestDone
  lift_lets
  intro x0
  subst x0
  intro x1
  subst x1
  with_reducible apply Goes.next
  with_reducible apply Keeps.ite
  exact Keeps.refl _
  with_reducible apply Keeps.after (fpRoot_keeps _ _ _)
  with_reducible apply Keeps.after (fpGroups_keeps _ _ _)
  exact Keeps.refl _

theorem tellNext_keeps (s) (p) (cause) (bits) (halt) : Keeps s (tellNext s p cause bits halt) := by
  unfold tellNext
  split
  exact Keeps.refl _
  lift_lets
  intro x0
  subst x0
  intro x1
  refine Keeps.bindLet (s := s) (x := x1) ?_ (fun h2 => ?_)
  subst x1
  with_reducible apply Keeps.after (sendEntry_keeps _ _ _ _)
  with_reducible apply Keeps.after (modSlot_keeps _ _ _ _)
  with_reducible apply Keeps.after (found_keeps _ _ _ _ _)
  exact Keeps.refl _
  clear_value x1
  with_reducible apply Keeps.ite
  exact Keeps.refl _
  with_reducible apply Keeps.ite
  with_reducible apply Keeps.ite
  with_reducible apply Keeps.after (haltStep_keeps _ _ _ _)
  assumption
  with_reducible apply Keeps.after (failStep_keeps _ _ _ _)
  assumption
  exact Keeps.refl _

theorem afterCure_keeps (s) (p) : Keeps s (afterCure s p) := by
  unfold afterCure
  split
  exact Keeps.refl _
  with_reducible apply Keeps.ite
  exact Keeps.refl _
  lift_lets
  intro x0
  refine Keeps.bindLet (s := s) (x := x0) ?_ (fun h1 => ?_)
  subst x0
  with_reducible apply Keeps.after (modSlot_keeps _ _ _ _)
  exact Keeps.refl _
  clear_value x0
  with_reducible apply Keeps.ite
  with_reducible apply Keeps.after (haltStep_keeps _ _ _ _)
  assumption
  with_reducible apply Keeps.after (failStep_keeps _ _ _ _)
  assumption

theorem endPass_keeps (s) (p) : Keeps s (endPass s p) := by
  unfold endPass
  lift_lets
  intro x0
  subst x0
  intro x1
  subst x1
  intro x2
  refine Keeps.bindLet (s := s) (x := x2) ?_ (fun h3 => ?_)
  subst x2
  with_reducible apply Keeps.after (modUc_keeps _ _ _)
  exact Keeps.refl _
  clear_value x2
  intro x4
  refine Keeps.bindLet (s := s) (x := x4) ?_ (fun h5 => ?_)
  subst x4
  with_reducible apply Keeps.ite
  with_reducible apply Keeps.after (tellNext_keeps _ _ _ _ _)
  assumption
  assumption
  clear_value x4
  with_reducible apply Keeps.after (openGate_keeps _ _)
  with_reducible apply Keeps.after (afterCure_keeps _ _)
  assumption

theorem endRevert_keeps (s) (p) : Keeps s (endRevert s p) := by
  unfold endRevert
  lift_lets
  intro x0
  subst x0
  intro x1
  refine Keeps.bindLet (s := s) (x := x1) ?_ (fun h2 => ?_)
  subst x1
  with_reducible apply Keeps.after (modUc_keeps _ _ _)
  exact Keeps.refl _
  clear_value x1
  with_reducible apply Keeps.after (openGate_keeps _ _)
  with_reducible apply Keeps.after (afterCure_keeps _ _)
  with_reducible apply Keeps.ite
  assumption
  with_reducible apply Keeps.after (tellNext_keeps _ _ _ _ _)
  assumption

theorem fpPages_keeps (s) (p) : Keeps s (fpPages s p) := by
  unfold fpPages
  lift_lets
  intro x0
  subst x0
  intro x1
  subst x1
  intro x2
  refine Keeps.bindLet (s := s) (x := x2) ?_ (fun h3 => ?_)
  subst x2
  with_reducible apply Keeps.foldl (fun z4 _ => ?_) ?_
  exact Keeps.refl _
  split
  with_reducible apply Keeps.after (fpSend_keeps _ _ _ _)
  exact Keeps.refl _
  clear_value x2
  with_reducible apply Keeps.after (fpRoot_keeps _ _ _)
  assumption

theorem fpRound_keeps (s) (p) : Keeps s (fpRound s p) := by
  unfold fpRound
  with_reducible apply Keeps.after (fpPages_keeps _ _)
  with_reducible apply Keeps.after (modUc_keeps _ _ _)
  exact Keeps.refl _

theorem fpAgain_keeps (s) (p) : Keeps s (fpAgain s p) := by
  unfold fpAgain
  lift_lets
  intro x0
  subst x0
  intro x1
  refine Keeps.bindLet (s := s) (x := x1) ?_ (fun h2 => ?_)
  subst x1
  with_reducible apply Keeps.after (modUc_keeps _ _ _)
  exact Keeps.refl _
  clear_value x1
  with_reducible apply Keeps.ite
  exact Keeps.refl _
  with_reducible apply Keeps.ite
  with_reducible apply Keeps.after (fpRoot_keeps _ _ _)
  assumption
  with_reducible apply Keeps.after (fpPages_keeps _ _)
  assumption

theorem fpGo_keeps (s) (p) : Keeps s (fpGo s p) := by
  unfold fpGo
  with_reducible apply Keeps.ite
  with_reducible apply Keeps.after (endPass_keeps _ _)
  exact Keeps.refl _
  with_reducible apply Keeps.after (fpRound_keeps _ _)
  exact Keeps.refl _

theorem fpNext_keeps (s) (p) : Keeps s (fpNext s p) := by
  unfold fpNext
  with_reducible apply Keeps.after (fpGo_keeps _ _)
  with_reducible apply Keeps.after (modUc_keeps _ _ _)
  exact Keeps.refl _

theorem fpDecide_keeps (s p roles b ls) : ∀ t, fpDecide s p roles b ls = some t → Keeps s t := by
  intro t h
  unfold fpDecide at h
  dsimp only at h
  split at h
  · cases h; exact Keeps.refl _
  · split at h
    · cases h; exact Keeps.refl _
    · split at h
      · cases h
      · rw [Option.some.injEq] at h
        subst h
        refine Keeps.ite (Keeps.after (modUc_keeps _ _ _) ?_) ?_
        all_goals
          refine Keeps.ite ?_ (modUc_keeps _ _ _)
          split
          · exact Keeps.foldl (fun _ _ => Keeps.foldl (fun _ _ => fwSend_keeps _ _ _) (Keeps.refl _)) (modUc_keeps _ _ _)
          · exact modUc_keeps _ _ _

theorem fpResolve_keeps (s p roles) : ∀ t, fpResolve s p roles = some t → Keeps s t := by
  unfold fpResolve
  dsimp only
  generalize List.flatMap _ _ = cells
  generalize hs : s = s0
  rw [← hs]
  suffices H : ∀ (l : List (Nat × Nat × Nat)) (o : Option State) t, l.foldl (fun s? x => s?.bind (fun s =>
      fpDecide s p roles x.1 ((List.range roles.length).map (fun m => pageLeaf s p m x.2.1 x.2.2)))) o = some t → ∃ u, o = some u ∧ Keeps u t from by
    intro t h
    obtain ⟨u, h1, h2⟩ := H _ _ _ h
    cases h1
    exact h2
  intro l
  induction l with
  | nil => intro o t h; exact ⟨t, h, Keeps.refl _⟩
  | cons a l ih =>
    intro o t h
    obtain ⟨u, h1, h2⟩ := ih _ _ h
    obtain ⟨v, h3, h4⟩ := Option.bind_eq_some_iff.mp h1
    exact ⟨v, h3, (fpDecide_keeps _ _ _ _ _ _ h4).trans h2⟩

theorem execFpRootsComplete_keeps (p) (s) : Goes s (execFpRootsComplete p s) := by
  unfold execFpRootsComplete
  lift_lets
  intro x0
  subst x0
  intro x1
  subst x1
  intro x2
  subst x2
  intro x3
  subst x3
  intro x4
  subst x4
  intro x5
  subst x5
  with_reducible apply Goes.next
  with_reducible apply Keeps.ite
  exact Keeps.refl _
  with_reducible apply Keeps.ite
  with_reducible apply Keeps.ite
  with_reducible apply Keeps.after (endPass_keeps _ _)
  exact Keeps.refl _
  with_reducible apply Keeps.after (fpGo_keeps _ _)
  with_reducible apply Keeps.after (modUc_keeps _ _ _)
  exact Keeps.refl _
  split
  with_reducible apply Keeps.after (endRevert_keeps _ _)
  exact Keeps.refl _
  with_reducible apply Keeps.ite
  with_reducible apply Keeps.after (fpNext_keeps _ _)
  refine Keeps.trans ?_ (fpResolve_keeps _ _ _ _ (by assumption))
  exact Keeps.refl _
  with_reducible apply Keeps.after (modUc_keeps _ _ _)
  refine Keeps.trans ?_ (fpResolve_keeps _ _ _ _ (by assumption))
  exact Keeps.refl _

theorem execFpBlockReceived_keeps (p) (b) (s) : Goes s (execFpBlockReceived p b s) := by
  unfold execFpBlockReceived
  lift_lets
  intro x0
  subst x0
  intro x1
  refine Keeps.bindLet (s := s) (x := x1) ?_ (fun h2 => ?_)
  subst x1
  with_reducible apply Keeps.after (modUc_keeps _ _ _)
  exact Keeps.refl _
  clear_value x1
  with_reducible apply Goes.next
  with_reducible apply Keeps.ite
  exact Keeps.refl _
  split
  dsimp only
  with_reducible apply Keeps.ite
  with_reducible apply Keeps.ite
  with_reducible apply Keeps.after (fpNext_keeps _ _)
  split
  with_reducible apply Keeps.ite
  with_reducible apply Keeps.after (setLevel_keeps _ _ _ _)
  assumption
  assumption
  assumption
  split
  with_reducible apply Keeps.ite
  with_reducible apply Keeps.after (setLevel_keeps _ _ _ _)
  assumption
  assumption
  assumption
  with_reducible apply Keeps.ite
  with_reducible apply Keeps.after (modUc_keeps _ _ _)
  exact Keeps.refl _
  with_reducible apply Keeps.after (endRevert_keeps _ _)
  exact Keeps.refl _
  exact Keeps.refl _

theorem execFpTimeout_keeps (p) (s) : Goes s (execFpTimeout p s) := by
  unfold execFpTimeout
  lift_lets
  intro x0
  subst x0
  intro x1
  refine Keeps.bindLet (s := s) (x := x1) ?_ (fun h2 => ?_)
  subst x1
  with_reducible apply Keeps.after (modUc_keeps _ _ _)
  exact Keeps.refl _
  clear_value x1
  with_reducible apply Goes.next
  with_reducible apply Keeps.ite
  with_reducible apply Keeps.ite
  with_reducible apply Keeps.after (endRevert_keeps _ _)
  exact Keeps.refl _
  split
  dsimp only
  with_reducible apply Keeps.ite
  with_reducible apply Keeps.after (haltStep_keeps _ _ _ _)
  with_reducible apply Keeps.after (modSlot_keeps _ _ _ _)
  assumption
  assumption
  assumption
  exact Keeps.refl _

theorem restartPass_keeps (s) (p) : Keeps s (restartPass s p) := by
  unfold restartPass
  lift_lets
  intro x0
  refine Keeps.bindLet (s := s) (x := x0) ?_ (fun h1 => ?_)
  subst x0
  with_reducible apply Keeps.after (modUc_keeps _ _ _)
  exact Keeps.refl _
  clear_value x0
  intro x2
  subst x2
  with_reducible apply Keeps.after (fpRoot_keeps _ _ _)
  with_reducible apply Keeps.after (fpGroups_keeps _ _ _)
  assumption

/-! ### Security -/

theorem State.modSec_keeps (s) (f) : Keeps s (State.modSec s f) := by
  unfold State.modSec
  with_reducible refine Keeps.upd ?_ rfl rfl
  exact Keeps.refl _

theorem State.modSb_keeps (s) (f) : Keeps s (State.modSb s f) := by
  unfold State.modSb
  with_reducible apply Keeps.after (State.modSec_keeps _ _)
  exact Keeps.refl _

theorem State.modServ_keeps (s) (f) : Keeps s (State.modServ s f) := by
  unfold State.modServ
  with_reducible refine Keeps.upd ?_ rfl rfl
  exact Keeps.refl _

theorem zeroiseKeys_keeps (s) : Keeps s (zeroiseKeys s) := by
  unfold zeroiseKeys
  lift_lets
  intro x0
  refine Keeps.bindLet (s := s) (x := x0) ?_ (fun h1 => ?_)
  subst x0
  with_reducible apply Keeps.after (State.modSec_keeps _ _)
  exact Keeps.refl _
  clear_value x0
  with_reducible refine Keeps.upd ?_ rfl rfl
  assumption

theorem zeroiseStore_keeps (s) : Keeps s (zeroiseStore s) := by
  unfold zeroiseStore
  with_reducible apply Keeps.after (State.modSec_keeps _ _)
  with_reducible apply Keeps.after (zeroiseKeys_keeps _)
  exact Keeps.refl _

theorem sbReject_keeps (s) (reason) : Keeps s (sbReject s reason) := by
  unfold sbReject
  with_reducible apply Keeps.after (State.modSb_keeps _ _)
  exact Keeps.refl _

theorem sbOpen_keeps (s) (comp) (slot) : Keeps s (sbOpen s comp slot) := by
  unfold sbOpen
  with_reducible apply Keeps.ite
  exact Keeps.refl _
  with_reducible apply Keeps.after (State.modSb_keeps _ _)
  exact Keeps.refl _

theorem sbFull_keeps (s) (h) (len) : Keeps s (sbFull s h len) := by
  unfold sbFull
  lift_lets
  intro x0
  refine Keeps.bindLet (s := s) (x := x0) ?_ (fun h1 => ?_)
  subst x0
  with_reducible apply Keeps.after (State.modSb_keeps _ _)
  exact Keeps.refl _
  clear_value x0
  intro x2
  subst x2
  with_reducible apply Keeps.ite
  assumption
  with_reducible apply Keeps.after (State.modSb_keeps _ _)
  assumption

theorem sbClose_keeps (s) : Keeps s (sbClose s) := by
  unfold sbClose
  with_reducible apply Keeps.ite
  with_reducible apply Keeps.after (State.modSb_keeps _ _)
  exact Keeps.refl _
  exact Keeps.refl _

theorem sbCancel_keeps (s) : Keeps s (sbCancel s) := by
  unfold sbCancel
  with_reducible apply Keeps.ite
  exact Keeps.refl _
  with_reducible apply Keeps.after (State.modSb_keeps _ _)
  exact Keeps.refl _

theorem execSbCtrlOpen_keeps (w) (epoch) (comp) (slot) (s) : Goes s (execSbCtrlOpen w epoch comp slot s) := by
  unfold execSbCtrlOpen
  lift_lets
  intro x0
  refine Keeps.bindLet (s := s) (x := x0) ?_ (fun h1 => ?_)
  subst x0
  with_reducible apply Keeps.after (State.modSb_keeps _ _)
  exact Keeps.refl _
  clear_value x0
  with_reducible apply Goes.next
  with_reducible apply Keeps.ite
  with_reducible apply Keeps.after (sbOpen_keeps _ _ _)
  assumption
  with_reducible apply Keeps.after (sbReject_keeps _ _)
  assumption

theorem execSbCtrlClose_keeps (w) (epoch) (s) : Goes s (execSbCtrlClose w epoch s) := by
  unfold execSbCtrlClose
  lift_lets
  intro x0
  refine Keeps.bindLet (s := s) (x := x0) ?_ (fun h1 => ?_)
  subst x0
  with_reducible apply Keeps.after (State.modSb_keeps _ _)
  exact Keeps.refl _
  clear_value x0
  with_reducible apply Goes.next
  with_reducible apply Keeps.ite
  with_reducible apply Keeps.after (sbClose_keeps _)
  assumption
  with_reducible apply Keeps.after (sbReject_keeps _ _)
  assumption

theorem execSbCtrlCancel_keeps (w) (epoch) (s) : Goes s (execSbCtrlCancel w epoch s) := by
  unfold execSbCtrlCancel
  lift_lets
  intro x0
  refine Keeps.bindLet (s := s) (x := x0) ?_ (fun h1 => ?_)
  subst x0
  with_reducible apply Keeps.after (State.modSb_keeps _ _)
  exact Keeps.refl _
  clear_value x0
  with_reducible apply Goes.next
  with_reducible apply Keeps.ite
  with_reducible apply Keeps.after (sbCancel_keeps _)
  assumption
  with_reducible apply Keeps.after (sbReject_keeps _ _)
  assumption

theorem execSbHalfFull_keeps (w) (epoch) (h) (len) (s) : Goes s (execSbHalfFull w epoch h len s) := by
  unfold execSbHalfFull
  lift_lets
  intro x0
  refine Keeps.bindLet (s := s) (x := x0) ?_ (fun h1 => ?_)
  subst x0
  with_reducible apply Keeps.after (State.modSb_keeps _ _)
  exact Keeps.refl _
  clear_value x0
  with_reducible apply Goes.next
  with_reducible apply Keeps.ite
  with_reducible apply Keeps.after (sbFull_keeps _ _ _)
  assumption
  with_reducible apply Keeps.after (sbReject_keeps _ _)
  assumption

theorem stageChunk_keeps (s) (off) (bs) (close) : Keeps s (stageChunk s off bs close) := by
  unfold stageChunk
  lift_lets
  intro x0
  refine Keeps.bindLet (s := s) (x := x0) ?_ (fun h1 => ?_)
  subst x0
  with_reducible apply Keeps.after (State.write_keeps _ _ _ _)
  exact Keeps.refl _
  clear_value x0
  intro x2
  subst x2
  intro x3
  subst x3
  intro x4
  refine Keeps.bindLet (s := s) (x := x4) ?_ (fun h5 => ?_)
  subst x4
  with_reducible apply Keeps.ite
  with_reducible apply Keeps.after (sbFull_keeps _ _ _)
  assumption
  assumption
  clear_value x4
  intro x6
  refine Keeps.bindLet (s := s) (x := x6) ?_ (fun h7 => ?_)
  subst x6
  with_reducible apply Keeps.ite
  with_reducible apply Keeps.after (sbFull_keeps _ _ _)
  assumption
  assumption
  clear_value x6
  intro x8
  refine Keeps.bindLet (s := s) (x := x8) ?_ (fun h9 => ?_)
  subst x8
  with_reducible apply Keeps.ite
  assumption
  with_reducible apply Keeps.ite
  with_reducible apply Keeps.after (sbFull_keeps _ _ _)
  assumption
  with_reducible apply Keeps.after (sbFull_keeps _ _ _)
  assumption
  clear_value x8
  with_reducible apply Keeps.ite
  assumption
  with_reducible apply Keeps.after (sbClose_keeps _)
  assumption

theorem activatePack_keeps (s) (i) : Keeps s (activatePack s i).1 := by
  unfold activatePack
  lift_lets
  intro x0
  subst x0
  intro x1
  subst x1
  with_reducible apply Keeps.iteFst
  with_reducible apply Keeps.fst
  exact Keeps.refl _
  with_reducible apply Keeps.fst
  with_reducible apply Keeps.after (State.modServ_keeps _ _)
  exact Keeps.refl _

theorem clearFuse_keeps (s) (c) : Keeps s (clearFuse s c) := by
  unfold clearFuse
  lift_lets
  intro x0
  refine Keeps.bindLet (s := s) (x := x0) ?_ (fun h1 => ?_)
  subst x0
  with_reducible apply Keeps.after (State.modServ_keeps _ _)
  exact Keeps.refl _
  clear_value x0
  intro x2
  refine Keeps.bindLet (s := s) (x := x2) ?_ (fun h3 => ?_)
  subst x2
  with_reducible apply Keeps.after (State.modCore_keeps _ _ _)
  assumption
  clear_value x2
  with_reducible apply Keeps.after (goOn_keeps _ _)
  with_reducible apply Keeps.after (returnEngines_keeps _ _)
  with_reducible apply Keeps.after (setLevel_keeps _ _ _ _)
  assumption

theorem verifyStage_keeps (s) (flash) : Keeps s (verifyStage s flash) := by
  unfold verifyStage
  lift_lets
  intro x0
  subst x0
  intro x1
  subst x1
  intro x2
  subst x2
  intro x3
  subst x3
  intro x4
  subst x4
  intro x5
  subst x5
  with_reducible apply Keeps.ite
  beta_reduce
  with_reducible apply Keeps.after (sbReject_keeps _ _)
  exact Keeps.refl _
  with_reducible apply Keeps.ite
  split
  beta_reduce
  with_reducible apply Keeps.after (sbReject_keeps _ _)
  exact Keeps.refl _
  with_reducible apply Keeps.ite
  beta_reduce
  with_reducible apply Keeps.after (sbReject_keeps _ _)
  exact Keeps.refl _
  beta_reduce
  with_reducible apply Keeps.after (State.modSb_keeps _ _)
  with_reducible apply Keeps.after (State.modSec_keeps _ _)
  exact Keeps.refl _
  with_reducible apply Keeps.ite
  with_reducible apply Keeps.ite
  beta_reduce
  with_reducible apply Keeps.after (sbReject_keeps _ _)
  exact Keeps.refl _
  with_reducible apply Keeps.ite
  beta_reduce
  with_reducible apply Keeps.after (sbReject_keeps _ _)
  exact Keeps.refl _
  with_reducible apply Keeps.ite
  beta_reduce
  with_reducible apply Keeps.after (sbReject_keeps _ _)
  exact Keeps.refl _
  with_reducible apply Keeps.ite
  beta_reduce
  with_reducible apply Keeps.after (sbReject_keeps _ _)
  exact Keeps.refl _
  beta_reduce
  with_reducible apply Keeps.after (State.modSb_keeps _ _)
  with_reducible apply Keeps.after (State.modServ_keeps _ _)
  exact Keeps.refl _
  with_reducible apply Keeps.ite
  split
  with_reducible apply Keeps.ite
  beta_reduce
  with_reducible apply Keeps.after (State.modSb_keeps _ _)
  with_reducible apply Keeps.ite
  with_reducible apply Keeps.after (clearFuse_keeps _ _)
  exact Keeps.refl _
  exact Keeps.refl _
  beta_reduce
  with_reducible apply Keeps.after (sbReject_keeps _ _)
  exact Keeps.refl _
  beta_reduce
  with_reducible apply Keeps.after (sbReject_keeps _ _)
  exact Keeps.refl _
  beta_reduce
  with_reducible apply Keeps.after (sbReject_keeps _ _)
  exact Keeps.refl _

theorem execStageVerifyComplete_keeps (flash) (s) : Goes s (execStageVerifyComplete flash s) := by
  unfold execStageVerifyComplete
  with_reducible apply Goes.next
  with_reducible apply Keeps.ite
  exact Keeps.refl _
  lift_lets
  intro x0
  subst x0
  intro x1
  refine Keeps.bindLet (s := s) (x := x1) ?_ (fun h2 => ?_)
  subst x1
  with_reducible apply Keeps.after (verifyStage_keeps _ _)
  exact Keeps.refl _
  clear_value x1
  intro x3
  subst x3
  intro x4
  subst x4
  with_reducible apply Keeps.foldl (fun z5 _ => ?_) ?_
  assumption
  with_reducible apply Keeps.ite
  with_reducible apply Keeps.after (finish_keeps _ _ _ _ _)
  exact Keeps.refl _
  with_reducible apply Keeps.after (finish_keeps _ _ _ _ _)
  exact Keeps.refl _

theorem beginActivation_keeps (s) : Keeps s (beginActivation s) := by
  unfold beginActivation State.modKci
  dsimp -zeta only
  lift_lets
  intro x0
  refine Keeps.bindLet (s := s) (x := x0) ?_ (fun h1 => ?_)
  subst x0
  with_reducible apply Keeps.after (State.modSec_keeps _ _)
  exact Keeps.refl _
  clear_value x0
  with_reducible refine Keeps.upd ?_ rfl rfl
  assumption

theorem execSbCtrlActivate_keeps (w) (epoch) (s) : Goes s (execSbCtrlActivate w epoch s) := by
  unfold execSbCtrlActivate
  lift_lets
  intro x0
  refine Keeps.bindLet (s := s) (x := x0) ?_ (fun h1 => ?_)
  subst x0
  with_reducible apply Keeps.after (State.modSb_keeps _ _)
  exact Keeps.refl _
  clear_value x0
  with_reducible apply Goes.next
  with_reducible apply Keeps.ite
  with_reducible apply Keeps.after (sbReject_keeps _ _)
  assumption
  with_reducible apply Keeps.ite
  with_reducible apply Keeps.after (beginActivation_keeps _)
  assumption
  assumption

theorem resumeKci_keeps (t) (s) : Keeps s (resumeKci t s) := by
  unfold resumeKci
  lift_lets
  intro x0
  refine Keeps.bindLet (s := s) (x := x0) ?_ (fun h1 => ?_)
  subst x0
  with_reducible apply Keeps.foldl (fun z2 _ => ?_) ?_
  unfold State.modKci
  with_reducible refine Keeps.upd ?_ rfl rfl
  exact Keeps.refl _
  with_reducible apply Keeps.after (drainHeld_keeps _ _)
  exact Keeps.refl _
  clear_value x0
  with_reducible apply Keeps.foldl (fun z3 _ => ?_) ?_
  assumption
  with_reducible apply Keeps.after (resumeClosure_keeps _ _ _)
  with_reducible apply Keeps.after (fpAgain_keeps _ _)
  exact Keeps.refl _

theorem updateOver_keeps (s) (k) (failed) : Keeps s (updateOver s k failed) := by
  unfold updateOver
  lift_lets
  intro x0
  subst x0
  intro x1
  refine Keeps.bindLet (s := s) (x := x1) ?_ (fun h2 => ?_)
  subst x1
  with_reducible apply Keeps.after (State.modMg_keeps _ _)
  exact Keeps.refl _
  clear_value x1
  with_reducible apply Keeps.ite
  with_reducible apply Keeps.ite
  with_reducible apply Keeps.after (deedRelease_keeps _ _ _ _)
  assumption
  assumption
  split
  with_reducible apply Keeps.ite
  with_reducible apply Keeps.after (agentDrops_keeps _ _ _)
  assumption
  assumption
  assumption

theorem activationOver_keeps (s) (failed) : Keeps s (activationOver s failed) := by
  unfold activationOver
  with_reducible apply Keeps.foldl (fun z0 _ => ?_) ?_
  exact Keeps.refl _
  with_reducible apply Keeps.ite
  with_reducible apply Keeps.after (updateOver_keeps _ _ _)
  exact Keeps.refl _
  exact Keeps.refl _

theorem execNewCodeAccept_keeps (s) : Goes s (execNewCodeAccept s) := by
  unfold execNewCodeAccept
  with_reducible apply Goes.next
  split
  dsimp only
  with_reducible apply Keeps.ite
  exact Keeps.refl _
  with_reducible apply Keeps.after (resumeKci_keeps _ _)
  with_reducible apply Keeps.after (activationOver_keeps _ _)
  with_reducible apply Keeps.foldl (fun z0 _ => ?_) ?_
  with_reducible apply Keeps.after (controlRecord_keeps _ _)
  with_reducible apply Keeps.after (State.modSec_keeps _ _)
  with_reducible apply Keeps.after (State.modSec_keeps _ _)
  exact Keeps.refl _
  with_reducible apply Keeps.after (finish_keeps _ _ _ _ _)
  exact Keeps.refl _
  exact Keeps.refl _

theorem execActivationFallback_keeps (s) : Goes s (execActivationFallback s) := by
  unfold execActivationFallback
  with_reducible apply Goes.next
  split
  dsimp only
  with_reducible apply Keeps.ite
  exact Keeps.refl _
  with_reducible apply Keeps.after (resumeKci_keeps _ _)
  with_reducible apply Keeps.after (activationOver_keeps _ _)
  with_reducible apply Keeps.foldl (fun z0 _ => ?_) ?_
  with_reducible apply Keeps.after (controlRecord_keeps _ _)
  with_reducible apply Keeps.after (State.modSec_keeps _ _)
  exact Keeps.refl _
  with_reducible apply Keeps.after (finish_keeps _ _ _ _ _)
  exact Keeps.refl _
  exact Keeps.refl _

theorem execActivationCommit_keeps (s) : Goes s (execActivationCommit s) := by
  unfold execActivationCommit
  with_reducible apply Goes.next
  split
  split
  with_reducible apply Keeps.ite
  exact Keeps.refl _
  with_reducible apply Keeps.after (State.modSec_keeps _ _)
  exact Keeps.refl _
  exact Keeps.refl _
  exact Keeps.refl _

theorem execDebugUnlock_keeps (token) (s) : Goes s (execDebugUnlock token s) := by
  unfold execDebugUnlock
  lift_lets
  intro x0
  subst x0
  with_reducible apply Goes.next
  with_reducible apply Keeps.ite
  exact Keeps.refl _
  with_reducible apply Keeps.after (State.modSec_keeps _ _)
  with_reducible apply Keeps.after (zeroiseStore_keeps _)
  exact Keeps.refl _

theorem execPwrLossNAssert_keeps (mv) (s) : Goes s (execPwrLossNAssert mv s) := by
  unfold execPwrLossNAssert
  with_reducible apply Goes.next
  with_reducible apply Keeps.ite
  exact Keeps.refl _
  lift_lets
  intro x0
  subst x0
  intro x1
  refine Keeps.bindLet (s := s) (x := x1) ?_ (fun h2 => ?_)
  subst x1
  with_reducible refine Keeps.upd ?_ rfl rfl
  exact Keeps.refl _
  clear_value x1
  intro x3
  subst x3
  intro x4
  refine Keeps.bindLet (s := s) (x := x4) ?_ (fun h5 => ?_)
  subst x4
  with_reducible apply Keeps.after (State.modMg_keeps _ _)
  assumption
  clear_value x4
  intro x6
  refine Keeps.bindLet (s := s) (x := x6) ?_ (fun h7 => ?_)
  subst x6
  with_reducible apply Keeps.after (writeVlog_keeps _ _)
  with_reducible apply Keeps.after (State.modClk_keeps _ _)
  assumption
  clear_value x6
  intro x8
  refine Keeps.bindLet (s := s) (x := x8) ?_ (fun h9 => ?_)
  subst x8
  with_reducible apply Keeps.foldl (fun z10 _ => ?_) ?_
  assumption
  with_reducible apply Keeps.ite
  with_reducible apply Keeps.after (linkDown_keeps _ _)
  exact Keeps.refl _
  exact Keeps.refl _
  clear_value x8
  with_reducible apply Keeps.ite
  assumption
  with_reducible apply Keeps.after (State.modSec_keeps _ _)
  assumption

theorem execFlushPage_keeps (s) : Goes s (execFlushPage s) := by
  unfold execFlushPage
  with_reducible apply Goes.next
  split
  exact Keeps.refl _
  with_reducible apply Keeps.ite
  exact Keeps.refl _
  lift_lets
  intro x0
  subst x0
  intro x1
  subst x1
  intro x2
  subst x2
  intro x3
  subst x3
  intro x4
  subst x4
  intro x5
  refine Keeps.bindLet (s := s) (x := x5) ?_ (fun h6 => ?_)
  subst x5
  with_reducible apply Keeps.after (State.modSec_keeps _ _)
  exact Keeps.refl _
  clear_value x5
  with_reducible apply Keeps.ite
  with_reducible apply Keeps.after (State.modSec_keeps _ _)
  assumption
  assumption

theorem execHoldupTick_keeps (mv) (s) : Goes s (execHoldupTick mv s) := by
  unfold execHoldupTick
  with_reducible apply Goes.next
  split
  exact Keeps.refl _
  with_reducible apply Keeps.ite
  exact Keeps.refl _
  lift_lets
  intro x0
  subst x0
  intro x1
  subst x1
  intro x2
  subst x2
  intro x3
  subst x3
  intro x4
  subst x4
  intro x5
  subst x5
  intro x6
  subst x6
  intro x7
  subst x7
  intro x8
  subst x8
  intro x9
  refine Keeps.bindLet (s := s) (x := x9) ?_ (fun h10 => ?_)
  subst x9
  with_reducible apply Keeps.after (State.modMg_keeps _ _)
  exact Keeps.refl _
  clear_value x9
  intro x11
  refine Keeps.bindLet (s := s) (x := x11) ?_ (fun h12 => ?_)
  subst x11
  with_reducible apply Keeps.ite
  with_reducible apply Keeps.after (controlRecord_keeps _ _)
  assumption
  assumption
  clear_value x11
  with_reducible apply Keeps.ite
  with_reducible apply Keeps.after (State.modPw_keeps _ _)
  assumption
  assumption

theorem execPwrLossNDeassert_keeps (s) : Goes s (execPwrLossNDeassert s) := by
  unfold execPwrLossNDeassert
  with_reducible apply Goes.next
  with_reducible apply Keeps.ite
  exact Keeps.refl _
  with_reducible apply Keeps.after (State.modPw_keeps _ _)
  with_reducible refine Keeps.upd ?_ rfl rfl
  exact Keeps.refl _

/-! ### Mgmt -/

theorem say_keeps (s) (ep) (bs) : Keeps s (say s ep bs) := by
  unfold say
  with_reducible apply Keeps.after (State.modMg_keeps _ _)
  exact Keeps.refl _

theorem tellAlerts_keeps (s) (i) : Keeps s (tellAlerts s i) := by
  unfold tellAlerts
  lift_lets
  intro x0
  subst x0
  intro x1
  subst x1
  intro x2
  refine Keeps.bindLet (s := s) (x := x2) ?_ (fun h3 => ?_)
  subst x2
  with_reducible apply Keeps.foldl (fun z4 _ => ?_) ?_
  exact Keeps.refl _
  with_reducible apply Keeps.ite
  with_reducible apply Keeps.after (say_keeps _ _ _)
  exact Keeps.refl _
  exact Keeps.refl _
  clear_value x2
  split
  exact Keeps.refl _
  with_reducible apply Keeps.after (State.modMg_keeps _ _)
  assumption

theorem inheritStage_keeps (s) (i) : Keeps s (inheritStage s i) := by
  unfold inheritStage
  lift_lets
  intro x0
  subst x0
  intro x1
  refine Keeps.bindLet (s := s) (x := x1) ?_ (fun h2 => ?_)
  subst x1
  with_reducible apply Keeps.after (deedClaim_keeps _ _ _)
  exact Keeps.refl _
  clear_value x1
  with_reducible apply Keeps.ite
  with_reducible apply Keeps.after (State.modMg_keeps _ _)
  with_reducible apply Keeps.after (sbCancel_keeps _)
  assumption
  exact Keeps.refl _

theorem claimPrimary_keeps (s) (i) : Keeps s (claimPrimary s i) := by
  unfold claimPrimary
  split
  with_reducible apply Keeps.ite
  with_reducible apply Keeps.after (thermalWatch_keeps _)
  with_reducible apply Keeps.after (inheritStage_keeps _ _)
  refine Keeps.pair1 (by assumption) ?_
  with_reducible apply Keeps.after (deedClaim_keeps _ _ _)
  exact Keeps.refl _
  refine Keeps.pair1 (by assumption) ?_
  with_reducible apply Keeps.after (deedClaim_keeps _ _ _)
  exact Keeps.refl _

theorem execAgentHeartbeat_keeps (i) (s) : Goes s (execAgentHeartbeat i s) := by
  unfold execAgentHeartbeat
  lift_lets
  intro x0
  subst x0
  intro x1
  refine Keeps.bindLet (s := s) (x := x1) ?_ (fun h2 => ?_)
  subst x1
  with_reducible apply Keeps.after (State.modAgent_keeps _ _ _)
  exact Keeps.refl _
  clear_value x1
  intro x3
  refine Keeps.bindLet (s := s) (x := x3) ?_ (fun h4 => ?_)
  subst x3
  with_reducible apply Keeps.after (State.modAgent_keeps _ _ _)
  assumption
  clear_value x3
  with_reducible apply Goes.next
  with_reducible apply Keeps.ite
  exact Keeps.refl _
  with_reducible apply Keeps.ite
  with_reducible apply Keeps.ite
  with_reducible apply Keeps.after (claimPrimary_keeps _ _)
  assumption
  assumption
  with_reducible apply Keeps.ite
  with_reducible apply Keeps.after (tellAlerts_keeps _ _)
  assumption
  with_reducible apply Keeps.after (standDown_keeps _ _)
  assumption

theorem execAgentClaimTimer_keeps (i) (s) : Goes s (execAgentClaimTimer i s) := by
  unfold execAgentClaimTimer
  lift_lets
  intro x0
  subst x0
  intro x1
  subst x1
  with_reducible apply Goes.next
  with_reducible apply Keeps.ite
  exact Keeps.refl _
  with_reducible apply Keeps.ite
  with_reducible apply Keeps.after (claimPrimary_keeps _ _)
  exact Keeps.refl _
  exact Keeps.refl _

theorem portOutcome_keeps (s) (w) (o) : Keeps s (portOutcome s w o) := by
  unfold portOutcome State.modKci
  dsimp -zeta only
  with_reducible refine Keeps.upd ?_ rfl rfl
  exact Keeps.refl _

theorem execDeedReqClaim_keeps (w) (r) (s) : Goes s (execDeedReqClaim w r s) := by
  unfold execDeedReqClaim
  split
  with_reducible apply Goes.next
  with_reducible apply Keeps.after (portOutcome_keeps _ _ _)
  refine Keeps.pair1 (by assumption) ?_
  with_reducible apply Keeps.after (deedClaim_keeps _ _ _)
  exact Keeps.refl _

theorem execDeedReqRelease_keeps (w) (r) (epoch) (s) : Goes s (execDeedReqRelease w r epoch s) := by
  unfold execDeedReqRelease State.modKci
  dsimp -zeta only
  lift_lets
  intro x0
  refine Keeps.bindLet (s := s) (x := x0) ?_ (fun h1 => ?_)
  subst x0
  with_reducible refine Keeps.upd ?_ rfl rfl
  exact Keeps.refl _
  clear_value x0
  with_reducible apply Goes.next
  with_reducible apply Keeps.after (portOutcome_keeps _ _ _)
  with_reducible apply Keeps.after (deedRelease_keeps _ _ _ _)
  assumption

theorem execThermalReleaseTimer_keeps (s) : Goes s (execThermalReleaseTimer s) := by
  unfold execThermalReleaseTimer
  with_reducible apply Goes.next
  split
  with_reducible apply Keeps.ite
  with_reducible apply Keeps.after (dropLimits_keeps _ _)
  exact Keeps.refl _
  exact Keeps.refl _
  exact Keeps.refl _

theorem execFwStageIdleTimeout_keeps (s) : Goes s (execFwStageIdleTimeout s) := by
  unfold execFwStageIdleTimeout
  with_reducible apply Goes.next
  split
  lift_lets
  intro x0
  subst x0
  with_reducible apply Keeps.ite
  with_reducible apply Keeps.after (updateOver_keeps _ _ _)
  with_reducible apply Keeps.after (sbCancel_keeps _)
  exact Keeps.refl _
  exact Keeps.refl _
  exact Keeps.refl _

theorem atEp_keeps (s) (ep) (f) (h_f : FK1 f) : Goes s (atEp s ep f) := by
  unfold atEp
  with_reducible apply Goes.next
  with_reducible apply Keeps.ite
  with_reducible apply Keeps.after (h_f _)
  exact Keeps.refl _
  exact Keeps.refl _

theorem respond_keeps (s) (ep) (code) (bs) : Keeps s (respond s ep code bs) := by
  unfold respond
  with_reducible apply Keeps.after (say_keeps _ _ _)
  exact Keeps.refl _

theorem execSetdasa_keeps (stat) (dyn) (s) : Goes s (execSetdasa stat dyn s) := by
  unfold execSetdasa
  with_reducible apply Goes.next
  with_reducible apply Keeps.ite
  with_reducible apply Keeps.after (State.modAgent_keeps _ _ _)
  exact Keeps.refl _
  with_reducible apply Keeps.ite
  with_reducible apply Keeps.after (State.modAgent_keeps _ _ _)
  exact Keeps.refl _
  exact Keeps.refl _

theorem execSetEndpointId_keeps (ep) (eid) (s) : Goes s (execSetEndpointId ep eid s) := by
  unfold execSetEndpointId
  with_reducible apply atEp_keeps _ _ _ (fun z0 => ?_)
  with_reducible apply Keeps.after (respond_keeps _ _ _ _)
  with_reducible apply Keeps.after (State.modMg_keeps _ _)
  exact Keeps.refl _

theorem execGetEndpointId_keeps (ep) (s) : Goes s (execGetEndpointId ep s) := by
  unfold execGetEndpointId
  with_reducible apply atEp_keeps _ _ _ (fun z0 => ?_)
  with_reducible apply Keeps.after (respond_keeps _ _ _ _)
  exact Keeps.refl _

theorem execGetEndpointUuid_keeps (ep) (s) : Goes s (execGetEndpointUuid ep s) := by
  unfold execGetEndpointUuid
  with_reducible apply atEp_keeps _ _ _ (fun z0 => ?_)
  with_reducible apply Keeps.after (respond_keeps _ _ _ _)
  exact Keeps.refl _

theorem execGetMctpVersionSupport_keeps (ep) (type) (s) : Goes s (execGetMctpVersionSupport ep type s) := by
  unfold execGetMctpVersionSupport
  with_reducible apply atEp_keeps _ _ _ (fun z0 => ?_)
  with_reducible apply Keeps.ite
  with_reducible apply Keeps.after (respond_keeps _ _ _ _)
  exact Keeps.refl _
  with_reducible apply Keeps.after (respond_keeps _ _ _ _)
  exact Keeps.refl _

theorem execGetMessageTypeSupport_keeps (ep) (s) : Goes s (execGetMessageTypeSupport ep s) := by
  unfold execGetMessageTypeSupport
  with_reducible apply atEp_keeps _ _ _ (fun z0 => ?_)
  with_reducible apply Keeps.after (respond_keeps _ _ _ _)
  exact Keeps.refl _

theorem execGetTid_keeps (ep) (s) : Goes s (execGetTid ep s) := by
  unfold execGetTid
  with_reducible apply atEp_keeps _ _ _ (fun z0 => ?_)
  with_reducible apply Keeps.after (respond_keeps _ _ _ _)
  exact Keeps.refl _

theorem execGetPldmVersion_keeps (ep) (type) (s) : Goes s (execGetPldmVersion ep type s) := by
  unfold execGetPldmVersion
  with_reducible apply atEp_keeps _ _ _ (fun z0 => ?_)
  with_reducible apply Keeps.ite
  with_reducible apply Keeps.after (respond_keeps _ _ _ _)
  exact Keeps.refl _
  with_reducible apply Keeps.after (respond_keeps _ _ _ _)
  exact Keeps.refl _

theorem execGetPldmTypes_keeps (ep) (s) : Goes s (execGetPldmTypes ep s) := by
  unfold execGetPldmTypes
  with_reducible apply atEp_keeps _ _ _ (fun z0 => ?_)
  with_reducible apply Keeps.after (respond_keeps _ _ _ _)
  exact Keeps.refl _

theorem execGetPldmCommands_keeps (ep) (type) (s) : Goes s (execGetPldmCommands ep type s) := by
  unfold execGetPldmCommands
  with_reducible apply atEp_keeps _ _ _ (fun z0 => ?_)
  with_reducible apply Keeps.ite
  with_reducible apply Keeps.after (respond_keeps _ _ _ _)
  exact Keeps.refl _
  with_reducible apply Keeps.after (respond_keeps _ _ _ _)
  exact Keeps.refl _

theorem execGetPdr_keeps (ep) (handle) (s) : Goes s (execGetPdr ep handle s) := by
  unfold execGetPdr
  with_reducible apply atEp_keeps _ _ _ (fun z0 => ?_)
  with_reducible apply Keeps.after (respond_keeps _ _ _ _)
  exact Keeps.refl _

theorem execGetSensorReading_keeps (ep) (id) (s) : Goes s (execGetSensorReading ep id s) := by
  unfold execGetSensorReading
  with_reducible apply atEp_keeps _ _ _ (fun z0 => ?_)
  split
  with_reducible apply Keeps.after (respond_keeps _ _ _ _)
  exact Keeps.refl _
  with_reducible apply Keeps.after (respond_keeps _ _ _ _)
  exact Keeps.refl _

theorem execGetStateSensorReadings_keeps (ep) (id) (s) : Goes s (execGetStateSensorReadings ep id s) := by
  unfold execGetStateSensorReadings
  with_reducible apply atEp_keeps _ _ _ (fun z0 => ?_)
  split
  with_reducible apply Keeps.after (respond_keeps _ _ _ _)
  exact Keeps.refl _
  with_reducible apply Keeps.after (respond_keeps _ _ _ _)
  exact Keeps.refl _

theorem commitLimits_keeps (s) (i) (f) : Keeps s (commitLimits s i f) := by
  unfold commitLimits
  lift_lets
  intro x0
  refine Keeps.bindLet (s := s) (x := x0) ?_ (fun h1 => ?_)
  subst x0
  with_reducible apply Keeps.after (State.modPw_keeps _ _)
  exact Keeps.refl _
  clear_value x0
  with_reducible apply Keeps.ite
  with_reducible apply Keeps.after (State.modPw_keeps _ _)
  assumption
  with_reducible apply Keeps.after (State.modPw_keeps _ _)
  assumption

theorem setEffecter_keeps (s) (i) (id) (v) : Keeps s (setEffecter s i id v).1 := by
  unfold setEffecter
  lift_lets
  intro x0
  subst x0
  intro x1
  refine Keeps.bindLet (s := s) (x := x1) ?_ (fun h2 => ?_)
  subst x1
  with_reducible apply Keeps.after (State.modMg_keeps _ _)
  exact Keeps.refl _
  clear_value x1
  intro x3
  refine Keeps.bindLet (s := s) (x := x3) ?_ (fun h4 => ?_)
  subst x3
  with_reducible apply Keeps.after (State.modMg_keeps _ _)
  exact Keeps.refl _
  clear_value x3
  intro x5
  refine Keeps.bindLet (s := s) (x := x5) ?_ (fun h6 => ?_)
  subst x5
  with_reducible apply Keeps.after (deedClaim_keeps _ _ _)
  with_reducible apply Keeps.after (State.modMg_keeps _ _)
  exact Keeps.refl _
  clear_value x5
  with_reducible apply Keeps.iteFst
  with_reducible apply Keeps.iteFst
  with_reducible apply Keeps.fst
  with_reducible apply Keeps.after (commitLimits_keeps _ _ _)
  exact Keeps.refl _
  with_reducible apply Keeps.fst
  exact Keeps.refl _
  with_reducible apply Keeps.iteFst
  with_reducible apply Keeps.iteFst
  with_reducible apply Keeps.fst
  with_reducible apply Keeps.ite
  assumption
  with_reducible apply Keeps.after (dropLimits_keeps _ _)
  assumption
  with_reducible apply Keeps.iteFst
  split
  with_reducible apply Keeps.iteFst
  with_reducible apply Keeps.fst
  with_reducible apply Keeps.after (commitLimits_keeps _ _ _)
  with_reducible apply Keeps.after (State.modMg_keeps _ _)
  refine Keeps.pair1 (by assumption) ?_
  with_reducible apply Keeps.after (deedClaim_keeps _ _ _)
  exact Keeps.refl _
  with_reducible apply Keeps.fst
  refine Keeps.pair1 (by assumption) ?_
  with_reducible apply Keeps.after (deedClaim_keeps _ _ _)
  exact Keeps.refl _
  with_reducible apply Keeps.fst
  exact Keeps.refl _
  with_reducible apply Keeps.iteFst
  with_reducible apply Keeps.iteFst
  with_reducible apply Keeps.fst
  with_reducible apply Keeps.after (commitLimits_keeps _ _ _)
  exact Keeps.refl _
  with_reducible apply Keeps.fst
  exact Keeps.refl _
  with_reducible apply Keeps.iteFst
  with_reducible apply Keeps.iteFst
  with_reducible apply Keeps.fst
  with_reducible apply Keeps.ite
  with_reducible apply Keeps.after (agentDrops_keeps _ _ _)
  assumption
  assumption
  with_reducible apply Keeps.iteFst
  with_reducible apply Keeps.fst
  with_reducible apply Keeps.after (takeSteps_keeps _ _)
  assumption
  with_reducible apply Keeps.fst
  exact Keeps.refl _
  with_reducible apply Keeps.fst
  exact Keeps.refl _

theorem execSetNumericEffecterValue_keeps (ep) (id) (v) (s) : Goes s (execSetNumericEffecterValue ep id v s) := by
  unfold execSetNumericEffecterValue
  with_reducible apply atEp_keeps _ _ _ (fun z0 => ?_)
  split
  with_reducible apply Keeps.after (respond_keeps _ _ _ _)
  exact Keeps.refl _
  split
  with_reducible apply Keeps.after (respond_keeps _ _ _ _)
  refine Keeps.pair1 (by assumption) ?_
  with_reducible apply Keeps.after (setEffecter_keeps _ _ _ _)
  exact Keeps.refl _

theorem execGetNumericEffecterValue_keeps (ep) (id) (s) : Goes s (execGetNumericEffecterValue ep id s) := by
  unfold execGetNumericEffecterValue
  with_reducible apply atEp_keeps _ _ _ (fun z0 => ?_)
  split
  with_reducible apply Keeps.after (respond_keeps _ _ _ _)
  exact Keeps.refl _
  split
  with_reducible apply Keeps.after (respond_keeps _ _ _ _)
  exact Keeps.refl _
  with_reducible apply Keeps.after (respond_keeps _ _ _ _)
  exact Keeps.refl _

theorem execSetEventReceiver_keeps (ep) (eid) (s) : Goes s (execSetEventReceiver ep eid s) := by
  unfold execSetEventReceiver
  with_reducible apply atEp_keeps _ _ _ (fun z0 => ?_)
  with_reducible apply Keeps.after (respond_keeps _ _ _ _)
  with_reducible apply Keeps.after (State.modMg_keeps _ _)
  exact Keeps.refl _

theorem execPlatformEventAck_keeps (n) (s) : Goes s (execPlatformEventAck n s) := by
  unfold execPlatformEventAck
  with_reducible apply Goes.next
  with_reducible apply Keeps.ite
  exact Keeps.refl _
  with_reducible apply Keeps.after (State.modMg_keeps _ _)
  exact Keeps.refl _

theorem modP5_keeps (s) (ep) (f) : Keeps s (modP5 s ep f) := by
  unfold modP5
  with_reducible apply Keeps.after (State.modMg_keeps _ _)
  exact Keeps.refl _

theorem atP5_keeps (s) (ep) (f) (h_f : FK1 f) : Goes s (atP5 s ep f) := by
  unfold atP5
  with_reducible apply atEp_keeps _ _ _ (fun z0 => ?_)
  with_reducible apply Keeps.ite
  with_reducible apply Keeps.after (respond_keeps _ _ _ _)
  exact Keeps.refl _
  with_reducible apply Keeps.after (h_f _)
  exact Keeps.refl _

theorem inState_keeps (s) (ep) (states) (f) (h_f : FK1 f) : Goes s (inState s ep states f) := by
  unfold inState
  with_reducible apply atP5_keeps _ _ _ (fun z0 => ?_)
  with_reducible apply Keeps.ite
  with_reducible apply Keeps.after (h_f _)
  exact Keeps.refl _
  with_reducible apply Keeps.after (respond_keeps _ _ _ _)
  exact Keeps.refl _

theorem execQueryDeviceIdentifiers_keeps (ep) (s) : Goes s (execQueryDeviceIdentifiers ep s) := by
  unfold execQueryDeviceIdentifiers
  with_reducible apply atP5_keeps _ _ _ (fun z0 => ?_)
  with_reducible apply Keeps.after (respond_keeps _ _ _ _)
  exact Keeps.refl _

theorem execGetFirmwareParameters_keeps (ep) (s) : Goes s (execGetFirmwareParameters ep s) := by
  unfold execGetFirmwareParameters
  with_reducible apply atP5_keeps _ _ _ (fun z0 => ?_)
  with_reducible apply Keeps.after (respond_keeps _ _ _ _)
  exact Keeps.refl _

theorem execRequestUpdate_keeps (ep) (s) : Goes s (execRequestUpdate ep s) := by
  unfold execRequestUpdate
  with_reducible apply inState_keeps _ _ _ _ (fun z0 => ?_)
  split
  with_reducible apply Keeps.ite
  with_reducible apply Keeps.after (respond_keeps _ _ _ _)
  with_reducible apply Keeps.after (modP5_keeps _ _ _)
  refine Keeps.pair1 (by assumption) ?_
  with_reducible apply Keeps.after (deedClaim_keeps _ _ _)
  exact Keeps.refl _
  with_reducible apply Keeps.after (respond_keeps _ _ _ _)
  refine Keeps.pair1 (by assumption) ?_
  with_reducible apply Keeps.after (deedClaim_keeps _ _ _)
  exact Keeps.refl _

theorem execPassComponentTable_keeps (ep) (s) : Goes s (execPassComponentTable ep s) := by
  unfold execPassComponentTable
  with_reducible apply inState_keeps _ _ _ _ (fun z0 => ?_)
  with_reducible apply Keeps.after (respond_keeps _ _ _ _)
  with_reducible apply Keeps.after (modP5_keeps _ _ _)
  exact Keeps.refl _

theorem execUpdateComponent_keeps (ep) (id) (size) (s) : Goes s (execUpdateComponent ep id size s) := by
  unfold execUpdateComponent
  with_reducible apply inState_keeps _ _ _ _ (fun z0 => ?_)
  with_reducible apply Keeps.ite
  with_reducible apply Keeps.after (respond_keeps _ _ _ _)
  exact Keeps.refl _
  lift_lets
  intro x1
  refine Keeps.bindLet (s := z0) (x := x1) ?_ (fun h2 => ?_)
  subst x1
  with_reducible apply Keeps.ite
  with_reducible apply Keeps.after (sbOpen_keeps _ _ _)
  exact Keeps.refl _
  exact Keeps.refl _
  clear_value x1
  with_reducible apply Keeps.after (respond_keeps _ _ _ _)
  with_reducible apply Keeps.after (modP5_keeps _ _ _)
  assumption

theorem execRequestFirmwareData_keeps (ep) (data) (s) : Goes s (execRequestFirmwareData ep data s) := by
  unfold execRequestFirmwareData
  with_reducible apply inState_keeps _ _ _ _ (fun z0 => ?_)
  lift_lets
  intro x1
  subst x1
  intro x2
  subst x2
  intro x3
  refine Keeps.bindLet (s := z0) (x := x3) ?_ (fun h4 => ?_)
  subst x3
  with_reducible apply Keeps.ite
  with_reducible apply Keeps.after (modP5_keeps _ _ _)
  exact Keeps.refl _
  with_reducible apply Keeps.after (stageChunk_keeps _ _ _ _)
  exact Keeps.refl _
  clear_value x3
  with_reducible apply Keeps.after (modP5_keeps _ _ _)
  assumption

theorem execTransferComplete_keeps (ep) (s) : Goes s (execTransferComplete ep s) := by
  unfold execTransferComplete
  with_reducible apply inState_keeps _ _ _ _ (fun z0 => ?_)
  lift_lets
  intro x1
  subst x1
  intro x2
  refine Keeps.bindLet (s := z0) (x := x2) ?_ (fun h3 => ?_)
  subst x2
  with_reducible apply Keeps.ite
  exact Keeps.refl _
  with_reducible apply Keeps.after (stageChunk_keeps _ _ _ _)
  exact Keeps.refl _
  clear_value x2
  with_reducible apply Keeps.after (respond_keeps _ _ _ _)
  with_reducible apply Keeps.after (modP5_keeps _ _ _)
  assumption

theorem execVerifyComplete_keeps (ep) (s) : Goes s (execVerifyComplete ep s) := by
  unfold execVerifyComplete
  with_reducible apply inState_keeps _ _ _ _ (fun z0 => ?_)
  lift_lets
  intro x1
  subst x1
  intro x2
  subst x2
  with_reducible apply Keeps.ite
  with_reducible apply Keeps.after (respond_keeps _ _ _ _)
  exact Keeps.refl _
  with_reducible apply Keeps.after (respond_keeps _ _ _ _)
  with_reducible apply Keeps.after (modP5_keeps _ _ _)
  exact Keeps.refl _

theorem execApplyComplete_keeps (ep) (s) : Goes s (execApplyComplete ep s) := by
  unfold execApplyComplete
  with_reducible apply inState_keeps _ _ _ _ (fun z0 => ?_)
  lift_lets
  intro x1
  subst x1
  intro x2
  refine Keeps.bindLet (s := z0) (x := x2) ?_ (fun h3 => ?_)
  subst x2
  with_reducible apply Keeps.ite
  with_reducible apply Keeps.after (readBoard_keeps _)
  with_reducible apply Keeps.after (State.modMg_keeps _ _)
  exact Keeps.refl _
  exact Keeps.refl _
  clear_value x2
  with_reducible apply Keeps.after (respond_keeps _ _ _ _)
  with_reducible apply Keeps.after (modP5_keeps _ _ _)
  assumption

theorem execActivateFirmware_keeps (ep) (pack) (s) : Goes s (execActivateFirmware ep pack s) := by
  unfold execActivateFirmware
  with_reducible apply inState_keeps _ _ _ _ (fun z0 => ?_)
  split
  split
  lift_lets
  intro x1
  refine Keeps.bindLet (s := z0) (x := x1) ?_ (fun h2 => ?_)
  subst x1
  with_reducible apply Keeps.ite
  with_reducible apply Keeps.after (updateOver_keeps _ _ _)
  refine Keeps.pair1 (by assumption) ?_
  with_reducible apply Keeps.after (activatePack_keeps _ _)
  exact Keeps.refl _
  refine Keeps.pair1 (by assumption) ?_
  with_reducible apply Keeps.after (activatePack_keeps _ _)
  exact Keeps.refl _
  clear_value x1
  with_reducible apply Keeps.after (respond_keeps _ _ _ _)
  assumption
  with_reducible apply Keeps.ite
  with_reducible apply Keeps.ite
  with_reducible apply Keeps.after (respond_keeps _ _ _ _)
  with_reducible apply Keeps.after (modP5_keeps _ _ _)
  with_reducible apply Keeps.after (beginActivation_keeps _)
  exact Keeps.refl _
  with_reducible apply Keeps.after (respond_keeps _ _ _ _)
  exact Keeps.refl _
  with_reducible apply Keeps.after (respond_keeps _ _ _ _)
  with_reducible apply Keeps.after (updateOver_keeps _ _ _)
  exact Keeps.refl _

theorem execGetStatus_keeps (ep) (s) : Goes s (execGetStatus ep s) := by
  unfold execGetStatus
  with_reducible apply atP5_keeps _ _ _ (fun z0 => ?_)
  lift_lets
  intro x1
  subst x1
  with_reducible apply Keeps.after (respond_keeps _ _ _ _)
  exact Keeps.refl _

theorem execCancelUpdate_keeps (ep) (s) : Goes s (execCancelUpdate ep s) := by
  unfold execCancelUpdate
  with_reducible apply inState_keeps _ _ _ _ (fun z0 => ?_)
  with_reducible apply Keeps.after (respond_keeps _ _ _ _)
  with_reducible apply Keeps.after (updateOver_keeps _ _ _)
  with_reducible apply Keeps.after (sbCancel_keeps _)
  exact Keeps.refl _

theorem atSpdm_keeps (s) (ep) (least) (f) (h_f : FK1 f) : Goes s (atSpdm s ep least f) := by
  unfold atSpdm
  with_reducible apply atEp_keeps _ _ _ (fun z0 => ?_)
  with_reducible apply Keeps.ite
  with_reducible apply Keeps.after (respond_keeps _ _ _ _)
  exact Keeps.refl _
  with_reducible apply Keeps.after (h_f _)
  exact Keeps.refl _

theorem spdmStep_keeps (s) (ep) (n) : Keeps s (spdmStep s ep n) := by
  unfold spdmStep
  with_reducible apply Keeps.after (State.modMg_keeps _ _)
  exact Keeps.refl _

theorem execGetVersion_keeps (ep) (s) : Goes s (execGetVersion ep s) := by
  unfold execGetVersion
  with_reducible apply atSpdm_keeps _ _ _ _ (fun z0 => ?_)
  with_reducible apply Keeps.after (respond_keeps _ _ _ _)
  with_reducible apply Keeps.after (spdmStep_keeps _ _ _)
  exact Keeps.refl _

theorem execGetCapabilities_keeps (ep) (s) : Goes s (execGetCapabilities ep s) := by
  unfold execGetCapabilities
  with_reducible apply atSpdm_keeps _ _ _ _ (fun z0 => ?_)
  with_reducible apply Keeps.after (respond_keeps _ _ _ _)
  with_reducible apply Keeps.after (spdmStep_keeps _ _ _)
  exact Keeps.refl _

theorem execNegotiateAlgorithms_keeps (ep) (s) : Goes s (execNegotiateAlgorithms ep s) := by
  unfold execNegotiateAlgorithms
  with_reducible apply atSpdm_keeps _ _ _ _ (fun z0 => ?_)
  with_reducible apply Keeps.after (respond_keeps _ _ _ _)
  with_reducible apply Keeps.after (spdmStep_keeps _ _ _)
  exact Keeps.refl _

theorem execGetDigests_keeps (ep) (s) : Goes s (execGetDigests ep s) := by
  unfold execGetDigests
  with_reducible apply atSpdm_keeps _ _ _ _ (fun z0 => ?_)
  with_reducible apply Keeps.after (respond_keeps _ _ _ _)
  exact Keeps.refl _

theorem execGetCertificate_keeps (ep) (slot) (off) (len) (s) : Goes s (execGetCertificate ep slot off len s) := by
  unfold execGetCertificate
  with_reducible apply atSpdm_keeps _ _ _ _ (fun z0 => ?_)
  with_reducible apply Keeps.ite
  with_reducible apply Keeps.after (respond_keeps _ _ _ _)
  exact Keeps.refl _
  with_reducible apply Keeps.after (respond_keeps _ _ _ _)
  exact Keeps.refl _

theorem execChallenge_keeps (ep) (slot) (nonce) (s) : Goes s (execChallenge ep slot nonce s) := by
  unfold execChallenge
  with_reducible apply atSpdm_keeps _ _ _ _ (fun z0 => ?_)
  with_reducible apply Keeps.ite
  with_reducible apply Keeps.after (respond_keeps _ _ _ _)
  exact Keeps.refl _
  lift_lets
  intro x1
  subst x1
  with_reducible apply Keeps.after (respond_keeps _ _ _ _)
  exact Keeps.refl _

theorem execGetMeasurements_keeps (ep) (index) (nonce) (s) : Goes s (execGetMeasurements ep index nonce s) := by
  unfold execGetMeasurements
  with_reducible apply atSpdm_keeps _ _ _ _ (fun z0 => ?_)
  lift_lets
  intro x1
  subst x1
  intro x2
  subst x2
  with_reducible apply Keeps.ite
  with_reducible apply Keeps.after (respond_keeps _ _ _ _)
  exact Keeps.refl _
  with_reducible apply Keeps.after (respond_keeps _ _ _ _)
  exact Keeps.refl _

/-! ### Telemetry -/

theorem writeRecord_keeps (s r rest) (h : rest.length ≤ s.tel.queue.length) : Keeps s (writeRecord s r rest) := by
  unfold writeRecord
  extract_lets n bs t src u v
  have ht : Keeps s t := State.write_keeps _ _ _ _
  have hu : Keeps s u := ht.trans ⟨rfl, fun g => ⟨g.1, g.2, g.3, Nat.le_trans h g.4, g.5⟩⟩
  have hv : Keeps s v := Keeps.after (State.write_keeps _ _ _ _) hu
  exact Keeps.ite hv (Keeps.after (eventTo_keeps _ _ _ _) hv)

theorem execAcCtrlSample_keeps (c) (gap) (s) : Goes s (execAcCtrlSample c gap s) := by
  unfold execAcCtrlSample
  with_reducible apply onCore_keeps _ _ _ _ (fun z0 => ?_)
  with_reducible apply Keeps.after (State.modCore_keeps _ _ _)
  exact Keeps.refl _

theorem execAcCtrlClear_keeps (c) (gap) (s) : Goes s (execAcCtrlClear c gap s) := by
  unfold execAcCtrlClear
  with_reducible apply onCore_keeps _ _ _ _ (fun z0 => ?_)
  with_reducible apply Keeps.after (State.modCore_keeps _ _ _)
  exact Keeps.refl _

theorem execAcSampleTick_keeps (s) : Goes s (execAcSampleTick s) := by
  unfold execAcSampleTick
  with_reducible apply Goes.next
  with_reducible apply Keeps.foldl (fun z0 _ => ?_) ?_
  exact Keeps.refl _
  with_reducible apply Keeps.ite
  exact Keeps.refl _
  with_reducible apply Keeps.after (State.modCore_keeps _ _ _)
  exact Keeps.refl _

theorem execAcLoRead_keeps (c) (b) (i) (gap) (s) : Goes s (execAcLoRead c b i gap s) := by
  unfold execAcLoRead
  with_reducible apply readCore_keeps _ _ _ _ (fun z0 => ?_)
  lift_lets
  intro x1
  subst x1
  with_reducible apply Keeps.after (State.returns_keeps _ _)
  with_reducible apply Keeps.after (State.modCore_keeps _ _ _)
  exact Keeps.refl _

theorem fbCtrlWrite_keeps (s) (c) (v) : Keeps s (fbCtrlWrite s c v) := by
  unfold fbCtrlWrite
  lift_lets
  intro x0
  subst x0
  intro x1
  subst x1
  intro x2
  refine Keeps.bindLet (s := s) (x := x2) ?_ (fun h3 => ?_)
  subst x2
  with_reducible apply Keeps.after (modFb_keeps _ _ _)
  exact Keeps.refl _
  clear_value x2
  intro x4
  refine Keeps.bindLet (s := s) (x := x4) ?_ (fun h5 => ?_)
  subst x4
  with_reducible apply Keeps.ite
  with_reducible apply Keeps.ite
  assumption
  with_reducible apply Keeps.after (fbEnable_keeps _ _)
  assumption
  with_reducible apply Keeps.after (modFb_keeps _ _ _)
  assumption
  clear_value x4
  with_reducible apply Keeps.ite
  with_reducible apply Keeps.after (fbTrigger_keeps _ _ _)
  assumption
  assumption

theorem execFbCtrlEnable_keeps (c) (v) (gap) (s) : Goes s (execFbCtrlEnable c v gap s) := by
  unfold execFbCtrlEnable
  with_reducible apply onCore_keeps _ _ _ _ (fun z0 => ?_)
  with_reducible apply Keeps.after (fbCtrlWrite_keeps _ _ _)
  exact Keeps.refl _

theorem execFbCtrlTrigger_keeps (c) (v) (gap) (s) : Goes s (execFbCtrlTrigger c v gap s) := by
  unfold execFbCtrlTrigger
  with_reducible apply onCore_keeps _ _ _ _ (fun z0 => ?_)
  with_reducible apply Keeps.after (fbCtrlWrite_keeps _ _ _)
  exact Keeps.refl _

theorem execFieldBookDrain_keeps (c) (s) : Goes s (execFieldBookDrain c s) := by
  unfold execFieldBookDrain
  lift_lets
  intro x0
  subst x0
  intro x1
  subst x1
  intro x2
  subst x2
  intro x3
  subst x3
  intro x4
  subst x4
  intro x5
  refine Keeps.bindLet (s := s) (x := x5) ?_ (fun h6 => ?_)
  subst x5
  with_reducible apply Keeps.foldl (fun z7 _ => ?_) ?_
  exact Keeps.refl _
  with_reducible apply Keeps.after (State.write_keeps _ _ _ _)
  exact Keeps.refl _
  clear_value x5
  intro x8
  refine Keeps.bindLet (s := s) (x := x8) ?_ (fun h9 => ?_)
  subst x8
  with_reducible apply Keeps.after (State.write_keeps _ _ _ _)
  assumption
  clear_value x8
  intro x10
  refine Keeps.bindLet (s := s) (x := x10) ?_ (fun h11 => ?_)
  subst x10
  with_reducible apply Keeps.after (State.write_keeps _ _ _ _)
  assumption
  clear_value x10
  with_reducible apply Goes.next
  with_reducible apply Keeps.ite
  exact Keeps.refl _
  with_reducible apply Keeps.ite
  with_reducible apply Keeps.after (record_keeps _ _ _ _ _)
  with_reducible apply Keeps.after (modFb_keeps _ _ _)
  exact Keeps.refl _
  with_reducible apply Keeps.ite
  exact Keeps.refl _
  with_reducible apply Keeps.after (modFb_keeps _ _ _)
  assumption

theorem State.modSnap_keeps (s) (f) : Keeps s (State.modSnap s f) := by
  unfold State.modSnap
  with_reducible refine Keeps.upd ?_ rfl rfl
  exact Keeps.refl _

theorem snapTrigger_keeps (s) (b) : Keeps s (snapTrigger s b) := by
  unfold snapTrigger
  lift_lets
  intro x0
  subst x0
  with_reducible apply Keeps.ite
  with_reducible apply Keeps.after (State.modSnap_keeps _ _)
  exact Keeps.refl _
  with_reducible apply Keeps.ite
  with_reducible apply Keeps.after (State.modSnap_keeps _ _)
  exact Keeps.refl _
  split
  with_reducible apply Keeps.after (State.modSnap_keeps _ _)
  exact Keeps.refl _
  with_reducible apply Keeps.after (State.modSnap_keeps _ _)
  exact Keeps.refl _

theorem execSnapshotTriggerWrite_keeps (w) (s) : Goes s (execSnapshotTriggerWrite w s) := by
  unfold execSnapshotTriggerWrite
  with_reducible apply Goes.next
  with_reducible apply Keeps.ite
  with_reducible apply Keeps.after (snapTrigger_keeps _ _)
  exact Keeps.refl _
  exact Keeps.refl _

theorem execWatchdog_keeps (c) (s) : Goes s (execWatchdog c s) := by
  unfold execWatchdog
  lift_lets
  intro x0
  subst x0
  intro x1
  subst x1
  intro x2
  refine Keeps.bindLet (s := s) (x := x2) ?_ (fun h3 => ?_)
  subst x2
  with_reducible apply Keeps.after (State.modCore_keeps _ _ _)
  exact Keeps.refl _
  clear_value x2
  with_reducible apply Goes.next
  with_reducible apply Keeps.ite
  exact Keeps.refl _
  with_reducible apply Keeps.after (snapTrigger_keeps _ _)
  with_reducible apply Keeps.after (recordCore_keeps _ _ _ _)
  assumption

theorem execSnapshotSample_keeps (s) : Goes s (execSnapshotSample s) := by
  unfold execSnapshotSample
  with_reducible apply Goes.next
  split
  with_reducible apply Keeps.ite
  exact Keeps.refl _
  lift_lets
  intro x0
  refine Keeps.bindLet (s := s) (x := x0) ?_ (fun h1 => ?_)
  subst x0
  with_reducible apply Keeps.after (State.modSnap_keeps _ _)
  exact Keeps.refl _
  clear_value x0
  with_reducible apply Keeps.foldl (fun z2 _ => ?_) ?_
  assumption
  with_reducible apply Keeps.ite
  with_reducible apply Keeps.after (fbTrigger_keeps _ _ _)
  exact Keeps.refl _
  exact Keeps.refl _
  exact Keeps.refl _

theorem execSnapshotCopyDone_keeps (s) : Goes s (execSnapshotCopyDone s) := by
  unfold execSnapshotCopyDone
  with_reducible apply Goes.next
  with_reducible apply Keeps.ite
  exact Keeps.refl _
  lift_lets
  intro x0
  subst x0
  intro x1
  refine Keeps.bindLet (s := s) (x := x1) ?_ (fun h2 => ?_)
  subst x1
  with_reducible apply Keeps.clear
  exact Keeps.refl _
  clear_value x1
  intro x3
  refine Keeps.bindLet (s := s) (x := x3) ?_ (fun h4 => ?_)
  subst x3
  with_reducible apply Keeps.foldl (fun z5 _ => ?_) ?_
  assumption
  with_reducible apply Keeps.after (State.write_keeps _ _ _ _)
  exact Keeps.refl _
  clear_value x3
  intro x6
  refine Keeps.bindLet (s := s) (x := x6) ?_ (fun h7 => ?_)
  subst x6
  with_reducible apply Keeps.after (State.modSnap_keeps _ _)
  assumption
  clear_value x6
  intro x8
  refine Keeps.bindLet (s := s) (x := x8) ?_ (fun h9 => ?_)
  subst x8
  with_reducible apply Keeps.after (record_keeps _ _ _ _ _)
  assumption
  clear_value x8
  intro x10
  refine Keeps.bindLet (s := s) (x := x10) ?_ (fun h11 => ?_)
  subst x10
  with_reducible apply Keeps.ite
  assumption
  with_reducible apply Keeps.after (State.modSnap_keeps _ _)
  assumption
  clear_value x10
  with_reducible apply Keeps.foldl (fun z12 _ => ?_) ?_
  assumption
  with_reducible apply Keeps.ite
  with_reducible apply Keeps.after (finish_keeps _ _ _ _ _)
  exact Keeps.refl _
  with_reducible apply Keeps.after (setLive_keeps _ _)
  exact Keeps.refl _

theorem execTjLoop_keeps (temps) (s) : Goes s (execTjLoop temps s) := by
  unfold execTjLoop
  lift_lets
  intro x0
  refine Keeps.bindLet (s := s) (x := x0) ?_ (fun h1 => ?_)
  subst x0
  with_reducible apply Keeps.after (State.modTh_keeps _ _)
  exact Keeps.refl _
  clear_value x0
  intro x2
  refine Keeps.bindLet (s := s) (x := x2) ?_ (fun h3 => ?_)
  subst x2
  with_reducible apply Keeps.after (noteMean_keeps _)
  assumption
  clear_value x2
  intro x4
  refine Keeps.bindLet (s := s) (x := x4) ?_ (fun h5 => ?_)
  subst x4
  with_reducible apply Keeps.ite
  assumption
  with_reducible apply Keeps.after (setTarget_keeps _)
  with_reducible apply Keeps.after (tjStep_keeps _)
  assumption
  clear_value x4
  with_reducible apply Goes.next
  with_reducible apply Keeps.after (record_keeps _ _ _ _ _)
  assumption

end Sys2Proof.Machine
end

