-- ==== Sys2Proof/Laws/KeepsSettings.lean ====
section
/-! SUPPORT. One lemma per operation: it keeps what the state must keep. Here: settings, transactions, resets and the control path. -/

namespace Sys2Proof.Machine

/-! ### Settings -/

theorem setPlat_keeps (s) (i) (e) (both) : Keeps s (setPlat s i e both) := by
  unfold setPlat
  with_reducible refine Keeps.upd ?_ rfl rfl
  exact Keeps.refl _

theorem setParcels_keeps (s) (p) (mask) (both) : Keeps s (setParcels s p mask both) := by
  unfold setParcels
  lift_lets
  intro x0
  subst x0
  intro x1
  subst x1
  intro x2
  refine Keeps.bindLet (s := s) (x := x2) ?_ (fun h3 => ?_)
  subst x2
  with_reducible refine Keeps.upd ?_ rfl rfl
  exact Keeps.refl _
  clear_value x2
  intro x4
  subst x4
  intro x5
  subst x5
  intro x6
  refine Keeps.bindLet (s := s) (x := x6) ?_ (fun h7 => ?_)
  subst x6
  with_reducible refine Keeps.upd ?_ rfl rfl
  assumption
  clear_value x6
  with_reducible apply Keeps.ite
  assumption
  with_reducible apply Keeps.foldl (fun z8 _ => ?_) ?_
  assumption
  with_reducible apply Keeps.ite
  exact Keeps.refl _
  with_reducible apply Keeps.after (coreReassigned_keeps _ _)
  exact Keeps.refl _

theorem setPolicy_keeps (s) (p) (b) : Keeps s (setPolicy s p b) := by
  unfold setPolicy
  lift_lets
  intro x0
  subst x0
  intro x1
  refine Keeps.bindLet (s := s) (x := x1) ?_ (fun h2 => ?_)
  subst x1
  with_reducible apply Keeps.after (State.modPart_keeps _ _ _)
  exact Keeps.refl _
  clear_value x1
  with_reducible apply Keeps.after (dsFresh_keeps _ _ _)
  assumption

theorem setGroup_keeps (s) (p) (c) : Keeps s (setGroup s p c) := by
  unfold setGroup
  lift_lets
  intro x0
  subst x0
  with_reducible apply Keeps.after (modUc_keeps _ _ _)
  exact Keeps.refl _

theorem setPower_keeps (s) (c) : Keeps s (setPower s c) := by
  unfold setPower
  lift_lets
  intro x0
  subst x0
  with_reducible apply Keeps.after (limitsTook_keeps _)
  with_reducible apply Keeps.after (State.modPw_keeps _ _)
  exact Keeps.refl _

theorem setSteps_keeps (s) (c) : Keeps s (setSteps s c) := by
  unfold setSteps
  with_reducible apply Keeps.after (applyMstepPolicy_keeps _)
  with_reducible apply Keeps.after (State.modPw_keeps _ _)
  exact Keeps.refl _

theorem wakeCheck_keeps (s) : Keeps s (wakeCheck s) := by
  unfold wakeCheck
  with_reducible apply Keeps.ite
  lift_lets
  intro x0
  refine Keeps.bindLet (s := s) (x := x0) ?_ (fun h1 => ?_)
  subst x0
  with_reducible apply Keeps.after (State.modPw_keeps _ _)
  exact Keeps.refl _
  clear_value x0
  intro x2
  subst x2
  with_reducible refine Keeps.upd ?_ rfl rfl
  assumption
  exact Keeps.refl _

theorem setTol_keeps (s) (c) : Keeps s (setTol s c) := by
  unfold setTol
  with_reducible apply Keeps.after (wakeCheck_keeps _)
  with_reducible apply Keeps.after (State.modFn_keeps _ _ _)
  exact Keeps.refl _

theorem writePortCfg_keeps (s) (n) (v) : Keeps s (writePortCfg s n v) := by
  unfold writePortCfg
  lift_lets
  intro x0
  subst x0
  intro x1
  refine Keeps.bindLet (s := s) (x := x1) ?_ (fun h2 => ?_)
  subst x1
  with_reducible apply Keeps.after (modPort_keeps _ _ _)
  exact Keeps.refl _
  clear_value x1
  intro x3
  subst x3
  with_reducible apply Keeps.ite
  with_reducible apply Keeps.ite
  assumption
  with_reducible apply Keeps.after (linkDown_keeps _ _)
  assumption
  with_reducible apply Keeps.ite
  assumption
  with_reducible apply Keeps.ite
  with_reducible apply Keeps.after (askSwitch_keeps _ _ _)
  assumption
  with_reducible apply Keeps.ite
  with_reducible apply Keeps.after (askSwitch_keeps _ _ _)
  assumption
  assumption

theorem setIdentity_keeps (s) (id) (lx) (ly) (lz) : Keeps s (setIdentity s id lx ly lz) := by
  unfold setIdentity
  lift_lets
  intro x0
  refine Keeps.bindLet (s := s) (x := x0) ?_ (fun h1 => ?_)
  subst x0
  with_reducible apply Keeps.after (State.modFab_keeps _ _)
  exact Keeps.refl _
  clear_value x0
  with_reducible apply Keeps.foldl (fun z2 _ => ?_) ?_
  assumption
  lift_lets
  intro x3
  refine Keeps.bindLet (s := z2) (x := x3) ?_ (fun h4 => ?_)
  subst x3
  with_reducible apply Keeps.after (sendHs_keeps _ _ _ _)
  exact Keeps.refl _
  clear_value x3
  with_reducible apply Keeps.ite
  exact Keeps.refl _
  with_reducible apply Keeps.after (judgePeer_keeps _ _ _)
  assumption

theorem setFabric_keeps (s) (c) : Keeps s (setFabric s c) := by
  unfold setFabric
  lift_lets
  intro x0
  subst x0
  split
  with_reducible apply Keeps.after (setIdentity_keeps _ _ _ _ _)
  exact Keeps.refl _
  split
  with_reducible apply Keeps.after (State.modPart_keeps _ _ _)
  exact Keeps.refl _
  exact Keeps.refl _
  with_reducible apply Keeps.after (State.modFab_keeps _ _)
  exact Keeps.refl _
  with_reducible apply Keeps.after (State.modFab_keeps _ _)
  exact Keeps.refl _
  with_reducible apply Keeps.after (modBar_keeps _ _ _)
  exact Keeps.refl _
  split
  with_reducible apply Keeps.after (modXc_keeps _ _ _)
  exact Keeps.refl _
  exact Keeps.refl _
  split
  with_reducible apply Keeps.after (writePortCfg_keeps _ _ _)
  exact Keeps.refl _
  exact Keeps.refl _
  exact Keeps.refl _

theorem setRoutes_keeps (s) (c) (both) : Keeps s (setRoutes s c both) := by
  unfold setRoutes
  lift_lets
  intro x0
  subst x0
  intro x1
  subst x1
  with_reducible apply Keeps.after (State.modFab_keeps _ _)
  exact Keeps.refl _

theorem execRouteTableApply_keeps (s) : Goes s (execRouteTableApply s) := by
  unfold execRouteTableApply
  with_reducible apply Goes.next
  split
  exact Keeps.refl _
  with_reducible apply Keeps.ite
  lift_lets
  intro x0
  refine Keeps.bindLet (s := s) (x := x0) ?_ (fun h1 => ?_)
  subst x0
  with_reducible apply Keeps.after (State.modFab_keeps _ _)
  exact Keeps.refl _
  clear_value x0
  with_reducible apply Keeps.foldl (fun z2 _ => ?_) ?_
  assumption
  with_reducible apply Keeps.after (finish_keeps _ _ _ _ _)
  exact Keeps.refl _
  exact Keeps.refl _

theorem settle_keeps (s) (c) : Keeps s (settle s c) := by
  unfold settle
  split
  split
  with_reducible apply Keeps.after (setParcels_keeps _ _ _ _)
  exact Keeps.refl _
  exact Keeps.refl _
  split
  with_reducible apply Keeps.after (setPlat_keeps _ _ _ _)
  exact Keeps.refl _
  exact Keeps.refl _
  split
  with_reducible apply Keeps.after (setPlat_keeps _ _ _ _)
  exact Keeps.refl _
  exact Keeps.refl _
  split
  with_reducible apply Keeps.after (setPolicy_keeps _ _ _)
  exact Keeps.refl _
  exact Keeps.refl _
  split
  with_reducible apply Keeps.after (setGroup_keeps _ _ _)
  exact Keeps.refl _
  exact Keeps.refl _
  with_reducible apply Keeps.after (setPower_keeps _ _)
  exact Keeps.refl _
  with_reducible apply Keeps.after (setSteps_keeps _ _)
  exact Keeps.refl _
  with_reducible apply Keeps.after (setTol_keeps _ _)
  exact Keeps.refl _
  with_reducible apply Keeps.after (setFabric_keeps _ _)
  exact Keeps.refl _
  with_reducible apply Keeps.after (setRoutes_keeps _ _ _)
  exact Keeps.refl _
  exact Keeps.refl _

theorem restore_keeps (v) (s) (c) : Keeps s (restore v s c) := by
  unfold restore
  split
  lift_lets
  intro x0
  subst x0
  intro x1
  subst x1
  intro x2
  subst x2
  intro x3
  subst x3
  intro x4
  refine Keeps.bindLet (s := s) (x := x4) ?_ (fun h5 => ?_)
  subst x4
  with_reducible refine Keeps.upd ?_ rfl rfl
  exact Keeps.refl _
  clear_value x4
  with_reducible apply Keeps.foldl (fun z6 _ => ?_) ?_
  assumption
  with_reducible apply Keeps.ite
  exact Keeps.refl _
  with_reducible apply Keeps.after (coreReassigned_keeps _ _)
  exact Keeps.refl _
  split
  with_reducible refine Keeps.upd ?_ rfl rfl
  exact Keeps.refl _
  exact Keeps.refl _
  split
  with_reducible refine Keeps.upd ?_ rfl rfl
  exact Keeps.refl _
  exact Keeps.refl _
  split
  with_reducible apply Keeps.after (State.modPart_keeps _ _ _)
  exact Keeps.refl _
  exact Keeps.refl _
  split
  with_reducible apply Keeps.after (modUc_keeps _ _ _)
  exact Keeps.refl _
  exact Keeps.refl _
  with_reducible apply Keeps.after (State.modPw_keeps _ _)
  exact Keeps.refl _
  with_reducible apply Keeps.after (applyMstepPolicy_keeps _)
  with_reducible apply Keeps.after (State.modPw_keeps _ _)
  exact Keeps.refl _
  with_reducible apply Keeps.after (wakeCheck_keeps _)
  with_reducible apply Keeps.after (State.modFn_keeps _ _ _)
  exact Keeps.refl _
  lift_lets
  intro x7
  subst x7
  split
  split
  with_reducible apply Keeps.after (State.modPart_keeps _ _ _)
  exact Keeps.refl _
  exact Keeps.refl _
  with_reducible apply Keeps.after (State.modFab_keeps _ _)
  exact Keeps.refl _
  with_reducible apply Keeps.after (State.modFab_keeps _ _)
  exact Keeps.refl _
  with_reducible apply Keeps.after (modBar_keeps _ _ _)
  exact Keeps.refl _
  split
  with_reducible apply Keeps.after (modXc_keeps _ _ _)
  exact Keeps.refl _
  exact Keeps.refl _
  split
  lift_lets
  intro x8
  subst x8
  with_reducible apply Keeps.after (writePortCfg_keeps _ _ _)
  exact Keeps.refl _
  exact Keeps.refl _
  exact Keeps.refl _
  with_reducible apply Keeps.after (State.modFab_keeps _ _)
  exact Keeps.refl _
  exact Keeps.refl _

theorem modTxn_keeps (s) (f) (g) : Keeps s (modTxn s f g) := by
  unfold modTxn State.modKci
  dsimp -zeta only
  with_reducible refine Keeps.updTxn ?_ rfl (Nat.le_of_eq (List.length_map _))
  exact Keeps.refl _

theorem endTxn_keeps (s) (t) (status) (commit) (detail) (result) : Keeps s (endTxn s t status commit detail result) := by
  unfold endTxn State.modKci
  dsimp -zeta only
  lift_lets
  intro x0
  refine Keeps.bindLet (s := s) (x := x0) ?_ (fun h1 => ?_)
  subst x0
  with_reducible refine Keeps.updTxn ?_ rfl (List.length_filter_le _ _)
  exact Keeps.refl _
  clear_value x0
  intro x2
  refine Keeps.bindLet (s := s) (x := x2) ?_ (fun h3 => ?_)
  subst x2
  with_reducible apply Keeps.foldl (fun z4 _ => ?_) ?_
  assumption
  with_reducible apply Keeps.after (finish_keeps _ _ _ _ _)
  exact Keeps.refl _
  clear_value x2
  split
  with_reducible apply Keeps.after (finish_keeps _ _ _ _ _)
  assumption
  assumption

theorem unswitch_keeps (s) (t) : Keeps s (unswitch s t) := by
  unfold unswitch
  split
  with_reducible apply Keeps.after (rekey_keeps _ _)
  with_reducible apply Keeps.foldl (fun z0 _ => ?_) ?_
  exact Keeps.refl _
  with_reducible apply Keeps.after (restore_keeps _ _ _)
  exact Keeps.refl _
  exact Keeps.refl _

theorem stageRaise_keeps (s) (t) : Keeps s (stageRaise s t) := by
  unfold stageRaise
  split
  with_reducible apply Keeps.ite
  exact Keeps.refl _
  with_reducible apply Keeps.after (raiseVlog_keeps _ _)
  exact Keeps.refl _
  exact Keeps.refl _

theorem unraise_keeps (s) (t) : Keeps s (unraise s t) := by
  unfold unraise
  with_reducible apply Keeps.ite
  exact Keeps.refl _
  with_reducible apply Keeps.after (writeVlog_keeps _ _)
  exact Keeps.refl _

theorem rollBack_keeps (s) (t) (status) (commit) : Keeps s (rollBack s t status commit) := by
  unfold rollBack
  with_reducible apply Keeps.after (endTxn_keeps _ _ _ _ _ _)
  with_reducible apply Keeps.after (unraise_keeps _ _)
  with_reducible apply Keeps.after (unswitch_keeps _ _)
  exact Keeps.refl _

theorem execTxnTimeout_keeps (f) (s) : Goes s (execTxnTimeout f s) := by
  unfold execTxnTimeout
  with_reducible apply Goes.next
  split
  with_reducible apply Keeps.ite
  with_reducible apply Keeps.after (rollBack_keeps _ _ _ _)
  exact Keeps.refl _
  exact Keeps.refl _
  exact Keeps.refl _

theorem execTxnSwitch_keeps (f) (s) : Goes s (execTxnSwitch f s) := by
  unfold execTxnSwitch
  with_reducible apply Goes.next
  split
  with_reducible apply Keeps.ite
  with_reducible apply Keeps.after (modTxn_keeps _ _ _)
  with_reducible apply Keeps.after (rekey_keeps _ _)
  with_reducible apply Keeps.foldl (fun z0 _ => ?_) ?_
  exact Keeps.refl _
  with_reducible apply Keeps.after (settle_keeps _ _)
  exact Keeps.refl _
  exact Keeps.refl _
  exact Keeps.refl _

theorem execTxnVerifyReport_keeps (f) (fault) (s) : Goes s (execTxnVerifyReport f fault s) := by
  unfold execTxnVerifyReport
  with_reducible apply Goes.next
  split
  dsimp only
  with_reducible apply Keeps.ite
  exact Keeps.refl _
  split
  with_reducible apply Keeps.after (modTxn_keeps _ _ _)
  exact Keeps.refl _
  with_reducible apply Keeps.ite
  exact Keeps.refl _
  with_reducible apply Keeps.after (endTxn_keeps _ _ _ _ _ _)
  with_reducible apply Keeps.foldl (fun z0 _ => ?_) ?_
  exact Keeps.refl _
  with_reducible apply Keeps.ite
  split
  with_reducible apply Keeps.after (zeroRange_keeps _ _ _)
  exact Keeps.refl _
  exact Keeps.refl _
  exact Keeps.refl _
  exact Keeps.refl _

theorem execTxnRevert_keeps (f) (s) : Goes s (execTxnRevert f s) := by
  unfold execTxnRevert
  with_reducible apply Goes.next
  split
  with_reducible apply Keeps.ite
  with_reducible apply Keeps.after (endTxn_keeps _ _ _ _ _ _)
  with_reducible apply Keeps.after (unraise_keeps _ _)
  with_reducible apply Keeps.after (unswitch_keeps _ _)
  exact Keeps.refl _
  exact Keeps.refl _
  exact Keeps.refl _

theorem virtual_keeps (s) (c) : Keeps s (virtual s c) := by
  unfold virtual
  with_reducible apply Keeps.ite
  split
  with_reducible apply Keeps.after (modTxn_keeps _ _ _)
  with_reducible apply Keeps.foldl (fun z0 _ => ?_) ?_
  exact Keeps.refl _
  with_reducible apply Keeps.after (settle_keeps _ _)
  exact Keeps.refl _
  exact Keeps.refl _
  exact Keeps.refl _

theorem accept_keeps (act) (s) (c) (h_act : FK2 act) : Keeps s (accept act s c) := by
  unfold accept
  lift_lets
  intro x0
  refine Keeps.bindLet (s := s) (x := x0) ?_ (fun h1 => ?_)
  subst x0
  with_reducible apply Keeps.ite
  with_reducible apply Keeps.after (post_keeps _ _ _ _ _ _)
  exact Keeps.refl _
  exact Keeps.refl _
  clear_value x0
  with_reducible apply Keeps.ite
  with_reducible apply Keeps.after (modTxn_keeps _ _ _)
  assumption
  with_reducible apply Keeps.after (h_act _ _)
  assumption

theorem runRow_keeps (mine) (body) (note) (act) (f) (r) (host) (s) (h_note : FK3 note) (h_act : FK2 act) : Goes s (runRow mine body note act f r host s) := by
  unfold runRow
  with_reducible apply Goes.next
  split
  exact Keeps.refl _
  with_reducible apply Keeps.ite
  exact Keeps.refl _
  lift_lets
  intro x0
  refine Keeps.bindLet (s := s) (x := x0) ?_ (fun h1 => ?_)
  subst x0
  with_reducible apply Keeps.foldl (fun z2 _ => ?_) ?_
  exact Keeps.refl _
  with_reducible apply Keeps.after (State.hostWrite_keeps _ _ _)
  exact Keeps.refl _
  clear_value x0
  intro x3
  subst x3
  intro x4
  refine Keeps.bindLet (s := s) (x := x4) ?_ (fun h5 => ?_)
  subst x4
  with_reducible apply Keeps.after (popRing_keeps _ _ _)
  assumption
  clear_value x4
  split
  with_reducible apply Keeps.after (pump_keeps _ _ _)
  with_reducible apply Keeps.after (post_keeps _ _ _ _ _ _)
  with_reducible apply Keeps.after (h_note _ _ _)
  assumption
  with_reducible apply Keeps.after (pump_keeps _ _ _)
  with_reducible apply Keeps.after (accept_keeps _ _ _ (fun z6 _ => ?_))
  assumption
  with_reducible apply Keeps.after (h_act _ _)
  exact Keeps.refl _

theorem runCode_keeps (o) (body) (act) (f) (r) (host) (s) (h_act : FK2 act) : Goes s (runCode o body act f r host s) := by
  unfold runCode
  with_reducible apply runRow_keeps _ _ _ _ _ _ _ _ (fun z0 _ _ => ?_) (fun z1 _ => ?_)
  exact Keeps.refl _
  with_reducible apply Keeps.after (h_act _ _)
  exact Keeps.refl _

/-! ### Reset -/

theorem State.modRst_keeps (s) (f) : Keeps s (State.modRst s f) := by
  unfold State.modRst
  with_reducible refine Keeps.upd ?_ rfl rfl
  exact Keeps.refl _

theorem functionReset_keeps (s) (f) : Keeps s (functionReset s f) := by
  unfold functionReset State.modKci
  dsimp -zeta only
  lift_lets
  intro x0
  subst x0
  intro x1
  refine Keeps.bindLet (s := s) (x := x1) ?_ (fun h2 => ?_)
  subst x1
  with_reducible apply Keeps.after (State.modFn_keeps _ _ _)
  exact Keeps.refl _
  clear_value x1
  intro x3
  refine Keeps.bindLet (s := s) (x := x3) ?_ (fun h4 => ?_)
  subst x3
  with_reducible refine Keeps.updTxn ?_ rfl (Nat.le_of_eq (List.length_map _))
  assumption
  clear_value x3
  split
  with_reducible apply Keeps.ite
  with_reducible apply Keeps.after (rollBack_keeps _ _ _ _)
  assumption
  assumption
  assumption

theorem execFunctionLevelReset_keeps (f) (s) : Goes s (execFunctionLevelReset f s) := by
  unfold execFunctionLevelReset
  with_reducible apply Goes.next
  with_reducible apply Keeps.after (functionReset_keeps _ _)
  exact Keeps.refl _

theorem dropFetched_keeps (s) (f) : Keeps s (dropFetched s f) := by
  unfold dropFetched
  with_reducible apply Keeps.foldl (fun z0 _ => ?_) ?_
  exact Keeps.refl _
  split
  exact Keeps.refl _
  lift_lets
  intro x1
  refine Keeps.bindLet (s := z0) (x := x1) ?_ (fun h2 => ?_)
  subst x1
  with_reducible apply Keeps.after (State.modRing_keeps _ _ _ _)
  exact Keeps.refl _
  clear_value x1
  with_reducible apply Keeps.foldl (fun z3 _ => ?_) ?_
  assumption
  with_reducible apply Keeps.after (post_keeps _ _ _ _ _ _)
  exact Keeps.refl _

theorem abortHandles_keeps (s) (p) (but) : Keeps s (abortHandles s p but) := by
  unfold abortHandles
  lift_lets
  intro x0
  refine Keeps.bindLet (s := s) (x := x0) ?_ (fun h1 => ?_)
  subst x0
  with_reducible apply Keeps.foldl (fun z2 _ => ?_) ?_
  exact Keeps.refl _
  with_reducible apply Keeps.ite
  with_reducible apply Keeps.after (rollBack_keeps _ _ _ _)
  exact Keeps.refl _
  exact Keeps.refl _
  clear_value x0
  intro x3
  refine Keeps.bindLet (s := s) (x := x3) ?_ (fun h4 => ?_)
  subst x3
  with_reducible apply Keeps.foldl (fun z5 _ => ?_) ?_
  assumption
  with_reducible apply Keeps.after (finish_keeps _ _ _ _ _)
  exact Keeps.refl _
  clear_value x3
  with_reducible apply Keeps.after (dropFetched_keeps _ _)
  assumption

theorem cutCore_keeps (s) (c) : Keeps s (cutCore s c) := by
  unfold cutCore
  lift_lets
  intro x0
  subst x0
  with_reducible apply Keeps.after (State.modCore_keeps _ _ _)
  with_reducible apply Keeps.after (abortKernel_keeps _ _)
  with_reducible apply Keeps.after (State.spoil_keeps _ _)
  exact Keeps.refl _

theorem beginPartReset_keeps (s) (p) (but) : Keeps s (beginPartReset s p but) := by
  unfold beginPartReset
  lift_lets
  intro x0
  refine Keeps.bindLet (s := s) (x := x0) ?_ (fun h1 => ?_)
  subst x0
  with_reducible apply Keeps.after (abortHandles_keeps _ _ _)
  exact Keeps.refl _
  clear_value x0
  intro x2
  refine Keeps.bindLet (s := s) (x := x2) ?_ (fun h3 => ?_)
  subst x2
  with_reducible apply Keeps.after (State.modPart_keeps _ _ _)
  assumption
  clear_value x2
  intro x4
  refine Keeps.bindLet (s := s) (x := x4) ?_ (fun h5 => ?_)
  subst x4
  split
  with_reducible apply Keeps.after (State.modFab_keeps _ _)
  assumption
  assumption
  clear_value x4
  intro x6
  refine Keeps.bindLet (s := s) (x := x6) ?_ (fun h7 => ?_)
  subst x6
  with_reducible apply Keeps.after (pumpSends_keeps _)
  with_reducible apply Keeps.foldl (fun z8 _ => ?_) ?_
  assumption
  with_reducible apply Keeps.after (cutCore_keeps _ _)
  exact Keeps.refl _
  clear_value x6
  with_reducible apply Keeps.after (State.modRst_keeps _ _)
  assumption

theorem retireLeaving_keeps (s) (p) : Keeps s (retireLeaving s p) := by
  unfold retireLeaving
  with_reducible apply Keeps.foldl (fun z0 _ => ?_) ?_
  exact Keeps.refl _
  split
  dsimp -zeta only
  with_reducible apply Keeps.ite
  with_reducible apply Keeps.foldl (fun z1 _ => ?_) ?_
  with_reducible apply Keeps.after (retireCore_keeps _ _)
  exact Keeps.refl _
  with_reducible apply Keeps.ite
  with_reducible apply Keeps.after (finish_keeps _ _ _ _ _)
  exact Keeps.refl _
  exact Keeps.refl _
  exact Keeps.refl _
  exact Keeps.refl _

theorem endPartReset_keeps (s) (p) : Keeps s (endPartReset s p) := by
  unfold endPartReset
  lift_lets
  intro x0
  refine Keeps.bindLet (s := s) (x := x0) ?_ (fun h1 => ?_)
  subst x0
  with_reducible apply Keeps.foldl (fun z2 _ => ?_) ?_
  with_reducible apply Keeps.after (retireLeaving_keeps _ _)
  exact Keeps.refl _
  with_reducible apply Keeps.after (contextSwitch_keeps _ _)
  exact Keeps.refl _
  clear_value x0
  with_reducible apply Keeps.after (State.modPart_keeps _ _ _)
  assumption

theorem destroyPart_keeps (s) (p) : Keeps s (destroyPart s p) := by
  unfold destroyPart
  lift_lets
  intro x0
  subst x0
  intro x1
  subst x1
  intro x2
  subst x2
  intro x3
  refine Keeps.bindLet (s := s) (x := x3) ?_ (fun h4 => ?_)
  subst x3
  with_reducible refine Keeps.upd ?_ rfl rfl
  exact Keeps.refl _
  clear_value x3
  intro x5
  refine Keeps.bindLet (s := s) (x := x5) ?_ (fun h6 => ?_)
  subst x5
  with_reducible apply Keeps.foldl (fun z7 _ => ?_) ?_
  assumption
  with_reducible apply Keeps.after (zeroRange_keeps _ _ _)
  exact Keeps.refl _
  clear_value x5
  intro x8
  subst x8
  intro x9
  refine Keeps.bindLet (s := s) (x := x9) ?_ (fun h10 => ?_)
  subst x9
  with_reducible apply Keeps.after (State.modSec_keeps _ _)
  assumption
  clear_value x9
  intro x11
  subst x11
  intro x12
  subst x12
  intro x13
  subst x13
  intro x14
  refine Keeps.bindLet (s := s) (x := x14) ?_ (fun h15 => ?_)
  subst x14
  with_reducible refine Keeps.upd ?_ rfl rfl
  assumption
  clear_value x14
  intro x16
  refine Keeps.bindLet (s := s) (x := x16) ?_ (fun h17 => ?_)
  subst x16
  with_reducible apply Keeps.foldl (fun z18 _ => ?_) ?_
  assumption
  with_reducible apply Keeps.after (coreReassigned_keeps _ _)
  exact Keeps.refl _
  clear_value x16
  with_reducible apply Keeps.after (State.setPart_keeps _ _ _)
  assumption

theorem execPartitionResetDrained_keeps (p) (s) : Goes s (execPartitionResetDrained p s) := by
  unfold execPartitionResetDrained
  with_reducible apply Goes.next
  with_reducible apply Keeps.ite
  exact Keeps.refl _
  lift_lets
  intro x0
  refine Keeps.bindLet (s := s) (x := x0) ?_ (fun h1 => ?_)
  subst x0
  with_reducible apply Keeps.after (endPartReset_keeps _ _)
  exact Keeps.refl _
  clear_value x0
  split
  with_reducible apply Keeps.after (finish_keeps _ _ _ _ _)
  with_reducible apply Keeps.after (destroyPart_keeps _ _)
  assumption
  assumption

theorem execProgStopTimeout_keeps (p) (s) : Goes s (execProgStopTimeout p s) := by
  unfold execProgStopTimeout
  with_reducible apply Goes.next
  split
  exact Keeps.refl _
  split
  exact Keeps.refl _
  with_reducible apply Keeps.after (beginPartReset_keeps _ _ _)
  with_reducible apply Keeps.after (finish_keeps _ _ _ _ _)
  exact Keeps.refl _

theorem controlReset_keeps (s) (link) : Keeps s (controlReset s link) := by
  unfold controlReset State.modKci
  dsimp -zeta only
  lift_lets
  intro x0
  refine Keeps.bindLet (s := s) (x := x0) ?_ (fun h1 => ?_)
  subst x0
  with_reducible apply Keeps.after (zeroiseStore_keeps _)
  exact Keeps.refl _
  clear_value x0
  intro x2
  subst x2
  intro x3
  refine Keeps.bindLet (s := s) (x := x3) ?_ (fun h4 => ?_)
  subst x3
  with_reducible refine Keeps.updTxn ?_ rfl (by first | exact List.length_filter_le _ _ | exact Nat.le_of_eq (List.length_map _) | simp)
  assumption
  clear_value x3
  intro x5
  refine Keeps.bindLet (s := s) (x := x5) ?_ (fun h6 => ?_)
  subst x5
  with_reducible apply Keeps.after (State.modSec_keeps _ _)
  assumption
  clear_value x5
  intro x7
  refine Keeps.bindLet (s := s) (x := x7) ?_ (fun h8 => ?_)
  subst x7
  with_reducible apply Keeps.after (State.modMg_keeps _ _)
  assumption
  clear_value x7
  with_reducible apply Keeps.after (State.modRst_keeps _ _)
  assumption

theorem bootRom_keeps (s) (selftest) : Keeps s (bootRom s selftest) := by
  unfold bootRom
  with_reducible apply Keeps.ite
  with_reducible apply Keeps.after (State.modRst_keeps _ _)
  with_reducible apply Keeps.after (State.modSec_keeps _ _)
  exact Keeps.refl _
  lift_lets
  intro x0
  refine Keeps.bindLet (s := s) (x := x0) ?_ (fun h1 => ?_)
  subst x0
  with_reducible apply Keeps.after (State.modSec_keeps _ _)
  exact Keeps.refl _
  clear_value x0
  intro x2
  subst x2
  intro x3
  subst x3
  split
  with_reducible apply Keeps.after (State.modRst_keeps _ _)
  assumption
  lift_lets
  intro x4
  refine Keeps.bindLet (s := s) (x := x4) ?_ (fun h5 => ?_)
  subst x4
  with_reducible apply Keeps.after (State.modSec_keeps _ _)
  assumption
  clear_value x4
  intro x6
  refine Keeps.bindLet (s := s) (x := x6) ?_ (fun h7 => ?_)
  subst x6
  with_reducible apply Keeps.after (State.modSec_keeps _ _)
  assumption
  clear_value x6
  with_reducible apply Keeps.after (State.modRst_keeps _ _)
  assumption

theorem afterControlReset_keeps (s) : Keeps s (afterControlReset s) := by
  unfold afterControlReset
  lift_lets
  intro x0
  refine Keeps.bindLet (s := s) (x := x0) ?_ (fun h1 => ?_)
  subst x0
  with_reducible apply Keeps.foldl (fun z2 _ => ?_) ?_
  exact Keeps.refl _
  lift_lets
  intro x3
  refine Keeps.bindLet (s := z2) (x := x3) ?_ (fun h4 => ?_)
  subst x3
  with_reducible apply Keeps.foldl (fun z5 _ => ?_) ?_
  with_reducible apply Keeps.after (retireLeaving_keeps _ _)
  exact Keeps.refl _
  with_reducible apply Keeps.after (haltCore_keeps _ _)
  exact Keeps.refl _
  clear_value x3
  with_reducible apply Keeps.ite
  exact Keeps.refl _
  with_reducible apply Keeps.after (State.modPart_keeps _ _ _)
  assumption
  clear_value x0
  intro x6
  subst x6
  intro x7
  subst x7
  intro x8
  subst x8
  with_reducible apply Keeps.foldl (fun z9 _ => ?_) ?_
  with_reducible apply Keeps.upd ?_ rfl rfl
  with_reducible refine Keeps.upd ?_ rfl rfl
  assumption
  with_reducible apply Keeps.after (zeroRange_keeps _ _ _)
  exact Keeps.refl _

theorem dataReady_keeps (s) : Keeps s (dataReady s) := by
  unfold dataReady State.modKci
  dsimp -zeta only
  with_reducible apply Keeps.ite
  lift_lets
  intro x0
  refine Keeps.bindLet (s := s) (x := x0) ?_ (fun h1 => ?_)
  subst x0
  with_reducible apply Keeps.ite
  with_reducible apply Keeps.after (zeroRange_keeps _ _ _)
  with_reducible apply Keeps.after (zeroiseKeys_keeps _)
  exact Keeps.refl _
  exact Keeps.refl _
  clear_value x0
  with_reducible apply Keeps.after (State.modRst_keeps _ _)
  with_reducible refine Keeps.upd ?_ rfl rfl
  assumption
  exact Keeps.refl _

theorem installBase_keeps (s) : Keeps s (installBase s) := by
  unfold installBase
  with_reducible apply Keeps.ite
  exact Keeps.refl _
  with_reducible apply Keeps.after (State.modServ_keeps _ _)
  exact Keeps.refl _

theorem execCtrlFirmwareStart_keeps (s) : Goes s (execCtrlFirmwareStart s) := by
  unfold execCtrlFirmwareStart
  with_reducible apply Goes.next
  with_reducible apply Keeps.ite
  exact Keeps.refl _
  lift_lets
  intro x0
  refine Keeps.bindLet (s := s) (x := x0) ?_ (fun h1 => ?_)
  subst x0
  with_reducible apply Keeps.after (installBase_keeps _)
  with_reducible apply Keeps.after (afterControlReset_keeps _)
  exact Keeps.refl _
  clear_value x0
  intro x2
  refine Keeps.bindLet (s := s) (x := x2) ?_ (fun h3 => ?_)
  subst x2
  unfold State.modKci
  with_reducible refine Keeps.upd ?_ rfl rfl
  assumption
  clear_value x2
  with_reducible apply Keeps.after (dataReady_keeps _)
  with_reducible apply Keeps.after (State.modRst_keeps _ _)
  assumption

theorem execPerstN_keeps (s) : Goes s (execPerstN s) := by
  unfold execPerstN State.modKci
  dsimp -zeta only
  lift_lets
  intro x0
  refine Keeps.bindLet (s := s) (x := x0) ?_ (fun h1 => ?_)
  subst x0
  with_reducible apply Keeps.after (State.modRst_keeps _ _)
  exact Keeps.refl _
  clear_value x0
  with_reducible apply Goes.next
  with_reducible apply Keeps.ite
  assumption
  with_reducible apply Keeps.after (State.modRst_keeps _ _)
  with_reducible refine Keeps.upd ?_ rfl rfl
  with_reducible apply Keeps.after (controlReset_keeps _ _)
  assumption

theorem execPerstNDeassert_keeps (selftest) (s) : Goes s (execPerstNDeassert selftest s) := by
  unfold execPerstNDeassert
  with_reducible apply Goes.next
  with_reducible apply Keeps.ite
  exact Keeps.refl _
  lift_lets
  intro x0
  refine Keeps.bindLet (s := s) (x := x0) ?_ (fun h1 => ?_)
  subst x0
  with_reducible apply Keeps.after (State.modRst_keeps _ _)
  exact Keeps.refl _
  clear_value x0
  with_reducible apply Keeps.ite
  assumption
  with_reducible apply Keeps.after (bootRom_keeps _ _)
  with_reducible apply Keeps.after (State.modRst_keeps _ _)
  assumption

theorem execControlFault_keeps (selftest) (s) : Goes s (execControlFault selftest s) := by
  unfold execControlFault State.modKci
  dsimp -zeta only
  with_reducible apply Goes.next
  with_reducible apply Keeps.ite
  exact Keeps.refl _
  lift_lets
  intro x0
  refine Keeps.bindLet (s := s) (x := x0) ?_ (fun h1 => ?_)
  subst x0
  with_reducible refine Keeps.upd ?_ rfl rfl
  with_reducible apply Keeps.after (controlReset_keeps _ _)
  exact Keeps.refl _
  clear_value x0
  with_reducible apply Keeps.after (bootRom_keeps _ _)
  with_reducible apply Keeps.after (State.modRst_keeps _ _)
  assumption

theorem execBootRecovery_keeps (selftest) (s) : Goes s (execBootRecovery selftest s) := by
  unfold execBootRecovery
  with_reducible apply Goes.next
  with_reducible apply Keeps.ite
  exact Keeps.refl _
  split
  with_reducible apply Keeps.after (sbReject_keeps _ _)
  exact Keeps.refl _
  lift_lets
  intro x0
  subst x0
  intro x1
  refine Keeps.bindLet (s := s) (x := x1) ?_ (fun h2 => ?_)
  subst x1
  with_reducible apply Keeps.after (State.modSec_keeps _ _)
  exact Keeps.refl _
  clear_value x1
  with_reducible apply Keeps.after (bootRom_keeps _ _)
  with_reducible apply Keeps.after (controlReset_keeps _ _)
  assumption

theorem execAgentWatchdog_keeps (i) (s) : Goes s (execAgentWatchdog i s) := by
  unfold execAgentWatchdog
  lift_lets
  intro x0
  subst x0
  intro x1
  subst x1
  intro x2
  subst x2
  intro x3
  refine Keeps.bindLet (s := s) (x := x3) ?_ (fun h4 => ?_)
  subst x3
  with_reducible apply Keeps.after (State.modAgent_keeps _ _ _)
  exact Keeps.refl _
  clear_value x3
  intro x5
  refine Keeps.bindLet (s := s) (x := x5) ?_ (fun h6 => ?_)
  subst x5
  with_reducible apply Keeps.after (State.modMg_keeps _ _)
  assumption
  clear_value x5
  with_reducible apply Goes.next
  with_reducible apply Keeps.ite
  exact Keeps.refl _
  with_reducible apply Keeps.after (State.modRst_keeps _ _)
  assumption

theorem dataReset_keeps (s) : Keeps s (dataReset s) := by
  unfold dataReset
  extract_lets tied t u
  have ht : Keeps s t := Keeps.foldl (fun _ _ => Keeps.ite (endTxn_keeps _ _ _ _ _ _) (Keeps.refl _)) (Keeps.refl _)
  have hu : Keeps s u := Keeps.foldl (fun _ _ => finish_keeps _ _ _ _ _) ht
  exact hu.trans ⟨rfl, fun g => ⟨Mem.clear_wf _ _ _ g.1, Marks.clearAny_wf _ _ _ g.2, g.3, g.4, g.5⟩⟩

theorem execSysRstN_keeps (s) : Goes s (execSysRstN s) := by
  unfold execSysRstN
  lift_lets
  intro x0
  refine Keeps.bindLet (s := s) (x := x0) ?_ (fun h1 => ?_)
  subst x0
  with_reducible apply Keeps.after (State.modRst_keeps _ _)
  exact Keeps.refl _
  clear_value x0
  intro x2
  refine Keeps.bindLet (s := s) (x := x2) ?_ (fun h3 => ?_)
  subst x2
  with_reducible apply Keeps.after (dataReset_keeps _)
  assumption
  clear_value x2
  intro x4
  refine Keeps.bindLet (s := s) (x := x4) ?_ (fun h5 => ?_)
  subst x4
  with_reducible apply Keeps.ite
  with_reducible apply Keeps.after (State.modClk_keeps _ _)
  assumption
  assumption
  clear_value x4
  with_reducible apply Goes.next
  with_reducible apply Keeps.ite
  assumption
  with_reducible apply Keeps.after (State.modRst_keeps _ _)
  assumption

theorem clockP4_keeps (s) : Keeps s (clockP4 s) := by
  unfold clockP4
  with_reducible refine Keeps.upd ?_ rfl rfl
  exact Keeps.refl _

theorem execSysRstNDeassert_keeps (s) : Goes s (execSysRstNDeassert s) := by
  unfold execSysRstNDeassert
  with_reducible apply Goes.next
  with_reducible apply Keeps.ite
  exact Keeps.refl _
  lift_lets
  intro x0
  refine Keeps.bindLet (s := s) (x := x0) ?_ (fun h1 => ?_)
  subst x0
  with_reducible apply Keeps.after (State.modRst_keeps _ _)
  exact Keeps.refl _
  clear_value x0
  with_reducible apply Keeps.ite
  assumption
  with_reducible apply Keeps.after (clockP4_keeps _)
  assumption

theorem applyCore_keeps (s) (c) : Keeps s (applyCore s c) := by
  unfold applyCore
  lift_lets
  intro x0
  refine Keeps.bindLet (s := s) (x := x0) ?_ (fun h1 => ?_)
  subst x0
  with_reducible apply Keeps.after (State.modCore_keeps _ _ _)
  exact Keeps.refl _
  clear_value x0
  intro x2
  refine Keeps.bindLet (s := s) (x := x2) ?_ (fun h3 => ?_)
  subst x2
  split
  with_reducible apply Keeps.after (modTc_keeps _ _ _)
  assumption
  assumption
  clear_value x2
  intro x4
  refine Keeps.bindLet (s := s) (x := x4) ?_ (fun h5 => ?_)
  subst x4
  with_reducible apply Keeps.ite
  with_reducible apply Keeps.ite
  with_reducible apply Keeps.after (retireCore_keeps _ _)
  assumption
  with_reducible apply Keeps.after (modTc_keeps _ _ _)
  assumption
  assumption
  clear_value x4
  with_reducible apply Keeps.after (goOn_keeps _ _)
  with_reducible apply Keeps.after (returnEngines_keeps _ _)
  assumption

theorem applyLog_keeps (s) : Keeps s (applyLog s) := by
  unfold applyLog
  with_reducible apply Keeps.foldl (fun z0 _ => ?_) ?_
  exact Keeps.refl _
  with_reducible apply Keeps.after (applyCore_keeps _ _)
  exact Keeps.refl _

theorem execDataPlaneBootDone_keeps (s) : Goes s (execDataPlaneBootDone s) := by
  unfold execDataPlaneBootDone
  with_reducible apply Goes.next
  with_reducible apply Keeps.ite
  exact Keeps.refl _
  with_reducible apply Keeps.after (dataReady_keeps _)
  with_reducible apply Keeps.after (applyLog_keeps _)
  with_reducible apply Keeps.after (bootRepairs_keeps _)
  with_reducible apply Keeps.after (State.modRst_keeps _ _)
  exact Keeps.refl _

theorem porReset_keeps (s) : Keeps s (porReset s) :=
  ⟨rfl, fun g => ⟨rfl, rfl, g.3, Nat.zero_le _, Nat.zero_le _⟩⟩

theorem execPorNAssert_keeps (s) : Goes s (execPorNAssert s) := by
  unfold execPorNAssert
  with_reducible apply Goes.next
  with_reducible apply Keeps.after (porReset_keeps _)
  exact Keeps.refl _

theorem coldStart_keeps (s) : Keeps s (coldStart s) := by
  unfold coldStart
  lift_lets
  intro x0
  refine Keeps.bindLet (s := s) (x := x0) ?_ (fun h1 => ?_)
  subst x0
  with_reducible apply Keeps.after (State.modClk_keeps _ _)
  exact Keeps.refl _
  clear_value x0
  intro x2
  refine Keeps.bindLet (s := s) (x := x2) ?_ (fun h3 => ?_)
  subst x2
  unfold State.modKci
  with_reducible refine Keeps.upd ?_ rfl rfl
  assumption
  clear_value x2
  intro x4
  refine Keeps.bindLet (s := s) (x := x4) ?_ (fun h5 => ?_)
  subst x4
  with_reducible apply Keeps.foldl (fun z6 _ => ?_) ?_
  assumption
  with_reducible apply Keeps.after (sendAvs_keeps _ _ _)
  exact Keeps.refl _
  clear_value x4
  intro x7
  refine Keeps.bindLet (s := s) (x := x7) ?_ (fun h8 => ?_)
  subst x7
  with_reducible apply Keeps.foldl (fun z9 _ => ?_) ?_
  assumption
  with_reducible apply Keeps.after (sendAvs_keeps _ _ _)
  with_reducible apply Keeps.after (sendAvs_keeps _ _ _)
  exact Keeps.refl _
  clear_value x7
  with_reducible apply Keeps.ite
  assumption
  with_reducible apply Keeps.after (clockP4_keeps _)
  assumption

theorem execPorNDeassert_keeps (straps) (selftest) (s) : Goes s (execPorNDeassert straps selftest s) := by
  unfold execPorNDeassert
  with_reducible apply Goes.next
  with_reducible apply Keeps.ite
  exact Keeps.refl _
  lift_lets
  intro x0
  refine Keeps.bindLet (s := s) (x := x0) (State.modRst_keeps _ _) (fun h0 => ?_)
  clear_value x0
  intro x1
  refine Keeps.bindLet (s := s) (x := x1) ?_ (fun h1 => ?_)
  subst x1
  with_reducible apply Keeps.ite
  with_reducible apply Keeps.after (controlRecord_keeps _ _)
  assumption
  assumption
  clear_value x1
  intro x2
  refine Keeps.bindLet (s := s) (x := x2) ?_ (fun h2 => ?_)
  subst x2
  with_reducible apply Keeps.after (coldStart_keeps _)
  assumption
  clear_value x2
  with_reducible apply Keeps.ite
  assumption
  with_reducible apply Keeps.ite
  assumption
  with_reducible apply Keeps.after (bootRom_keeps _ _)
  with_reducible apply Keeps.after (State.modRst_keeps _ _)
  assumption

theorem execVaonRemoval_keeps (half) (s) : Goes s (execVaonRemoval half s) := by
  unfold execVaonRemoval State.modKci
  dsimp -zeta only
  with_reducible apply Goes.next
  split
  lift_lets
  intro x0
  refine Keeps.bindLet (s := s) (x := x0) ?_ (fun h1 => ?_)
  subst x0
  with_reducible apply Keeps.after (porReset_keeps _)
  exact Keeps.refl _
  clear_value x0
  intro x2
  subst x2
  intro x3
  subst x3
  intro x4
  subst x4
  with_reducible refine Keeps.upd ?_ rfl rfl
  assumption
  lift_lets
  intro x5
  subst x5
  intro x6
  subst x6
  intro x7
  refine Keeps.bindLet (s := s) (x := x7) ?_ (fun h8 => ?_)
  subst x7
  with_reducible apply Keeps.after (State.modAgent_keeps _ _ _)
  exact Keeps.refl _
  clear_value x7
  intro x9
  refine Keeps.bindLet (s := s) (x := x9) ?_ (fun h10 => ?_)
  subst x9
  with_reducible apply Keeps.after (State.modMg_keeps _ _)
  assumption
  clear_value x9
  with_reducible refine Keeps.upd ?_ rfl rfl
  assumption

theorem execTrstN_keeps (asserted) (s) : Goes s (execTrstN asserted s) := by
  unfold execTrstN
  with_reducible apply Goes.next
  with_reducible apply Keeps.after (State.modRst_keeps _ _)
  exact Keeps.refl _

theorem execPwrLossRecovery_keeps (s) : Goes s (execPwrLossRecovery s) := by
  unfold execPwrLossRecovery
  with_reducible apply Goes.next
  split
  with_reducible apply Keeps.ite
  exact Keeps.refl _
  lift_lets
  intro x0
  refine Keeps.bindLet (s := s) (x := x0) ?_ (fun h1 => ?_)
  subst x0
  with_reducible apply Keeps.after (State.modMg_keeps _ _)
  with_reducible apply Keeps.after (State.modRst_keeps _ _)
  exact Keeps.refl _
  clear_value x0
  intro x2
  refine Keeps.bindLet (s := s) (x := x2) ?_ (fun h3 => ?_)
  subst x2
  with_reducible apply Keeps.after (State.modSec_keeps _ _)
  assumption
  clear_value x2
  intro x4
  refine Keeps.bindLet (s := s) (x := x4) ?_ (fun h5 => ?_)
  subst x4
  with_reducible apply Keeps.ite
  assumption
  with_reducible apply Keeps.after (writeVlog_keeps _ _)
  with_reducible apply Keeps.after (State.modClk_keeps _ _)
  assumption
  clear_value x4
  with_reducible apply Keeps.after (controlRecord_keeps _ _)
  assumption
  exact Keeps.refl _

/-! ### Regs -/

theorem after_keeps {o s} (h : Goes s o) : Keeps s (after o s) := by
  obtain ⟨t, rfl, k⟩ := h
  exact k

theorem coreRegWrite_keeps (s) (c) (o) (v) : Keeps s (coreRegWrite s c o v) := by
  unfold coreRegWrite
  with_reducible apply Keeps.ite
  exact Keeps.refl _
  with_reducible apply Keeps.ite
  with_reducible apply Keeps.ite
  with_reducible apply Keeps.after (State.modCore_keeps _ _ _)
  exact Keeps.refl _
  exact Keeps.refl _
  with_reducible apply Keeps.ite
  with_reducible apply Keeps.after (unmapped_keeps _ _ _ _ _)
  exact Keeps.refl _
  lift_lets
  intro x0
  subst x0
  intro x1
  refine Keeps.bindLet (s := s) (x := x1) ?_ (fun h2 => ?_)
  subst x1
  with_reducible apply Keeps.ite
  with_reducible apply Keeps.after (State.modCore_keeps _ _ _)
  exact Keeps.refl _
  exact Keeps.refl _
  clear_value x1
  intro x3
  subst x3
  with_reducible apply Keeps.ite
  with_reducible apply Keeps.after (coreCtrlWrite_keeps _ _ _)
  exact Keeps.refl _
  with_reducible apply Keeps.ite
  with_reducible apply Keeps.ite
  exact Keeps.refl _
  with_reducible apply Keeps.after (signal_keeps _ _ _ _ _ _ _)
  exact Keeps.refl _
  with_reducible apply Keeps.ite
  with_reducible apply Keeps.after (writeTag_keeps _ _ _)
  exact Keeps.refl _
  with_reducible apply Keeps.ite
  with_reducible apply Keeps.after (State.modCore_keeps _ _ _)
  exact Keeps.refl _
  with_reducible apply Keeps.ite
  with_reducible apply Keeps.after (State.modCore_keeps _ _ _)
  exact Keeps.refl _
  with_reducible apply Keeps.ite
  with_reducible apply Keeps.ite
  split
  with_reducible apply Keeps.after (State.modCore_keeps _ _ _)
  exact Keeps.refl _
  exact Keeps.refl _
  exact Keeps.refl _
  with_reducible apply Keeps.ite
  with_reducible apply Keeps.after (State.modCore_keeps _ _ _)
  exact Keeps.refl _
  with_reducible apply Keeps.ite
  with_reducible apply Keeps.ite
  with_reducible apply Keeps.after (State.modCore_keeps _ _ _)
  assumption
  assumption
  with_reducible apply Keeps.ite
  with_reducible apply Keeps.after (fbCtrlWrite_keeps _ _ _)
  exact Keeps.refl _
  with_reducible apply Keeps.ite
  with_reducible apply Keeps.after (modFb_keeps _ _ _)
  exact Keeps.refl _
  with_reducible apply Keeps.ite
  with_reducible apply Keeps.after (modFb_keeps _ _ _)
  exact Keeps.refl _
  exact Keeps.refl _

theorem coreRegLatch_keeps (s) (c) (o) : Keeps s (coreRegLatch s c o) := by
  unfold coreRegLatch
  with_reducible apply Keeps.ite
  exact Keeps.refl _
  with_reducible apply Keeps.ite
  with_reducible apply Keeps.after (State.modCore_keeps _ _ _)
  exact Keeps.refl _
  with_reducible apply Keeps.ite
  with_reducible apply Keeps.after (State.modCore_keeps _ _ _)
  exact Keeps.refl _
  with_reducible apply Keeps.ite
  lift_lets
  intro x0
  subst x0
  with_reducible apply Keeps.after (State.modCore_keeps _ _ _)
  exact Keeps.refl _
  exact Keeps.refl _

theorem closureWrite_keeps (s) (p) (o) (v) : Keeps s (closureWrite s p o v) := by
  unfold closureWrite
  lift_lets
  intro x0
  subst x0
  intro x1
  refine Keeps.bindLet (s := s) (x := x1) ?_ (fun h2 => ?_)
  subst x1
  with_reducible apply Keeps.after (modCl_keeps _ _ _)
  exact Keeps.refl _
  clear_value x1
  with_reducible apply Keeps.ite
  with_reducible apply Keeps.foldl (fun z3 _ => ?_) ?_
  with_reducible apply Keeps.after (modCl_keeps _ _ _)
  assumption
  with_reducible apply Keeps.after (State.modCore_keeps _ _ _)
  exact Keeps.refl _
  assumption

theorem limitsWrite_keeps (s) (w) (o) (v) : Keeps s (limitsWrite s w o v) := by
  unfold limitsWrite
  with_reducible apply Keeps.ite
  with_reducible apply Keeps.ite
  with_reducible apply Keeps.after (after_keeps ?_)
  exact Keeps.refl _
  with_reducible apply execLimCtrlCommit_keeps _ _ _
  exact Keeps.refl _
  with_reducible apply Keeps.ite
  with_reducible apply Keeps.after (State.modPw_keeps _ _)
  exact Keeps.refl _
  with_reducible apply Keeps.ite
  with_reducible apply Keeps.ite
  with_reducible apply Keeps.after (after_keeps ?_)
  exact Keeps.refl _
  with_reducible apply execLimCtrlCommit_keeps _ _ _
  exact Keeps.refl _
  with_reducible apply Keeps.ite
  with_reducible apply Keeps.after (State.modPw_keeps _ _)
  exact Keeps.refl _
  with_reducible apply Keeps.ite
  with_reducible apply Keeps.after (after_keeps ?_)
  exact Keeps.refl _
  with_reducible apply execLimFlush_keeps _ _ _ _
  exact Keeps.refl _

theorem powerWrite_keeps (s) (w) (o) (v) : Keeps s (powerWrite s w o v) := by
  unfold powerWrite
  with_reducible apply Keeps.ite
  with_reducible apply Keeps.ite
  with_reducible apply Keeps.after (limitsTook_keeps _)
  with_reducible apply Keeps.after (State.modPw_keeps _ _)
  exact Keeps.refl _
  with_reducible apply Keeps.ite
  with_reducible apply Keeps.after (applyMstepPolicy_keeps _)
  with_reducible apply Keeps.after (State.modPw_keeps _ _)
  exact Keeps.refl _
  exact Keeps.refl _
  with_reducible apply Keeps.ite
  split
  with_reducible apply Keeps.after (after_keeps ?_)
  exact Keeps.refl _
  with_reducible apply execPcSns_keeps _ _ _
  exact Keeps.refl _
  exact Keeps.refl _

theorem stagingWrite_keeps (s) (w) (o) (v) : Keeps s (stagingWrite s w o v) := by
  unfold stagingWrite
  lift_lets
  intro x0
  subst x0
  intro x1
  refine Keeps.bindLet (s := s) (x := x1) ?_ (fun h2 => ?_)
  subst x1
  with_reducible apply Keeps.ite
  with_reducible apply Keeps.after (State.modSb_keeps _ _)
  exact Keeps.refl _
  exact Keeps.refl _
  clear_value x1
  intro x3
  refine Keeps.bindLet (s := s) (x := x3) ?_ (fun h4 => ?_)
  subst x3
  with_reducible apply Keeps.ite
  with_reducible apply Keeps.after (after_keeps ?_)
  assumption
  with_reducible apply execSbCtrlOpen_keeps _ _ _ _ _
  assumption
  clear_value x3
  intro x5
  refine Keeps.bindLet (s := s) (x := x5) ?_ (fun h6 => ?_)
  subst x5
  with_reducible apply Keeps.ite
  with_reducible apply Keeps.after (after_keeps ?_)
  assumption
  with_reducible apply execSbCtrlClose_keeps _ _ _
  assumption
  clear_value x5
  intro x7
  refine Keeps.bindLet (s := s) (x := x7) ?_ (fun h8 => ?_)
  subst x7
  with_reducible apply Keeps.ite
  with_reducible apply Keeps.after (after_keeps ?_)
  assumption
  with_reducible apply execSbCtrlActivate_keeps _ _ _
  assumption
  clear_value x7
  intro x9
  subst x9
  with_reducible apply Keeps.ite
  with_reducible apply Keeps.ite
  with_reducible apply Keeps.after (after_keeps ?_)
  assumption
  with_reducible apply execSbCtrlCancel_keeps _ _ _
  assumption
  with_reducible apply Keeps.ite
  with_reducible apply Keeps.after (State.modSb_keeps _ _)
  exact Keeps.refl _
  with_reducible apply Keeps.ite
  with_reducible apply Keeps.ite
  with_reducible apply Keeps.after (after_keeps ?_)
  exact Keeps.refl _
  with_reducible apply execSbHalfFull_keeps _ _ _ _ _
  with_reducible apply Keeps.ite
  with_reducible apply Keeps.after (State.modSb_keeps _ _)
  exact Keeps.refl _
  exact Keeps.refl _
  exact Keeps.refl _

theorem deedWrite_keeps (s) (w) (o) (v) : Keeps s (deedWrite s w o v) := by
  unfold deedWrite State.modKci
  dsimp -zeta only
  with_reducible apply Keeps.ite
  with_reducible refine Keeps.upd ?_ rfl rfl
  exact Keeps.refl _
  with_reducible apply Keeps.ite
  split
  lift_lets
  intro x0
  subst x0
  with_reducible apply Keeps.ite
  with_reducible apply Keeps.after (after_keeps ?_)
  exact Keeps.refl _
  with_reducible apply execDeedReqClaim_keeps _ _ _
  with_reducible apply Keeps.ite
  with_reducible apply Keeps.after (after_keeps ?_)
  exact Keeps.refl _
  with_reducible apply execDeedReqRelease_keeps _ _ _ _
  exact Keeps.refl _
  exact Keeps.refl _
  exact Keeps.refl _

theorem blockWrite_keeps (s) (w) (o) (v) : Keeps s (blockWrite s w o v) := by
  unfold blockWrite
  lift_lets
  intro x0
  subst x0
  intro x1
  subst x1
  intro x2
  subst x2
  intro x3
  subst x3
  intro x4
  subst x4
  with_reducible apply Keeps.ite
  with_reducible apply Keeps.after (unmapped_keeps _ _ _ _ _)
  exact Keeps.refl _
  with_reducible apply Keeps.dite (fun _ => ?_) (fun _ => ?_)
  with_reducible apply Keeps.ite
  exact Keeps.refl _
  with_reducible apply Keeps.after (State.modStk_keeps _ _ _)
  exact Keeps.refl _
  with_reducible apply Keeps.ite
  split
  with_reducible apply Keeps.after (setPlat_keeps _ _ _ _)
  exact Keeps.refl _
  exact Keeps.refl _
  with_reducible apply Keeps.ite
  split
  with_reducible apply Keeps.upd ?_ rfl rfl
  with_reducible refine Keeps.upd ?_ rfl rfl
  exact Keeps.refl _
  exact Keeps.refl _
  with_reducible apply Keeps.ite
  split
  with_reducible apply Keeps.after (writePortCfg_keeps _ _ _)
  exact Keeps.refl _
  exact Keeps.refl _
  with_reducible apply Keeps.ite
  split
  with_reducible apply Keeps.ite
  with_reducible apply Keeps.after (after_keeps ?_)
  exact Keeps.refl _
  with_reducible apply execXcAttempt_keeps _ _ _ _
  with_reducible apply Keeps.after (modXc_keeps _ _ _)
  exact Keeps.refl _
  exact Keeps.refl _
  with_reducible apply Keeps.ite
  split
  with_reducible apply Keeps.ite
  exact Keeps.refl _
  with_reducible apply Keeps.after (closureWrite_keeps _ _ _ _)
  exact Keeps.refl _
  exact Keeps.refl _
  with_reducible apply Keeps.ite
  split
  with_reducible apply Keeps.ite
  exact Keeps.refl _
  with_reducible apply Keeps.after (modCl_keeps _ _ _)
  exact Keeps.refl _
  exact Keeps.refl _
  with_reducible apply Keeps.ite
  split
  with_reducible apply Keeps.after (modUc_keeps _ _ _)
  exact Keeps.refl _
  exact Keeps.refl _
  with_reducible apply Keeps.ite
  with_reducible apply Keeps.ite
  with_reducible apply Keeps.after (State.modServ_keeps _ _)
  exact Keeps.refl _
  exact Keeps.refl _
  with_reducible apply Keeps.ite
  with_reducible apply Keeps.after (deedWrite_keeps _ _ _ _)
  exact Keeps.refl _
  with_reducible apply Keeps.ite
  with_reducible apply Keeps.after (limitsWrite_keeps _ _ _ _)
  exact Keeps.refl _
  with_reducible apply Keeps.ite
  with_reducible apply Keeps.after (powerWrite_keeps _ _ _ _)
  exact Keeps.refl _
  with_reducible apply Keeps.ite
  with_reducible apply Keeps.dite (fun _ => ?_) (fun _ => ?_)
  with_reducible apply Keeps.after (State.modClk_keeps _ _)
  exact Keeps.refl _
  exact Keeps.refl _
  with_reducible apply Keeps.ite
  with_reducible apply Keeps.ite
  with_reducible apply Keeps.after (State.modTh_keeps _ _)
  exact Keeps.refl _
  exact Keeps.refl _
  with_reducible apply Keeps.ite
  with_reducible apply Keeps.ite
  with_reducible apply Keeps.after (State.modMg_keeps _ _)
  exact Keeps.refl _
  exact Keeps.refl _
  with_reducible apply Keeps.ite
  with_reducible apply Keeps.ite
  with_reducible apply Keeps.after (State.modSec_keeps _ _)
  exact Keeps.refl _
  exact Keeps.refl _
  with_reducible apply Keeps.ite
  with_reducible apply Keeps.ite
  with_reducible apply Keeps.after (State.modSnap_keeps _ _)
  exact Keeps.refl _
  with_reducible apply Keeps.ite
  with_reducible apply Keeps.after (State.modSnap_keeps _ _)
  exact Keeps.refl _
  exact Keeps.refl _
  with_reducible apply Keeps.ite
  with_reducible apply Keeps.ite
  with_reducible apply Keeps.after (State.modRst_keeps _ _)
  exact Keeps.refl _
  exact Keeps.refl _
  with_reducible apply Keeps.ite
  with_reducible apply Keeps.ite
  exact Keeps.refl _
  with_reducible apply Keeps.ite
  with_reducible apply Keeps.after (State.modRst_keeps _ _)
  exact Keeps.refl _
  with_reducible apply Keeps.ite
  with_reducible apply Keeps.after (State.modRst_keeps _ _)
  exact Keeps.refl _
  exact Keeps.refl _
  with_reducible apply Keeps.ite
  with_reducible apply Keeps.after (stagingWrite_keeps _ _ _ _)
  exact Keeps.refl _
  with_reducible apply Keeps.ite
  with_reducible apply Keeps.ite
  with_reducible apply Keeps.after (State.write_keeps _ _ _ _)
  exact Keeps.refl _
  exact Keeps.refl _
  exact Keeps.refl _

theorem blockLatch_keeps (s) (o) : Keeps s (blockLatch s o) := by
  unfold blockLatch
  with_reducible apply Keeps.ite
  with_reducible apply Keeps.after (after_keeps ?_)
  exact Keeps.refl _
  with_reducible apply execClkLoRead_keeps _ _
  with_reducible apply Keeps.ite
  with_reducible apply Keeps.after (after_keeps ?_)
  exact Keeps.refl _
  with_reducible apply execClkLoRead_keeps _ _
  with_reducible apply Keeps.ite
  with_reducible apply Keeps.after (after_keeps ?_)
  exact Keeps.refl _
  with_reducible apply execClkLoRead_keeps _ _
  exact Keeps.refl _

theorem maskVector_keeps (s) (f) (n) (masked) : Keeps s (maskVector s f n masked) := by
  unfold maskVector State.modKci
  dsimp -zeta only
  lift_lets
  intro x0
  subst x0
  intro x1
  subst x1
  intro x2
  refine Keeps.bindLet (s := s) (x := x2) ?_ (fun h3 => ?_)
  subst x2
  with_reducible apply Keeps.after (State.modFn_keeps _ _ _)
  exact Keeps.refl _
  clear_value x2
  with_reducible apply Keeps.ite
  with_reducible apply Keeps.after (State.modFn_keeps _ _ _)
  exact Keeps.refl _
  with_reducible apply Keeps.ite
  with_reducible refine Keeps.upd ?_ rfl rfl
  assumption
  assumption

theorem functionWrite_keeps (s) (f) (o) (v) : Keeps s (functionWrite s f o v) := by
  unfold functionWrite
  with_reducible apply Keeps.ite
  exact Keeps.refl _
  with_reducible apply Keeps.ite
  with_reducible apply Keeps.after (State.modFn_keeps _ _ _)
  exact Keeps.refl _
  with_reducible apply Keeps.ite
  with_reducible apply Keeps.ite
  with_reducible apply Keeps.after (after_keeps ?_)
  exact Keeps.refl _
  with_reducible apply execKciCtrlEnable_keeps _ _
  with_reducible apply Keeps.ite
  with_reducible apply Keeps.after (functionReset_keeps _ _)
  exact Keeps.refl _
  exact Keeps.refl _
  with_reducible apply Keeps.ite
  with_reducible apply Keeps.after (State.modFn_keeps _ _ _)
  exact Keeps.refl _
  with_reducible apply Keeps.ite
  with_reducible apply Keeps.after (State.modFn_keeps _ _ _)
  exact Keeps.refl _
  with_reducible apply Keeps.ite
  with_reducible apply Keeps.after (State.modFn_keeps _ _ _)
  exact Keeps.refl _
  with_reducible apply Keeps.ite
  with_reducible apply Keeps.after (State.modFn_keeps _ _ _)
  exact Keeps.refl _
  split
  lift_lets
  intro x0
  subst x0
  with_reducible apply Keeps.ite
  exact Keeps.refl _
  with_reducible apply Keeps.ite
  with_reducible apply Keeps.after (after_keeps ?_)
  exact Keeps.refl _
  with_reducible apply execSqTail_keeps _ _ _ _ _
  with_reducible apply Keeps.ite
  with_reducible apply Keeps.after (after_keeps ?_)
  exact Keeps.refl _
  with_reducible apply execCqHead_keeps _ _ _ _
  exact Keeps.refl _
  split
  lift_lets
  intro x1
  subst x1
  with_reducible apply Keeps.ite
  exact Keeps.refl _
  with_reducible apply Keeps.ite
  with_reducible apply Keeps.after (State.modFn_keeps _ _ _)
  exact Keeps.refl _
  with_reducible apply Keeps.ite
  with_reducible apply Keeps.after (State.modFn_keeps _ _ _)
  exact Keeps.refl _
  with_reducible apply Keeps.ite
  with_reducible apply Keeps.after (maskVector_keeps _ _ _ _)
  exact Keeps.refl _
  exact Keeps.refl _
  exact Keeps.refl _

theorem execRegisterWrite_keeps (at_) (value) (s) : Goes s (execRegisterWrite at_ value s) := by
  unfold execRegisterWrite State.modKci
  dsimp -zeta only
  with_reducible apply Goes.next
  split
  with_reducible apply Keeps.ite
  exact Keeps.refl _
  with_reducible apply Keeps.after (coreRegWrite_keeps _ _ _ _)
  with_reducible apply Keeps.after (passCore_keeps _ _ _)
  exact Keeps.refl _
  with_reducible apply Keeps.after (blockWrite_keeps _ _ _ _)
  exact Keeps.refl _
  with_reducible apply Keeps.after (functionWrite_keeps _ _ _ _)
  exact Keeps.refl _
  with_reducible apply Keeps.ite
  with_reducible refine Keeps.upd ?_ rfl rfl
  exact Keeps.refl _
  exact Keeps.refl _

theorem pathViolation_keeps (s) (f) (wr) (a3) : Keeps s (pathViolation s f wr a3) := by
  unfold pathViolation
  with_reducible apply Keeps.ite
  with_reducible apply Keeps.after (sourceViolation_keeps _ _ _ _)
  exact Keeps.refl _
  with_reducible apply Keeps.ite
  exact Keeps.refl _
  with_reducible apply Keeps.after (unmapped_keeps _ _ _ _ _)
  exact Keeps.refl _

theorem readWords_keeps (word) (latch) (s) (o) (n) (h_latch : FK2 latch) : Keeps s (readWords word latch s o n).2 := by
  unfold readWords
  split
  with_reducible apply Keeps.snd
  refine Keeps.pair2 (by assumption) ?_
  with_reducible apply Keeps.foldl2 (fun z0 _ _ => ?_) ?_
  with_reducible apply Keeps.snd
  exact Keeps.refl _
  with_reducible apply Keeps.snd
  with_reducible apply Keeps.after (h_latch _ _)
  with_reducible apply Keeps.snd
  exact Keeps.refl _

theorem pathRead_keeps (s) (a1) (n) : Keeps s (pathRead s a1 n).2 := by
  unfold pathRead
  with_reducible apply Keeps.iteSnd
  with_reducible apply Keeps.snd
  exact Keeps.refl _
  with_reducible apply Keeps.iteSnd
  with_reducible apply Keeps.foldl2 (fun z0 _ _ => ?_) ?_
  with_reducible apply Keeps.snd
  exact Keeps.refl _
  split
  dsimp -zeta only
  with_reducible apply Keeps.iteSnd
  with_reducible apply Keeps.snd
  refine Keeps.pair2 (by assumption) ?_
  with_reducible apply Keeps.snd
  exact Keeps.refl _
  split
  with_reducible apply Keeps.snd
  with_reducible apply Keeps.after (readWords_keeps _ _ _ _ _ (fun z1 _ => ?_))
  refine Keeps.pair2 (by assumption) ?_
  with_reducible apply Keeps.snd
  exact Keeps.refl _
  with_reducible apply Keeps.after (coreRegLatch_keeps _ _ _)
  exact Keeps.refl _
  with_reducible apply Keeps.snd
  with_reducible apply Keeps.after (unmapped_keeps _ _ _ _ _)
  refine Keeps.pair2 (by assumption) ?_
  with_reducible apply Keeps.snd
  exact Keeps.refl _
  with_reducible apply Keeps.snd
  refine Keeps.pair2 (by assumption) ?_
  with_reducible apply Keeps.snd
  exact Keeps.refl _
  with_reducible apply Keeps.after (readWords_keeps _ _ _ _ _ (fun z2 _ => ?_))
  exact Keeps.refl _
  with_reducible apply Keeps.after (blockLatch_keeps _ _)
  exact Keeps.refl _

theorem pathWrite_keeps (s) (a1) (bs) (pois) : Keeps s (pathWrite s a1 bs pois) := by
  unfold pathWrite
  with_reducible apply Keeps.ite
  with_reducible apply Keeps.after (State.write_keeps _ _ _ _)
  exact Keeps.refl _
  with_reducible apply Keeps.ite
  with_reducible apply Keeps.foldl (fun z0 _ => ?_) ?_
  exact Keeps.refl _
  dsimp -zeta only
  lift_lets
  intro x1
  subst x1
  with_reducible apply Keeps.ite
  exact Keeps.refl _
  split
  with_reducible apply Keeps.after (State.write_keeps _ _ _ _)
  exact Keeps.refl _
  exact Keeps.refl _
  with_reducible apply Keeps.foldl (fun z2 _ => ?_) ?_
  exact Keeps.refl _
  with_reducible apply Keeps.after (coreRegWrite_keeps _ _ _ _)
  exact Keeps.refl _
  with_reducible apply Keeps.after (unmapped_keeps _ _ _ _ _)
  exact Keeps.refl _
  with_reducible apply Keeps.foldl (fun z3 _ => ?_) ?_
  exact Keeps.refl _
  with_reducible apply Keeps.after (blockWrite_keeps _ _ _ _)
  exact Keeps.refl _

theorem bar2Stack_keeps (s) (f) (a) (write) (n) : Keeps s (bar2Stack s f a write n) := by
  unfold bar2Stack
  with_reducible apply Keeps.after (stackRequest_keeps _ _)
  exact Keeps.refl _

theorem execBar2Read_keeps (f) (a1) (n) (s) : Goes s (execBar2Read f a1 n s) := by
  unfold execBar2Read
  lift_lets
  intro x0
  subst x0
  intro x1
  refine Keeps.bindLet (s := s) (x := x1) ?_ (fun h2 => ?_)
  subst x1
  with_reducible apply Keeps.after (meetErrs_keeps _ _)
  exact Keeps.refl _
  clear_value x1
  intro x3
  subst x3
  with_reducible apply Goes.next
  with_reducible apply Keeps.ite
  exact Keeps.refl _
  with_reducible apply Keeps.ite
  with_reducible apply Keeps.after (bar2Stack_keeps _ _ _ _ _)
  exact Keeps.refl _
  split
  dsimp only
  with_reducible apply Keeps.upd ?_ rfl rfl
  with_reducible refine Keeps.upd ?_ rfl rfl
  with_reducible apply Keeps.after (pathViolation_keeps _ _ _ _)
  exact Keeps.refl _
  split
  with_reducible apply Keeps.upd ?_ rfl rfl
  with_reducible refine Keeps.upd ?_ rfl rfl
  refine Keeps.pair2 (by assumption) ?_
  with_reducible apply Keeps.after (pathRead_keeps _ _ _)
  assumption

theorem execBar2Write_keeps (f) (a1) (bs) (s) : Goes s (execBar2Write f a1 bs s) := by
  unfold execBar2Write
  lift_lets
  intro x0
  subst x0
  with_reducible apply Goes.next
  with_reducible apply Keeps.ite
  exact Keeps.refl _
  with_reducible apply Keeps.ite
  with_reducible apply Keeps.after (bar2Stack_keeps _ _ _ _ _)
  exact Keeps.refl _
  split
  with_reducible apply Keeps.after (pathViolation_keeps _ _ _ _)
  exact Keeps.refl _
  with_reducible apply Keeps.after (pathWrite_keeps _ _ _ _)
  exact Keeps.refl _

end Sys2Proof.Machine
end

