-- ==== Sys2Proof/Laws/KeepsCmd.lean ====
section
/-! SUPPORT. One lemma per operation: it keeps what the state must keep. Here: the commands of the command interface. -/

namespace Sys2Proof.Machine

/-! ### CmdDevice -/

theorem inPart_keeps (s c) (f : Fin 12 → State) (h : ∀ p, Keeps s (f p)) : Keeps s (inPart s c f) := by
  unfold inPart
  split
  · exact h _
  · exact Keeps.refl _

theorem atOnce_keeps (s) (c) (result) : Keeps s (atOnce s c result) := by
  unfold atOnce
  with_reducible apply Keeps.after (post_keeps _ _ _ _ _ _)
  exact Keeps.refl _

theorem actQueueCreate_keeps (a0) (a1) : Keeps a0 (actQueueCreate a0 a1) := by
  unfold actQueueCreate
  split
  with_reducible apply Keeps.after (atOnce_keeps _ _ _)
  with_reducible apply Keeps.after (State.modFn_keeps _ _ _)
  exact Keeps.refl _
  exact Keeps.refl _

theorem execQueueCreate_keeps (a0) (a1) (a2) (a3) : Goes a3 (execQueueCreate a0 a1 a2 a3) := by
  unfold execQueueCreate
  with_reducible apply runCode_keeps _ _ _ _ _ _ _ (fun z0 _ => ?_)
  with_reducible apply Keeps.after (actQueueCreate_keeps _ _)
  exact Keeps.refl _

theorem actQueueDestroy_keeps (a0) (a1) : Keeps a0 (actQueueDestroy a0 a1) := by
  unfold actQueueDestroy
  split
  with_reducible apply Keeps.after (atOnce_keeps _ _ _)
  with_reducible apply Keeps.after (State.modFn_keeps _ _ _)
  exact Keeps.refl _
  exact Keeps.refl _

theorem execQueueDestroy_keeps (a0) (a1) (a2) (a3) : Goes a3 (execQueueDestroy a0 a1 a2 a3) := by
  unfold execQueueDestroy
  with_reducible apply runCode_keeps _ _ _ _ _ _ _ (fun z0 _ => ?_)
  with_reducible apply Keeps.after (actQueueDestroy_keeps _ _)
  exact Keeps.refl _

theorem actDevQuery_keeps (a0) (a1) : Keeps a0 (actDevQuery a0 a1) := by
  unfold actDevQuery
  lift_lets
  intro x0
  subst x0
  with_reducible apply Keeps.ite
  with_reducible apply Keeps.after (atOnce_keeps _ _ _)
  exact Keeps.refl _
  with_reducible apply Keeps.after (atOnce_keeps _ _ _)
  with_reducible apply Keeps.after (State.hostWrite_keeps _ _ _)
  exact Keeps.refl _

theorem execDevQuery_keeps (a0) (a1) (a2) (a3) : Goes a3 (execDevQuery a0 a1 a2 a3) := by
  unfold execDevQuery
  with_reducible apply runCode_keeps _ _ _ _ _ _ _ (fun z0 _ => ?_)
  with_reducible apply Keeps.after (actDevQuery_keeps _ _)
  exact Keeps.refl _

theorem actDevCaps_keeps (a0) (a1) : Keeps a0 (actDevCaps a0 a1) := by
  unfold actDevCaps
  with_reducible apply Keeps.after (atOnce_keeps _ _ _)
  with_reducible apply Keeps.after (State.hostWrite_keeps _ _ _)
  exact Keeps.refl _

theorem execDevCaps_keeps (a0) (a1) (a2) (a3) : Goes a3 (execDevCaps a0 a1 a2 a3) := by
  unfold execDevCaps
  with_reducible apply runCode_keeps _ _ _ _ _ _ _ (fun z0 _ => ?_)
  with_reducible apply Keeps.after (actDevCaps_keeps _ _)
  exact Keeps.refl _

theorem pmapWait_keeps (s) (c) : Keeps s (pmapWait s c) := by
  unfold pmapWait
  with_reducible apply Keeps.after (goLive_keeps _ _)
  with_reducible refine Keeps.upd ?_ rfl rfl
  exact Keeps.refl _

theorem actPartCreate_keeps (a0) (a1) : Keeps a0 (actPartCreate a0 a1) := by
  unfold actPartCreate
  split
  with_reducible apply Keeps.after (pmapWait_keeps _ _)
  with_reducible apply Keeps.after (setParcels_keeps _ _ _ _)
  exact Keeps.refl _
  exact Keeps.refl _

theorem execPartCreate_keeps (a0) (a1) (a2) (a3) : Goes a3 (execPartCreate a0 a1 a2 a3) := by
  unfold execPartCreate
  with_reducible apply runCode_keeps _ _ _ _ _ _ _ (fun z0 _ => ?_)
  with_reducible apply Keeps.after (actPartCreate_keeps _ _)
  exact Keeps.refl _

theorem actPartDestroy_keeps (a0) (a1) : Keeps a0 (actPartDestroy a0 a1) := by
  unfold actPartDestroy
  with_reducible apply Keeps.after (inPart_keeps _ _ _ (fun z0 => ?_))
  exact Keeps.refl _
  with_reducible apply Keeps.after (beginPartReset_keeps _ _ _)
  with_reducible apply Keeps.after (goLive_keeps _ _)
  exact Keeps.refl _

theorem execPartDestroy_keeps (a0) (a1) (a2) (a3) : Goes a3 (execPartDestroy a0 a1 a2 a3) := by
  unfold execPartDestroy
  with_reducible apply runCode_keeps _ _ _ _ _ _ _ (fun z0 _ => ?_)
  with_reducible apply Keeps.after (actPartDestroy_keeps _ _)
  exact Keeps.refl _

theorem actPartAssignParcels_keeps (a0) (a1) : Keeps a0 (actPartAssignParcels a0 a1) := by
  unfold actPartAssignParcels
  with_reducible apply Keeps.after (inPart_keeps _ _ _ (fun z0 => ?_))
  exact Keeps.refl _
  with_reducible apply Keeps.after (pmapWait_keeps _ _)
  with_reducible apply Keeps.after (setParcels_keeps _ _ _ _)
  exact Keeps.refl _

theorem execPartAssignParcels_keeps (a0) (a1) (a2) (a3) : Goes a3 (execPartAssignParcels a0 a1 a2 a3) := by
  unfold execPartAssignParcels
  with_reducible apply runCode_keeps _ _ _ _ _ _ _ (fun z0 _ => ?_)
  with_reducible apply Keeps.after (actPartAssignParcels_keeps _ _)
  exact Keeps.refl _

theorem platWait_keeps (s) (c) : Keeps s (platWait s c) := by
  unfold platWait
  with_reducible apply Keeps.after (goLive_keeps _ _)
  with_reducible refine Keeps.upd ?_ rfl rfl
  exact Keeps.refl _

theorem actPlatMap_keeps (a0) (a1) : Keeps a0 (actPlatMap a0 a1) := by
  unfold actPlatMap
  split
  with_reducible apply Keeps.after (platWait_keeps _ _)
  with_reducible apply Keeps.after (setPlat_keeps _ _ _ _)
  exact Keeps.refl _
  exact Keeps.refl _

theorem execPlatMap_keeps (a0) (a1) (a2) (a3) : Goes a3 (execPlatMap a0 a1 a2 a3) := by
  unfold execPlatMap
  with_reducible apply runCode_keeps _ _ _ _ _ _ _ (fun z0 _ => ?_)
  with_reducible apply Keeps.after (actPlatMap_keeps _ _)
  exact Keeps.refl _

theorem actPlatUnmap_keeps (a0) (a1) : Keeps a0 (actPlatUnmap a0 a1) := by
  unfold actPlatUnmap
  split
  with_reducible apply Keeps.after (platWait_keeps _ _)
  with_reducible apply Keeps.after (setPlat_keeps _ _ _ _)
  exact Keeps.refl _
  exact Keeps.refl _

theorem execPlatUnmap_keeps (a0) (a1) (a2) (a3) : Goes a3 (execPlatUnmap a0 a1 a2 a3) := by
  unfold execPlatUnmap
  with_reducible apply runCode_keeps _ _ _ _ _ _ _ (fun z0 _ => ?_)
  with_reducible apply Keeps.after (actPlatUnmap_keeps _ _)
  exact Keeps.refl _

theorem memNote_keeps (s) (c) (w) : Keeps s (memNote s c w) := by
  unfold memNote
  with_reducible apply Keeps.ite
  exact Keeps.refl _
  split
  with_reducible apply Keeps.after (pathViolation_keeps _ _ _ _)
  exact Keeps.refl _
  exact Keeps.refl _

theorem memMoved_keeps (s) (c) (status) (first) : Keeps s (memMoved s c status first) := by
  unfold memMoved
  with_reducible apply Keeps.after (goLive_keeps _ _)
  exact Keeps.refl _

theorem memRow_keeps (o) (checks) (act) (f) (r) (host) (s) (h_act : FK2 act) : Goes s (memRow o checks act f r host s) := by
  unfold memRow
  with_reducible apply runRow_keeps _ _ _ _ _ _ _ _ (fun z0 _ _ => ?_) (fun z1 _ => ?_)
  with_reducible apply Keeps.after (memNote_keeps _ _ _)
  exact Keeps.refl _
  with_reducible apply Keeps.after (h_act _ _)
  exact Keeps.refl _

theorem actMemCopy_keeps (a0) (a1) : Keeps a0 (actMemCopy a0 a1) := by
  unfold actMemCopy
  lift_lets
  intro x0
  subst x0
  intro x1
  subst x1
  intro x2
  subst x2
  intro x3
  refine Keeps.bindLet (s := a0) (x := x3) ?_ (fun h4 => ?_)
  subst x3
  with_reducible apply Keeps.after (meetErrs_keeps _ _)
  exact Keeps.refl _
  clear_value x3
  intro x5
  subst x5
  intro x6
  subst x6
  with_reducible apply Keeps.ite
  with_reducible apply Keeps.after (memMoved_keeps _ _ _ _)
  with_reducible apply Keeps.after (pathWrite_keeps _ _ _ _)
  exact Keeps.refl _
  split
  dsimp only
  with_reducible apply Keeps.ite
  with_reducible apply Keeps.after (memMoved_keeps _ _ _ _)
  with_reducible apply Keeps.after (State.hostWrite_keeps _ _ _)
  refine Keeps.pair2 (by assumption) ?_
  with_reducible apply Keeps.after (pathRead_keeps _ _ _)
  assumption
  with_reducible apply Keeps.after (memMoved_keeps _ _ _ _)
  with_reducible apply Keeps.foldl (fun z7 _ => ?_) ?_
  with_reducible apply Keeps.after (pathWrite_keeps _ _ _ _)
  refine Keeps.pair2 (by assumption) ?_
  with_reducible apply Keeps.after (pathRead_keeps _ _ _)
  assumption
  with_reducible apply Keeps.after (pathWrite_keeps _ _ _ _)
  exact Keeps.refl _

theorem execMemCopy_keeps (a0) (a1) (a2) (a3) : Goes a3 (execMemCopy a0 a1 a2 a3) := by
  unfold execMemCopy
  with_reducible apply memRow_keeps _ _ _ _ _ _ _ (fun z0 _ => ?_)
  with_reducible apply Keeps.after (actMemCopy_keeps _ _)
  exact Keeps.refl _

theorem actMemFill_keeps (a0) (a1) : Keeps a0 (actMemFill a0 a1) := by
  unfold actMemFill
  with_reducible apply Keeps.after (memMoved_keeps _ _ _ _)
  with_reducible apply Keeps.after (pathWrite_keeps _ _ _ _)
  exact Keeps.refl _

theorem execMemFill_keeps (a0) (a1) (a2) (a3) : Goes a3 (execMemFill a0 a1 a2 a3) := by
  unfold execMemFill
  with_reducible apply memRow_keeps _ _ _ _ _ _ _ (fun z0 _ => ?_)
  with_reducible apply Keeps.after (actMemFill_keeps _ _)
  exact Keeps.refl _

theorem actMemScrub_keeps (a0) (a1) : Keeps a0 (actMemScrub a0 a1) := by
  unfold actMemScrub
  with_reducible apply Keeps.after (memMoved_keeps _ _ _ _)
  with_reducible apply Keeps.after (pathWrite_keeps _ _ _ _)
  exact Keeps.refl _

theorem execMemScrub_keeps (a0) (a1) (a2) (a3) : Goes a3 (execMemScrub a0 a1 a2 a3) := by
  unfold execMemScrub
  with_reducible apply memRow_keeps _ _ _ _ _ _ _ (fun z0 _ => ?_)
  with_reducible apply Keeps.after (actMemScrub_keeps _ _)
  exact Keeps.refl _

theorem execMemCopyDone_keeps (f) (handle) (s) : Goes s (execMemCopyDone f handle s) := by
  unfold execMemCopyDone
  with_reducible apply Goes.next
  split
  with_reducible apply Keeps.after (finish_keeps _ _ _ _ _)
  exact Keeps.refl _
  exact Keeps.refl _

/-! ### CmdStep -/

theorem progCheck_keeps (s) : Keeps s (progCheck s) := by
  unfold progCheck
  with_reducible apply Keeps.foldl (fun z0 _ => ?_) ?_
  exact Keeps.refl _
  with_reducible apply Keeps.ite
  with_reducible apply Keeps.after (finish_keeps _ _ _ _ _)
  exact Keeps.refl _
  with_reducible apply Keeps.after (finish_keeps _ _ _ _ _)
  exact Keeps.refl _

theorem markStopped_keeps (s) (cs) : Keeps s (markStopped s cs) := by
  unfold markStopped State.modKci
  dsimp -zeta only
  with_reducible refine Keeps.upd ?_ rfl rfl
  exact Keeps.refl _

theorem stopCheck_keeps (s) : Keeps s (stopCheck s) := by
  unfold stopCheck
  with_reducible apply Keeps.after (progCheck_keeps _)
  with_reducible apply Keeps.foldl (fun z0 _ => ?_) ?_
  exact Keeps.refl _
  with_reducible apply Keeps.after (finish_keeps _ _ _ _ _)
  with_reducible apply Keeps.after (markStopped_keeps _ _)
  exact Keeps.refl _

theorem recordRead_keeps (s) (r) : Keeps s (recordRead s r) := by
  unfold recordRead
  split
  exact Keeps.refl _
  lift_lets
  intro x0
  refine Keeps.bindLet (s := s) (x := x0) ?_ (fun h1 => ?_)
  subst x0
  with_reducible apply Keeps.ite
  unfold State.modKci
  with_reducible refine Keeps.upd ?_ rfl rfl
  exact Keeps.refl _
  exact Keeps.refl _
  clear_value x0
  intro x2
  refine Keeps.bindLet (s := s) (x := x2) ?_ (fun h3 => ?_)
  subst x2
  with_reducible apply Keeps.ite
  with_reducible apply Keeps.after (coreFaulted_keeps _ _ _)
  assumption
  assumption
  clear_value x2
  intro x4
  refine Keeps.bindLet (s := s) (x := x4) ?_ (fun h5 => ?_)
  subst x4
  with_reducible apply Keeps.ite
  with_reducible apply Keeps.after (State.modCore_keeps _ _ _)
  assumption
  assumption
  clear_value x4
  with_reducible apply Keeps.foldl (fun z6 _ => ?_) ?_
  assumption
  with_reducible apply Keeps.after (finish_keeps _ _ _ _ _)
  exact Keeps.refl _

theorem execTelemetryRecordWrite_keeps (s) : Goes s (execTelemetryRecordWrite s) := by
  unfold execTelemetryRecordWrite
  refine Goes.next ?_
  split
  · exact Keeps.refl _
  · rename_i r rest h
    exact Keeps.after (stopCheck_keeps _) (Keeps.after (recordRead_keeps _ _) (writeRecord_keeps _ _ _ (by rw [h]; simp)))

theorem execCoreStopped_keeps (c) (gap) (s) : Goes s (execCoreStopped c gap s) := by
  unfold execCoreStopped
  with_reducible apply onCore_keeps _ _ _ _ (fun z0 => ?_)
  with_reducible apply Keeps.after (stopCheck_keeps _)
  with_reducible apply Keeps.after (settleStop_keeps _ _)
  exact Keeps.refl _

theorem actProgLoad_keeps (a0) (a1) : Keeps a0 (actProgLoad a0 a1) := by
  unfold actProgLoad
  with_reducible apply Keeps.after (inPart_keeps _ _ _ (fun z0 => ?_))
  exact Keeps.refl _
  lift_lets
  intro x1
  subst x1
  intro x2
  refine Keeps.bindLet (s := a0) (x := x2) ?_ (fun h3 => ?_)
  subst x2
  with_reducible apply Keeps.foldl (fun z4 _ => ?_) ?_
  exact Keeps.refl _
  with_reducible apply Keeps.after (noteLoaded_keeps _ _ _)
  with_reducible apply Keeps.after (loadImage_keeps _ _ _ _)
  exact Keeps.refl _
  clear_value x2
  with_reducible apply Keeps.after (post_keeps _ _ _ _ _ _)
  with_reducible apply Keeps.after (lookAgain_keeps _ _)
  assumption

theorem execProgLoad_keeps (a0) (a1) (a2) (a3) : Goes a3 (execProgLoad a0 a1 a2 a3) := by
  unfold execProgLoad
  with_reducible apply runCode_keeps _ _ _ _ _ _ _ (fun z0 _ => ?_)
  with_reducible apply Keeps.after (actProgLoad_keeps _ _)
  exact Keeps.refl _

theorem actProgStart_keeps (a0) (a1) : Keeps a0 (actProgStart a0 a1) := by
  unfold actProgStart
  with_reducible apply Keeps.after (progCheck_keeps _)
  with_reducible apply Keeps.foldl (fun z0 _ => ?_) ?_
  with_reducible apply Keeps.after (goLive_keeps _ _)
  exact Keeps.refl _
  with_reducible apply Keeps.after (startCore_keeps _ _)
  exact Keeps.refl _

theorem execProgStart_keeps (a0) (a1) (a2) (a3) : Goes a3 (execProgStart a0 a1 a2 a3) := by
  unfold execProgStart
  with_reducible apply runCode_keeps _ _ _ _ _ _ _ (fun z0 _ => ?_)
  with_reducible apply Keeps.after (actProgStart_keeps _ _)
  exact Keeps.refl _

theorem actProgStop_keeps (a0) (a1) : Keeps a0 (actProgStop a0 a1) := by
  unfold actProgStop
  with_reducible apply Keeps.after (stopCheck_keeps _)
  with_reducible apply Keeps.foldl (fun z0 _ => ?_) ?_
  with_reducible apply Keeps.after (goLive_keeps _ _)
  exact Keeps.refl _
  with_reducible apply Keeps.after (haltCore_keeps _ _)
  exact Keeps.refl _

theorem execProgStop_keeps (a0) (a1) (a2) (a3) : Goes a3 (execProgStop a0 a1 a2 a3) := by
  unfold execProgStop
  with_reducible apply runCode_keeps _ _ _ _ _ _ _ (fun z0 _ => ?_)
  with_reducible apply Keeps.after (actProgStop_keeps _ _)
  exact Keeps.refl _

theorem actProgStatus_keeps (a0) (a1) : Keeps a0 (actProgStatus a0 a1) := by
  unfold actProgStatus
  lift_lets
  intro x0
  subst x0
  intro x1
  subst x1
  intro x2
  subst x2
  with_reducible apply Keeps.after (atOnce_keeps _ _ _)
  with_reducible apply Keeps.after (State.hostWrite_keeps _ _ _)
  exact Keeps.refl _

theorem execProgStatus_keeps (a0) (a1) (a2) (a3) : Goes a3 (execProgStatus a0 a1 a2 a3) := by
  unfold execProgStatus
  with_reducible apply runCode_keeps _ _ _ _ _ _ _ (fun z0 _ => ?_)
  with_reducible apply Keeps.after (actProgStatus_keeps _ _)
  exact Keeps.refl _

theorem setRetained_keeps (s) (p) (i) (c) : Keeps s (setRetained s p i c) := by
  unfold setRetained
  with_reducible apply Keeps.after (modCl_keeps _ _ _)
  exact Keeps.refl _

theorem admitCores_keeps (s) (p) (j) : Keeps s (admitCores s p j) := by
  unfold admitCores
  lift_lets
  intro x0
  subst x0
  intro x1
  refine Keeps.bindLet (s := s) (x := x1) ?_ (fun h2 => ?_)
  subst x1
  with_reducible apply Keeps.foldl (fun z3 _ => ?_) ?_
  exact Keeps.refl _
  with_reducible apply Keeps.after (modTc_keeps _ _ _)
  exact Keeps.refl _
  clear_value x1
  with_reducible apply Keeps.ite
  with_reducible apply Keeps.after (modSlot_keeps _ _ _ _)
  assumption
  assumption

theorem openStep_keeps (s) (p) (c) : Keeps s (openStep s p c) := by
  unfold openStep
  lift_lets
  intro x0
  subst x0
  intro x1
  subst x1
  intro x2
  subst x2
  intro x3
  refine Keeps.bindLet (s := s) (x := x3) ?_ (fun h4 => ?_)
  subst x3
  with_reducible apply Keeps.after (admitCores_keeps _ _ _)
  exact Keeps.refl _
  clear_value x3
  intro x5
  subst x5
  intro x6
  refine Keeps.bindLet (s := s) (x := x6) ?_ (fun h7 => ?_)
  subst x6
  with_reducible apply Keeps.after (setStep_keeps _ _ _ _)
  with_reducible apply Keeps.after (modSlot_keeps _ _ _ _)
  assumption
  clear_value x6
  intro x8
  refine Keeps.bindLet (s := s) (x := x8) ?_ (fun h9 => ?_)
  subst x8
  with_reducible apply Keeps.after (setRetained_keeps _ _ _ _)
  assumption
  clear_value x8
  intro x10
  refine Keeps.bindLet (s := s) (x := x10) ?_ (fun h11 => ?_)
  subst x10
  with_reducible apply Keeps.after (modCl_keeps _ _ _)
  assumption
  clear_value x10
  intro x12
  subst x12
  intro x13
  refine Keeps.bindLet (s := s) (x := x13) ?_ (fun h14 => ?_)
  subst x13
  with_reducible apply Keeps.ite
  assumption
  with_reducible apply Keeps.after (modXc_keeps _ _ _)
  assumption
  clear_value x13
  intro x15
  refine Keeps.bindLet (s := s) (x := x15) ?_ (fun h16 => ?_)
  subst x15
  with_reducible apply Keeps.after (goLive_keeps _ _)
  assumption
  clear_value x15
  intro x17
  refine Keeps.bindLet (s := s) (x := x17) ?_ (fun h18 => ?_)
  subst x17
  with_reducible apply Keeps.after (releaseDue_keeps _ _)
  assumption
  clear_value x17
  intro x19
  refine Keeps.bindLet (s := s) (x := x19) ?_ (fun h20 => ?_)
  subst x19
  with_reducible apply Keeps.after (modCl_keeps _ _ _)
  assumption
  clear_value x19
  with_reducible apply Keeps.ite
  assumption
  with_reducible apply Keeps.ite
  with_reducible apply Keeps.after (evalGo_keeps _ _ _ _)
  assumption
  assumption

theorem actStepOpen_keeps (a0) (a1) : Keeps a0 (actStepOpen a0 a1) := by
  unfold actStepOpen
  with_reducible apply Keeps.after (inPart_keeps _ _ _ (fun z0 => ?_))
  exact Keeps.refl _
  with_reducible apply Keeps.after (openStep_keeps _ _ _)
  exact Keeps.refl _

theorem execStepOpen_keeps (a0) (a1) (a2) (a3) : Goes a3 (execStepOpen a0 a1 a2 a3) := by
  unfold execStepOpen
  with_reducible apply runCode_keeps _ _ _ _ _ _ _ (fun z0 _ => ?_)
  with_reducible apply Keeps.after (actStepOpen_keeps _ _)
  exact Keeps.refl _

theorem actClose_keeps (act) (a1) (a2) (h_act : FK3 act) : Keeps a1 (actClose act a1 a2) := by
  unfold actClose
  with_reducible apply Keeps.after (inPart_keeps _ _ _ (fun z0 => ?_))
  exact Keeps.refl _
  with_reducible apply Keeps.after (atOnce_keeps _ _ _)
  with_reducible apply Keeps.after (h_act _ _ _)
  exact Keeps.refl _

theorem closeRow_keeps (action) (ok) (act) (f) (r) (host) (s) (h_act : FK3 act) : Goes s (closeRow action ok act f r host s) := by
  unfold closeRow
  with_reducible apply runRow_keeps _ _ _ _ _ _ _ _ (fun z0 _ _ => ?_) (fun z1 _ => ?_)
  exact Keeps.refl _
  with_reducible apply Keeps.after (actClose_keeps _ _ _ (fun z2 _ _ => ?_))
  exact Keeps.refl _
  with_reducible apply Keeps.after (h_act _ _ _)
  exact Keeps.refl _

theorem retryWait_keeps (s) (p) (i) : Keeps s (retryWait s p i) := by
  unfold retryWait
  lift_lets
  intro x0
  refine Keeps.bindLet (s := s) (x := x0) ?_ (fun h1 => ?_)
  subst x0
  with_reducible apply Keeps.after (modSlot_keeps _ _ _ _)
  exact Keeps.refl _
  clear_value x0
  intro x2
  refine Keeps.bindLet (s := s) (x := x2) ?_ (fun h3 => ?_)
  subst x2
  with_reducible apply Keeps.ite
  with_reducible apply Keeps.after (restartPass_keeps _ _)
  assumption
  assumption
  clear_value x2
  with_reducible apply Keeps.after (readMail_keeps _ _ _)
  with_reducible apply Keeps.after (sendEntry_keeps _ _ _ _)
  assumption

theorem actStepCloseRetry_keeps (a0) (a1) (a2) : Keeps a0 (actStepCloseRetry a0 a1 a2) := by
  unfold actStepCloseRetry
  lift_lets
  intro x0
  subst x0
  intro x1
  refine Keeps.bindLet (s := a0) (x := x1) ?_ (fun h2 => ?_)
  subst x1
  with_reducible apply Keeps.after (modSlot_keeps _ _ _ _)
  exact Keeps.refl _
  clear_value x1
  with_reducible apply Keeps.ite
  with_reducible apply Keeps.after (retryWait_keeps _ _ _)
  assumption
  with_reducible apply Keeps.after (lookAgain_keeps _ _)
  with_reducible apply Keeps.after (startReplay_keeps _ _ _ _)
  assumption

theorem execStepCloseRetry_keeps (a0) (a1) (a2) (a3) : Goes a3 (execStepCloseRetry a0 a1 a2 a3) := by
  unfold execStepCloseRetry
  with_reducible apply closeRow_keeps _ _ _ _ _ _ _ (fun z0 _ _ => ?_)
  with_reducible apply Keeps.after (actStepCloseRetry_keeps _ _ _)
  exact Keeps.refl _

theorem actStepCloseAbandon_keeps (a0) (a1) (a2) : Keeps a0 (actStepCloseAbandon a0 a1 a2) := by
  unfold actStepCloseAbandon
  with_reducible apply Keeps.after (openGate_keeps _ _)
  with_reducible apply Keeps.after (modSlot_keeps _ _ _ _)
  exact Keeps.refl _

theorem execStepCloseAbandon_keeps (a0) (a1) (a2) (a3) : Goes a3 (execStepCloseAbandon a0 a1 a2 a3) := by
  unfold execStepCloseAbandon
  with_reducible apply closeRow_keeps _ _ _ _ _ _ _ (fun z0 _ _ => ?_)
  with_reducible apply Keeps.after (actStepCloseAbandon_keeps _ _ _)
  exact Keeps.refl _

theorem actStepCloseEval_keeps (a0) (a1) (a2) : Keeps a0 (actStepCloseEval a0 a1 a2) := by
  unfold actStepCloseEval
  with_reducible apply Keeps.after (modSlot_keeps _ _ _ _)
  exact Keeps.refl _

theorem execStepCloseEval_keeps (a0) (a1) (a2) (a3) : Goes a3 (execStepCloseEval a0 a1 a2 a3) := by
  unfold execStepCloseEval
  with_reducible apply closeRow_keeps _ _ _ _ _ _ _ (fun z0 _ _ => ?_)
  with_reducible apply Keeps.after (actStepCloseEval_keeps _ _ _)
  exact Keeps.refl _

theorem actStepPolicySet_keeps (a0) (a1) : Keeps a0 (actStepPolicySet a0 a1) := by
  unfold actStepPolicySet
  with_reducible apply Keeps.after (inPart_keeps _ _ _ (fun z0 => ?_))
  exact Keeps.refl _
  with_reducible apply Keeps.after (atOnce_keeps _ _ _)
  with_reducible apply Keeps.after (setPolicy_keeps _ _ _)
  exact Keeps.refl _

theorem execStepPolicySet_keeps (a0) (a1) (a2) (a3) : Goes a3 (execStepPolicySet a0 a1 a2 a3) := by
  unfold execStepPolicySet
  with_reducible apply runCode_keeps _ _ _ _ _ _ _ (fun z0 _ => ?_)
  with_reducible apply Keeps.after (actStepPolicySet_keeps _ _)
  exact Keeps.refl _

theorem retryRecords_keeps (s) (p) : Keeps s (retryRecords s p) := by
  unfold retryRecords
  with_reducible apply Keeps.foldl (fun z0 _ => ?_) ?_
  exact Keeps.refl _
  with_reducible apply Keeps.after (closeStep_keeps _ _ _)
  exact Keeps.refl _

theorem actStepRecordGet_keeps (a0) (a1) : Keeps a0 (actStepRecordGet a0 a1) := by
  unfold actStepRecordGet
  with_reducible apply Keeps.after (inPart_keeps _ _ _ (fun z0 => ?_))
  exact Keeps.refl _
  split
  exact Keeps.refl _
  lift_lets
  intro x1
  subst x1
  intro x2
  subst x2
  intro x3
  refine Keeps.bindLet (s := a0) (x := x3) ?_ (fun h4 => ?_)
  subst x3
  with_reducible apply Keeps.after (State.hostWrite_keeps _ _ _)
  exact Keeps.refl _
  clear_value x3
  intro x5
  refine Keeps.bindLet (s := a0) (x := x5) ?_ (fun h6 => ?_)
  subst x5
  with_reducible apply Keeps.ite
  with_reducible apply Keeps.after (modCl_keeps _ _ _)
  assumption
  assumption
  clear_value x5
  with_reducible apply Keeps.ite
  with_reducible apply Keeps.after (post_keeps _ _ _ _ _ _)
  assumption
  with_reducible apply Keeps.after (retryRecords_keeps _ _)
  with_reducible apply Keeps.after (atOnce_keeps _ _ _)
  assumption

theorem execStepRecordGet_keeps (a0) (a1) (a2) (a3) : Goes a3 (execStepRecordGet a0 a1 a2 a3) := by
  unfold execStepRecordGet
  with_reducible apply runCode_keeps _ _ _ _ _ _ _ (fun z0 _ => ?_)
  with_reducible apply Keeps.after (actStepRecordGet_keeps _ _)
  exact Keeps.refl _

/-! ### CmdState -/

theorem actUpdGroupSet_keeps (a0) (a1) : Keeps a0 (actUpdGroupSet a0 a1) := by
  unfold actUpdGroupSet
  with_reducible apply Keeps.after (inPart_keeps _ _ _ (fun z0 => ?_))
  exact Keeps.refl _
  with_reducible apply Keeps.after (atOnce_keeps _ _ _)
  with_reducible apply Keeps.after (setGroup_keeps _ _ _)
  exact Keeps.refl _

theorem execUpdGroupSet_keeps (a0) (a1) (a2) (a3) : Goes a3 (execUpdGroupSet a0 a1 a2 a3) := by
  unfold execUpdGroupSet
  with_reducible apply runCode_keeps _ _ _ _ _ _ _ (fun z0 _ => ?_)
  with_reducible apply Keeps.after (actUpdGroupSet_keeps _ _)
  exact Keeps.refl _

theorem actExport_keeps (a0) (a1) : Keeps a0 (actExport a0 a1) := by
  unfold actExport
  with_reducible apply Keeps.after (inPart_keeps _ _ _ (fun z0 => ?_))
  exact Keeps.refl _
  with_reducible apply Keeps.after (goLive_keeps _ _)
  with_reducible apply Keeps.after (modCl_keeps _ _ _)
  exact Keeps.refl _

theorem exportRow_keeps (o) (logical) (f) (r) (host) (s) : Goes s (exportRow o logical f r host s) := by
  unfold exportRow
  with_reducible apply runCode_keeps _ _ _ _ _ _ _ (fun z0 _ => ?_)
  with_reducible apply Keeps.after (actExport_keeps _ _)
  exact Keeps.refl _

theorem execExportWorking_keeps (a0) (a1) (a2) (a3) : Goes a3 (execExportWorking a0 a1 a2 a3) := by
  unfold execExportWorking
  with_reducible apply exportRow_keeps _ _ _ _ _ _

theorem execExportLogical_keeps (a0) (a1) (a2) (a3) : Goes a3 (execExportLogical a0 a1 a2 a3) := by
  unfold execExportLogical
  with_reducible apply exportRow_keeps _ _ _ _ _ _

theorem placeExport_keeps (s) (c) (bs) : Keeps s (placeExport s c bs) := by
  unfold placeExport
  with_reducible apply Keeps.ite
  with_reducible apply Keeps.after (State.hostWrite_keeps _ _ _)
  exact Keeps.refl _
  with_reducible apply Keeps.after (State.write_keeps _ _ _ _)
  exact Keeps.refl _

theorem endExport_keeps (s) (p) (c) : Keeps s (endExport s p c) := by
  unfold endExport
  lift_lets
  intro x0
  subst x0
  intro x1
  subst x1
  intro x2
  subst x2
  split
  split
  dsimp -zeta only
  dsimp only
  with_reducible apply Keeps.after (openGate_keeps _ _)
  with_reducible apply Keeps.after (finish_keeps _ _ _ _ _)
  with_reducible apply Keeps.after (modCl_keeps _ _ _)
  with_reducible apply Keeps.after (placeExport_keeps _ _ _)
  refine Keeps.pair2 (by assumption) ?_
  with_reducible apply Keeps.after (State.freshBytes_keeps _ _)
  exact Keeps.refl _
  dsimp -zeta only
  dsimp only
  with_reducible apply Keeps.after (openGate_keeps _ _)
  with_reducible apply Keeps.after (finish_keeps _ _ _ _ _)
  with_reducible apply Keeps.after (modCl_keeps _ _ _)
  with_reducible apply Keeps.after (placeExport_keeps _ _ _)
  exact Keeps.refl _

theorem execExportDone_keeps (f) (handle) (s) : Goes s (execExportDone f handle s) := by
  unfold execExportDone
  with_reducible apply Goes.next
  split
  split
  with_reducible apply Keeps.ite
  with_reducible apply Keeps.after (endExport_keeps _ _ _)
  exact Keeps.refl _
  exact Keeps.refl _
  exact Keeps.refl _
  exact Keeps.refl _

theorem importOne_keeps (p) (logical) (b) (tab) (s) (t) : Keeps s (importOne p logical b tab s t) := by
  unfold importOne
  with_reducible apply Keeps.ite
  lift_lets
  intro x0
  subst x0
  with_reducible apply Keeps.after (storeAll_keeps _ _ _)
  exact Keeps.refl _
  split
  exact Keeps.refl _
  lift_lets
  intro x1
  subst x1
  intro x2
  refine Keeps.bindLet (s := s) (x := x2) ?_ (fun h3 => ?_)
  subst x2
  with_reducible apply Keeps.after (State.write_keeps _ _ _ _)
  exact Keeps.refl _
  clear_value x2
  with_reducible apply Keeps.after (State.write_keeps _ _ _ _)
  assumption

theorem leaveFaulted_keeps (s) (p) : Keeps s (leaveFaulted s p) := by
  unfold leaveFaulted
  with_reducible apply Keeps.ite
  lift_lets
  intro x0
  refine Keeps.bindLet (s := s) (x := x0) ?_ (fun h1 => ?_)
  subst x0
  with_reducible apply Keeps.foldl (fun z2 _ => ?_) ?_
  exact Keeps.refl _
  with_reducible apply Keeps.after (finish_keeps _ _ _ _ _)
  exact Keeps.refl _
  clear_value x0
  intro x3
  refine Keeps.bindLet (s := s) (x := x3) ?_ (fun h4 => ?_)
  subst x3
  with_reducible apply Keeps.after (modCl_keeps _ _ _)
  assumption
  clear_value x3
  with_reducible apply Keeps.after (dsFresh_keeps _ _ _)
  assumption
  exact Keeps.refl _

theorem restoreState_keeps (s) (p) (c) : Keeps s (restoreState s p c) := by
  unfold restoreState
  lift_lets
  intro x0
  subst x0
  intro x1
  subst x1
  intro x2
  subst x2
  intro x3
  subst x3
  intro x4
  refine Keeps.bindLet (s := s) (x := x4) ?_ (fun h5 => ?_)
  subst x4
  with_reducible apply Keeps.after (leaveFaulted_keeps _ _)
  exact Keeps.refl _
  clear_value x4
  intro x6
  refine Keeps.bindLet (s := s) (x := x6) ?_ (fun h7 => ?_)
  subst x6
  with_reducible apply Keeps.foldl (fun z8 _ => ?_) ?_
  assumption
  with_reducible apply Keeps.after (importOne_keeps _ _ _ _ _ _)
  exact Keeps.refl _
  clear_value x6
  intro x9
  refine Keeps.bindLet (s := s) (x := x9) ?_ (fun h10 => ?_)
  subst x9
  with_reducible apply Keeps.after (State.modPart_keeps _ _ _)
  assumption
  clear_value x9
  intro x11
  refine Keeps.bindLet (s := s) (x := x11) ?_ (fun h12 => ?_)
  subst x11
  with_reducible apply Keeps.ite
  with_reducible apply Keeps.after (dsFresh_keeps _ _ _)
  assumption
  assumption
  clear_value x11
  intro x13
  subst x13
  intro x14
  refine Keeps.bindLet (s := s) (x := x14) ?_ (fun h15 => ?_)
  subst x14
  with_reducible apply Keeps.ite
  with_reducible apply Keeps.after (evalGo_keeps _ _ _ _)
  assumption
  assumption
  clear_value x14
  with_reducible apply Keeps.after (atOnce_keeps _ _ _)
  assumption

theorem actImportState_keeps (a0) (a1) : Keeps a0 (actImportState a0 a1) := by
  unfold actImportState
  with_reducible apply Keeps.after (inPart_keeps _ _ _ (fun z0 => ?_))
  exact Keeps.refl _
  with_reducible apply Keeps.after (restoreState_keeps _ _ _)
  exact Keeps.refl _

theorem execImportState_keeps (a0) (a1) (a2) (a3) : Goes a3 (execImportState a0 a1 a2 a3) := by
  unfold execImportState
  with_reducible apply runCode_keeps _ _ _ _ _ _ _ (fun z0 _ => ?_)
  with_reducible apply Keeps.after (actImportState_keeps _ _)
  exact Keeps.refl _

/-! ### CmdTxn -/

theorem actTxnBegin_keeps (s c) (h : s.kci.txns.length < 4) : Keeps s (actTxnBegin s c) := by
  unfold actTxnBegin
  extract_lets id t
  have ht : Keeps s t := ⟨rfl, fun g => ⟨g.1, g.2, g.3, g.4, by
    show (s.kci.txns ++ _).length ≤ 4
    simp only [List.length_append, List.length_cons, List.length_nil]; omega⟩⟩
  exact Keeps.after (atOnce_keeps _ _ _) ht

theorem raiseVector_txns (s f v) : (raiseVector s f v).kci.txns = s.kci.txns := by
  unfold raiseVector; split <;> rfl

theorem putCompletion_txns (s f r b) : (putCompletion s f r b).kci.txns = s.kci.txns := by
  unfold putCompletion; split
  · rfl
  · exact raiseVector_txns _ _ _

theorem deliver_txns (s f r b e) : (deliver s f r b e).kci.txns = s.kci.txns := by
  unfold deliver; split
  · rfl
  · dsimp only
    split
    · exact putCompletion_txns _ _ _ _
    · repeat' split
      all_goals rfl

theorem post_txns (s c f a b e) : (post s c f a b e).kci.txns = s.kci.txns := by
  unfold post; split
  · rfl
  · split
    · rfl
    · exact deliver_txns _ _ _ _ _

theorem begin_free (s c) (ho : c.opcode = 0x38) (h : firstFail checkTxnBegin s c = none) :
    c.txn = false ∧ s.kci.txns.length < 4 := by
  have ha : txnAllowed c = false := by simp [txnAllowed, ho]
  have ht : c.txn = false := by
    by_contra hc
    have : txnFault s c = some (kBADARG, 1) := by simp [txnFault, hc, ha]
    unfold firstFail at h
    rw [this] at h
    split at h <;> simp at h
  refine ⟨ht, ?_⟩
  unfold firstFail at h
  by_contra hl
  have hv : virtual s c = s := by simp [virtual, ht]
  have hk : checkTxnBegin s c = some (kBUSY, 0, []) := by simp [checkTxnBegin, only, hl]
  rw [hv, hk] at h
  repeat' split at h
  all_goals first | (simp at h; done) | simp_all

theorem execTxnBegin_keeps (f r host s) : Goes s (execTxnBegin f r host s) := by
  unfold execTxnBegin runCode runRow
  apply Goes.next
  split
  · exact Keeps.refl _
  · rename_i c _
    split
    · exact Keeps.refl _
    · rename_i hm
      have ho : c.opcode = 0x38 := by simpa using hm
      extract_lets t d u
      have ht : Keeps s t := Keeps.foldl (fun _ _ => State.hostWrite_keeps _ _ _) (Keeps.refl _)
      have hu : Keeps s u := Keeps.after (popRing_keeps _ _ _) ht
      split
      · exact Keeps.after (pump_keeps _ _ _) (Keeps.after (post_keeps _ _ _ _ _ _) hu)
      · rename_i hf
        obtain ⟨hx, hl⟩ := begin_free u d ho hf
        refine Keeps.after (pump_keeps _ _ _) ?_
        unfold accept
        rw [hx]
        have hp : Keeps s (if d.ack = true then post u d false kPENDING 0 [] else u) :=
          Keeps.ite (Keeps.after (post_keeps _ _ _ _ _ _) hu) hu
        refine Keeps.after (actTxnBegin_keeps _ _ ?_) hp
        split
        · rw [post_txns]; exact hl
        · exact hl

theorem prepare_keeps (unit) (s) (c) : Keeps s (prepare unit s c) := by
  unfold prepare
  split
  exact Keeps.refl _
  lift_lets
  intro x0
  subst x0
  intro x1
  subst x1
  intro x2
  subst x2
  split
  with_reducible apply Keeps.after (endTxn_keeps _ _ _ _ _ _)
  exact Keeps.refl _
  with_reducible apply Keeps.ite
  with_reducible apply Keeps.after (endTxn_keeps _ _ _ _ _ _)
  exact Keeps.refl _
  with_reducible apply Keeps.after (modTxn_keeps _ _ _)
  with_reducible apply Keeps.after (stageRaise_keeps _ _)
  exact Keeps.refl _

theorem execTxnCommit_keeps (f) (r) (host) (unit) (s) : Goes s (execTxnCommit f r host unit s) := by
  unfold execTxnCommit
  with_reducible apply runCode_keeps _ _ _ _ _ _ _ (fun z0 _ => ?_)
  with_reducible apply Keeps.after (prepare_keeps _ _ _)
  exact Keeps.refl _

theorem actTxnRollback_keeps (a0) (a1) : Keeps a0 (actTxnRollback a0 a1) := by
  unfold actTxnRollback
  split
  with_reducible apply Keeps.after (atOnce_keeps _ _ _)
  with_reducible apply Keeps.after (rollBack_keeps _ _ _ _)
  exact Keeps.refl _
  exact Keeps.refl _

theorem execTxnRollback_keeps (a0) (a1) (a2) (a3) : Goes a3 (execTxnRollback a0 a1 a2 a3) := by
  unfold execTxnRollback
  with_reducible apply runCode_keeps _ _ _ _ _ _ _ (fun z0 _ => ?_)
  with_reducible apply Keeps.after (actTxnRollback_keeps _ _)
  exact Keeps.refl _

theorem took_keeps (set) (s) (c) (h_set : FK2 set) : Keeps s (took set s c) := by
  unfold took
  lift_lets
  intro x0
  refine Keeps.bindLet (s := s) (x := x0) ?_ (fun h1 => ?_)
  subst x0
  with_reducible apply Keeps.after (h_set _ _)
  exact Keeps.refl _
  clear_value x0
  with_reducible apply Keeps.after (atOnce_keeps _ _ _)
  assumption

theorem execPowerLimitSet_keeps (a0) (a1) (a2) (a3) : Goes a3 (execPowerLimitSet a0 a1 a2 a3) := by
  unfold execPowerLimitSet
  with_reducible apply runCode_keeps _ _ _ _ _ _ _ (fun z0 _ => ?_)
  with_reducible apply Keeps.after (took_keeps _ _ _ (fun z1 _ => ?_))
  exact Keeps.refl _
  with_reducible apply Keeps.after (setPower_keeps _ _)
  exact Keeps.refl _

theorem execPstepPolicySet_keeps (a0) (a1) (a2) (a3) : Goes a3 (execPstepPolicySet a0 a1 a2 a3) := by
  unfold execPstepPolicySet
  with_reducible apply runCode_keeps _ _ _ _ _ _ _ (fun z0 _ => ?_)
  with_reducible apply Keeps.after (took_keeps _ _ _ (fun z1 _ => ?_))
  exact Keeps.refl _
  with_reducible apply Keeps.after (setSteps_keeps _ _)
  exact Keeps.refl _

theorem execLattolSet_keeps (a0) (a1) (a2) (a3) : Goes a3 (execLattolSet a0 a1 a2 a3) := by
  unfold execLattolSet
  with_reducible apply runCode_keeps _ _ _ _ _ _ _ (fun z0 _ => ?_)
  with_reducible apply Keeps.after (took_keeps _ _ _ (fun z1 _ => ?_))
  exact Keeps.refl _
  with_reducible apply Keeps.after (setTol_keeps _ _)
  exact Keeps.refl _

theorem fabricRow_keeps (sel) (body) (f) (r) (host) (s) : Goes s (fabricRow sel body f r host s) := by
  unfold fabricRow
  with_reducible apply runRow_keeps _ _ _ _ _ _ _ _ (fun z0 _ _ => ?_) (fun z1 _ => ?_)
  exact Keeps.refl _
  with_reducible apply Keeps.after (took_keeps _ _ _ (fun z2 _ => ?_))
  exact Keeps.refl _
  with_reducible apply Keeps.after (setFabric_keeps _ _)
  exact Keeps.refl _

theorem execFabricConfigIdentity_keeps (a0) (a1) (a2) (a3) : Goes a3 (execFabricConfigIdentity a0 a1 a2 a3) := by
  unfold execFabricConfigIdentity
  with_reducible apply fabricRow_keeps _ _ _ _ _ _

theorem execFabricConfigJob_keeps (a0) (a1) (a2) (a3) : Goes a3 (execFabricConfigJob a0 a1 a2 a3) := by
  unfold execFabricConfigJob
  with_reducible apply fabricRow_keeps _ _ _ _ _ _

theorem execFabricConfigTimers_keeps (a0) (a1) (a2) (a3) : Goes a3 (execFabricConfigTimers a0 a1 a2 a3) := by
  unfold execFabricConfigTimers
  with_reducible apply fabricRow_keeps _ _ _ _ _ _

theorem execFabricConfigUplink_keeps (a0) (a1) (a2) (a3) : Goes a3 (execFabricConfigUplink a0 a1 a2 a3) := by
  unfold execFabricConfigUplink
  with_reducible apply fabricRow_keeps _ _ _ _ _ _

theorem execFabricConfigBarrier_keeps (a0) (a1) (a2) (a3) : Goes a3 (execFabricConfigBarrier a0 a1 a2 a3) := by
  unfold execFabricConfigBarrier
  with_reducible apply fabricRow_keeps _ _ _ _ _ _

theorem execFabricConfigStaging_keeps (a0) (a1) (a2) (a3) : Goes a3 (execFabricConfigStaging a0 a1 a2 a3) := by
  unfold execFabricConfigStaging
  with_reducible apply fabricRow_keeps _ _ _ _ _ _

theorem execFabricConfigPort_keeps (a0) (a1) (a2) (a3) : Goes a3 (execFabricConfigPort a0 a1 a2 a3) := by
  unfold execFabricConfigPort
  with_reducible apply fabricRow_keeps _ _ _ _ _ _

theorem actRouteTableSet_keeps (a0) (a1) : Keeps a0 (actRouteTableSet a0 a1) := by
  unfold actRouteTableSet
  lift_lets
  intro x0
  refine Keeps.bindLet (s := a0) (x := x0) ?_ (fun h1 => ?_)
  subst x0
  with_reducible apply Keeps.after (setRoutes_keeps _ _ _)
  exact Keeps.refl _
  clear_value x0
  with_reducible apply Keeps.after (goLive_keeps _ _)
  with_reducible apply Keeps.after (State.modFab_keeps _ _)
  assumption

theorem execRouteTableSet_keeps (a0) (a1) (a2) (a3) : Goes a3 (execRouteTableSet a0 a1 a2 a3) := by
  unfold execRouteTableSet
  with_reducible apply runCode_keeps _ _ _ _ _ _ _ (fun z0 _ => ?_)
  with_reducible apply Keeps.after (actRouteTableSet_keeps _ _)
  exact Keeps.refl _

theorem actLinkStatus_keeps (a0) (a1) : Keeps a0 (actLinkStatus a0 a1) := by
  unfold actLinkStatus
  lift_lets
  intro x0
  subst x0
  intro x1
  subst x1
  with_reducible apply Keeps.after (atOnce_keeps _ _ _)
  with_reducible apply Keeps.after (State.hostWrite_keeps _ _ _)
  exact Keeps.refl _

theorem execLinkStatus_keeps (a0) (a1) (a2) (a3) : Goes a3 (execLinkStatus a0 a1 a2 a3) := by
  unfold execLinkStatus
  with_reducible apply runCode_keeps _ _ _ _ _ _ _ (fun z0 _ => ?_)
  with_reducible apply Keeps.after (actLinkStatus_keeps _ _)
  exact Keeps.refl _

/-! ### CmdService -/

theorem stagePack_keeps (s) (slot) (bs) : Keeps s (stagePack s slot bs) := by
  unfold stagePack
  lift_lets
  intro x0
  refine Keeps.bindLet (s := s) (x := x0) ?_ (fun h1 => ?_)
  subst x0
  with_reducible apply Keeps.after (sbOpen_keeps _ _ _)
  exact Keeps.refl _
  clear_value x0
  with_reducible apply Keeps.after (sbClose_keeps _)
  with_reducible apply Keeps.foldl (fun z2 _ => ?_) ?_
  assumption
  dsimp -zeta only
  lift_lets
  intro x3
  subst x3
  with_reducible apply Keeps.after (sbFull_keeps _ _ _)
  with_reducible apply Keeps.after (State.write_keeps _ _ _ _)
  exact Keeps.refl _

theorem actTestpackLoad_keeps (a0) (a1) : Keeps a0 (actTestpackLoad a0 a1) := by
  unfold actTestpackLoad
  with_reducible apply Keeps.after (goLive_keeps _ _)
  with_reducible apply Keeps.after (stagePack_keeps _ _ _)
  exact Keeps.refl _

theorem execTestpackLoad_keeps (a0) (a1) (a2) (a3) : Goes a3 (execTestpackLoad a0 a1 a2 a3) := by
  unfold execTestpackLoad
  with_reducible apply runCode_keeps _ _ _ _ _ _ _ (fun z0 _ => ?_)
  with_reducible apply Keeps.after (actTestpackLoad_keeps _ _)
  exact Keeps.refl _

theorem actTestpackActivate_keeps (a0) (a1) : Keeps a0 (actTestpackActivate a0 a1) := by
  unfold actTestpackActivate
  split
  with_reducible apply Keeps.after (atOnce_keeps _ _ _)
  with_reducible apply Keeps.after (activatePack_keeps _ _)
  exact Keeps.refl _
  exact Keeps.refl _

theorem execTestpackActivate_keeps (a0) (a1) (a2) (a3) : Goes a3 (execTestpackActivate a0 a1 a2 a3) := by
  unfold execTestpackActivate
  with_reducible apply runCode_keeps _ _ _ _ _ _ _ (fun z0 _ => ?_)
  with_reducible apply Keeps.after (actTestpackActivate_keeps _ _)
  exact Keeps.refl _

theorem actFwStage_keeps (a0) (a1) : Keeps a0 (actFwStage a0 a1) := by
  unfold actFwStage
  lift_lets
  intro x0
  refine Keeps.bindLet (s := a0) (x := x0) ?_ (fun h1 => ?_)
  subst x0
  with_reducible apply Keeps.after (State.modSb_keeps _ _)
  exact Keeps.refl _
  clear_value x0
  intro x2
  refine Keeps.bindLet (s := a0) (x := x2) ?_ (fun h3 => ?_)
  subst x2
  with_reducible apply Keeps.ite
  with_reducible apply Keeps.after (sbOpen_keeps _ _ _)
  assumption
  assumption
  clear_value x2
  intro x4
  subst x4
  intro x5
  refine Keeps.bindLet (s := a0) (x := x5) ?_ (fun h6 => ?_)
  subst x5
  with_reducible apply Keeps.after (stageChunk_keeps _ _ _ _)
  assumption
  clear_value x5
  with_reducible apply Keeps.ite
  with_reducible apply Keeps.after (goLive_keeps _ _)
  assumption
  with_reducible apply Keeps.after (atOnce_keeps _ _ _)
  assumption

theorem execFwStage_keeps (a0) (a1) (a2) (a3) : Goes a3 (execFwStage a0 a1 a2 a3) := by
  unfold execFwStage
  with_reducible apply runCode_keeps _ _ _ _ _ _ _ (fun z0 _ => ?_)
  with_reducible apply Keeps.after (actFwStage_keeps _ _)
  exact Keeps.refl _

theorem actFwActivate_keeps (a0) (a1) : Keeps a0 (actFwActivate a0 a1) := by
  unfold actFwActivate
  with_reducible apply Keeps.after (beginActivation_keeps _)
  with_reducible apply Keeps.after (goLive_keeps _ _)
  exact Keeps.refl _

theorem execFwActivate_keeps (a0) (a1) (a2) (a3) : Goes a3 (execFwActivate a0 a1 a2 a3) := by
  unfold execFwActivate
  with_reducible apply runCode_keeps _ _ _ _ _ _ _ (fun z0 _ => ?_)
  with_reducible apply Keeps.after (actFwActivate_keeps _ _)
  exact Keeps.refl _

theorem obsLevel_keeps (s) (k) (l) (takeBack) : Keeps s (obsLevel s k l takeBack) := by
  unfold obsLevel
  lift_lets
  intro x0
  subst x0
  intro x1
  refine Keeps.bindLet (s := s) (x := x1) ?_ (fun h2 => ?_)
  subst x1
  with_reducible apply Keeps.after (setLevel_keeps _ _ _ _)
  exact Keeps.refl _
  clear_value x1
  intro x3
  refine Keeps.bindLet (s := s) (x := x3) ?_ (fun h4 => ?_)
  subst x3
  with_reducible apply Keeps.after (modTc_keeps _ _ _)
  assumption
  clear_value x3
  intro x5
  refine Keeps.bindLet (s := s) (x := x5) ?_ (fun h6 => ?_)
  subst x5
  with_reducible apply Keeps.ite
  with_reducible apply Keeps.ite
  with_reducible apply Keeps.after (returnEngines_keeps _ _)
  assumption
  assumption
  with_reducible apply Keeps.ite
  with_reducible apply Keeps.after (buddyFails_keeps _ _)
  with_reducible apply Keeps.after (leaveWork_keeps _ _ _)
  assumption
  assumption
  clear_value x5
  with_reducible apply Keeps.ite
  with_reducible apply Keeps.after (modTc_keeps _ _ _)
  assumption
  assumption

theorem actObsLevelSet_keeps (a0) (a1) : Keeps a0 (actObsLevelSet a0 a1) := by
  unfold actObsLevelSet
  split
  with_reducible apply Keeps.after (atOnce_keeps _ _ _)
  with_reducible apply Keeps.after (obsLevel_keeps _ _ _ _)
  exact Keeps.refl _
  exact Keeps.refl _

theorem execObsLevelSet_keeps (a0) (a1) (a2) (a3) : Goes a3 (execObsLevelSet a0 a1 a2 a3) := by
  unfold execObsLevelSet
  with_reducible apply runCode_keeps _ _ _ _ _ _ _ (fun z0 _ => ?_)
  with_reducible apply Keeps.after (actObsLevelSet_keeps _ _)
  exact Keeps.refl _

theorem actCoreRetire_keeps (a0) (a1) : Keeps a0 (actCoreRetire a0 a1) := by
  unfold actCoreRetire
  split
  dsimp only
  with_reducible apply Keeps.ite
  with_reducible apply Keeps.after (finish_keeps _ _ _ _ _)
  with_reducible apply Keeps.after (buddyFails_keeps _ _)
  with_reducible apply Keeps.after (leaveWork_keeps _ _ _)
  with_reducible apply Keeps.after (abortKernel_keeps _ _)
  with_reducible apply Keeps.after (goLive_keeps _ _)
  exact Keeps.refl _
  with_reducible apply Keeps.after (buddyFails_keeps _ _)
  with_reducible apply Keeps.after (leaveWork_keeps _ _ _)
  with_reducible apply Keeps.after (abortKernel_keeps _ _)
  with_reducible apply Keeps.after (goLive_keeps _ _)
  exact Keeps.refl _
  exact Keeps.refl _

theorem execCoreRetire_keeps (a0) (a1) (a2) (a3) : Goes a3 (execCoreRetire a0 a1 a2 a3) := by
  unfold execCoreRetire
  with_reducible apply runCode_keeps _ _ _ _ _ _ _ (fun z0 _ => ?_)
  with_reducible apply Keeps.after (actCoreRetire_keeps _ _)
  exact Keeps.refl _

theorem actSnapshotTake_keeps (a0) (a1) : Keeps a0 (actSnapshotTake a0 a1) := by
  unfold actSnapshotTake
  with_reducible apply Keeps.after (goLive_keeps _ _)
  with_reducible apply Keeps.after (snapTrigger_keeps _ _)
  exact Keeps.refl _

theorem execSnapshotTake_keeps (a0) (a1) (a2) (a3) : Goes a3 (execSnapshotTake a0 a1 a2 a3) := by
  unfold execSnapshotTake
  with_reducible apply runCode_keeps _ _ _ _ _ _ _ (fun z0 _ => ?_)
  with_reducible apply Keeps.after (actSnapshotTake_keeps _ _)
  exact Keeps.refl _

theorem actTraceConfig_keeps (a0) (a1) : Keeps a0 (actTraceConfig a0 a1) := by
  unfold actTraceConfig
  lift_lets
  intro x0
  subst x0
  intro x1
  subst x1
  intro x2
  subst x2
  intro x3
  refine Keeps.bindLet (s := a0) (x := x3) ?_ (fun h4 => ?_)
  subst x3
  with_reducible apply Keeps.foldl (fun z5 _ => ?_) ?_
  exact Keeps.refl _
  dsimp -zeta only
  with_reducible apply Keeps.after (fbCtrlWrite_keeps _ _ _)
  with_reducible apply Keeps.after (modFb_keeps _ _ _)
  exact Keeps.refl _
  clear_value x3
  with_reducible apply Keeps.after (atOnce_keeps _ _ _)
  assumption

theorem execTraceConfig_keeps (a0) (a1) (a2) (a3) : Goes a3 (execTraceConfig a0 a1 a2 a3) := by
  unfold execTraceConfig
  with_reducible apply runCode_keeps _ _ _ _ _ _ _ (fun z0 _ => ?_)
  with_reducible apply Keeps.after (actTraceConfig_keeps _ _)
  exact Keeps.refl _

theorem spaceLatch_keeps (s) (space) (index) (o) : Keeps s (spaceLatch s space index o) := by
  unfold spaceLatch
  split
  exact Keeps.refl _
  with_reducible apply Keeps.ite
  with_reducible apply Keeps.after (coreRegLatch_keeps _ _ _)
  exact Keeps.refl _
  with_reducible apply Keeps.ite
  with_reducible apply Keeps.after (coreRegLatch_keeps _ _ _)
  exact Keeps.refl _
  exact Keeps.refl _

theorem actCounterRead_keeps (a0) (a1) : Keeps a0 (actCounterRead a0 a1) := by
  unfold actCounterRead
  lift_lets
  intro x0
  subst x0
  intro x1
  subst x1
  intro x2
  refine Keeps.bindLet (s := a0) (x := x2) ?_ (fun h3 => ?_)
  subst x2
  split
  with_reducible apply Keeps.ite
  exact Keeps.refl _
  with_reducible apply Keeps.after (State.modCore_keeps _ _ _)
  exact Keeps.refl _
  exact Keeps.refl _
  clear_value x2
  split
  with_reducible apply Keeps.after (atOnce_keeps _ _ _)
  with_reducible apply Keeps.after (State.hostWrite_keeps _ _ _)
  refine Keeps.pair2 (by assumption) ?_
  with_reducible apply Keeps.after (readWords_keeps _ _ _ _ _ (fun z4 _ => ?_))
  assumption
  with_reducible apply Keeps.after (spaceLatch_keeps _ _ _ _)
  exact Keeps.refl _

theorem execCounterRead_keeps (a0) (a1) (a2) (a3) : Goes a3 (execCounterRead a0 a1 a2 a3) := by
  unfold execCounterRead
  with_reducible apply runCode_keeps _ _ _ _ _ _ _ (fun z0 _ => ?_)
  with_reducible apply Keeps.after (actCounterRead_keeps _ _)
  exact Keeps.refl _

theorem actTimeSet_keeps (a0) (a1) : Keeps a0 (actTimeSet a0 a1) := by
  unfold actTimeSet
  split
  with_reducible apply Keeps.after (atOnce_keeps _ _ _)
  with_reducible apply Keeps.after (State.modSec_keeps _ _)
  exact Keeps.refl _
  exact Keeps.refl _

theorem execTimeSet_keeps (a0) (a1) (a2) (a3) : Goes a3 (execTimeSet a0 a1 a2 a3) := by
  unfold execTimeSet
  with_reducible apply runCode_keeps _ _ _ _ _ _ _ (fun z0 _ => ?_)
  with_reducible apply Keeps.after (actTimeSet_keeps _ _)
  exact Keeps.refl _

theorem actTimeGet_keeps (a0) (a1) : Keeps a0 (actTimeGet a0 a1) := by
  unfold actTimeGet
  with_reducible apply Keeps.after (atOnce_keeps _ _ _)
  exact Keeps.refl _

theorem execTimeGet_keeps (a0) (a1) (a2) (a3) : Goes a3 (execTimeGet a0 a1 a2 a3) := by
  unfold execTimeGet
  with_reducible apply runCode_keeps _ _ _ _ _ _ _ (fun z0 _ => ?_)
  with_reducible apply Keeps.after (actTimeGet_keeps _ _)
  exact Keeps.refl _

theorem actDeed_keeps (act) (a1) (a2) (h_act : FK3 act) : Keeps a1 (actDeed act a1 a2) := by
  unfold actDeed
  split
  lift_lets
  intro x0
  refine Keeps.bindLet (s := a1) (x := x0) ?_ (fun h1 => ?_)
  subst x0
  with_reducible apply Keeps.after (h_act _ _ _)
  exact Keeps.refl _
  clear_value x0
  with_reducible apply Keeps.after (atOnce_keeps _ _ _)
  assumption
  exact Keeps.refl _

theorem deedRow_keeps (o) (body) (act) (f) (r) (host) (s) (h_act : FK3 act) : Goes s (deedRow o body act f r host s) := by
  unfold deedRow
  with_reducible apply runCode_keeps _ _ _ _ _ _ _ (fun z0 _ => ?_)
  with_reducible apply Keeps.after (actDeed_keeps _ _ _ (fun z1 _ _ => ?_))
  exact Keeps.refl _
  with_reducible apply Keeps.after (h_act _ _ _)
  exact Keeps.refl _

theorem actDeedClaim_keeps (a0) (a1) (a2) : Keeps a0 (actDeedClaim a0 a1 a2) := by
  unfold actDeedClaim
  with_reducible apply Keeps.after (deedClaim_keeps _ _ _)
  exact Keeps.refl _

theorem execDeedClaim_keeps (a0) (a1) (a2) (a3) : Goes a3 (execDeedClaim a0 a1 a2 a3) := by
  unfold execDeedClaim
  with_reducible apply deedRow_keeps _ _ _ _ _ _ _ (fun z0 _ _ => ?_)
  with_reducible apply Keeps.after (actDeedClaim_keeps _ _ _)
  exact Keeps.refl _

theorem actDeedRelease_keeps (a0) (a1) (a2) : Keeps a0 (actDeedRelease a0 a1 a2) := by
  unfold actDeedRelease
  with_reducible apply Keeps.after (deedRelease_keeps _ _ _ _)
  exact Keeps.refl _

theorem execDeedRelease_keeps (a0) (a1) (a2) (a3) : Goes a3 (execDeedRelease a0 a1 a2 a3) := by
  unfold execDeedRelease
  with_reducible apply deedRow_keeps _ _ _ _ _ _ _ (fun z0 _ _ => ?_)
  with_reducible apply Keeps.after (actDeedRelease_keeps _ _ _)
  exact Keeps.refl _

theorem actDeedQuery_keeps (a0) (a1) (a2) : Keeps a0 (actDeedQuery a0 a1 a2) := by
  unfold actDeedQuery
  exact Keeps.refl _

theorem execDeedQuery_keeps (a0) (a1) (a2) (a3) : Goes a3 (execDeedQuery a0 a1 a2 a3) := by
  unfold execDeedQuery
  with_reducible apply deedRow_keeps _ _ _ _ _ _ _ (fun z0 _ _ => ?_)
  with_reducible apply Keeps.after (actDeedQuery_keeps _ _ _)
  exact Keeps.refl _

theorem fillSlot_keeps (s) (i) (c) (own) (key) : Keeps s (fillSlot s i c own key) := by
  unfold fillSlot
  with_reducible apply Keeps.after (State.modSec_keeps _ _)
  exact Keeps.refl _

theorem kwkExchange_keeps (s) (c) (p) : Keeps s (kwkExchange s c p) := by
  unfold kwkExchange
  split
  lift_lets
  intro x0
  subst x0
  intro x1
  subst x1
  intro x2
  subst x2
  intro x3
  subst x3
  intro x4
  subst x4
  intro x5
  subst x5
  intro x6
  refine Keeps.bindLet (s := s) (x := x6) ?_ (fun h7 => ?_)
  subst x6
  with_reducible apply Keeps.after (State.hostWrite_keeps _ _ _)
  refine Keeps.pair2 (by assumption) ?_
  with_reducible apply Keeps.after (draw_keeps _)
  exact Keeps.refl _
  clear_value x6
  with_reducible apply Keeps.after (State.modPart_keeps _ _ _)
  assumption

theorem actKeyPartSetLoad_keeps (a0) (a1) : Keeps a0 (actKeyPartSetLoad a0 a1) := by
  unfold actKeyPartSetLoad
  lift_lets
  intro x0
  refine Keeps.bindLet (s := a0) (x := x0) ?_ (fun h1 => ?_)
  subst x0
  with_reducible apply Keeps.ite
  with_reducible apply Keeps.after (State.modSec_keeps _ _)
  exact Keeps.refl _
  exact Keeps.refl _
  clear_value x0
  split
  with_reducible apply Keeps.ite
  with_reducible apply Keeps.after (atOnce_keeps _ _ _)
  with_reducible apply Keeps.after (inPart_keeps _ _ _ (fun z2 => ?_))
  assumption
  with_reducible apply Keeps.after (kwkExchange_keeps _ _ _)
  exact Keeps.refl _
  with_reducible apply Keeps.after (atOnce_keeps _ _ _)
  with_reducible apply Keeps.after (fillSlot_keeps _ _ _ _ _)
  assumption
  assumption

theorem execKeyPartSetLoad_keeps (a0) (a1) (a2) (a3) : Goes a3 (execKeyPartSetLoad a0 a1 a2 a3) := by
  unfold execKeyPartSetLoad
  with_reducible apply runRow_keeps _ _ _ _ _ _ _ _ (fun z0 _ _ => ?_) (fun z1 _ => ?_)
  exact Keeps.refl _
  with_reducible apply Keeps.after (actKeyPartSetLoad_keeps _ _)
  exact Keeps.refl _

theorem makeSrk_keeps (s) (c) (p) : Keeps s (makeSrk s c p) := by
  unfold makeSrk
  split
  lift_lets
  intro x0
  subst x0
  intro x1
  subst x1
  intro x2
  refine Keeps.bindLet (s := s) (x := x2) ?_ (fun h3 => ?_)
  subst x2
  with_reducible apply Keeps.after (State.hostWrite_keeps _ _ _)
  refine Keeps.pair2 (by assumption) ?_
  with_reducible apply Keeps.after (draw_keeps _)
  exact Keeps.refl _
  clear_value x2
  with_reducible apply Keeps.after (State.modPart_keeps _ _ _)
  assumption

theorem actKeyPartSetGenerate_keeps (fail) (a1) (a2) : Keeps a1 (actKeyPartSetGenerate fail a1 a2) := by
  unfold actKeyPartSetGenerate
  split
  with_reducible apply Keeps.ite
  with_reducible apply Keeps.ite
  with_reducible apply Keeps.after (post_keeps _ _ _ _ _ _)
  with_reducible apply Keeps.after (State.modSec_keeps _ _)
  exact Keeps.refl _
  with_reducible apply Keeps.after (atOnce_keeps _ _ _)
  with_reducible apply Keeps.after (inPart_keeps _ _ _ (fun z0 => ?_))
  exact Keeps.refl _
  with_reducible apply Keeps.after (makeSrk_keeps _ _ _)
  exact Keeps.refl _
  split
  with_reducible apply Keeps.after (atOnce_keeps _ _ _)
  with_reducible apply Keeps.after (fillSlot_keeps _ _ _ _ _)
  refine Keeps.pair2 (by assumption) ?_
  with_reducible apply Keeps.after (draw_keeps _)
  exact Keeps.refl _
  exact Keeps.refl _

theorem execKeyPartSetGenerate_keeps (f) (r) (host) (fail) (s) : Goes s (execKeyPartSetGenerate f r host fail s) := by
  unfold execKeyPartSetGenerate
  with_reducible apply runRow_keeps _ _ _ _ _ _ _ _ (fun z0 _ _ => ?_) (fun z1 _ => ?_)
  exact Keeps.refl _
  with_reducible apply Keeps.after (actKeyPartSetGenerate_keeps _ _ _)
  exact Keeps.refl _

theorem actKeyPartSetZeroise_keeps (a0) (a1) : Keeps a0 (actKeyPartSetZeroise a0 a1) := by
  unfold actKeyPartSetZeroise
  split
  with_reducible apply Keeps.after (atOnce_keeps _ _ _)
  with_reducible apply Keeps.after (State.modSec_keeps _ _)
  exact Keeps.refl _
  exact Keeps.refl _

theorem execKeyPartSetZeroise_keeps (a0) (a1) (a2) (a3) : Goes a3 (execKeyPartSetZeroise a0 a1 a2 a3) := by
  unfold execKeyPartSetZeroise
  with_reducible apply runRow_keeps _ _ _ _ _ _ _ _ (fun z0 _ _ => ?_) (fun z1 _ => ?_)
  exact Keeps.refl _
  with_reducible apply Keeps.after (actKeyPartSetZeroise_keeps _ _)
  exact Keeps.refl _

/-! ### Update -/

theorem storeState_keeps (s) (l) (old) (new) : Keeps s (storeState s l old new) := by
  unfold storeState
  with_reducible apply Keeps.after (storeAll_keeps _ _ _)
  exact Keeps.refl _

theorem storeDesc_keeps (c) (s) (x) : Keeps s (storeDesc c s x) := by
  unfold storeDesc
  split
  · exact Keeps.refl _
  · exact storeState_keeps _ _ _ _

theorem dsStates_fold_keeps (s : State) (c : Fin 96) (l : List StateNew) :
    ∀ (o : Option State), (∀ t, o = some t → Keeps s t) → ∀ t,
      l.foldl (fun o x => o.bind (fun s =>
        if x.1 = 0 then some s
        else
          let d := descOf s c x.1
          dsUpdate s c d (gateTagOf s c) false (x.2.2.countP Option.isSome)
            (x.2.2.foldl (fun a y => match y with | some y => a.add (toFloat (dFmt d).ffmt .rne y).2 | none => a) {})))
        o = some t → Keeps s t := by
  induction l with
  | nil => intro o h t e; exact h t e
  | cons x l ih =>
    intro o h t e
    refine ih _ (fun u e => ?_) t e
    obtain ⟨v, hv, e⟩ := Option.bind_eq_some_iff.mp e
    split at e
    · cases e; exact h _ hv
    · exact (dsUpdate_keeps _ _ _ _ _ _ _ _ e).after (h _ hv)

theorem dsStates_keeps (s : State) (c : Fin 96) (l : List StateNew) (t : State) (h : dsStates s c l = some t) :
    Keeps s t :=
  dsStates_fold_keeps s c l _ (fun _ e => by cases e; exact Keeps.refl _) t h

theorem storeLeft_keeps (s) (l) (os) : Keeps s (storeLeft s l os) := by
  unfold storeLeft
  lift_lets
  intro x0
  subst x0
  intro x1
  subst x1
  with_reducible apply Keeps.foldl (fun z2 _ => ?_) ?_
  with_reducible apply Keeps.after (storeAll_keeps _ _ _)
  exact Keeps.refl _
  split
  dsimp -zeta only
  dsimp only
  with_reducible apply Keeps.foldl (fun z3 _ => ?_) ?_
  exact Keeps.refl _
  with_reducible apply Keeps.ite
  with_reducible apply Keeps.ite
  with_reducible apply Keeps.ite
  with_reducible apply Keeps.after (State.mark_keeps _ _ _)
  with_reducible apply Keeps.ite
  with_reducible apply Keeps.after (State.mark_keeps _ _ _)
  exact Keeps.refl _
  exact Keeps.refl _
  with_reducible apply Keeps.ite
  with_reducible apply Keeps.after (State.mark_keeps _ _ _)
  exact Keeps.refl _
  exact Keeps.refl _
  with_reducible apply Keeps.ite
  with_reducible apply Keeps.after (State.mark_keeps _ _ _)
  exact Keeps.refl _
  exact Keeps.refl _
  exact Keeps.refl _

theorem modUcOf_keeps (s) (c) (f) : Keeps s (modUcOf s c f) := by
  unfold modUcOf
  split
  with_reducible apply Keeps.after (State.modPart_keeps _ _ _)
  exact Keeps.refl _
  exact Keeps.refl _

theorem countNonfinite_keeps (s) (c) (n) : Keeps s (countNonfinite s c n) := by
  unfold countNonfinite
  with_reducible apply Keeps.ite
  exact Keeps.refl _
  with_reducible apply Keeps.after (recordCore_keeps _ _ _ _)
  with_reducible apply Keeps.after (modUcOf_keeps _ _ _)
  exact Keeps.refl _

theorem countSkipped_keeps (s) (c) (n) : Keeps s (countSkipped s c n) := by
  unfold countSkipped
  with_reducible apply Keeps.ite
  exact Keeps.refl _
  with_reducible apply Keeps.after (modUcOf_keeps _ _ _)
  exact Keeps.refl _

theorem applyWrites_keeps (s) (c) (w) (d) (o) (u) (ws) (ms) (vs) (es) (outs) (factors) : Keeps s (applyWrites s c w d o u ws ms vs es outs factors).1 := by
  unfold applyWrites
  dsimp only
  split
  · exact Keeps.refl _
  · rename_i h
    obtain ⟨v, hv, h⟩ := Option.bind_eq_some_iff.mp h
    with_reducible apply Keeps.after (countSkipped_keeps _ _ _)
    with_reducible apply Keeps.after (countNonfinite_keeps _ _ _)
    with_reducible apply Keeps.foldl (fun z0 _ => storeDesc_keeps _ _ _)
    with_reducible apply Keeps.after (storeLeft_keeps _ _ _)
    exact (dsStates_keeps _ _ _ _ h).after (dsUpdate_keeps _ _ _ _ _ _ _ _ hv)

theorem workUpdApply_keeps (a0) (a1) (a2) (a3) (a4) : Keeps a0 (workUpdApply a0 a1 a2 a3 a4).st := by
  unfold workUpdApply
  lift_lets
  intro x0
  subst x0
  intro x1
  subst x1
  intro x2
  subst x2
  intro x3
  subst x3
  intro x4
  subst x4
  intro x5
  subst x5
  intro x6
  subst x6
  intro x7
  subst x7
  intro x8
  subst x8
  intro x9
  subst x9
  intro x10
  subst x10
  intro x11
  subst x11
  intro x12
  subst x12
  intro x13
  subst x13
  intro x14
  subst x14
  intro x15
  subst x15
  intro x16
  subst x16
  intro x17
  subst x17
  intro x18
  subst x18
  intro x19
  subst x19
  intro x20
  subst x20
  intro x21
  subst x21
  intro x22
  subst x22
  intro x23
  subst x23
  intro x24
  subst x24
  intro x25
  subst x25
  intro x26
  subst x26
  intro x27
  subst x27
  intro x28
  subst x28
  intro x29
  subst x29
  intro x30
  subst x30
  intro x31
  subst x31
  intro x32
  subst x32
  intro x33
  refine Keeps.bindLet (s := a0) (x := x33) ?_ (fun h34 => ?_)
  subst x33
  with_reducible apply Keeps.ite
  exact Keeps.refl _
  with_reducible apply Keeps.after (State.write_keeps _ _ _ _)
  exact Keeps.refl _
  clear_value x33
  intro x35
  subst x35
  with_reducible apply Keeps.iteSt
  with_reducible apply Keeps.after (Eff.bad_keeps _ _ _ _)
  exact Keeps.refl _
  with_reducible apply Keeps.iteSt
  split
  dsimp -zeta only
  dsimp only
  split
  with_reducible apply Keeps.after (Eff.bad_keeps _ _ _ _)
  with_reducible apply Keeps.after (applyWrites_keeps _ _ _ _ _ _ _ _ _ _ _ _)
  with_reducible apply Keeps.after (countNonfinite_keeps _ _ _)
  exact Keeps.refl _
  with_reducible apply Keeps.after (Eff.done_keeps _ _ _ _)
  with_reducible apply Keeps.after (applyWrites_keeps _ _ _ _ _ _ _ _ _ _ _ _)
  with_reducible apply Keeps.after (countNonfinite_keeps _ _ _)
  exact Keeps.refl _
  split
  dsimp -zeta only
  dsimp only
  split
  with_reducible apply Keeps.after (Eff.bad_keeps _ _ _ _)
  with_reducible apply Keeps.after (applyWrites_keeps _ _ _ _ _ _ _ _ _ _ _ _)
  with_reducible apply Keeps.after (countNonfinite_keeps _ _ _)
  exact Keeps.refl _
  with_reducible apply Keeps.after (Eff.done_keeps _ _ _ _)
  with_reducible apply Keeps.after (applyWrites_keeps _ _ _ _ _ _ _ _ _ _ _ _)
  with_reducible apply Keeps.after (countNonfinite_keeps _ _ _)
  exact Keeps.refl _
  dsimp -zeta only
  dsimp only
  split
  with_reducible apply Keeps.after (Eff.bad_keeps _ _ _ _)
  with_reducible apply Keeps.after (applyWrites_keeps _ _ _ _ _ _ _ _ _ _ _ _)
  with_reducible apply Keeps.after (countNonfinite_keeps _ _ _)
  exact Keeps.refl _
  with_reducible apply Keeps.after (Eff.done_keeps _ _ _ _)
  with_reducible apply Keeps.after (applyWrites_keeps _ _ _ _ _ _ _ _ _ _ _ _)
  with_reducible apply Keeps.after (countNonfinite_keeps _ _ _)
  exact Keeps.refl _
  with_reducible apply Keeps.iteSt
  with_reducible apply Keeps.iteSt
  beta_reduce
  split
  dsimp -zeta only
  with_reducible apply Keeps.after (Eff.bad_keeps _ _ _ _)
  with_reducible apply Keeps.after (applyWrites_keeps _ _ _ _ _ _ _ _ _ _ _ _)
  exact Keeps.refl _
  with_reducible apply Keeps.after (Eff.done_keeps _ _ _ _)
  with_reducible apply Keeps.after (applyWrites_keeps _ _ _ _ _ _ _ _ _ _ _ _)
  exact Keeps.refl _
  with_reducible apply Keeps.after (Eff.done_keeps _ _ _ _)
  with_reducible apply Keeps.after (countSkipped_keeps _ _ _)
  assumption
  beta_reduce
  split
  dsimp -zeta only
  dsimp only
  with_reducible apply Keeps.after (Eff.bad_keeps _ _ _ _)
  with_reducible apply Keeps.after (applyWrites_keeps _ _ _ _ _ _ _ _ _ _ _ _)
  exact Keeps.refl _
  with_reducible apply Keeps.after (Eff.done_keeps _ _ _ _)
  with_reducible apply Keeps.after (applyWrites_keeps _ _ _ _ _ _ _ _ _ _ _ _)
  exact Keeps.refl _

theorem workUpdNorm_keeps (a0) (a1) (a2) (a3) (a4) : Keeps a0 (workUpdNorm a0 a1 a2 a3 a4).st := by
  unfold workUpdNorm
  lift_lets
  intro x0
  subst x0
  intro x1
  subst x1
  intro x2
  subst x2
  intro x3
  subst x3
  intro x4
  subst x4
  intro x5
  subst x5
  intro x6
  subst x6
  intro x7
  subst x7
  intro x8
  subst x8
  intro x9
  subst x9
  intro x10
  subst x10
  intro x11
  subst x11
  with_reducible apply Keeps.iteSt
  with_reducible apply Keeps.after (Eff.done_keeps _ _ _ _)
  with_reducible apply Keeps.after (noteTern_keeps _ _ _)
  with_reducible apply Keeps.after (State.write_keeps _ _ _ _)
  exact Keeps.refl _
  with_reducible apply Keeps.after (Eff.done_keeps _ _ _ _)
  with_reducible apply Keeps.after (noteTern_keeps _ _ _)
  with_reducible apply Keeps.after (State.write_keeps _ _ _ _)
  exact Keeps.refl _

theorem workUpdWcopy_keeps (a0) (a1) (a2) (a3) (a4) : Keeps a0 (workUpdWcopy a0 a1 a2 a3 a4).st := by
  unfold workUpdWcopy
  lift_lets
  intro x0
  subst x0
  intro x1
  subst x1
  intro x2
  subst x2
  intro x3
  subst x3
  intro x4
  subst x4
  split
  split
  with_reducible apply Keeps.after (Eff.bad_keeps _ _ _ _)
  exact Keeps.refl _
  with_reducible apply Keeps.after (Eff.done_keeps _ _ _ _)
  with_reducible apply Keeps.after (noteTern_keeps _ _ _)
  with_reducible apply Keeps.after (countSkipped_keeps _ _ _)
  with_reducible apply Keeps.after (storeLeft_keeps _ _ _)
  refine Keeps.trans ?_ (dsUpdate_keeps _ _ _ _ _ _ _ _ (by assumption))
  exact Keeps.refl _

theorem skipHead_keeps (s) (c) (op) (gap) : Keeps s (skipHead s c op gap) := by
  unfold skipHead
  lift_lets
  intro x0
  refine Keeps.bindLet (s := s) (x := x0) ?_ (fun h1 => ?_)
  subst x0
  with_reducible apply Keeps.after (passCore_keeps _ _ _)
  exact Keeps.refl _
  clear_value x0
  intro x2
  subst x2
  split
  assumption
  lift_lets
  intro x3
  refine Keeps.bindLet (s := s) (x := x3) ?_ (fun h4 => ?_)
  subst x3
  with_reducible apply Keeps.after (beginStart_keeps _ _ _ _)
  assumption
  clear_value x3
  intro x5
  subst x5
  with_reducible apply Keeps.ite
  assumption
  with_reducible apply Keeps.after (State.modCore_keeps _ _ _)
  assumption

theorem gatedCmd_keeps (op) (work) (c) (gap) (s) (h_work : ∀ s c w i o, Keeps s (work s c w i o).st) : Goes s (gatedCmd op work c gap s) := by
  unfold gatedCmd
  with_reducible apply Goes.next
  with_reducible apply Keeps.ite
  exact Keeps.refl _
  with_reducible apply Keeps.ite
  with_reducible apply Keeps.after (skipHead_keeps _ _ _ _)
  exact Keeps.refl _
  with_reducible apply Keeps.after (startCmd_keeps _ _ _ _ _ _ _ (fun z0 _ _ _ _ => ?_))
  exact Keeps.refl _
  with_reducible apply Keeps.after (h_work _ _ _ _ _)
  exact Keeps.refl _

theorem execUpdApply_keeps (c) (gap) (s) : Goes s (execUpdApply c gap s) := by
  unfold execUpdApply
  with_reducible apply gatedCmd_keeps _ _ _ _ _ (fun z0 _ _ _ _ => ?_)
  with_reducible apply Keeps.after (workUpdApply_keeps _ _ _ _ _)
  exact Keeps.refl _

theorem execUpdNorm_keeps (c) (gap) (s) : Goes s (execUpdNorm c gap s) := by
  unfold execUpdNorm
  with_reducible apply Goes.next
  with_reducible apply Keeps.after (startCmd_keeps _ _ _ _ _ _ _ (fun z0 _ _ _ _ => ?_))
  exact Keeps.refl _
  with_reducible apply Keeps.after (workUpdNorm_keeps _ _ _ _ _)
  exact Keeps.refl _

theorem execUpdWcopy_keeps (c) (gap) (s) : Goes s (execUpdWcopy c gap s) := by
  unfold execUpdWcopy
  with_reducible apply gatedCmd_keeps _ _ _ _ _ (fun z0 _ _ _ _ => ?_)
  with_reducible apply Keeps.after (workUpdWcopy_keeps _ _ _ _ _)
  exact Keeps.refl _

end Sys2Proof.Machine
end

