-- ==== Sys2Proof/Laws/PerInstr.lean ====
section
/-! SUPPORT. The statements made per command. -/

namespace Sys2Proof.Laws.Shape

open Sys2Proof

/-- Every command is one of the 331 rows of the command table. -/
def Statement (i : Instr) : Prop := i.ctorIdx < 331

theorem kciCtrlEnable (f : Fin 13) : Statement (.kciCtrlEnable f) := (by decide : 0 < 331)
theorem functionLevelReset (f : Fin 13) : Statement (.functionLevelReset f) := (by decide : 1 < 331)
theorem sqTail (f : Fin 13) (r : Fin 32) (tail : BitVec 12) (entries : List (List Byte)) : Statement (.sqTail f r tail entries) := (by decide : 2 < 331)
theorem cqHead (f : Fin 13) (r : Fin 32) (head : BitVec 12) : Statement (.cqHead f r head) := (by decide : 3 < 331)
theorem bar2Read (f : Fin 13) (x : BitVec 38) (n : Nat) : Statement (.bar2Read f x n) := (by decide : 4 < 331)
theorem bar2Write (f : Fin 13) (x : BitVec 38) (bs : List Byte) : Statement (.bar2Write f x bs) := (by decide : 5 < 331)
theorem queueCreate (f : Fin 13) (r : Fin 32) (host : List (DWord × List Byte)) : Statement (.queueCreate f r host) := (by decide : 6 < 331)
theorem queueDestroy (f : Fin 13) (r : Fin 32) (host : List (DWord × List Byte)) : Statement (.queueDestroy f r host) := (by decide : 7 < 331)
theorem devQuery (f : Fin 13) (r : Fin 32) (host : List (DWord × List Byte)) : Statement (.devQuery f r host) := (by decide : 8 < 331)
theorem devCaps (f : Fin 13) (r : Fin 32) (host : List (DWord × List Byte)) : Statement (.devCaps f r host) := (by decide : 9 < 331)
theorem partCreate (f : Fin 13) (r : Fin 32) (host : List (DWord × List Byte)) : Statement (.partCreate f r host) := (by decide : 10 < 331)
theorem partDestroy (f : Fin 13) (r : Fin 32) (host : List (DWord × List Byte)) : Statement (.partDestroy f r host) := (by decide : 11 < 331)
theorem partAssignParcels (f : Fin 13) (r : Fin 32) (host : List (DWord × List Byte)) : Statement (.partAssignParcels f r host) := (by decide : 12 < 331)
theorem platMap (f : Fin 13) (r : Fin 32) (host : List (DWord × List Byte)) : Statement (.platMap f r host) := (by decide : 13 < 331)
theorem platUnmap (f : Fin 13) (r : Fin 32) (host : List (DWord × List Byte)) : Statement (.platUnmap f r host) := (by decide : 14 < 331)
theorem memCopy (f : Fin 13) (r : Fin 32) (host : List (DWord × List Byte)) : Statement (.memCopy f r host) := (by decide : 15 < 331)
theorem memFill (f : Fin 13) (r : Fin 32) (host : List (DWord × List Byte)) : Statement (.memFill f r host) := (by decide : 16 < 331)
theorem memScrub (f : Fin 13) (r : Fin 32) (host : List (DWord × List Byte)) : Statement (.memScrub f r host) := (by decide : 17 < 331)
theorem progLoad (f : Fin 13) (r : Fin 32) (host : List (DWord × List Byte)) : Statement (.progLoad f r host) := (by decide : 18 < 331)
theorem progStart (f : Fin 13) (r : Fin 32) (host : List (DWord × List Byte)) : Statement (.progStart f r host) := (by decide : 19 < 331)
theorem progStop (f : Fin 13) (r : Fin 32) (host : List (DWord × List Byte)) : Statement (.progStop f r host) := (by decide : 20 < 331)
theorem progStatus (f : Fin 13) (r : Fin 32) (host : List (DWord × List Byte)) : Statement (.progStatus f r host) := (by decide : 21 < 331)
theorem stepOpen (f : Fin 13) (r : Fin 32) (host : List (DWord × List Byte)) : Statement (.stepOpen f r host) := (by decide : 22 < 331)
theorem stepCloseRetry (f : Fin 13) (r : Fin 32) (host : List (DWord × List Byte)) : Statement (.stepCloseRetry f r host) := (by decide : 23 < 331)
theorem stepCloseAbandon (f : Fin 13) (r : Fin 32) (host : List (DWord × List Byte)) : Statement (.stepCloseAbandon f r host) := (by decide : 24 < 331)
theorem stepCloseEval (f : Fin 13) (r : Fin 32) (host : List (DWord × List Byte)) : Statement (.stepCloseEval f r host) := (by decide : 25 < 331)
theorem stepPolicySet (f : Fin 13) (r : Fin 32) (host : List (DWord × List Byte)) : Statement (.stepPolicySet f r host) := (by decide : 26 < 331)
theorem stepRecordGet (f : Fin 13) (r : Fin 32) (host : List (DWord × List Byte)) : Statement (.stepRecordGet f r host) := (by decide : 27 < 331)
theorem updGroupSet (f : Fin 13) (r : Fin 32) (host : List (DWord × List Byte)) : Statement (.updGroupSet f r host) := (by decide : 28 < 331)
theorem exportWorking (f : Fin 13) (r : Fin 32) (host : List (DWord × List Byte)) : Statement (.exportWorking f r host) := (by decide : 29 < 331)
theorem exportLogical (f : Fin 13) (r : Fin 32) (host : List (DWord × List Byte)) : Statement (.exportLogical f r host) := (by decide : 30 < 331)
theorem importState (f : Fin 13) (r : Fin 32) (host : List (DWord × List Byte)) : Statement (.importState f r host) := (by decide : 31 < 331)
theorem txnBegin (f : Fin 13) (r : Fin 32) (host : List (DWord × List Byte)) : Statement (.txnBegin f r host) := (by decide : 32 < 331)
theorem txnCommit (f : Fin 13) (r : Fin 32) (host : List (DWord × List Byte)) (unit : Option Nat) : Statement (.txnCommit f r host unit) := (by decide : 33 < 331)
theorem txnRollback (f : Fin 13) (r : Fin 32) (host : List (DWord × List Byte)) : Statement (.txnRollback f r host) := (by decide : 34 < 331)
theorem txnTimeout (f : Fin 13) : Statement (.txnTimeout f) := (by decide : 35 < 331)
theorem txnSwitch (f : Fin 13) : Statement (.txnSwitch f) := (by decide : 36 < 331)
theorem txnVerifyReport (f : Fin 13) (fault : Option Nat) : Statement (.txnVerifyReport f fault) := (by decide : 37 < 331)
theorem txnRevert (f : Fin 13) : Statement (.txnRevert f) := (by decide : 38 < 331)
theorem powerLimitSet (f : Fin 13) (r : Fin 32) (host : List (DWord × List Byte)) : Statement (.powerLimitSet f r host) := (by decide : 39 < 331)
theorem pstepPolicySet (f : Fin 13) (r : Fin 32) (host : List (DWord × List Byte)) : Statement (.pstepPolicySet f r host) := (by decide : 40 < 331)
theorem lattolSet (f : Fin 13) (r : Fin 32) (host : List (DWord × List Byte)) : Statement (.lattolSet f r host) := (by decide : 41 < 331)
theorem fabricConfigIdentity (f : Fin 13) (r : Fin 32) (host : List (DWord × List Byte)) : Statement (.fabricConfigIdentity f r host) := (by decide : 42 < 331)
theorem fabricConfigJob (f : Fin 13) (r : Fin 32) (host : List (DWord × List Byte)) : Statement (.fabricConfigJob f r host) := (by decide : 43 < 331)
theorem fabricConfigTimers (f : Fin 13) (r : Fin 32) (host : List (DWord × List Byte)) : Statement (.fabricConfigTimers f r host) := (by decide : 44 < 331)
theorem fabricConfigUplink (f : Fin 13) (r : Fin 32) (host : List (DWord × List Byte)) : Statement (.fabricConfigUplink f r host) := (by decide : 45 < 331)
theorem fabricConfigBarrier (f : Fin 13) (r : Fin 32) (host : List (DWord × List Byte)) : Statement (.fabricConfigBarrier f r host) := (by decide : 46 < 331)
theorem fabricConfigStaging (f : Fin 13) (r : Fin 32) (host : List (DWord × List Byte)) : Statement (.fabricConfigStaging f r host) := (by decide : 47 < 331)
theorem fabricConfigPort (f : Fin 13) (r : Fin 32) (host : List (DWord × List Byte)) : Statement (.fabricConfigPort f r host) := (by decide : 48 < 331)
theorem routeTableSet (f : Fin 13) (r : Fin 32) (host : List (DWord × List Byte)) : Statement (.routeTableSet f r host) := (by decide : 49 < 331)
theorem linkStatus (f : Fin 13) (r : Fin 32) (host : List (DWord × List Byte)) : Statement (.linkStatus f r host) := (by decide : 50 < 331)
theorem testpackLoad (f : Fin 13) (r : Fin 32) (host : List (DWord × List Byte)) : Statement (.testpackLoad f r host) := (by decide : 51 < 331)
theorem testpackActivate (f : Fin 13) (r : Fin 32) (host : List (DWord × List Byte)) : Statement (.testpackActivate f r host) := (by decide : 52 < 331)
theorem obsLevelSet (f : Fin 13) (r : Fin 32) (host : List (DWord × List Byte)) : Statement (.obsLevelSet f r host) := (by decide : 53 < 331)
theorem coreRetire (f : Fin 13) (r : Fin 32) (host : List (DWord × List Byte)) : Statement (.coreRetire f r host) := (by decide : 54 < 331)
theorem snapshotTake (f : Fin 13) (r : Fin 32) (host : List (DWord × List Byte)) : Statement (.snapshotTake f r host) := (by decide : 55 < 331)
theorem traceConfig (f : Fin 13) (r : Fin 32) (host : List (DWord × List Byte)) : Statement (.traceConfig f r host) := (by decide : 56 < 331)
theorem counterRead (f : Fin 13) (r : Fin 32) (host : List (DWord × List Byte)) : Statement (.counterRead f r host) := (by decide : 57 < 331)
theorem timeSet (f : Fin 13) (r : Fin 32) (host : List (DWord × List Byte)) : Statement (.timeSet f r host) := (by decide : 58 < 331)
theorem timeGet (f : Fin 13) (r : Fin 32) (host : List (DWord × List Byte)) : Statement (.timeGet f r host) := (by decide : 59 < 331)
theorem deedClaim (f : Fin 13) (r : Fin 32) (host : List (DWord × List Byte)) : Statement (.deedClaim f r host) := (by decide : 60 < 331)
theorem deedRelease (f : Fin 13) (r : Fin 32) (host : List (DWord × List Byte)) : Statement (.deedRelease f r host) := (by decide : 61 < 331)
theorem deedQuery (f : Fin 13) (r : Fin 32) (host : List (DWord × List Byte)) : Statement (.deedQuery f r host) := (by decide : 62 < 331)
theorem fwStage (f : Fin 13) (r : Fin 32) (host : List (DWord × List Byte)) : Statement (.fwStage f r host) := (by decide : 63 < 331)
theorem fwActivate (f : Fin 13) (r : Fin 32) (host : List (DWord × List Byte)) : Statement (.fwActivate f r host) := (by decide : 64 < 331)
theorem keyPartSetLoad (f : Fin 13) (r : Fin 32) (host : List (DWord × List Byte)) : Statement (.keyPartSetLoad f r host) := (by decide : 65 < 331)
theorem keyPartSetGenerate (f : Fin 13) (r : Fin 32) (host : List (DWord × List Byte)) (fail : Bool) : Statement (.keyPartSetGenerate f r host fail) := (by decide : 66 < 331)
theorem keyPartSetZeroise (f : Fin 13) (r : Fin 32) (host : List (DWord × List Byte)) : Statement (.keyPartSetZeroise f r host) := (by decide : 67 < 331)
theorem coreCtrlStart (c : Fin 96) (v : Word) (gap : Nat) : Statement (.coreCtrlStart c v gap) := (by decide : 68 < 331)
theorem coreCtrlStop (c : Fin 96) (v : Word) (gap : Nat) : Statement (.coreCtrlStop c v gap) := (by decide : 69 < 331)
theorem coreCtrlClrCounters (c : Fin 96) (v : Word) (gap : Nat) : Statement (.coreCtrlClrCounters c v gap) := (by decide : 70 < 331)
theorem coreStopped (c : Fin 96) (gap : Nat) : Statement (.coreStopped c gap) := (by decide : 71 < 331)
theorem seqSignal (c : Fin 96) (n : Fin 64) (inc : BitVec 9) (gap : Nat) : Statement (.seqSignal c n inc gap) := (by decide : 72 < 331)
theorem stepTagWrite (c : Fin 96) (tag : Word) (gap : Nat) : Statement (.stepTagWrite c tag gap) := (by decide : 73 < 331)
theorem engCtrlStep (c : Fin 96) (e : Fin 10) (hold : Bool) (gap : Nat) : Statement (.engCtrlStep c e hold gap) := (by decide : 74 < 331)
theorem ologWptrWrite (c : Fin 96) (v : BitVec 20) (gap : Nat) : Statement (.ologWptrWrite c v gap) := (by decide : 75 < 331)
theorem vxSeedHi (c : Fin 96) (hi : Word) (gap : Nat) : Statement (.vxSeedHi c hi gap) := (by decide : 76 < 331)
theorem edgeSeedHi (c : Fin 96) (hi : Word) (gap : Nat) : Statement (.edgeSeedHi c hi gap) := (by decide : 77 < 331)
theorem vxStateLo (c : Fin 96) (gap : Nat) : Statement (.vxStateLo c gap) := (by decide : 78 < 331)
theorem edgeStateLo (c : Fin 96) (gap : Nat) : Statement (.edgeStateLo c gap) := (by decide : 79 < 331)
theorem acLoRead (c : Fin 96) (b : Fin 11) (i : Fin 12) (gap : Nat) : Statement (.acLoRead c b i gap) := (by decide : 80 < 331)
theorem clkLoRead (r : Fin 3) : Statement (.clkLoRead r) := (by decide : 81 < 331)
theorem acCtrlSample (c : Fin 96) (gap : Nat) : Statement (.acCtrlSample c gap) := (by decide : 82 < 331)
theorem acCtrlClear (c : Fin 96) (gap : Nat) : Statement (.acCtrlClear c gap) := (by decide : 83 < 331)
theorem acSampleTick : Statement (.acSampleTick) := (by decide : 84 < 331)
theorem fbCtrlEnable (c : Fin 96) (v : Word) (gap : Nat) : Statement (.fbCtrlEnable c v gap) := (by decide : 85 < 331)
theorem fbCtrlTrigger (c : Fin 96) (v : Word) (gap : Nat) : Statement (.fbCtrlTrigger c v gap) := (by decide : 86 < 331)
theorem xcAttempt (p : Fin 12) (even : BitVec 4) (odd : BitVec 4) : Statement (.xcAttempt p even odd) := (by decide : 87 < 331)
theorem limCtrlCommit (w : Writer) (epoch : Word) : Statement (.limCtrlCommit w epoch) := (by decide : 88 < 331)
theorem limitsApply : Statement (.limitsApply) := (by decide : 89 < 331)
theorem limFlush (w : Writer) (epoch : Word) (stop : Bool) : Statement (.limFlush w epoch stop) := (by decide : 90 < 331)
theorem pcSns (n : Fin 8) (mask : BitVec 16) : Statement (.pcSns n mask) := (by decide : 91 < 331)
theorem pointMaskApply (n : Fin 8) : Statement (.pointMaskApply n) := (by decide : 92 < 331)
theorem deedReqClaim (w : Writer) (r : Fin 5) : Statement (.deedReqClaim w r) := (by decide : 93 < 331)
theorem deedReqRelease (w : Writer) (r : Fin 5) (epoch : Word) : Statement (.deedReqRelease w r epoch) := (by decide : 94 < 331)
theorem sbCtrlOpen (w : Writer) (epoch : Word) (comp : BitVec 8) (slot : BitVec 2) : Statement (.sbCtrlOpen w epoch comp slot) := (by decide : 95 < 331)
theorem sbCtrlClose (w : Writer) (epoch : Word) : Statement (.sbCtrlClose w epoch) := (by decide : 96 < 331)
theorem sbCtrlActivate (w : Writer) (epoch : Word) : Statement (.sbCtrlActivate w epoch) := (by decide : 97 < 331)
theorem sbCtrlCancel (w : Writer) (epoch : Word) : Statement (.sbCtrlCancel w epoch) := (by decide : 98 < 331)
theorem sbHalfFull (w : Writer) (epoch : Word) (h : Fin 2) (len : BitVec 18) : Statement (.sbHalfFull w epoch h len) := (by decide : 99 < 331)
theorem stageVerifyComplete (flash : Bool) : Statement (.stageVerifyComplete flash) := (by decide : 100 < 331)
theorem registerWrite (at_ : RegAddr) (value : Word) : Statement (.registerWrite at_ value) := (by decide : 101 < 331)
theorem seqDispatch (c : Fin 96) (gap : Nat) : Statement (.seqDispatch c gap) := (by decide : 102 < 331)
theorem nop (c : Fin 96) (gap : Nat) : Statement (.nop c gap) := (by decide : 103 < 331)
theorem loop (c : Fin 96) (gap : Nat) : Statement (.loop c gap) := (by decide : 104 < 331)
theorem halt (c : Fin 96) (gap : Nat) : Statement (.halt c gap) := (by decide : 105 < 331)
theorem load (c : Fin 96) (gap : Nat) : Statement (.load c gap) := (by decide : 106 < 331)
theorem fill (c : Fin 96) (gap : Nat) : Statement (.fill c gap) := (by decide : 107 < 331)
theorem store (c : Fin 96) (gap : Nat) : Statement (.store c gap) := (by decide : 108 < 331)
theorem gather (c : Fin 96) (gap : Nat) : Statement (.gather c gap) := (by decide : 109 < 331)
theorem scatter (c : Fin 96) (gap : Nat) : Statement (.scatter c gap) := (by decide : 110 < 331)
theorem scatterAdd (c : Fin 96) (gap : Nat) : Statement (.scatterAdd c gap) := (by decide : 111 < 331)
theorem csrExpand (c : Fin 96) (gap : Nat) : Statement (.csrExpand c gap) := (by decide : 112 < 331)
theorem put (c : Fin 96) (gap : Nat) : Statement (.put c gap) := (by decide : 113 < 331)
theorem redPut (c : Fin 96) (gap : Nat) : Statement (.redPut c gap) := (by decide : 114 < 331)
theorem mcast (c : Fin 96) (gap : Nat) : Statement (.mcast c gap) := (by decide : 115 < 331)
theorem dispatch (c : Fin 96) (gap : Nat) : Statement (.dispatch c gap) := (by decide : 116 < 331)
theorem combine (c : Fin 96) (gap : Nat) : Statement (.combine c gap) := (by decide : 117 < 331)
theorem expect (c : Fin 96) (gap : Nat) : Statement (.expect c gap) := (by decide : 118 < 331)
theorem redExpect (c : Fin 96) (gap : Nat) : Statement (.redExpect c gap) := (by decide : 119 < 331)
theorem tokenRecv (c : Fin 96) (gap : Nat) : Statement (.tokenRecv c gap) := (by decide : 120 < 331)
theorem combineRecv (c : Fin 96) (gap : Nat) : Statement (.combineRecv c gap) := (by decide : 121 < 331)
theorem mmul (c : Fin 96) (gap : Nat) : Statement (.mmul c gap) := (by decide : 122 < 331)
theorem cvt (c : Fin 96) (gap : Nat) : Statement (.cvt c gap) := (by decide : 123 < 331)
theorem mvmul (c : Fin 96) (gap : Nat) : Statement (.mvmul c gap) := (by decide : 124 < 331)
theorem ringSet (c : Fin 96) (gap : Nat) : Statement (.ringSet c gap) := (by decide : 125 < 331)
theorem add (c : Fin 96) (gap : Nat) : Statement (.add c gap) := (by decide : 126 < 331)
theorem sub (c : Fin 96) (gap : Nat) : Statement (.sub c gap) := (by decide : 127 < 331)
theorem mul (c : Fin 96) (gap : Nat) : Statement (.mul c gap) := (by decide : 128 < 331)
theorem fma (c : Fin 96) (gap : Nat) : Statement (.fma c gap) := (by decide : 129 < 331)
theorem div (c : Fin 96) (gap : Nat) : Statement (.div c gap) := (by decide : 130 < 331)
theorem min (c : Fin 96) (gap : Nat) : Statement (.min c gap) := (by decide : 131 < 331)
theorem max (c : Fin 96) (gap : Nat) : Statement (.max c gap) := (by decide : 132 < 331)
theorem abs (c : Fin 96) (gap : Nat) : Statement (.abs c gap) := (by decide : 133 < 331)
theorem neg (c : Fin 96) (gap : Nat) : Statement (.neg c gap) := (by decide : 134 < 331)
theorem sqrt (c : Fin 96) (gap : Nat) : Statement (.sqrt c gap) := (by decide : 135 < 331)
theorem copy (c : Fin 96) (gap : Nat) : Statement (.copy c gap) := (by decide : 136 < 331)
theorem sfu (c : Fin 96) (gap : Nat) : Statement (.sfu c gap) := (by decide : 137 < 331)
theorem dropout (c : Fin 96) (gap : Nat) : Statement (.dropout c gap) := (by decide : 138 < 331)
theorem randU (c : Fin 96) (gap : Nat) : Statement (.randU c gap) := (by decide : 139 < 331)
theorem iadd (c : Fin 96) (gap : Nat) : Statement (.iadd c gap) := (by decide : 140 < 331)
theorem isub (c : Fin 96) (gap : Nat) : Statement (.isub c gap) := (by decide : 141 < 331)
theorem imin (c : Fin 96) (gap : Nat) : Statement (.imin c gap) := (by decide : 142 < 331)
theorem imax (c : Fin 96) (gap : Nat) : Statement (.imax c gap) := (by decide : 143 < 331)
theorem and (c : Fin 96) (gap : Nat) : Statement (.and c gap) := (by decide : 144 < 331)
theorem or (c : Fin 96) (gap : Nat) : Statement (.or c gap) := (by decide : 145 < 331)
theorem xor (c : Fin 96) (gap : Nat) : Statement (.xor c gap) := (by decide : 146 < 331)
theorem softmax (c : Fin 96) (gap : Nat) : Statement (.softmax c gap) := (by decide : 147 < 331)
theorem lnorm (c : Fin 96) (gap : Nat) : Statement (.lnorm c gap) := (by decide : 148 < 331)
theorem rmsnorm (c : Fin 96) (gap : Nat) : Statement (.rmsnorm c gap) := (by decide : 149 < 331)
theorem osmUpdate (c : Fin 96) (gap : Nat) : Statement (.osmUpdate c gap) := (by decide : 150 < 331)
theorem osmFinal (c : Fin 96) (gap : Nat) : Statement (.osmFinal c gap) := (by decide : 151 < 331)
theorem rsum (c : Fin 96) (gap : Nat) : Statement (.rsum c gap) := (by decide : 152 < 331)
theorem rmax (c : Fin 96) (gap : Nat) : Statement (.rmax c gap) := (by decide : 153 < 331)
theorem vld (c : Fin 96) (gap : Nat) : Statement (.vld c gap) := (by decide : 154 < 331)
theorem vst (c : Fin 96) (gap : Nat) : Statement (.vst c gap) := (by decide : 155 < 331)
theorem updApply (c : Fin 96) (gap : Nat) : Statement (.updApply c gap) := (by decide : 156 < 331)
theorem updNorm (c : Fin 96) (gap : Nat) : Statement (.updNorm c gap) := (by decide : 157 < 331)
theorem updWcopy (c : Fin 96) (gap : Nat) : Statement (.updWcopy c gap) := (by decide : 158 < 331)
theorem sort (c : Fin 96) (gap : Nat) : Statement (.sort c gap) := (by decide : 159 < 331)
theorem merge (c : Fin 96) (gap : Nat) : Statement (.merge c gap) := (by decide : 160 < 331)
theorem union (c : Fin 96) (gap : Nat) : Statement (.union c gap) := (by decide : 161 < 331)
theorem intersect (c : Fin 96) (gap : Nat) : Statement (.intersect c gap) := (by decide : 162 < 331)
theorem unique (c : Fin 96) (gap : Nat) : Statement (.unique c gap) := (by decide : 163 < 331)
theorem topk (c : Fin 96) (gap : Nat) : Statement (.topk c gap) := (by decide : 164 < 331)
theorem segment (c : Fin 96) (gap : Nat) : Statement (.segment c gap) := (by decide : 165 < 331)
theorem hist (c : Fin 96) (gap : Nat) : Statement (.hist c gap) := (by decide : 166 < 331)
theorem instructionComplete (c : Fin 96) (e : Fin 10) (gap : Nat) : Statement (.instructionComplete c e gap) := (by decide : 167 < 331)
theorem instructionFault (c : Fin 96) (e : Fin 10) (k : Nat) (code : BitVec 8) (gap : Nat) : Statement (.instructionFault c e k code gap) := (by decide : 168 < 331)
theorem stackRequest (src : Source) (a : BitVec 48) (write : Option (List Byte)) (n : Nat) (errs : List (BitVec 48 × Nat × EccErr)) : Statement (.stackRequest src a write n errs) := (by decide : 169 < 331)
theorem rowRepairComplete (n : Fin 6) (done : Bool) : Statement (.rowRepairComplete n done) := (by decide : 170 < 331)
theorem sparingComplete (n : Fin 6) : Statement (.sparingComplete n) := (by decide : 171 < 331)
theorem patrolScrub (n : Fin 6) (errs : List (BitVec 48 × Nat × EccErr)) (pass : Bool) : Statement (.patrolScrub n errs pass) := (by decide : 172 < 331)
theorem stackTempRead (n : Fin 6) (t : BitVec 8) : Statement (.stackTempRead n t) := (by decide : 173 < 331)
theorem tempStale (n : Fin 6) : Statement (.tempStale n) := (by decide : 174 < 331)
theorem memoryStepChange : Statement (.memoryStepChange) := (by decide : 175 < 331)
theorem memoryStepDone : Statement (.memoryStepDone) := (by decide : 176 < 331)
theorem mstepAutoDecision (delivered : List Nat) (admitted : List Nat) : Statement (.mstepAutoDecision delivered admitted) := (by decide : 177 < 331)
theorem platApply : Statement (.platApply) := (by decide : 178 < 331)
theorem partitionMapApply : Statement (.partitionMapApply) := (by decide : 179 < 331)
theorem routeTableApply : Statement (.routeTableApply) := (by decide : 180 < 331)
theorem portTrained (n : Fin 8) (peer : Option (BitVec 16)) : Statement (.portTrained n peer) := (by decide : 181 < 331)
theorem codewordReceive (n : Fin 6) (count : BitVec 6) (good : Bool) (corrected : Bool) (flits : List (List Byte)) : Statement (.codewordReceive n count good corrected flits) := (by decide : 182 < 331)
theorem linkControlFlit (n : Fin 6) (ack : BitVec 6) (nak : Option (BitVec 6)) (hs : BitVec 8) (hsAt : BitVec 6) (lanes : BitVec 4) (dev : BitVec 16) (credits : List (BitVec 16)) : Statement (.linkControlFlit n ack nak hs hsAt lanes dev credits) := (by decide : 183 < 331)
theorem linkRetrainDone (n : Fin 6) (ok : Bool) : Statement (.linkRetrainDone n ok) := (by decide : 184 < 331)
theorem laneFault (n : Fin 6) (lane : Fin 4) : Statement (.laneFault n lane) := (by decide : 185 < 331)
theorem handshakeSwitch (n : Fin 6) : Statement (.handshakeSwitch n) := (by decide : 186 < 331)
theorem laneRetrained (n : Fin 6) : Statement (.laneRetrained n) := (by decide : 187 < 331)
theorem partnerSilence (n : Fin 6) : Statement (.partnerSilence n) := (by decide : 188 < 331)
theorem portIdleTwoLane (n : Fin 6) : Statement (.portIdleTwoLane n) := (by decide : 189 < 331)
theorem messageForward (i : Nat) : Statement (.messageForward i) := (by decide : 190 < 331)
theorem noRouteHold (i : Nat) : Statement (.noRouteHold i) := (by decide : 191 < 331)
theorem putMessage (m : Msg) : Statement (.putMessage m) := (by decide : 192 < 331)
theorem redPutMessage (m : Msg) : Statement (.redPutMessage m) := (by decide : 193 < 331)
theorem mcastMessage (port : Fin 6) (m : Msg) : Statement (.mcastMessage port m) := (by decide : 194 < 331)
theorem dispatchMessage (m : Msg) : Statement (.dispatchMessage m) := (by decide : 195 < 331)
theorem combineMessage (m : Msg) : Statement (.combineMessage m) := (by decide : 196 < 331)
theorem ackMessage (m : Msg) : Statement (.ackMessage m) := (by decide : 197 < 331)
theorem refuseMessage (m : Msg) : Statement (.refuseMessage m) := (by decide : 198 < 331)
theorem barArriveMessage (port : Fin 9) (m : Msg) : Statement (.barArriveMessage port m) := (by decide : 199 < 331)
theorem barReleaseMessage (port : Fin 9) (m : Msg) : Statement (.barReleaseMessage port m) := (by decide : 200 < 331)
theorem barrierArriveLocal (i : Fin 16) (gen : BitVec 16) : Statement (.barrierArriveLocal i gen) := (by decide : 201 < 331)
theorem barTimeout (i : Fin 16) : Statement (.barTimeout i) := (by decide : 202 < 331)
theorem ethernetFrameReceive (u : Fin 2) (payload : FrameIn) : Statement (.ethernetFrameReceive u payload) := (by decide : 203 < 331)
theorem pfcFrame (u : Fin 2) (prio : BitVec 3) (xoff : Bool) : Statement (.pfcFrame u prio xoff) := (by decide : 204 < 331)
theorem pauseFrame (u : Fin 2) : Statement (.pauseFrame u) := (by decide : 205 < 331)
theorem groupComplete (c : Fin 96) (group : BitVec 12) (gap : Nat) : Statement (.groupComplete c group gap) := (by decide : 206 < 331)
theorem gapTimeout (c : Fin 96) (group : BitVec 12) (gap : Nat) : Statement (.gapTimeout c group gap) := (by decide : 207 < 331)
theorem resendTimeout (i : Nat) : Statement (.resendTimeout i) := (by decide : 208 < 331)
theorem doneSignal (c : Fin 96) : Statement (.doneSignal c) := (by decide : 209 < 331)
theorem digestComplete (p : Fin 12) : Statement (.digestComplete p) := (by decide : 210 < 331)
theorem buddyHalt (b : Fin 96) : Statement (.buddyHalt b) := (by decide : 211 < 331)
theorem suspectTimeout (c : Fin 96) : Statement (.suspectTimeout c) := (by decide : 212 < 331)
theorem mailboxPoll (p : Fin 12) : Statement (.mailboxPoll p) := (by decide : 213 < 331)
theorem closeTimeout (p : Fin 12) : Statement (.closeTimeout p) := (by decide : 214 < 331)
theorem updDoneSignal (c : Fin 96) : Statement (.updDoneSignal c) := (by decide : 215 < 331)
theorem evalDoneSignal (c : Fin 96) : Statement (.evalDoneSignal c) := (by decide : 216 < 331)
theorem fpDigestDone (p : Fin 12) : Statement (.fpDigestDone p) := (by decide : 217 < 331)
theorem fpRootsComplete (p : Fin 12) : Statement (.fpRootsComplete p) := (by decide : 218 < 331)
theorem fpBlockReceived (p : Fin 12) (b : Nat) : Statement (.fpBlockReceived p b) := (by decide : 219 < 331)
theorem fpTimeout (p : Fin 12) : Statement (.fpTimeout p) := (by decide : 220 < 331)
theorem roundOpen (c : Fin 96) : Statement (.roundOpen c) := (by decide : 221 < 331)
theorem kernelLaunch (c : Fin 96) : Statement (.kernelLaunch c) := (by decide : 222 < 331)
theorem kernelSetHeld (c : Fin 96) : Statement (.kernelSetHeld c) := (by decide : 223 < 331)
theorem setAcquireTimeout (c : Fin 96) : Statement (.setAcquireTimeout c) := (by decide : 224 < 331)
theorem kernelHalt (c : Fin 96) (result : Option DWord) : Statement (.kernelHalt c result) := (by decide : 225 < 331)
theorem kernelOverrun (c : Fin 96) : Statement (.kernelOverrun c) := (by decide : 226 < 331)
theorem roundDue (c : Fin 96) : Statement (.roundDue c) := (by decide : 227 < 331)
theorem forcedKernelResume (c : Fin 96) : Statement (.forcedKernelResume c) := (by decide : 228 < 331)
theorem loopbackSuspendEnd : Statement (.loopbackSuspendEnd) := (by decide : 229 < 331)
theorem quarHoldExpiry (c : Fin 96) : Statement (.quarHoldExpiry c) := (by decide : 230 < 331)
theorem failWindowExpiry (c : Fin 96) : Statement (.failWindowExpiry c) := (by decide : 231 < 331)
theorem estimatorTick (rails : List Nat) (matrix : Nat) (demand : List Nat) (slots : List (Fin 96 × Nat × Nat × Nat × Nat)) : Statement (.estimatorTick rails matrix demand slots) := (by decide : 232 < 331)
theorem easementLoan (c : Fin 96) : Statement (.easementLoan c) := (by decide : 233 < 331)
theorem powerDecision (dyn : Nat) (sram : Nat) (other : Nat) (leak : Nat) : Statement (.powerDecision dyn sram other leak) := (by decide : 234 < 331)
theorem tjLoop (temps : List (BitVec 11)) : Statement (.tjLoop temps) := (by decide : 235 < 331)
theorem powerFallback (dyn : Nat) (sram : Nat) (other : Nat) (leak : Nat) : Statement (.powerFallback dyn sram other leak) := (by decide : 236 < 331)
theorem calibrationTick (est : List Nat) : Statement (.calibrationTick est) := (by decide : 237 < 331)
theorem voltageCorrection (lowest : Nat) : Statement (.voltageCorrection lowest) := (by decide : 238 < 331)
theorem pmbusPoll (reads : List (Option (Nat × Nat × Nat))) : Statement (.pmbusPoll reads) := (by decide : 239 < 331)
theorem avsWriteTimeout (bus : Fin 4) (sel : Fin 16) : Statement (.avsWriteTimeout bus sel) := (by decide : 240 < 331)
theorem droopTrip (d : Fin 24) (mv : Nat) (cycles : Nat) : Statement (.droopTrip d mv cycles) := (by decide : 241 < 331)
theorem pstepRaise (lowest : Nat) : Statement (.pstepRaise lowest) := (by decide : 242 < 331)
theorem pstepVerify (first : Nat) (second : Nat) : Statement (.pstepVerify first second) := (by decide : 243 < 331)
theorem pstepSwitch : Statement (.pstepSwitch) := (by decide : 244 < 331)
theorem pstepAbort : Statement (.pstepAbort) := (by decide : 245 < 331)
theorem wStateEntry (blocked : Bool) : Statement (.wStateEntry blocked) := (by decide : 246 < 331)
theorem wake (cause : Fin 6) : Statement (.wake cause) := (by decide : 247 < 331)
theorem wStateExitDone : Statement (.wStateExitDone) := (by decide : 248 < 331)
theorem jitterAlarm (m : Option (Fin 12)) : Statement (.jitterAlarm m) := (by decide : 249 < 331)
theorem dutyAlarmEscalate (m : Fin 12) : Statement (.dutyAlarmEscalate m) := (by decide : 250 < 331)
theorem relockCheck (count : Nat) : Statement (.relockCheck count) := (by decide : 251 < 331)
theorem relockRelease : Statement (.relockRelease) := (by decide : 252 < 331)
theorem sensorFailed (i : Fin 112) : Statement (.sensorFailed i) := (by decide : 253 < 331)
theorem tjWarn : Statement (.tjWarn) := (by decide : 254 < 331)
theorem thermtrip (i : Fin 112) : Statement (.thermtrip i) := (by decide : 255 < 331)
theorem keepWarmTick : Statement (.keepWarmTick) := (by decide : 256 < 331)
theorem agentHeartbeat (i : Fin 2) : Statement (.agentHeartbeat i) := (by decide : 257 < 331)
theorem agentClaimTimer (i : Fin 2) : Statement (.agentClaimTimer i) := (by decide : 258 < 331)
theorem thermalReleaseTimer : Statement (.thermalReleaseTimer) := (by decide : 259 < 331)
theorem fwStageIdleTimeout : Statement (.fwStageIdleTimeout) := (by decide : 260 < 331)
theorem setdasa (stat : BitVec 7) (dyn : BitVec 7) : Statement (.setdasa stat dyn) := (by decide : 261 < 331)
theorem setEndpointId (ep : Fin 3) (eid : BitVec 8) : Statement (.setEndpointId ep eid) := (by decide : 262 < 331)
theorem getEndpointId (ep : Fin 3) : Statement (.getEndpointId ep) := (by decide : 263 < 331)
theorem getEndpointUuid (ep : Fin 3) : Statement (.getEndpointUuid ep) := (by decide : 264 < 331)
theorem getMctpVersionSupport (ep : Fin 3) (type : BitVec 8) : Statement (.getMctpVersionSupport ep type) := (by decide : 265 < 331)
theorem getMessageTypeSupport (ep : Fin 3) : Statement (.getMessageTypeSupport ep) := (by decide : 266 < 331)
theorem getTid (ep : Fin 3) : Statement (.getTid ep) := (by decide : 267 < 331)
theorem getPldmVersion (ep : Fin 3) (type : BitVec 8) : Statement (.getPldmVersion ep type) := (by decide : 268 < 331)
theorem getPldmTypes (ep : Fin 3) : Statement (.getPldmTypes ep) := (by decide : 269 < 331)
theorem getPldmCommands (ep : Fin 3) (type : BitVec 8) : Statement (.getPldmCommands ep type) := (by decide : 270 < 331)
theorem getPdr (ep : Fin 3) (handle : Nat) : Statement (.getPdr ep handle) := (by decide : 271 < 331)
theorem getSensorReading (ep : Fin 3) (id : BitVec 16) : Statement (.getSensorReading ep id) := (by decide : 272 < 331)
theorem getStateSensorReadings (ep : Fin 3) (id : BitVec 16) : Statement (.getStateSensorReadings ep id) := (by decide : 273 < 331)
theorem setNumericEffecterValue (ep : Fin 3) (id : BitVec 16) (v : Nat) : Statement (.setNumericEffecterValue ep id v) := (by decide : 274 < 331)
theorem getNumericEffecterValue (ep : Fin 3) (id : BitVec 16) : Statement (.getNumericEffecterValue ep id) := (by decide : 275 < 331)
theorem setEventReceiver (ep : Fin 3) (eid : BitVec 8) : Statement (.setEventReceiver ep eid) := (by decide : 276 < 331)
theorem platformEventAck (n : Fin 8) : Statement (.platformEventAck n) := (by decide : 277 < 331)
theorem queryDeviceIdentifiers (ep : Fin 3) : Statement (.queryDeviceIdentifiers ep) := (by decide : 278 < 331)
theorem getFirmwareParameters (ep : Fin 3) : Statement (.getFirmwareParameters ep) := (by decide : 279 < 331)
theorem requestUpdate (ep : Fin 3) : Statement (.requestUpdate ep) := (by decide : 280 < 331)
theorem passComponentTable (ep : Fin 3) : Statement (.passComponentTable ep) := (by decide : 281 < 331)
theorem updateComponent (ep : Fin 3) (id : BitVec 16) (size : Nat) : Statement (.updateComponent ep id size) := (by decide : 282 < 331)
theorem requestFirmwareData (ep : Fin 3) (data : List Byte) : Statement (.requestFirmwareData ep data) := (by decide : 283 < 331)
theorem transferComplete (ep : Fin 3) : Statement (.transferComplete ep) := (by decide : 284 < 331)
theorem verifyComplete (ep : Fin 3) : Statement (.verifyComplete ep) := (by decide : 285 < 331)
theorem applyComplete (ep : Fin 3) : Statement (.applyComplete ep) := (by decide : 286 < 331)
theorem activateFirmware (ep : Fin 3) (pack : Option (Fin 4)) : Statement (.activateFirmware ep pack) := (by decide : 287 < 331)
theorem getStatus (ep : Fin 3) : Statement (.getStatus ep) := (by decide : 288 < 331)
theorem cancelUpdate (ep : Fin 3) : Statement (.cancelUpdate ep) := (by decide : 289 < 331)
theorem getVersion (ep : Fin 3) : Statement (.getVersion ep) := (by decide : 290 < 331)
theorem getCapabilities (ep : Fin 3) : Statement (.getCapabilities ep) := (by decide : 291 < 331)
theorem negotiateAlgorithms (ep : Fin 3) : Statement (.negotiateAlgorithms ep) := (by decide : 292 < 331)
theorem getDigests (ep : Fin 3) : Statement (.getDigests ep) := (by decide : 293 < 331)
theorem getCertificate (ep : Fin 3) (slot : BitVec 4) (off : Nat) (len : Nat) : Statement (.getCertificate ep slot off len) := (by decide : 294 < 331)
theorem challenge (ep : Fin 3) (slot : BitVec 4) (nonce : List Byte) : Statement (.challenge ep slot nonce) := (by decide : 295 < 331)
theorem getMeasurements (ep : Fin 3) (index : BitVec 8) (nonce : List Byte) : Statement (.getMeasurements ep index nonce) := (by decide : 296 < 331)
theorem newCodeAccept : Statement (.newCodeAccept) := (by decide : 297 < 331)
theorem activationFallback : Statement (.activationFallback) := (by decide : 298 < 331)
theorem activationCommit : Statement (.activationCommit) := (by decide : 299 < 331)
theorem debugUnlock (token : List Byte) : Statement (.debugUnlock token) := (by decide : 300 < 331)
theorem trstN (asserted : Bool) : Statement (.trstN asserted) := (by decide : 301 < 331)
theorem pwrLossNAssert (mv : Nat) : Statement (.pwrLossNAssert mv) := (by decide : 302 < 331)
theorem flushPage : Statement (.flushPage) := (by decide : 303 < 331)
theorem holdupTick (mv : Nat) : Statement (.holdupTick mv) := (by decide : 304 < 331)
theorem pwrLossRecovery : Statement (.pwrLossRecovery) := (by decide : 305 < 331)
theorem telemetryRecordWrite : Statement (.telemetryRecordWrite) := (by decide : 306 < 331)
theorem watchdog (c : Fin 96) : Statement (.watchdog c) := (by decide : 307 < 331)
theorem snapshotTriggerWrite (w : Writer) : Statement (.snapshotTriggerWrite w) := (by decide : 308 < 331)
theorem snapshotSample : Statement (.snapshotSample) := (by decide : 309 < 331)
theorem snapshotCopyDone : Statement (.snapshotCopyDone) := (by decide : 310 < 331)
theorem fieldBookDrain (c : Fin 96) : Statement (.fieldBookDrain c) := (by decide : 311 < 331)
theorem porNAssert : Statement (.porNAssert) := (by decide : 312 < 331)
theorem porNDeassert (straps : BitVec 8) (selftest : Bool) : Statement (.porNDeassert straps selftest) := (by decide : 313 < 331)
theorem ctrlFirmwareStart : Statement (.ctrlFirmwareStart) := (by decide : 314 < 331)
theorem dataPlaneBootDone : Statement (.dataPlaneBootDone) := (by decide : 315 < 331)
theorem bootRecovery (selftest : Bool) : Statement (.bootRecovery selftest) := (by decide : 316 < 331)
theorem sysRstN : Statement (.sysRstN) := (by decide : 317 < 331)
theorem perstN : Statement (.perstN) := (by decide : 318 < 331)
theorem controlFault (selftest : Bool) : Statement (.controlFault selftest) := (by decide : 319 < 331)
theorem agentWatchdog (i : Fin 2) : Statement (.agentWatchdog i) := (by decide : 320 < 331)
theorem progStopTimeout (p : Fin 12) : Statement (.progStopTimeout p) := (by decide : 321 < 331)
theorem partitionResetDrained (p : Fin 12) : Statement (.partitionResetDrained p) := (by decide : 322 < 331)
theorem perstNDeassert (selftest : Bool) : Statement (.perstNDeassert selftest) := (by decide : 323 < 331)
theorem sysRstNDeassert : Statement (.sysRstNDeassert) := (by decide : 324 < 331)
theorem pwrLossNDeassert : Statement (.pwrLossNDeassert) := (by decide : 325 < 331)
theorem vaonRemoval (half : Option (Fin 2)) : Statement (.vaonRemoval half) := (by decide : 326 < 331)
theorem uplinkDown (u : Fin 2) : Statement (.uplinkDown u) := (by decide : 327 < 331)
theorem dutyAlarm (m : Fin 12) (pct : BitVec 7) (corr : BitVec 5) : Statement (.dutyAlarm m pct corr) := (by decide : 328 < 331)
theorem exportDone (f : Fin 13) (handle : Word) : Statement (.exportDone f handle) := (by decide : 329 < 331)
theorem memCopyDone (f : Fin 13) (handle : Word) : Statement (.memCopyDone f handle) := (by decide : 330 < 331)

end Sys2Proof.Laws.Shape
end

