-- ==== Sys2Proof/Laws/Trace.lean ====
section
/-! SUPPORT. Records of the field book and event records touch no more of a core than its field book. -/

namespace Sys2Proof.Machine

/-- A core without its field book. -/
def Core.sansBook (k : Core) : Core := { k with fb := FieldBook.reset }
/-- The cores of `t` are those of `s`, their field books apart. -/
structure OnlyBook (s t : State) : Prop where
  h : ∀ d, (t.core d).sansBook = (s.core d).sansBook
theorem OnlyBook.refl (s : State) : OnlyBook s s := ⟨fun _ => rfl⟩
theorem OnlyBook.trans {s t u : State} (h : OnlyBook s t) (k : OnlyBook t u) : OnlyBook s u := ⟨fun d => (k.h d).trans (h.h d)⟩
theorem modFb_onlyBook (s : State) (c : Fin 96) (f : FieldBook → FieldBook) : OnlyBook s (modFb s c f) := by
  constructor; intro d
  by_cases h : c = d
  · subst h; simp [modFb, Core.sansBook]
  · simp [modFb, State.core_modCore_of_ne _ _ _ _ h]
theorem fbStore_onlyBook (s : State) (c : Fin 96) (n : Nat) (l : List Byte) : OnlyBook s (fbStore s c n l) := ⟨fun _ => rfl⟩
theorem fbAppend_onlyBook (s : State) (c : Fin 96) (l : List Byte) : OnlyBook s (fbAppend s c l) := by
  unfold fbAppend
  exact (fbStore_onlyBook _ _ _ _).trans (modFb_onlyBook _ _ _)
theorem OnlyBook.foldl {α} (f : State → α → State) (l : List α) (h : ∀ s a, OnlyBook s (f s a)) (s : State) :
    OnlyBook s (l.foldl f s) := by
  induction l generalizing s with
  | nil => exact .refl _
  | cons a l ih => exact (h s a).trans (ih _)
theorem fbRemove_onlyBook (s : State) (c : Fin 96) (w d : Nat) : OnlyBook s (fbRemove s c w d) := OnlyBook.foldl _ _ (fun _ _ => fbStore_onlyBook _ _ _ _) _
theorem OnlyBook.ite {p : Prop} [Decidable p] {s t u : State} (h : OnlyBook s t) (k : OnlyBook s u) : OnlyBook s (if p then t else u) := by split <;> assumption
theorem fbJudge_onlyBook (s : State) (c : Fin 96) (p : Fin 4) (l : List Byte) : OnlyBook s (fbJudge s c p l) := by
  unfold fbJudge
  lift_lets
  intro f lose
  have hl : OnlyBook s lose := modFb_onlyBook _ _ _
  clear_value lose
  with_reducible apply OnlyBook.ite
  · exact hl
  with_reducible apply OnlyBook.ite
  · with_reducible apply OnlyBook.ite
    · exact fbAppend_onlyBook _ _ _
    · exact (fbAppend_onlyBook _ _ _).trans (modFb_onlyBook _ _ _)
  with_reducible apply OnlyBook.ite
  · with_reducible apply OnlyBook.ite
    · exact fbAppend_onlyBook _ _ _
    · exact hl.trans (modFb_onlyBook _ _ _)
  with_reducible apply OnlyBook.ite
  · with_reducible apply OnlyBook.ite
    · with_reducible apply OnlyBook.ite
      · exact (fbStore_onlyBook _ _ _ _).trans (modFb_onlyBook _ _ _)
      · exact hl
    · with_reducible apply OnlyBook.ite
      · exact hl
      · exact (fbStore_onlyBook _ _ _ _).trans (modFb_onlyBook _ _ _)
  · with_reducible apply OnlyBook.ite
    · exact fbAppend_onlyBook _ _ _
    with_reducible apply OnlyBook.ite
    · exact hl
    · split
      · exact hl
      · exact ((fbRemove_onlyBook _ _ _ _).trans (modFb_onlyBook _ _ _)).trans (fbAppend_onlyBook _ _ _)
theorem fbPut_onlyBook (s : State) (c : Fin 96) (a b : Nat) (l : List Byte) : OnlyBook s (fbPut s c a b l) := by
  unfold fbPut
  dsimp only
  split
  · exact .refl _
  · refine OnlyBook.trans ?_ (fbJudge_onlyBook _ _ _ _)
    have h1 : ∀ x : State, OnlyBook s x → OnlyBook s x := fun _ h => h
    split <;> split
    · exact .refl _
    · exact (modFb_onlyBook _ _ _).trans (fbJudge_onlyBook _ _ _ _)
    · exact (fbJudge_onlyBook _ _ _ _).trans (modFb_onlyBook _ _ _)
    · exact (((fbJudge_onlyBook _ _ _ _).trans (modFb_onlyBook _ _ _)).trans (modFb_onlyBook _ _ _)).trans (fbJudge_onlyBook _ _ _ _)
theorem fbTrigger_onlyBook (s : State) (c : Fin 96) (a : Nat) : OnlyBook s (fbTrigger s c a) := by
  unfold fbTrigger
  dsimp only
  repeat' first | with_reducible apply OnlyBook.ite | split
  · exact .refl _
  · exact modFb_onlyBook _ _ _
  · exact (modFb_onlyBook _ _ _).trans (fbPut_onlyBook _ _ _ _ _)
theorem record_onlyBook (s : State) (a b c : Nat) (l : List Byte) : OnlyBook s (record s a b c l) := by
  unfold record; split <;> exact ⟨fun _ => rfl⟩

theorem flagSet_onlyBook (s : State) (c : Fin 96) (n : Fin 64) (b : Nat) : OnlyBook s (flagSet s c n b) :=
  (record_onlyBook _ _ _ _ _).trans (fbTrigger_onlyBook _ _ _)

end Sys2Proof.Machine
end

