-- ==== Sys2Proof/Tests/Slice0.lean ====
section
/-! SUPPORT.  The author's own tests: words that decode, ill-formed commands, and for every statement with hypotheses
a concrete case that meets them. -/

namespace Sys2Proof.Tests

set_option Elab.async false

open Sys2Proof Sys2Proof.Machine

/-! ### A small machine in use -/

/-- A plat entry of 1 GiB of stack 0 from granule `g` on for partition `p`, with every permission. -/
def plat (p : BitVec 4) (g : BitVec 14) : PlatEnt := { PlatEnt.reset with
  valid := true, sizeG := 512, baseG := g, part := p, rd := true, wr := true, hostRd := true, hostWr := true, fabRd := true
  fabWr := true }

/-- The block after its boot: both domains out of reset, PF0 enabled with ring 0, CONTROL holding the deeds,
partition 0 made of every parcel with JOB 7 and one GiB of stack 0, the GiB behind it the host's, the fabric a 2 × 2 × 2 tract. -/
def up : State := { State.reset with
  rst := { State.reset.rst with por := false, perst := false, ctlUp := true, dpUp := true, stage := 7 }
  clk := { State.reset.clk with locked := true, refOk := true, gated := false }
  parts := vset State.reset.parts 0 { Part.reset with made := true, job := some 7 }
  ms := { State.reset.ms with
    pmapA := Vector.replicate 12 ⟨0, true⟩, pmapS := Vector.replicate 12 ⟨0, true⟩
    platA := vset (vset State.reset.ms.platA 0 (plat 0 0)) 1 (plat 15 512)
    platS := vset (vset State.reset.ms.platS 0 (plat 0 0)) 1 (plat 15 512) }
  fab := { State.reset.fab with idValid := true, lenX := 2, lenY := 2, lenZ := 2 }
  kci := { State.reset.kci with
    fns := vset State.reset.kci.fns 0 { Func.reset with
      ready := true, enable := true, rings := vset Func.reset.rings 0 (some (Ring.make 6 6 0 0 4096)) }
    deeds := Vector.replicate 5 { Deed.reset with holder := 1 } } }

/-- The 64 bytes of a command from its fields: offset, length, value. -/
def body (opcode : Nat) (fields : List (Nat × Nat × Nat)) : List Byte :=
  leBytes 64 (fields.foldl (fun a f => a + f.2.2 % 2 ^ (8 * f.2.1) * 2 ^ (8 * f.1)) opcode)

/-- A command at the head of ring 0 of PF0. -/
def offer (s : State) (opcode : Nat) (fields : List (Nat × Nat × Nat)) : State :=
  s.modRing 0 0 (fun q => { q with fetched := [⟨0, some 0, 0, body opcode fields, [], 0, 0, 0⟩] })

/-- The command of a row is offered, is the row's own, passes its checks and is not staged; `extra` is what a
statement asks besides. -/
def fits (k : KciRow) (s : State) (host : List (DWord × List Byte)) (extra : State → Cmd → Bool) : Bool :=
  match offered s 0 0 host with
  | some (c, u) => k.mine c && (firstFail k.check u c).isNone && !c.txn && extra (acknowledged u c) c
  | none => false

/-- What `fits` says in the terms of the statements. -/
def Met (k : KciRow) (extra : State → Cmd → Prop) : Prop :=
  ∃ (f : Fin 13) (r : Fin 32) (host : List (DWord × List Byte)) (s u : State) (c : Cmd),
    offered s f r host = some (c, u) ∧ k.mine c = true ∧ firstFail k.check u c = none ∧ c.txn = false ∧
      extra (acknowledged u c) c

theorem met_of_fits (k : KciRow) (s : State) (host : List (DWord × List Byte)) (extra : State → Cmd → Prop)
    [∀ v c, Decidable (extra v c)] (h : fits k s host (fun v c => decide (extra v c)) = true) : Met k extra := by
  unfold fits at h
  split at h
  · next c u e =>
    simp only [Bool.and_eq_true, Option.isNone_iff_eq_none, Bool.not_eq_true', decide_eq_true_eq] at h
    exact ⟨0, 0, host, s, u, c, e, h.1.1.1, h.1.1.2, h.1.2, h.2⟩
  · cases h

/-- A command passes once the checks of its header and of its body find nothing. -/
theorem firstFail_none (check : State → Cmd → Option Fail) (s : State) (c : Cmd) (h : headerFault s c = none)
    (ht : c.txn = false) (hd : deedFault s c = none) (hl : lockedOut s c = false) (hc : check s c = none)
    (hb : (s.kci.dpBusy && needsDp c || partBusy s c) = false) : firstFail check s c = none := by
  have hv : virtual s c = s := by simp [virtual, ht]
  have hx : txnFault s c = none := by simp [txnFault, ht]
  simp only [firstFail, h, hx, hd, hl, hv, hc, hb, ht]
  simp

/-- One slot of each parcel at most is fused off, so one of two cores of a parcel is there. -/
theorem present : ∃ c : Fin 96, (c = 0 ∨ c = 1) ∧ coreAbsent c = false := by
  by_cases h : coreAbsent 0 = false
  · exact ⟨0, .inl rfl, h⟩
  · refine ⟨1, .inr rfl, ?_⟩
    simp [coreAbsent] at h ⊢
    intro _
    simp [h.2]

/-- The command that `offer` puts on the ring, with the host bytes that it reads. -/
def cmdOf (opcode : Nat) (fields : List (Nat × Nat × Nat)) (bs : List Byte) : Cmd :=
  ⟨0, some 0, 0, body opcode fields, bs, 0, 0, 0⟩

/-- The state in which the offered command is checked. -/
def checked (s : State) (opcode : Nat) (fields : List (Nat × Nat × Nat)) (host : List (DWord × List Byte)) : State :=
  popRing (host.foldl (fun s w => s.hostWrite w.1.toNat w.2) (offer s opcode fields)) 0 0

/-- Everything that `Met` asks but the checks of the command's body. -/
def meets (k : KciRow) (s : State) (opcode : Nat) (fields : List (Nat × Nat × Nat)) (host : List (DWord × List Byte))
    (bs : List Byte) (extra : State → Cmd → Bool) : Bool :=
  let c := cmdOf opcode fields bs
  let u := checked s opcode fields host
  decide (ringHead (offer s opcode fields) 0 0 = some (cmdOf opcode fields [])) &&
    decide (u.hostMem.readN (hostNeed c).1 (hostNeed c).2 = bs) && k.mine c && (headerFault u c).isNone && !c.txn &&
    (deedFault u c).isNone && !lockedOut u c && !(u.kci.dpBusy && needsDp c || partBusy u c) && extra (acknowledged u c) c

theorem met_of_check (k : KciRow) (s : State) (opcode : Nat) (fields : List (Nat × Nat × Nat))
    (host : List (DWord × List Byte)) (bs : List Byte) (extra : State → Cmd → Prop) [∀ v c, Decidable (extra v c)]
    (h : meets k s opcode fields host bs (fun v c => decide (extra v c)) = true)
    (hc : k.check (checked s opcode fields host) (cmdOf opcode fields bs) = none) : Met k extra := by
  simp only [meets, Bool.and_eq_true, Option.isNone_iff_eq_none, Bool.not_eq_true', decide_eq_true_eq] at h
  obtain ⟨⟨⟨⟨⟨⟨⟨⟨h1, h2⟩, h3⟩, h4⟩, h5⟩, h6⟩, h7⟩, h8⟩, h9⟩ := h
  refine ⟨0, 0, host, offer s opcode fields, checked s opcode fields host, cmdOf opcode fields bs, ?_, h3,
    firstFail_none _ _ _ h4 h5 h6 h7 hc h8, h5, h9⟩
  unfold offered
  rw [h1]
  simp only [Option.some.injEq, Prod.mk.injEq]
  refine ⟨?_, rfl⟩
  have e : hostNeed (cmdOf opcode fields []) = hostNeed (cmdOf opcode fields bs) := rfl
  rw [e]
  exact (congrArg (fun x => { cmdOf opcode fields [] with host := x }) h2).trans rfl


/-! ### Instructions that start -/

/-- An instruction word from its engine, operation, descriptor indices and immediate bits. -/
def ins (eng op dst a b aux imm : Nat) : Nat := eng + op * 2 ^ 4 + dst * 2 ^ 96 + a * 2 ^ 104 + b * 2 ^ 112 + aux * 2 ^ 120 + imm

/-- A dense TENSOR descriptor of `n1` runs of `n0` elements; the scales of a BQ format follow at 0x10000 behind it. -/
def tens (f : Fmt) (space base n0 n1 : Nat) : Nat :=
  1 + f.code * 2 ^ 8 + space * 2 ^ 16 + base * 2 ^ 48 + n0 * 2 ^ 128 + n1 * 2 ^ 160 + 2 ^ 192 + 2 ^ 224 +
    (ceilDiv (n0 * f.width) 8) * 2 ^ 256 + (ceilDiv (n0 * f.width) 8) * n1 * (2 ^ 288 + 2 ^ 320) +
    (if f.isBq then (base + 0x10000) * 2 ^ 352 else 0)

/-- An INDEX descriptor of `n` 16-bit indices at `base` of the data SRAM. -/
def index (base n : Nat) : Nat := 4 + 1 * 2 ^ 16 + base * 2 ^ 128 + n * 2 ^ 160

/-- A dense REMOTE descriptor of `n0` elements for core 1 of this device, data SRAM. -/
def remote (f : Fmt) (core n0 extra : Nat) : Nat :=
  5 + f.code * 2 ^ 8 + 1 * 2 ^ 16 + 0x1000 * 2 ^ 48 + core * 2 ^ 144 + n0 * 2 ^ 192 + 2 ^ 224 + 2 ^ 256 + 2 ^ 288 +
    ceilDiv (n0 * f.width) 8 * (2 ^ 320 + 2 ^ 352 + 2 ^ 384) + extra

/-- Core `c` runs with one instruction in the queue of engine `e` and its descriptors from index 1 on. -/
def engAt (s : State) (e : Fin 10) (w : Nat) (ds : List Nat) (c : Fin 96) : State :=
  let s := ds.zipIdx.foldl (fun s x => s.write (descAddr c (x.2 + 1)) (leBytes 64 x.1) false) s
  s.modCore c (fun k => { (k.modEng e (fun n => { n with queue := [⟨5, BitVec.ofNat 256 w⟩] })) with stopped := false, fetching := true })

/-- Everything that `EngRow.Starts` asks, but that the core is not fused off. -/
def startsOk (k : EngRow) (c : Fin 96) (s : State) : Bool :=
  !(s.core c).retired && !s.clk.gated && s.rst.dpUp && s.ms.mstepTo.isNone && s.ms.waiting.isEmpty &&
  match headReady s c k.eng k.op with
  | none => false
  | some q =>
    let b := beginStart s c k.eng q
    k.ready s c q.word.toNat && (startCheck b c q.word.toNat).isNone &&
    match originAt b c k.eng q with
    | .ok v o => v.ms.sramBad.isEmpty && (k.work v c q.word.toNat q.slot.toNat o).fault.isNone
    | _ => false

/-- Where no memory error waits, a read meets none. -/
theorem meetErrs_of_none (s : State) (rs : List Range) (h : s.ms.sramBad.isEmpty = true) : meetErrs s rs = s := by
  simp [meetErrs, List.isEmpty_iff.mp h]

/-- An instruction of the row starts in some state. -/
def CanStart (k : EngRow) : Prop :=
  ∃ (c : Fin 96) (gap : Nat) (s u b v m : State) (q : QEnt) (o : DWord) (f : Eff), k.Ready c gap s q ∧
    u = passCore s c gap ∧ b = beginStart u c k.eng q ∧ startCheck b c q.word.toNat = none ∧
    originAt b c k.eng q = .ok v o ∧ m = meetErrs v (k.work v c q.word.toNat q.slot.toNat o).reads ∧
    f = k.work m c q.word.toNat q.slot.toNat o ∧ f.fault = none

theorem can_start_of (k : EngRow) (ready : State → Fin 96 → Nat → Bool)
    (hr : ∀ s c w, coreAbsent c = false → ready s c w = true → k.ready s c w = true) (s₀ : State) (w : Nat) (ds : List Nat)
    (h : (startsOk { k with ready := ready } 0 (engAt s₀ k.eng w ds 0) &&
      startsOk { k with ready := ready } 1 (engAt s₀ k.eng w ds 1)) = true) : CanStart k := by
  obtain ⟨c, hc, ha⟩ := present
  have h' : startsOk { k with ready := ready } c (engAt s₀ k.eng w ds c) = true := by
    simp only [Bool.and_eq_true] at h
    rcases hc with rfl | rfl
    · exact h.1
    · exact h.2
  generalize engAt s₀ k.eng w ds c = s at h'
  unfold startsOk at h'
  split at h'
  · simp at h'
  · next q hq =>
    simp only [Bool.and_eq_true, Bool.not_eq_true', Option.isNone_iff_eq_none] at h'
    obtain ⟨⟨⟨⟨⟨h1, h2⟩, h3⟩, hm⟩, hw⟩, ⟨h4, h5⟩, h6⟩ := h'
    split at h6
    · next v o ho =>
      simp only [Bool.and_eq_true, Option.isNone_iff_eq_none] at h6
      refine ⟨c, 0, s, s, _, v, v, q, o, _, ⟨by simp [coreShut, ha, h1, h2, h3], hq, hr _ _ _ ha h4, ?_⟩, rfl, rfl, h5, ho,
        (meetErrs_of_none v _ h6.1).symm, rfl, h6.2⟩
      have : stacksTake s c k.eng q k.work = true := by simp [stacksTake, hm, hw]
      exact this
    · cases h6

theorem can_start (k : EngRow) (s₀ : State) (w : Nat) (ds : List Nat)
    (h : (startsOk k 0 (engAt s₀ k.eng w ds 0) && startsOk k 1 (engAt s₀ k.eng w ds 1)) = true) : CanStart k :=
  can_start_of k k.ready (fun _ _ _ _ h => h) s₀ w ds h

/-- FP32 in the data SRAM: two runs of four, two runs of four and a third. -/
def fA : Nat := tens .fp32 1 0x1000 4 2
def fB : Nat := tens .fp32 1 0x2000 4 2
def fC : Nat := tens .fp32 1 0x3000 4 2
def fRow : Nat := tens .fp32 1 0x4000 4 1
/-- INT32 lists. -/
def iA : Nat := tens .int32 1 0x1000 4 1
def iB : Nat := tens .int32 1 0x2000 8 1
def iC : Nat := tens .int32 1 0x3000 4 1

theorem witness_movement_instructions :
    CanStart ⟨.load, 0, 1, loadReady, workLoad⟩ ∧ CanStart ⟨.fill, 0, 2, always, workFill⟩ ∧
    CanStart ⟨.store, 1, 1, always, workStore⟩ ∧ CanStart ⟨.gather, 2, 1, always, workGather⟩ ∧
    CanStart ⟨.scatter, 2, 2, always, workScatter⟩ ∧ CanStart ⟨.scatterAdd, 2, 3, scatterAddReady, workScatterAdd⟩ ∧
    CanStart ⟨.csrExpand, 2, 4, always, workCsrExpand⟩ :=
  ⟨can_start _ up (ins 0 1 2 1 0 0 0) [fA, fB] (by decide +kernel),
   can_start _ up (ins 0 2 1 0 0 0 (0x3F800000 * 2 ^ 136)) [fA] (by decide +kernel),
   can_start _ up (ins 1 1 2 1 0 0 0) [fA, tens .fp32 0 0x1000 4 2] (by decide +kernel),
   can_start _ up (ins 2 1 2 1 3 0 0) [fA, fB, index 0x6000 2] (by decide +kernel),
   can_start _ up (ins 2 2 2 1 3 0 0) [fA, fB, index 0x6000 2] (by decide +kernel),
   can_start _ up (ins 2 3 2 1 3 0 (2 ^ 158)) [fA, fB, index 0x6000 2] (by decide +kernel),
   can_start _ up (ins 2 4 2 1 3 4 (5 * 2 ^ 160)) [iA, iB, index 0x6000 2, tens .int32 1 0x3000 3 1, iB] (by decide +kernel)⟩

theorem witness_exchange_instructions :
    CanStart ⟨.put, 3, 1, always, workPut 0x01⟩ ∧ CanStart ⟨.redPut, 3, 2, always, workRedPut⟩ ∧
    CanStart ⟨.mcast, 3, 3, always, workPut 0x03⟩ ∧ CanStart ⟨.dispatch, 3, 4, always, workDispatch⟩ ∧
    CanStart ⟨.combine, 3, 5, always, workCombine⟩ ∧ CanStart ⟨.expect, 4, 1, xiReady, workExpect⟩ ∧
    CanStart ⟨.redExpect, 4, 2, xiReady, workRedExpect⟩ ∧ CanStart ⟨.tokenRecv, 4, 3, xiReady, workTokenRecv⟩ ∧
    CanStart ⟨.combineRecv, 4, 4, xiReady, workCombineRecv⟩ :=
  ⟨can_start _ up (ins 3 1 2 1 0 0 0) [fRow, remote .fp32 1 4 0] (by decide +kernel),
   can_start _ up (ins 3 2 2 1 0 0 (2 ^ 158)) [fRow, remote .fp32 1 4 0] (by decide +kernel),
   can_start _ up (ins 3 3 2 1 0 0 0) [fRow, remote .fp32 1 4 (2 ^ 152 + 2 ^ 168)] (by decide +kernel),
   can_start _ up (ins 3 4 2 1 3 4 (2 ^ 159)) [tens .bq8 1 0x1000 32 1, remote .bq8 0 32 0 - 0x1000 * 2 ^ 48,
     tens .int32 1 0x3000 4 1, tens .int32 1 0x4000 8 1] (by decide +kernel),
   can_start _ up (ins 3 5 2 1 3 0 0) [fA, remote .fp32 0 4 0, tens .int32 1 0x3000 4 2] (by decide +kernel),
   can_start _ up (ins 4 1 1 0 0 0 (4 * 2 ^ 170)) [fA] (by decide +kernel),
   can_start _ up (ins 4 2 1 0 0 0 (2 ^ 170)) [fA] (by decide +kernel),
   can_start _ up (ins 4 3 1 0 0 0 0) [tens .bq8 1 0x1000 32 1] (by decide +kernel),
   can_start _ up (ins 4 4 1 0 0 0 0) [fA] (by decide +kernel)⟩

/-- Every core's MV ring has a region and 32 KiB filled. -/
def ringFull : State := { up with cores := up.cores.map (fun k => { k with mv := ⟨some 0x10000, 0x8000, 0⟩ }) }

theorem witness_array_instructions :
    CanStart ⟨.mmul, 5, 1, mxReady, workMmul⟩ ∧ CanStart ⟨.cvt, 5, 2, mxReady, workCvt⟩ ∧
    CanStart ⟨.mvmul, 6, 1, mvReady, workMvmul⟩ ∧ CanStart ⟨.ringSet, 6, 2, ringSetReady, workRingSet⟩ :=
  ⟨can_start _ up (ins 5 1 3 1 2 0 (2 ^ 138 + 2 ^ 140 + 2 * 2 ^ 176))
     [tens .int8 1 0x1000 32 2, tens .int8 1 0x2000 32 4, tens .int32 2 0 4 2] (by decide +kernel),
   can_start _ up (ins 5 2 2 1 0 0 0) [tens .int32 2 0 4 2, tens .int8 2 0x1000 4 2] (by decide +kernel),
   can_start _ ringFull (ins 6 1 3 1 2 0 (2 ^ 138)) [tens .int8 1 0x1000 64 1, tens .int8 3 0 64 4, tens .int32 1 0x2000 4 1]
     (by decide +kernel),
   can_start _ up (ins 6 2 1 0 0 0 0) [tens .int8 1 0x10000 65536 1] (by decide +kernel)⟩

theorem witness_vector_arithmetic :
    CanStart ⟨.add, 7, 1, vxReady, workArith 1⟩ ∧ CanStart ⟨.sub, 7, 2, vxReady, workArith 2⟩ ∧
    CanStart ⟨.mul, 7, 3, vxReady, workArith 3⟩ ∧ CanStart ⟨.fma, 7, 4, vxReady, workArith 4⟩ ∧
    CanStart ⟨.div, 7, 5, vxReady, workArith 5⟩ ∧ CanStart ⟨.min, 7, 6, vxReady, workArith 6⟩ ∧
    CanStart ⟨.max, 7, 7, vxReady, workArith 7⟩ ∧ CanStart ⟨.abs, 7, 8, vxReady, workAbs⟩ ∧
    CanStart ⟨.neg, 7, 9, vxReady, workNeg⟩ ∧ CanStart ⟨.sqrt, 7, 0xA, vxReady, workSqrt⟩ ∧
    CanStart ⟨.copy, 7, 0xB, vxReady, workCopy⟩ ∧ CanStart ⟨.sfu, 7, 0x10, vxReady, workSfu⟩ ∧
    CanStart ⟨.dropout, 7, 0x11, vxReady, workDropout⟩ ∧ CanStart ⟨.randU, 7, 0x12, vxReady, workRandU⟩ :=
  ⟨can_start _ up (ins 7 1 3 1 2 0 0) [fA, fB, fC] (by decide +kernel),
   can_start _ up (ins 7 2 3 1 2 0 0) [fA, fB, fC] (by decide +kernel),
   can_start _ up (ins 7 3 3 1 2 0 0) [fA, fB, fC] (by decide +kernel),
   can_start _ up (ins 7 4 3 1 2 1 0) [fA, fB, fC] (by decide +kernel),
   can_start _ up (ins 7 5 3 1 2 0 0) [fA, fB, fC] (by decide +kernel),
   can_start _ up (ins 7 6 3 1 2 0 0) [fA, fB, fC] (by decide +kernel),
   can_start _ up (ins 7 7 3 1 2 0 0) [fA, fB, fC] (by decide +kernel),
   can_start _ up (ins 7 8 3 1 0 0 0) [fA, fB, fC] (by decide +kernel),
   can_start _ up (ins 7 9 3 1 0 0 0) [fA, fB, fC] (by decide +kernel),
   can_start _ up (ins 7 0xA 3 1 0 0 0) [fA, fB, fC] (by decide +kernel),
   can_start _ up (ins 7 0xB 3 1 0 0 0) [fA, fB, fC] (by decide +kernel),
   can_start _ up (ins 7 0x10 3 1 0 0 0) [fA, fB, fC] (by decide +kernel),
   can_start _ up (ins 7 0x11 3 1 0 0 (0x3F800000 * 2 ^ 144)) [fA, fB, fC] (by decide +kernel),
   can_start _ up (ins 7 0x12 3 0 0 0 0) [fA, fB, fC] (by decide +kernel)⟩

theorem witness_vector_integer_and_rows :
    CanStart ⟨.iadd, 7, 0x18, vxReady, workInt (fun sat a b => intRes sat (a + b))⟩ ∧
    CanStart ⟨.isub, 7, 0x19, vxReady, workInt (fun sat a b => intRes sat (a - b))⟩ ∧
    CanStart ⟨.imin, 7, 0x1A, vxReady, workInt (fun sat a b => intRes sat (min a b))⟩ ∧
    CanStart ⟨.imax, 7, 0x1B, vxReady, workInt (fun sat a b => intRes sat (max a b))⟩ ∧
    CanStart ⟨.and, 7, 0x1C, vxReady, workInt (bitRes (· &&& ·))⟩ ∧
    CanStart ⟨.or, 7, 0x1D, vxReady, workInt (bitRes (· ||| ·))⟩ ∧
    CanStart ⟨.xor, 7, 0x1E, vxReady, workInt (bitRes (· ^^^ ·))⟩ ∧
    CanStart ⟨.softmax, 7, 0x20, vxReady, workSoftmax⟩ ∧ CanStart ⟨.lnorm, 7, 0x21, vxReady, workNorm false⟩ ∧
    CanStart ⟨.rmsnorm, 7, 0x22, vxReady, workNorm true⟩ ∧ CanStart ⟨.osmUpdate, 7, 0x23, vxReady, workOsmUpdate⟩ ∧
    CanStart ⟨.osmFinal, 7, 0x24, vxReady, workOsmFinal⟩ ∧ CanStart ⟨.rsum, 7, 0x25, vxReady, workReduce rowSum⟩ ∧
    CanStart ⟨.rmax, 7, 0x26, vxReady, workReduce rowMax⟩ ∧ CanStart ⟨.vld, 7, 0x30, vxReady, workVld⟩ ∧
    CanStart ⟨.vst, 7, 0x31, vxReady, workVst⟩ :=
  ⟨can_start _ up (ins 7 0x18 3 1 2 0 0) [iA, iC, iA] (by decide +kernel),
   can_start _ up (ins 7 0x19 3 1 2 0 0) [iA, iC, iA] (by decide +kernel),
   can_start _ up (ins 7 0x1A 3 1 2 0 0) [iA, iC, iA] (by decide +kernel),
   can_start _ up (ins 7 0x1B 3 1 2 0 0) [iA, iC, iA] (by decide +kernel),
   can_start _ up (ins 7 0x1C 3 1 2 0 0) [iA, iC, iA] (by decide +kernel),
   can_start _ up (ins 7 0x1D 3 1 2 0 0) [iA, iC, iA] (by decide +kernel),
   can_start _ up (ins 7 0x1E 3 1 2 0 0) [iA, iC, iA] (by decide +kernel),
   can_start _ up (ins 7 0x20 3 1 0 0 0) [fA, fB, fC] (by decide +kernel),
   can_start _ up (ins 7 0x21 3 1 0 0 (0x3F800000 * 2 ^ 144)) [fA, fB, fC] (by decide +kernel),
   can_start _ up (ins 7 0x22 3 1 0 0 (0x3F800000 * 2 ^ 144)) [fA, fB, fC] (by decide +kernel),
   can_start _ up (ins 7 0x23 3 1 0 2 0) [fA, fB, fC] (by decide +kernel),
   can_start _ up (ins 7 0x24 3 1 0 2 0) [fA, fB, fC] (by decide +kernel),
   can_start _ up (ins 7 0x25 3 1 0 0 0) [fA, fB, tens .fp32 1 0x3000 1 2] (by decide +kernel),
   can_start _ up (ins 7 0x26 3 1 0 0 0) [fA, fB, tens .fp32 1 0x3000 1 2] (by decide +kernel),
   can_start _ up (ins 7 0x30 0 1 0 0 (3 * 2 ^ 138)) [fRow] (by decide +kernel),
   can_start _ up (ins 7 0x31 1 0 0 0 (3 * 2 ^ 138)) [fRow] (by decide +kernel)⟩

theorem witness_rank_instructions :
    CanStart ⟨.sort, 9, 1, rkReady, workSort⟩ ∧ CanStart ⟨.merge, 9, 2, rkReady, workList mergeLists⟩ ∧
    CanStart ⟨.union, 9, 3, rkReady, workList (setLists true)⟩ ∧
    CanStart ⟨.intersect, 9, 4, rkReady, workList (setLists false)⟩ ∧ CanStart ⟨.unique, 9, 5, rkReady, workUnique⟩ ∧
    CanStart ⟨.topk, 9, 6, rkReady, workTopk⟩ ∧ CanStart ⟨.segment, 9, 7, rkReady, workSegment⟩ ∧
    CanStart ⟨.hist, 9, 8, rkReady, workHist⟩ ∧ CanStart ⟨.updNorm, 8, 2, normReady, workUpdNorm⟩ :=
  ⟨can_start _ up (ins 9 1 2 1 0 0 0) [iA, tens .int32 1 0x2000 4 1] (by decide +kernel),
   can_start _ up (ins 9 2 2 1 3 0 0) [iA, iB, iC] (by decide +kernel),
   can_start _ up (ins 9 3 2 1 3 0 0) [tens .int32 1 0x1000 1 1, iB, tens .int32 1 0x3000 1 1] (by decide +kernel),
   can_start _ up (ins 9 4 2 1 3 0 0) [tens .int32 1 0x1000 1 1, iB, tens .int32 1 0x3000 1 1] (by decide +kernel),
   can_start _ up (ins 9 5 2 1 0 0 0) [iA, iB] (by decide +kernel),
   can_start _ up (ins 9 6 2 1 0 0 0) [fA, tens .fp32 1 0x2000 64 1] (by decide +kernel),
   can_start _ up (ins 9 7 2 1 3 0 0) [iA, fB, fRow] (by decide +kernel),
   can_start _ up (ins 9 8 2 1 0 0 (4 * 2 ^ 165)) [iA, tens .int32 1 0x2000 4 1] (by decide +kernel),
   can_start _ up (ins 8 2 0 1 0 3 0) [fA, fB, 6 + 2 ^ 128 + 4 * 2 ^ 176, fRow] (by decide +kernel)⟩

/-- The commit gate of partition 0 is open. -/
def gateOpen : State := modCl up 0 (fun x => { x with gate := 1 })

/-- What a gated instruction needs, but that its core is not fused off. -/
def gateOk (s : State) (c : Fin 96) (w : Nat) : Bool :=
  (gateOf s c == 1 || gateOf s c == 2) && !coreOut s c && !(vget s.serv.cores c).admitWait && !isBuddy s c && !(s.core c).updDone &&
    residentFor s c 8 w

theorem gate_ready (s : State) (c : Fin 96) (w : Nat) (ha : coreAbsent c = false) (h : gateOk s c w = true) :
    gateReady s c w = true := by
  simp only [gateOk, Bool.and_eq_true, Bool.or_eq_true, Bool.not_eq_true', beq_iff_eq] at h
  obtain ⟨⟨⟨⟨⟨g | g, h1⟩, h2⟩, h3⟩, h4⟩, h5⟩ := h <;> simp [gateReady, gatePasses, isStepCore, ha, g, h1, h2, h3, h4, h5]

theorem witness_gated_instructions :
    CanStart ⟨.updApply, 8, 1, fun s c w => gateReady s c w, workUpdApply⟩ ∧
    CanStart ⟨.updWcopy, 8, 3, fun s c w => gateReady s c w, workUpdWcopy⟩ ∧ ∀ c, gateOf gateOpen c ≠ 2 :=
  ⟨can_start_of _ gateOk gate_ready gateOpen (ins 8 1 2 1 0 3 0) [fA, fB, 6 + 2 ^ 128] (by decide +kernel),
   can_start_of _ gateOk gate_ready gateOpen (ins 8 3 2 1 0 0 0) [fA, tens .bf16 1 0x2000 4 2] (by decide +kernel),
   by decide +kernel⟩

/-- A core that no clock is kept from: what `coreShut` asks beside the fuses. -/
def clocked (s : State) (c : Fin 96) : Bool := !(s.core c).retired && !s.clk.gated && s.rst.dpUp

/-- A fact about one of two cores of which one at least is there. -/
theorem on_core {s : Fin 96 → State} {P : Fin 96 → Prop} [∀ c, Decidable (P c)]
    (h : (clocked (s 0) 0 && decide (P 0) && (clocked (s 1) 1 && decide (P 1))) = true) :
    ∃ c, coreAbsent c = false ∧ coreShut (s c) c = false ∧ P c := by
  simp only [Bool.and_eq_true, decide_eq_true_eq, clocked, Bool.not_eq_true'] at h
  obtain ⟨c, rfl | rfl, ha⟩ := present
  · exact ⟨0, ha, by simp [coreShut, ha, h.1.1], h.1.2⟩
  · exact ⟨1, ha, by simp [coreShut, ha, h.2.1], h.2.2⟩

/-- The head of UP of core `c` is a UPD_APPLY, the commit gate at SKIP. -/
def skipped (c : Fin 96) : State := engAt (modCl up 0 (fun x => { x with gate := 2 })) 8 (ins 8 1 2 1 0 3 0) [fA, fB, 6 + 2 ^ 128] c

theorem witness_skipped_instructions : ∃ c q, coreShut (skipped c) c = false ∧ gateOf (skipped c) c = 2 ∧
    headReady (passCore (skipped c) c 0) c 8 1 = some q ∧ gateReady (passCore (skipped c) c 0) c q.word.toNat = true := by
  obtain ⟨c, ha, hs, h⟩ := on_core (s := skipped) (P := fun c => gateOf (skipped c) c = 2 ∧
    headReady (passCore (skipped c) c 0) c 8 1 = some ⟨5, BitVec.ofNat 256 (ins 8 1 2 1 0 3 0)⟩ ∧
    gateOk (passCore (skipped c) c 0) c (ins 8 1 2 1 0 3 0) = true) (by decide +kernel)
  exact ⟨c, _, hs, h.1, h.2.1, gate_ready _ _ _ ha h.2.2⟩

/-- A closure context with a policy in force. -/
def withPolicy (s : State) (policy : List Byte) : State :=
  s.modPart 0 (fun q => { q with cl := { q.cl with policy := some policy } })

/-- The first slot of partition 0 as `f` makes it. -/
def withSlot (s : State) (f : Slot → Slot) : State := modSlot s 0 0 f

/-- A step policy block: closure counters 1 to 6, set 1, one step core, every address in the plat entry of `up`. -/
def policyBlock : List Byte := leBytes 192 (1 + 2 ^ 32 * (1 + 2 ^ 8 * (2 + 2 ^ 8 * (3 + 2 ^ 8 * (4 + 2 ^ 8 * (5 + 2 ^ 8 * 6))))) +
  2 ^ 96 + 2 ^ 144 + 60 * 2 ^ 160 + 2 ^ 192)

/-- PF0's ring 1 exists. -/
def twoRings : State := up.modFn 0 (fun x => { x with rings := vset x.rings 1 (some (Ring.make 4 4 0 8192 12288)) })

/-- No parcel has an owner yet. -/
def unmapped : State := { up with ms := { up.ms with pmapA := State.reset.ms.pmapA, pmapS := State.reset.ms.pmapS } }

/-- PF0 has an open transaction. -/
def inTxn (s : State) : State := s.modKci (fun k => { k with
  txns := [⟨1, 0, 0, [], 0, 0, 0, none, 0, none⟩], nextTxn := 2 })

theorem witness_ring_and_device_commands :
    Met ⟨.queueCreate, codeIs 0x01, checkQueueCreate⟩ (fun _ c => (ringOf? (c.b 16 1)).isSome = true) ∧
    Met ⟨.queueDestroy, codeIs 0x02, checkQueueDestroy⟩ (fun _ c => (ringOf? (c.b 16 1)).isSome = true) ∧
    Met ⟨.devQuery, codeIs 0x08, checkDevQuery⟩ (fun _ c => c.b 16 1 = 0) ∧
    Met ⟨.devQuery, codeIs 0x08, checkDevQuery⟩ (fun _ c => c.b 16 1 ≠ 0) ∧
    Met ⟨.devCaps, codeIs 0x09, checkDevCaps⟩ (fun _ _ => True) :=
  ⟨met_of_fits _ (offer up 0x01 [(16, 1, 1), (18, 1, 4), (19, 1, 4)]) [] _ (by decide +kernel),
   met_of_fits _ (offer twoRings 0x02 [(16, 1, 1)]) [] _ (by decide +kernel),
   met_of_fits _ (offer up 0x08 []) [] _ (by decide +kernel),
   met_of_fits _ (offer up 0x08 [(16, 1, 1), (32, 4, 4096)]) [] _ (by decide +kernel),
   met_of_fits _ (offer up 0x09 [(32, 4, 64)]) [] _ (by decide +kernel)⟩

theorem witness_partition_and_plat_commands :
    Met ⟨.partCreate, codeIs 0x10, checkPartCreate⟩ (fun _ c => (partOf? c.part).isSome = true) ∧
    Met ⟨.partAssignParcels, codeIs 0x12, checkPartAssignParcels⟩ (fun v c => (c.scope v).isSome = true) ∧
    Met ⟨.partDestroy, codeIs 0x11, checkPartDestroy⟩ (fun v c => (c.scope v).isSome = true) ∧
    Met ⟨.platUnmap, codeIs 0x14, checkPlatUnmap⟩ (fun _ c => (entryOf? (c.b 32 2)).isSome = true) :=
  ⟨met_of_fits _ (offer unmapped 0x10 [(8, 1, 1), (16, 2, 0xFFF)]) [] _ (by decide +kernel),
   met_of_fits _ (offer up 0x12 [(16, 2, 1)]) [] _ (by decide +kernel),
   met_of_fits _ (offer up 0x11 []) [] _ (by decide +kernel),
   met_of_fits _ (offer up 0x14 []) [] _ (by decide +kernel)⟩

theorem witness_memory_commands :
    Met ⟨.memCopy, codeIs 0x18, checkMem checkMemCopy⟩ (fun _ c => c.b 40 1 = 0) ∧
    Met ⟨.memCopy, codeIs 0x18, checkMem checkMemCopy⟩ (fun v c => c.b 40 1 = 1 ∧ pathPoison v (c.b 16 8) (c.b 32 8) = []) ∧
    Met ⟨.memCopy, codeIs 0x18, checkMem checkMemCopy⟩ (fun v c => c.b 40 1 = 2 ∧ pathPoison v (c.b 16 8) (c.b 32 8) = []) ∧
    Met ⟨.memFill, codeIs 0x19, checkMem checkMemFill⟩ (fun _ _ => True) ∧
    Met ⟨.memScrub, codeIs 0x1A, checkMem checkMemScrub⟩ (fun _ _ => True) :=
  ⟨met_of_fits _ (offer up 0x18 [(16, 8, 0x40000000), (24, 8, 0x40000100), (32, 8, 4)]) [] _ (by decide +kernel),
   met_of_fits _ (offer up 0x18 [(16, 8, 0x40000000), (24, 8, 0x40000100), (32, 8, 4), (40, 1, 1)]) [] _ (by decide +kernel),
   met_of_fits _ (offer up 0x18 [(16, 8, 0x40000000), (24, 8, 0x40000100), (32, 8, 4), (40, 1, 2)]) [] _ (by decide +kernel),
   met_of_fits _ (offer up 0x19 [(24, 8, 0x40000000), (32, 8, 8), (40, 8, 5)]) [] _ (by decide +kernel),
   met_of_fits _ (offer up 0x1A [(24, 8, 0x40000000), (32, 8, 32)]) [] _ (by decide +kernel)⟩

theorem witness_step_commands :
    Met ⟨.stepOpen, codeIs 0x28, stepOpenBody⟩ (fun v c => (c.scope v).isSome = true) ∧
    Met ⟨.stepCloseRetry, fun c => codeIs 0x29 c && c.b 20 1 == 1, checkClose 1 haltedChecked⟩
      (fun v c => (c.scope v).isSome = true) ∧
    Met ⟨.stepCloseAbandon, fun c => codeIs 0x29 c && c.b 20 1 == 2, checkClose 2 haltedChecked⟩
      (fun v c => (c.scope v).isSome = true) ∧
    Met ⟨.stepCloseEval, fun c => codeIs 0x29 c && c.b 20 1 == 3, checkClose 3 checkStepCloseEval⟩
      (fun v c => (c.scope v).isSome = true) ∧
    Met ⟨.stepPolicySet, codeIs 0x2A, checkStepPolicySet⟩ (fun v c => (c.scope v).isSome = true) ∧
    Met ⟨.stepRecordGet, codeIs 0x2B, checkStepRecordGet⟩ (fun v c => (recordFor v 0 (c.b 16 4)).isSome = true ∧
      v.poisoned (polNat v 0 38 6) 256 = false) :=
  ⟨met_of_fits _ (offer (withPolicy up policyBlock) 0x28 []) [] _ (by decide +kernel),
   met_of_fits _ (offer (withSlot up (fun x => { x with state := 3, halted := true })) 0x29 [(20, 1, 1)]) [] _ (by decide +kernel),
   met_of_fits _ (offer (withSlot up (fun x => { x with state := 3, halted := true })) 0x29 [(20, 1, 2)]) [] _ (by decide +kernel),
   met_of_fits _ (offer (withSlot up (fun x => { x with state := 1 })) 0x29 [(20, 1, 3)]) [] _ (by decide +kernel),
   met_of_fits _ (offer up 0x2A []) [(0, policyBlock)] _ (by decide +kernel),
   met_of_fits _ (offer (up.modPart 0 (fun q => { q with cl := { q.cl with recs := [⟨0, 0, 256⟩] } })) 0x2B [(32, 4, 256)])
     [] _ (by decide +kernel)⟩

theorem witness_transaction_commands :
    Met ⟨.txnBegin, codeIs 0x38, checkTxnBegin⟩ (fun _ _ => True) ∧
    Met ⟨fun f r host => .txnCommit f r host none, codeIs 0x39, checkTxnCommit⟩ (fun v c => c.b 24 8 = 0 ∧
      ((namedTxn v c).map (fun x => prepareFail v { x with commit := some c } none)) = some none) ∧
    Met ⟨.txnRollback, codeIs 0x3A, checkTxnRollback⟩ (fun v c => (namedTxn v c).isSome = true) :=
  ⟨met_of_fits _ (offer up 0x38 []) [] _ (by decide +kernel),
   met_of_fits _ (offer (inTxn up) 0x39 [(16, 2, 1)]) [] _ (by decide +kernel),
   met_of_fits _ (offer (inTxn up) 0x3A [(16, 2, 1)]) [] _ (by decide +kernel)⟩

theorem witness_power_setting_commands :
    Met ⟨.powerLimitSet, codeIs 0x40, checkPowerLimitSet⟩ (fun _ _ => True) ∧
    Met ⟨.pstepPolicySet, codeIs 0x41, checkPstepPolicySet⟩ (fun _ _ => True) ∧
    Met ⟨.lattolSet, codeIs 0x42, checkLattolSet⟩ (fun _ _ => True) :=
  ⟨met_of_fits _ (offer up 0x40 [(16, 2, 350), (18, 1, 70), (19, 1, 3)]) [] _ (by decide +kernel),
   met_of_fits _ (offer up 0x41 [(16, 1, 2), (17, 1, 8), (18, 1, 1)]) [] _ (by decide +kernel),
   met_of_fits _ (offer up 0x42 [(16, 4, 100), (20, 1, 1)]) [] _ (by decide +kernel)⟩

theorem witness_fabric_config :
    Met ⟨.fabricConfigIdentity, fun c => codeIs 0x48 c && c.b 16 1 == 1, checkFabric 1 checkFabricConfigIdentity⟩
      (fun _ _ => True) ∧
    Met ⟨.fabricConfigJob, fun c => codeIs 0x48 c && c.b 16 1 == 2, checkFabric 2 checkFabricConfigJob⟩
      (fun _ c => (partOf? c.part).isSome = true) ∧
    Met ⟨.fabricConfigTimers, fun c => codeIs 0x48 c && c.b 16 1 == 3, checkFabric 3 checkFabricConfigTimers⟩
      (fun _ _ => True) ∧
    Met ⟨.fabricConfigUplink, fun c => codeIs 0x48 c && c.b 16 1 == 4, checkFabric 4 checkFabricConfigUplink⟩
      (fun _ _ => True) ∧
    Met ⟨.fabricConfigBarrier, fun c => codeIs 0x48 c && c.b 16 1 == 5, checkFabric 5 checkFabricConfigBarrier⟩
      (fun _ _ => True) ∧
    Met ⟨.fabricConfigStaging, fun c => codeIs 0x48 c && c.b 16 1 == 6, checkFabric 6 checkFabricConfigStaging⟩
      (fun _ c => (partOf? c.part).isSome = true) ∧
    Met ⟨.fabricConfigPort, fun c => codeIs 0x48 c && c.b 16 1 == 7, checkFabric 7 checkFabricConfigPort⟩
      (fun _ c => (portNum? (c.b 17 1)).isSome = true) :=
  ⟨met_of_fits _ (offer up 0x48 [(16, 1, 1), (17, 2, 0o111), (19, 1, 2), (20, 1, 2), (21, 1, 2)]) [] _ (by decide +kernel),
   met_of_fits _ (offer up 0x48 [(16, 1, 2), (17, 2, 9)]) [] _ (by decide +kernel),
   met_of_fits _ (offer up 0x48 [(16, 1, 3), (18, 4, 1000), (22, 4, 40), (26, 1, 7), (27, 4, 50), (31, 4, 100)]) [] _ (by decide +kernel),
   met_of_fits _ (offer up 0x48 [(16, 1, 4), (17, 3, 0x020000), (34, 1, 1), (35, 1, 1)]) [] _ (by decide +kernel),
   met_of_fits _ (offer up 0x48 [(16, 1, 5), (17, 1, 15), (18, 2, 7), (20, 1, 1), (21, 1, 5)]) [] _ (by decide +kernel),
   met_of_fits _ (offer up 0x48 [(16, 1, 6), (17, 2, 4096), (24, 6, 0x200000)]) [] _ (by decide +kernel),
   met_of_fits _ (offer up 0x48 [(16, 1, 7), (17, 1, 7), (18, 4, 4)]) [] _ (by decide +kernel)⟩

theorem witness_route_and_link_commands :
    Met ⟨.routeTableSet, codeIs 0x49, checkRouteTableSet⟩ (fun _ c => c.b 16 1 = 0 ∧ c.b 19 2 = 2) ∧
    Met ⟨.linkStatus, codeIs 0x4A, checkLinkStatus⟩ (fun _ _ => True) :=
  ⟨met_of_fits _ (offer up 0x49 [(17, 2, 510), (19, 2, 2)]) [(0, [1, 0, 0, 0, 3, 0, 0, 0])] _ (by decide +kernel),
   met_of_fits _ (offer up 0x4A [(32, 4, 224)]) [] _ (by decide +kernel)⟩

theorem witness_time_and_deed_commands :
    Met ⟨.timeSet, codeIs 0x60, checkTimeSet⟩ (fun _ c => (timeOf c).isSome = true) ∧
    Met ⟨.timeGet, codeIs 0x61, checkTimeGet⟩ (fun _ _ => True) ∧
    Met ⟨.deedClaim, codeIs 0x68, checkDeed checkDeedClaim⟩ (fun _ c => (deedOf? (c.b 16 1)).isSome = true) ∧
    Met ⟨.deedRelease, codeIs 0x69, checkDeed checkDeedRelease⟩ (fun _ c => (deedOf? (c.b 16 1)).isSome = true) ∧
    Met ⟨.deedQuery, codeIs 0x6A, checkDeed checkDeedQuery⟩ (fun _ c => (deedOf? (c.b 16 1)).isSome = true) :=
  ⟨met_of_fits _ (offer up 0x60 [(24, 8, 946684800)]) [] _ (by decide +kernel),
   met_of_fits _ (offer up 0x61 []) [] _ (by decide +kernel),
   met_of_fits _ (offer up 0x68 [(16, 1, 2)]) [] _ (by decide +kernel),
   met_of_fits _ (offer up 0x69 [(16, 1, 2)]) [] _ (by decide +kernel),
   met_of_fits _ (offer up 0x6A [(16, 1, 4)]) [] _ (by decide +kernel)⟩

theorem witness_firmware_and_key_commands :
    Met ⟨.fwStage, codeIs 0x70, checkFwStage⟩ (fun _ _ => True) ∧
    Met ⟨.fwActivate, codeIs 0x71, checkFwActivate⟩ (fun _ _ => True) ∧
    Met ⟨.keyPartSetLoad, fun c => codeIs 0x78 c && c.b 17 1 == 1, checkKeyPartSetLoad⟩ (fun v c =>
      keyOwner v c = some 0 ∧ (slotOf? (c.b 16 1)).isSome = true ∧ c.ktype ≠ 4 ∧ (blobKey v c).isSome = true) ∧
    Met ⟨.keyPartSetLoad, fun c => codeIs 0x78 c && c.b 17 1 == 1, checkKeyPartSetLoad⟩ (fun v c =>
      keyOwner v c = some 0 ∧ (slotOf? (c.b 16 1)).isSome = true ∧ c.ktype = 4) ∧
    Met ⟨fun f r host => .keyPartSetGenerate f r host false, fun c => codeIs 0x78 c && c.b 17 1 == 2, checkKeyPartSetGenerate⟩
      (fun v c => keyOwner v c = some 0 ∧ (slotOf? (c.b 16 1)).isSome = true ∧ c.ktype = 3) ∧
    Met ⟨fun f r host => .keyPartSetGenerate f r host false, fun c => codeIs 0x78 c && c.b 17 1 == 2, checkKeyPartSetGenerate⟩
      (fun v c => keyOwner v c = some 0 ∧ (slotOf? (c.b 16 1)).isSome = true ∧ c.ktype = 1) ∧
    Met ⟨.keyPartSetZeroise, fun c => codeIs 0x78 c && c.b 17 1 == 3, checkKeyPartSetZeroise⟩
      (fun _ c => (slotOf? (c.b 16 1)).isSome = true) :=
  ⟨met_of_fits _ (offer up 0x70 [(24, 4, 4), (32, 1, 1)]) [] _ (by decide +kernel),
   met_of_fits _ (offer (up.modSb (fun b => { b with state := 3, component := 1 })) 0x71 []) [] _ (by decide +kernel),
   met_of_fits _ (offer up 0x78 [(16, 1, 31), (17, 1, 1), (32, 4, 0x58)]) [(0, [1])] _ (by decide +kernel),
   met_of_fits _ (offer up 0x78 [(17, 1, 1), (32, 4, 0x140)]) [(0, [4])] _ (by decide +kernel),
   met_of_fits _ (offer up 0x78 [(17, 1, 2), (32, 4, 0x810)]) [(0, [3])] _ (by decide +kernel),
   met_of_fits _ (offer up 0x78 [(16, 1, 31), (17, 1, 2), (32, 4, 0x58)]) [(0, [1])] _ (by decide +kernel),
   met_of_fits _ (offer up 0x78 [(17, 1, 3)]) [] _ (by decide +kernel)⟩

/-- A map of 1 GiB of stack 1 for the host at entry 2. -/
def mapFields : List (Nat × Nat × Nat) := [(16, 4, 1 + 16), (20, 4, 512), (24, 4, 15 + 16), (32, 2, 2)]

/-- The plats of `up` hold nothing of stack 1, and nothing behind entry 1. -/
theorem up_plat (j : Fin 1024) : vget up.ms.platS j = plat 0 0 ∨ vget up.ms.platS j = plat 15 512 ∨
    vget up.ms.platS j = .reset := by
  by_cases h1 : j = 1
  · subst h1; exact .inr (.inl rfl)
  · by_cases h0 : j = 0
    · subst h0; exact .inl rfl
    · right; right
      simp only [up]
      rw [vget_vset_of_ne _ _ _ _ (Ne.symm h1), vget_vset_of_ne _ _ _ _ (Ne.symm h0)]
      simp [vget, State.reset, MemSys.reset]

theorem witness_plat_map :
    Met ⟨.platMap, codeIs 0x13, checkPlatMap⟩ (fun _ c => (entryOf? (c.b 32 2)).isSome = true) := by
  refine met_of_check _ up 0x13 mapFields [] [] _ (by decide +kernel) ?_
  have e : (cmdOf 0x13 mapFields []).plat = { PlatEnt.reset with
    valid := true, stack := 1, sizeG := 512, part := 15, rd := true } := by decide +kernel
  have hp : platPlace (checked up 0x13 mapFields []) (cmdOf 0x13 mapFields []) 2 (cmdOf 0x13 mapFields []).plat = true := by
    have ha : activePlat (checked up 0x13 mapFields []) (cmdOf 0x13 mapFields []) = up.ms.platA := rfl
    have hs : (checked up 0x13 mapFields []).ms.platS = up.ms.platS := rfl
    unfold platPlace
    rw [ha, hs, e]
    dsimp only
    have h2 : vget up.ms.platS 2 = .reset := by decide +kernel
    have he : up.ms.platA = up.ms.platS := rfl
    rw [he, h2]
    simp only [Bool.and_eq_true, List.all_eq_true]
    refine ⟨rfl, fun j _ => ?_⟩
    rcases up_plat j with h | h | h <;> rw [h] <;> simp [PlatEnt.range, plat, PlatEnt.reset, overlap, stackSpan]
  have hi : entryOf? ((cmdOf 0x13 mapFields []).b 32 2) = some 2 := by decide +kernel
  have hk : ∀ s, platKey s (cmdOf 0x13 mapFields []).plat = none := fun s => by rw [e]; rfl
  simp only [checkPlatMap, hi, hp, hk]
  decide +kernel

/-- A command on one core that passes checks which ask that the core is there and runs. -/
theorem runs_one (s : State) (k : Fin 96) (ha : coreAbsent k = false)
    (h : (ownerOf s k == some 0 && !coreOut s k && (s.core k).stopped) = true) :
    coresRun s 0 [k] = true ∧ coresStopped s [k] = true := by
  simp only [Bool.and_eq_true, beq_iff_eq, Bool.not_eq_true'] at h
  simp [coresRun, coresIn, coresStopped, h, ha]

theorem witness_program_commands :
    Met ⟨.progLoad, codeIs 0x20, checkProgLoad⟩ (fun v c => (c.scope v).isSome = true ∧ (maskCores c 28).length = 1) ∧
    Met ⟨.progStart, codeIs 0x21, checkProgStart⟩ (fun _ c => (maskCores c 16).length = 1) ∧
    Met ⟨.progStop, codeIs 0x22, checkProgStop⟩ (fun _ c => c.b 16 12 = 3) ∧
    Met ⟨.progStatus, codeIs 0x23, checkProgStatus⟩ (fun _ c => c.b 16 12 = 3) := by
  refine ⟨?_, ?_, met_of_fits _ (offer up 0x22 [(16, 12, 3)]) [] _ (by decide +kernel),
    met_of_fits _ (offer up 0x23 [(16, 12, 3)]) [] _ (by decide +kernel)⟩
  · obtain ⟨k, rfl | rfl, ha⟩ := present
    · refine met_of_check _ up 0x20 [(28, 12, 1)] [] [] _ (by decide +kernel) ?_
      have hm : maskCores (cmdOf 0x20 [(28, 12, 1)] []) 28 = [0] := by decide +kernel
      have hs : (cmdOf 0x20 [(28, 12, 1)] []).scope (checked up 0x20 [(28, 12, 1)] []) = some 0 := by decide +kernel
      simp only [checkProgLoad, onPart, hs, hm, runs_one (checked up 0x20 [(28, 12, 1)] []) 0 ha (by decide +kernel)]
      decide +kernel
    · refine met_of_check _ up 0x20 [(28, 12, 2)] [] [] _ (by decide +kernel) ?_
      have hm : maskCores (cmdOf 0x20 [(28, 12, 2)] []) 28 = [1] := by decide +kernel
      have hs : (cmdOf 0x20 [(28, 12, 2)] []).scope (checked up 0x20 [(28, 12, 2)] []) = some 0 := by decide +kernel
      simp only [checkProgLoad, onPart, hs, hm, runs_one (checked up 0x20 [(28, 12, 2)] []) 1 ha (by decide +kernel)]
      decide +kernel
  · obtain ⟨k, rfl | rfl, ha⟩ := present
    · refine met_of_check _ up 0x21 [(16, 12, 1)] [] [] _ (by decide +kernel) ?_
      have hm : maskCores (cmdOf 0x21 [(16, 12, 1)] []) 16 = [0] := by decide +kernel
      have hs : (cmdOf 0x21 [(16, 12, 1)] []).scope (checked up 0x21 [(16, 12, 1)] []) = some 0 := by decide +kernel
      simp only [checkProgStart, onPart, hs, hm, runs_one (checked up 0x21 [(16, 12, 1)] []) 0 ha (by decide +kernel)]
      decide +kernel
    · refine met_of_check _ up 0x21 [(16, 12, 2)] [] [] _ (by decide +kernel) ?_
      have hm : maskCores (cmdOf 0x21 [(16, 12, 2)] []) 16 = [1] := by decide +kernel
      have hs : (cmdOf 0x21 [(16, 12, 2)] []).scope (checked up 0x21 [(16, 12, 2)] []) = some 0 := by decide +kernel
      simp only [checkProgStart, onPart, hs, hm, runs_one (checked up 0x21 [(16, 12, 2)] []) 1 ha (by decide +kernel)]
      decide +kernel

/-- A held pack of the fused tables in slot 1. -/
def packHeld : State := up.modServ (fun v => { v with
  packs := vset v.packs 1 { Pack.reset with state := 1, sfuId := Config.sfuId } })

theorem witness_service_commands :
    Met ⟨.testpackLoad, codeIs 0x50, checkTestpackLoad⟩ (fun _ _ => True) ∧
    Met ⟨.testpackActivate, codeIs 0x51, checkTestpackActivate⟩ (fun _ c => (packOf? (c.b 16 1)).isSome = true) ∧
    Met ⟨.obsLevelSet, codeIs 0x52, checkObsLevelSet⟩ (fun _ c => (coreOf? (c.b 16 1)).isSome = true) ∧
    Met ⟨.coreRetire, codeIs 0x53, checkCoreRetire⟩ (fun _ c => (coreOf? (c.b 16 1)).isSome = true) ∧
    Met ⟨.snapshotTake, codeIs 0x58, checkSnapshotTake⟩ (fun _ _ => True) ∧
    Met ⟨.traceConfig, codeIs 0x59, checkTraceConfig⟩ (fun _ _ => True) ∧
    Met ⟨.counterRead, codeIs 0x5A, checkCounterRead⟩ (fun _ c => c.b 16 1 ≠ 0) := by
  refine ⟨met_of_fits _ (offer up 0x50 [(32, 4, 4)]) [] _ (by decide +kernel), ?_, ?_, ?_,
   met_of_fits _ (offer up 0x58 []) [] _ (by decide +kernel),
   met_of_fits _ (offer up 0x59 [(28, 1, 3), (29, 1, 8)]) [] _ (by decide +kernel),
   met_of_fits _ (offer up 0x5A [(16, 1, 7), (20, 2, 4)]) [] _ (by decide +kernel)⟩
  · refine met_of_check _ packHeld 0x51 [(16, 1, 1)] [] [] _ (by decide +kernel) ?_
    have hb : packOf? ((cmdOf 0x51 [(16, 1, 1)] []).b 16 1) = some 1 := by decide +kernel
    have hs : (vget (checked packHeld 0x51 [(16, 1, 1)] []).serv.packs 1).sfuId = Config.sfuId := rfl
    simp only [checkTestpackActivate, hb, activatePack, hs, ne_eq, not_true_eq_false, decide_false]
    decide +kernel
  · obtain ⟨k, rfl | rfl, ha⟩ := present
    · refine met_of_check _ up 0x52 [(17, 1, 2)] [] [] _ (by decide +kernel) ?_
      have hb : coreOf? ((cmdOf 0x52 [(17, 1, 2)] []).b 16 1) = some 0 := by decide +kernel
      simp only [checkObsLevelSet, hb, ha]
      decide +kernel
    · refine met_of_check _ up 0x52 [(16, 1, 1), (17, 1, 2)] [] [] _ (by decide +kernel) ?_
      have hb : coreOf? ((cmdOf 0x52 [(16, 1, 1), (17, 1, 2)] []).b 16 1) = some 1 := by decide +kernel
      simp only [checkObsLevelSet, hb, ha]
      decide +kernel
  · obtain ⟨k, rfl | rfl, ha⟩ := present
    · refine met_of_check _ up 0x53 [] [] [] _ (by decide +kernel) ?_
      have hb : coreOf? ((cmdOf 0x53 [] []).b 16 1) = some 0 := by decide +kernel
      simp [checkCoreRetire, hb, ha, bad]
    · refine met_of_check _ up 0x53 [(16, 1, 1)] [] [] _ (by decide +kernel) ?_
      have hb : coreOf? ((cmdOf 0x53 [(16, 1, 1)] []).b 16 1) = some 1 := by decide +kernel
      simp [checkCoreRetire, hb, ha, bad]

/-- A table of delayed scaling for partition 0 and an FP32 tensor at descriptor 1 of core `c`. -/
def exporting (c : Fin 96) : State :=
  (up.modPart 0 (fun q => { q with dsBase := some 0x1000 })).write (descAddr c 1) (leBytes 64 fA) false

/-- An entry of a tensor list: role, core, descriptor. -/
def listEntry (role core desc : Nat) : List Byte := leBytes 64 (role * 2 ^ 32 + core * 2 ^ 40 + desc * 2 ^ 48)

/-- An export of one entry. -/
def exportFields : List (Nat × Nat × Nat) := [(24, 2, 1), (36, 8, 2 ^ 32)]

theorem named_one (s : State) (logical : Bool) (c : Cmd) (t : Named) (hn : c.b 24 2 = 1)
    (h : namedOf s 0 logical (bytesAt c.host 0 64) = some t) (hr : t.retired s = false) :
    namedList s 0 logical c = some [t] := by
  simp [namedList, hn, List.range_succ, h, Option.filter, hr]

/-- What lies in a window of the data and the scales of an entry lies in the window of core `k`. -/
def liesIn (t : Named) (k : Fin 96) : Bool :=
  [t.lay.extent, t.lay.scaleExtent].all (fun r => match winSplit r.1 with
    | some (j, _) => decide (j = k) || decide (r.2 = 0)
    | none => true)

/-- Bytes in the window of a core that is there are not retired. -/
theorem not_retired (s : State) (t : Named) (k : Fin 96) (ha : coreAbsent k = false) (hr : (s.core k).retired = false)
    (h : liesIn t k = true) : t.retired s = false := by
  simp only [liesIn, List.all_eq_true] at h
  simp only [Named.retired, Bool.and_eq_false_iff, List.any_eq_false]
  refine .inr fun r hm => ?_
  have := h r hm
  cases hw : winSplit r.1 with
  | none => simp
  | some x => rcases (by simpa [hw] using this : x.1 = k ∨ r.2 = 0) with e | e <;> simp [e, ha, hr]

/-- All bytes of an entry lie in the window of core `k`. -/
def onlyIn (s : State) (t : Named) (k : Fin 96) : Bool :=
  [(t.ranges s 0).1, (t.ranges s 0).2].all (fun r => r.2 == 0 || (!inStack r.1 && match winSplit r.1 with
    | some (j, _) => decide (j = k)
    | none => false))

theorem core_granted (s : State) (t : Named) (k : Fin 96) (perm : Perm) (hw : winFault s 0 k = none)
    (h : onlyIn s t k = true) : namedGrant s 0 perm [t] = true := by
  simp only [onlyIn, List.all_eq_true] at h
  simp only [namedGrant, List.all_eq_true, List.mem_singleton]
  rintro _ rfl r hm
  have := h r hm
  cases hs : winSplit r.1 with
  | none => simp_all
  | some x =>
    rcases (by simpa [hs] using this : r.2 = 0 ∨ inStack r.1 = false ∧ x.1 = k) with e | ⟨e1, e2⟩
    · simp [e]
    · simp [e1, e2, hw]

theorem witness_state_commands :
    Met ⟨.updGroupSet, codeIs 0x30, checkUpdGroupSet⟩ (fun v c => (c.scope v).isSome = true) ∧
    Met ⟨.exportWorking, codeIs 0x31, checkExport false⟩ (fun v c => (c.scope v).isSome = true) ∧
    Met ⟨.exportLogical, codeIs 0x32, checkExport true⟩ (fun v c => (c.scope v).isSome = true) := by
  refine ⟨met_of_fits _ (offer up 0x30 [(22, 2, 256), (36, 4, 2 ^ 21)]) [] _ (by decide +kernel), ?_, ?_⟩
  · obtain ⟨k, rfl | rfl, ha⟩ := present
    · refine met_of_check _ (exporting 0) 0x31 exportFields [(0, listEntry 9 0 0)] (listEntry 9 0 0) _ (by decide +kernel) ?_
      have hs : (cmdOf 0x31 exportFields (listEntry 9 0 0)).scope (checked (exporting 0) 0x31 exportFields [(0, listEntry 9 0 0)]) =
        some 0 := by decide +kernel
      have h := named_one (checked (exporting 0) 0x31 exportFields [(0, listEntry 9 0 0)]) false
        (cmdOf 0x31 exportFields (listEntry 9 0 0)) ⟨listEntry 9 0 0, 0, 0⟩ (by decide +kernel) (by
          have e : coreOf? (natAt (bytesAt (cmdOf 0x31 exportFields (listEntry 9 0 0)).host 0 64) 5 1) = some 0 := by decide +kernel
          simp only [namedOf, e, ha]
          decide +kernel) (by decide +kernel)
      simp only [checkExport, onPart, hs, h]
      decide +kernel
    · refine met_of_check _ (exporting 1) 0x31 exportFields [(0, listEntry 9 1 0)] (listEntry 9 1 0) _ (by decide +kernel) ?_
      have hs : (cmdOf 0x31 exportFields (listEntry 9 1 0)).scope (checked (exporting 1) 0x31 exportFields [(0, listEntry 9 1 0)]) =
        some 0 := by decide +kernel
      have h := named_one (checked (exporting 1) 0x31 exportFields [(0, listEntry 9 1 0)]) false
        (cmdOf 0x31 exportFields (listEntry 9 1 0)) ⟨listEntry 9 1 0, 1, 0⟩ (by decide +kernel) (by
          have e : coreOf? (natAt (bytesAt (cmdOf 0x31 exportFields (listEntry 9 1 0)).host 0 64) 5 1) = some 1 := by decide +kernel
          simp only [namedOf, e, ha]
          decide +kernel) (by decide +kernel)
      simp only [checkExport, onPart, hs, h]
      decide +kernel
  · obtain ⟨k, rfl | rfl, ha⟩ := present
    · refine met_of_check _ (exporting 0) 0x32 exportFields [(0, listEntry 1 0 1)] (listEntry 1 0 1) _ (by decide +kernel) ?_
      have hs : (cmdOf 0x32 exportFields (listEntry 1 0 1)).scope (checked (exporting 0) 0x32 exportFields [(0, listEntry 1 0 1)]) =
        some 0 := by decide +kernel
      have h := named_one (checked (exporting 0) 0x32 exportFields [(0, listEntry 1 0 1)]) true
        (cmdOf 0x32 exportFields (listEntry 1 0 1)) ⟨listEntry 1 0 1, 0, fA⟩ (by decide +kernel) (by
          have e : coreOf? (natAt (bytesAt (cmdOf 0x32 exportFields (listEntry 1 0 1)).host 0 64) 5 1) = some 0 := by decide +kernel
          simp only [namedOf, e, ha]
          decide +kernel) (not_retired _ _ 0 ha (by decide +kernel) (by decide +kernel))
      have hw : winFault (checked (exporting 0) 0x32 exportFields [(0, listEntry 1 0 1)]) 0 0 = none := by
        simp only [winFault, ha]
        decide +kernel
      simp only [checkExport, onPart, hs, h, core_granted _ ⟨listEntry 1 0 1, 0, fA⟩ 0 .rd hw (by decide +kernel)]
      decide +kernel
    · refine met_of_check _ (exporting 1) 0x32 exportFields [(0, listEntry 1 1 1)] (listEntry 1 1 1) _ (by decide +kernel) ?_
      have hs : (cmdOf 0x32 exportFields (listEntry 1 1 1)).scope (checked (exporting 1) 0x32 exportFields [(0, listEntry 1 1 1)]) =
        some 0 := by decide +kernel
      have h := named_one (checked (exporting 1) 0x32 exportFields [(0, listEntry 1 1 1)]) true
        (cmdOf 0x32 exportFields (listEntry 1 1 1)) ⟨listEntry 1 1 1, 1, fA⟩ (by decide +kernel) (by
          have e : coreOf? (natAt (bytesAt (cmdOf 0x32 exportFields (listEntry 1 1 1)).host 0 64) 5 1) = some 1 := by decide +kernel
          simp only [namedOf, e, ha]
          decide +kernel) (not_retired _ _ 1 ha (by decide +kernel) (by decide +kernel))
      have hw : winFault (checked (exporting 1) 0x32 exportFields [(0, listEntry 1 1 1)]) 0 1 = none := by
        simp only [winFault, ha]
        decide +kernel
      simp only [checkExport, onPart, hs, h, core_granted _ ⟨listEntry 1 1 1, 1, fA⟩ 1 .rd hw (by decide +kernel)]
      decide +kernel

/-- The command of a row is offered, and the first check that fails answers `w`. -/
def refuses (k : KciRow) (s : State) (w : Nat × Nat × List Byte) : Bool :=
  match offered s 0 0 [] with
  | some (c, u) => k.mine c && decide (firstFail k.check u c = some w)
  | none => false

theorem witness_failed_checks :
    refuses ⟨.platMap, codeIs 0x13, checkPlatMap⟩ (offer up 0x13 []) (kBADARG, 16, []) = true ∧
    refuses ⟨.progStart, codeIs 0x21, checkProgStart⟩ (offer up 0x21 [(8, 1, 1)]) (kBADARG, 8, []) = true ∧
    refuses ⟨.stepOpen, codeIs 0x28, stepOpenBody⟩ (offer up 0x28 []) (kBUSY, 0, []) = true ∧
    refuses ⟨.powerLimitSet, codeIs 0x40, checkPowerLimitSet⟩ (offer up 0x40 [(16, 2, 351), (19, 1, 1)]) (kBADARG, 16, []) = true ∧
    refuses ⟨.powerLimitSet, codeIs 0x40, checkPowerLimitSet⟩ (offer up 0x40 [(4, 4, 1)]) (kSTALE, 0, []) = true ∧
    refuses ⟨.routeTableSet, codeIs 0x49, checkRouteTableSet⟩ (offer up 0x49 [(17, 2, 512), (19, 2, 1)]) (kBADARG, 17, []) = true ∧
    refuses ⟨.timeSet, codeIs 0x60, checkTimeSet⟩ (offer up 0x60 [(24, 8, 946684799)]) (kBADDATE, 0, []) = true ∧
    refuses ⟨.fwStage, codeIs 0x70, checkFwStage⟩ (offer up 0x70 []) (kBUSY, 0, []) = true := by decide +kernel

/-- The command of a row is offered with the TXN flag for the open transaction and passes its checks. -/
def stages (k : KciRow) (s : State) (host : List (DWord × List Byte)) : Bool :=
  match offered s 0 0 host with
  | some (c, u) => k.mine c && (firstFail k.check u c).isNone && c.txn
  | none => false

theorem witness_staged_command :
    stages ⟨.partAssignParcels, codeIs 0x12, checkPartAssignParcels⟩ (offer (inTxn up) 0x12 [(1, 1, 4), (2, 2, 1), (16, 2, 1)]) [] = true ∧
    stages ⟨.platUnmap, codeIs 0x14, checkPlatUnmap⟩ (offer (inTxn up) 0x14 [(1, 1, 4), (2, 2, 1)]) [] = true ∧
    stages ⟨.stepPolicySet, codeIs 0x2A, checkStepPolicySet⟩ (offer (inTxn up) 0x2A [(1, 1, 4), (2, 2, 1)]) [(0, policyBlock)] = true ∧
    stages ⟨.updGroupSet, codeIs 0x30, checkUpdGroupSet⟩
      (offer (inTxn up) 0x30 [(1, 1, 4), (2, 2, 1), (22, 2, 256), (36, 4, 2 ^ 21)]) [] = true ∧
    stages ⟨.powerLimitSet, codeIs 0x40, checkPowerLimitSet⟩ (offer (inTxn up) 0x40 [(1, 1, 4), (2, 2, 1)]) [] = true ∧
    stages ⟨.pstepPolicySet, codeIs 0x41, checkPstepPolicySet⟩ (offer (inTxn up) 0x41 [(1, 1, 4), (2, 2, 1)]) [] = true ∧
    stages ⟨.lattolSet, codeIs 0x42, checkLattolSet⟩ (offer (inTxn up) 0x42 [(1, 1, 4), (2, 2, 1)]) [] = true ∧
    stages ⟨.routeTableSet, codeIs 0x49, checkRouteTableSet⟩ (offer (inTxn up) 0x49 [(1, 1, 4), (2, 2, 1)]) [] = true := by
  decide +kernel

theorem spell_later (m : Mem) (a n : Nat) (h : ∀ c ∈ m, a < c.1) :
    Mem.spell m a (n + 1) = Mem.blank :: Mem.spell m (a + 1) n := by
  cases m with
  | nil => cases n <;> simp [Mem.spell, List.replicate]
  | cons c t =>
    have := h c (by simp)
    obtain ⟨k, b⟩ := c
    simp only [Mem.spell]
    rw [if_neg (by simp at this; omega)]

theorem cells_from (bs : List Byte) : ∀ a, ∀ c ∈ Mem.cells a bs, a ≤ c.1 ∧ c.1 < a + bs.length := by
  induction bs with
  | nil => intro a c h; simp [Mem.cells] at h
  | cons b bs ih =>
    intro a c h
    have k := ih (a + 1) c
    by_cases hb : b = Mem.blank
    · simp only [Mem.cells, hb, if_true] at h
      have := k h
      simp only [List.length_cons]; omega
    · simp only [Mem.cells, hb, if_false, List.mem_cons] at h
      rcases h with rfl | h
      · simp
      · have := k h
        simp only [List.length_cons]; omega

theorem spell_cells (bs : List Byte) : ∀ a, Mem.spell (Mem.cells a bs) a bs.length = bs := by
  induction bs with
  | nil => intro a; rfl
  | cons b bs ih =>
    intro a
    by_cases hb : b = Mem.blank
    · simp only [Mem.cells, hb, if_true, List.length_cons]
      rw [spell_later _ _ _ (fun c h => (by have := cells_from bs (a + 1) c h; omega)), ih]
    · simp [Mem.cells, hb, Mem.spell, ih]

/-- What is written into an empty memory reads back. -/
theorem readN_written (a : Nat) (bs : List Byte) : (Mem.write [] a bs).readN a bs.length = bs := by
  have e : Mem.write [] a bs = Mem.cells a bs := by simp [Mem.write]
  rw [e, Mem.readN, List.filter_eq_self.mpr, spell_cells]
  intro c h
  simpa using cells_from bs a c h

/-- An export in the working format of one delayed-scaling table, at device address 0x100000. -/
def image : List Byte :=
  leBytes 48 (0x31575453 + 2 ^ 32 + 2 ^ 120 + 2 ^ 160 + 256 * 2 ^ 192) ++
    digestBytes (Config.sha384 (leBytes 128 (9 * 2 ^ 32 + 262144 * 2 ^ 128))) ++ leBytes 32 0 ++
    leBytes 128 (9 * 2 ^ 32 + 262144 * 2 ^ 128)

/-- The image in the device's memory, a delayed-scaling table at 0x1000. -/
def importing : State :=
  (up.modPart 0 (fun q => { q with dsBase := some 0x1000 })).write 0x100000 image false

/-- An import of one entry from the device's memory. -/
def importFields : List (Nat × Nat × Nat) := [(24, 2, 1), (26, 1, 1), (28, 8, 0x100000), (36, 8, 256)]

theorem leBytes_len (n : Nat) : ∀ k, (leBytes n k).length = n := by
  induction n with
  | zero => intro k; rfl
  | succ n ih => intro k; simp [leBytes, ih]

theorem image_digest : bytesAt image 48 48 = digestBytes (Config.sha384 (leBytes 128 (9 * 2 ^ 32 + 262144 * 2 ^ 128))) := by
  have hd : ∀ d, (digestBytes d).length = 48 := fun d => by simp [digestBytes, leBytes_len]
  unfold bytesAt image
  generalize hk : digestBytes (Config.sha384 (leBytes 128 (9 * 2 ^ 32 + 262144 * 2 ^ 128))) = k
  have : k.length = 48 := hk ▸ hd _
  simp [List.drop_append, List.take_append, leBytes_len, this]

/-- The checks of the image alone. -/
theorem image_sound (s : State) : importSound s 0 image = true := by
  have h1 : bytesAt image 128 128 = leBytes 128 (9 * 2 ^ 32 + 262144 * 2 ^ 128) := by decide +kernel
  have h2 : natAt image 24 8 = 256 := by decide +kernel
  have h3 : bit (natAt image 6 2) 0 = false := by decide +kernel
  have h4 : image.length = 256 := by decide +kernel
  have h5 : ((importKind image).isSome && natAt image 4 2 == 1 && natAt image 15 1 == 1) = true := by decide +kernel
  simp only [importSound, h2, h3, h4, h5, image_digest]
  simp [h1]

theorem import_passes (u : State) (c : Cmd) (t : Named) (hs : c.scope u = some 0) (hb : importBytes u c = image)
    (hn : namedList u 0 false c = some [t])
    (h : ((u.part 0).made && (dptr c 16).isNone && decide (c.b 24 2 = 1 ∧ c.b 26 1 = 1) && inStack (c.b 28 8) &&
      (stackFail u .rd 0 (c.b 28 8) (c.b 36 8)).isNone && !u.poisoned (c.b 28 8) (c.b 36 8) && !u.sec.error &&
      importMatch u 0 false image (importTable false image) t && namedGrant u 0 .wr [t] && !anyUnclosed u 0 &&
      decide ((u.part 0).uc.state = 0)) = true) :
    checkImportState u c = none := by
  simp only [Bool.and_eq_true, decide_eq_true_eq, Bool.not_eq_true', Option.isNone_iff_eq_none] at h
  obtain ⟨⟨⟨⟨⟨⟨⟨⟨⟨⟨h1, h2⟩, h3⟩, h4⟩, h5⟩, h6⟩, h7⟩, h8⟩, h9⟩, h10⟩, h11⟩ := h
  have hk : importKind image = some false := by decide +kernel
  have hf : importFormats image = true := by decide +kernel
  simp [checkImportState, onPart, hs, hb, hn, h1, h2, h3, h4, h5, h6, h7, h8, h9, h10, h11, hk, hf, image_sound, fails, bad, only]

/-- The import of core `k`'s table, and the state in which it is checked. -/
def importCmd (k : Nat) : Cmd := cmdOf 0x33 importFields (listEntry 9 k 0)
def importAt (k : Nat) : State := checked importing 0x33 importFields [(0, listEntry 9 k 0)]

theorem import_bytes (k : Nat)
    (hc : (importCmd k).b 26 1 = 1 ∧ (importCmd k).b 28 8 = 0x100000 ∧ (importCmd k).b 36 8 = 256)
    (hp : (importAt k).poisoned 0x100000 256 = false) : importBytes (importAt k) (importCmd k) = image := by
  have hm : (importAt k).mem = Mem.write [] 0x100000 image := rfl
  have hl : image.length = 256 := by decide +kernel
  have h := readN_written 0x100000 image
  rw [hl] at h
  simp [importBytes, hc, State.bytes, hp, hm, h]

theorem witness_import_state : Met ⟨.importState, codeIs 0x33, checkImportState⟩ (fun v c => (c.scope v).isSome = true) := by
  obtain ⟨k, rfl | rfl, ha⟩ := present
  · refine met_of_check _ importing 0x33 importFields [(0, listEntry 9 0 0)] (listEntry 9 0 0) _ (by decide +kernel) ?_
    have e : coreOf? (natAt (bytesAt (importCmd 0).host 0 64) 5 1) = some 0 := by decide +kernel
    have hn : namedOf (importAt 0) 0 false (bytesAt (importCmd 0).host 0 64) = some ⟨listEntry 9 0 0, 0, 0⟩ := by
      simp only [namedOf, e, ha]
      decide +kernel
    have hb : importBytes (importAt 0) (importCmd 0) = image := import_bytes 0 (by decide +kernel) (by decide +kernel)
    have hs : (importCmd 0).scope (importAt 0) = some 0 := by decide +kernel
    have hl : (importCmd 0).b 24 2 = 1 := by decide +kernel
    exact import_passes (importAt 0) (importCmd 0) _ hs hb (named_one _ _ _ _ hl hn (by decide +kernel)) (by decide +kernel)
  · refine met_of_check _ importing 0x33 importFields [(0, listEntry 9 1 0)] (listEntry 9 1 0) _ (by decide +kernel) ?_
    have e : coreOf? (natAt (bytesAt (importCmd 1).host 0 64) 5 1) = some 1 := by decide +kernel
    have hn : namedOf (importAt 1) 0 false (bytesAt (importCmd 1).host 0 64) = some ⟨listEntry 9 1 0, 1, 0⟩ := by
      simp only [namedOf, e, ha]
      decide +kernel
    have hb : importBytes (importAt 1) (importCmd 1) = image := import_bytes 1 (by decide +kernel) (by decide +kernel)
    have hs : (importCmd 1).scope (importAt 1) = some 0 := by decide +kernel
    have hl : (importCmd 1).b 24 2 = 1 := by decide +kernel
    exact import_passes (importAt 1) (importCmd 1) _ hs hb (named_one _ _ _ _ hl hn (by decide +kernel)) (by decide +kernel)

/-! ### Functions, BAR2, transactions -/

/-- PF0's BAR2 at the host's GiB. -/
def barred : State := up.modFn 0 (fun x => { x with bar2 := 0x40000000 })

theorem witness_function_enable_and_reset :
    let s := up.modFn 3 (fun x => { x with ready := true })
    s.rst.ctlUp = true ∧ (s.fn 3).ready = true ∧ vget (s.fn 3).rings 0 = none ∧ txnOf s 3 = none := by decide +kernel

theorem witness_doorbells :
    (∃ q, vget (up.fn 0).rings 0 = some q ∧ (63 : BitVec 12).toNat < 2 ^ q.sqLog2 ∧ (63 : BitVec 12).toNat < 2 ^ q.cqLog2) ∧
    (∀ q, vget (up.fn 0).rings 0 = some q → 2 ^ q.sqLog2 ≤ (64 : BitVec 12).toNat ∧ 2 ^ q.cqLog2 ≤ (64 : BitVec 12).toNat) ∧
    vget (up.fn 1).rings 0 = none := by
  have h : vget (up.fn 0).rings 0 = some (Ring.make 6 6 0 0 4096) := by decide +kernel
  rw [h]
  refine ⟨⟨_, rfl, by decide⟩, fun q e => ?_, by decide +kernel⟩
  cases e
  decide

/-- The part of a window that its partition's function reaches. -/
theorem window_open (s : State) (f : Fin 13) (wr : Bool) (a n : Nat) (h0 : n ≠ 0 ∧ 6 * stackSpan < a + n ∧ inWindows a n = true)
    (hp : ((windowPieces a n).all (fun p => fnActs s f != 15 && (vget s.ms.pmapA (parcelOf p.1)).valid &&
      decide ((vget s.ms.pmapA (parcelOf p.1)).part.toNat = fnActs s f))) = true) : pathFail s f wr a n = none := by
  simp only [List.all_eq_true, Bool.and_eq_true, decide_eq_true_eq, bne_iff_ne] at hp
  have h1 : ¬ (a + n ≤ 6 * stackSpan) := by omega
  simp only [pathFail, h0.1, h1, h0.2.2, if_false, if_true, Option.map_eq_none_iff, List.find?_eq_none]
  intro p hm
  obtain ⟨⟨h2, h3⟩, h4⟩ := hp p hm
  unfold winFault
  simp only [h2, h3, h4, if_false, decide_true, Bool.and_self, Bool.not_true, Bool.false_eq_true]
  split <;> decide

/-- `up` with the BAR2 of partition 0's function at address `a`. -/
def barAt (a : BitVec 48) : State := up.modFn 1 (fun x => { x with bar2 := a })

theorem witness_bar2_accesses :
    barred.rst.ctlUp = true ∧ (0x3FFFFFFC : BitVec 38).toNat + 4 ≤ 2 ^ bar2Log barred 0 ∧
    inStack (bar2Addr barred 0 0x3FFFFFFC) = true ∧ bar2Addr barred 0 0x3FFFFFFC + 4 ≤ 6 * stackSpan ∧
    (let s := barAt 0x10000000000; s.rst.ctlUp = true ∧ (0 : BitVec 38).toNat + 4 ≤ 2 ^ bar2Log s 1 ∧
      inStack (bar2Addr s 1 0) = false ∧ ∀ wr, pathFail s 1 wr (bar2Addr s 1 0) 4 = none) ∧
    (let s := barAt 0xF000000000; s.rst.ctlUp = true ∧ (0 : BitVec 38).toNat + 4 ≤ 2 ^ bar2Log s 1 ∧
      inStack (bar2Addr s 1 0) = false ∧ ∀ wr, pathFail s 1 wr (bar2Addr s 1 0) 4 = some 0xF000000000) :=
  ⟨by decide +kernel, by decide +kernel, by decide +kernel, by decide +kernel,
    ⟨by decide +kernel, by decide +kernel, by decide +kernel, fun _ => window_open _ _ _ _ _ (by decide +kernel) (by decide +kernel)⟩,
    by decide +kernel⟩

/-- PF0's transaction in a phase, with one staged command. -/
def txnAt (phase : Nat) : State := { up.modKci (fun k => { k with
  txns := [⟨1, 0, 0, [cmdOf 0x41 [] []], phase, 1, 2, none, 0, some up.saved⟩] }) with ts := 16000000000 }

theorem witness_transaction_events :
    (∃ t, txnOf (txnAt 0) 0 = some t ∧ t.phase = 0 ∧ 10 * secTicks ≤ (txnAt 0).since t.born) ∧
    (∃ t, txnOf (txnAt 1) 0 = some t ∧ t.phase = 1 ∧ t.c ≤ (txnAt 1).chain ∧ (txnAt 1).clk.relocking = false) ∧
    (∃ t, txnOf (txnAt 2) 0 = some t ∧ t.phase = 2 ∧ (txnAt 2).kci.paused = false ∧ (txnAt 2).kci.cpFault = false ∧
      (∀ c ∈ t.staged, c.opcode ≠ 0x14) ∧ t.staged[0]? = some (cmdOf 0x41 [] [])) ∧
    (∃ t v, txnOf (txnAt 3) 0 = some t ∧ t.phase = 3 ∧ t.r ≤ (txnAt 3).chain ∧ (txnAt 3).clk.relocking = false ∧
      t.saved = some v) := by
  have h : ∀ n, txnOf (txnAt n) 0 = some ⟨1, 0, 0, [cmdOf 0x41 [] []], n, 1, 2, none, 0, some up.saved⟩ := fun _ => rfl
  exact ⟨⟨_, h 0, by decide +kernel⟩, ⟨_, h 1, by decide +kernel⟩,
    ⟨_, h 2, rfl, by decide +kernel, by decide +kernel, by decide +kernel, rfl⟩,
    ⟨_, up.saved, h 3, rfl, by decide +kernel, by decide +kernel, rfl⟩⟩

/-- A started command without FINAL. -/
def waitingCmd (opcode : Nat) : State := goLive up (cmdOf opcode [] [])

theorem witness_waiting_commands_end :
    (waitingCmd 0x18).kci.live.find? (fun c => decide (c.fn = 0 ∧ c.handle = 0 ∧ 0x18 ≤ c.opcode ∧ c.opcode ≤ 0x1A)) =
      some (cmdOf 0x18 [] []) ∧
    (waitingCmd 0x31).kci.live.find? (fun c => decide (c.fn = 0 ∧ c.handle = 0 ∧ (c.opcode = 0x31 ∨ c.opcode = 0x32))) =
      some (cmdOf 0x31 [] []) ∧
    (cmdOf 0x31 [] []).scope (waitingCmd 0x31) = some 0 ∧ gateAtRest (waitingCmd 0x31) 0 = true ∧
    fwRuns (waitingCmd 0x31) = true ∧
    ((up.part 3).underReset = false ∧ ((up.modPart 3 (fun q => { q with underReset := true })).part 3).underReset = true) ∧
    (let c := cmdOf 0x22 [(16, 12, 2)] []; let s := (goLive up c).modCore 1 (fun k => { k with stopped := false });
      liveOf s 0x22 0 = [c] ∧ s.since c.due < 10 * msTicks ∧ 10 * msTicks ≤ { s with ts := 160000000 }.since c.due ∧
      (maskCores c 16).filter (fun k => !(s.core k).stopped) = [1]) := by decide +kernel

/-! ### Cores -/

/-- A running core whose sequencer is at slot 3 of a program that holds `w` there. -/
def seqAt (w : Nat) (f : Core → Core) (c : Fin 96) : State :=
  (up.write (progAddr c 3) (leBytes 32 w) false).modCore c (fun k => f { k with stopped := false, fetching := true, fetchIndex := 3 })

/-- Queue `e` full. -/
def fullQueue (e : Fin 10) (k : Core) : Core := k.modEng e (fun n => { n with queue := List.replicate 32 ⟨0, 0⟩ })

theorem witness_sequencer_dispatches :
    (∃ c, coreAbsent c = false ∧ coreShut (seqAt (ins 7 1 3 1 2 0 0) id c) c = false ∧
      let u := passCore (seqAt (ins 7 1 3 1 2 0 0) id c) c 0
      (u.core c).fetching = true ∧ (u.core c).seqDone = false ∧ (u.core c).fetchIndex.toNat = 3 ∧ u.num (progAddr c 3) 32 = ins 7 1 3 1 2 0 0 ∧
      ins 7 1 3 1 2 0 0 ≠ 0 ∧ engOf? (insEng (ins 7 1 3 1 2 0 0)) = some 7 ∧ ((u.core c).engine 7).queue.length < 32) ∧
    (∃ c, coreAbsent c = false ∧ coreShut (seqAt (ins 7 1 3 1 2 0 0) (fullQueue 7) c) c = false ∧
      let u := passCore (seqAt (ins 7 1 3 1 2 0 0) (fullQueue 7) c) c 0
      (u.core c).fetching = true ∧ (u.core c).seqDone = false ∧ (u.core c).fetchIndex.toNat = 3 ∧ u.num (progAddr c 3) 32 = ins 7 1 3 1 2 0 0 ∧
      32 ≤ ((u.core c).engine 7).queue.length) ∧
    (∃ c, coreAbsent c = false ∧ coreShut (up.modCore c (fun k => { k with seqDone := true })) c = false ∧
      ((passCore (up.modCore c (fun k => { k with seqDone := true })) c 0).core c).seqDone = true) :=
  ⟨on_core (by decide +kernel), on_core (by decide +kernel), on_core (by decide +kernel)⟩

theorem witness_sequencer_operations :
    ∃ c, coreAbsent c = false ∧ coreShut (seqAt (ins 15 1 0 0 0 0 0) id c) c = false ∧
      ∀ op ∈ [ins 15 1 0 0 0 0 0, ins 15 2 0 0 0 0 0, ins 15 2 0 0 0 0 (2 ^ 139), ins 15 3 0 0 0 0 0],
        let u := passCore (seqAt op id c) c 0
        (u.core c).fetching = true ∧ (u.core c).seqDone = false ∧ (u.core c).fetchIndex.toNat = 3 ∧ u.num (progAddr c 3) 32 = op ∧ insEng op = 15 ∧
          waitsMet (u.core c) op = true ∧ (insOp op = 1 ∨ insOp op = 3 ∨ (insOp op = 2 ∧ (loopCount op = 0 ∨ loopCount op ≠ 0))) :=
  on_core (by decide +kernel)

/-- An instruction in flight that reads and writes nothing. -/
def flight : Flight := ⟨⟨0, 0⟩, 0, [], [], [], [], [], false, none, 0, 0, 0⟩

/-- An instruction of MX in flight on core `c`. -/
def inFlight (c : Fin 96) : State := up.modCore c (fun k => { (k.modEng 5 (fun n => { n with flight := [flight] })) with
  stopped := false })

/-- A memory-step change meets a FILL of LD in a stack's range. -/
def stackFlight (c : Fin 96) : State :=
  { up.modCore c (fun k => k.modEng 0 (fun n => { n with flight := [{ flight with writes := [⟨0x1000, 64⟩] }] })) with
    ms := { up.ms with mstepTo := some true } }

theorem witness_instructions_end :
    (∃ c, coreAbsent c = false ∧ coreShut (inFlight c) c = false ∧
      ∃ f rest, ((passCore (inFlight c) c 0).core c |>.engine 5).flight = f :: rest ∧ (∀ x, f.xi = some x → x.done = true) ∧
        f.unsent = [] ∧ heldWrite ((passCore (inFlight c) c 0).core c) 5 f = false ∧
        (passCore (inFlight c) c 0).ms.mstepTo = none) ∧
    (∃ c, coreAbsent c = false ∧ coreShut (stackFlight c) c = false ∧
      ((passCore (stackFlight c) c 0).core c |>.engine 0).flight = [{ flight with writes := [⟨0x1000, 64⟩] }] ∧
      (passCore (stackFlight c) c 0).ms.mstepTo.isSome = true ∧
      { flight with writes := [⟨0x1000, 64⟩] }.onStack = true) ∧
    (∃ c, coreAbsent c = false ∧ coreShut (inFlight c) c = false ∧
      (((passCore (inFlight c) c 0).core c |>.engine 5).flight[0]?).isSome = true) ∧
    (∃ c, coreAbsent c = false ∧ coreShut (up.modCore c (fun k => { k with stopped := false, stopping := true })) c = false ∧
      let u := passCore (up.modCore c (fun k => { k with stopped := false, stopping := true })) c 0
      (u.core c).stopping = true ∧ (u.core c).idle = true ∧ kernelHolds u c = false) := by
  refine ⟨?_, on_core (by decide +kernel), on_core (by decide +kernel), on_core (by decide +kernel)⟩
  obtain ⟨c, ha, hs, h⟩ := on_core (s := inFlight) (P := fun c => ((passCore (inFlight c) c 0).core c |>.engine 5).flight =
    [flight] ∧ heldWrite ((passCore (inFlight c) c 0).core c) 5 flight = false ∧
      (passCore (inFlight c) c 0).ms.mstepTo = none) (by decide +kernel)
  exact ⟨c, ha, hs, _, _, h.1, (fun x e => by cases e), rfl, h.2⟩

/-- `up` with core `c` at Quarantine. -/
def quarantined (c : Fin 96) : State := modTc up c (fun t => { t with level := 2 })

theorem witness_core_ctrl_writes :
    (∃ c, coreAbsent c = false ∧ coreShut up c = false ∧ (let u := passCore up c 0
      (u.core c).stopped = true ∧ (u.core c).loadFault = none ∧ coreOut u c = false)) ∧
    (∃ c, coreAbsent c = false ∧ coreShut (inFlight c) c = false ∧ ((passCore (inFlight c) c 0).core c).stopped = false) ∧
    (∃ c, coreAbsent c = false ∧ coreShut (up.modCore c (fun k => { k with faulted := true })) c = false ∧
      ((passCore (up.modCore c (fun k => { k with faulted := true })) c 0).core c).faulted = true) ∧
    bit (0x00030000 : Word).toNat 0 = false ∧ bit (0x00030000 : Word).toNat 1 = false ∧ bit (0x00030000 : Word).toNat 2 = false ∧
    (∃ c, coreAbsent c = false ∧ coreShut (quarantined c) c = false ∧ coreOut (passCore (quarantined c) c 0) c = true) ∧
    (∃ c, coreAbsent c = false ∧ coreShut (inFlight c) c = false ∧ coreOut (passCore (inFlight c) c 0) c = false) :=
  ⟨on_core (s := fun _ => up) (by decide +kernel), on_core (by decide +kernel), on_core (by decide +kernel), by decide +kernel,
    by decide +kernel, by decide +kernel, on_core (by decide +kernel), on_core (by decide +kernel)⟩

theorem witness_core_registers :
    (∃ c, coreAbsent c = false ∧ coreShut up c = false ∧ coreOut up c = false) ∧
    (let s := up.modCore 5 (fun k => { k with retired := true }); coreAbsent 5 = true ∨ coreOut s 5 = true) :=
  ⟨on_core (s := fun _ => up) (by decide +kernel), .inr (by decide +kernel)⟩

/-- A FILL of stack memory waits while the stacks change their step. -/
def stalled (c : Fin 96) : State := engAt { up with ms := { up.ms with mstepTo := some true } } 0 (ins 0 2 1 0 0 0 0)
  [tens .fp32 0 0x1000 4 2] c

theorem witness_instructions_that_do_not_start :
    (∃ c q, EngRow.Ready ⟨.add, 7, 1, vxReady, workArith 1⟩ c 0 (engAt up 7 (ins 7 1 3 1 0 0 0) [fA, fB, fC] c) q ∧
      startCheck (beginStart (passCore (engAt up 7 (ins 7 1 3 1 0 0 0) [fA, fB, fC] c) c 0) c 7 q) c q.word.toNat = some fDESC) ∧
    (∃ c, coreAbsent c = false ∧ coreShut up c = false ∧ headReady (passCore up c 0) c 7 1 = none) ∧
    (∃ c, coreAbsent c = false ∧ coreShut (stalled c) c = false ∧ ∃ q, headReady (passCore (stalled c) c 0) c 0 2 = some q ∧
      stacksTake (passCore (stalled c) c 0) c 0 q workFill = false) := by
  refine ⟨?_, on_core (s := fun _ => up) (by decide +kernel), ?_⟩
  rotate_left
  · obtain ⟨c, ha, hs, h⟩ := on_core (s := stalled)
      (P := fun c => let q : QEnt := ⟨5, BitVec.ofNat 256 (ins 0 2 1 0 0 0 0)⟩
        headReady (passCore (stalled c) c 0) c 0 2 = some q ∧
          stacksTake (passCore (stalled c) c 0) c 0 q workFill = false) (by decide +kernel)
    exact ⟨c, ha, hs, _, h⟩
  obtain ⟨c, _, hs, h⟩ := on_core (s := engAt up 7 (ins 7 1 3 1 0 0 0) [fA, fB, fC])
    (P := fun c => let s := engAt up 7 (ins 7 1 3 1 0 0 0) [fA, fB, fC] c
      let q : QEnt := ⟨5, BitVec.ofNat 256 (ins 7 1 3 1 0 0 0)⟩
      headReady (passCore s c 0) c 7 1 = some q ∧ vxReady (passCore s c 0) c q.word.toNat = true ∧
        stacksTake (passCore s c 0) c 7 q (workArith 1) = true ∧
        startCheck (beginStart (passCore s c 0) c 7 q) c q.word.toNat = some fDESC) (by decide +kernel)
  exact ⟨c, _, ⟨hs, h.1, h.2.1, h.2.2.1⟩, h.2.2.2⟩

/-! ### Power, clocks, temperature, telemetry -/

/-- `up` with another power controller, clock block, thermal block, management plane, deeds, time. -/
def upPw (f : Power → Power) : State := { up with pw := f up.pw }
def upClk (f : Clk → Clk) : State := { up with clk := f up.clk }
def upTh (f : Therm → Therm) : State := { up with th := f up.th }

/-- MA_E is the primary agent, holds POWER_LIMITS and FW_STAGE, and the board description has been read. -/
def managed : State := { up with
  kci := { up.kci with deeds := #v[⟨2, 7, 0, 0, 0⟩, ⟨1, 7, 0, 0, 0⟩, ⟨1, 7, 0, 0, 0⟩, ⟨2, 7, 0, 0, 0⟩, ⟨2, 7, 0, 0, 0⟩] }
  mg := { up.mg with agents := #v[⟨2, true, 0, some 0, 0, none⟩, ⟨1, true, 0, some 0, 0, none⟩], descValid := true } }

theorem clamp_vlog (x : Int) : 500 ≤ clampInt x 500 690 ∧ clampInt x 500 690 ≤ 690 := by
  unfold clampInt
  split <;> [omega; (split <;> omega)]

theorem witness_limits_and_supply_events :
    writerAgent .agentE = some 0 ∧ (vget managed.kci.deeds 4).holder = agentCode 0 ∧ (vget managed.kci.deeds 4).epoch = 0 ∧
    managed.pw.limS.inRange = true ∧ { managed.pw.limS with plSust := 351 }.inRange = false ∧
    (vget up.kci.deeds 4).holder ≠ agentCode 0 ∧
    (upPw (fun x => { x with limDue := some (x.limS, 0) })).pw.limDue = some (up.pw.limS, 0) ∧ 0 ≤ up.chain ∧
    vget (upPw (fun x => { x with maskDue := vset x.maskDue 7 (some (3, 0)) })).pw.maskDue 7 = some (3, 0) ∧
    ((500 : Nat) : Int) < up.pw.vReq - droopMv up ∧ up.clk.relocking = false ∧ skipping up = false ∧
    avsRail 1 1 = some 2 ∧ up.pw.avsRetried.contains 17 = false ∧
    (upPw (fun x => { x with avsRetried := [17] })).pw.avsRetried.contains 17 = true ∧
    up.pw.move = none ∧ up.th.tripped = false ∧ (669 : Nat) + 10 < stepMv up.pw.pstep.toNat ∧
    clampInt (up.pw.corr + 2) (-20) 20 ≠ up.pw.corr ∧ stepMv up.pw.pstep.toNat + 15 < 696 ∧
    clampInt (up.pw.corr - 1) (-20) 20 ≠ up.pw.corr ∧ stepMv up.pw.pstep.toNat ≤ 695 + 10 ∧ 695 ≤ stepMv up.pw.pstep.toNat + 15 ∧
    (primary? managed).isSome = true ∧ managed.mg.descValid = true := by decide +kernel

theorem witness_power_control_events :
    (∃ c, let s := up.modCore c (fun k => { k with stopped := false, blockCause := 2 });
      runningCore s c = true ∧ coreWaits s c = true ∧ vget s.pw.lender c = false) ∧
    (primary? managed).isSome = true ∧ managed.th.tripped = false ∧ up.pw.fallback = false ∧
    100 * msTicks ≤ { up with ts := 160000000 }.since up.pw.lastDecision ∧
    (upPw (fun x => { x with fallback := true })).pw.fallback = true ∧
    (let s := upPw (fun x => { x with wstate := 2 }); s.pw.wstate ≠ 0 ∧ s.th.tripped = false) ∧
    (upPw (fun x => { x with exiting := true })).pw.exiting = true ∧ (up.pw.wstate.toNat < 3) ∧
    3 ≤ (upPw (fun x => { x with exiting := true, wstate := 3 })).pw.wstate.toNat ∧
    (let s := { upPw (fun x => { x with wstate := 3 }) with
        fab := { up.fab with ports := vmod up.fab.ports 5 (fun p => { p with state := 1 }) } };
      3 ≤ s.pw.wstate.toNat ∧ (portOf s ⟨5, by omega⟩).state = 1 ∧ bit s.pw.twoLane.toNat 5 = false) := by
  refine ⟨?_, by decide +kernel⟩
  obtain ⟨c, ha, _, h⟩ := on_core (s := fun c => up.modCore c (fun k => { k with stopped := false, blockCause := 2 }))
    (P := fun c => let s := up.modCore c (fun k => { k with stopped := false, blockCause := 2 })
      ((s.core c).retired = false ∧ s.pw.wstate = 0 ∧ (s.core c).stopped = false) ∧ coreWaits s c = true ∧
        vget s.pw.lender c = false) (by decide +kernel)
  refine ⟨c, ?_, h.2⟩
  obtain ⟨⟨h1, h2, h3⟩, _⟩ := h
  simp only [runningCore, ha, h1, h2, h3]
  rfl

/-- Every function tolerates any latency. -/
def tolerant : State := (up.modFn 0 (fun x => { x with tolUs := 0xFFFFFFFF })).modFn 1 (fun x => { x with tolUs := 0xFFFFFFFF })

theorem witness_w_state_entry :
    deviceIdle tolerant = true ∧ wAllowed tolerant (tolerant.pw.wstate.toNat + 1) = true ∧ tolerant.pw.wstate.toNat < 4 ∧
    tolerant.pw.move = none ∧ tolerant.ms.mstepTo = none ∧ tolerant.pw.mstepDue = none ∧ tolerant.clk.relocking = false ∧
    tolerant.pw.exiting = false ∧ tolerant.th.tripped = false ∧ tolerant.pw.wstate = 0 := by decide +kernel

theorem witness_clock_and_thermal_events :
    (∀ target, (upPw (fun x => { x with move := some ⟨8, target, 0, 0⟩, vReq := 499 })).pw.vReq <
      vlogRequest (upPw (fun x => { x with move := some ⟨8, target, 0, 0⟩, vReq := 499 })) target.toNat) ∧
    (∀ target, vlogRequest (upPw (fun x => { x with move := some ⟨8, target, 0, 0⟩, vReq := 690 })) target.toNat ≤
      (upPw (fun x => { x with move := some ⟨8, target, 0, 0⟩, vReq := 690 })).pw.vReq) ∧
    (let s := { upPw (fun x => { x with move := some ⟨8, 2, 1, 0⟩ }) with
        clk := { up.clk with armed := 2, armValid := true } };
      s.pw.move = some ⟨8, 2, 1, 0⟩ ∧ s.clk.armValid = true ∧ s.clk.armCount ≤ s.chain ∧ s.clk.relocking = false) ∧
    200 * usTicks ≤ { up with ts := 320000 }.since 0 ∧
    up.clk.relocking = false ∧ up.clk.failed = false ∧ up.th.tripped = false ∧
    (let s := upClk (fun x => { x with mons := vset x.mons 3 ⟨45, 0, false, true⟩ });
      (vget s.clk.mons 3).dutyAlarm = true ∧ (vget s.clk.mons 3).dutyPct.toNat < 46) ∧
    (let s := upClk (fun x => { x with relocking := true }); s.clk.relocking = true ∧ s.clk.failed = false ∧
      s.clk.checked = false ∧ s.clk.tries < 2) ∧
    2 ≤ (upClk (fun x => { x with relocking := true, tries := 2 })).clk.tries ∧
    (let s := upClk (fun x => { x with relocking := true, checked := true }); s.clk.relocking = true ∧ s.clk.checked = true ∧
      s.clk.failed = false ∧ s.th.tripped = false) ∧
    (vget up.th.sens 111).failed = false ∧
    (let hot := fun t w => upTh (fun x => { x with warn := w, sens := vset x.sens 7 ⟨t, false⟩ });
      (8 * ((hot 840 false).th.thWarn.toNat : Int) ≤ tjMax8 (hot 840 false) ∧ (hot 840 false).th.warn = false) ∧
      (tjMax8 (hot 800 true) ≤ 8 * ((hot 800 true).th.thWarn.toNat : Int) - 40 ∧ (hot 800 true).th.warn = true) ∧
      (8 * ((hot 801 true).th.thWarn.toNat : Int) - 40 < tjMax8 (hot 801 true) ∧
        tjMax8 (hot 839 true) < 8 * ((hot 839 true).th.thWarn.toNat : Int))) ∧
    (let s := { managed with pw := { managed.pw with wstate := 3 } };
      (primary? s).isSome = true ∧ 3 ≤ s.pw.wstate.toNat ∧ s.th.kwEn = true ∧ s.th.tripped = false ∧ s.pw.exiting = false) := by
  refine ⟨fun target => ?_, fun target => ?_, by decide +kernel⟩
  · have h := clamp_vlog ((stepMv target.toNat : Int) + Config.railTrim 0 + (upPw (fun x => { x with move := some ⟨8, target, 0, 0⟩, vReq := 499 })).pw.corr)
    exact Int.lt_of_lt_of_le (show (499 : Int) < 500 by decide) h.1
  · exact (clamp_vlog _).2

/-- A core whose field book holds records for a ring of partition 0. -/
def booked (c : Fin 96) : State := up.modCore c (fun k => { k with fb := { k.fb with
  enable := true, state := 1, held := 2, ringSize := 1, ringAddr := 0x10000, owner := 0 } })

theorem witness_telemetry_events :
    (record up 0x0502 15 0x7F []).tel.queue ≠ [] ∧
    (∃ c, coreAbsent c = false ∧ coreShut (up.modCore c (fun k => { k with stopped := false, fetching := true })) c = false ∧
      let s := { up.modCore c (fun k => { k with stopped := false, fetching := true }) with ts := 160000000 };
      (s.core c).running = true ∧ (s.core c).wdogFired = false ∧ waitsOutside s c = false ∧
        s.snap.wdogMs.toNat * msTicks ≤ s.since (s.core c).wdogMark) ∧
    (primaryWrites managed .agentE = true ∧ managed.snap.hold = false ∧ managed.snap.capturing = false ∧
      managed.snap.sampleAt = none) ∧
    (let s := { up with snap := { up.snap with sampleAt := some 0 } };
      s.snap.sampleAt = some 0 ∧ 0 ≤ s.chain ∧ s.clk.relocking = false) ∧
    (let s := { up with snap := { up.snap with capturing := true } };
      s.snap.capturing = true ∧ s.snap.next = 0 ∧ ∀ c ∈ s.kci.live, c.opcode ≠ 0x58) ∧
    (∃ c, coreAbsent c = false ∧ coreShut (booked c) c = false ∧ ((booked c).core c).fb.enable = true ∧
      drainSlots ((booked c).core c).fb ≠ [] ∧
      stackWaits (booked c) ((booked c).core c).fb.ringAddr.toNat (((booked c).core c).fb.ringSize.toNat * 65536) = false ∧ ((booked c).core c).fb.ringSize ≠ 0 ∧ (booked c).pw.wstate.toNat < 2 ∧
      platAll (booked c) .wr ((booked c).core c).fb.owner.toNat ((booked c).core c).fb.ringAddr.toNat
        (((booked c).core c).fb.ringSize.toNat * 65536) = true ∧ ((booked c).core c).fb.policy = 0) :=
  ⟨by decide +kernel, on_core (s := fun c => up.modCore c (fun k => { k with stopped := false, fetching := true })) (by decide +kernel),
    by decide +kernel, by decide +kernel, by decide +kernel, on_core (by decide +kernel)⟩

/-! ### Stacks, maps, registers -/

/-- `up` with another stack block. -/
def upRst (s : State) (f : Rst → Rst) : State := { s with rst := f s.rst }
def upMs (f : MemSys → MemSys) : State := { up with ms := f up.ms }
def upStk (f : Stack → Stack) : State := up.modStk 2 f

theorem witness_memory_system_events :
    (up.ms.mstepTo = none ∧ up.ms.waiting = [] ∧ (∀ k, (up.stk k).repairing = none) ∧
      (stackOf? (0x40000000 : BitVec 48).toNat).isSome = true) ∧
    (let s := upRst up (fun r => { r with dpUp := false }); s.rst.por = false ∧ s.rst.sys = false ∧ s.rst.dpUp = false ∧
      s.th.tripped = false ∧ s.rst.pwrLoss = false ∧ s.rst.pwrClear = none ∧ s.clk.gated = false) ∧
    (let s := upMs (fun m => { m with mstepTo := some true, stk := vmod m.stk 2 (fun k => { k with sparing := true }) });
      (s.stk 2).sparing = true ∧ s.ms.mstepTo.isSome = true) ∧
    sourceFail up (.control 0) true (0x40000000 : BitVec 48).toNat 32 = none ∧
    (sourceFail up (.control 0) true (0x3FFFFFF0 : BitVec 48).toNat 32).isSome = true ∧
    (sourceFail up (.control 0) true (0 : BitVec 48).toNat 32).isSome = true ∧
    (sramReader up (.control 0) (0x40000000 : BitVec 48).toNat 64 = none ∧
      sourceFail up (.control 0) false (0x40000000 : BitVec 48).toNat 64 = none) ∧
    (sramReader up (.control 0) (0 : BitVec 48).toNat 64 = none ∧
      (sourceFail up (.control 0) false (0 : BitVec 48).toNat 64).isSome = true) ∧
    ((upStk (fun k => { k with scrubEn := true })).stk 2).scrubEn = true ∧
    (upStk (fun k => { k with scrubEn := true })).pw.wstate.toNat < 3 ∧
    ((upStk (fun k => { k with repairing := some ⟨3, 9⟩ })).stk 2).repairing = some ⟨3, 9⟩ ∧
    ((upStk (fun k => { k with sparing := true })).stk 2).sparing = true ∧
    ((upStk id).stk 2).throttle.toNat < throttleFor (effTh1 up) 127 ∧
    (let s := { up with pw := { up.pw with mstepDue := some (true, 0) } };
      s.pw.mstepDue = some (true, 0) ∧ 0 ≤ s.chain ∧ s.clk.relocking = false) ∧
    (upMs (fun m => { m with mstepTo := some true })).ms.mstepTo = some true ∧
    (policyInForce up).2.2 = 2 ∧ up.pw.mstepDue = none ∧ up.pw.lastMstep = 0 ∧ memStep up = false ∧
    memStep ((List.finRange 6).foldl (fun s n => s.modStk n (fun k => { k with mstep := true })) up) = true := by
  decide +kernel

/-- The sram reader of a control-path read. -/
theorem witness_sram_read : ∃ c : Fin 96, coreAbsent c = false ∧
    sramReader up (.engine c) (winBase + c.val * winSpan + 64) 64 = some c := by
  have h0 : winSplit (winBase + (0 : Fin 96).val * winSpan + 64) = some (0, 64) := by decide +kernel
  have h1 : winSplit (winBase + (1 : Fin 96).val * winSpan + 64) = some (1, 64) := by decide +kernel
  obtain ⟨c, rfl | rfl, ha⟩ := present
  · exact ⟨0, ha, by simp only [sramReader, winFault, ha, h0]; decide +kernel⟩
  · exact ⟨1, ha, by simp only [sramReader, winFault, ha, h1]; decide +kernel⟩

def waitingMap (opcode : Nat) : State :=
  let s := goLive up (cmdOf opcode [] [])
  { s with ms := { s.ms with platDue := some 0, pmapDue := some 0 }, fab := { s.fab with routeDue := some 0 } }

theorem witness_maps_come_into_force :
    (waitingMap 0x13).ms.platDue = some 0 ∧ 0 ≤ (waitingMap 0x13).chain ∧ (waitingMap 0x13).clk.relocking = false ∧
    (∀ d ∈ (waitingMap 0x13).kci.live, d.opcode ≠ 0x14) ∧
    (waitingMap 0x14).kci.live = [cmdOf 0x14 [] []] ∧ (cmdOf 0x14 [] []).opcode = 0x14 ∧ (cmdOf 0x14 [] []).aux = 0 ∧
    behindRequest (waitingMap 0x14) (vget up.ms.platA 0).range.1 (vget up.ms.platA 0).range.2 = false ∧
    behindRequest { waitingMap 0x14 with ms := { (waitingMap 0x14).ms with waiting := [
      { src := .control 0, a := 64, write := none, n := 32, errs := [] }] } } 0 64 = false ∧
    behindRequest { waitingMap 0x14 with ms := { (waitingMap 0x14).ms with waiting := [
      { src := .control 0, a := 64, write := none, n := 32, errs := [] }] } } 0 65 = true ∧
    (cmdOf 0x14 [] []).b 32 2 = (0 : Fin 1024).val ∧ (waitingMap 0x10).ms.pmapDue = some 0 ∧
    (waitingMap 0x49).fab.routeDue = some 0 ∧ (upClk (fun x => { x with relocking := true })).clk.relocking = true := by
  decide +kernel

theorem witness_register_writes :
    up.rst.ctlUp = true ∧ State.reset.rst.ctlUp = false ∧
    (∃ c, coreAbsent c = false ∧ coreShut up c = false ∧ coreShut (passCore up c 0) c = false ∧ coreOut up c = false ∧
      coreOut (passCore up c 0) c = false) ∧
    coreShut State.reset 0 = true ∧ (30 ≤ (38 : Word).toNat ∧ (38 : Word).toNat ≤ 38) ∧
    ((29 : Word).toNat < 30 ∨ 38 < (29 : Word).toNat) ∧ ((39 : Word).toNat < 30 ∨ 38 < (39 : Word).toNat) ∧
    coreOut (quarantined 5) 5 = true := by
  refine ⟨by decide +kernel, by decide +kernel, ?_, by simp [coreShut, State.reset, Rst.reset], by decide, by decide, by decide,
    by decide +kernel⟩
  obtain ⟨c, ha, hs, h⟩ := on_core (s := fun _ => up) (P := fun c => clocked (passCore up c 0) c = true ∧
    coreOut up c = false ∧ coreOut (passCore up c 0) c = false) (by decide +kernel)
  refine ⟨c, ha, hs, ?_, h.2⟩
  have h := h.1
  simp only [clocked, Bool.and_eq_true, Bool.not_eq_true'] at h
  simp [coreShut, ha, h]

/-! ### The fabric -/

def upFab (f : Fabric → Fabric) : State := { up with fab := f up.fab }
/-- A torus port or an uplink of `up` changed. -/
def upPort (n : Fin 8) (f : Port → Port) : State := upFab (fun x => { x with ports := vmod x.ports n f })

theorem witness_port_events :
    (portOf up 2).enable = true ∧ (6 ≤ (7 : Fin 8).val ∧ (portOf up 7).enable = true) ∧
    ((5 : Fin 8).val < 6 ∧ up.fab.idValid = true ∧ 2 ≤ up.fab.len (5 / 2)) ∧
    (up.fab.len (5 / 2) < 2 ∨ (some 0xFFFF : Option (BitVec 16)) ≠ some (neighbour up.fab 5)) ∧
    (let p := portOf (upPort 2 (fun p => { p with trained := true, state := 1, rxCount := 63 })) 2;
      p.trained = true ∧ p.retraining = false ∧ (63 : BitVec 6) = p.rxCount ∧ p.state = 1 ∧ (0 : BitVec 6) ≠ p.rxCount ∧
      (p.discarding = false ∨ (63 : BitVec 6) = p.rxCount) ∧ { p with discarding := true }.discarding = true ∧ p.lanes = 0 ∧
      (lanePair (~~~ (p.laneDown ||| BitVec.ofNat 4 (2 ^ (3 : Fin 4).val)))).isSome = true) ∧
    ((0 : BitVec 8) = 0 ∧ 5 < (6 : BitVec 8).toNat ∧ 1 ≤ (1 : BitVec 8).toNat ∧ (4 : BitVec 8).toNat ≤ 4) ∧
    (portOf (upPort 2 (fun p => { p with retraining := true })) 2).retraining = true ∧
    (let p := portOf (upPort 2 (fun p => { p with trained := true, laneDown := 1 })) 2;
      p.trained = true ∧ p.lanes = 0 ∧ lanePair (~~~ (p.laneDown ||| BitVec.ofNat 4 (2 ^ (2 : Fin 4).val))) = none ∧
      p.laneDown ≠ 0) ∧
    (∀ l ∈ ([1, 2] : List (BitVec 2)), let p := portOf (upPort 2 (fun p => { p with trained := true, lanes := l })) 2;
      p.trained = true ∧ p.lanes = l ∧ (1 : Fin 4).val < 2 ∧ 2 ≤ (2 : Fin 4).val) ∧ (portOf up 2).later = [] ∧
    (∀ h : Fin 4, ∀ n : Fin 2, (portOf (upPort 2 (fun p =>
        { p with hs := [⟨BitVec.ofNat 8 (h.val + 1), 5, 3, false, n.val⟩] })) 2).hs =
      ⟨BitVec.ofNat 8 (h.val + 1), 5, 3, false, n.val⟩ :: []) ∧
    (let q := portOf (upPort 2 (fun p => { p with hs := [⟨1, 5, 3, true, 2⟩] })) 2;
      q.hs = [⟨1, 5, 3, true, 2⟩] ∧
      (portOf (fillIdle 2 2 (upPort 2 (fun p => { p with trained := true, hs := [⟨1, 5, 3, true, 2⟩] }))) 2).hs =
        [⟨1, 5, 3, true, 0⟩]) ∧
    (∀ n : Fin 3, (portOf (upPort 2 (fun p => { p with rxLeft := n.val })) 2).rxLeft = n.val) ∧
    (natAt [0x03] 0 1 % 4 = 3 ∧ natAt [0x00] 0 1 % 4 = 0 ∧ natAt (leBytes 64 2) 0 1 % 4 = 2 ∧ dataFlits (leBytes 64 2) = 0 ∧
      natAt (leBytes 64 (2 + 64 * 2 ^ 144)) 0 1 % 4 = 2 ∧ dataFlits (leBytes 64 (2 + 64 * 2 ^ 144)) = 1) ∧
    (portOf (upPort 6 (fun p => { p with state := 1 })) ⟨(0 : Fin 2).val + 6, by omega⟩).state = 1 := by decide +kernel

/-- A message with its end-to-end check. -/
def signed (m : Msg) : Msg := { m with crc := m.e2e }
/-- A message of JOB 7 from core 3 of device 1, 64 bytes for address 0. -/
def message (kind vc : Nat) (dst : BitVec 16) : Msg := { blankMsg with
  kind := BitVec.ofNat 8 kind, vc := BitVec.ofNat 2 vc, dstDev := dst, srcDev := 1, job := 7, srcCore := 3
  data := List.replicate 64 1 }

def waits (f : Fabric → Fabric) (m : Msg) : State :=
  upFab (fun x => { f x with waiting := [Waiting.of (f x) 0 0 m] })
def linkUp (n : Fin 8) (x : Fabric) : Fabric := { x with ports := vmod x.ports n (fun p =>
  { p with state := 1, trained := true, drrTurn := 2, drrDeficit := Vector.replicate 3 64 }) }

/-- Every torus link is up, without credits. -/
def spent (x : Fabric) : Fabric :=
  { x with ports := x.ports.map (fun p => { p with state := 1, trained := true, credits := Vector.replicate _ 0 }) }

/-- An uplink frame's payload with one message. -/
def frame (m : Msg) : List Byte := [1, 0] ++ leBytes 2 1 ++ leBytes 2 5 ++ leBytes 2 0 ++ msgWire m

/-- A tagged frame of EtherType 0x88B5 to uplink 0 of device 0 under a PREFIX of 0. -/
def etherFrame (payload : List Byte) : List Byte :=
  let bs := List.replicate 12 0 ++ [0x81, 0x00, 0x60, 0x00, 0x88, 0xB5] ++ payload
  bs ++ leBytes 4 (crc32 bs)

/-- Key slot 0 encrypts the uplink frames of partition 0. -/
def crypted (s : State) : State :=
  { s with sec := { s.sec with slots := vset s.sec.slots 0 ⟨true, 2, 0, 7, List.replicate 32 1⟩ } }

theorem witness_messages_that_wait :
    (∃ w, (waits (linkUp 1) (message 1 0 1)).fab.waiting[0]? = some w ∧ w.port ≠ 8 ∧
      kindOk w.msg = true ∧ ∃ n cls esc dl, routeOf (waits (linkUp 1) (message 1 0 1)) w = .torus n cls esc dl ∧
        (arbitrate (waits (linkUp 1) (message 1 0 1)) n w).isSome = true) ∧
    (let s := upFab (fun x => { linkUp 0 x with
        waiting := [Waiting.of (linkUp 0 x) 0 0 (message 1 0 1), Waiting.of (linkUp 0 x) 0 0 (message 0x20 3 1)] });
      ∃ w, s.fab.waiting[0]? = some w ∧ w.msg.vc ≠ 3 ∧ (∃ v ∈ s.fab.waiting, v.msg.vc = 3 ∧ (routeOf s v).out = some 0) ∧
        (routeOf s w).out = some 0 ∧ arbitrate s 0 w = none) ∧
    (∃ w, (waits id (message 9 0 1)).fab.waiting[0]? = some w ∧ kindOk w.msg = false) ∧
    (let m := { message 3 0 0 with mcast := true, srcDev := 0 };
      ∃ w, (upFab (fun x => { x with waiting := [Waiting.of x 8 0 m] })).fab.waiting[0]? = some w ∧ kindOk w.msg = true ∧
        w.port = 8 ∧ w.msg.mcast = true ∧ w.msg.escape = false ∧ w.msg.dstDev = w.msg.srcDev ∧
        { m with srcDev := 1 }.dstDev ≠ { m with srcDev := 1 }.srcDev) ∧
    (let f := fun x => { linkUp 6 x with tractA := vset x.tractA 1 ⟨true, 0, false, 512, true⟩ };
      ∃ w, (waits f (message 1 0 513)).fab.waiting[0]? = some w ∧ w.port ≠ 8 ∧
        ∃ u dev n, routeOf (waits f (message 1 0 513)) w = .uplink u dev n) ∧
    (∃ w, (waits id (message 1 0 0)).fab.waiting[0]? = some w ∧ w.port ≠ 8 ∧ routeOf (waits id (message 1 0 0)) w = .here) ∧
    (∃ w, (waits id (message 1 0 7)).fab.waiting[0]? = some w ∧ w.port ≠ 8 ∧
      routeOf (waits id (message 1 0 7)) w = .noDevice ∧ w.msg.vc ≠ 1) ∧
    (∃ w, (waits id (message 1 0 1)).fab.waiting[0]? = some w ∧ w.port ≠ 8 ∧
      routeOf (waits id (message 1 0 1)) w = .blocked true ∧ w.blocked = none) ∧
    (∃ w, (waits spent (message 1 0 1)).fab.waiting[0]? = some w ∧ w.port ≠ 8 ∧
      routeOf (waits spent (message 1 0 1)) w = .wait true) ∧ up.fab.idValid = true :=
  ⟨⟨_, rfl, by decide +kernel, by decide +kernel, 1, 0, false, false, by decide +kernel⟩,
    ⟨_, rfl, by decide +kernel, ⟨_, .tail _ (.head _), by decide +kernel⟩, by decide +kernel⟩, ⟨_, rfl, by decide +kernel⟩,
    ⟨_, rfl, by decide +kernel⟩, ⟨_, rfl, by decide +kernel, 6, 512, 1, by decide +kernel⟩, ⟨_, rfl, by decide +kernel⟩, ⟨_, rfl, by decide +kernel⟩,
    ⟨_, rfl, by decide +kernel⟩, ⟨_, rfl, by decide +kernel⟩, by decide +kernel⟩

theorem witness_router_events :
    (let s := upFab (fun x => { x with waiting := [{ Waiting.of x 0 0 (message 1 0 1) with blocked := some 5 }] });
      ∃ w, s.fab.waiting[0]? = some w ∧ w.blocked = some 5 ∧ routeOf s w = .blocked true ∧ w.msg.vc ≠ 1 ∧
        { s with ts := 5 }.since 5 < s.fab.holdUs * usTicks ∧ s.fab.holdUs * usTicks ≤ { s with ts := 2 ^ 40 }.since 5) ∧
    (let s := upFab (fun x => { x with rtx := [⟨message 1 0 1, 1, 0⟩, ⟨message 1 0 1, x.resendLimit, 0⟩] });
      ∃ r q, s.fab.rtx[0]? = some r ∧ r.sends < s.fab.resendLimit ∧ s.fab.rtx[1]? = some q ∧ s.fab.resendLimit ≤ q.sends ∧
        s.since r.since < s.fab.resendUs * usTicks ∧ s.fab.resendUs * usTicks ≤ { s with ts := 2 ^ 40 }.since r.since) ∧
    (let s := upFab (linkUp 6); openEther s.fab 0 [] = none ∧
      openEther s.fab 0 (etherFrame (frame (signed (message 1 0 0)))) = some (frame (signed (message 1 0 0)))) ∧
    (let pay := frame (signed (message 1 0 0)); let s := upFab (linkUp 6);
      (portOf s ⟨(0 : Fin 2).val + 6, by omega⟩).state = 1 ∧ s.fab.idValid = true ∧ natAt pay 0 1 = 1 ∧
      natAt pay 2 2 ≠ 0 ∧ natAt pay 2 2 ≤ 8 ∧ natAt pay 6 2 = s.fab.devId.toNat ∧ bit (natAt pay 1 1) 0 = false ∧
      oneVc (msgsOfBytes (natAt pay 2 2) (pay.drop 8)) = true ∧
      oneVc [message 1 0 0, message 1 2 0] = false ∧
      (∀ m ∈ msgsOfBytes (natAt pay 2 2) (pay.drop 8), m.vc ≠ 1 → uplinkSlot s m.job = none) ∧
      (∃ m ∈ msgsOfBytes (natAt pay 2 2) (pay.drop 8), m.vc ≠ 1 ∧ (uplinkSlot (crypted s) m.job).isSome = true)) :=
  ⟨⟨_, rfl, by decide +kernel⟩, ⟨_, _, rfl, by decide +kernel, rfl, by decide +kernel⟩, by decide +kernel, by decide +kernel⟩

def dataKinds : List ((Msg → Instr) × BitVec 8) :=
  [(.putMessage, 0x01), (.redPutMessage, 0x02), (.dispatchMessage, 0x04), (.combineMessage, 0x05)]

/-- A core that is there lets partition 0's messages into its data SRAM. -/
theorem up_land (c : Fin 96) (a o n : Nat) (h : coreAbsent c = false) (hc : coreOut up c = false) (hs : inStack a = false)
    (hw : winSplit a = some (c, o)) (ho : o < 0x400000 ∧ o + n ≤ dataTop) :
    winFault up 0 c = none ∧ landCheckAt up 0 a n false = none := by
  have hp : vget up.ms.pmapA (parcelOf c) = ⟨0, true⟩ := by simp [up, vget]
  have hf : winFault up 0 c = none := by simp [winFault, h, hp, hc]
  exact ⟨hf, by simp [landCheckAt, hs, hw, hf, ho.1, ho.2]⟩

/-- A token for a core that is there. -/
def token (c : Fin 96) : Msg := signed { message 4 0 0 with dstCore := BitVec.ofNat 7 c.val }

theorem token_lands (s : State) (m : Msg) (c : Fin 96) (x y z : Nat × Nat) (he : coreOf? m.dstCore.toNat = some c)
    (hf : winFault s (0 : Fin 12).val c = none) (hr : landRanges c m = [x, y, z]) (hk : m.kind = 4) (hp : m.space = 0)
    (hx : landCheckAt s 0 x.1 x.2 false = none) (hy : landCheckAt s 0 y.1 y.2 false = none)
    (hz : landCheckAt s 0 z.1 z.2 false = none) : landCheck s 0 m = none := by
  unfold landCheck
  rw [he]
  simp only [hr, hk, hp, hf, List.foldr, show ((4 : BitVec 8) == 2) = false from rfl, hx, hy, hz]
  simp

theorem token_is_let_in (c : Fin 96) (h : coreAbsent c = false) (hc : coreOut up c = false)
    (hs : inStack (dataAddr c 0) = false) (hw : winSplit (dataAddr c 0) = some (c, 0))
    (hr : landRanges c (token c) = [(dataAddr c 0, 32), (dataAddr c 0, 1), (dataAddr c 0, 16)])
    (he : coreOf? (token c).dstCore.toNat = some c) : landCheck up 0 (token c) = none := by
  have l := fun n hn => up_land c (dataAddr c 0) 0 n h hc hs hw hn
  exact token_lands up _ c _ _ _ he (l 32 (by decide)).1 hr rfl rfl (l 32 (by decide)).2 (l 1 (by decide)).2
    (l 16 (by decide)).2

theorem witness_token : ∃ c : Fin 96, landCheck up 0 (token c) = none ∧ (token c).kind = 4 ∧ (token c).crc = (token c).e2e ∧
    partOfJob up (token c).job = some 0 ∧ (up.part 0).xc.attempt (token c).parity = (token c).attempt := by
  obtain ⟨c, rfl | rfl, h⟩ := present
  · exact ⟨0, token_is_let_in 0 h (by decide +kernel) (by decide +kernel) (by decide +kernel) (by decide +kernel)
      (by decide +kernel), by decide +kernel⟩
  · exact ⟨1, token_is_let_in 1 h (by decide +kernel) (by decide +kernel) (by decide +kernel) (by decide +kernel)
      (by decide +kernel), by decide +kernel⟩

/-- What an arriving data message meets: a bad check, no JOB, a reset, another ATTEMPT, none of them. -/
theorem witness_messages_arrive :
    (∀ k ∈ ([1, 2, 4, 5] : List Nat), ∀ ordered : Bool,
      let m := signed { message k 0 0 with ordered := ordered };
      m.kind = BitVec.ofNat 8 k ∧ (m.vc = 0 ∨ m.vc = 2) ∧ up.fab.idValid = true ∧
      { m with crc := m.crc + 1 }.crc ≠ { m with crc := m.crc + 1 }.e2e ∧ m.crc = m.e2e ∧
      partOfJob State.reset m.job = none ∧ partOfJob up m.job = some 0 ∧
      ((up.modPart 0 (fun q => { q with underReset := true })).part 0).underReset = true ∧
      (up.part 0).underReset = false ∧ m.data.length ≤ 1024 ∧ up.ms.mstepTo = none ∧
      (upMs (fun x => { x with mstepTo := some true })).ms.mstepTo.isSome = true ∧
      (let n := signed { m with attempt := 1 }; (up.part 0).xc.attempt n.parity ≠ n.attempt) ∧
      (up.part 0).xc.attempt m.parity = m.attempt ∧ (k ≠ 4 → landCheck up 0 m = none) ∧ m.tracked = false ∧ m.ordered = ordered ∧
      m.mcast = false) ∧
    (let m := { message 3 0 0 with mcast := true };
      m.kind = 3 ∧ m.mcast = true ∧
      (portOf (upFab (linkUp 2)) ⟨(2 : Fin 6).val, by omega⟩).state = 1) ∧
    (let m := { message 0x10 1 0 with answers := [⟨3, 0, 9⟩] };
      m.kind = 0x10 ∧ m.vc = 1 ∧ ∃ a, m.answers = [a] ∧ a.reason = 0) ∧
    (let m := { message 0x11 1 0 with answers := [⟨3, 5, 9⟩] };
      m.kind = 0x11 ∧ m.vc = 1 ∧ ∃ a, m.answers = [a] ∧ a.reason ≠ 0 ∧ finalReason a.reason.toNat = false) :=
  ⟨by decide +kernel, by decide +kernel, ⟨by decide +kernel, by decide +kernel, _, rfl, by decide +kernel⟩,
    ⟨by decide +kernel, by decide +kernel, _, rfl, by decide +kernel⟩⟩

/-- Barrier context 4 of JOB 7. -/
def barrier (f : Barrier → Barrier) : State :=
  upFab (fun x => { x with bars := vset x.bars 4 (f { Barrier.reset with used := true, job := 7, gen := 3 }) })

/-- Core 5 waits for group 9. -/
def waitingXi (t : Tally) : State := up.modCore 5 (fun k => { (k.modEng 4 (fun n => { n with
  flight := [{ flight with xi := some ⟨1, 9, 64, false⟩ }] })) with tallies := [(9, t)] })

theorem witness_barrier_and_group_events :
    (∀ kind ∈ ([0x20, 0x21] : List Nat), let m := signed { message kind 3 0 with opinfo := 3, data := [] };
      m.vc = 3 ∧ m.kind = BitVec.ofNat 8 kind ∧ m.crc = m.e2e ∧ m.tracked = false ∧ barOf (barrier id) m.job = some 4 ∧
      (vget (barrier id).fab.bars 4).failed = 0 ∧ BitVec.ofNat 16 (m.op 0 16) = (vget (barrier id).fab.bars 4).gen ∧
      BitVec.ofNat 16 (m.op 0 16) ≠ (vget (barrier (fun b => { b with gen := 4 })).fab.bars 4).gen) ∧
    (vget (barrier id).fab.bars 4).used = true ∧ (partOfJob (barrier id) (vget (barrier id).fab.bars 4).job).isSome = true ∧
    (let b := vget (barrier (fun b => { b with arrived := true })).fab.bars 4;
      b.used = true ∧ b.arrived = true ∧ b.failed = 0 ∧ (barrier id).since b.since < (barrier id).fab.barUs * usTicks ∧
      (barrier id).fab.barUs * usTicks ≤ { barrier id with ts := 2 ^ 40 }.since b.since) ∧
    (up.ms.mstepTo = none ∧ xiOf ((passCore up 5 0).core 5) (9 : BitVec 12).toNat = none ∧
      (passCore (upMs (fun x => { x with mstepTo := some true })) 5 0).ms.mstepTo.isSome = true) ∧
    (∀ t ∈ ([⟨1, false, false, false, 0, 64, 0, 0, 64, 0, some 0⟩, ⟨1, false, false, false, 0, 32, 0, 0, 32, 0, some 0⟩] :
        List Tally),
      let u := passCore (waitingXi t) 5 0
      xiOf (u.core 5) (9 : BitVec 12).toNat = some (0, ⟨1, 9, 64, false⟩) ∧ (xiFlight u 5 0).isSome = true ∧
      groupDone ((u.core 5).tally 9) ⟨1, 9, 64, false⟩ = decide (t.count = 64) ∧ ((u.core 5).tally 9).since = some 0 ∧
      stackFree u [] = true ∧ stackFree { u with ms := { u.ms with mstepTo := some true } } [⟨0x1000, 64⟩] = false ∧
      u.fab.held = [] ∧ u.ms.mstepTo = none ∧ u.since 0 < u.fab.gapUs * usTicks ∧
      u.fab.gapUs * usTicks ≤ (passCore { waitingXi t with ts := 2 ^ 40 } 5 0).since 0) ∧
    (up.part 3).xc.attempt0 = 0 ∧ (up.part 3).xc.attempt1 = 0 := by decide +kernel

/-! ### Closure, fingerprints, in-service tests -/

/-- Core 5 of partition 0 has sent the signal of a role for step 4, whose slot `f` makes. -/
def signal (role : Nat) (f : Slot → Slot) : State := (withSlot up (fun x => f { x with stepId := 4, state := stOPEN })).modCore 5
  (fun k => { k with sigs := [(role, 4)] })

/-- `up` with another closure context of partition 0. -/
def upCl (s : State) (f : Closure → Closure) : State := modCl s 0 f

/-- A suspect check of core 5 with buddy 9. -/
def suspected : State := withSlot up (fun x => { x with state := stREDUCED, suspects := [⟨5, some 9, 1⟩, ⟨6, none, 0⟩] })

def allCores : List Nat := List.range 96

theorem every_core (d : Fin 96) : allCores.contains d.val = true := by
  simp [allCores, d.isLt]

/-- Firmware runs on after DONE of a state of `up`'s command interface. -/
theorem witness_firmware_runs (s : State) (h : s.kci = up.kci) (m : s.ms = up.ms) (p : Fin 12) (i : Fin 2) (f : Slot → Slot) :
    fwRuns (tryReduced (modSlot s p i f) p i) = true := by
  have e : (tryReduced (modSlot s p i f) p i).kci = up.kci := by rw [tryReduced_kci, modSlot_kci, h]
  have e' : (tryReduced (modSlot s p i f) p i).ms = up.ms := by rw [tryReduced_ms, modSlot_ms, m]
  rw [fwRuns_congr e e']
  decide +kernel

theorem witness_closure_events :
    (∃ k u, ownerOf (signal 0 id) 5 = some 0 ∧ takeSig (signal 0 id) 5 0 = some (k, u) ∧ (slotAt u 0 (parOf k)).stepId = k ∧
      (slotAt u 0 (parOf k)).state = stOPEN) ∧
    (∃ k u, takeSig (signal 0 (fun x => { x with stepId := 2 })) 5 0 = some (k, u) ∧ ((slotAt u 0 (parOf k)).stepId ≠ k ∨
      ((slotAt u 0 (parOf k)).state ≠ stOPEN ∧ (slotAt u 0 (parOf k)).state ≠ stREDUCED))) ∧
    (let s := withSlot up (fun x => { x with state := stREDUCED, checked := true });
      closing? s 0 = some 0 ∧ (slotAt s 0 0).state = stREDUCED ∧ (slotAt s 0 0).checked = true ∧ (slotAt s 0 0).digest = none ∧
      (slotAt s 0 0).replayPos = 0 ∧ (slotAt s 0 0).halted = false ∧ fwRuns s = true) ∧
    (∀ p, ownerOf up 9 = some p → (up.core 9).stopped = true → ∀ i : Fin 2,
      (slotAt up p i).suspects.find? (fun u => u.status == 1 && u.buddy == some (9 : Fin 96).val) = none) ∧
    (ownerOf suspected 9 = some 0 ∧ (suspected.core 9).stopped = true ∧ fwRuns suspected = true ∧
      (slotAt suspected 0 0).suspects.find? (fun u => u.status == 1 && u.buddy == some (9 : Fin 96).val) = some ⟨5, some 9, 1⟩ ∧
      coreOf? 5 = some 5 ∧
      (slotAt suspected 0 1).suspects.find? (fun u => u.status == 1 && u.buddy == some (9 : Fin 96).val) = none) ∧
    (ownerOf suspected 6 = some 0 ∧
      (slotAt suspected 0 0).suspects.find? (fun u => u.core == (6 : Fin 96).val && decide (u.status < 2)) = some ⟨6, none, 0⟩ ∧
      (slotAt suspected 0 0).state = stREDUCED ∧
      polNat suspected 0 24 4 * msTicks ≤ suspected.since (slotAt suspected 0 0).reducedAt ∧
      (slotAt suspected 0 1).suspects.find? (fun u => u.core == (6 : Fin 96).val && decide (u.status < 2)) = none) ∧
    (∀ i : Fin 2, (withPolicy up policyBlock).since (slotAt (withPolicy up policyBlock) 0 i).reducedAt <
      polNat (withPolicy up policyBlock) 0 24 4 * msTicks) ∧
    (let s := withPolicy (withSlot up (fun x => { x with state := stCHECKED, sent := true })) policyBlock;
      closing? s 0 = some 0 ∧ (slotAt s 0 0).sent = true ∧ (slotAt s 0 0).state = stCHECKED ∧ (slotAt s 0 0).halted = false ∧
      (slotAt s 0 0).pos = 0 ∧ (slotAt s 0 0).replayPos = 0 ∧ (slotAt s 0 0).curing = false ∧ fwRuns s = true ∧
      (countingEntries s 0 0).length < polNat s 0 12 2 ∧ s.since (slotAt s 0 0).sentAt < polNat s 0 20 4 * msTicks ∧
      polNat s 0 20 4 * msTicks ≤ { s with ts := 2 ^ 40 }.since (slotAt s 0 0).sentAt) ∧
    ((∀ i : Fin 2, (slotAt up 0 i).pos ≠ 2) ∧ (up.part 0).cl.evalWait = 0 ∧ fwRuns up = true ∧
      fwRuns (up.modKci (fun k => { k with paused := true })) = false) := by
  refine ⟨⟨4, _, by decide +kernel, rfl, by decide +kernel⟩,
    ⟨4, _, rfl, by decide +kernel⟩, by decide +kernel, ?_,
    by decide +kernel, by decide +kernel, by decide +kernel, by decide +kernel, by decide +kernel⟩
  intro p _ _ i
  have h : ∀ p : Fin 12, ∀ i : Fin 2, (slotAt up p i).suspects = [] := by decide +kernel
  rw [h]
  rfl

theorem witness_signals_of_commit :
    (let s := upCl up (fun c => { c with evalWait := 1, evalDone := allCores });
      (∀ i : Fin 2, (slotAt s 0 i).pos ≠ 2) ∧ (s.part 0).cl.evalWait ≠ 0 ∧ (s.part 0).cl.evalDone ≠ [] ∧
      ∀ d ∈ stepCores s 0, (s.part 0).cl.evalDone.contains d.val = true) ∧
    (let s := upCl (signal 1 (fun x => { x with pos := 2 })) (fun c => { c with updDone := allCores });
      ∃ k u, ownerOf s 5 = some 0 ∧ takeSig s 5 1 = some (k, u) ∧
        ([0, 1] : List (Fin 2)).find? (fun i => decide ((slotAt u 0 i).pos = 2)) = some 0 ∧
        ∀ d ∈ stepCores (modCl u 0 (fun x => { x with updDone := insRise x.updDone (5 : Fin 96).val })) 0,
          ((modCl u 0 (fun x => { x with updDone := insRise x.updDone (5 : Fin 96).val })).part 0).cl.updDone.contains d.val = true) ∧
    (let s := upCl (signal 2 id) (fun c => { c with evalWait := 1, evalDone := allCores });
      ∃ k u, ownerOf s 5 = some 0 ∧ takeSig s 5 2 = some (k, u) ∧ (u.part 0).cl.evalWait ≠ 0 ∧
        ∀ d ∈ stepCores (modCl u 0 (fun x => { x with evalDone := insRise x.evalDone (5 : Fin 96).val })) 0,
          ((modCl u 0 (fun x => { x with evalDone := insRise x.evalDone (5 : Fin 96).val })).part 0).cl.evalDone.contains d.val = true) ∧
    (∃ k u, takeSig (signal 2 id) 5 2 = some (k, u) ∧ (u.part 0).cl.evalWait = 0) := by
  have h5 : insRise allCores (5 : Fin 96).val = allCores := by decide +kernel
  refine ⟨⟨by decide +kernel, by decide +kernel, by decide +kernel, fun d _ => ?_⟩,
    ⟨4, _, by decide +kernel, rfl, by decide +kernel, fun d _ => ?_⟩,
    ⟨4, _, by decide +kernel, rfl, by decide +kernel, fun d _ => ?_⟩, 4, _, rfl, by decide +kernel⟩
  · exact (congrArg (fun l : List Nat => l.contains d.val) (by decide +kernel)).trans (every_core d)
  · exact (congrArg (fun l : List Nat => l.contains d.val) (by decide +kernel)).trans (every_core d)
  · exact (congrArg (fun l : List Nat => l.contains d.val) (by decide +kernel)).trans (every_core d)

/-- Partition 0 has a step core. -/
theorem a_step_core (s : State) (g : ∀ c : Fin 96, c = 0 ∨ c = 1 → (ownerOf s c == some 0 && !coreOut s c &&
    !(vget s.serv.cores c).admitWait && !isBuddy s c) = true) : ∃ c ∈ stepCores s 0, c = 0 ∨ c = 1 := by
  obtain ⟨c, h, ha⟩ := present
  refine ⟨c, ?_, h⟩
  have := g c h
  simp only [Bool.and_eq_true, beq_iff_eq, Bool.not_eq_true'] at this
  simp [stepCores, coresOf, isStepCore, ha, this]

/-- A step of which the cores in a list have signalled DONE. -/
def opened (l : List Nat) : State := withSlot up (fun x => { x with state := stOPEN, done := l })

/-- A step whose cores have all signalled DONE, and one that awaits some of them. -/
theorem witness_reduced : ((slotAt (opened allCores) 0 0).state = stOPEN ∧ (slotAt (opened allCores) 0 0).replayPos = 0 ∧
      (slotAt (opened allCores) 0 0).turn = 0 ∧ (slotAt (opened allCores) 0 (otherSlot 0)).replayed = false) ∧
    stepCores (opened allCores) 0 ≠ [] ∧
    (∀ c ∈ stepCores (opened allCores) 0, (slotAt (opened allCores) 0 0).done.contains c.val = true) ∧
    ∃ c ∈ stepCores (opened []) 0, (slotAt (opened []) 0 0).done.contains c.val = false := by
  refine ⟨by decide +kernel, ?_, fun c _ => ?_, ?_⟩
  · obtain ⟨c, h, _⟩ := a_step_core (opened allCores) (by decide +kernel)
    intro e
    rw [e] at h
    cases h
  · exact (congrArg (fun l : List Nat => l.contains c.val) (by decide +kernel)).trans (every_core c)
  · obtain ⟨c, h, _⟩ := a_step_core (opened []) (by decide +kernel)
    exact ⟨c, h, congrArg (fun l : List Nat => l.contains c.val) (by decide +kernel : _ = ([] : List Nat))⟩

/-- Two partitions that await the digest engine: the turn of partition 0 is later. -/
def queued : State := modSlot (modSlot (up.modPart 1 (fun q => { q with made := true })) 1 0 (fun x =>
  { x with state := stREDUCED, checked := true, turn := 1 })) 0 0 (fun x => { x with state := stREDUCED, checked := true, turn := 2 })

theorem witness_digest_order : digestDue queued 0 = some (0, 2) ∧ digestDue queued 1 = some (0, 1) ∧
    ∀ q j m, digestDue queued q = some (j, m) → 1 ≤ m := by
  have h : ∀ q, (digestDue queued q).all (fun x => decide (1 ≤ x.2)) = true := by decide +kernel
  refine ⟨by decide +kernel, by decide +kernel, fun q j m e => ?_⟩
  have := h q
  rw [e] at this
  simpa using this

/-- Of the step cores of partition 0, one at least has not yet signalled UPD_DONE. -/
theorem witness_updates_awaited : ∃ d ∈ stepCores up 0, ([] : List Nat).contains d.val = false := by
  obtain ⟨c, h, _⟩ := a_step_core up (by decide +kernel)
  exact ⟨c, h, rfl⟩

/-- A fingerprint pass of partition 0 for commit 6 with two members, whose list has one block of core 127. -/
def passing (round : BitVec 8) (st : BitVec 2) : State :=
  (modUc up 0 (fun u => { u with
    state := st, members := 2, commit := 6, round := round, area := 0x10000, list := 0x8000, count := 1 })).write 0x8000
      (leBytes 16 (0x40000 + 127 * 2 ^ 48 + 4096 * 2 ^ 64)) false

/-- The root entries of `n` members. -/
def rootedBy (n : Nat) (round : BitVec 8) (f : Upd → Upd) : State :=
  modUc ((List.range n).foldl (fun s m => s.write (0x10000 + 0x40 * m)
    (rootEntry (modUc s 0 (fun u => { u with member := BitVec.ofNat 3 m })) 0 [7]) false)
      (modUc (passing round 2) 0 (fun u => { u with members := BitVec.ofNat 4 n }))) 0 f

/-- The root entries of both members. -/
def rooted (round : BitVec 8) (f : Upd → Upd) : State := rootedBy 2 round f

/-- The leaf of the first of three members differs. -/
def lost : State := (rootedBy 3 1 (fun u => { u with groups := [0] })).write (0x10000 + 0x91000) [1] false

theorem witness_fingerprint_events :
    ((passing 0 1).part 0).uc.state = 1 ∧
    (let s := rooted 0 id; (s.part 0).uc.state = 2 ∧ (s.part 0).uc.timeout = false ∧ (s.part 0).uc.round = 0 ∧
      (fpEntries s 0).length = (s.part 0).uc.members.toNat ∧ (∀ e ∈ fpEntries s 0, bit (natAt e.2 7 1) 0 = false) ∧
      ∀ e ∈ fpEntries s 0, ∀ f ∈ fpEntries s 0, natAt e.2 8 8 = natAt f.2 8 8) ∧
    (let s := rooted 1 (fun u => { u with groups := [0] }); (s.part 0).uc.state = 2 ∧ (s.part 0).uc.timeout = false ∧
      (s.part 0).uc.round ≠ 0 ∧ (fpEntries s 0).length = (s.part 0).uc.members.toNat ∧
      (fpResolve s 0 ((fpEntries s 0).map (fun e => natAt e.2 5 1))).isSome = true ∧
      (fpBlocks s 0)[0]? = some (0x40000, 127) ∧
      (fpResolve s 0 ((fpEntries s 0).map (fun e => natAt e.2 5 1))).map (fun w => (w.part 0).uc.blocks.isEmpty) = some true) ∧
    ((lost.part 0).uc.state = 2 ∧ (lost.part 0).uc.timeout = false ∧ (lost.part 0).uc.round ≠ 0 ∧
      (fpEntries lost 0).length = (lost.part 0).uc.members.toNat ∧
      (fpResolve lost 0 ((fpEntries lost 0).map (fun e => natAt e.2 5 1))).map (fun w => (w.part 0).uc.blocks.isEmpty) =
        some false ∧ (lost.part 0).uc.groups.length ≤ 64) ∧
    (let s := (rooted 1 (fun u => { u with groups := [0] })).write (0x10000 + 0x91000) [1] false;
      fpResolve s 0 ((fpEntries s 0).map (fun e => natAt e.2 5 1)) = none) ∧
    (let s := modUc (passing 0 3) 0 (fun u => { u with blocks := [(0, 5, 2)] });
      (s.part 0).uc.blocks.find? (fun x => x.1 = 0) = some (0, 5, 2) ∧ (fpBlocks s 0)[0]? = some (0x40000, 127) ∧
      coreOf? 127 = none ∧ leafOf s 0 0x40000 ≠ 5) ∧
    (fwRuns (passing 0 1) = true ∧ fwRuns (rooted 0 id) = true ∧ fwRuns (rooted 1 (fun u => { u with groups := [0] })) = true ∧
      fwRuns (up.modKci (fun k => { k with cpFault := true })) = false) ∧
    (let s := withPolicy (passing 0 2) policyBlock; fwRuns s = true ∧ (s.part 0).uc.state = 2 ∧ (s.part 0).uc.cure = false ∧
      ((modUc s 0 (fun u => { u with cure := true })).part 0).uc.cure = true ∧
      s.since (s.part 0).uc.sentAt < polNat s 0 20 4 * msTicks ∧
      polNat s 0 20 4 * msTicks ≤ { s with ts := 2 ^ 40 }.since (s.part 0).uc.sentAt ∧
      (fpEntries s 0).length < (s.part 0).uc.members.toNat ∧
      holds s 0 ((s.part 0).uc.commit + 1) = none) := by decide +kernel

/-- A kernel on MX. -/
def kernel : Kernel := ⟨7, false, false, 0x20, 900, [], 0, 0, 0, 0, 0⟩

/-- A round of core `c`, and a kernel on it. -/
def round (c : Fin 96) (f : Tcore → Tcore) : State := modTc up c (fun t => f { t with isOpen := true, todo := [kernel] })

/-- Core `c` waits for counter 3 in the middle of a round; waits of 1 s are predicted. -/
def idling (c : Fin 96) : State :=
  modTc ((round c id).modCore c (fun k => { (k.modEng 7 (fun n => { n with
    queue := [⟨5, BitVec.ofNat 256 (ins 7 1 3 1 2 0 (3 * 2 ^ 16 + 2 ^ 22 + 2 ^ 24))⟩] })) with stopped := false })) c
    (fun t => { t with waitLens := [((64, 3), secTicks)] })

theorem witness_kernel_launches :
    ∃ c, coreAbsent c = false ∧ (tcore (idling c) c).todo = kernel :: [] ∧ (tcore (idling c) c).due = false ∧
      (tcore (idling c) c).level ≠ 2 ∧ fitsWait (idling c) c kernel = true ∧ mayLaunch (idling c) c kernel = true ∧
      (let s := modTc (idling c) c (fun t => { t with level := 2 });
        (tcore s c).level = 2 ∧ (s.core c).retired = false ∧ mayLaunch s c kernel = true) := by
  obtain ⟨c, ha, _, h⟩ := on_core (s := idling) (P := fun c => (tcore (idling c) c).todo = kernel :: [] ∧
    (tcore (idling c) c).due = false ∧ (tcore (idling c) c).level ≠ 2 ∧ fitsWait (idling c) c kernel = true ∧
    (∀ s ∈ [idling c, modTc (idling c) c (fun t => { t with level := 2 })],
      ((tcore s c).run.isNone && !(tcore s c).loopWait && !loopOff s kernel && decide (s.pw.wstate = 0) && !s.pw.exiting &&
        !runsImage s c && !s.kci.paused && !s.clk.gated && s.rst.dpUp) = true) ∧
    (let s := modTc (idling c) c (fun t => { t with level := 2 });
      (tcore s c).level = 2 ∧ (s.core c).retired = false)) (by decide +kernel)
  obtain ⟨h1, h2, h3, h4, h5, h6, h7⟩ := h
  have m : ∀ s ∈ [idling c, modTc (idling c) c (fun t => { t with level := 2 })], mayLaunch s c kernel = true := fun s hs => by
    have h := h5 s hs
    unfold mayLaunch
    rw [ha]
    exact h
  exact ⟨c, ha, h1, h2, h3, h4, m _ (.head _), h6, h7, m _ (.tail _ (.head _))⟩

theorem witness_in_service_test_events :
    (let s := { up with serv := { up.serv with packs := vset up.serv.packs 1 { Pack.reset with state := 2, kernels := [kernel] } } };
      (tcore s 0).isOpen = false ∧ activeKernels s ≠ [] ∧ s.pw.wstate.toNat < 2) ∧
    (interval up 0 = some 600 ∧ roundAge up 0 7 = false ∧ roundAge { up with ts := 840000000000 } 0 7 = true ∧
      roundAge { up with ts := 840000000000 } 0 8 = false) ∧
    (tcore (round 0 id) 0).todo = kernel :: [] ∧ fitsWait (round 0 id) 0 kernel = false ∧
    (tcore (round 0 (fun t => { t with due := true })) 0).due = true ∧
    (let s := round 0 (fun t => { t with run := some ⟨kernel, false, false, 0, none⟩ });
      (tcore s 0).run = some ⟨kernel, false, false, 0, none⟩ ∧ s.pw.wstate = 0 ∧
      (∀ e : Fin 10, bit kernel.engMask.toNat e.val = true → ((s.core 0).engine e).flight = []) ∧
      s.since 0 < 20 * usTicks ∧ 20 * usTicks ≤ { s with ts := 32000 }.since 0 ∧ s.since 0 < 4 * kernelTicks s kernel ∧
      4 * kernelTicks s kernel ≤ { s with ts := 2 ^ 32 }.since 0) ∧
    ((tcore (round 0 (fun t => { t with run := some ⟨kernel, true, true, 0, none⟩ })) 0).run =
      some ⟨kernel, true, true, 0, none⟩ ∧ kernel.accSave = false) ∧
    (let s := { round 0 id with ts := 960000000000 };
      roundAge s 0 8 = true ∧ s.pw.wstate = 0 ∧ (tcore s 0).isOpen = true ∧ roundAge { s with ts := 959999999999 } 0 8 = false) ∧
    (let s := { round 0 id with ts := 960000000000, pw := { up.pw with wstate := 1 } };
      roundAge s 0 8 = true ∧ s.pw.wstate = 1 ∧ (tcore s 0).isOpen = true ∧ s.th.tripped = false) ∧
    (let s := round 0 (fun t => { t with capHeld := true }); (tcore s 0).capHeld = true ∧ s.pw.wstate ≠ 1 ∧
      { s with pw := { s.pw with wstate := 1 } }.pw.wstate = 1 ∧ s.th.tripped = false) ∧
    (let s := { up with serv := { up.serv with loopOff := some 0 } }; s.serv.loopOff = some 0 ∧ s.since 0 < 60 * secTicks ∧
      60 * secTicks ≤ { s with ts := 96000000000 }.since 0) ∧
    (let s := round 0 (fun t => { t with level := 2 }); (tcore s 0).level = 2 ∧ (s.core 0).retired = false ∧
      (tcore s 0).advised = false ∧ s.since (tcore s 0).quiet < s.serv.quarHoldH.toNat * 3600 * secTicks ∧
      s.serv.quarHoldH.toNat * 3600 * secTicks ≤ { s with ts := 2 ^ 60 }.since (tcore s 0).quiet) := by
  decide +kernel

/-- The base pack (R423): thirty kernels in ascending ID order, 848,000 cycles. -/
theorem test_base_pack : basePack.kernels.length = 30 ∧ (basePack.kernels.map (fun k => k.length)).sum = 848000 := by decide +kernel

/-! ### The management plane, the security block, power loss, resets -/

def upMg (s : State) (f : Mgmt → Mgmt) : State := { s with mg := f s.mg }
def upSec (s : State) (f : Sec → Sec) : State := { s with sec := f s.sec }
def deedAt (s : State) (r : Fin 5) (d : Deed) : State := { s with kci := { s.kci with deeds := vset s.kci.deeds r d } }

theorem witness_deed_and_agent_commands :
    claimOk up .agentE 0 = false ∧ (claimOk managed .agentE 0 = true ∧ (vget managed.kci.deeds 0).holder = writerCode .agentE) ∧
    (let s := deedAt managed 0 ⟨1, 0, 0, 0, 0⟩; claimOk s .agentE 0 = true ∧ (vget s.kci.deeds 0).holder ≠ writerCode .agentE) ∧
    (let s := deedAt managed 4 ⟨0, 0, 0, 0, 0⟩; claimOk s .agentE 4 = true) ∧
    ((vget managed.kci.deeds 0).epoch = 0 ∧ (vget managed.kci.deeds 0).holder = writerCode .agentE ∧
      (vget managed.kci.deeds 0).holder ≠ writerCode .agentW ∧ (vget managed.kci.deeds 0).epoch ≠ 9) ∧
    ((managed.agent 0).role ≠ 3 ∧ managed.rst.por = false ∧ (managed.agent 0).started = true ∧
      ((up.agent 0).role ≠ 3 ∧ up.rst.por = false ∧ (up.agent 0).started = false) ∧
      ((up.modAgent 1 (fun a => { a with role := 3 })).agent 1).role = 3) ∧
    ((managed.agent 1).started = true ∧ (managed.agent 1).role ≠ 3 ∧ isPrimary managed 1 = false ∧
      (vget managed.kci.deeds 4).holder ≠ 0 ∧ holderLate managed (vget managed.kci.deeds 4).holder = false ∧
      holderLate { managed with ts := 160000000 } (vget managed.kci.deeds 4).holder = true) ∧
    (let s := upMg managed (fun m => { m with clearSince := some 0, thermalClaim := true });
      primary? s = some 0 ∧ s.mg.clearSince = some 0 ∧ s.mg.thermalClaim = true ∧ thermalStake s = false ∧ s.mg.eff101 = none ∧
      s.since 0 < 60 * secTicks ∧ 60 * secTicks ≤ { s with ts := 0x2000000000 }.since 0) ∧
    (primary? managed = some 0 ∧ (vget managed.kci.deeds 3).holder = agentCode 0 ∧ (vget managed.mg.p5 0).state ≠ 6 ∧
      managed.since (vget managed.mg.p5 0).lastXfer < 600 * secTicks ∧
      600 * secTicks ≤ { managed with ts := 0x10000000000 }.since (vget managed.mg.p5 0).lastXfer) ∧
    ((managed.agent 1).role ≠ 3 ∧ (managed.agent 1).lastHb = some 0 ∧ managed.since 0 < 20 * msTicks ∧
      20 * msTicks ≤ { managed with ts := 160000000 }.since 0) ∧
    bit (upMg managed (fun m => { m with notified := 0xFF })).mg.notified.toNat (7 : Fin 8).val = true := by decide +kernel

/-- The update session of an endpoint in a state. -/
def session (st comp : Nat) : State :=
  upMg managed (fun m => { m with p5 := Vector.replicate 2 { Pldm5.reset with state := st, component := comp, size := 4096 } })

theorem witness_endpoint_commands :
    (epUp managed 0 = true ∧ epUp managed 1 = true ∧ epUp managed 2 = true) ∧ primaryEp managed 1 = none ∧
    primaryEp managed 0 = some 0 ∧ (150 ≤ 350 ∧ ¬ 351 ≤ 350 ∧ 70 ≤ 95) ∧ epUp State.reset 0 = false := by decide +kernel

theorem witness_update_and_attestation_commands :
    epUp State.reset 1 = false ∧ (epUp managed 1 = true ∧ (1 : Fin 3).val < 2 ∧ (primaryEp managed 1).isNone = true) ∧
    (∀ st ∈ [0, 1, 2, 3, 4, 5], ∀ ep ∈ ([0, 2] : List (Fin 3)),
      servesUpdate (session st 1) ep = true ∧ (vget (session st 1).mg.p5 (sessionOf ep)).state = st) ∧
    ((vget (session 6 1).mg.p5 0).state ∉ [1, 2, 3, 4, 5]) ∧
    ((deedClaim (session 0 1) (epWriter 0) 3).2 = true ∧ (deedClaim (session 0 1) (epWriter 2) 3).2 = false) ∧
    ((vget (session 4 4).mg.p5 0).component = 4 ∧ (vget (session 4 1).mg.p5 0).component ≠ 4) ∧
    (∀ st ∈ ([2, 3, 4] : List (BitVec 3)), (upSec (session 4 1) (fun x => { x with sb := { x.sb with state := st } })).sec.sb.state = st) ∧
    (let s := upSec (session 2 1) (fun x => { x with sb := { x.sb with state := 3, component := 1 } });
      s.sec.sb.component = 1 ∧ mayActivate s = true) ∧
    (let s := upSec (session 2 1) (fun x => { x with sb := { x.sb with component := 1 } });
      s.sec.sb.component = 1 ∧ mayActivate s = false) ∧ (session 2 1).sec.sb.component ≠ 1 ∧
    (∀ least ∈ [0, 1, 2, 3], let s := upMg managed (fun m => { m with ends := Vector.replicate 3 ⟨0, none, least⟩ });
      ∀ ep : Fin 3, spdmReady s ep least = true ∧ spdmReady s ep (least + 1) = false) := by decide +kernel

theorem witness_attestation_keys : (∃ k, spdmKey managed 0 = some k) ∧
    (∃ m, (32 : BitVec 8) ≠ 0xFF ∧ measurementOf managed 0 (32 : BitVec 8).toNat = some m) := ⟨⟨_, rfl⟩, _, by decide, rfl⟩

/-- The hold-up supply: 20 V nominal, 10 V least, 1 mF, at 80 per cent. -/
def heldUp : State := upMg { managed with pw := { managed.pw with est := 0 } } (fun m => { m with
  shed := true, huCap := 10, huVnom := 200, huVmin := 100, huRatio := 2560, huEff := 80
  eInt := eMeasOf (upMg managed (fun m => { m with huVmin := 100, huRatio := 2560, huCap := 10 })) 20 })

theorem witness_hold_up : (let s := upSec heldUp (fun x => { x with flush := some 3 });
    primary? s = some 0 ∧ s.mg.shed = true ∧ s.sec.flush.isSome = true ∧ holdupV s 2000 = 20 ∧
      (s.mg.huVmin.toNat : Rat) / 20 ≤ 20 ∧ (20 : Rat) ≤ 5 / 4 * ((s.mg.huVnom.toNat : Rat) / 10) ∧
      s.mg.eInt - s.pw.est / 10 / ((s.mg.huEff.toNat : Rat) / 100) = eMeasOf s 20 ∧
      (vget s.kci.deeds 4).holder = agentCode 0) := by decide +kernel

theorem witness_staging_activation_and_power_loss_events :
    ((vget managed.kci.deeds 3).holder = writerCode .agentE ∧ (vget managed.kci.deeds 3).epoch = 0 ∧
      (vget managed.kci.deeds 3).holder ≠ writerCode .agentW ∧ (vget managed.kci.deeds 3).epoch ≠ 5) ∧
    (let s := upSec up (fun x => { x with sb := { x.sb with state := 2 } }); s.sec.sb.state = 2 ∧ s.rst.stage ≠ 3) ∧
    up.sec.sb.state ≠ 2 ∧
    (let s := upSec up (fun x => { x with act := some ⟨0, none, FwImage.none⟩ });
      s.sec.act = some ⟨0, none, FwImage.none⟩ ∧ s.since 0 ≤ 45 * msTicks ∧ 45 * msTicks < { s with ts := 160000000 }.since 0) ∧
    (let s := upSec up (fun x => { x with act := some ⟨0, some 0, FwImage.none⟩ });
      s.sec.act = some ⟨0, some 0, FwImage.none⟩ ∧ s.since 0 < 10 * secTicks ∧
      10 * secTicks ≤ { s with ts := 16000000000 }.since 0) ∧
    (let s := upRst up (fun r => { r with tapReset := false });
      s.rst.tapReset = false ∧ bit s.rst.straps.toNat 4 = false ∧ (List.replicate 96 (0 : Byte)).length = 96) ∧
    (up.rst.pwrLoss = false ∧ up.rst.por = false ∧ State.reset.rst.por = true ∧ State.reset.rst.pwrLoss = false) ∧
    (upRst up (fun r => { r with pwrLoss := true })).rst.pwrLoss = true ∧
    (let s := upSec up (fun x => { x with flush := some 15 }); s.sec.flush = some 15 ∧ 15 < 16 ∧ s.pw.flushStop = false) ∧
    (let s := upRst up (fun r => { r with pwrClear := some 0 });
      s.rst.pwrClear = some 0 ∧ s.rst.por = false ∧ s.since 0 < 100 * msTicks ∧
      100 * msTicks ≤ { s with ts := 160000000 }.since 0) := by decide +kernel

/-- The boots of the control domain. -/
theorem witness_control_boots :
    (let s := upSec up (fun x => { x with banks := Vector.replicate 2 FwImage.none }); bankOk s 0 = false ∧ bankOk s 1 = false) ∧
    (let s := upSec up (fun x => { x with svn := 3, bootActive := 1, banks := #v[⟨true, 0, 3, 0, 0⟩, ⟨true, 0, 2, 0, 0⟩] });
      s.sec.bootActive = BitVec.ofNat 1 (1 : Fin 2).val ∧ bankOk s 1 = false ∧ bankOk s 0 = true) ∧
    (let s := upRst up (fun r => { r with stage := 2 }); s.rst.ctlUp = true ∧ s.rst.stage = 2 ∧ s.th.tripped = false) ∧
    (let s := upRst (upSec up (fun x => { x with sb := { x.sb with state := 2, component := 1 } })) (fun r => { r with stage := 3 });
      s.rst.stage = 3 ∧ s.sec.sb.state = 2 ∧ s.sec.sb.component = 1) := by decide +kernel

theorem witness_reset_events :
    State.reset.rst.por = true ∧ up.rst.por = false ∧ (upTh (fun t => { t with tripped := true })).th.tripped = true ∧
    (State.reset.rst.por = true ∧ State.reset.th.tripped = false ∧ State.reset.rst.perst = true ∧
      (upRst State.reset (fun r => { r with perst := false })).rst.perst = false) ∧
    (field (0x1F : BitVec 8).toNat 5 3 = 0 ∧ field (0x20 : BitVec 8).toNat 5 3 ≠ 0) ∧
    up.rst.perst = false ∧
    (let s := upRst up (fun r => { r with perst := true, ctlUp := false });
      s.rst.perst = true ∧ s.rst.por = false ∧ s.th.tripped = false ∧ s.rst.ctlUp = false) ∧
    (upRst up (fun r => { r with perst := true })).rst.ctlUp = true ∧
    (let s := upRst up (fun r => { r with sys := true }); s.rst.sys = true ∧ s.rst.por = false ∧ s.th.tripped = false) := by
  decide +kernel

/-- With a free check of signatures one of the two clauses of BOOT_RECOVERY applies. -/
theorem witness_boot_recovery (s : State) : imageFault s s.sec.sb.image = none ∨ ∃ r, imageFault s s.sec.sb.image = some r := by
  cases imageFault s s.sec.sb.image with
  | none => exact .inl rfl
  | some r => exact .inr ⟨r, rfl⟩

/-! ### The block as a whole -/

theorem witness_step_runs_the_front_command :
    { State.reset with pending := [.platApply] }.pending = .platApply :: [] ∧ State.reset.pending = [] := ⟨rfl, rfl⟩

theorem witness_every_step_keeps_the_state_sound : State.reset.Good ∧ ∃ t, step State.reset = .next t :=
  ⟨by constructor <;> decide +kernel, _, rfl⟩

/-- A saturated counter, and one that a cycle takes below 0. -/
theorem witness_counters_close_their_cycle :
    (∃ (k : Core) (f : WaitF), f.mode = 1 ∧ f.val < 2 ^ 24 ∧ (vget k.ctr f.ctr).val = 0xFFFFFF ∧ (vget k.ctr f.ctr).prev = 0xFFFFFF) ∧
    (let k : Ctr := { Ctr.reset with val := 0xFFFFFF, inc := 5, sub := 4 }; 0xFFFFFF + k.sub < k.val.toNat + k.inc) ∧
    (let k : Ctr := { Ctr.reset with val := 0xFFFFFF, inc := 4, sub := 4 };
      k.sub ≤ k.val.toNat + k.inc ∧ k.val.toNat + k.inc ≤ 0xFFFFFF + k.sub) ∧
    (let k : Ctr := { Ctr.reset with val := 3, sub := 4 }; k.val.toNat + k.inc < k.sub) :=
  ⟨⟨Core.reset.modCtr 9 (fun k => { k with val := 0xFFFFFF, prev := 0xFFFFFF }), ⟨9, 1, 7⟩, by decide +kernel⟩,
    by decide, by decide, by decide⟩

theorem witness_phase_mark_sets_the_phase : (∃ n, insPhaseMark (BitVec.ofNat 256 (2 ^ n)).toNat = true ∧
    insPhaseMark (BitVec.ofNat 256 0).toNat = false) ∧ (up.core 0).phaseEng = none ∧
    (let k := { Core.reset with phaseEng := some (5 : Fin 10) }; k.phaseEng = some 5 ∧ (5 : Fin 10).val < (7 : Fin 10).val ∧
      (3 : Fin 10).val ≤ (5 : Fin 10).val) :=
  ⟨⟨((List.range 256).find? (fun n => insPhaseMark (BitVec.ofNat 256 (2 ^ n)).toNat)).getD 0, by decide +kernel⟩,
    by decide +kernel⟩

/-- Ring 0 of PF0 with its last entry before the wrap waiting, and SEQ at its last value. -/
theorem witness_command_handles :
    let s := up.modRing 0 0 (fun q => { q with head := 63, tail := 0, seq := 2 ^ 27 - 1 })
    fetches s 0 = true ∧ ∃ q, vget (s.fn 0).rings 0 = some q ∧ q.head ≠ q.tail ∧ (q.head + 1) % 2 ^ q.sqLog2 = q.tail ∧
      q.seq < 2 ^ 27 := by
  refine ⟨by decide +kernel, _, rfl, by decide +kernel⟩

theorem witness_rounding_modes : 0 < 3 ∧ 6 % 3 = 0 := by decide

theorem witness_float_bits_come_back : 0x7FC00001 < 2 ^ f32.w ∧ (decodeFloat f32 0x7FC00001).isNan = true ∧
    (decodeFloat f32 0x80000001).isNan = false := by decide +kernel

theorem witness_writes_of_memory : ∃ (a x : Nat) (bs : List Byte), (x < a ∨ a + bs.length ≤ x) ∧ bs ≠ [] := ⟨5, 4, [1], by decide⟩

/-- ADD of two FP32 tensors of core 0; the byte in front of the destination, and the one behind it. -/
theorem witness_elementwise_instructions :
    let s := engAt up 7 (ins 7 1 3 1 2 0 0) [fA, fB, fC] 0
    let w := ins 7 1 3 1 2 0 0
    let dst := absT 0 (descOf s 0 (insDst w))
    0 < dst.n0 ∧ (absT 0 (descOf s 0 (insA w))).count = dst.count ∧ dHasDs (descOf s 0 (insDst w)) = false ∧
      dSpace (descOf s 0 (insDst w)) ≠ 3 ∧ ∀ a ∈ [dst.base - 1, dst.base + 4 * dst.count], ∀ r ∈ dst.ranges,
        a < r.addr ∨ r.addr + r.len ≤ a := by decide +kernel

theorem witness_management_commands : managementOnly (.agentHeartbeat 0) = true := rfl

/-! ### Ill-formed commands -/

/-- A message of a kind that the checks of `Msg.wfData` let through. -/
def goodData : Msg := { blankMsg with kind := 1, data := [0] }

theorem test_data_messages : (Instr.putMessage goodData).wf = true ∧
    (Instr.putMessage { goodData with kind := 2 }).wf = false ∧ (Instr.putMessage { goodData with vc := 1 }).wf = false ∧
    (Instr.putMessage { goodData with data := [] }).wf = false ∧
    (Instr.putMessage { goodData with data := List.replicate 1025 0 }).wf = false ∧
    (Instr.putMessage { goodData with answers := [⟨0, 0, 0⟩] }).wf = false ∧
    (Instr.putMessage { goodData with rank := 1 }).wf = false ∧
    (Instr.redPutMessage { goodData with kind := 2 }).wf = false ∧
    (Instr.mcastMessage 0 { goodData with kind := 3 }).wf = false ∧ (Instr.dispatchMessage goodData).wf = false ∧
    (Instr.combineMessage goodData).wf = false := by decide +kernel

theorem test_answers_and_control_messages :
    (Instr.ackMessage { blankMsg with kind := 0x10, vc := 1, answers := [⟨3, 0, 9⟩] }).wf = true ∧
    (Instr.ackMessage { blankMsg with kind := 0x10, vc := 1, answers := [⟨3, 2, 9⟩] }).wf = false ∧
    (Instr.ackMessage { blankMsg with kind := 0x10, vc := 1 }).wf = false ∧
    (Instr.refuseMessage { blankMsg with kind := 0x11, vc := 1, answers := List.replicate 7 ⟨3, 2, 9⟩ }).wf = false ∧
    (Instr.refuseMessage { blankMsg with kind := 0x11, answers := [⟨3, 2, 9⟩] }).wf = false ∧
    (Instr.barArriveMessage 0 { blankMsg with kind := 0x20 }).wf = false ∧
    (Instr.barReleaseMessage 0 { blankMsg with kind := 0x21, vc := 3, data := [0] }).wf = false ∧
    (Instr.codewordReceive 0 0 true false [[0]]).wf = false := by decide +kernel

theorem test_host_and_registers : (Instr.devQuery 0 0 [(0, [1])]).wf = true ∧
    (Instr.devQuery 0 0 [(0xFFFFFFFFFFFFFFFF, [1, 2])]).wf = false ∧ (Instr.sqTail 0 0 1 [[]]).wf = false ∧
    (Instr.bar2Read 0 0 0).wf = false ∧ (Instr.bar2Write 0 0 []).wf = false ∧
    (Instr.registerWrite (.core 0 2 0) 0).wf = false ∧ (Instr.registerWrite (.block .control 6) 0).wf = false ∧
    (Instr.registerWrite (.function 0 1) 0).wf = false ∧ (Instr.sbHalfFull .control 0 0 0x20001).wf = false ∧
    (Instr.instructionFault 0 0 0 0 0).wf = false := by decide +kernel

theorem test_readings : (Instr.estimatorTick [] 0 [] []).wf = false ∧ (Instr.tjLoop []).wf = false ∧
    (Instr.calibrationTick []).wf = false ∧ (Instr.pmbusPoll []).wf = false ∧ (Instr.mstepAutoDecision [] []).wf = false ∧
    (Instr.patrolScrub 0 [(0, 0, .single)] true).wf = false ∧ (Instr.stackRequest .debug 0 none 0 []).wf = false ∧
    (Instr.stackRequest .debug 0 (some [1]) 2 []).wf = false ∧ (Instr.linkControlFlit 0 0 none 0 0 0 0 []).wf = false ∧
    (Instr.dutyAlarm 0 101 0).wf = false := by decide +kernel

theorem test_management_requests : (Instr.updateComponent 0 1 0x100000000).wf = false ∧
    (Instr.requestFirmwareData 0 (List.replicate 1025 0)).wf = false ∧ (Instr.getCertificate 0 0 0x10000 0).wf = false ∧
    (Instr.getCertificate 0 0 0 0x10000).wf = false ∧ (Instr.challenge 0 0 []).wf = false ∧
    (Instr.getMeasurements 0 1 []).wf = false := by decide +kernel

/-! ### The opcode table, reset, single steps -/

/-- No row of the table carries bits. -/
theorem test_no_word_spells_a_command : decodeTableWord 8 0 = none ∧ decodeTableWord 256 (2 ^ 256 - 1) = none := ⟨rfl, rfl⟩

theorem test_reset_pending : State.reset.pending = [] := rfl

end Sys2Proof.Tests
end

section
/-! The sequencer, the sync counters and the phase of a core (03): what a read of a core returns after each operation
on it, what a passed CCLK cycle and a start leave of a core, and the obligations O21, O53 and O54. -/

namespace Sys2Proof.Machine

open Sys2Proof

/-! ### Reads after updates -/

@[simp] theorem State.core_setCore (s : State) (c : Fin 96) (x : Core) : (s.setCore c x).core c = x := by
  simp [State.core]

theorem vget_vmod {α : Type} {n : Nat} (v : Vector α n) (i j : Fin n) (f : α → α) :
    vget (vmod v i f) j = if i = j then f (vget v j) else vget v j := by
  by_cases h : i = j
  · subst h; simp [vmod]
  · simp [vmod, vget_vset_of_ne _ _ _ _ h, h]

@[simp] theorem vget_map {α β : Type} {n : Nat} (v : Vector α n) (f : α → β) (i : Fin n) :
    vget (v.map f) i = f (vget v i) := by
  simp [vget]

@[simp] theorem Core.vget_modCtr (k : Core) (i n : Fin 64) (f : Ctr → Ctr) :
    vget (k.modCtr i f).ctr n = if i = n then f (vget k.ctr n) else vget k.ctr n :=
  vget_vmod _ _ _ _

/-- A field of a core other than its field book, read through an equation of `OnlyBook`. -/
theorem Core.field_eq_of_sansBook {α : Type} (p : Core → α) (hp : ∀ k, p k.sansBook = p k) {k l : Core}
    (h : k.sansBook = l.sansBook) : p k = p l := by
  rw [← hp k, h, hp]

/-! ### Passed CCLK cycles -/

theorem State.ctr_core_setCore (s : State) (c : Fin 96) (x : Core) : ((s.setCore c x).core c).ctr = x.ctr := by
  rw [State.core_setCore]

theorem State.ctr_core_modCore (s : State) (c : Fin 96) (f : Core → Core) :
    ((s.modCore c f).core c).ctr = (f (s.core c)).ctr := by
  rw [State.core_modCore]

theorem skipAct_ctr (s : State) (c : Fin 96) (g : Nat) : ((skipAct s c g).core c).ctr = (s.core c).ctr := by
  unfold skipAct
  split
  · rfl
  · exact State.ctr_core_setCore _ _ _

theorem ite_skipAct_ctr (p : Prop) [Decidable p] (s : State) (c : Fin 96) (g : Nat) :
    ((if p then skipAct s c g else s).core c).ctr = (s.core c).ctr := by
  split
  · exact skipAct_ctr s c g
  · rfl

theorem passAct_ctr (s : State) (c : Fin 96) (g : Nat) : ((passAct s c g).core c).ctr = (s.core c).ctr := by
  unfold passAct
  split
  · rfl
  · exact (ite_skipAct_ctr _ _ _ _).trans (State.ctr_core_setCore _ _ _)

theorem passLog_ctr (s : State) (c : Fin 96) : ((passLog s c).core c).ctr = (s.core c).ctr := by
  unfold passLog
  dsimp only
  split
  · rfl
  · exact State.ctr_core_modCore _ _ _

@[simp] theorem passTags_ctr (k : Core) (g : Nat) : (passTags k g).ctr = k.ctr := by
  unfold passTags
  split <;> rfl

@[simp] theorem passTags_seqDone (k : Core) (g : Nat) : (passTags k g).seqDone = k.seqDone := by
  unfold passTags
  split <;> rfl

@[simp] theorem passTags_phaseEng (k : Core) (g : Nat) : (passTags k g).phaseEng = k.phaseEng := by
  unfold passTags
  split <;> rfl

/-- A core after `g` cycles, its activity counters, its draws and its field book apart. -/
def Core.passed (k : Core) (g : Nat) : Core :=
  passTags { k with
    ctr := k.ctr.map (fun t => t.pass g)
    lg := { k.lg with vx := k.lg.vx.pass g, edge := k.lg.edge.pass g }
    eng := k.eng.map (fun n => n.pass g), mx := k.mx.pass g, seqDone := false, phaseEng := none } g

theorem passCore_of_ne_zero (s : State) (c : Fin 96) {g : Nat} (h : g ≠ 0) : passCore s c g =
    (newFlags ((passLog (passAct s c g) c).core c)).foldl (fun s p => flagSet s c p.1 p.2)
      ((passLog (passAct s c g) c).setCore c (((passLog (passAct s c g) c).core c).passed g)) := by
  unfold passCore
  rw [if_neg h]
  rfl

theorem foldl_flagSet_onlyBook (l : List (Fin 64 × Nat)) (s : State) (c : Fin 96) :
    OnlyBook s (l.foldl (fun s p => flagSet s c p.1 p.2) s) := by
  apply OnlyBook.foldl
  intro s p
  exact flagSet_onlyBook s c p.1 p.2

/-- The flags that close in a passed cycle leave records only. -/
theorem passCore_sansBook (s : State) (c : Fin 96) {g : Nat} (h : g ≠ 0) : ((passCore s c g).core c).sansBook =
    (((passLog (passAct s c g) c).core c).passed g).sansBook := by
  rw [passCore_of_ne_zero s c h, (foldl_flagSet_onlyBook _ _ c).h c, State.core_setCore]

theorem passCore_seqDone (s : State) (c : Fin 96) {g : Nat} (h : g ≠ 0) : ((passCore s c g).core c).seqDone = false := by
  rw [Core.field_eq_of_sansBook Core.seqDone (fun _ => rfl) (passCore_sansBook s c h), Core.passed, passTags_seqDone]

theorem passCore_phaseEng (s : State) (c : Fin 96) {g : Nat} (h : g ≠ 0) : ((passCore s c g).core c).phaseEng = none := by
  rw [Core.field_eq_of_sansBook Core.phaseEng (fun _ => rfl) (passCore_sansBook s c h), Core.passed, passTags_phaseEng]

theorem passCore_ctr (s : State) (c : Fin 96) {g : Nat} (h : g ≠ 0) (n : Fin 64) :
    vget ((passCore s c g).core c).ctr n = (vget (s.core c).ctr n).pass g := by
  rw [Core.field_eq_of_sansBook Core.ctr (fun _ => rfl) (passCore_sansBook s c h), Core.passed, passTags_ctr,
    vget_map, passLog_ctr, passAct_ctr]

/-! ### Sync counters -/

/-- `prev` after one cycle is the value that the cycle began with; after more, the counter has rested at the closed value. -/
theorem Ctr.pass_succ (k : Ctr) (g : Nat) :
    k.pass (g + 1) = { k.close.1 with prev := if g = 0 then k.val else k.close.1.val } := by
  cases g <;> rfl

theorem waitMet_iff (k : Core) (f : WaitF) (h : f.mode ≠ 0) : waitMet k f = true ↔
    f.val ≤ (vget k.ctr f.ctr).val.toNat ∧ f.val ≤ (vget k.ctr f.ctr).prev.toNat := by
  simp [waitMet, h]

/-- The subtraction of one wait field of mode 10. -/
def subWait (k : Core) (f : WaitF) : Core :=
  if f.mode = 2 then k.modCtr f.ctr (fun t => { t with sub := t.sub + f.val }) else k

theorem subWaits_eq (k : Core) (w : Nat) : subWaits k w = subWait (subWait k (insWaitA w)) (insWaitB w) := rfl

theorem subWait_ctr (k : Core) (f : WaitF) (n : Fin 64) : vget (subWait k f).ctr n =
    { vget k.ctr n with sub := (vget k.ctr n).sub + if f.mode = 2 ∧ f.ctr = n then f.val else 0 } := by
  by_cases hm : f.mode = 2
  · by_cases hn : f.ctr = n <;> simp [subWait, hm, hn]
  · simp [subWait, hm]

theorem subWait_field {α : Type} (p : Core → α) (hp : ∀ (k : Core) r, p { k with ctr := r } = p k) (k : Core)
    (f : WaitF) : p (subWait k f) = p k := by
  unfold subWait
  split
  · exact hp _ _
  · rfl

/-- The subtractions of a start leave every field but the counters. -/
theorem subWaits_field {α : Type} (p : Core → α) (hp : ∀ (k : Core) r, p { k with ctr := r } = p k) (k : Core)
    (w : Nat) : p (subWaits k w) = p k := by
  rw [subWaits_eq, subWait_field p hp, subWait_field p hp]

/-- R93: the exact sum above 0xFFFFFF saturates. -/
theorem Ctr.close_above (k : Ctr) (h : 0xFFFFFF + k.sub < k.val.toNat + k.inc) :
    k.close.1.val = 0xFFFFFF ∧ k.close.1.sat = true := by
  have hu : ¬ k.val.toNat + k.inc < k.sub := by omega
  have hs : 0xFFFFFF < k.val.toNat + k.inc - k.sub := by omega
  simp [Ctr.close, hu, hs]

/-- R93: the exact sum below 0 underflows. -/
theorem Ctr.close_below (k : Ctr) (h : k.val.toNat + k.inc < k.sub) :
    k.close.1.val = 0 ∧ k.close.1.under = true := by
  simp [Ctr.close, h]

/-- R93: an exact sum that the counter holds is taken as it is. -/
theorem Ctr.close_within (k : Ctr) (h0 : k.sub ≤ k.val.toNat + k.inc) (h1 : k.val.toNat + k.inc ≤ 0xFFFFFF + k.sub) :
    k.close.1.val.toNat = k.val.toNat + k.inc - k.sub ∧ k.close.1.sat = k.sat ∧ k.close.1.under = k.under := by
  have hu : ¬ k.val.toNat + k.inc < k.sub := by omega
  have hs : ¬ 0xFFFFFF < k.val.toNat + k.inc - k.sub := by omega
  have hval : (BitVec.ofNat 24 (k.val.toNat + k.inc - k.sub)).toNat = k.val.toNat + k.inc - k.sub := by
    rw [BitVec.toNat_ofNat]
    omega
  simp [Ctr.close, hu, hs, hval]

/-- R95: without a subtraction a saturated counter is still 0xFFFFFF when its cycle closes, signalled or not. -/
theorem Ctr.close_saturated (k : Ctr) (hv : k.val = 0xFFFFFF) (hs : k.sub = 0) : k.close.1.val = 0xFFFFFF := by
  have hn : k.val.toNat = 0xFFFFFF := by rw [hv]; rfl
  rcases Nat.eq_zero_or_pos k.inc with hi | hi
  · obtain ⟨hval, -, -⟩ := k.close_within (by omega) (by omega)
    exact BitVec.eq_of_toNat_eq (by rw [hval, hn, hi, hs]; rfl)
  · exact (k.close_above (by omega)).1

/-- R95: a wait of mode 01 on a counter that was saturated in this cycle and in the one before is met. -/
theorem waitMet_saturated (k : Core) (f : WaitF) (hm : f.mode = 1) (hf : f.val < 2 ^ 24)
    (hv : (vget k.ctr f.ctr).val = 0xFFFFFF) (hp : (vget k.ctr f.ctr).prev = 0xFFFFFF) : waitMet k f = true := by
  have hle : f.val ≤ (0xFFFFFF : BitVec 24).toNat := Nat.le_of_lt_succ hf
  rw [waitMet_iff k f (by omega), hv, hp]
  exact ⟨hle, hle⟩

/-- Settles O53: waits, subtractions and signals by their equations, the close of a cycle by where its exact sum lies. -/
theorem countersCloseTheirCycle : Obligations.counters_close_their_cycle := by
  refine ⟨waitMet_iff, ?subtractions, fun _ _ _ _ _ => ⟨rfl, rfl, rfl⟩, ?closes, ?passes, Ctr.close_saturated,
    waitMet_saturated⟩
  case subtractions =>
    intro k w n
    rw [subWaits_eq, subWait_ctr, subWait_ctr]
    exact ⟨rfl, rfl, rfl⟩
  case closes => exact fun k => ⟨k.close_above, k.close_below, k.close_within, rfl, rfl⟩
  case passes =>
    intro s c n g
    rw [passCore_ctr s c (Nat.succ_ne_zero g), Ctr.pass_succ]

/-! ### Starts -/

/-- R208: a start of `w` in engine `e` marks the phase, as no engine of the same or a higher ID has in this cycle. -/
def Core.marks (k : Core) (e : Fin 10) (w : Nat) : Bool :=
  insPhaseMark w && k.phaseEng.all (fun f => decide (f.val < e.val))

theorem Core.marks_of_higher {k : Core} {e : Fin 10} {w : Nat} (hw : insPhaseMark w = true)
    (h : ∀ f, k.phaseEng = some f → f.val < e.val) : k.marks e w = true := by
  cases hk : k.phaseEng with
  | none => simp [Core.marks, hw, hk]
  | some f =>
    have hlt : f < e := h f hk
    simp [Core.marks, hw, hk, hlt]

theorem Core.not_marks {k : Core} {e : Fin 10} {w : Nat}
    (h : insPhaseMark w = false ∨ ∃ f, k.phaseEng = some f ∧ e.val ≤ f.val) : k.marks e w = false := by
  rcases h with hw | ⟨f, hf, hle⟩
  · simp [Core.marks, hw]
  · have hlt : ¬ f < e := Nat.not_lt.mpr hle
    simp [Core.marks, hf, hlt]

/-- The core takes the phase of the word where its start marks. -/
def Core.markPhase (k : Core) (e : Fin 10) (w : Nat) : Core :=
  if k.marks e w then { k with phaseId := BitVec.ofNat 6 (insPhase w), phaseValid := true, phaseEng := some e } else k

/-- The core once the head instruction of engine `e`, of word `w`, has left its queue and its waits have subtracted. -/
def Core.takeHead (k : Core) (e : Fin 10) (w : Nat) : Core :=
  (subWaits k w).modEng e (fun n => { n with queue := n.queue.tail, stepOnce := false, accept := 1 })

theorem beginStart_eq (s : State) (c : Fin 96) (e : Fin 10) (q : QEnt) :
    ∃ a l, beginStart s c e q = fbPut (progress (s.setCore c
      { ((s.core c).takeHead e q.word.toNat).markPhase e q.word.toNat with ac := a }) c) c 0x1 e.val l :=
  ⟨_, _, rfl⟩

/-- A start takes the head and marks the phase; besides these it counts, and leaves a record in the field book. -/
theorem beginStart_sansBook (s : State) (c : Fin 96) (e : Fin 10) (q : QEnt) :
    ∃ a, ((beginStart s c e q).core c).sansBook = Core.sansBook
      { ((s.core c).takeHead e q.word.toNat).markPhase e q.word.toNat with
        ac := a, wdogFired := false, wdogMark := s.ts } := by
  obtain ⟨a, l, h⟩ := beginStart_eq s c e q
  refine ⟨a, ?_⟩
  rw [h, (fbPut_onlyBook _ _ _ _ _).h c, progress, State.core_modCore, State.core_setCore]
  rfl

/-- What a start leaves in a field that it neither counts in nor records in. -/
theorem beginStart_field {α : Type} (p : Core → α) (hp : ∀ k : Core, p k.sansBook = p k)
    (hr : ∀ (k : Core) a b d, p { k with ac := a, wdogFired := b, wdogMark := d } = p k)
    (s : State) (c : Fin 96) (e : Fin 10) (q : QEnt) : p ((beginStart s c e q).core c) =
      p (((s.core c).takeHead e q.word.toNat).markPhase e q.word.toNat) := by
  obtain ⟨a, h⟩ := beginStart_sansBook s c e q
  rw [Core.field_eq_of_sansBook p hp h, hr]

@[simp] theorem Core.markPhase_eng (k : Core) (e : Fin 10) (w : Nat) : (k.markPhase e w).eng = k.eng := by
  unfold Core.markPhase
  split <;> rfl

theorem Core.takeHead_field {α : Type} (p : Core → α) (hp : ∀ (k : Core) r n, p { k with ctr := r, eng := n } = p k)
    (k : Core) (e : Fin 10) (w : Nat) : p (k.takeHead e w) = p k :=
  (hp (subWaits k w) (subWaits k w).ctr _).trans (subWaits_field p (fun k r => hp k r k.eng) k w)

theorem Core.takeHead_marks (k : Core) (e : Fin 10) (w : Nat) : (k.takeHead e w).marks e w = k.marks e w :=
  Core.takeHead_field (fun k => k.marks e w) (fun _ _ _ => rfl) k e w

theorem beginStart_queue (s : State) (c : Fin 96) (e : Fin 10) (q : QEnt) :
    (((beginStart s c e q).core c).engine e).queue = ((s.core c).engine e).queue.tail := by
  rw [Core.engine, beginStart_field Core.eng (fun _ => rfl) (fun _ _ _ _ => rfl), Core.markPhase_eng, Core.takeHead,
    Core.modEng, vget_vmod, if_pos rfl, subWaits_field Core.eng (fun _ _ => rfl), Core.engine]

/-- PHASE and the engine that has marked it in this cycle. -/
def Core.phase (k : Core) : BitVec 6 × Bool × Option (Fin 10) := (k.phaseId, k.phaseValid, k.phaseEng)

/-- R81, R208: a start that marks enters the instruction's phase, any other leaves the phase. -/
theorem beginStart_phase (s : State) (c : Fin 96) (e : Fin 10) (q : QEnt) : ((beginStart s c e q).core c).phase =
    if (s.core c).marks e q.word.toNat then (BitVec.ofNat 6 (insPhase q.word.toNat), true, some e)
    else (s.core c).phase := by
  rw [beginStart_field Core.phase (fun _ => rfl) (fun _ _ _ _ => rfl), Core.markPhase, Core.takeHead_marks]
  split
  · rfl
  · exact Core.takeHead_field Core.phase (fun _ _ _ => rfl) _ _ _

/-- Settles O54: by whether the start marks, and by what a new cycle leaves of the core. -/
theorem phaseMarkSetsThePhase : Obligations.phase_mark_sets_the_phase := by
  refine ⟨fun s c e q => ?_, fun s c g => passCore_phaseEng s c (Nat.succ_ne_zero g)⟩
  have h := beginStart_phase s c e q
  constructor
  · intro hw hf
    simp only [Core.phase, Core.marks_of_higher hw hf, if_true, Prod.mk.injEq] at h
    obtain ⟨hid, hvalid, heng⟩ := h
    have hlt : insPhase q.word.toNat < 2 ^ 6 := Nat.mod_lt _ (by decide)
    exact ⟨by rw [hid, BitVec.toNat_ofNat, Nat.mod_eq_of_lt hlt], hvalid, heng⟩
  · intro hn
    simp only [Core.phase, Core.not_marks hn, Bool.false_eq_true, if_false, Prod.mk.injEq] at h
    obtain ⟨hid, hvalid, -⟩ := h
    exact ⟨hid, hvalid⟩

/-! ### The sequencer -/

theorem exec_seqDispatch_of_open {s : State} {c : Fin 96} (h : coreShut s c = false) (gap : Nat) :
    exec (.seqDispatch c gap) s = .next (seqDispatch (passCore s c gap) c) := by
  simp [exec_seqDispatch, execSeqDispatch, onCore, h]

theorem seqDispatch_of_seqDone {u : State} {c : Fin 96} (h : (u.core c).seqDone = true) : seqDispatch u c = u := by
  simp [seqDispatch, h]

/-- R77: an instruction of an engine, at the fetch index of a sequencer that may run: its queue takes it or it waits. -/
theorem seqDispatch_of_entry {u : State} {c : Fin 96} {i w : Nat} {e : Fin 10} (hf : (u.core c).fetching = true)
    (hd : (u.core c).seqDone = false) (hi : i = (u.core c).fetchIndex.toNat) (hlt : i < 2048)
    (hw : w = u.num (progAddr c i) 32) (hw0 : w ≠ 0) (he : engOf? (insEng w) = some e) :
    seqDispatch u c = if ((u.core c).engine e).queue.length < 32 then
        seqNext (u.modCore c (fun k => k.modEng e (fun n =>
          { n with queue := n.queue ++ [⟨BitVec.ofNat 11 i, BitVec.ofNat 256 w⟩] }))) c i
      else setBlock u c 1 (BitVec.ofNat 4 e.val) := by
  subst hi hw
  simp only [seqDispatch, hf, hd, Bool.not_true, Bool.or_self, Bool.false_eq_true, ite_false, Nat.not_le.mpr hlt, hw0, he]

/-- Settles O21: by whether the queue holds fewer than 32, and by what new cycles and a start leave of the core. -/
theorem sequencerDispatches : Obligations.sequencer_dispatches := by
  refine ⟨?takes, ?waits, ?again, beginStart_queue⟩
  case takes =>
    rintro c gap s u i w e hs rfl hf hd hi hlt hw hw0 he hq
    rw [exec_seqDispatch_of_open hs, seqDispatch_of_entry hf hd hi hlt hw hw0 he, if_pos hq]
  case waits =>
    rintro c gap s u i w e hs rfl hf hd hi hlt hw hw0 he hq
    rw [exec_seqDispatch_of_open hs, seqDispatch_of_entry hf hd hi hlt hw hw0 he, if_neg (Nat.not_lt.mpr hq), setBlock]
  case again =>
    rintro c gap s u hs rfl
    constructor
    · intro hd
      rw [exec_seqDispatch_of_open hs, seqDispatch_of_seqDone hd]
    · exact passCore_seqDone s c

end Sys2Proof.Machine
end

section
/-! The handles of commands (16, R449): the number that a handle is, the count of a ring's commands, what a fetch takes
from a submission ring, and the obligation O55. -/

namespace Sys2Proof.Machine

/-! ### The handle as a number -/

/-- Ring number and SEQ fill the 32 bits, so that the handle is their number, with nothing cut off. -/
theorem toNat_handle (r : Fin 32) {n : Nat} (hn : n < 2 ^ 27) :
    (BitVec.ofNat 32 (r.val * 2 ^ 27 + n)).toNat = r.val * 2 ^ 27 + n := by
  rw [BitVec.toNat_ofNat, Nat.mod_eq_of_lt]
  have hr := r.isLt
  omega

theorem handle_ring (r : Fin 32) {n : Nat} (hn : n < 2 ^ 27) :
    (BitVec.ofNat 32 (r.val * 2 ^ 27 + n)).toNat / 2 ^ 27 = r.val := by
  rw [toNat_handle r hn]
  omega

theorem handle_seq (r : Fin 32) {n : Nat} (hn : n < 2 ^ 27) :
    (BitVec.ofNat 32 (r.val * 2 ^ 27 + n)).toNat % 2 ^ 27 = n := by
  rw [toNat_handle r hn, Nat.mul_add_mod', Nat.mod_eq_of_lt hn]

/-- The handle of no command would be ring 31 with the SEQ that ring 31 skips. -/
theorem handle_ne_all_ones (r : Fin 32) {n : Nat} (hn : n < 2 ^ 27) (h31 : r = 31 → n < 0x7FFFFFF) :
    BitVec.ofNat 32 (r.val * 2 ^ 27 + n) ≠ 0xFFFFFFFF := by
  intro h
  have hring := handle_ring r hn
  have hseq := handle_seq r hn
  rw [h] at hring hseq
  have hr : r = 31 := Fin.ext hring.symm
  have hskipped : n = 0x7FFFFFF := hseq.symm
  have hlt := h31 hr
  omega

/-! ### The count of a ring's commands -/

theorem nextSeq_of_ne {r : Fin 32} (h : r ≠ 31) (n : Nat) : nextSeq r n = (n + 1) % 2 ^ 27 :=
  if_neg fun hw => h (Fin.ext hw.1)

theorem nextSeq_ring31_of_lt {n : Nat} (h : n < 0x7FFFFFE) : nextSeq 31 n = n + 1 := by
  have hm : (n + 1) % 2 ^ 27 = n + 1 := Nat.mod_eq_of_lt (by omega)
  have hn : n + 1 ≠ 0x7FFFFFF := by omega
  simp only [nextSeq, hm, hn, and_false, if_false]

theorem nextSeq_ring31_wraps : nextSeq 31 0x7FFFFFE = 0 := rfl

/-! ### What a fetch takes -/

/-- The command that the entry at a ring's head holds. -/
def Ring.headCmd (q : Ring) (s : State) (f : Fin 13) (r : Fin 32) : Cmd :=
  ⟨f, some r, BitVec.ofNat 32 (r.val * 2 ^ 27 + q.seq), s.hostMem.readN (q.sqAddr.toNat + 64 * q.head) 64, [], 0, 0,
    (q.head + 1) % 2 ^ q.sqLog2⟩

/-- The ring once the entry at its head is fetched. -/
def Ring.takeEntry (q : Ring) (s : State) (f : Fin 13) (r : Fin 32) : Ring :=
  { q with head := (q.head + 1) % 2 ^ q.sqLog2, seq := nextSeq r q.seq, fetched := q.fetched ++ [q.headCmd s f r] }

theorem fetchEntries_of_empty (s : State) (f : Fin 13) (r : Fin 32) {q : Ring} (h : q.head = q.tail) (n : Nat) :
    fetchEntries s f r n q = q := by
  cases n with
  | zero => rfl
  | succ n => exact if_pos h

theorem fetchEntries_of_entry (s : State) (f : Fin 13) (r : Fin 32) {q : Ring} (h : q.head ≠ q.tail) (n : Nat) :
    fetchEntries s f r (n + 1) q = fetchEntries s f r n (q.takeEntry s f r) :=
  if_neg h

/-- A ring with one entry waiting: the fetch takes it and is at the tail. -/
theorem fetchEntries_of_last_entry (s : State) (f : Fin 13) (r : Fin 32) {q : Ring} (h : q.head ≠ q.tail)
    (hlast : (q.head + 1) % 2 ^ q.sqLog2 = q.tail) :
    fetchEntries s f r (2 ^ q.sqLog2) q = q.takeEntry s f r := by
  obtain ⟨n, hn⟩ := Nat.exists_eq_succ_of_ne_zero (Nat.two_pow_pos q.sqLog2).ne'
  rw [hn, fetchEntries_of_entry s f r h, fetchEntries_of_empty s f r hlast]

theorem vget_rings_modRing (s : State) (f : Fin 13) (r : Fin 32) (g : Ring → Ring) :
    vget ((s.modRing f r g).fn f).rings r = (vget (s.fn f).rings r).map g := by
  rw [State.modRing, State.fn_modFn, vget_vmod, if_pos rfl]

/-- R449: a ring with one entry waiting, of a function whose rings are fetched. -/
theorem fetchRing_of_last_entry {s : State} {f : Fin 13} {r : Fin 32} {q : Ring} (hf : fetches s f = true)
    (hq : vget (s.fn f).rings r = some q) (h : q.head ≠ q.tail) (hlast : (q.head + 1) % 2 ^ q.sqLog2 = q.tail) :
    vget ((fetchRing s f r).fn f).rings r = some (q.takeEntry s f r) := by
  rw [fetchRing, if_pos hf, vget_rings_modRing, hq, Option.map_some, fetchEntries_of_last_entry s f r h hlast]

/-- Settles O55: by the count of each ring, by what a fetch takes, and by the handle as a number. -/
theorem commandHandles : Obligations.command_handles := by
  refine ⟨fun _ _ _ _ _ => rfl, fun r n _ hr => nextSeq_of_ne hr n, fun _ => nextSeq_ring31_of_lt, nextSeq_ring31_wraps,
    fun s f r q hf hq h hlast hseq h31 => ?_⟩
  exact ⟨q.takeEntry s f r, q.headCmd s f r, fetchRing_of_last_entry hf hq h hlast, rfl, hlast, rfl, rfl, rfl, rfl,
    handle_ring r hseq, handle_seq r hseq, handle_ne_all_ones r hseq h31⟩

end Sys2Proof.Machine
end

section
/-! Every command goes on to a next state, leaves the queue and keeps the state sound: one lemma of Laws/Keeps*.lean for
each command, put together along the dispatch; the soundness of every step follows. -/

namespace Sys2Proof.Machine

theorem exec_goes (s : State) : ∀ i : Instr, Goes s (exec i s)
  | .kciCtrlEnable .. => execKciCtrlEnable_keeps ..
  | .functionLevelReset .. => execFunctionLevelReset_keeps ..
  | .sqTail .. => execSqTail_keeps ..
  | .cqHead .. => execCqHead_keeps ..
  | .bar2Read .. => execBar2Read_keeps ..
  | .bar2Write .. => execBar2Write_keeps ..
  | .queueCreate .. => execQueueCreate_keeps ..
  | .queueDestroy .. => execQueueDestroy_keeps ..
  | .devQuery .. => execDevQuery_keeps ..
  | .devCaps .. => execDevCaps_keeps ..
  | .partCreate .. => execPartCreate_keeps ..
  | .partDestroy .. => execPartDestroy_keeps ..
  | .partAssignParcels .. => execPartAssignParcels_keeps ..
  | .platMap .. => execPlatMap_keeps ..
  | .platUnmap .. => execPlatUnmap_keeps ..
  | .memCopy .. => execMemCopy_keeps ..
  | .memFill .. => execMemFill_keeps ..
  | .memScrub .. => execMemScrub_keeps ..
  | .progLoad .. => execProgLoad_keeps ..
  | .progStart .. => execProgStart_keeps ..
  | .progStop .. => execProgStop_keeps ..
  | .progStatus .. => execProgStatus_keeps ..
  | .stepOpen .. => execStepOpen_keeps ..
  | .stepCloseRetry .. => execStepCloseRetry_keeps ..
  | .stepCloseAbandon .. => execStepCloseAbandon_keeps ..
  | .stepCloseEval .. => execStepCloseEval_keeps ..
  | .stepPolicySet .. => execStepPolicySet_keeps ..
  | .stepRecordGet .. => execStepRecordGet_keeps ..
  | .updGroupSet .. => execUpdGroupSet_keeps ..
  | .exportWorking .. => execExportWorking_keeps ..
  | .exportLogical .. => execExportLogical_keeps ..
  | .importState .. => execImportState_keeps ..
  | .txnBegin .. => execTxnBegin_keeps ..
  | .txnCommit .. => execTxnCommit_keeps ..
  | .txnRollback .. => execTxnRollback_keeps ..
  | .txnTimeout .. => execTxnTimeout_keeps ..
  | .txnSwitch .. => execTxnSwitch_keeps ..
  | .txnVerifyReport .. => execTxnVerifyReport_keeps ..
  | .txnRevert .. => execTxnRevert_keeps ..
  | .powerLimitSet .. => execPowerLimitSet_keeps ..
  | .pstepPolicySet .. => execPstepPolicySet_keeps ..
  | .lattolSet .. => execLattolSet_keeps ..
  | .fabricConfigIdentity .. => execFabricConfigIdentity_keeps ..
  | .fabricConfigJob .. => execFabricConfigJob_keeps ..
  | .fabricConfigTimers .. => execFabricConfigTimers_keeps ..
  | .fabricConfigUplink .. => execFabricConfigUplink_keeps ..
  | .fabricConfigBarrier .. => execFabricConfigBarrier_keeps ..
  | .fabricConfigStaging .. => execFabricConfigStaging_keeps ..
  | .fabricConfigPort .. => execFabricConfigPort_keeps ..
  | .routeTableSet .. => execRouteTableSet_keeps ..
  | .linkStatus .. => execLinkStatus_keeps ..
  | .testpackLoad .. => execTestpackLoad_keeps ..
  | .testpackActivate .. => execTestpackActivate_keeps ..
  | .obsLevelSet .. => execObsLevelSet_keeps ..
  | .coreRetire .. => execCoreRetire_keeps ..
  | .snapshotTake .. => execSnapshotTake_keeps ..
  | .traceConfig .. => execTraceConfig_keeps ..
  | .counterRead .. => execCounterRead_keeps ..
  | .timeSet .. => execTimeSet_keeps ..
  | .timeGet .. => execTimeGet_keeps ..
  | .deedClaim .. => execDeedClaim_keeps ..
  | .deedRelease .. => execDeedRelease_keeps ..
  | .deedQuery .. => execDeedQuery_keeps ..
  | .fwStage .. => execFwStage_keeps ..
  | .fwActivate .. => execFwActivate_keeps ..
  | .keyPartSetLoad .. => execKeyPartSetLoad_keeps ..
  | .keyPartSetGenerate .. => execKeyPartSetGenerate_keeps ..
  | .keyPartSetZeroise .. => execKeyPartSetZeroise_keeps ..
  | .coreCtrlStart .. => execCoreCtrlStart_keeps ..
  | .coreCtrlStop .. => execCoreCtrlStop_keeps ..
  | .coreCtrlClrCounters .. => execCoreCtrlClrCounters_keeps ..
  | .coreStopped .. => execCoreStopped_keeps ..
  | .seqSignal .. => execSeqSignal_keeps ..
  | .stepTagWrite .. => execStepTagWrite_keeps ..
  | .engCtrlStep .. => execEngCtrlStep_keeps ..
  | .ologWptrWrite .. => execOlogWptrWrite_keeps ..
  | .vxSeedHi .. => execVxSeedHi_keeps ..
  | .edgeSeedHi .. => execEdgeSeedHi_keeps ..
  | .vxStateLo .. => execVxStateLo_keeps ..
  | .edgeStateLo .. => execEdgeStateLo_keeps ..
  | .acLoRead .. => execAcLoRead_keeps ..
  | .clkLoRead .. => execClkLoRead_keeps ..
  | .acCtrlSample .. => execAcCtrlSample_keeps ..
  | .acCtrlClear .. => execAcCtrlClear_keeps ..
  | .acSampleTick => execAcSampleTick_keeps ..
  | .fbCtrlEnable .. => execFbCtrlEnable_keeps ..
  | .fbCtrlTrigger .. => execFbCtrlTrigger_keeps ..
  | .xcAttempt .. => execXcAttempt_keeps ..
  | .limCtrlCommit .. => execLimCtrlCommit_keeps ..
  | .limitsApply => execLimitsApply_keeps ..
  | .limFlush .. => execLimFlush_keeps ..
  | .pcSns .. => execPcSns_keeps ..
  | .pointMaskApply .. => execPointMaskApply_keeps ..
  | .deedReqClaim .. => execDeedReqClaim_keeps ..
  | .deedReqRelease .. => execDeedReqRelease_keeps ..
  | .sbCtrlOpen .. => execSbCtrlOpen_keeps ..
  | .sbCtrlClose .. => execSbCtrlClose_keeps ..
  | .sbCtrlActivate .. => execSbCtrlActivate_keeps ..
  | .sbCtrlCancel .. => execSbCtrlCancel_keeps ..
  | .sbHalfFull .. => execSbHalfFull_keeps ..
  | .stageVerifyComplete .. => execStageVerifyComplete_keeps ..
  | .registerWrite .. => execRegisterWrite_keeps ..
  | .seqDispatch .. => execSeqDispatch_keeps ..
  | .nop .. => execNop_keeps ..
  | .loop .. => execLoop_keeps ..
  | .halt .. => execHalt_keeps ..
  | .load .. => execLoad_keeps ..
  | .fill .. => execFill_keeps ..
  | .store .. => execStore_keeps ..
  | .gather .. => execGather_keeps ..
  | .scatter .. => execScatter_keeps ..
  | .scatterAdd .. => execScatterAdd_keeps ..
  | .csrExpand .. => execCsrExpand_keeps ..
  | .put .. => execPut_keeps ..
  | .redPut .. => execRedPut_keeps ..
  | .mcast .. => execMcast_keeps ..
  | .dispatch .. => execDispatch_keeps ..
  | .combine .. => execCombine_keeps ..
  | .expect .. => execExpect_keeps ..
  | .redExpect .. => execRedExpect_keeps ..
  | .tokenRecv .. => execTokenRecv_keeps ..
  | .combineRecv .. => execCombineRecv_keeps ..
  | .mmul .. => execMmul_keeps ..
  | .cvt .. => execCvt_keeps ..
  | .mvmul .. => execMvmul_keeps ..
  | .ringSet .. => execRingSet_keeps ..
  | .add .. => execAdd_keeps ..
  | .sub .. => execSub_keeps ..
  | .mul .. => execMul_keeps ..
  | .fma .. => execFma_keeps ..
  | .div .. => execDiv_keeps ..
  | .min .. => execMin_keeps ..
  | .max .. => execMax_keeps ..
  | .abs .. => execAbs_keeps ..
  | .neg .. => execNeg_keeps ..
  | .sqrt .. => execSqrt_keeps ..
  | .copy .. => execCopy_keeps ..
  | .sfu .. => execSfu_keeps ..
  | .dropout .. => execDropout_keeps ..
  | .randU .. => execRandU_keeps ..
  | .iadd .. => execIadd_keeps ..
  | .isub .. => execIsub_keeps ..
  | .imin .. => execImin_keeps ..
  | .imax .. => execImax_keeps ..
  | .and .. => execAnd_keeps ..
  | .or .. => execOr_keeps ..
  | .xor .. => execXor_keeps ..
  | .softmax .. => execSoftmax_keeps ..
  | .lnorm .. => execLnorm_keeps ..
  | .rmsnorm .. => execRmsnorm_keeps ..
  | .osmUpdate .. => execOsmUpdate_keeps ..
  | .osmFinal .. => execOsmFinal_keeps ..
  | .rsum .. => execRsum_keeps ..
  | .rmax .. => execRmax_keeps ..
  | .vld .. => execVld_keeps ..
  | .vst .. => execVst_keeps ..
  | .updApply .. => execUpdApply_keeps ..
  | .updNorm .. => execUpdNorm_keeps ..
  | .updWcopy .. => execUpdWcopy_keeps ..
  | .sort .. => execSort_keeps ..
  | .merge .. => execMerge_keeps ..
  | .union .. => execUnion_keeps ..
  | .intersect .. => execIntersect_keeps ..
  | .unique .. => execUnique_keeps ..
  | .topk .. => execTopk_keeps ..
  | .segment .. => execSegment_keeps ..
  | .hist .. => execHist_keeps ..
  | .instructionComplete .. => execInstructionComplete_keeps ..
  | .instructionFault .. => execInstructionFault_keeps ..
  | .stackRequest .. => execStackRequest_keeps ..
  | .rowRepairComplete .. => execRowRepairComplete_keeps ..
  | .sparingComplete .. => execSparingComplete_keeps ..
  | .patrolScrub .. => execPatrolScrub_keeps ..
  | .stackTempRead .. => execStackTempRead_keeps ..
  | .tempStale .. => execTempStale_keeps ..
  | .memoryStepChange => execMemoryStepChange_keeps ..
  | .memoryStepDone => execMemoryStepDone_keeps ..
  | .mstepAutoDecision .. => execMstepAutoDecision_keeps ..
  | .platApply => execPlatApply_keeps ..
  | .partitionMapApply => execPartitionMapApply_keeps ..
  | .routeTableApply => execRouteTableApply_keeps ..
  | .portTrained .. => execPortTrained_keeps ..
  | .codewordReceive .. => execCodewordReceive_keeps ..
  | .linkControlFlit .. => execLinkControlFlit_keeps ..
  | .linkRetrainDone .. => execLinkRetrainDone_keeps ..
  | .laneFault .. => execLaneFault_keeps ..
  | .handshakeSwitch .. => execHandshakeSwitch_keeps ..
  | .laneRetrained .. => execLaneRetrained_keeps ..
  | .partnerSilence .. => execPartnerSilence_keeps ..
  | .portIdleTwoLane .. => execPortIdleTwoLane_keeps ..
  | .messageForward .. => execMessageForward_keeps ..
  | .noRouteHold .. => execNoRouteHold_keeps ..
  | .putMessage .. => execPutMessage_keeps ..
  | .redPutMessage .. => execRedPutMessage_keeps ..
  | .mcastMessage .. => execMcastMessage_keeps ..
  | .dispatchMessage .. => execDispatchMessage_keeps ..
  | .combineMessage .. => execCombineMessage_keeps ..
  | .ackMessage .. => execAckMessage_keeps ..
  | .refuseMessage .. => execRefuseMessage_keeps ..
  | .barArriveMessage .. => execBarArriveMessage_keeps ..
  | .barReleaseMessage .. => execBarReleaseMessage_keeps ..
  | .barrierArriveLocal .. => execBarrierArriveLocal_keeps ..
  | .barTimeout .. => execBarTimeout_keeps ..
  | .ethernetFrameReceive .. => execEthernetFrameReceive_keeps ..
  | .pfcFrame .. => execPfcFrame_keeps ..
  | .pauseFrame .. => execPauseFrame_keeps ..
  | .groupComplete .. => execGroupComplete_keeps ..
  | .gapTimeout .. => execGapTimeout_keeps ..
  | .resendTimeout .. => execResendTimeout_keeps ..
  | .doneSignal .. => execDoneSignal_keeps ..
  | .digestComplete .. => execDigestComplete_keeps ..
  | .buddyHalt .. => execBuddyHalt_keeps ..
  | .suspectTimeout .. => execSuspectTimeout_keeps ..
  | .mailboxPoll .. => execMailboxPoll_keeps ..
  | .closeTimeout .. => execCloseTimeout_keeps ..
  | .updDoneSignal .. => execUpdDoneSignal_keeps ..
  | .evalDoneSignal .. => execEvalDoneSignal_keeps ..
  | .fpDigestDone .. => execFpDigestDone_keeps ..
  | .fpRootsComplete .. => execFpRootsComplete_keeps ..
  | .fpBlockReceived .. => execFpBlockReceived_keeps ..
  | .fpTimeout .. => execFpTimeout_keeps ..
  | .roundOpen .. => execRoundOpen_keeps ..
  | .kernelLaunch .. => execKernelLaunch_keeps ..
  | .kernelSetHeld .. => execKernelSetHeld_keeps ..
  | .setAcquireTimeout .. => execSetAcquireTimeout_keeps ..
  | .kernelHalt .. => execKernelHalt_keeps ..
  | .kernelOverrun .. => execKernelOverrun_keeps ..
  | .roundDue .. => execRoundDue_keeps ..
  | .forcedKernelResume .. => execForcedKernelResume_keeps ..
  | .loopbackSuspendEnd => execLoopbackSuspendEnd_keeps ..
  | .quarHoldExpiry .. => execQuarHoldExpiry_keeps ..
  | .failWindowExpiry .. => execFailWindowExpiry_keeps ..
  | .estimatorTick .. => execEstimatorTick_keeps ..
  | .easementLoan .. => execEasementLoan_keeps ..
  | .powerDecision .. => execPowerDecision_keeps ..
  | .tjLoop .. => execTjLoop_keeps ..
  | .powerFallback .. => execPowerFallback_keeps ..
  | .calibrationTick .. => execCalibrationTick_keeps ..
  | .voltageCorrection .. => execVoltageCorrection_keeps ..
  | .pmbusPoll .. => execPmbusPoll_keeps ..
  | .avsWriteTimeout .. => execAvsWriteTimeout_keeps ..
  | .droopTrip .. => execDroopTrip_keeps ..
  | .pstepRaise .. => execPstepRaise_keeps ..
  | .pstepVerify .. => execPstepVerify_keeps ..
  | .pstepSwitch => execPstepSwitch_keeps ..
  | .pstepAbort => execPstepAbort_keeps ..
  | .wStateEntry .. => execWStateEntry_keeps ..
  | .wake .. => execWake_keeps ..
  | .wStateExitDone => execWStateExitDone_keeps ..
  | .jitterAlarm .. => execJitterAlarm_keeps ..
  | .dutyAlarmEscalate .. => execDutyAlarmEscalate_keeps ..
  | .relockCheck .. => execRelockCheck_keeps ..
  | .relockRelease => execRelockRelease_keeps ..
  | .sensorFailed .. => execSensorFailed_keeps ..
  | .tjWarn => execTjWarn_keeps ..
  | .thermtrip .. => execThermtrip_keeps ..
  | .keepWarmTick => execKeepWarmTick_keeps ..
  | .agentHeartbeat .. => execAgentHeartbeat_keeps ..
  | .agentClaimTimer .. => execAgentClaimTimer_keeps ..
  | .thermalReleaseTimer => execThermalReleaseTimer_keeps ..
  | .fwStageIdleTimeout => execFwStageIdleTimeout_keeps ..
  | .setdasa .. => execSetdasa_keeps ..
  | .setEndpointId .. => execSetEndpointId_keeps ..
  | .getEndpointId .. => execGetEndpointId_keeps ..
  | .getEndpointUuid .. => execGetEndpointUuid_keeps ..
  | .getMctpVersionSupport .. => execGetMctpVersionSupport_keeps ..
  | .getMessageTypeSupport .. => execGetMessageTypeSupport_keeps ..
  | .getTid .. => execGetTid_keeps ..
  | .getPldmVersion .. => execGetPldmVersion_keeps ..
  | .getPldmTypes .. => execGetPldmTypes_keeps ..
  | .getPldmCommands .. => execGetPldmCommands_keeps ..
  | .getPdr .. => execGetPdr_keeps ..
  | .getSensorReading .. => execGetSensorReading_keeps ..
  | .getStateSensorReadings .. => execGetStateSensorReadings_keeps ..
  | .setNumericEffecterValue .. => execSetNumericEffecterValue_keeps ..
  | .getNumericEffecterValue .. => execGetNumericEffecterValue_keeps ..
  | .setEventReceiver .. => execSetEventReceiver_keeps ..
  | .platformEventAck .. => execPlatformEventAck_keeps ..
  | .queryDeviceIdentifiers .. => execQueryDeviceIdentifiers_keeps ..
  | .getFirmwareParameters .. => execGetFirmwareParameters_keeps ..
  | .requestUpdate .. => execRequestUpdate_keeps ..
  | .passComponentTable .. => execPassComponentTable_keeps ..
  | .updateComponent .. => execUpdateComponent_keeps ..
  | .requestFirmwareData .. => execRequestFirmwareData_keeps ..
  | .transferComplete .. => execTransferComplete_keeps ..
  | .verifyComplete .. => execVerifyComplete_keeps ..
  | .applyComplete .. => execApplyComplete_keeps ..
  | .activateFirmware .. => execActivateFirmware_keeps ..
  | .getStatus .. => execGetStatus_keeps ..
  | .cancelUpdate .. => execCancelUpdate_keeps ..
  | .getVersion .. => execGetVersion_keeps ..
  | .getCapabilities .. => execGetCapabilities_keeps ..
  | .negotiateAlgorithms .. => execNegotiateAlgorithms_keeps ..
  | .getDigests .. => execGetDigests_keeps ..
  | .getCertificate .. => execGetCertificate_keeps ..
  | .challenge .. => execChallenge_keeps ..
  | .getMeasurements .. => execGetMeasurements_keeps ..
  | .newCodeAccept => execNewCodeAccept_keeps ..
  | .activationFallback => execActivationFallback_keeps ..
  | .activationCommit => execActivationCommit_keeps ..
  | .debugUnlock .. => execDebugUnlock_keeps ..
  | .trstN .. => execTrstN_keeps ..
  | .pwrLossNAssert .. => execPwrLossNAssert_keeps ..
  | .flushPage => execFlushPage_keeps ..
  | .holdupTick .. => execHoldupTick_keeps ..
  | .pwrLossRecovery => execPwrLossRecovery_keeps ..
  | .telemetryRecordWrite => execTelemetryRecordWrite_keeps ..
  | .watchdog .. => execWatchdog_keeps ..
  | .snapshotTriggerWrite .. => execSnapshotTriggerWrite_keeps ..
  | .snapshotSample => execSnapshotSample_keeps ..
  | .snapshotCopyDone => execSnapshotCopyDone_keeps ..
  | .fieldBookDrain .. => execFieldBookDrain_keeps ..
  | .porNAssert => execPorNAssert_keeps ..
  | .porNDeassert .. => execPorNDeassert_keeps ..
  | .ctrlFirmwareStart => execCtrlFirmwareStart_keeps ..
  | .dataPlaneBootDone => execDataPlaneBootDone_keeps ..
  | .bootRecovery .. => execBootRecovery_keeps ..
  | .sysRstN => execSysRstN_keeps ..
  | .perstN => execPerstN_keeps ..
  | .controlFault .. => execControlFault_keeps ..
  | .agentWatchdog .. => execAgentWatchdog_keeps ..
  | .progStopTimeout .. => execProgStopTimeout_keeps ..
  | .partitionResetDrained .. => execPartitionResetDrained_keeps ..
  | .perstNDeassert .. => execPerstNDeassert_keeps ..
  | .sysRstNDeassert => execSysRstNDeassert_keeps ..
  | .pwrLossNDeassert => execPwrLossNDeassert_keeps ..
  | .vaonRemoval .. => execVaonRemoval_keeps ..
  | .uplinkDown .. => execUplinkDown_keeps ..
  | .dutyAlarm .. => execDutyAlarm_keeps ..
  | .exportDone .. => execExportDone_keeps ..
  | .memCopyDone .. => execMemCopyDone_keeps ..

/-- Soundness speaks of the stores and of two queues, not of the commands that wait. -/
theorem State.Good.withPending {s : State} (h : s.Good) (l : List Instr) : { s with pending := l }.Good :=
  ⟨h.mem, h.poison, h.host, h.telemetry, h.transactions⟩

theorem Goes.good {s t : State} {o : Out} (h : Goes s o) (ho : o = .next t) (hs : s.Good) : t.Good := by
  obtain ⟨u, rfl, hk⟩ := h
  cases ho
  exact hk.good hs

/-- Settles O51, by the queue: a tick, or the execution of the front command on a state as sound. -/
theorem everyStepKeepsTheStateSound : Obligations.every_step_keeps_the_state_sound := by
  intro s t hs ht
  match hp : s.pending with
  | [] =>
    rw [step_nil s hp] at ht
    exact (Goes.next (tick_keeps s)).good ht hs
  | i :: rest =>
    rw [step_cons s i rest hp] at ht
    exact (exec_goes _ i).good ht (hs.withPending rest)

/-- Settles O52, by what every command keeps. -/
theorem everyCommandCompletes : Obligations.every_command_completes := by
  intro i s
  obtain ⟨t, ht, hk⟩ := exec_goes s i
  exact ⟨t, ht, hk.pending⟩

end Sys2Proof.Machine
end

section
/-! The rows of the submission rings (16): what a row of one command code does with a command that passes its checks, and
the obligations O1 to O13. -/

namespace Sys2Proof.Machine

/-- A row of one command code completes with the act of that code. -/
theorem KciRow.completes_code {row : Fin 13 → Fin 32 → List (DWord × List Byte) → Instr} {o : Nat}
    {check : State → Cmd → Option Fail} {act : State → Cmd → State} {effect : State → Cmd → State → Prop}
    (hrow : ∀ f r host s, exec (row f r host) s = runCode o check act f r host s)
    (hact : ∀ v c, effect v c (act v c)) : KciRow.Completes ⟨row, codeIs o, check⟩ effect :=
  KciRow.completes_of hrow (fun c c₀ hc ho _ => by simpa only [codeIs, ho] using hc) (fun v c _ => hact v c)

/-! ### Rings and device -/

theorem inPart_of_scope {s : State} {c : Cmd} {p : Fin 12} (h : c.scope s = some p) (f : Fin 12 → State) :
    inPart s c f = f p := by
  rw [inPart, h]

theorem actQueueCreate_of_ring {s : State} {c : Cmd} {q : Fin 32} (h : ringOf? (c.b 16 1) = some q) :
    actQueueCreate s c = atOnce (s.modFn c.fn (fun x => { x with
      rings := vset x.rings q (some (Ring.make (c.b 18 1) (c.b 19 1) (c.b 17 1) (c.b 24 8) (c.b 32 8))) })) c [] := by
  rw [actQueueCreate, h]

theorem actQueueDestroy_of_ring {s : State} {c : Cmd} {q : Fin 32} (h : ringOf? (c.b 16 1) = some q) :
    actQueueDestroy s c = atOnce (s.modFn c.fn (fun x => { x with rings := vset x.rings q none })) c [] := by
  rw [actQueueDestroy, h]

theorem actDevQuery_of_identity {s : State} {c : Cmd} (h : c.b 16 1 = 0) :
    ∃ id, id.length = 16 ∧ bytesAt id 1 1 = [0xB0] ∧ actDevQuery s c = atOnce s c id :=
  ⟨_, rfl, rfl, if_pos h⟩

theorem actDevQuery_of_report {s : State} {c : Cmd} (h : c.b 16 1 ≠ 0) :
    actDevQuery s c = atOnce (s.hostWrite (c.b 24 8) (queryReport s c)) c [] :=
  if_neg h

/-- Settles O1, by the act of each row. -/
theorem ringAndDeviceCommandsComplete : Obligations.ring_and_device_commands_complete :=
  ⟨KciRow.completes_code exec_queueCreate fun _ _ _ hq => actQueueCreate_of_ring hq,
    KciRow.completes_code exec_queueDestroy fun _ _ _ hq => actQueueDestroy_of_ring hq,
    KciRow.completes_code exec_devQuery fun _ _ => ⟨actDevQuery_of_identity, actDevQuery_of_report⟩,
    KciRow.completes_code exec_devCaps fun _ _ => rfl⟩

/-! ### Partitions and the plat -/

theorem actPartCreate_of_part {s : State} {c : Cmd} {p : Fin 12} (h : partOf? c.part = some p) :
    actPartCreate s c = pmapWait (setParcels s p (c.b 16 2) false) c := by
  rw [actPartCreate, h]

theorem actPlatMap_of_entry {s : State} {c : Cmd} {i : Fin 1024} (h : entryOf? (c.b 32 2) = some i) :
    actPlatMap s c = platWait (setPlat s i c.plat false) c := by
  rw [actPlatMap, h]

theorem actPlatUnmap_of_entry {s : State} {c : Cmd} {i : Fin 1024} (h : entryOf? (c.b 32 2) = some i) :
    actPlatUnmap s c = platWait (setPlat s i .reset false) c := by
  rw [actPlatUnmap, h]

/-- R247, R464: what the staging of a partition map leaves, once the command waits for the chain count. -/
theorem of_staged_parcels {v t : State} {c : Cmd} {p : Fin 12} {mask : Nat}
    (ht : t = pmapWait (setParcels v p mask false) c) : t = { v with ms := t.ms, kci := t.kci } ∧
      t.kci.live = v.kci.live ++ [c] ∧ t.ms.pmapDue = some (v.chain + 1) ∧ t.ms.pmapA = v.ms.pmapA ∧
      ∀ i : Fin 12, bit mask i.val = true → vget t.ms.pmapS i = ⟨BitVec.ofNat 4 p.val, true⟩ := by
  subst ht
  refine ⟨rfl, rfl, rfl, rfl, fun i hi => ?_⟩
  simp [pmapWait, goLive, setParcels, vget, hi]

/-- R242, R243: what the staging of a plat entry leaves, once the command waits for the chain count. -/
theorem of_staged_entry {v t : State} {c : Cmd} {i : Fin 1024} {e : PlatEnt}
    (ht : t = platWait (setPlat v i e false) c) : t = { v with ms := t.ms, kci := t.kci } ∧
      t.kci.live = v.kci.live ++ [c] ∧ t.ms.platS = vset v.ms.platS i e ∧ t.ms.platDue = some (v.chain + 1) ∧
      t.ms.platA = v.ms.platA := by
  subst ht
  exact ⟨rfl, rfl, rfl, rfl, rfl⟩

/-- Settles O2, by what each row stages. -/
theorem partitionAndPlatCommandsComplete : Obligations.partition_and_plat_commands_complete :=
  ⟨KciRow.completes_code exec_partCreate fun _ _ _ hp => of_staged_parcels (actPartCreate_of_part hp),
    KciRow.completes_code exec_partAssignParcels fun _ _ _ hp => of_staged_parcels (inPart_of_scope hp _),
    KciRow.completes_code exec_partDestroy fun _ _ _ hp => inPart_of_scope hp _,
    KciRow.completes_code exec_platMap fun _ _ _ hi => of_staged_entry (actPlatMap_of_entry hi),
    KciRow.completes_code exec_platUnmap fun _ _ _ hi => of_staged_entry (actPlatUnmap_of_entry hi)⟩

/-! ### Memory -/

/-- A row on memory completes with its act. -/
theorem KciRow.completes_memRow {row : Fin 13 → Fin 32 → List (DWord × List Byte) → Instr} {o : Nat}
    {checks : Cmd → Option Fail} {act : State → Cmd → State} {effect : State → Cmd → State → Prop}
    (hrow : ∀ f r host s, exec (row f r host) s = memRow o checks act f r host s)
    (hact : ∀ v c, effect v c (act v c)) : KciRow.Completes ⟨row, codeIs o, checkMem checks⟩ effect :=
  KciRow.completes_of hrow (fun c c₀ hc ho _ => by simpa only [codeIs, ho] using hc) (fun v c _ => hact v c)

theorem actMemCopy_from_host {s : State} {c : Cmd} (h : c.b 40 1 = 0) :
    actMemCopy s c = goLive (pathWrite s (c.b 24 8) c.host false) { c with aux := kOK, due := 0 } :=
  if_pos h

theorem actMemCopy_to_host {s m : State} {c : Cmd} (h : c.b 40 1 = 1) (hm : m = meetErrs s [⟨c.b 16 8, c.b 32 8⟩])
    (hp : pathPoison m (c.b 16 8) (c.b 32 8) = []) :
    actMemCopy s c = goLive ((pathRead m (c.b 16 8) (c.b 32 8)).2.hostWrite (c.b 24 8)
      (pathRead m (c.b 16 8) (c.b 32 8)).1) { c with aux := kOK, due := 0 } := by
  subst hm
  simp [actMemCopy, h, hp, memMoved]

theorem actMemCopy_inside {s m : State} {c : Cmd} (h : c.b 40 1 = 2) (hm : m = meetErrs s [⟨c.b 16 8, c.b 32 8⟩])
    (hp : pathPoison m (c.b 16 8) (c.b 32 8) = []) :
    actMemCopy s c = goLive (pathWrite (pathRead m (c.b 16 8) (c.b 32 8)).2 (c.b 24 8)
      (pathRead m (c.b 16 8) (c.b 32 8)).1 false) { c with aux := kOK, due := 0 } := by
  subst hm
  simp [actMemCopy, h, hp, memMoved]

/-- Settles O3, by the act of each row; MEM_COPY by its direction. -/
theorem memoryCommandsComplete : Obligations.memory_commands_complete :=
  ⟨KciRow.completes_memRow exec_memCopy fun _ _ => ⟨actMemCopy_from_host, _, rfl,
      fun h => actMemCopy_to_host h rfl, fun h => actMemCopy_inside h rfl⟩,
    KciRow.completes_memRow exec_memFill fun _ _ => rfl,
    KciRow.completes_memRow exec_memScrub fun _ _ => rfl⟩

/-! ### Programs and steps -/

/-- Settles O4, by the act of each row. -/
theorem programCommandsComplete : Obligations.program_commands_complete :=
  ⟨KciRow.completes_code exec_progLoad fun _ _ _ hp => ⟨_, rfl, inPart_of_scope hp _⟩,
    KciRow.completes_code exec_progStart fun _ _ => rfl,
    KciRow.completes_code exec_progStop fun _ _ => rfl,
    KciRow.completes_code exec_progStatus fun _ _ => rfl⟩

theorem Cmd.b_of_raw {c d : Cmd} (h : c.raw = d.raw) (off n : Nat) : c.b off n = d.b off n := by
  rw [Cmd.b, Cmd.b, h]

/-- A row of STEP_CLOSE completes with the act of its action. -/
theorem KciRow.completes_close {row : Fin 13 → Fin 32 → List (DWord × List Byte) → Instr} {action : Nat}
    {ok : State → Fin 12 → Fin 2 → Bool} {act : State → Fin 12 → Fin 2 → State} {effect : State → Cmd → State → Prop}
    (hrow : ∀ f r host s, exec (row f r host) s = closeRow action ok act f r host s)
    (hact : ∀ v c, effect v c (actClose act v c)) :
    KciRow.Completes ⟨row, fun c => codeIs 0x29 c && c.b 20 1 == action, checkClose action ok⟩ effect := by
  refine KciRow.completes_of hrow (fun c c₀ hc ho hr => ?_) (fun v c _ => hact v c)
  obtain ⟨hcode, haction⟩ := Bool.and_eq_true_iff.mp hc
  rw [Cmd.b_of_raw hr] at haction
  rw [codeIs, ho] at hcode
  rw [hcode, haction, Bool.true_or, Bool.and_true]

/-- R369: STEP_RECORD_GET of a record that is held and not poisoned. -/
theorem actStepRecordGet_of_record {v : State} {c : Cmd} {p : Fin 12} {n : Nat} {r : StepRec} (hp : c.scope v = some p)
    (hr : recordFor v p (c.b 16 4) = some (n, r)) (hpo : v.poisoned (polNat v p 38 6 + r.off) r.len = false) :
    ∃ w, w = v.hostWrite (c.b 24 8) (v.bytes (polNat v p 38 6 + r.off) r.len) ∧ actStepRecordGet v c =
      retryRecords (atOnce (if bit (c.b 20 1) 0 then modCl w p (fun cl => { cl with recs := cl.recs.drop (n + 1) }) else w)
        c (recordResult r ((if bit (c.b 20 1) 0 then modCl w p (fun cl => { cl with recs := cl.recs.drop (n + 1) })
          else w).part p).cl.recs.length)) p := by
  refine ⟨_, rfl, ?_⟩
  simp only [actStepRecordGet, inPart_of_scope hp, hr, hpo, Bool.false_eq_true, if_false]

/-- Settles O5, by the act of each row. -/
theorem stepCommandsComplete : Obligations.step_commands_complete :=
  ⟨KciRow.completes_code exec_stepOpen fun _ _ _ hp => inPart_of_scope hp _,
    KciRow.completes_close exec_stepCloseRetry fun _ _ _ hp => inPart_of_scope hp _,
    KciRow.completes_close exec_stepCloseAbandon fun _ _ _ hp => inPart_of_scope hp _,
    KciRow.completes_close exec_stepCloseEval fun _ _ _ hp => inPart_of_scope hp _,
    KciRow.completes_code exec_stepPolicySet fun _ _ _ hp => inPart_of_scope hp _,
    KciRow.completes_code exec_stepRecordGet fun _ _ _ _ _ => actStepRecordGet_of_record⟩

/-- Settles O6, by the act of each row. -/
theorem stateCommandsComplete : Obligations.state_commands_complete :=
  ⟨KciRow.completes_code exec_updGroupSet fun _ _ _ hp => inPart_of_scope hp _,
    KciRow.completes_code exec_exportWorking fun _ _ _ hp => inPart_of_scope hp _,
    KciRow.completes_code exec_exportLogical fun _ _ _ hp => inPart_of_scope hp _,
    KciRow.completes_code exec_importState fun _ _ _ hp => inPart_of_scope hp _⟩

/-! ### Transactions and settings -/

theorem prepare_of_ready {v : State} {c : Cmd} {x : Txn} {unit : Option Nat} (hx : namedTxn v c = some x)
    (hf : prepareFail v { x with commit := some c } unit = none) (h0 : c.b 24 8 = 0) :
    prepare unit v c = modTxn (stageRaise v { x with commit := some c }) c.fn
      (fun t => { t with phase := 1, c := v.chain + 64, commit := some c }) := by
  simp [prepare, hx, hf, h0]

theorem actTxnRollback_of_named {v : State} {c : Cmd} {x : Txn} (hx : namedTxn v c = some x) :
    actTxnRollback v c = atOnce (rollBack v x (fun _ => kROLLED) kROLLED) c [] := by
  rw [actTxnRollback, hx]

/-- Settles O7, by the act of each row. -/
theorem transactionCommandsComplete : Obligations.transaction_commands_complete :=
  ⟨KciRow.completes_code exec_txnBegin fun _ _ => rfl,
    fun unit => KciRow.completes_code (exec_txnCommit · · · unit) fun _ _ _ => prepare_of_ready,
    KciRow.completes_code exec_txnRollback fun _ _ _ => actTxnRollback_of_named⟩

/-- Settles O8, by the setting that each row puts in force. -/
theorem powerSettingCommandsComplete : Obligations.power_setting_commands_complete :=
  ⟨KciRow.completes_code exec_powerLimitSet fun _ _ => ⟨_, rfl, rfl⟩,
    KciRow.completes_code exec_pstepPolicySet fun _ _ => ⟨_, rfl, rfl⟩,
    KciRow.completes_code exec_lattolSet fun _ _ => ⟨_, rfl, rfl⟩⟩

/-- A row of FABRIC_CONFIG puts the setting of its SEL in force. -/
theorem KciRow.completes_fabric {row : Fin 13 → Fin 32 → List (DWord × List Byte) → Instr} {sel : Nat}
    {body : State → Cmd → Option Fail} {effect : State → Cmd → State → Prop}
    (hrow : ∀ f r host s, exec (row f r host) s = fabricRow sel body f r host s)
    (hact : ∀ v c, c.b 16 1 = sel → effect v c (took setFabric v c)) :
    KciRow.Completes ⟨row, fun c => codeIs 0x48 c && c.b 16 1 == sel, checkFabric sel body⟩ effect := by
  refine KciRow.completes_of hrow (fun c c₀ hc ho hr => ?_) (fun v c hc => hact v c ?_)
  · obtain ⟨hcode, hsel⟩ := Bool.and_eq_true_iff.mp hc
    rw [Cmd.b_of_raw hr] at hsel
    rw [codeIs, ho] at hcode
    rw [hcode, hsel, Bool.true_or, Bool.and_true]
  · exact eq_of_beq (Bool.and_eq_true_iff.mp hc).2

/-- What a FABRIC_CONFIG leaves, once its setting is known. -/
theorem took_setFabric {v w : State} {c : Cmd} (h : setFabric v c = w) :
    ∃ u, u = w ∧ took setFabric v c = atOnce u c (okResult u c) := by
  subst h
  exact ⟨_, rfl, rfl⟩

/-- Settles O9, by the fields that each SEL sets. -/
theorem fabricConfigCompletes : Obligations.fabric_config_completes := by
  refine ⟨KciRow.completes_fabric exec_fabricConfigIdentity fun v c h => took_setFabric (by rw [setFabric, h]; rfl),
    KciRow.completes_fabric exec_fabricConfigJob fun v c h p hp => took_setFabric (by rw [setFabric, h, hp]; rfl),
    KciRow.completes_fabric exec_fabricConfigTimers fun v c h => took_setFabric (by rw [setFabric, h]; rfl),
    KciRow.completes_fabric exec_fabricConfigUplink fun v c h => ⟨_, rfl, ?_⟩,
    KciRow.completes_fabric exec_fabricConfigBarrier fun v c h => took_setFabric (by rw [setFabric, h]; rfl),
    KciRow.completes_fabric exec_fabricConfigStaging fun v c h p hp => took_setFabric (by rw [setFabric, h, hp]; rfl),
    KciRow.completes_fabric exec_fabricConfigPort fun v c h n hn => took_setFabric (by rw [setFabric, h, hn]; rfl)⟩
  rw [setFabric, h]
  exact ⟨rfl, rfl, rfl, rfl⟩

/-- R292: the staged entries that a ROUTE_TABLE_SET of the in-tract table takes. -/
theorem vget_routeS_setRoutes (v : State) (c : Cmd) (i : Fin 512) : vget (setRoutes v c false).fab.routeS i =
    if c.b 16 1 = 0 ∧ c.b 17 2 ≤ i.val ∧ i.val < c.b 17 2 + c.b 19 2 then
      RouteEnt.ofBytes (bytesAt c.host (4 * (i.val - c.b 17 2)) 4) else vget v.fab.routeS i := by
  simp [setRoutes, vget]

/-- R292: what the staging of route entries leaves, once the command waits for the chain count. -/
theorem of_staged_routes {v t : State} {c : Cmd} (ht : t = actRouteTableSet v c) :
    t.fab.routeDue = some (v.chain + 1) ∧ t.fab.routeA = v.fab.routeA ∧ t.fab.tractA = v.fab.tractA ∧
    t.kci.live = v.kci.live ++ [c] ∧ t = { v with fab := t.fab, kci := t.kci } ∧
    ∀ i : Fin 512, vget t.fab.routeS i = if c.b 16 1 = 0 ∧ c.b 17 2 ≤ i.val ∧ i.val < c.b 17 2 + c.b 19 2 then
      RouteEnt.ofBytes (bytesAt c.host (4 * (i.val - c.b 17 2)) 4) else vget v.fab.routeS i := by
  obtain ⟨R, T, hR⟩ : ∃ (R : Fabric → _) (T : Fabric → _), setRoutes v c false =
      v.modFab (fun f => { f with routeS := R f, tractS := T f }) := by
    simp only [setRoutes, Bool.false_eq_true, if_false]
    exact ⟨_, _, rfl⟩
  have hi := vget_routeS_setRoutes v c
  rw [actRouteTableSet, hR] at ht
  rw [hR] at hi
  subst ht
  exact ⟨rfl, rfl, rfl, rfl, rfl, hi⟩

/-- Settles O10, by the act of each row. -/
theorem routeAndLinkCommandsComplete : Obligations.route_and_link_commands_complete :=
  ⟨KciRow.completes_code exec_routeTableSet fun _ _ => of_staged_routes rfl,
    KciRow.completes_code exec_linkStatus fun _ _ => ⟨_, rfl⟩⟩

/-! ### Service, time, deeds, firmware and keys -/

theorem actTestpackActivate_of_pack {v : State} {c : Cmd} {i : Fin 4} (h : packOf? (c.b 16 1) = some i) :
    actTestpackActivate v c = atOnce (activatePack v i).1 c (leBytes 4 (vget v.serv.packs i).version.toNat) := by
  rw [actTestpackActivate, h]

theorem actObsLevelSet_of_core {v : State} {c : Cmd} {k : Fin 96} (h : coreOf? (c.b 16 1) = some k) :
    actObsLevelSet v c = atOnce (obsLevel v k (c.b 17 1) (bit (c.b 18 1) 0)) c [] := by
  rw [actObsLevelSet, h]

theorem actCoreRetire_of_core {v : State} {c : Cmd} {k : Fin 96} (h : coreOf? (c.b 16 1) = some k) :
    ∃ w, w = buddyFails (leaveWork (abortKernel (goLive v c) k) k true) k ∧
      actCoreRetire v c = if (w.core k).retired then finish w c kOK 0 [] else w := by
  refine ⟨_, rfl, ?_⟩
  rw [actCoreRetire, h]

theorem actCounterRead_of_space {v : State} {c : Cmd} (h : c.b 16 1 ≠ 0) :
    ∃ w, w = readWords (fun s o => spaceWord s (c.b 16 1) (c.b 17 1) o) (fun s o => spaceLatch s (c.b 16 1) (c.b 17 1) o) v
      (c.b 18 2) (c.b 20 2) ∧ actCounterRead v c = atOnce (w.2.hostWrite (c.b 24 8) w.1) c [] := by
  refine ⟨_, rfl, ?_⟩
  simp only [actCounterRead, if_neg h]

/-- Settles O11, by the act of each row. -/
theorem serviceCommandsComplete : Obligations.service_commands_complete :=
  ⟨KciRow.completes_code exec_testpackLoad fun _ _ => rfl,
    KciRow.completes_code exec_testpackActivate fun _ _ _ => actTestpackActivate_of_pack,
    KciRow.completes_code exec_obsLevelSet fun _ _ _ => actObsLevelSet_of_core,
    KciRow.completes_code exec_coreRetire fun _ _ _ => actCoreRetire_of_core,
    KciRow.completes_code exec_snapshotTake fun _ _ => rfl,
    KciRow.completes_code exec_traceConfig fun _ _ => ⟨_, rfl, rfl⟩,
    KciRow.completes_code exec_counterRead fun _ _ => actCounterRead_of_space⟩

theorem actTimeSet_of_time {v : State} {c : Cmd} {n : Nat} (h : timeOf c = some n) : actTimeSet v c =
    atOnce (v.modSec (fun x => { x with utcBase := BitVec.ofNat 64 n, tsBase := v.ts, timeValid := true })) c [] := by
  rw [actTimeSet, h]

theorem actDeed_of_deed {v : State} {c : Cmd} {r : Fin 5} (h : deedOf? (c.b 16 1) = some r)
    (act : State → Cmd → Fin 5 → State) : actDeed act v c = atOnce (act v c r) c (deedResult (act v c r) r) := by
  rw [actDeed, h]

/-- Settles O12, by the act of each row. -/
theorem timeAndDeedCommandsComplete : Obligations.time_and_deed_commands_complete :=
  ⟨KciRow.completes_code exec_timeSet fun _ _ _ => actTimeSet_of_time,
    KciRow.completes_code exec_timeGet fun _ _ => rfl,
    KciRow.completes_code exec_deedClaim fun _ _ _ hr => ⟨_, rfl, actDeed_of_deed hr _⟩,
    KciRow.completes_code exec_deedRelease fun _ _ _ hr => ⟨_, rfl, actDeed_of_deed hr _⟩,
    KciRow.completes_code exec_deedQuery fun _ _ _ hr => actDeed_of_deed hr _⟩

/-- KEY_PART_SET rows: the command's OP is that of the row. -/
theorem codeIs_op {c d : Cmd} {o op : Nat} (h : (codeIs o c && c.b 17 1 == op) = true) (ho : c.opcode = d.opcode)
    (hr : c.raw = d.raw) : d.opcode = o ∧ d.b 17 1 = op := by
  obtain ⟨hcode, hop⟩ := Bool.and_eq_true_iff.mp h
  exact ⟨ho ▸ eq_of_beq hcode, Cmd.b_of_raw hr 17 1 ▸ eq_of_beq hop⟩

theorem actKeyPartSetLoad_of_kwk {v : State} {c : Cmd} {own : Nat} {i : Fin 32} (ho : keyOwner v c = some own)
    (hi : slotOf? (c.b 16 1) = some i) (hk : c.ktype = 4) :
    actKeyPartSetLoad v c = atOnce (inPart v c (kwkExchange v c)) c [] := by
  simp only [actKeyPartSetLoad, hk, ne_eq, not_true_eq_false, and_false, if_false, ho, hi, if_true]

theorem actKeyPartSetLoad_of_key {v : State} {c : Cmd} {own : Nat} {i : Fin 32} {key : List Byte}
    (ho : keyOwner v c = some own) (hi : slotOf? (c.b 16 1) = some i) (hk : c.ktype ≠ 4) (hb : blobKey v c = some key) :
    actKeyPartSetLoad v c = atOnce (fillSlot
      (if c.wrap = 0 then v.modSec (fun x => { x with nonapproved := true }) else v) i c own key) c [] := by
  have hs : ∀ u, (u = v.modSec (fun x => { x with nonapproved := true }) ∨ u = v) →
      keyOwner u c = some own ∧ blobKey u c = some key := by
    rintro u (rfl | rfl)
    · exact ⟨ho, hb⟩
    · exact ⟨ho, hb⟩
  have hu := hs (if c.wrap = 0 then v.modSec (fun x => { x with nonapproved := true }) else v) (ite_eq_or_eq _ _ _)
  simp only [actKeyPartSetLoad, hk, ne_eq, not_false_eq_true, and_true, hu.1, hi, hu.2, if_false, Option.getD_some]

theorem actKeyPartSetGenerate_of_srk {v : State} {c : Cmd} {own : Nat} {i : Fin 32} (ho : keyOwner v c = some own)
    (hi : slotOf? (c.b 16 1) = some i) (hk : c.ktype = 3) :
    actKeyPartSetGenerate false v c = atOnce (inPart v c (makeSrk v c)) c [] := by
  simp only [actKeyPartSetGenerate, ho, hi, hk, if_true, Bool.false_eq_true, if_false]

theorem actKeyPartSetGenerate_of_key {v : State} {c : Cmd} {own : Nat} {i : Fin 32} {fail : Bool}
    (ho : keyOwner v c = some own) (hi : slotOf? (c.b 16 1) = some i) (hk : c.ktype ≠ 3) :
    actKeyPartSetGenerate fail v c = atOnce (fillSlot (draw v).2 i c own (leBytes 64 (draw v).1.toNat)) c [] := by
  simp only [actKeyPartSetGenerate, ho, hi, hk, if_false]

theorem actKeyPartSetZeroise_of_slot {v : State} {c : Cmd} {i : Fin 32} (hi : slotOf? (c.b 16 1) = some i) :
    actKeyPartSetZeroise v c = atOnce (v.modSec (fun x => { x with
      slots := vset x.slots i .reset
      txFrames := x.txFrames.filter (fun t => decide (t.1.2 ≠ i.val))
      rxWins := x.rxWins.filter (fun w => decide (w.slot ≠ i.val)) })) c [] := by
  rw [actKeyPartSetZeroise, hi]

/-- Settles O13, by the act of each row; KEY_PART_SET by its KTYPE. -/
theorem firmwareAndKeyCommandsComplete : Obligations.firmware_and_key_commands_complete := by
  refine ⟨KciRow.completes_code exec_fwStage fun _ _ => ⟨_, rfl, rfl⟩,
    KciRow.completes_code exec_fwActivate fun _ _ => rfl,
    KciRow.completes_of exec_keyPartSetLoad (fun c c₀ hc ho hr => ?_) fun v c _ own i hown hi =>
      ⟨actKeyPartSetLoad_of_kwk hown hi, fun key hk => actKeyPartSetLoad_of_key hown hi hk⟩,
    fun fail => KciRow.completes_of (exec_keyPartSetGenerate · · · fail) (fun c c₀ hc ho hr => ?_)
      fun v c _ own i hown hi => ⟨fun hk hf => hf ▸ actKeyPartSetGenerate_of_srk hown hi hk,
        actKeyPartSetGenerate_of_key hown hi⟩,
    KciRow.completes_of exec_keyPartSetZeroise (fun c c₀ hc ho hr => ?_) fun _ _ _ _ => actKeyPartSetZeroise_of_slot⟩
  all_goals
    obtain ⟨hcode, hop⟩ := codeIs_op hc ho hr
    simp [hcode, hop]

end Sys2Proof.Machine
end

section
/-! What the submission rings do with a command that fails a check or is staged, and the events of functions, rings, BAR2,
transactions and waiting commands (16): the obligations O14 to O20. -/

namespace Sys2Proof.Machine

/-! ### Failed checks and staged commands -/

/-- R452: a command of the row that fails a check leaves its final completion, with the status of that check. -/
def KciRow.Fails (k : KciRow) : Prop :=
  ∀ (f : Fin 13) (r : Fin 32) (host : List (DWord × List Byte)) (s u : State) (c : Cmd) (status detail : Nat)
    (result : List Byte), offered s f r host = some (c, u) → k.mine c = true →
    firstFail k.check u c = some (status, detail, result) →
    exec (k.row f r host) s = .next (pump (post u c true status detail result) f r)

/-- R467: a command of the row that carries TXN and passes the checks is staged. -/
def KciRow.Stages (k : KciRow) : Prop :=
  ∀ (f : Fin 13) (r : Fin 32) (host : List (DWord × List Byte)) (s u : State) (c : Cmd),
    offered s f r host = some (c, u) → k.mine c = true → firstFail k.check u c = none → c.txn = true →
    exec (k.row f r host) s = .next (pump
      (modTxn (acknowledged u c) c.fn (fun t => { t with staged := t.staged ++ [c] })) f r)

section
variable {row : Fin 13 → Fin 32 → List (DWord × List Byte) → Instr} {o : Nat} {check : State → Cmd → Option Fail}
  {act : State → Cmd → State} (hrow : ∀ f r host s, exec (row f r host) s = runCode o check act f r host s)
include hrow

theorem KciRow.fails_code : KciRow.Fails ⟨row, codeIs o, check⟩ := by
  intro f r host s u c status detail result h hm hf
  rw [hrow, runCode, runRow_offered h fun c₀ ho _ => by simpa only [codeIs, ho] using hm, hf]

theorem KciRow.stages_code : KciRow.Stages ⟨row, codeIs o, check⟩ := by
  intro f r host s u c h hm hf hx
  rw [hrow, runCode, runRow_offered h fun c₀ ho _ => by simpa only [codeIs, ho] using hm, hf]
  simp only [accept, hx, if_true, acknowledged]

end

/-- Settles O14, by the row of each command. -/
theorem failedCheckCompletesWithItsStatus : Obligations.failed_check_completes_with_its_status := by
  change ∀ k ∈ _, KciRow.Fails k
  simp only [List.forall_mem_cons]
  exact ⟨KciRow.fails_code exec_platMap, KciRow.fails_code exec_progStart, KciRow.fails_code exec_stepOpen,
    KciRow.fails_code exec_powerLimitSet, KciRow.fails_code exec_routeTableSet, KciRow.fails_code exec_timeSet,
    KciRow.fails_code exec_fwStage, List.forall_mem_nil _⟩

/-- Settles O15, by the row of each command. -/
theorem stagedCommandWaitsInItsTransaction : Obligations.staged_command_waits_in_its_transaction := by
  change ∀ k ∈ _, KciRow.Stages k
  simp only [List.forall_mem_cons]
  exact ⟨KciRow.stages_code exec_partAssignParcels, KciRow.stages_code exec_platMap, KciRow.stages_code exec_platUnmap,
    KciRow.stages_code exec_stepPolicySet, KciRow.stages_code exec_updGroupSet, KciRow.stages_code exec_powerLimitSet,
    KciRow.stages_code exec_pstepPolicySet, KciRow.stages_code exec_lattolSet, KciRow.stages_code exec_routeTableSet,
    List.forall_mem_nil _⟩

/-! ### Functions and doorbells -/

theorem State.fn_modFn_of_ne (s : State) {f g : Fin 13} (h : g ≠ f) (x : Func → Func) : (s.modFn f x).fn g = s.fn g :=
  vget_vset_of_ne _ _ _ _ h.symm

@[simp] theorem Func.ring0_enable (x : Func) : x.ring0.enable = x.enable := by
  unfold Func.ring0
  split <;> rfl

/-- R447: an enabled function that is READY and has no ring 0 gets it. -/
theorem Func.ring0_of_ready {x : Func} (he : x.enable = true) (hr : x.ready = true) (h0 : vget x.rings 0 = none) :
    vget x.ring0.rings 0 =
      some (Ring.make x.sqLog2.toNat x.cqLog2.toNat x.vector.toNat x.asq.toNat x.acq.toNat) := by
  simp [Func.ring0, he, hr, h0]

theorem exec_kciCtrlEnable_of_up {s : State} (h : s.rst.ctlUp = true) (f : Fin 13) :
    exec (.kciCtrlEnable f) s = .next (s.modFn f (fun x => { x with enable := true }.ring0)) := by
  rw [exec_kciCtrlEnable, execKciCtrlEnable, if_pos h]

/-- What a function-level reset does to a function. -/
def Func.cleared (x : Func) : Func :=
  { x with enable := false, rings := Vector.replicate 32 none, held := [], lostOwed := false }

/-- A command of a function that is reset is answered on no ring. -/
def Cmd.unringed (f : Fin 13) (c : Cmd) : Cmd := if c.fn = f then { c with ring := none } else c

/-- A transaction's commands after the reset of a function. -/
def Txn.unringed (f : Fin 13) (t : Txn) : Txn :=
  { t with staged := t.staged.map (Cmd.unringed f), commit := t.commit.map (Cmd.unringed f) }

/-- R456: a function-level reset of a function without a transaction. -/
theorem functionReset_of_no_txn {s : State} {f : Fin 13} (h : txnOf s f = none) :
    functionReset s f = (s.modFn f Func.cleared).modKci (fun k => { k with
      live := k.live.map (Cmd.unringed f), txns := k.txns.map (Txn.unringed f) }) := by
  have hn : txnOf ((s.modFn f Func.cleared).modKci (fun k => { k with
      live := k.live.map (Cmd.unringed f), txns := k.txns.map (Txn.unringed f) })) f = none := by
    rw [txnOf, List.find?_eq_none] at h ⊢
    intro t ht
    obtain ⟨t₀, ht₀, rfl⟩ := List.mem_map.mp ht
    exact h t₀ ht₀
  unfold functionReset
  dsimp only
  split
  · next t ht => exact absurd (ht.symm.trans hn) (Option.some_ne_none t)
  · rfl

theorem exec_functionLevelReset_of_no_txn {s : State} {f : Fin 13} (h : txnOf s f = none) :
    exec (.functionLevelReset f) s = .next ((s.modFn f Func.cleared).modKci (fun k => { k with
      live := k.live.map (Cmd.unringed f), txns := k.txns.map (Txn.unringed f) })) := by
  rw [exec_functionLevelReset, execFunctionLevelReset, functionReset_of_no_txn h]

/-- Settles O16, by the function that each of the two leaves. -/
theorem functionEnableAndReset : Obligations.function_enable_and_reset := by
  refine ⟨fun f s h => ⟨_, exec_kciCtrlEnable_of_up h f, rfl, ?_, fun g hg => State.fn_modFn_of_ne s hg _,
    fun hr h0 => ?_⟩, fun f s h => ⟨_, exec_functionLevelReset_of_no_txn h,
    rfl, ?_, fun r => ?_, ?_, fun g hg => State.fn_modFn_of_ne s hg _⟩⟩
  · simp
  · rw [State.fn_modFn]
    exact Func.ring0_of_ready rfl hr h0
  · exact congrArg Func.enable (State.fn_modFn s f Func.cleared)
  · refine (congrArg (fun x : Func => vget x.rings r) (State.fn_modFn s f Func.cleared)).trans ?_
    simp [Func.cleared, vget]
  · exact congrArg Func.held (State.fn_modFn s f Func.cleared)

/-- Settles O17, by whether the ring exists and the index lies below its size. -/
theorem doorbellsMoveTheIndex : Obligations.doorbells := by
  refine ⟨fun f r tail entries s q hq ht => ⟨_, rfl, ?_⟩, fun f r head s q hq hh => ?_, fun f r i entries s h => ?_⟩
  · simp only [exec_sqTail, execSqTail, hq, if_neg (Nat.not_le.mpr ht)]
  · simp only [exec_cqHead, execCqHead, hq, if_neg (Nat.not_le.mpr hh)]
  · rw [exec_sqTail, exec_cqHead, execSqTail, execCqHead]
    cases hq : vget (s.fn f).rings r with
    | none => exact ⟨rfl, rfl⟩
    | some q =>
      obtain ⟨hs, hc⟩ := h q hq
      simp only [if_pos hs, if_pos hc, doorbellDrop, and_self]

/-! ### BAR2 -/

/-- The access lies within the BAR of a function whose control domain is up. -/
theorem not_outside_bar {s : State} {f : Fin 13} {x n : Nat} (hup : s.rst.ctlUp = true) (hx : x + n ≤ 2 ^ bar2Log s f) :
    ¬ ((!s.rst.ctlUp) = true ∨ 2 ^ bar2Log s f < x + n) := by
  simp [hup, hx]

/-- An access that does not lie in the stacks as a whole. -/
theorem not_stacks {a n : Nat} (h : inStack a = false ∨ 6 * stackSpan < a + n) :
    ¬ (inStack a = true ∧ a + n ≤ 6 * stackSpan) := by
  rintro ⟨ha, hn⟩
  rcases h with h | h
  · rw [ha] at h
    cases h
  · omega

theorem bar2Read_of_path {s : State} {f : Fin 13} {x : BitVec 38} {n : Nat} (hup : s.rst.ctlUp = true)
    (hx : x.toNat + n ≤ 2 ^ bar2Log s f)
    (hs : inStack (bar2Addr s f x.toNat) = false ∨ 6 * stackSpan < bar2Addr s f x.toNat + n)
    (hf : pathFail s f false (bar2Addr s f x.toNat) n = none) (m : State) (hm : m = meetErrs s [⟨bar2Addr s f x.toNat, n⟩]) :
    exec (.bar2Read f x n) s = .next { (pathRead m (bar2Addr s f x.toNat) n).2 with
      readData := (pathRead m (bar2Addr s f x.toNat) n).1
      busStatus := if pathPoisoned m (bar2Addr s f x.toNat) n then 2 else 0 } := by
  subst hm
  simp only [exec_bar2Read, execBar2Read, if_neg (not_outside_bar hup hx), if_neg (not_stacks hs), hf]

theorem bar2Read_of_refused {s : State} {f : Fin 13} {x : BitVec 38} {n b : Nat} (hup : s.rst.ctlUp = true)
    (hx : x.toNat + n ≤ 2 ^ bar2Log s f)
    (hs : inStack (bar2Addr s f x.toNat) = false ∨ 6 * stackSpan < bar2Addr s f x.toNat + n)
    (hf : pathFail s f false (bar2Addr s f x.toNat) n = some b) :
    exec (.bar2Read f x n) s = .next { pathViolation s f false b with readData := [], busStatus := 1 } := by
  simp only [exec_bar2Read, execBar2Read, if_neg (not_outside_bar hup hx), if_neg (not_stacks hs), hf]

/-- Settles O18, by where the access lies and whether a check refuses it. -/
theorem bar2AccessesReachTheWindow : Obligations.bar2_accesses := by
  refine ⟨fun f x s hup => ⟨fun n hx ha hi => ?_, fun bs hx ha hi => ?_⟩, fun f x n s m hup hx hs hf hm =>
    ⟨_, bar2Read_of_path hup hx hs hf m hm, rfl, rfl, rfl⟩, fun f x n s b hup hx hs hf =>
    ⟨_, bar2Read_of_refused hup hx hs hf, rfl, rfl⟩, fun f x bs s hup hx hs hf => ?_, fun f x bs s b hup hx hs hf => ?_⟩
  · simp only [exec_bar2Read, execBar2Read, if_neg (not_outside_bar hup hx), hi, ha, and_self, if_true, bar2Stack]
  · simp only [exec_bar2Write, execBar2Write, if_neg (not_outside_bar hup hx), hi, ha, and_self, if_true, bar2Stack]
  · simp only [exec_bar2Write, execBar2Write, if_neg (not_outside_bar hup hx), if_neg (not_stacks hs), hf]
  · simp only [exec_bar2Write, execBar2Write, if_neg (not_outside_bar hup hx), if_neg (not_stacks hs), hf]

/-! ### Transactions -/

/-- R246: without a staged PLAT_UNMAP the report of a transaction's units waits for no request. -/
theorem unmapWaits_of_no_unmap {s : State} {t : Txn} (h : ∀ c ∈ t.staged, c.opcode ≠ 0x14) : unmapWaits s t = false := by
  rw [unmapWaits, List.any_eq_false]
  intro c hc hw
  exact h c hc (eq_of_beq (Bool.and_eq_true_iff.mp hw).1)

/-- A fold whose step changes nothing for the entries of the list. -/
theorem foldl_eq_self {α β : Type} {g : α → β → α} {l : List β} (h : ∀ a, ∀ b ∈ l, g a b = a) (a : α) : l.foldl g a = a := by
  induction l with
  | nil => rfl
  | cons b l ih => rw [List.foldl_cons, h a b List.mem_cons_self, ih fun a b hb => h a b (List.mem_cons_of_mem _ hb)]

theorem txnVerifyReport_of_good {s : State} {f : Fin 13} {t : Txn} (ht : txnOf s f = some t) (hp : t.phase = 2)
    (hpause : s.kci.paused = false) (hfault : s.kci.cpFault = false) (hu : ∀ c ∈ t.staged, c.opcode ≠ 0x14) :
    exec (.txnVerifyReport f none) s =
      .next (endTxn s t (fun _ => kOK) kOK 0 (leBytes 8 t.c.toNat ++ leBytes 8 0)) := by
  simp only [exec_txnVerifyReport, execTxnVerifyReport, ht, hp, hpause, hfault, ne_eq, not_true_eq_false,
    Bool.false_eq_true, or_self, if_false, Option.bind_none, unmapWaits_of_no_unmap hu]
  rw [foldl_eq_self fun a c hc => if_neg fun h => hu c hc h.1]

/-- Settles O19, by the phase of the transaction. -/
theorem transactionEvents : Obligations.transaction_events := by
  refine ⟨fun f s t ht hp hb => ?_, fun f s t ht hp hc hr => ?_, fun f s t ht hp hpause hfault hu =>
    txnVerifyReport_of_good ht hp hpause hfault hu, fun f s t i c ht hp hpause hfault hi => ?_,
    fun f s t v ht hp hc hr hv => ?_⟩
  · simp only [exec_txnTimeout, execTxnTimeout, ht, hp, hb, and_self, if_true]
  · simp only [exec_txnSwitch, execTxnSwitch, ht, hp, hc, hr, Bool.not_false, and_self, if_true]
  · simp only [exec_txnVerifyReport, execTxnVerifyReport, ht, hp, hpause, hfault, ne_eq, not_true_eq_false,
      Bool.false_eq_true, or_self, if_false, Option.bind_some, hi]
  · simp only [exec_txnRevert, execTxnRevert, ht, hp, hc, hr, Bool.not_false, and_self, if_true, unswitch, hv]

/-! ### Commands that wait -/

theorem partitionResetDrained_of_reset {s : State} {p : Fin 12} (h : (s.part p).underReset = true) :
    exec (.partitionResetDrained p) s = .next (match (liveOf (endPartReset s p) 0x11 p).head? with
      | some c => finish (destroyPart (endPartReset s p) p) c kOK 0 []
      | none => endPartReset s p) := by
  simp only [exec_partitionResetDrained, execPartitionResetDrained, h, Bool.not_true, Bool.false_eq_true, if_false] <;> rfl

theorem endPartReset_underReset (s : State) (p : Fin 12) : ((endPartReset s p).part p).underReset = false := by
  rw [endPartReset, State.part_modPart]

theorem progStopTimeout_of_young {s : State} {p : Fin 12} (h : ∀ c ∈ liveOf s 0x22 p, s.since c.due < 10 * msTicks) :
    exec (.progStopTimeout p) s = .next s := by
  have hn : (liveOf s 0x22 p).find? (fun c => decide (10 * msTicks ≤ s.since c.due)) = none := by
    rw [List.find?_eq_none]
    intro c hc hd
    have hlt := h c hc
    have hle := of_decide_eq_true hd
    omega
  rw [exec_progStopTimeout, execProgStopTimeout, hn]

theorem progStopTimeout_of_old {s : State} {p : Fin 12} {c : Cmd} {cs : List Cmd} {k : Fin 96} {ks : List (Fin 96)}
    (hc : liveOf s 0x22 p = c :: cs) (hd : 10 * msTicks ≤ s.since c.due)
    (hk : (maskCores c 16).filter (fun k => !(s.core k).stopped) = k :: ks) :
    exec (.progStopTimeout p) s = .next (beginPartReset (finish s c kFAULT k.val []) p (fun _ => false)) := by
  have hf : (maskCores c 16).find? (fun k => !(s.core k).stopped) = some k := by
    rw [← List.head?_filter, hk, List.head?_cons]
  simp only [exec_progStopTimeout, execProgStopTimeout, hc, List.find?_cons, decide_eq_true hd, hf]

/-- Settles O20, by what each waiting command still lacks. -/
theorem waitingCommandsEnd : Obligations.waiting_commands_end := by
  refine ⟨fun p s => ⟨fun h => ?_, fun h => ⟨_, rfl, endPartReset_underReset s p, fun hl => ?_, fun c cs hl => ?_⟩⟩,
    fun p s => ⟨progStopTimeout_of_young, fun c cs k ks => progStopTimeout_of_old⟩, fun f h s c hc => ?_,
    fun f h s c p hc hp hg hr => ?_⟩
  · simp only [exec_partitionResetDrained, execPartitionResetDrained, h, Bool.not_false, if_true]
  · rw [partitionResetDrained_of_reset h, hl]
    rfl
  · rw [partitionResetDrained_of_reset h, hl]
    rfl
  · rw [exec_memCopyDone, execMemCopyDone, hc]
  · rw [exec_exportDone, execExportDone, hc]
    simp only [hp, hg, hr, Bool.and_self, if_true]

end Sys2Proof.Machine
end

section
/-! The sequencer's own operations, the ends of instructions, and the registers of a core (03): the obligations O22 to
O25. -/

namespace Sys2Proof.Machine

/-! ### Commands of a core -/

theorem onCore_of_open {s : State} {c : Fin 96} (h : coreShut s c = false) (gap : Nat) (f : State → State) :
    onCore c gap s f = .next (f (passCore s c gap)) := by
  simp only [onCore, h, Bool.false_eq_true, if_false]

/-- R98: a quarantined or held-out core takes nothing from the control path. -/
theorem onPath_of_out {s : State} {c : Fin 96} {gap : Nat} (h : coreShut s c = false)
    (ho : coreOut (passCore s c gap) c = true) (f : State → State) : onPath c gap s f = .next (passCore s c gap) := by
  simp only [onPath, onCore_of_open h, ho, if_true]

theorem onPath_of_in {s : State} {c : Fin 96} {gap : Nat} (h : coreShut s c = false)
    (ho : coreOut (passCore s c gap) c = false) (f : State → State) : onPath c gap s f = .next (f (passCore s c gap)) := by
  simp only [onPath, onCore_of_open h, ho, Bool.false_eq_true, if_false]

/-! ### The sequencer's own operations -/

/-- R76: the sequencer's own operation at the fetch index of a sequencer that may run, its waits met. -/
theorem seqExec_of_ready {u : State} {c : Fin 96} {i w op : Nat} {act : State → Nat → Nat → State}
    (hf : (u.core c).fetching = true) (hd : (u.core c).seqDone = false) (hi : i = (u.core c).fetchIndex.toNat)
    (hlt : i < 2048) (hw : w = u.num (progAddr c i) 32) (he : insEng w = 15) (hm : waitsMet (u.core c) w = true)
    (ho : insOp w = op) : seqExec op act c u = act (seqRan u c i w) i w := by
  subst hi hw
  simp only [seqExec, hf, hd, he, ho, hm, Nat.not_le.mpr hlt, Bool.not_true, Bool.false_eq_true, ne_eq, not_true_eq_false,
    or_self, if_false]

theorem loopAct_of_zero {c : Fin 96} {s : State} {i w : Nat} (h : loopCount w = 0) :
    loopAct c s i w = seqNext s c (loopEnd w) :=
  if_pos h

theorem loopAct_of_rounds {c : Fin 96} {s : State} {i w : Nat} (h : loopCount w ≠ 0) :
    loopAct c s i w = s.modCore c (fun k => { k with
      fetchIndex := BitVec.ofNat 12 (i + 1), loops := (i, loopEnd w, loopCount w) :: k.loops
      blockCause := 0, blockEng := 0, seqDone := true }) :=
  if_neg h

/-- Settles O22, by the operation at the fetch index. -/
theorem sequencerOperationsComplete : Obligations.sequencer_operations_complete := by
  rintro c gap s u i w hs rfl hf hd hi hlt hw he hm
  refine ⟨fun ho => ?nop, fun ho hc => ?skipped, fun ho hc => ?loop, fun ho => ?halt⟩
  case nop => rw [exec_nop, execNop, onCore_of_open hs, seqExec_of_ready hf hd hi hlt hw he hm ho]
  case skipped => rw [exec_loop, execLoop, onCore_of_open hs, seqExec_of_ready hf hd hi hlt hw he hm ho, loopAct_of_zero hc]
  case loop => rw [exec_loop, execLoop, onCore_of_open hs, seqExec_of_ready hf hd hi hlt hw he hm ho, loopAct_of_rounds hc]
  case halt => rw [exec_halt, execHalt, onCore_of_open hs, seqExec_of_ready hf hd hi hlt hw he hm ho, haltAct]

/-! ### Instructions end -/

/-- What keeps the instruction in flight `f` of engine `e` from completing (R85, R221, R315). -/
def Flight.kept (u : State) (c : Fin 96) (e : Fin 10) (f : Flight) : Prop :=
  (∃ x, f.xi = some x ∧ x.done = false) ∨ f.unsent ≠ [] ∨ heldWrite (u.core c) e f = true ∨
    (u.ms.mstepTo.isSome = true ∧ f.onStack = true)

/-- INSTRUCTION_COMPLETE of an instruction that nothing keeps. -/
theorem instructionComplete_of_free {s u : State} {c : Fin 96} {e : Fin 10} {gap : Nat} {f : Flight} {rest : List Flight}
    (hs : coreShut s c = false) (hu : u = passCore s c gap) (hf : (u.core c |>.engine e).flight = f :: rest)
    (hx : ∀ x, f.xi = some x → x.done = true) (hn : f.unsent = []) (hw : heldWrite (u.core c) e f = false)
    (hm : u.ms.mstepTo = none ∨ f.onStack = false) :
    exec (.instructionComplete c e gap) s = .next (completeOldest u c e) := by
  subst hu
  have hst : f.stalled (passCore s c gap) = false := by
    rcases hm with hm | hm
    · rw [Flight.stalled, hm, Option.isSome_none, Bool.false_and]
    · rw [Flight.stalled, hm, Bool.and_false]
  rw [exec_instructionComplete, execInstructionComplete, onCore_of_open hs, hf]
  refine congrArg _ (if_pos ?_)
  rw [hn, hw, hst, List.isEmpty_nil, Bool.not_false, Bool.and_true, Bool.and_true, Bool.and_true]
  cases hxi : f.xi with
  | none => rfl
  | some x => exact hx x hxi

/-- INSTRUCTION_COMPLETE of an instruction that something keeps. -/
theorem instructionComplete_of_kept {s u : State} {c : Fin 96} {e : Fin 10} {gap : Nat} {f : Flight} {rest : List Flight}
    (hs : coreShut s c = false) (hu : u = passCore s c gap) (hf : (u.core c |>.engine e).flight = f :: rest)
    (hk : f.kept u c e) : exec (.instructionComplete c e gap) s = .next u := by
  subst hu
  rw [exec_instructionComplete, execInstructionComplete, onCore_of_open hs, hf]
  refine congrArg _ (if_neg fun h => ?_)
  simp only [Bool.and_eq_true, Bool.not_eq_true'] at h
  obtain ⟨⟨⟨hx, hn⟩, hw⟩, hst⟩ := h
  rcases hk with ⟨x, hxi, hd⟩ | hk | hk | ⟨hm, ho⟩
  · rw [hxi] at hx
    exact Bool.noConfusion (hd.symm.trans hx)
  · exact hk (List.isEmpty_iff.mp hn)
  · exact Bool.noConfusion (hw.symm.trans hk)
  · rw [Flight.stalled, hm, ho] at hst
    cases hst

/-- Settles O23, by what keeps the oldest instruction, by the code of a fault, and by what a stopping core still does. -/
theorem instructionsEnd : Obligations.instructions_end := by
  refine ⟨fun c e gap s u f rest hs hu hf => ⟨instructionComplete_of_free hs hu hf,
    instructionComplete_of_kept hs hu hf⟩, fun c e k code gap s f hs hf hc => ?_, ?stops⟩
  · rw [exec_instructionFault, execInstructionFault, onCore_of_open hs, hf]
    exact congrArg _ (if_pos hc)
  case stops =>
    rintro c gap s u hs rfl hst hi hk
    rw [exec_coreStopped, execCoreStopped, onCore_of_open hs]
    simp only [settleStop, hst, hi, hk, Bool.not_false, Bool.true_or, Bool.and_self, if_true]

/-! ### CORE_CTRL -/

theorem bit_or (v m : Word) (i : Nat) : bit (v ||| m).toNat i = (bit v.toNat i || bit m.toNat i) := by
  simp only [bit, BitVec.toNat_or, Nat.testBit_or]

/-- Bits below a field do not touch it. -/
theorem field_or_low (v m : Word) {lo : Nat} (len : Nat) (h : m.toNat < 2 ^ lo) :
    field (v ||| m).toNat lo len = field v.toNat lo len := by
  have hm : m.toNat >>> lo = 0 := by rw [Nat.shiftRight_eq_div_pow, Nat.div_eq_of_lt h]
  simp only [field, BitVec.toNat_or, Nat.shiftRight_or_distrib, hm, Nat.or_zero]

/-- R75: what a write of CORE_CTRL has stored before its bits act. -/
def storesStart (u : State) (c : Fin 96) (v : Word) : State :=
  u.modCore c (fun k => { k with startIndex := BitVec.ofNat 11 (field v.toNat 16 11) })

theorem State.modCore_modCore (s : State) (c : Fin 96) (f g : Core → Core) :
    (s.modCore c f).modCore c g = s.modCore c (fun k => g (f k)) := by
  have hv : vset (vset s.cores c (f (s.core c))) c (g (f (s.core c))) = vset s.cores c (g (f (s.core c))) :=
    Vector.set_set ..
  rw [State.modCore, State.core_modCore]
  exact congrArg (fun v => { s with cores := v }) hv

theorem storesStart_core (u : State) (c : Fin 96) (v : Word) : (storesStart u c v).core c =
    { u.core c with startIndex := BitVec.ofNat 11 (field v.toNat 16 11) } :=
  State.core_modCore _ _ _

/-- The fields of a core that the START_INDEX of a write leaves. -/
theorem storesStart_field {α : Type} (p : Core → α) (hp : ∀ (k : Core) i, p { k with startIndex := i } = p k) (u : State)
    (c : Fin 96) (v : Word) : p ((storesStart u c v).core c) = p (u.core c) := by
  rw [storesStart_core, hp]

theorem coreCtrlWrite_or (u : State) (c : Fin 96) (v m : Word) (hm : m.toNat < 2 ^ 16) : coreCtrlWrite u c (v ||| m) =
    let s := if bit (v ||| m).toNat 2 then clrCounters (storesStart u c v) c (v ||| m) else storesStart u c v
    let s := if bit (v ||| m).toNat 1 ∧ ((s.core c).stopped = false ∨ (s.core c).faulted) then stopCore s c else s
    if bit (v ||| m).toNat 0 ∧ (s.core c).stopped = true then startCore s c else s := by
  rw [coreCtrlWrite, field_or_low v m 11 hm]
  rfl

theorem coreCtrlWrite_start {u : State} {c : Fin 96} {v : Word} (hs : (u.core c).stopped = true)
    (h1 : bit v.toNat 1 = false) (h2 : bit v.toNat 2 = false) :
    coreCtrlWrite u c (v ||| 1) = startCore (storesStart u c v) c := by
  have b0 : bit (v ||| 1).toNat 0 = true := by rw [bit_or, show bit (1 : Word).toNat 0 = true from rfl, Bool.or_true]
  have b1 : bit (v ||| 1).toNat 1 = false := by rw [bit_or, h1, show bit (1 : Word).toNat 1 = false from rfl, Bool.or_false]
  have b2 : bit (v ||| 1).toNat 2 = false := by rw [bit_or, h2, show bit (1 : Word).toNat 2 = false from rfl, Bool.or_false]
  have hs' := (storesStart_field Core.stopped (fun _ _ => rfl) u c v).trans hs
  simp only [coreCtrlWrite_or u c v 1 (by decide), b0, b1, b2, hs', Bool.false_eq_true, false_and, and_self, if_false, if_true]

theorem coreCtrlWrite_stop {u : State} {c : Fin 96} {v : Word} (hs : (u.core c).stopped = false ∨ (u.core c).faulted = true)
    (h0 : bit v.toNat 0 = false) (h2 : bit v.toNat 2 = false) :
    coreCtrlWrite u c (v ||| 2) = stopCore (storesStart u c v) c := by
  have b0 : bit (v ||| 2).toNat 0 = false := by rw [bit_or, h0, show bit (2 : Word).toNat 0 = false from rfl, Bool.or_false]
  have b1 : bit (v ||| 2).toNat 1 = true := by rw [bit_or, show bit (2 : Word).toNat 1 = true from rfl, Bool.or_true]
  have b2 : bit (v ||| 2).toNat 2 = false := by rw [bit_or, h2, show bit (2 : Word).toNat 2 = false from rfl, Bool.or_false]
  rw [← storesStart_field Core.stopped (fun _ _ => rfl) u c v, ← storesStart_field Core.faulted (fun _ _ => rfl) u c v] at hs
  simp only [coreCtrlWrite_or u c v 2 (by decide), b0, b1, b2, hs, Bool.false_eq_true, false_and, and_self, if_false, if_true]

theorem coreCtrlWrite_clr {u : State} {c : Fin 96} {v : Word} (h0 : bit v.toNat 0 = false) (h1 : bit v.toNat 1 = false) :
    coreCtrlWrite u c (v ||| 4) = clrCounters (storesStart u c v) c (v ||| 4) := by
  have b0 : bit (v ||| 4).toNat 0 = false := by rw [bit_or, h0, show bit (4 : Word).toNat 0 = false from rfl, Bool.or_false]
  have b1 : bit (v ||| 4).toNat 1 = false := by rw [bit_or, h1, show bit (4 : Word).toNat 1 = false from rfl, Bool.or_false]
  have b2 : bit (v ||| 4).toNat 2 = true := by rw [bit_or, show bit (4 : Word).toNat 2 = true from rfl, Bool.or_true]
  simp only [coreCtrlWrite_or u c v 4 (by decide), b0, b1, b2, Bool.false_eq_true, false_and, if_false, if_true]

/-- A core that START begins, from its registers before. -/
def Core.begun (k : Core) : Core :=
  { k with
    faulted := false, told := false, fault := { k.fault with valid := false }
    eng := k.eng.map (fun e => { e with queue := [], faulted := false })
    loops := [], mx := .reset, halted := false, stopping := false
    stopped := false, fetching := true, fetchIndex := BitVec.ofNat 12 k.startIndex.toNat, blockCause := 0, blockEng := 0 }

/-- R88: START of a core whose program loaded well. -/
theorem startCore_of_loaded {u : State} {c : Fin 96} (h : (u.core c).loadFault = none) :
    startCore u c = u.modCore c Core.begun := by
  unfold startCore
  simp only [State.core_modCore, h, State.modCore_modCore]
  rfl

/-- Settles O24, by the bits that the write sets. -/
theorem coreCtrlWrites : Obligations.core_ctrl_writes := by
  refine ⟨?out, ?start, ?stop, ?clear, ?ignored⟩
  case out =>
    rintro c v gap s u hs rfl ho
    rw [exec_coreCtrlStart, exec_coreCtrlStop, exec_coreCtrlClrCounters, execCoreCtrlStart, execCoreCtrlStop,
      execCoreCtrlClrCounters, onPath_of_out hs ho, onPath_of_out hs ho, onPath_of_out hs ho]
    exact ⟨rfl, rfl, rfl⟩
  case start =>
    rintro c v gap s u hs rfl ho hst hl h1 h2
    rw [exec_coreCtrlStart, execCoreCtrlStart, onPath_of_in hs ho, coreCtrlWrite_start hst h1 h2,
      startCore_of_loaded ((storesStart_field Core.loadFault (fun _ _ => rfl) _ c v).trans hl)]
    refine ⟨_, rfl, rfl, fun d hd => ?_, ?_⟩
    · rw [State.core_modCore_of_ne _ _ _ _ hd.symm, storesStart, State.core_modCore_of_ne _ _ _ _ hd.symm]
    · simp only [State.core_modCore, storesStart_core]
      refine ⟨rfl, rfl, rfl, rfl, rfl, rfl, rfl, fun e => ?_⟩
      simp [Core.engine, Core.begun]
  case stop =>
    rintro c v gap s u hs rfl ho hst h0 h2
    rw [exec_coreCtrlStop, execCoreCtrlStop, onPath_of_in hs ho, coreCtrlWrite_stop hst h0 h2, storesStart]
  case clear =>
    rintro c v gap s u hs rfl ho hst h0 h1
    have hst' := (storesStart_field Core.stopped (fun _ _ => rfl) _ c v).trans hst
    rw [exec_coreCtrlClrCounters, execCoreCtrlClrCounters, onPath_of_in hs ho, coreCtrlWrite_clr h0 h1, clrCounters,
      if_pos hst']
    rw [storesStart, State.modCore_modCore]
    rfl
  case ignored =>
    rintro c v gap s u w hs rfl ho hst h0 h1 rfl
    have hst' := (storesStart_field Core.stopped (fun _ _ => rfl) _ c v).trans hst
    rw [exec_coreCtrlClrCounters, execCoreCtrlClrCounters, onPath_of_in hs ho, coreCtrlWrite_clr h0 h1, clrCounters, hst']
    rfl

/-! ### The other registers of a core -/

theorem readCore_of_closed {s : State} {c : Fin 96} (h : coreAbsent c = true ∨ coreOut s c = true) (gap : Nat)
    (f : State → State) : readCore c gap s f = .next { s with readData := List.replicate 4 0 } := by
  rw [readCore, if_pos (by rwa [coreClosed, Bool.or_eq_true]), State.returns]

theorem readCore_of_open {s : State} {c : Fin 96} (ha : coreAbsent c = false) (ho : coreOut s c = false) (gap : Nat)
    (f : State → State) : readCore c gap s f = .next (f (passCore s c gap)) := by
  rw [readCore, if_neg (by simp [coreClosed, ha, ho])]

@[simp] theorem State.core_returns (s : State) (bs : List Byte) (c : Fin 96) : (s.returns bs).core c = s.core c := rfl

/-- Settles O25, by whether the control path may write and by the register. -/
theorem coreRegisters : Obligations.core_registers := by
  refine ⟨?out, ?writes, ?always, ?reads, ?closed⟩
  case out =>
    rintro c gap s u hs rfl ho
    have h := onPath_of_out hs ho
    exact ⟨fun n inc => (exec_seqSignal ..).trans (h _), fun tag => (exec_stepTagWrite ..).trans (h _),
      fun e hold => (exec_engCtrlStep ..).trans (h _), fun v => (exec_ologWptrWrite ..).trans (h _),
      fun hi => ⟨(exec_vxSeedHi ..).trans (h _), (exec_edgeSeedHi ..).trans (h _)⟩⟩
  case writes =>
    rintro c gap s u hs rfl ho
    have h := onPath_of_in hs ho
    refine ⟨fun n inc hi => (exec_seqSignal ..).trans ((h _).trans ?_),
      fun n => (exec_seqSignal ..).trans ((h _).trans ?_), fun tag => ⟨_, (exec_stepTagWrite ..).trans (h _)⟩,
      fun e hold => (exec_engCtrlStep ..).trans (h _), fun v => (exec_ologWptrWrite ..).trans (h _),
      fun hi => (exec_vxSeedHi ..).trans (h _), fun hi => (exec_edgeSeedHi ..).trans (h _)⟩
    · rw [if_neg hi]
    · rw [if_pos rfl]
  case always =>
    rintro c gap s u hs rfl
    have h := onCore_of_open hs gap
    exact ⟨(exec_acCtrlSample ..).trans (h _), (exec_acCtrlClear ..).trans (h _),
      fun v => (exec_fbCtrlEnable ..).trans (h _), fun v => (exec_fbCtrlTrigger ..).trans (h _)⟩
  case reads =>
    rintro c gap s u ha ho rfl
    have h := readCore_of_open ha ho gap
    refine ⟨⟨_, (exec_vxStateLo ..).trans (h _), rfl, ?_, rfl⟩, ⟨_, (exec_edgeStateLo ..).trans (h _), rfl, ?_, rfl⟩,
      fun b i => ⟨_, (exec_acLoRead ..).trans (h _), ?_⟩, fun b => ⟨_, (exec_acLoRead ..).trans (h _), rfl⟩⟩
    · rw [State.core_returns, State.core_modCore]
      rfl
    · rw [State.core_returns, State.core_modCore]
      rfl
    · rw [dif_pos i.isLt]
      dsimp only
      rw [State.core_returns, State.core_modCore]
      exact ⟨rfl, rfl⟩
  case closed =>
    exact fun c gap s h => ⟨(exec_vxStateLo ..).trans (readCore_of_closed h gap _),
      (exec_edgeStateLo ..).trans (readCore_of_closed h gap _)⟩

end Sys2Proof.Machine
end

section
/-! Instructions at the head of an engine's queue (03, 07): one that may start and passes its checks is in flight, one that
fails a check faults its core, one that may not start waits; the obligations O26 to O29. -/

namespace Sys2Proof.Machine

/-! ### What a start command does with the head of its queue -/

theorem startCmd_of_open {s : State} {c : Fin 96} (h : coreShut s c = false) (e : Fin 10) (op gap : Nat)
    (ready : State → Fin 96 → Nat → Bool) (work : Work) : startCmd s c e op gap ready work =
      match headReady (passCore s c gap) c e op with
      | none => passCore s c gap
      | some q => if ready (passCore s c gap) c q.word.toNat && stacksTake (passCore s c gap) c e q work
          then startHead (passCore s c gap) c e q work else passCore s c gap := by
  simp only [startCmd, h, Bool.false_eq_true, if_false] <;> rfl

/-- The row runs the start command of its engine and operation. -/
def EngRow.Runs (k : EngRow) : Prop :=
  ∀ c gap s, exec (k.row c gap) s = .next (startCmd s c k.eng k.op gap k.ready k.work)

theorem EngRow.startCmd_of_ready {k : EngRow} {c : Fin 96} {gap : Nat} {s : State} {q : QEnt} (h : k.Ready c gap s q) :
    startCmd s c k.eng k.op gap k.ready k.work = startHead (passCore s c gap) c k.eng q k.work := by
  obtain ⟨hs, hq, hr, ht⟩ := h
  rw [startCmd_of_open hs, hq]
  exact if_pos (by rw [hr, ht, Bool.and_self])

/-- R82, R211: the head that passes its checks and whose work reports no fault is in flight. -/
theorem startHead_of_sound {u b v m : State} {c : Fin 96} {e : Fin 10} {q : QEnt} {work : Work} {o : DWord} {f : Eff}
    (hb : b = beginStart u c e q) (hc : startCheck b c q.word.toNat = none) (ho : originAt b c e q = .ok v o)
    (hm : m = meetErrs v (work v c q.word.toNat q.slot.toNat o).reads)
    (hf : f = work m c q.word.toNat q.slot.toNat o) (hn : f.fault = none) :
    startHead u c e q work = f.st.modCore c (fun x => x.modEng e (fun n =>
      { n with flight := n.flight ++ [flightOf u m c q f], accept := max 1 f.accept })) := by
  subst hb hm hf
  rw [originAt] at ho
  simp only [startHead, hc, ho, hn]
  rfl

theorem startHead_of_failed_check {u b : State} {c : Fin 96} {e : Fin 10} {q : QEnt} {work : Work} {code : Nat}
    (hb : b = beginStart u c e q) (hc : startCheck b c q.word.toNat = some code) :
    startHead u c e q work = faultHead b c e q code := by
  subst hb
  simp only [startHead, hc]

/-- R82: a row that runs its start command starts the head of its queue. -/
theorem EngRow.Runs.starts {k : EngRow} (h : k.Runs) : k.Starts (fun s _ => s) := by
  intro c gap s u b v m q o f hr hu hb hc ho hm hf hn
  subst hu
  rw [h c gap s, startCmd_of_ready hr, startHead_of_sound hb hc ho hm hf hn]

/-! ### The rows of the engines -/

/-- Settles O26: every row runs its start command. -/
theorem movementInstructionsStart : Obligations.movement_instructions_start := by
  simp only [Obligations.movement_instructions_start, List.forall_mem_cons, List.not_mem_nil, false_implies, implies_true,
    and_true]
  and_intros
  all_goals exact EngRow.Runs.starts fun _ _ _ => rfl

/-- Settles O27: every row runs its start command. -/
theorem arrayAndVectorInstructionsStart : Obligations.array_and_vector_instructions_start := by
  simp only [Obligations.array_and_vector_instructions_start, List.forall_mem_cons, List.not_mem_nil, false_implies,
    implies_true, and_true]
  and_intros
  all_goals exact EngRow.Runs.starts fun _ _ _ => rfl

/-! ### Instructions that do not start -/

/-- R88: what a fault leaves of its core. -/
theorem faultWith_core (s : State) (c : Fin 96) (e slot code : Nat) (more : List Byte) :
    ((faultWith s c e slot code more).core c).faulted = true ∧ ((faultWith s c e slot code more).core c).stopped = true ∧
      ((faultWith s c e slot code more).core c).fetching = false := by
  have h : ∃ k : Core, (k.faulted = true ∧ k.stopped = true ∧ k.fetching = false) ∧
      ((faultWith s c e slot code more).core c).sansBook = k.sansBook := by
    refine ⟨_, ⟨?_, ?_, ?_⟩, ((((OnlyBook.refl _).trans (record_onlyBook _ _ _ _ _)).trans (fbPut_onlyBook _ _ _ _ _)).trans
      (fbTrigger_onlyBook _ _ _)).h c |>.trans (congrArg Core.sansBook (State.core_setCore _ _ _))⟩ <;> rfl
  obtain ⟨k, ⟨hf, hst, hfe⟩, hk⟩ := h
  exact ⟨(Core.field_eq_of_sansBook Core.faulted (fun _ => rfl) hk).trans hf,
    (Core.field_eq_of_sansBook Core.stopped (fun _ => rfl) hk).trans hst,
    (Core.field_eq_of_sansBook Core.fetching (fun _ => rfl) hk).trans hfe⟩

/-- R211: a row that runs its start command faults on a failed check. -/
theorem EngRow.Runs.faults {k : EngRow} (h : k.Runs) (c : Fin 96) (gap : Nat) (s b : State) (q : QEnt) (code : Nat)
    (hr : k.Ready c gap s q) (hb : b = beginStart (passCore s c gap) c k.eng q)
    (hc : startCheck b c q.word.toNat = some code) :
    ∃ t, exec (k.row c gap) s = .next t ∧ t = faultHead b c k.eng q code ∧ (t.core c).faulted = true ∧
      (t.core c).stopped = true ∧ (t.core c).fetching = false :=
  ⟨_, (h c gap s).trans (congrArg _ ((startCmd_of_ready hr).trans (startHead_of_failed_check hb hc))), rfl,
    faultWith_core _ _ _ _ _ _⟩

/-- R82: a row that runs its start command leaves a head that may not start. -/
theorem EngRow.Runs.waits {k : EngRow} (h : k.Runs) (c : Fin 96) (gap : Nat) (s u : State) (hs : coreShut s c = false)
    (hu : u = passCore s c gap) (hw : ∀ q, headReady u c k.eng k.op = some q →
      k.ready u c q.word.toNat = false ∨ stacksTake u c k.eng q k.work = false) : exec (k.row c gap) s = .next u := by
  subst hu
  rw [h c gap s, startCmd_of_open hs]
  cases hq : headReady (passCore s c gap) c k.eng k.op with
  | none => rfl
  | some q => exact congrArg _ (if_neg (by rcases hw q hq with hr | ht <;> simp [*]))

/-- Settles O29: every row runs its start command. -/
theorem instructionsThatDoNotStart : Obligations.instructions_that_do_not_start := by
  refine ⟨fun k hk => EngRow.Runs.faults ?faults, fun k hk => EngRow.Runs.waits ?waits⟩
  all_goals
    revert k
    simp only [List.forall_mem_cons, List.not_mem_nil, false_implies, implies_true, and_true]
    and_intros
    all_goals exact fun _ _ _ => rfl

/-! ### A gated instruction under SKIP with the field book on -/

/-- A UPD_APPLY without operands: engine 8, operation 1. -/
def bareUpdApply : BitVec 256 := BitVec.ofNat 256 (8 + 1 * 2 ^ 4)

/-- Core `c` of partition 0 with a UPD_APPLY at the head of UP and its field book on, the commit gate at SKIP. -/
def skipsWithBook (c : Fin 96) : State := { State.reset with
  rst := { State.reset.rst with dpUp := true }
  clk := { State.reset.clk with gated := false }
  ms := { State.reset.ms with pmapA := Vector.replicate 12 ⟨0, true⟩ }
  parts := vset State.reset.parts 0 { Part.reset with cl := { Part.reset.cl with gate := 2 } }
  cores := vset State.reset.cores c { Core.reset with
    eng := vmod Core.reset.eng 8 (fun n => { n with queue := [⟨0, bareUpdApply⟩] })
    fb := { Core.reset.fb with enable := true } } }

theorem skipsWithBook_gate (c : Fin 96) (hc : c = 0 ∨ c = 1) : gateOf (skipsWithBook c) c = 2 := by
  rcases hc with rfl | rfl <;> decide

/-- Where the field book is on, the START record of a skipped instruction goes to the field book's memory. -/
theorem skipsWithBook_starts (c : Fin 96) (hc : c = 0 ∨ c = 1) :
    headReady (skipsWithBook c) c 8 1 = some ⟨0, bareUpdApply⟩ ∧
      residentFor (skipsWithBook c) c 8 bareUpdApply.toNat = true ∧
      (beginStart (skipsWithBook c) c 8 ⟨0, bareUpdApply⟩).mem ≠ (skipsWithBook c).mem := by
  rcases hc with rfl | rfl <;> decide +kernel

/-- Of cores 0 and 1 at most one is fused off. -/
theorem core_zero_or_one_present : ∃ c : Fin 96, (c = 0 ∨ c = 1) ∧ coreAbsent c = false := by
  cases h : coreAbsent 0 with
  | false => exact ⟨0, .inl rfl, h⟩
  | true =>
    have hf : (Config.fusedSlot 0).val = 0 := of_decide_eq_true (Bool.and_eq_true_iff.1 h).2
    exact ⟨1, .inr rfl, (Bool.and_eq_false_iff).2 (.inr (decide_eq_false fun h1 : (Config.fusedSlot 0).val = 1 => by omega))⟩

theorem skipsWithBook_open (c : Fin 96) (hc : c = 0 ∨ c = 1) (hp : coreAbsent c = false) :
    coreShut (skipsWithBook c) c = false := by
  rw [coreShut, hp]
  rcases hc with rfl | rfl <;> decide +kernel

theorem skipsWithBook_passes (c : Fin 96) (hc : c = 0 ∨ c = 1) (hp : coreAbsent c = false) :
    gatePasses (skipsWithBook c) c = true := by
  rw [gatePasses, isStepCore, hp]
  rcases hc with rfl | rfl <;> decide +kernel

/-- Refutes O28: with the gate at SKIP and the field book on, the start of UPD_APPLY writes its START record into memory. -/
theorem not_rankAndUpdateInstructionsStart : ¬ Obligations.rank_and_update_instructions_start := by
  rintro ⟨-, -, h⟩
  obtain ⟨c, hc, hp⟩ := core_zero_or_one_present
  have hg := skipsWithBook_gate c hc
  obtain ⟨hq, hr, hm⟩ := skipsWithBook_starts c hc
  have hr : gateReady (skipsWithBook c) c bareUpdApply.toNat = true :=
    Bool.and_eq_true_iff.2 ⟨skipsWithBook_passes c hc hp, hr⟩
  obtain ⟨fl, -, -, -, -, hmem, -⟩ := (h _ List.mem_cons_self).2 c 0 (skipsWithBook c) (skipsWithBook c) _ _ hg
    (skipsWithBook_open c hc hp) rfl hq hr rfl
  exact hm hmem

end Sys2Proof.Machine
end

section
/-! Limits, supply, power control, clocks, temperature and telemetry (17, 18, 20); the obligations O30 to O33. -/

namespace Sys2Proof.Machine

/-! ### Limits and supply -/

/-- R480, R571: what a COMMIT does by the deed of MGMT_PRIMARY. -/
theorem execLimCtrlCommit_of_agent {w : Writer} {i : Fin 2} (h : writerAgent w = some i) (epoch : Word) (s : State) :
    execLimCtrlCommit w epoch s = .next
      (let t := { s with pw := { s.pw with limEpoch := epoch } }
       if (vget s.kci.deeds 4).holder ≠ agentCode i ∨ (vget s.kci.deeds 4).epoch ≠ epoch then
         standDown { t with pw := { t.pw with limOutcome := 3 } } i
       else if !s.pw.limS.inRange then { t with pw := { t.pw with limOutcome := 2 } }
       else { t with pw := { t.pw with limDue := some (s.pw.limS, s.chain + 64), limOutcome := 0 } }) := by
  simp only [execLimCtrlCommit, h]
  rfl

theorem execLimFlush_of_agent {w : Writer} {i : Fin 2} (h : writerAgent w = some i) (epoch : Word) (stop : Bool) (s : State) :
    execLimFlush w epoch stop s = .next
      (let t := { s with pw := { s.pw with limEpoch := epoch } }
       if (vget s.kci.deeds 4).holder = agentCode i ∧ (vget s.kci.deeds 4).epoch = epoch then
         { t with pw := { t.pw with flushStop := stop } } else t) := by
  simp only [execLimFlush, h]
  rfl

theorem execAvsWriteTimeout_of_rail {bus : Fin 4} {sel : Fin 16} {r : Fin 10} (h : avsRail bus.val sel.val = some r)
    (s : State) : execAvsWriteTimeout bus sel s = .next
      (if s.pw.avsRetried.contains (bus.val * 16 + sel.val) then
        s.modPw (fun w => { w with
          cals := vmod w.cals r (fun x => { x with avsFailed := true, lossAt := some (x.lossAt.getD s.ts), fresh := 0 })
          avsRetried := w.avsRetried.filter (fun i => decide (i ≠ bus.val * 16 + sel.val)), calValid := false })
      else record (sendAvs (s.modPw (fun w => { w with avsRetried := w.avsRetried ++ [bus.val * 16 + sel.val] }))
        (bus.val * 16 + sel.val) (avsRequest s r.val)) 0x0502 15 0x7F ([2] ++ leBytes 1 r.val)) := by
  simp only [execAvsWriteTimeout, h]

@[simp] theorem vget_ofFn {α : Type} {n : Nat} (f : Fin n → α) (i : Fin n) : vget (Vector.ofFn f) i = f i := by
  simp [vget]

/-- R483: the entry of a rail after a poll that read `x` of it. -/
def Cal.polled (c : Cal) (now : DWord) : Option (Nat × Nat × Nat) → Cal
  | some (v, a, p) => { c with
      volt := v, amp := (a : Rat) / 1000, watt := (p : Rat) / 1000, readAt := now, new := true
      lossAt := if c.avsFailed then c.lossAt else none }
  | none => { c with new := false, lossAt := some (c.lossAt.getD now) }

theorem execPmbusPoll_of_primary {s : State} (hp : (primary? s).isSome = true) (hd : s.mg.descValid = true)
    (reads : List (Option (Nat × Nat × Nat))) : execPmbusPoll reads s = .next { s with pw := { s.pw with
      cals := Vector.ofFn (fun i : Fin 10 => (vget s.pw.cals i).polled s.ts reads[i.val]?.join) } } := by
  have hn : (primary? s).isNone = false := by rw [← Option.not_isSome, hp]; rfl
  simp only [execPmbusPoll, hn, hd, Bool.not_true, Bool.false_eq_true, or_self, if_false, State.modPw]
  rfl

/-- Settles O30, by the holder of the deed and by the due count of each event. -/
theorem limitsAndSupplyEvents : Obligations.limits_and_supply_events := by
  refine ⟨?limits, ?apply, ?sense, ?mask, ?droop, ?skip, ?avs, ?correct, ?poll, ?calibrate⟩
  case limits =>
    intro w epoch s i hw
    refine ⟨fun hh he hr => ?_, fun hh he hr => ?_, fun hn => ?_, fun stop hh he => ?_, fun stop hn => ?_⟩
    · rw [exec_limCtrlCommit, execLimCtrlCommit_of_agent hw]
      simp [hh, he, hr]
    · rw [exec_limCtrlCommit, execLimCtrlCommit_of_agent hw]
      simp [hh, he, hr]
    · rw [exec_limCtrlCommit, execLimCtrlCommit_of_agent hw]
      exact congrArg _ (if_pos hn)
    · rw [exec_limFlush, execLimFlush_of_agent hw]
      exact congrArg _ (if_pos ⟨hh, he⟩)
    · rw [exec_limFlush, execLimFlush_of_agent hw]
      exact congrArg _ (if_neg fun ⟨hh, he⟩ => hn.elim (· hh) (· he))
  case apply =>
    intro s l c hd hc
    simp only [exec_limitsApply, execLimitsApply, hd, if_pos hc]
    rfl
  case sense => exact fun n mask s => ⟨fun h => congrArg _ (if_neg h), rfl⟩
  case mask =>
    intro n s m c hd hc
    simp only [exec_pointMaskApply, execPointMaskApply, hd, if_pos hc]
    rfl
  case droop => exact fun d mv cycles s hm hr => congrArg _ (if_pos ⟨d.isLt, hm, hr⟩)
  case skip =>
    intro cycles s hs
    refine ⟨_, ?_, rfl⟩
    simp [skipFor, hs, State.modPw]
  case avs =>
    intro bus sel s r hr
    refine ⟨fun h => ?_, fun h => ?_⟩ <;> rw [exec_avsWriteTimeout, execAvsWriteTimeout_of_rail hr, h]
    · rfl
    · refine ⟨_, rfl, rfl, ?_⟩
      simp only [if_true, State.modPw]
      refine ⟨?_, ?_, ?_, fun q hq => ?_⟩
      · simp [vmod]
      · simp [vmod]
      · simp [vmod]
      · exact vget_vset_of_ne _ _ _ _ hq.symm
  case correct =>
    intro lowest s hm ht
    refine ⟨fun h hc => ⟨_, rfl, ?_⟩, fun h hc => ⟨_, rfl, ?_⟩, fun h h' => ?_⟩
    · simp [exec_voltageCorrection, execVoltageCorrection, h, hc, hm, ht, State.modPw]
    · have h' : ¬ lowest + 10 < stepMv s.pw.pstep.toNat := by omega
      simp [exec_voltageCorrection, execVoltageCorrection, h, h', hc, hm, ht, State.modPw]
    · simp [exec_voltageCorrection, execVoltageCorrection, Nat.not_lt.2 h, Nat.not_lt.2 h', State.modPw]
  case poll =>
    intro reads s hp hd
    refine ⟨_, execPmbusPoll_of_primary hp hd reads, rfl, fun i => ⟨fun v a p h => ?_, fun h => ?_⟩⟩
    · simp only [vget_ofFn, h, Option.join_some]
      exact ⟨rfl, rfl, rfl, rfl, rfl, fun hf => if_neg (by simp [hf])⟩
    · have hn : reads[i.val]?.join = none := by rcases h with h | h <;> rw [h] <;> rfl
      simp only [vget_ofFn, hn]
      rfl
  case calibrate =>
    intro est s
    refine ⟨_, rfl, rfl, fun i => vget_ofFn _ i, rfl, fun h => if_pos h, fun hv hr => ?_⟩
    refine (if_congr Iff.rfl rfl ?_).trans (ite_self _)
    rw [hv, Bool.false_or]
    exact Bool.and_eq_false_iff.2 (.inl (decide_eq_false (by simpa using hr)))

/-! ### Power control -/

/-- `t` differs from `s` in the power part alone, and there not in the estimate, the VLOG current and the averages. -/
def SameAverages (s t : State) : Prop :=
  t = { s with pw := t.pw } ∧ t.pw.est = s.pw.est ∧ t.pw.vlogI = s.pw.vlogI ∧ t.pw.ewmaShort = s.pw.ewmaShort ∧
    t.pw.ewmaSust = s.pw.ewmaSust ∧ t.pw.tdcI = s.pw.tdcI

theorem SameAverages.refl (s : State) : SameAverages s s := ⟨rfl, rfl, rfl, rfl, rfl, rfl⟩

theorem SameAverages.trans {s t u : State} (h : SameAverages s t) (g : SameAverages t u) : SameAverages s u := by
  obtain ⟨h0, h1, h2, h3, h4, h5⟩ := h
  obtain ⟨g0, g1, g2, g3, g4, g5⟩ := g
  refine ⟨?_, g1.trans h1, g2.trans h2, g3.trans h3, g4.trans h4, g5.trans h5⟩
  rw [g0, h0]

theorem SameAverages.ite {s t u : State} {c : Prop} [Decidable c] (h : SameAverages s t) (g : SameAverages s u) :
    SameAverages s (if c then t else u) := by
  split
  exacts [h, g]

theorem modPw_sameAverages {f : Power → Power} (s : State) (h : ∀ w, (f w).est = w.est ∧ (f w).vlogI = w.vlogI ∧
    (f w).ewmaShort = w.ewmaShort ∧ (f w).ewmaSust = w.ewmaSust ∧ (f w).tdcI = w.tdcI) : SameAverages s (s.modPw f) :=
  ⟨rfl, h _⟩

theorem skipFor_sameAverages (s : State) (cycles : Nat) : SameAverages s (skipFor s cycles) := by
  unfold skipFor
  exact modPw_sameAverages s fun _ => ⟨rfl, rfl, rfl, rfl, rfl⟩

theorem judgeTrips_sameAverages (s : State) : SameAverages s (judgeTrips s) := by
  unfold judgeTrips
  exact modPw_sameAverages s fun _ => ⟨rfl, rfl, rfl, rfl, rfl⟩

theorem visitStep_sameAverages (s : State) (c : Fin 96) (w : Rat) : SameAverages s (visitStep s c w) := by
  unfold visitStep
  extract_lets v p obs u
  have hu : SameAverages s u := .ite (.refl s) (modPw_sameAverages s fun _ => ⟨rfl, rfl, rfl, rfl, rfl⟩)
  exact hu.trans (modPw_sameAverages u fun _ => ⟨rfl, rfl, rfl, rfl, rfl⟩)

theorem foldl_sameAverages {α : Type} (f : State → α → State) (h : ∀ s a, SameAverages s (f s a)) (as : List α)
    (s : State) : SameAverages s (as.foldl f s) := by
  induction as generalizing s with
  | nil => exact .refl s
  | cons a as ih => exact (h s a).trans (ih _)

theorem fillBuckets_sameAverages (s : State) (spent : Fin 96 → Rat) : SameAverages s (fillBuckets s spent) :=
  modPw_sameAverages s fun _ => ⟨rfl, rfl, rfl, rfl, rfl⟩

theorem setShare_sameAverages (s : State) (v : Vector Rat 96) : SameAverages s (s.modPw (fun w => { w with share := v })) :=
  modPw_sameAverages s fun _ => ⟨rfl, rfl, rfl, rfl, rfl⟩

theorem setBucket_sameAverages (s : State) (v : Vector Rat 96) :
    SameAverages s (s.modPw (fun w => { w with bucket := v })) :=
  modPw_sameAverages s fun _ => ⟨rfl, rfl, rfl, rfl, rfl⟩

/-- R486, R489: after the estimator has noted its sums nothing of what follows in its tick changes them. -/
theorem execEstimatorTick_averages (rails : List Nat) (matrix : Nat) (demand : List Nat)
    (slots : List (Fin 96 × Nat × Nat × Nat × Nat)) (s : State) : ∃ w t, execEstimatorTick rails matrix demand slots s =
      .next t ∧ SameAverages { s with pw := w } t ∧ w.est = sumRat ((List.finRange 10).map (fun i =>
        (vget s.pw.cals i).gain * ((rails.getD i.val 0 : Rat) / 1000) + (vget s.pw.cals i).off)) ∧
      w.ewmaShort = s.pw.ewmaShort + (w.est - s.pw.ewmaShort) / 10000 ∧
      w.ewmaSust = s.pw.ewmaSust + (w.est - s.pw.ewmaSust) / 1000000 ∧
      w.tdcI = s.pw.tdcI + (w.vlogI - s.pw.tdcI) / 1000000 := by
  unfold execEstimatorTick
  extract_lets w rail pkg vlogI l edc up low skip n u v x spent y
  have huk : SameAverages u (if skip then skipFor u (stepMhz u.pw.pstep.toNat) else u) :=
    .ite (skipFor_sameAverages u _) (.refl u)
  have hkv : SameAverages (if skip then skipFor u (stepMhz u.pw.pstep.toNat) else u) v := judgeTrips_sameAverages _
  have hvx : SameAverages v x := foldl_sameAverages _ (fun s c => visitStep_sameAverages s c _) _ v
  have hxy : SameAverages x y := .ite (setShare_sameAverages x _) (setShare_sameAverages x _)
  have hu : SameAverages { s with pw := u.pw } u := ⟨rfl, rfl, rfl, rfl, rfl, rfl⟩
  exact ⟨u.pw, _, rfl, hu.trans (huk.trans (hkv.trans (hvx.trans (hxy.trans
    (.ite (fillBuckets_sameAverages y _) (setBucket_sameAverages y _)))))), rfl, rfl, rfl, rfl⟩

theorem record_pw (s : State) (code part core : Nat) (body : List Byte) : (record s code part core body).pw = s.pw := by
  unfold record
  split <;> rfl

theorem upFrom_five_four : upFrom 5 4 = [5, 6, 7, 8] := rfl

/-- R499: the step that fallback goes to. -/
def fallbackStep (s : State) (act : Nat × Nat × Nat × Nat) (t : Rat) (cur : Nat) : Nat :=
  let p := ((upFrom 5 4).find? (fun p => decide (predicted s act p ≤ t))).getD 8
  max p (if cur < 5 then 5 else p)

theorem fallbackStep_range (s : State) (act : Nat × Nat × Nat × Nat) (t : Rat) (cur : Nat) :
    5 ≤ fallbackStep s act t cur ∧ fallbackStep s act t cur ≤ 8 := by
  have h : ∀ p, (upFrom 5 4).find? (fun p => decide (predicted s act p ≤ t)) = some p → 5 ≤ p ∧ p ≤ 8 := by
    intro p hp
    have hm := List.mem_of_find?_eq_some hp
    simp only [upFrom_five_four, List.mem_cons, List.not_mem_nil, or_false] at hm
    omega
  have hp : 5 ≤ ((upFrom 5 4).find? (fun p => decide (predicted s act p ≤ t))).getD 8 ∧
      ((upFrom 5 4).find? (fun p => decide (predicted s act p ≤ t))).getD 8 ≤ 8 := by
    cases hf : (upFrom 5 4).find? (fun p => decide (predicted s act p ≤ t)) with
    | none => exact ⟨by decide, le_rfl⟩
    | some p => exact h p hf
  simp only [fallbackStep]
  split <;> omega

theorem enterW_wstate (s : State) {w : Nat} (h : w ≤ 4) : (enterW s w).pw.wstate.toNat = w := by
  have hw : (BitVec.ofNat 3 w).toNat = w := by simp; omega
  have he : (enterW s w).pw.wstate = BitVec.ofNat 3 w := by
    simp only [enterW]
    split
    · rfl
    · split <;> rfl
  rw [he, hw]

/-- Settles O31, by the condition that each event waits for. -/
theorem powerControlEvents : Obligations.power_control_events := by
  refine ⟨?estimate, ?loan, ?decision, ?enterFallback, ?inFallback, ?entry, ?wake, ?exit, ?twoLane⟩
  case estimate =>
    intro rails matrix demand slots s
    obtain ⟨w, t, ht, ⟨h0, h1, h2, h3, h4, h5⟩, e1, e2, e3, e4⟩ := execEstimatorTick_averages rails matrix demand slots s
    exact ⟨t, ht, h0, h1.trans e1, by rw [h3, h1, e2], by rw [h4, h1, e3], by rw [h5, h2, e4]⟩
  case loan =>
    intro c s hr hw hl
    exact congrArg _ (if_pos (by simp [hr, hw, hl]))
  case decision =>
    intro dyn sram other leak s hp ht
    exact congrArg _ (if_neg (by simp [ht, Option.isSome_iff_ne_none.1 hp]))
  case enterFallback =>
    intro dyn sram other leak s hf ht hd
    refine ⟨_, fallbackStep (record { s with pw := { s.pw with
      t := some (s.pw.limA.plSust.toNat : Rat), limiter := 7, fallback := true } } 0x0502 15 0x7F [1, 0xFF])
      (dyn, sram, other, leak) s.pw.limA.plSust.toNat s.pw.pstep.toNat, rfl, (fallbackStep_range _ _ _ _).1,
      (fallbackStep_range _ _ _ _).2, ?_⟩
    rw [exec_powerFallback, execPowerFallback, if_neg (by simp [ht]; omega)]
    simp only [hf, Bool.false_eq_true, if_false, record_pw, State.modPw]
    rfl
  case inFallback =>
    intro dyn sram other leak s hf ht hd
    refine ⟨fallbackStep s (dyn, sram, other, leak) s.pw.limA.plSust.toNat s.pw.pstep.toNat,
      (fallbackStep_range _ _ _ _).1, (fallbackStep_range _ _ _ _).2, ?_⟩
    rw [exec_powerFallback, execPowerFallback, if_neg (by simp [ht]; omega)]
    simp only [hf, if_true]
    rfl
  case entry =>
    intro blocked s hi ha hw hm hs hd hr he ht h4 hb
    refine ⟨_, ?_, rfl, enterW_wstate s (by omega)⟩
    refine congrArg _ (if_neg ?_)
    have h4' : ¬ (s.pw.wstate.toNat + 1 = 4 ∧ (!w4Ok s) = true) := fun ⟨h3, hn⟩ => by
      rw [h4 (BitVec.eq_of_toNat_eq (by simpa using h3))] at hn
      exact absurd hn (by decide)
    have hb' : ¬ (2 ≤ s.pw.wstate.toNat + 1 ∧ (!blocked) = true ∧ (!drained s) = true) := fun ⟨h2, hn, hd⟩ => by
      rcases hb with h | h | h <;> simp_all
    rintro (h | h | h | h | h | h | h | h | h | h | h)
    exacts [by omega, by simp [hi] at h, by simp [ha] at h, by simp [hm] at h, by simp [hs] at h, by simp [hd] at h,
      by simp [hr] at h, by simp [he] at h, by simp [ht] at h, h4' h, hb' h]
  case wake =>
    intro cause s hw ht
    exact congrArg _ (if_neg (not_or.2 ⟨hw, not_or.2 ⟨by omega, by simp [ht]⟩⟩))
  case exit =>
    intro s he
    rw [exec_wStateExitDone, execWStateExitDone, if_neg (by simp [he])]
    refine ⟨_, rfl, rfl, rfl, fun hw => ?_, fun hw => ?_⟩
    · rw [if_neg (by omega), if_neg (by omega)]
      rfl
    · rw [if_pos hw]
      rfl
  case twoLane =>
    intro n s hw hp hb
    exact congrArg _ (if_pos ⟨hw, hp, by simp [hb]⟩)

/-! ### Clocks and temperature -/

/-- R494: what a switch does before a waiting fallback moves on. -/
def switched (s : State) (m : StepMove) : State :=
  let u := { s with
    clk := { s.clk with cur := s.clk.armed, armValid := false }
    pw := { s.pw with pstep := m.target, move := none, stepChanges := satAdd s.pw.stepChanges 1 } }
  let u := rescaleDemand u m.old.toNat m.target.toNat
  if m.old.toNat < m.target.toNat then writeVlog u (vlogRequest u m.target.toNat) else u

theorem execPstepSwitch_of_armed {s : State} {m : StepMove} (hm : s.pw.move = some m) (hp : m.phase = 1)
    (hv : s.clk.armValid = true) (hc : s.clk.armCount ≤ s.chain) (hr : s.clk.relocking = false) :
    execPstepSwitch s = .next (fallbackMove (switched s m)) := by
  have h : m.phase = 1 ∧ s.clk.armValid = true ∧ s.clk.armCount ≤ s.chain ∧ (!s.clk.relocking) = true :=
    ⟨hp, hv, hc, by rw [hr]; rfl⟩
  simp only [execPstepSwitch, hm, if_pos h]
  rfl

/-- A relock ends the move in flight and keeps the VLOG request (R520). -/
theorem abortMove_kept (s : State) : (abortMove s true).pw.move = none ∧
    abortMove s true = { s with clk := (abortMove s true).clk, pw := (abortMove s true).pw, tel := (abortMove s true).tel } ∧
    (abortMove s true).clk.jitter = s.clk.jitter := by
  cases hm : s.pw.move with
  | none => simp only [abortMove, hm]; exact ⟨trivial, trivial, trivial⟩
  | some m =>
    simp only [abortMove, hm, if_true, record]
    split <;> exact ⟨rfl, rfl, rfl⟩

/-- R518, R520: an alarm outside a relock begins one. -/
theorem jitterAlarm_of_steady {s : State} (hr : s.clk.relocking = false) (hf : s.clk.failed = false)
    (ht : s.th.tripped = false) (m : Nat) : (jitterAlarm s m).clk.relocking = true ∧ (jitterAlarm s m).clk.gated = true ∧
      (jitterAlarm s m).clk.locked = false ∧ (jitterAlarm s m).clk.tries = 0 ∧
      (jitterAlarm s m).clk.jitter = satAdd s.clk.jitter 1 ∧ (jitterAlarm s m).pw.move = none ∧ jitterAlarm s m = { s with
        clk := (jitterAlarm s m).clk, pw := (jitterAlarm s m).pw, tel := (jitterAlarm s m).tel } := by
  obtain ⟨hm, hs, hj⟩ := abortMove_kept s
  have hn : ¬ (s.clk.relocking = true ∨ s.clk.failed = true ∨ s.th.tripped = true) := by simp [hr, hf, ht]
  rw [jitterAlarm, if_neg hn]
  simp only [record]
  split
  · refine ⟨rfl, rfl, rfl, rfl, congrArg (satAdd · 1) hj, hm, ?_⟩
    rw [hs]
    rfl
  · refine ⟨rfl, rfl, rfl, rfl, congrArg (satAdd · 1) hj, hm, ?_⟩
    rw [hs]
    rfl

theorem writeVlog_only (s : State) (mv : Int) : writeVlog s mv = { s with pw := (writeVlog s mv).pw } := rfl

/-- R534: the step that keep-warm puts in force. -/
def setWarmStep (s : State) (p : Nat) : State :=
  if s.pw.pstep.toNat = p then s
  else
    let u := s.modPw (fun w => { w with pstep := BitVec.ofNat 4 p, target := BitVec.ofNat 4 p })
    writeVlog (u.modClk (fun c => { c with cur := BitVec.ofNat 4 p })) (vlogRequest u p)

theorem setWarmStep_facts (s : State) (p : Nat) : (setWarmStep s p).th = s.th ∧
    (setWarmStep s p).pw.pstep = BitVec.ofNat 4 p ∧
    setWarmStep s p = { s with clk := (setWarmStep s p).clk, pw := (setWarmStep s p).pw } := by
  unfold setWarmStep
  split
  case isTrue h => exact ⟨rfl, by rw [← h, BitVec.ofNat_toNat, BitVec.setWidth_eq], rfl⟩
  case isFalse => exact ⟨rfl, rfl, rfl⟩

/-- R534: a tick at W3 or deeper. -/
theorem execKeepWarmTick_of_deep {s : State} (hp : (primary? s).isSome = true) (hw : 3 ≤ s.pw.wstate.toNat)
    (hk : s.th.kwEn = true) (ht : s.th.tripped = false) (he : s.pw.exiting = false) : ∃ t : Therm, execKeepWarmTick s =
      .next (setWarmStep { s with th := t } (if 0 < t.heat then 4 else 8)) ∧ t.kwActive = true := by
  have hn : ¬ ((primary? s).isNone = true ∨ s.pw.wstate.toNat < 3 ∨ (!s.th.kwEn) = true ∨ s.th.tripped = true ∨
      s.pw.exiting = true) := by
    simp [Option.isSome_iff_ne_none.1 hp, hk, ht, he]
    omega
  rw [execKeepWarmTick, if_neg hn]
  exact ⟨_, rfl, rfl⟩

/-- Settles O32, by the reading that each event takes. -/
theorem clockAndThermalEvents : Obligations.clock_and_thermal_events := by
  refine ⟨?move, ?fallback, ?jitter, ?duty, ?escalate, ?check, ?release, ?read, ?sensor, ?warn, ?trip, ?warm⟩
  case move =>
    intro s m hm
    refine ⟨fun lowest hp hv hl => ?_, fun first second hp hv h1 h2 => ?_, fun hp hv hc hr => ?_, fun hp hb => ?_⟩
    · simp only [exec_pstepRaise, execPstepRaise, hm, if_pos (And.intro hp (And.intro hv hl))]
    · simp only [exec_pstepVerify, execPstepVerify, hm, if_pos (And.intro hp (And.intro hv (And.intro h1 h2)))]
      rfl
    · refine ⟨switched s m, (exec_pstepSwitch s).trans (execPstepSwitch_of_armed hm hp hv hc hr), ?_⟩
      simp only [switched]
      split <;> exact ⟨rfl, rfl, rfl, rfl, rfl, rfl, rfl⟩
    · simp only [exec_pstepAbort, execPstepAbort, hm, if_pos (And.intro hp hb)]
  case fallback =>
    intro s h
    exact if_neg fun ⟨hf, hp, hw⟩ => by
      rcases h with h | h | h
      · simp [h] at hf
      · omega
      · exact h hw
  case jitter =>
    intro m s hr hf ht
    cases m with
    | none => exact ⟨_, rfl, jitterAlarm_of_steady hr hf ht 0xFF⟩
    | some m =>
      have h := jitterAlarm_of_steady (s := s.modClk (fun c => { c with
        mons := vmod c.mons m (fun x => { x with shortAlarm := true }) })) hr hf ht m.val
      obtain ⟨h1, h2, h3, h4, h5, h6, h7⟩ := h
      exact ⟨_, rfl, h1, h2, h3, h4, h5, h6, h7⟩
  case duty =>
    intro m pct corr s
    refine ⟨_, rfl, rfl, ?_⟩
    simp only [State.modClk, vmod, vget_vset_self, true_and]
    refine ⟨fun h1 h2 => ?_, fun h => ?_⟩
    · have hb : ¬ (pct.toNat < 46 ∨ 54 < pct.toNat) := by omega
      simp [hb]
    · simp [h]
  case escalate => exact fun m s ha hd => congrArg _ (if_pos ⟨ha, hd⟩)
  case check =>
    intro count s hr hf hc
    have hn : ¬ ((!s.clk.relocking) = true ∨ s.clk.failed = true ∨ s.clk.checked = true) := by simp [hr, hf, hc]
    refine ⟨fun h1 h2 => ?_, fun h ht => ?_, fun h ht => ?_⟩ <;> rw [exec_relockCheck, execRelockCheck, if_neg hn]
    · rw [if_pos ⟨h1, h2⟩]
      rfl
    · rw [if_neg (by omega), if_pos (by omega)]
      rfl
    · rw [if_neg (by omega), if_neg (by omega)]
      rfl
  case release => exact fun s hr hc hf ht => congrArg _ (if_pos ⟨hr, hc, by simp [hf], by simp [ht]⟩)
  case read => exact fun s => ⟨⟨_, rfl, rfl, rfl⟩, ⟨_, rfl, rfl, rfl⟩, ⟨_, rfl, rfl, rfl⟩⟩
  case sensor =>
    intro i s h
    exact ⟨_, rfl, congrArg _ (if_neg (by simp [h]))⟩
  case warn =>
    intro s
    refine ⟨fun hw ht => ?_, fun hw ht => ?_, fun h1 h2 => ?_⟩
    · exact congrArg (fun x => Host.Outcome.next (thermalWatch x)) (if_pos ⟨by simp [hw], ht⟩)
    · refine congrArg (fun x => Host.Outcome.next (thermalWatch x)) ((if_neg ?_).trans (if_pos ⟨hw, ht⟩))
      simp [hw]
    · refine congrArg (fun x => Host.Outcome.next (thermalWatch x)) ((if_neg ?_).trans (if_neg ?_)) <;> omega
  case trip =>
    intro i s ht
    have hn : ¬ s.th.tripped = true := by simp [ht]
    refine ⟨_, (exec_thermtrip i s).trans (congrArg Host.Outcome.next (if_neg hn)), ?_⟩
    exact ⟨rfl, rfl, rfl, rfl, rfl, rfl, writeVlog_only _ _⟩
  case warm =>
    intro s hp hw hk ht he
    obtain ⟨t, ht, ha⟩ := execKeepWarmTick_of_deep hp hw hk ht he
    obtain ⟨hth, hps, hs⟩ := setWarmStep_facts { s with th := t } (if 0 < t.heat then 4 else 8)
    have hth' : (setWarmStep { s with th := t } (if 0 < t.heat then 4 else 8)).th = t := hth
    refine ⟨_, ht, by rw [hth', ha], ?_, ?_⟩
    · rw [hps, hth']
      exact apply_ite _ _ _ _
    · rw [hth']
      exact hs

/-! ### Telemetry -/

/-- A pass over cores that changes those which `p` does not leave out. -/
theorem foldl_modCore {p : State → Fin 96 → Bool} {g : Core → Core} (hp : ∀ s c d, p (s.modCore c g) d = p s d)
    (l : List (Fin 96)) (hl : l.Nodup) (s : State) : ∃ cs : Vector Core 96,
      l.foldl (fun s c => if p s c then s else s.modCore c g) s = { s with cores := cs } ∧
      ∀ c, vget cs c = if c ∈ l ∧ p s c = false then g (s.core c) else s.core c := by
  induction l generalizing s with
  | nil => exact ⟨s.cores, rfl, fun c => (if_neg fun h => List.not_mem_nil h.1).symm⟩
  | cons a l ih =>
    obtain ⟨ha, hl⟩ := List.nodup_cons.1 hl
    rw [List.foldl_cons]
    cases hpa : p s a with
    | true =>
      rw [if_pos rfl]
      obtain ⟨cs, hcs, hc⟩ := ih hl s
      refine ⟨cs, hcs, fun c => (hc c).trans (if_congr ?_ rfl rfl)⟩
      have hne : p s c = false → c ≠ a := fun h e => by simp [e, hpa] at h
      simp only [List.mem_cons]
      exact ⟨fun ⟨h, h'⟩ => ⟨.inr h, h'⟩, fun ⟨h, h'⟩ => ⟨h.resolve_left (hne h'), h'⟩⟩
    | false =>
      rw [if_neg Bool.false_ne_true]
      obtain ⟨cs, hcs, hc⟩ := ih hl (s.modCore a g)
      refine ⟨cs, hcs, fun c => (hc c).trans ?_⟩
      rw [hp]
      by_cases hca : c = a
      · subst hca
        rw [if_neg fun h => ha h.1, if_pos ⟨List.mem_cons_self, hpa⟩, State.core_modCore]
      · rw [State.core_modCore_of_ne _ _ _ _ (Ne.symm hca)]
        simp [hca]

theorem coreShut_modCore_acSample (s : State) (c d : Fin 96) : coreShut (s.modCore c acSample) d = coreShut s d := by
  simp only [coreShut]
  by_cases h : c = d
  · subst h
    rw [State.core_modCore]
    rfl
  · rw [State.core_modCore_of_ne _ _ _ _ h]
    rfl

/-- `t` differs from `s` in the power part alone. -/
def OnlyPw (s t : State) : Prop := ∃ w, t = { s with pw := w }

theorem OnlyPw.refl (s : State) : OnlyPw s s := ⟨_, rfl⟩

theorem modPw_onlyPw (s : State) (f : Power → Power) : OnlyPw s (s.modPw f) := ⟨_, rfl⟩

theorem OnlyPw.trans {s t u : State} (h : OnlyPw s t) (g : OnlyPw t u) : OnlyPw s u := by
  obtain ⟨w, rfl⟩ := h
  obtain ⟨w', rfl⟩ := g
  exact ⟨w', rfl⟩

theorem OnlyPw.ite {s t u : State} {c : Prop} [Decidable c] (h : OnlyPw s t) (g : OnlyPw s u) :
    OnlyPw s (if c then t else u) := by
  split
  exacts [h, g]

theorem tjStep_onlyPw (s : State) : OnlyPw s (tjStep s) := by
  unfold tjStep
  extract_lets reg tj u a v
  have hu : OnlyPw s u := .ite (.ite (modPw_onlyPw s _) (.refl s)) (.refl s)
  have hv : OnlyPw s v := hu.trans (modPw_onlyPw u _)
  refine .ite hu ?_
  split
  · exact .ite (hv.trans (modPw_onlyPw v _)) hv
  · exact hv

theorem setTarget_onlyPw (s : State) : OnlyPw s (setTarget s) := by
  unfold setTarget
  exact modPw_onlyPw s _

theorem noteMean_only (s : State) : ∃ t, noteMean s = { s with th := t } ∧ t.sens = s.th.sens := by
  unfold noteMean
  split <;> exact ⟨_, rfl, rfl⟩

theorem noteMean_modTh (s : State) (f : Therm → Therm) :
    ∃ t, noteMean (s.modTh f) = { s with th := t } ∧ t.sens = (f s.th).sens := noteMean_only (s.modTh f)

theorem record_only (s : State) (code part core : Nat) (body : List Byte) :
    ∃ t, record s code part core body = { s with tel := t } := by
  unfold record
  split <;> exact ⟨_, rfl⟩

theorem snapTrigger_of_idle {s : State} (hh : s.snap.hold = false) (hc : s.snap.capturing = false)
    (hs : s.snap.sampleAt = none) (b : Nat) : snapTrigger s b =
      s.modSnap (fun x => { x with sources := BitVec.ofNat 3 (2 ^ b), sampleAt := some (s.chain + 2) }) := by
  simp only [snapTrigger, hh, hc, hs, Bool.false_eq_true, if_false]

/-- A pass that only writes memory changes memory and poison alone. -/
theorem foldl_write_only {α : Type} (a : State → α → Nat) (bs : State → α → List Byte) (l : List α) (s : State) :
    ∃ m p, l.foldl (fun s x => s.write (a s x) (bs s x) false) s = { s with mem := m, poison := p } := by
  induction l generalizing s with
  | nil => exact ⟨_, _, rfl⟩
  | cons x l ih => exact ih (s.write (a s x) (bs s x) false)

/-- R587: the field book after `n` of its records have moved to the ring. -/
def FieldBook.drained (f : FieldBook) (n : Nat) : FieldBook :=
  let g := { f with ringPos := f.ringPos + 16 * n, dptr := f.dptr + BitVec.ofNat 12 n }
  if g.policy = 2 then (if g.preHeld + g.held ≤ g.ringPos / 16 then { g with state := 5 } else g)
  else { g with held := g.held - n }

theorem FieldBook.drained_ringPos (f : FieldBook) (n : Nat) : (f.drained n).ringPos = f.ringPos + 16 * n := by
  simp only [FieldBook.drained]
  split
  · split <;> rfl
  · rfl

theorem FieldBook.drained_held {f : FieldBook} {n : Nat} (h : f.policy ≠ 2) : (f.drained n).held = f.held - n := by
  simp only [FieldBook.drained, if_neg h]

/-- Settles O33, by the policy or the time that each event waits for. -/
theorem telemetryEvents : Obligations.telemetry_events := by
  refine ⟨?writer, ?sample, ?temps, ?dog, ?trigger, ?take, ?copied, ?drain⟩
  case writer =>
    intro s r rest hq
    simp only [exec_telemetryRecordWrite, execTelemetryRecordWrite, hq]
  case sample =>
    intro s
    obtain ⟨cs, hcs, hc⟩ := foldl_modCore (p := coreShut) (g := acSample) coreShut_modCore_acSample (List.finRange 96)
      (List.nodup_finRange 96) s
    refine ⟨_, congrArg Host.Outcome.next hcs, rfl, fun c => ⟨fun h => (hc c).trans ?_, fun h => (hc c).trans ?_⟩⟩
    · exact if_neg fun hn => by simp [h] at hn
    · exact if_pos ⟨List.mem_finRange c, h⟩
  case temps =>
    intro temps s
    rw [exec_tjLoop]
    unfold execTjLoop
    extract_lets u v w
    have hu : ∀ i, vget u.th.sens i = if (vget s.th.sens i).failed then vget s.th.sens i
        else { vget s.th.sens i with temp := temps.getD i.val (vget s.th.sens i).temp } := fun i => vget_ofFn _ i
    obtain ⟨th, hv, hth⟩ := noteMean_modTh s _
    change v = _ at hv
    have hw : OnlyPw v w := .ite (.refl v) ((tjStep_onlyPw v).trans (setTarget_onlyPw _))
    obtain ⟨p, hp⟩ := hw
    obtain ⟨t, ht⟩ := record_only w 0x0501 15 0x7F (blockBytes (powerWord w) 0 12)
    refine ⟨_, congrArg Host.Outcome.next ht, ?_, fun i => ?_⟩
    · rw [hp, hv]
    · rw [hp, hv]
      exact (congrArg (vget · i) hth).trans (hu i)
  case dog =>
    intro c s hs hr hf hw hd
    refine ⟨_, congrArg Host.Outcome.next (if_neg ?_)⟩
    simp [hs, hr, hf, hw]
    omega
  case trigger =>
    intro w s hw hh hc hs
    rw [exec_snapshotTriggerWrite, execSnapshotTriggerWrite, if_pos hw, snapTrigger_of_idle hh hc hs]
    rfl
  case take =>
    intro s c hs hc hr
    have hn : ¬ (s.chain < c ∨ s.clk.relocking = true) := by
      rw [hr]
      exact fun h => h.elim (fun h => absurd hc (BitVec.not_le.2 h)) Bool.false_ne_true
    simp only [exec_snapshotSample, execSnapshotSample, hs, if_neg hn]
    rfl
  case copied =>
    intro s hc hn hl
    refine ⟨_, rfl, ?_⟩
    rw [exec_snapshotCopyDone]
    unfold execSnapshotCopyDone
    extract_lets x a w b r z
    rw [if_neg (by simp [hc])]
    have hz : z = r := if_pos (.inl hn)
    obtain ⟨m, p, hw⟩ : ∃ m p, w = { a with mem := m, poison := p } := foldl_write_only _ _ _ _
    obtain ⟨t, hr⟩ := record_only b 0x0703 15 0x7F (leBytes 4 (x.seq + 1).toNat ++ leBytes 1 x.copying.toNat)
    have hk : z.kci = s.kci := by
      rw [hz, show r = _ from hr]
      exact (congrArg State.kci hw : w.kci = _)
    have hlive : z.kci.live.filter (fun c => c.opcode == 0x58) = [] := by
      rw [hk]
      exact List.filter_eq_nil_iff.2 fun c hc => by simpa using hl c hc
    rw [hlive, hz]
    rfl
  case drain =>
    intro c s he hd hz hw hs hk hp hroom
    have hn : ¬ ((!(s.core c).fb.enable) = true ∨ drainSlots (s.core c).fb = [] ∨ (s.core c).fb.ringSize = 0 ∨
        2 ≤ s.pw.wstate.toNat ∨ coreShut s c = true ∨
        stackWaits s (s.core c).fb.ringAddr.toNat ((s.core c).fb.ringSize.toNat * 65536) = true) := by
      rintro (h | h | h | h | h | h)
      exacts [by simp [he] at h, hd h, hz h, by omega, by simp [hs] at h, by simp [hk] at h]
    have hfit : ¬ ((s.core c).fb.policy ≠ 0 ∧ (s.core c).fb.ringSize.toNat * 65536 - 64 < (s.core c).fb.ringPos +
        16 * (drainSlots (s.core c).fb).length - s.num ((s.core c).fb.ringAddr.toNat + 8) 8) :=
      fun ⟨h, h'⟩ => hroom.elim h fun h => by omega
    refine ⟨_, congrArg Host.Outcome.next ((if_neg hn).trans ((if_neg (by simp [hp])).trans (if_neg hfit))), ?_⟩
    obtain ⟨m, p, hw⟩ := foldl_write_only (fun _ (p : Nat × Nat) => (s.core c).fb.ringAddr.toNat + 64 +
      ((s.core c).fb.ringPos + 16 * p.2) % ((s.core c).fb.ringSize.toNat * 65536 - 64))
      (fun s p => s.mem.readN (fbAddr c p.1) 16) (drainSlots (s.core c).fb).zipIdx s
    have hcore : ∀ (u : State) a b a' b', ((u.write a b false).write a' b' false).core c = u.core c := fun _ _ _ _ _ => rfl
    rw [hw, modFb, State.core_modCore, hcore]
    exact ⟨FieldBook.drained_ringPos _ _, FieldBook.drained_held⟩

end Sys2Proof.Machine
end

section
/-! Stacks, maps and registers (08, 00); the obligations O34 to O36. -/

namespace Sys2Proof.Machine

/-! ### Stacks -/

theorem State.stk_modStk_of_ne (s : State) (n m : Fin 6) (f : Stack → Stack) (h : n ≠ m) : (s.modStk n f).stk m = s.stk m :=
  vget_vset_of_ne _ _ _ _ h

theorem record_stk (s : State) (code part core : Nat) (body : List Byte) (n : Fin 6) :
    (record s code part core body).stk n = s.stk n := by
  unfold record
  split <;> rfl

/-- R221, R228, R238: nothing makes a request wait. -/
theorem mustWait_of_idle {s : State} (hm : s.ms.mstepTo = none) (hw : s.ms.waiting = [])
    (hr : ∀ k, (s.stk k).repairing = none) (r : StackReq) : mustWait s r = (false, s) := by
  unfold mustWait
  have hb : bankBusy s r = (false, s) := by
    unfold bankBusy
    split
    · rfl
    · simp only [hr]
  rw [hm, behindRequest, hw, hb]
  split <;> rfl

theorem mustWait_of_step {s : State} {r : StackReq} (ha : (stackOf? r.a.toNat).isSome = true)
    (hm : s.ms.mstepTo.isSome = true) : mustWait s r = (true, s) := by
  have hn : ¬ (stackOf? r.a.toNat).isNone = true := by
    rw [← Option.not_isSome, ha]
    decide
  rw [mustWait, if_neg hn, if_pos (by rw [hm]; rfl)]

theorem stackRequest_of_refused {s : State} {r : StackReq} {b : Nat}
    (h : sourceFail s r.src r.write.isSome r.a.toNat r.len = some b) : stackRequest s r = refuseRequest s r b := by
  simp only [stackRequest, h]

theorem stackRequest_of_admitted {s : State} {r : StackReq}
    (h : sourceFail s r.src r.write.isSome r.a.toNat r.len = none) : stackRequest s r = admitRequest s r := by
  simp only [stackRequest, h]

theorem underKeys_of_no_keys {r : StackReq} (h : r.keys = []) (f : State → State) (s : State) : underKeys r f s = f s := by
  simp only [underKeys, h, List.zip_nil_right, List.foldl_nil]

theorem serveRequest_write {r : StackReq} {bs : List Byte} (hw : r.write = some bs) (hk : r.keys = []) (s : State) :
    serveRequest s r = s.write r.a.toNat bs false := by
  simp only [serveRequest, hw, underKeys_of_no_keys hk]

theorem serveRequest_read {r : StackReq} (hw : r.write = none) (he : r.errs = []) (hk : r.keys = []) (s : State) :
    serveRequest s r = r.gives s (s.bytes r.a.toNat r.n) (if s.poisoned r.a.toNat r.n then 2 else 0) := by
  simp only [serveRequest, hw, he, List.foldl_nil, underKeys_of_no_keys hk, StackReq.len]

/-- R219, R258: what a source gets. -/
theorem StackReq.gives_only (r : StackReq) (s : State) (bs : List Byte) (status : Nat) : ∃ t, r.gives s bs status = t ∧
    t.readData = bs ∧ t = { s with readData := t.readData, busStatus := t.busStatus } ∧
    ((∃ f, r.src = .control f) → t.busStatus = status) ∧ ((∀ f, r.src ≠ .control f) → t.busStatus = s.busStatus) := by
  refine ⟨_, rfl, ?_⟩
  cases h : r.src <;> simp [StackReq.gives, h, State.returns]

/-- R219, R245: what a refused read returns. -/
def StackReq.blank (r : StackReq) : List Byte :=
  match r.src with
  | .firmware _ => List.replicate r.len 0
  | _ => []

theorem refuseRequest_read {r : StackReq} (hw : r.write = none) (s : State) (b : Nat) : ∃ t, refuseRequest s r b = t ∧
    t.readData = r.blank ∧ t = { sourceViolation s r.src false b with readData := t.readData, busStatus := t.busStatus } ∧
    ((∃ f, r.src = .control f) → t.busStatus = 1) := by
  rw [refuseRequest, hw]
  obtain ⟨t, ht, hdata, hstate, hcontrol, -⟩ := StackReq.gives_only r (sourceViolation s r.src false b) r.blank 1
  exact ⟨t, ht, hdata, hstate, hcontrol⟩

theorem StackReq.blank_zero (r : StackReq) : ∀ x ∈ r.blank, x = 0 := by
  unfold StackReq.blank
  split
  · exact fun x => List.eq_of_mem_replicate
  · exact fun x hx => absurd hx List.not_mem_nil

theorem StackReq.blank_length {r : StackReq} {k : Fin 12} (h : r.src = .firmware k) : r.blank.length = r.len := by
  simp only [StackReq.blank, h, List.length_replicate]

/-- R228: what the end of a row repair changes in its stack. -/
def rowRepaired (s : State) (n : Fin 6) (r : RowId) (done : Bool) : State :=
  let u := s.modStk n (fun k => { k with
    repairing := k.repairWait.head?, repairWait := k.repairWait.drop 1
    rowCe := k.rowCe.filter (fun x => !(decide (x.1 = r))) })
  if done then
    let u := u.modStk n (fun k => { k with rprSoft := satAdd k.rprSoft 1 })
    { u with ms := { u.ms with softRepairs := u.ms.softRepairs ++ [(n.val, r)] } }
  else u.modStk n (fun k => { k with rprUnrep := satAdd k.rprUnrep 1, unrepRows := k.unrepRows ++ [r] })

/-- The body of the record of a row repair. -/
def rowRecord (n : Fin 6) (r : RowId) (done : Bool) : List Byte :=
  leBytes 1 n.val ++ leBytes 1 r.pc ++ leBytes 4 r.row ++ leBytes 1 (if done then 0 else 1)

theorem execRowRepairComplete_of_repairing {n : Fin 6} {s : State} {r : RowId} (h : (s.stk n).repairing = some r)
    (done : Bool) : execRowRepairComplete n done s = .next (serveWaiting
      (let w := record (rowRepaired s n r done) 0x0303 15 0x7F (rowRecord n r done)
       if done then w else spareCheck w n r.pc)) := by
  simp only [execRowRepairComplete, h]
  rfl

theorem rowRepaired_good (s : State) (n : Fin 6) (r : RowId) :
    ((rowRepaired s n r true).stk n).repairing = (s.stk n).repairWait.head? ∧
    ((rowRepaired s n r true).stk n).repairWait = (s.stk n).repairWait.drop 1 ∧
    ((rowRepaired s n r true).stk n).rprSoft = satAdd (s.stk n).rprSoft 1 ∧
    (rowRepaired s n r true).ms.softRepairs = s.ms.softRepairs ++ [(n.val, r)] ∧
    rowRepaired s n r true = { s with ms := (rowRepaired s n r true).ms } := by
  have h : ∀ (u : State) l, State.stk { u with ms := { u.ms with softRepairs := l } } n = u.stk n := fun _ _ => rfl
  simp only [rowRepaired, if_true, h, State.stk_modStk]
  exact ⟨trivial, trivial, trivial, rfl, rfl⟩

theorem rowRepaired_failed (s : State) (n : Fin 6) (r : RowId) :
    ((rowRepaired s n r false).stk n).unrepRows = (s.stk n).unrepRows ++ [r] ∧
    ((rowRepaired s n r false).stk n).rprUnrep = satAdd (s.stk n).rprUnrep 1 := by
  simp only [rowRepaired, Bool.false_eq_true, if_false, State.stk_modStk]
  exact ⟨trivial, trivial⟩

theorem stk_ite_record (u : State) (b : Prop) [Decidable b] (code part core : Nat) (body : List Byte) (n : Fin 6) :
    (if b then record u code part core body else u).stk n = u.stk n := by
  split
  · exact record_stk _ _ _ _ _ _
  · rfl

theorem throttleFor_le (th1 t : Nat) : throttleFor th1 t ≤ 3 := by
  unfold throttleFor
  split
  · rfl
  split
  · decide
  split <;> decide

theorem execMemoryStepDone_of_due {s : State} {m : Bool} (h : s.ms.mstepTo = some m) : execMemoryStepDone s = .next
    (applyMstepPolicy (firmwareActs ((List.finRange 96).foldl coreGoesOn (stacksRun s m)))) := by
  simp only [execMemoryStepDone, h]

/-- R241: AUTO asks for a step. -/
theorem askMstep_of_other {s : State} {m : Bool} (ht : s.ms.mstepTo = none) (hd : s.pw.mstepDue = none)
    (hm : memStep s ≠ m) : askMstep s m = { s with pw := { s.pw with mstepDue := some (m, s.chain + 1), lastMstep := s.ts } } := by
  simp [askMstep, ht, hd, hm]

/-- R231: the stack's pseudo-channel is spared. -/
def spared (s : State) (n : Fin 6) : State :=
  s.modStk n (fun k => { k with sparing := false, spared := true, wmark := BitVec.ofNat 21 spareFrom })

/-- R233: the throttle step that follows a temperature. -/
def Stack.throttled (k : Stack) (s : State) (th1 : Nat) (t : Nat) : Stack :=
  let want := throttleFor th1 t
  let cur := k.throttle.toNat
  if cur < want then { k with throttle := BitVec.ofNat 2 want, coolSince := none }
  else if cur = 0 then { k with coolSince := none }
  else if t + 3 ≤ th1 + 4 * (cur - 1) then
    match k.coolSince with
    | none => { k with coolSince := some s.ts }
    | some t0 => if 10 * msTicks ≤ s.since t0 then { k with throttle := BitVec.ofNat 2 (cur - 1), coolSince := none } else k
  else { k with coolSince := none }

theorem Stack.throttled_only (k : Stack) (s : State) (th1 t : Nat) : ∃ x c,
    k.throttled s th1 t = { k with throttle := x, coolSince := c } ∧
    (k.throttle.toNat < throttleFor th1 t → x.toNat = throttleFor th1 t) := by
  simp only [Stack.throttled]
  split_ifs with hlt
  · refine ⟨_, _, rfl, fun _ => ?_⟩
    have := throttleFor_le th1 t
    simp only [BitVec.toNat_ofNat]
    omega
  · exact ⟨_, _, rfl, fun h => absurd h hlt⟩
  · split
    · exact ⟨_, _, rfl, fun h => absurd h hlt⟩
    · split <;> exact ⟨_, _, rfl, fun h => absurd h hlt⟩
  · exact ⟨_, _, rfl, fun h => absurd h hlt⟩

/-- R233: the stack whose temperature has been read. -/
def tempRead (s : State) (n : Fin 6) (t : BitVec 8) : State :=
  s.modStk n (fun k => ({ k with
    temp := t, th1 := BitVec.ofNat 8 (effTh1 s), tempStale := false
    critical := decide (effTh1 s + 12 ≤ t.toNat) } : Stack).throttled s (effTh1 s) t.toNat)

theorem execStackTempRead_watches (n : Fin 6) (t : BitVec 8) (s : State) : execStackTempRead n t s = .next (thermalWatch
    (if decide (effTh1 s + 12 ≤ t.toNat) && !(s.stk n).critical then
      record (tempRead s n t) 0x0503 15 0x7F ([3] ++ leBytes 1 n.val ++ leBytes 2 (8 * t.toNat))
    else tempRead s n t)) := rfl

/-- Settles O34, by whether a memory-step change runs and what waits. -/
theorem memorySystemEvents : Obligations.memory_system_events := by
  refine ⟨?boot, ?request, ?served, ?scrub, ?repair, ?spare, ?temp, ?stale, ?change, ?done, ?auto⟩
  case boot =>
    intro s hp hs hd ht hl hc hg
    rw [exec_dataPlaneBootDone, execDataPlaneBootDone, if_neg (by simp [hp, hs, hd, ht, hl, hc, hg])]
    rfl
  case request =>
    intro src a write n errs s u r hu hr
    subst hu hr
    refine ⟨fun c hw hc => ?_, fun hno => ?_⟩
    · subst hw
      simp only [exec_stackRequest, execStackRequest, Option.isSome_none, Bool.false_eq_true, if_false, hc]
    · have hexec : exec (.stackRequest src a write n errs) s = .next (stackRequest (noteSramErrs s a.toNat n errs)
          { src := src, a := a, write := write, n := n, errs := errs }) := by
        have h : (if write.isSome then none else sramReader (noteSramErrs s a.toNat n errs) src a.toNat n) = none := by
          rcases hno with h | h
          · exact if_pos (Option.isSome_iff_ne_none.2 h)
          · rw [h, ite_self]
        simp only [exec_stackRequest, execStackRequest, h]
      refine ⟨fun b hb => ?_, fun hf => ⟨fun ha hm => ?_, fun hm hw hr => ?_⟩⟩
      · rw [hexec, stackRequest_of_refused hb]
      · rw [hexec, stackRequest_of_admitted hf, admitRequest, mustWait_of_step (s := noteSramErrs s a.toNat n errs)
          (r := { src := src, a := a, write := write, n := n, errs := errs }) ha hm]
        rfl
      · rw [hexec, stackRequest_of_admitted hf, admitRequest, mustWait_of_idle (s := noteSramErrs s a.toNat n errs) hm hw hr]
        rfl
  case served =>
    intro s r
    refine ⟨fun bs hw hk => serveRequest_write hw hk s, fun hw he hk => ?_, fun b t ht => ⟨fun hw => ?_, fun hw => ?_⟩⟩
    · rw [serveRequest_read hw he hk]
      exact StackReq.gives_only _ _ _ _
    · rw [ht, refuseRequest, hw]
      rfl
    · obtain ⟨t', ht', hdata, hstate, hcontrol⟩ := refuseRequest_read hw s b
      subst ht' ht
      refine ⟨hstate, fun x hx => ?_, fun ⟨k, hk⟩ => ?_, hcontrol⟩
      · exact r.blank_zero x (hdata ▸ hx)
      · rw [hdata, StackReq.blank_length hk]
  case scrub =>
    intro n pass s he hw
    exact congrArg _ (if_neg (by simp [he]; omega))
  case repair =>
    intro n s r hr
    obtain ⟨h1, h2, h3, h4, h5⟩ := rowRepaired_good s n r
    obtain ⟨h6, h7⟩ := rowRepaired_failed s n r
    obtain ⟨tel, ht⟩ := record_only (rowRepaired s n r true) 0x0303 15 0x7F (rowRecord n r true)
    refine ⟨⟨_, (exec_rowRepairComplete n true s).trans (execRowRepairComplete_of_repairing hr true), ?_⟩,
      ⟨_, (exec_rowRepairComplete n false s).trans (execRowRepairComplete_of_repairing hr false), ?_⟩⟩
    · simp only [if_true, record_stk]
      refine ⟨h1, h2, h3, ?_, ?_⟩ <;> rw [ht]
      · exact h4
      · rw [h5]
    · simp only [record_stk]
      exact ⟨h6, h7⟩
  case spare =>
    intro n s hs
    refine ⟨fun hm => ?_, fun hm => congrArg _ (if_neg (by rw [← Option.not_isSome, hm]; simp))⟩
    obtain ⟨tel, ht⟩ := record_only (spared s n) 0x0304 15 0x7F
      (leBytes 1 n.val ++ leBytes 1 ((spared s n).stk n).sparePc.toNat ++ [1])
    refine ⟨_, (exec_sparingComplete n s).trans (congrArg Host.Outcome.next
      ((if_pos (by rw [hs, hm]; rfl)).trans ht)), ?_⟩
    have hk : ∀ m, State.stk { spared s n with tel := tel } m = (spared s n).stk m := fun _ => rfl
    simp only [hk]
    simp only [spared, State.stk_modStk]
    exact ⟨trivial, trivial, rfl, fun m hm => State.stk_modStk_of_ne _ _ _ _ hm.symm⟩
  case temp =>
    intro n x s
    refine ⟨_, _, (exec_stackTempRead n x s).trans (execStackTempRead_watches n x s), rfl, ?_⟩
    simp only [stk_ite_record, tempRead, State.stk_modStk]
    obtain ⟨y, c, hk, hy⟩ := Stack.throttled_only ({ s.stk n with
      temp := x, th1 := BitVec.ofNat 8 (effTh1 s), tempStale := false
      critical := decide (effTh1 s + 12 ≤ x.toNat) } : Stack) s (effTh1 s) x.toNat
    rw [hk]
    exact ⟨rfl, rfl, rfl, hy, fun m hm => State.stk_modStk_of_ne _ _ _ _ hm.symm⟩
  case stale => exact fun n s => rfl
  case change =>
    intro s m c hd hc hr
    simp only [exec_memoryStepChange, execMemoryStepChange, hd, hr, Bool.not_false, and_true, if_pos hc]
  case done =>
    intro s m hm
    refine ⟨_, (exec_memoryStepDone s).trans (execMemoryStepDone_of_due hm), rfl, fun n => ?_, rfl⟩
    exact congrArg Stack.mstep (vget_map _ _ n)
  case auto =>
    intro delivered admitted s hp hm hd hl
    have hn : ¬ ((policyInForce s).2.2 ≠ 2 ∨ s.ms.mstepTo.isSome = true ∨ s.pw.mstepDue.isSome = true ∨
        (s.pw.lastMstep ≠ 0 ∧ s.since s.pw.lastMstep < 100 * msTicks)) := by
      rintro (h | h | h | ⟨h, h'⟩)
      · exact h hp
      · simp [hm] at h
      · simp [hd] at h
      · exact hl.elim h fun hl => by omega
    refine ⟨fun hs hlen hlow => ?_, fun hs hhigh => ?_⟩ <;> rw [exec_mstepAutoDecision, execMstepAutoDecision, if_neg hn, hs]
    · rw [if_pos (by decide), if_pos ⟨hlen, List.all_eq_true.2 fun x hx => decide_eq_true (hlow x hx)⟩,
        askMstep_of_other hm hd (by rw [hs]; decide)]
    · obtain ⟨x, hx, hx90⟩ := hhigh
      rw [if_neg (by decide), if_pos (List.any_eq_true.2 ⟨x, hx, decide_eq_true hx90⟩),
        askMstep_of_other hm hd (by rw [hs]; decide)]

/-! ### A partition map that meets a test kernel and an SRAM error -/

/-- A kernel that uses the accumulators: at its start they were moved to its save area (R420). -/
def savingKernel : Kernel :=
  { id := 0, accSave := true, loopback := false, engMask := 0, length := 0, image := [], resultOff := 0, resultLen := 0
    originVx := 0, originEdge := 0, digest := 0 }

/-- A word of core 0's save area. -/
def saveWord : Nat := dataAddr 0 0x3FC000 / 32

/-- Core 0 is in a kernel with its accumulators saved, a word of the save area has an error that no reader has met yet, and
a partition map that gives every parcel to partition 0 is due. -/
def kernelAtSwitch : State := { State.reset with
  ms := { State.reset.ms with pmapS := Vector.replicate 12 ⟨0, true⟩, pmapDue := some 0, sramBad := [saveWord] }
  serv := { State.reset.serv with cores := vset State.reset.serv.cores 0 { Tcore.reset with
    run := some { kernel := savingKernel, forced := false, held := true, launched := 0, secondFor := none } } } }

/-- The SRAM errors that still wait for a reader after a command. -/
def sramBadAfter : Out → List Nat
  | .next t => t.ms.sramBad
  | _ => []

/-- The context switch moves the saved accumulators back, and that read meets the error. -/
theorem kernelAtSwitch_meets_error : sramBadAfter (exec .partitionMapApply kernelAtSwitch) = [] := by decide +kernel

/-- Refutes O35: the map comes into force on a core in a kernel, whose context switch reads the save area; the error that it
meets there stands no longer, so more of the memory system changes than the maps. -/
theorem not_mapsComeIntoForce : ¬ Obligations.maps_come_into_force := by
  rintro ⟨-, -, h, -, -⟩
  obtain ⟨w, hw, hk, hm, -⟩ := h kernelAtSwitch 0 rfl (by decide) rfl
  have hlive : w.kci.live = [] := by rw [hk]; rfl
  have hbad := kernelAtSwitch_meets_error
  rw [hw, hlive] at hbad
  have hstands : w.ms.sramBad = [saveWord] := by rw [hm]; rfl
  exact absurd (hstands.symm.trans hbad) (by decide)

/-! ### Register writes -/

theorem exec_registerWrite_core_of_open {s : State} {c : Fin 96} (hs : coreShut s c = false) (ho : coreOut s c = false)
    (off : BitVec 24) (gap : Nat) (v : Word) : exec (.registerWrite (.core c off gap) v) s =
      .next (coreRegWrite (passCore s c gap) c off.toNat v.toNat) :=
  congrArg Host.Outcome.next (if_neg (by simp [hs, ho]))

theorem exec_registerWrite_core_of_closed {s : State} {c : Fin 96} (h : coreShut s c = true ∨ coreOut s c = true)
    (off : BitVec 24) (gap : Nat) (v : Word) : exec (.registerWrite (.core c off gap) v) s = .next s :=
  congrArg Host.Outcome.next (if_pos (Bool.or_eq_true_iff.2 h))

/-- R14, R91: the flags of counter `n` clear where the write has ones. -/
theorem coreRegWrite_counter {u : State} {c : Fin 96} (hs : coreShut u c = false) (n : Fin 64) (v : Nat) :
    coreRegWrite u c (BitVec.ofNat 24 (0x830000 + 64 * n.val)).toNat v =
      u.modCore c (fun k => k.modCtr n (fun t => t.clearFlags v)) := by
  have ho : (BitVec.ofNat 24 (0x830000 + 64 * n.val)).toNat = 0x830000 + 64 * n.val := by
    rw [BitVec.toNat_ofNat]
    omega
  have hn : (⟨(0x830000 + 64 * n.val - 0x830000) / 64 % 64, Nat.mod_lt _ (by decide)⟩ : Fin 64) = n :=
    Fin.ext (by simp only; omega)
  rw [coreRegWrite, ho, hs, if_neg Bool.false_ne_true, if_pos (by omega), if_pos (by omega), hn]

theorem functionWrite_of_up {s : State} (h : s.rst.ctlUp = true) (f : Fin 13) (v : Nat) :
    functionWrite s f 0x020 v = s.modFn f (fun x => { x with
      sqLog2 := BitVec.ofNat 4 v, cqLog2 := BitVec.ofNat 4 (field v 4 4), vector := BitVec.ofNat 5 (field v 8 5) }) ∧
    functionWrite s f 0x004 v = s.modFn f (fun x => { x with eventsLost := x.eventsLost && !bit v 4 }) ∧
    functionWrite s f 0x000 v = s := by
  simp [functionWrite, h]

/-- Settles O36, by the register. -/
theorem registerWrites : Obligations.register_writes := by
  refine ⟨fun f v s h => ?_, fun f off v s h => ?_, fun c gap v s u hs ho hu hus huo => ?_,
    fun c off gap v s h => exec_registerWrite_core_of_closed h off gap v, fun v s => ⟨fun h1 h2 => ?_, fun h => ?_⟩⟩
  · obtain ⟨h1, h2, h3⟩ := functionWrite_of_up h f v.toNat
    exact ⟨congrArg Host.Outcome.next h1, congrArg Host.Outcome.next h2, congrArg Host.Outcome.next h3⟩
  · exact congrArg Host.Outcome.next (if_pos (by simp [h]))
  · subst hu
    simp only [exec_registerWrite_core_of_open hs ho]
    refine ⟨fun n => congrArg _ (coreRegWrite_counter hus n v.toNat), ?_, ?_, ?_⟩ <;> simp [coreRegWrite, hus]
  · exact congrArg Host.Outcome.next (if_pos ⟨h1, h2⟩)
  · exact congrArg Host.Outcome.next (if_neg (by omega))

end Sys2Proof.Machine
end

section
/-! The torus ports and the uplinks (10); the obligation O37. -/

namespace Sys2Proof.Machine

/-! ### Ports -/

theorem vset_vget {α : Type} {n : Nat} (v : Vector α n) (i : Fin n) : vset v i (vget v i) = v := by
  apply Vector.ext
  intro j hj
  simp only [vset, vget, Vector.getElem_set]
  split
  case isTrue h => subst h; rfl
  case isFalse => rfl

theorem vset_vset {α : Type} {n : Nat} (v : Vector α n) (i : Fin n) (x y : α) : vset (vset v i x) i y = vset v i y := by
  simp only [vset, Vector.set_set]

@[simp] theorem portOf_modPort (s : State) (n : Fin 8) (f : Port → Port) : portOf (modPort s n f) n = f (portOf s n) := by
  simp [portOf, modPort, vmod]

theorem portOf_modPort_of_ne (s : State) {n m : Fin 8} (f : Port → Port) (h : m ≠ n) :
    portOf (modPort s n f) m = portOf s m := vget_vset_of_ne _ _ _ _ h.symm

theorem modPort_congr {s : State} {n : Fin 8} {f g : Port → Port} (h : f (portOf s n) = g (portOf s n)) :
    modPort s n f = modPort s n g := by
  simp only [modPort, State.modFab, vmod]
  rw [show f (vget s.fab.ports n) = g (vget s.fab.ports n) from h]

theorem modPort_eq_self {s : State} {n : Fin 8} {f : Port → Port} (h : f (portOf s n) = portOf s n) : modPort s n f = s := by
  have hp : vmod s.fab.ports n f = s.fab.ports :=
    (congrArg (vset s.fab.ports n) h).trans (vset_vget _ _)
  simp only [modPort, State.modFab, hp]

theorem portOf_record (s : State) (code part core : Nat) (body : List Byte) (n : Fin 8) :
    portOf (record s code part core body) n = portOf s n := by
  unfold record
  split <;> rfl

theorem portOf_linkRecord (s : State) (n m : Fin 8) : portOf (linkRecord s n) m = portOf s m := portOf_record _ _ _ _ _ _

/-- A port without what the sending of codewords changes. -/
def Port.sansTx (p : Port) : Port :=
  { p with replay := [], txCount := 0, sinceCtl := 0, hs := [], due := .none }

theorem Port.field_eq_of_sansTx {α : Type} {p q : Port} (f : Port → α) (hf : ∀ p, f p = f p.sansTx)
    (h : p.sansTx = q.sansTx) : f p = f q := (hf p).trans ((congrArg f h).trans (hf q).symm)

/-- `t` follows `s` with codewords sent by port `n`: of the fabric the outbox and what that port has sent. -/
def Sends (n : Fin 8) (s t : State) : Prop :=
  (∃ o, t = { s with fab := { s.fab with ports := vset s.fab.ports n (portOf t n), outbox := o } }) ∧
    (portOf t n).sansTx = (portOf s n).sansTx ∧ ∃ sent, (portOf t n).replay = (portOf s n).replay ++ sent

theorem Sends.refl (n : Fin 8) (s : State) : Sends n s s := by
  refine ⟨⟨s.fab.outbox, ?_⟩, rfl, [], (List.append_nil _).symm⟩
  rw [portOf, vset_vget]

theorem Sends.trans {n : Fin 8} {s t u : State} (h : Sends n s t) (g : Sends n t u) : Sends n s u := by
  obtain ⟨⟨o, ho⟩, hp, sent, hr⟩ := h
  obtain ⟨⟨o', ho'⟩, hp', sent', hr'⟩ := g
  refine ⟨⟨o', ?_⟩, hp'.trans hp, sent ++ sent', by rw [hr', hr, List.append_assoc]⟩
  rw [ho]  at ho'
  rw [vset_vset] at ho'
  exact ho'

theorem Sends.only {n : Fin 8} {s t : State} (h : Sends n s t) : t = { s with fab := t.fab } := by
  obtain ⟨⟨o, ho⟩, -, -⟩ := h
  rw [ho]

theorem Sends.field {α : Type} {n : Fin 8} {s t : State} (h : Sends n s t) (f : Port → α) (hf : ∀ p, f p = f p.sansTx) :
    f (portOf t n) = f (portOf s n) := Port.field_eq_of_sansTx f hf h.2.1

theorem modPort_sends {n : Fin 8} {s : State} {f : Port → Port} (h : ∀ p, (f p).sansTx = p.sansTx)
    (hr : ∀ p, (f p).replay = p.replay) : Sends n s (modPort s n f) := by
  refine ⟨⟨s.fab.outbox, ?_⟩, ?_, [], ?_⟩
  · rw [portOf_modPort]
    rfl
  · rw [portOf_modPort, h]
  · rw [portOf_modPort, hr, List.append_nil]

theorem sendWords_sends (s : State) (n : Fin 8) (k : Nat) (b : TxBody) : Sends n s (sendWords s n k b) := by
  have hp : portOf (sendWords s n k b) n = (portOf s n).sent k b := portOf_modPort s n _
  refine ⟨⟨s.fab.outbox ++ ((portOf s n).next k b).map (.word n.val), ?_⟩, ?_, (portOf s n).next k b, ?_⟩
  · rw [hp]
    rfl
  · rw [hp]
    rfl
  · rw [hp]
    rfl

theorem sendFlit_sends (s : State) (n : Fin 8) : Sends n s (sendFlit s n) := by
  unfold sendFlit
  refine Sends.trans ?_ (sendWords_sends _ _ _ _)
  exact modPort_sends (fun _ => rfl) fun _ => rfl

theorem flush_sends (n : Fin 8) : ∀ (k : Nat) (s : State), Sends n s (flush n k s)
  | 0, s => .refl n s
  | k + 1, s => by
    unfold flush
    split
    · exact (sendFlit_sends s n).trans (flush_sends n k _)
    · exact .refl n s

theorem sendControl_sends (s : State) (n : Fin 8) (f : CtlDue → CtlDue) : Sends n s (sendControl s n f) := by
  unfold sendControl
  refine Sends.trans ?_ (flush_sends n _ _)
  exact modPort_sends (fun _ => rfl) fun _ => rfl

theorem resendFrom_sends (s : State) (n : Fin 8) (c : BitVec 6) : Sends n s (resendFrom s n c) := by
  refine ⟨⟨(resendFrom s n c).fab.outbox, ?_⟩, rfl, [], (List.append_nil _).symm⟩
  have hp : portOf (resendFrom s n c) n = vget s.fab.ports n := rfl
  rw [hp, vset_vget]
  rfl

/-! ### Training -/

theorem judgePeer_of_neighbour {s : State} {n : Fin 8} {peer : Option (BitVec 16)} (hl : 2 ≤ s.fab.len (n.val / 2))
    (hp : peer = some (neighbour s.fab n.val)) : judgePeer s n peer = modPort s n (fun p => { p with
      state := 1, miswired := false, peerId := peer.getD 0 }) := by
  have hg : (decide (2 ≤ s.fab.len (n.val / 2)) && decide (peer = some (neighbour s.fab n.val))) = true := by simp [hl, hp]
  simp only [judgePeer, hg, if_true, Bool.not_true]

theorem judgePeer_of_other {s : State} {n : Fin 8} {peer : Option (BitVec 16)}
    (h : s.fab.len (n.val / 2) < 2 ∨ peer ≠ some (neighbour s.fab n.val)) :
    judgePeer s n peer = linkRecord (modPort s n (fun p => { p with
      state := 3, miswired := true, peerId := peer.getD 0 })) n := by
  have hg : (decide (2 ≤ s.fab.len (n.val / 2)) && decide (peer = some (neighbour s.fab n.val))) = false := by
    rcases h with h | h <;> simp [h]
  simp only [judgePeer, hg, Bool.false_eq_true, if_false, Bool.not_false]

/-- R273, R280, R281: a port as training leaves it. -/
def Port.fresh (p : Port) : Port := { p with
  state := 0, trained := true, miswired := false, txCount := 0, rxCount := 0, replay := [],
  discarding := false, nakRun := 0, afterRetrain := false, retraining := false,
  failedRetrains := 0, lanes := 0, laneDown := 0, hs := [], later := [], due := .none, sinceCtl := 0, rxHead := [], rxLeft := 0
  credits := bufferTable, strong := decide (p.fec = 1) || (decide (p.fec = 2) && p.strong) }

theorem execPortTrained_uplink {n : Fin 8} {s : State} (he : (portOf s n).enable = true) (hn : 6 ≤ n.val)
    (peer : Option (BitVec 16)) : execPortTrained n peer s =
      .next (modPort (modPort s n Port.fresh) n (fun p => { p with state := 1 })) :=
  congrArg Host.Outcome.next ((if_neg (by simp [he])).trans (if_pos hn))

/-- A torus port whose training has ended, when it has sent its ID. -/
def idSent (s : State) (n : Fin 8) (peer : Option (BitVec 16)) : State :=
  sendHs (modPort (modPort s n Port.fresh) n (fun p => { p with peerKnown := peer.isSome, peerId := peer.getD 0 })) n 5 0

theorem execPortTrained_torus {n : Fin 8} {s : State} (he : (portOf s n).enable = true) (hn : n.val < 6)
    (hv : s.fab.idValid = true) (peer : Option (BitVec 16)) :
    execPortTrained n peer s = .next (judgePeer (idSent s n peer) n peer) :=
  congrArg Host.Outcome.next ((if_neg (by simp [he])).trans ((if_neg (by omega)).trans (if_pos hv)))

theorem idSent_only (s : State) (n : Fin 8) (peer : Option (BitVec 16)) : ∃ ps o,
    idSent s n peer = { s with fab := { s.fab with ports := ps, outbox := o } } := by
  obtain ⟨⟨o, ho⟩, -, -⟩ := sendControl_sends (modPort (modPort s n Port.fresh) n
    (fun p => { p with peerKnown := peer.isSome, peerId := peer.getD 0 })) n (fun d => { d with hs := d.hs ++ [(5, 0)] })
  exact ⟨_, o, ho⟩

/-! ### Codewords and flits -/

theorem execCodewordReceive_good {n : Fin 6} {k : Fin 8} {s : State} (hk : k = ⟨n.val, by omega⟩)
    (ht : (portOf s k).trained = true) (hr : (portOf s k).retraining = false) (count : BitVec 6) (corrected : Bool)
    (flits : List (List Byte)) {w : State} (hw : w = modPort s k (fun p => { p.passed count with
        cwCorr := if corrected then satAdd p.cwCorr 1 else p.cwCorr })) :
    execCodewordReceive n count true corrected flits s =
      .next (if count ≠ (portOf s k).rxCount then w else flits.foldl (takeFlit k) (acceptWord w k)) := by
  subst hk hw
  simp only [execCodewordReceive, ht, hr, Bool.not_true, Bool.or_self, Bool.false_eq_true, if_false, if_true, Bool.true_and]
  rfl

theorem execCodewordReceive_bad {n : Fin 6} {k : Fin 8} {s : State} (hk : k = ⟨n.val, by omega⟩)
    (ht : (portOf s k).trained = true) (hr : (portOf s k).retraining = false) (count : BitVec 6) (corrected : Bool)
    (flits : List (List Byte)) {w : State} (hw : w = modPort s k (fun p => { p.passed count with
        cwBad := satAdd p.cwBad 1 })) : execCodewordReceive n count false corrected flits s =
      .next (if (portOf s k).discarding && decide (count ≠ (portOf s k).rxCount) then w
        else sendNak (modPort w k (fun p => { p with discarding := true })) k) := by
  subst hk hw
  simp only [execCodewordReceive, ht, hr, Bool.not_true, Bool.or_self, Bool.false_eq_true, if_false, if_true, Bool.false_and,
    Bool.not_false]
  rfl

theorem takeFlit_of_idle {k : Fin 8} {u : State} {flit : List Byte} (h : (portOf u k).rxLeft = 0) :
    (natAt flit 0 1 % 4 = 0 ∨ natAt flit 0 1 % 4 = 3 → takeFlit k u flit = u) ∧
    (natAt flit 0 1 % 4 = 2 → takeFlit k u flit = if dataFlits flit = 0 then takeMsg u k flit
      else modPort u k (fun p => { p with rxHead := flit, rxLeft := dataFlits flit })) := by
  refine ⟨fun hty => ?_, fun hty => ?_⟩
  · have h1 : natAt flit 0 1 % 4 ≠ 1 := by omega
    have h2 : natAt flit 0 1 % 4 ≠ 2 := by omega
    simp only [takeFlit, h, ne_eq, not_true_eq_false, if_false, if_neg h1, if_neg h2]
  · simp only [takeFlit, h, hty, ne_eq, not_true_eq_false, if_false, if_true, Nat.reduceEqDiff]

theorem takeFlit_of_open {k : Fin 8} {u : State} {flit : List Byte} (h : (portOf u k).rxLeft ≠ 0) :
    takeFlit k u flit = if (portOf u k).rxLeft = 1 then
        takeMsg (modPort u k (fun p => { p with rxHead := [], rxLeft := 0 })) k ((portOf u k).rxHead ++ flit)
      else modPort u k (fun p => { p with rxHead := p.rxHead ++ flit, rxLeft := p.rxLeft - 1 }) := by
  rw [takeFlit]
  simp only [if_pos h]
  split
  case isTrue h1 =>
    congr 1
    exact modPort_congr (by simp [h1])
  case isFalse h1 => exact modPort_congr (by simp [h1])

/-! ### Link control, retrains and handshakes -/

/-- R277, R278: what the acknowledgement and the credits of a link control flit leave. -/
def acked (s : State) (n : Fin 8) (ack : BitVec 6) (credits : List (BitVec 16)) : State :=
  modPort (takeAck s n ack) n (fun p => { p with
    credits := Vector.ofFn (fun (i : Fin 12) =>
      min ((vget p.credits i) + (credits.getD i.val 0).toNat) (vget bufferTable i)) })

/-- R277: what a handshake code of the partner does. -/
def shaken (v : State) (n : Fin 8) (hs : BitVec 8) (at_ : BitVec 6) (lanes : BitVec 4) (dev : BitVec 16) : State :=
  if hs = 5 then
    let s := modPort v n (fun p => { p with peerKnown := true, peerId := dev })
    if s.fab.idValid then judgePeer s n (some dev) else s
  else if 1 ≤ hs.toNat ∧ hs.toNat ≤ 4 then
    modPort (if hs = 1 then putOff v n else v) n (fun p =>
      { p with hs := p.hs.filter (fun h => h.mine || h.code != hs) }.addHs ⟨hs, at_, lanes, false, (at_ - p.rxCount).toNat⟩)
  else v

/-- A NAK of a link control flit. -/
def naked (w : State) (n : Fin 8) : Option (BitVec 6) → State
  | some c => takeNak w n c
  | none => w

theorem takeControl_of_trained {s : State} {n : Fin 8} (h : (portOf s n).trained = true) (ack : BitVec 6)
    (nak : Option (BitVec 6)) (hs : BitVec 8) (at_ : BitVec 6) (lanes : BitVec 4) (dev : BitVec 16)
    (credits : List (BitVec 16)) : takeControl s n ack nak hs at_ lanes dev credits =
      (let x := shaken (naked (acked s n ack credits) n nak) n hs at_ lanes dev
       flush n ((portOf x n).due.hs.length + 1) x) := by
  have hn : naked (acked s n ack credits) n nak = takeReport s n ack nak credits := by cases nak <;> rfl
  rw [hn, takeControl, if_neg (by simp [h])]
  rfl

theorem takeAck_facts (s : State) (n : Fin 8) (c : BitVec 6) : takeAck s n c = { s with fab := (takeAck s n c).fab } ∧
    (portOf (takeAck s n c) n).replay = (portOf s n).replay.filter (fun e => decide (32 ≤ (c - e.count).toNat)) ∧
    (portOf (takeAck s n c) n).credits = (portOf s n).credits ∧
    ∀ m, m ≠ n → portOf (takeAck s n c) m = portOf s m := by
  unfold takeAck
  simp only
  split
  case isTrue h => exact ⟨rfl, (List.filter_eq_self.2 (List.length_filter_eq_length_iff.1 h)).symm, rfl, fun _ _ => rfl⟩
  case isFalse =>
    rw [portOf_modPort]
    exact ⟨rfl, rfl, rfl, fun m hm => portOf_modPort_of_ne s _ hm⟩

theorem acked_facts (s : State) (n : Fin 8) (c : BitVec 6) (credits : List (BitVec 16)) :
    acked s n c credits = { s with fab := (acked s n c credits).fab } ∧
    (portOf (acked s n c credits) n).credits = Vector.ofFn (fun i : Fin 12 =>
      min (vget (portOf s n).credits i + (credits.getD i.val 0).toNat) (vget bufferTable i)) ∧
    (portOf (acked s n c credits) n).replay = (portOf s n).replay.filter (fun e => decide (32 ≤ (c - e.count).toNat)) ∧
    ∀ m, m ≠ n → portOf (acked s n c credits) m = portOf s m := by
  obtain ⟨ho, hr, hc, hm⟩ := takeAck_facts s n c
  unfold acked
  rw [portOf_modPort]
  refine ⟨?_, by rw [hc], hr, fun m h => (portOf_modPort_of_ne _ _ h).trans (hm m h)⟩
  rw [ho]
  rfl

/-- R279, R282: a retrain that has ended well, before what is due goes out. -/
def retrained (w : State) (n : Fin 8) : State :=
  modPort w n (fun p => { p with retraining := false, afterRetrain := true, nakRun := 0 })

/-- What is unacknowledged goes out again. -/
def resent (s : State) (n : Fin 8) : State :=
  match (portOf s n).replay.head? with
  | some e => resendFrom s n e.count
  | none => s

theorem resent_sends (s : State) (n : Fin 8) : Sends n s (resent s n) := by
  unfold resent
  split
  · exact resendFrom_sends _ _ _
  · exact .refl _ _

theorem execLinkRetrainDone_good {n : Fin 6} {k : Fin 8} {s w : State} (hk : k = ⟨n.val, by omega⟩)
    (ht : (portOf s k).trained = true) (hw : w = (if (portOf s k).retraining then s else forceRetrain s k)) :
    ∃ t, execLinkRetrainDone n true s = .next t ∧ Sends k (retrained w k) t := by
  subst hk hw
  exact ⟨_, congrArg Host.Outcome.next ((if_neg (by simp [ht])).trans (if_pos rfl)),
    (resent_sends _ _).trans (flush_sends _ _ _)⟩

theorem execLinkRetrainDone_failed {n : Fin 6} {k : Fin 8} {s w : State} (hk : k = ⟨n.val, by omega⟩)
    (ht : (portOf s k).trained = true) (hw : w = (if (portOf s k).retraining then s else forceRetrain s k)) :
    execLinkRetrainDone n false s = .next (retrainFailed w k) := by
  subst hk hw
  exact congrArg Host.Outcome.next ((if_neg (by simp [ht])).trans (if_neg Bool.false_ne_true))

/-- R280, R282: a lane fault of a trained port. -/
theorem execLaneFault_of_trained {n : Fin 6} {k : Fin 8} {s w : State} {down : BitVec 4} (hk : k = ⟨n.val, by omega⟩)
    (ht : (portOf s k).trained = true) (lane : Fin 4) (hd : down = (portOf s k).laneDown ||| BitVec.ofNat 4 (2 ^ lane.val))
    (hw : w = modPort s k (fun p => { p with laneDown := down })) :
    ((portOf s k).lanes = 0 → (lanePair (~~~ down)).isSome = true → execLaneFault n lane s = .next (askSwitch w k 1)) ∧
    ((portOf s k).lanes = 0 → lanePair (~~~ down) = none → execLaneFault n lane s = .next (linkDown w k)) ∧
    ((portOf s k).lanes = 1 → execLaneFault n lane s = .next (if lane.val < 2 then linkDown w k else w)) ∧
    ((portOf s k).lanes = 2 → execLaneFault n lane s = .next (if 2 ≤ lane.val then linkDown w k else w)) := by
  subst hk hd hw
  refine ⟨fun hl hp => ?_, fun hl hp => ?_, fun hl => ?_, fun hl => ?_⟩
  · obtain ⟨x, hx⟩ := Option.isSome_iff_exists.1 hp
    simp only [execLaneFault, ht, Bool.not_true, Bool.false_eq_true, if_false, hl, if_true, hx]
  · simp only [execLaneFault, ht, Bool.not_true, Bool.false_eq_true, if_false, hl, if_true, hp]
  · simp [execLaneFault, ht, hl]
  · simp [execLaneFault, ht, hl]

theorem execHandshakeSwitch_of_next {n : Fin 6} {k : Fin 8} {s w : State} {g h : Hs} {rest next : List Hs}
    (hk : k = ⟨n.val, by omega⟩) (hg : (portOf s k).hs = g :: rest) (hw : w = (if g.mine then fillIdle k g.left s else s))
    (hh : (portOf w k).hs = h :: next) : execHandshakeSwitch n s =
      .next (if h.left = 0 then askLater (modPort w k (fun p => { p with hs := next }.switch h)) k else w) := by
  subst hk hw
  simp only [execHandshakeSwitch, hg, hh]

theorem record_fab (s : State) (code part core : Nat) (body : List Byte) : (record s code part core body).fab = s.fab := by
  unfold record
  split <;> rfl

/-- R282: a port that has gone down. -/
def Port.lost (p : Port) : Port := { p with
  state := 2, downs := satAdd p.downs 1, replay := [], trained := false, peerKnown := false,
  retraining := false, hs := [], later := [], discarding := false, paused := 0, due := .none, rxHead := [], rxLeft := 0 }

theorem linkDown_facts (s : State) (n : Fin 8) : (portOf (linkDown s n) n).state = 2 ∧
    (portOf (linkDown s n) n).trained = false ∧ (portOf (linkDown s n) n).replay = [] ∧
    (portOf (linkDown s n) n).downs = satAdd (portOf s n).downs 1 ∧
    (linkDown s n).fab.waiting =
      if n.val < 6 then s.fab.waiting.filter (fun w => decide (w.port ≠ n.val)) else s.fab.waiting := by
  have hp : portOf (linkDown s n) n = (portOf s n).lost := by
    have h : ∀ (t : State) (c : Prop) [Decidable c] (f : Fabric → Fabric), (f t.fab).ports = t.fab.ports →
        portOf (if c then t.modFab f else t) n = portOf t n := by
      intro t c _ f hf
      split
      · exact congrArg (vget · n) hf
      · rfl
    simp only [linkDown, portOf_linkRecord]
    rw [h _ _ _ rfl, portOf_modPort]
    rfl
  have hw : (linkDown s n).fab.waiting =
      if n.val < 6 then s.fab.waiting.filter (fun w => decide (w.port ≠ n.val)) else s.fab.waiting := by
    simp only [linkDown, linkRecord, record_fab]
    split <;> rfl
  rw [hp]
  exact ⟨rfl, rfl, rfl, rfl, hw⟩

/-- Settles O37, by the state of the port and the kind of codeword. -/
theorem portEvents : Obligations.port_events := by
  refine ⟨?trained, ?codeword, ?passed, ?flit, ?control, ?retrain, ?lane, ?switch, ?later, ?repaired, ?uplink⟩
  case trained =>
    intro n peer s he
    refine ⟨fun hn => ?_, fun hn hv hl hp => ?_, fun hn hv h => ?_⟩
    · refine ⟨_, (exec_portTrained n peer s).trans (execPortTrained_uplink he hn peer), ?_⟩
      simp only [portOf_modPort]
      exact ⟨trivial, rfl, fun m hm => (portOf_modPort_of_ne _ _ hm).trans (portOf_modPort_of_ne _ _ hm), rfl⟩
    · obtain ⟨ps, o, hi⟩ := idSent_only s n peer
      refine ⟨_, (exec_portTrained n peer s).trans (execPortTrained_torus he hn hv peer), ?_⟩
      rw [judgePeer_of_neighbour (by rw [hi]; exact hl) (by rw [hi]; exact hp)]
      simp only [portOf_modPort]
      exact ⟨trivial, trivial, by rw [hi]; rfl⟩
    · obtain ⟨ps, o, hi⟩ := idSent_only s n peer
      refine ⟨_, (exec_portTrained n peer s).trans (execPortTrained_torus he hn hv peer), ?_⟩
      rw [judgePeer_of_other (by rw [hi]; exact h)]
      simp only [portOf_linkRecord, portOf_modPort]
      exact ⟨trivial, trivial⟩
  case codeword =>
    intro n count corrected flits s k hk ht hr
    refine ⟨fun w hw => ⟨fun hc => ?_, fun hc => ?_⟩, fun w hw => ⟨fun h => ?_, fun hd hc => ?_⟩⟩
    · have hs : Sends k (modPort w k (fun p => { p with rxCount := p.rxCount + 1, discarding := false })) (acceptWord w k) :=
        sendControl_sends _ _ _
      rw [exec_codewordReceive, execCodewordReceive_good hk ht hr count corrected flits hw, if_neg (not_not.2 hc)]
      refine ⟨rfl, ?_, ?_, ?_⟩
      · rw [hs.field Port.rxCount (fun _ => rfl), portOf_modPort, hw, portOf_modPort]
        rfl
      · rw [hs.field Port.discarding (fun _ => rfl), portOf_modPort]
      · refine hs.only.trans ?_
        rw [hw]
        rfl
    · rw [exec_codewordReceive, execCodewordReceive_good hk ht hr count corrected flits hw, if_pos hc]
    · rw [exec_codewordReceive, execCodewordReceive_bad hk ht hr count corrected flits hw, if_neg]
      rcases h with h | h <;> simp [h]
    · rw [exec_codewordReceive, execCodewordReceive_bad hk ht hr count corrected flits hw, if_pos (by simp [hd, hc])]
  case passed =>
    intro p count
    refine ⟨rfl, List.length_map _, fun i h hi => ?_⟩
    simp only [Port.passed, List.getElem?_map, hi, Option.map_some]
  case flit =>
    intro k u flit
    refine ⟨fun h => (takeFlit_of_idle h).1, fun h hty hd => ?_, fun h hty hd => ?_, fun h => ?_, fun h => ?_,
      fun hv hs => if_pos ⟨hv, hs⟩, fun h => if_neg fun ⟨hv, hs⟩ => ?_⟩
    · rw [(takeFlit_of_idle h).2 hty, if_pos hd]
    · rw [(takeFlit_of_idle h).2 hty, if_neg hd]
    · rw [takeFlit_of_open (by omega), if_neg (by omega)]
    · rw [takeFlit_of_open (by omega), if_pos h]
    · exact h.elim (fun h => by simp [h] at hv) (· hs)
  case control =>
    intro n ack nak hs at_ lanes dev credits s k hk ht
    obtain ⟨ho, hc, hr, hm⟩ := acked_facts s k ack credits
    refine ⟨acked s k ack credits, naked (acked s k ack credits) k nak,
      shaken (naked (acked s k ack credits) k nak) k hs at_ lanes dev, ho, hc, hr, hm, by cases nak <;> rfl,
      fun h => ?_, fun h1 h4 => ?_, fun h hv => ?_, fun h hv => ?_, ?_⟩
    case refine_5 =>
      subst hk
      exact (exec_linkControlFlit n ack nak hs at_ lanes dev credits s).trans (congrArg Host.Outcome.next
        (takeControl_of_trained ht ack nak hs at_ lanes dev credits))
    · have h5 : hs ≠ 5 := by rintro rfl; simp at h
      have h14 : ¬ (1 ≤ hs.toNat ∧ hs.toNat ≤ 4) := by
        rcases h with rfl | h
        · simp
        · omega
      rw [shaken, if_neg h5, if_neg h14]
    · have h5 : hs ≠ 5 := by rintro rfl; simp at h4
      rw [shaken, if_neg h5, if_pos ⟨h1, h4⟩]
    · rw [shaken, if_pos h]
      exact if_pos hv
    · rw [shaken, if_pos h]
      exact if_neg fun hv' => Bool.false_ne_true (hv.symm.trans hv')
  case retrain =>
    intro n s w k hk ht hw
    obtain ⟨t, hx, hs⟩ := execLinkRetrainDone_good hk ht hw
    obtain ⟨sent, hsent⟩ := hs.2.2
    have hr : portOf (retrained w k) k = { portOf w k with retraining := false, afterRetrain := true, nakRun := 0 } :=
      portOf_modPort w k _
    have hwr : (portOf w k).replay = (portOf s k).replay ∧ w = { s with fab := w.fab } := by
      rw [hw]
      split
      · exact ⟨rfl, rfl⟩
      · exact ⟨by rw [forceRetrain, portOf_modPort], rfl⟩
    refine ⟨⟨t, sent, (exec_linkRetrainDone n true s).trans hx, ?_, ?_, ?_, ?_, ?_⟩,
      (exec_linkRetrainDone n false s).trans (execLinkRetrainDone_failed hk ht hw)⟩
    · rw [hs.field Port.retraining (fun _ => rfl), hr]
    · rw [hs.field Port.afterRetrain (fun _ => rfl), hr]
    · rw [hsent, hr, ← hwr.1]
    · rw [hs.field Port.retrains (fun _ => rfl), hr]
    · refine hs.only.trans ?_
      have hwf := hwr.2
      rw [hwf]
      rfl
  case lane =>
    intro n lane s k hk ht
    refine ⟨_, _, rfl, rfl, ?_⟩
    obtain ⟨h0, h0', h1, h2⟩ := execLaneFault_of_trained hk ht lane rfl rfl
    exact ⟨h0, h0', fun hl h => (h1 hl).trans (congrArg _ (if_pos h)), fun hl h => (h1 hl).trans (congrArg _ (if_neg (by omega))),
      fun hl h => (h2 hl).trans (congrArg _ (if_pos h)), fun hl h => (h2 hl).trans (congrArg _ (if_neg (by omega)))⟩
  case switch =>
    intro n s w k g h rest next hk hg hw hh
    have he := (exec_handshakeSwitch n s).trans (execHandshakeSwitch_of_next hk hg hw hh)
    refine ⟨fun h0 => he.trans (congrArg _ (if_neg h0)), fun h0 hc => ?_, fun h0 hc => ?_, fun h0 hc => ?_, fun h0 hc => ?_⟩ <;>
      rw [he, if_pos h0] <;> simp [Port.switch, hc]
  case later =>
    intro s k h
    have hm : modPort s k (fun p => { p with later := [] }) = s := modPort_eq_self (by rw [← h])
    simp only [askLater, h, List.foldl_nil, hm, ite_self]
  case repaired =>
    intro n s k hk
    subst hk
    refine ⟨fun ht hl => congrArg Host.Outcome.next (if_pos ⟨ht, hl⟩), fun ht => ?_⟩
    obtain ⟨h1, h2, h3, h4, h5⟩ := linkDown_facts s ⟨n.val, by omega⟩
    refine ⟨_, congrArg Host.Outcome.next (if_pos ht), h1, h2, h3, h4, ?_⟩
    rw [h5, if_pos n.isLt]
    exact fun w hw => by simpa using (List.mem_filter.1 hw).2
  case uplink =>
    intro u s k hk
    subst hk
    refine ⟨fun hs => ?_, rfl, fun prio => ⟨rfl, rfl⟩⟩
    obtain ⟨h1, -, -, h4, h5⟩ := linkDown_facts s ⟨u.val + 6, by omega⟩
    exact ⟨_, congrArg Host.Outcome.next (if_pos hs), h1, h4, h5.trans (if_neg (by simp))⟩

end Sys2Proof.Machine
end

section
/-! The router, messages at their target, barriers and groups (10, 11); the obligations O38 to O40. -/

namespace Sys2Proof.Machine

/-! ### The router -/

theorem forward_of_bad_kind {s : State} {i : Nat} {w : Waiting} (hi : s.fab.waiting[i]? = some w) (hv : s.fab.idValid = true)
    (hk : kindOk w.msg = false) : forward s i = dropKind (leave s i w) w.msg := by
  simp only [forward, hi, hv, hk, Bool.not_true, Bool.not_false, Bool.false_eq_true, if_false, if_true]

/-- R294: a multicast of this device becomes its copies. -/
theorem forward_of_own_mcast {s : State} {i : Nat} {w : Waiting} (hi : s.fab.waiting[i]? = some w)
    (hv : s.fab.idValid = true) (hk : kindOk w.msg = true) (hp : w.port = 8) (hm : w.msg.mcast = true)
    (he : w.msg.escape = false) : forward s i = if w.msg.dstDev ≠ w.msg.srcDev then refuse (unwait s i) w.msg rMCAST
      else (unwait s i).modFab (fun f => { f with waiting := f.waiting ++ mcastCopies f w.msg }) := by
  simp only [forward, hi, hv, hk, hp, hm, he, Bool.not_true, Bool.false_eq_true, if_false, and_self, if_true]

/-- What the router does with a waiting message by the route that it has. -/
def forwardBy (s : State) (i : Nat) (w : Waiting) : Route1 → State
  | .here => if w.msg.mcast then mcastArrive (unwait s i) w.port w.cls w.msg else arrive (leave s i w) w.port w.msg
  | .noDevice => refuseWay (leave s i w) w.msg rDEVICE
  | .torus n cls esc dl => match arbitrate s n w with
    | some d => sendTorus (served (leave s i w) n d) n cls { w.msg with escape := esc, dateline := dl }
    | none => s
  | .uplink u dev up => match arbitrate s u w with
    | some d => sendUplink (served (leave s i w) u d) u dev up w.msg
    | none => s
  | .wait esc => modWait s i (fun w => { w with msg := { w.msg with escape := esc }, blocked := none })
  | .blocked esc => modWait s i (fun w => { w with
      msg := { w.msg with escape := esc }, blocked := some (w.blocked.getD s.ts) })

theorem forward_of_route {s : State} {i : Nat} {w : Waiting} {r : Route1} (hi : s.fab.waiting[i]? = some w)
    (hv : s.fab.idValid = true) (hk : kindOk w.msg = true)
    (hm : w.port = 8 → w.msg.mcast = true → w.msg.escape = true) (hr : routeOf s w = r) :
    forward s i = forwardBy s i w r := by
  have hn : ¬ (w.port = 8 ∧ w.msg.mcast = true ∧ w.msg.escape = false) := fun ⟨h1, h2, h3⟩ => by
    rw [hm h1 h2] at h3
    exact absurd h3 (by decide)
  simp only [forward, hi, hv, hk, Bool.not_true, Bool.false_eq_true, if_false, if_neg hn, hr]
  cases r <;> rfl

theorem execNoRouteHold_of_blocked {s : State} {i : Nat} {w : Waiting} {b : DWord} (hi : s.fab.waiting[i]? = some w)
    (hb : w.blocked = some b) : execNoRouteHold i s =
      .next (if decide (s.fab.holdUs * usTicks ≤ s.since b) && (routeOf s w).isBlocked then
        refuseWay (leave s i w) w.msg rROUTE else s) := by
  simp only [execNoRouteHold, hi, hb]

/-- R298: what RESEND_TIMEOUT does with a stored copy. -/
theorem execResendTimeout_of_copy {s : State} {i : Nat} {r : RtxEnt} (hi : s.fab.rtx[i]? = some r) :
    (s.since r.since < s.fab.resendUs * usTicks → execResendTimeout i s = .next s) ∧
    (s.fab.resendUs * usTicks ≤ s.since r.since → r.sends < s.fab.resendLimit → execResendTimeout i s =
      .next (inject (s.modFab (fun f => { f with
        resends := satAdd f.resends 1
        rtx := lmod f.rtx i (fun r => { r with sends := r.sends + 1, since := s.ts }) })) r.msg)) ∧
    (s.fab.resendUs * usTicks ≤ s.since r.since → s.fab.resendLimit ≤ r.sends → ∃ part core body, execResendTimeout i s =
      .next (pumpSends (record (s.modFab (fun f => { f with undeliv := satAdd f.undeliv 1, rtx := f.rtx.eraseIdx i }))
        0x0203 part core body))) := by
  refine ⟨fun h => ?_, fun h hs => ?_, fun h hs => ?_⟩
  · simp only [execResendTimeout, hi, if_pos h]
  · simp only [execResendTimeout, hi, if_neg (Nat.not_lt.2 h), if_pos hs]
  · simp only [execResendTimeout, hi, if_neg (Nat.not_lt.2 h), if_neg (Nat.not_lt.2 hs)]
    exact ⟨_, _, _, rfl⟩

theorem execEthernetFrameReceive_of_up {u : Fin 2} {k : Fin 8} {s w : State} {x : FrameIn} (hk : k = ⟨u.val + 6, by omega⟩)
    (hs : (portOf s k).state = 1)
    (hw : w = modPort s k (fun p => { p with cwCorr := satAdd p.cwCorr x.corrected, cwBad := satAdd p.cwBad x.bad })) :
    (x.bad ≠ 0 ∨ s.fab.idValid = false → execEthernetFrameReceive u x s = .next w) ∧
    (x.bad = 0 → s.fab.idValid = true → openEther s.fab u.val x.frame = none → execEthernetFrameReceive u x s = .next w) ∧
    (∀ payload, x.bad = 0 → s.fab.idValid = true → openEther s.fab u.val x.frame = some payload →
      execEthernetFrameReceive u x s = .next (takeFrame w k payload)) := by
  have ho : openEther w.fab u.val x.frame = openEther s.fab u.val x.frame := by rw [hw]; rfl
  have hv : w.fab.idValid = s.fab.idValid := by rw [hw]; rfl
  have hx : execEthernetFrameReceive u x s = .next (if x.bad ≠ 0 ∨ w.fab.idValid = false then w
      else match openEther w.fab u.val x.frame with
        | some p => takeFrame w k p
        | none => w) := by
    subst hk hw
    exact congrArg Host.Outcome.next (if_neg (not_not.2 hs))
  rw [hx, hv, ho]
  refine ⟨fun h => by rw [if_pos h], fun h0 h1 h2 => ?_, fun payload h0 h1 h2 => ?_⟩ <;>
    rw [if_neg (by simp [h0, h1]), h2]

/-- R303, R304: a frame for this device without the flag of R305. -/
theorem takeFrame_of_clear {s : State} {k : Fin 8} {payload : List Byte} {ms : List Msg} (h1 : natAt payload 0 1 = 1)
    (h2 : natAt payload 2 2 ≠ 0) (h3 : natAt payload 2 2 ≤ 8) (h4 : natAt payload 6 2 = s.fab.devId.toNat)
    (h5 : bit (natAt payload 1 1) 0 = false) (hms : ms = msgsOfBytes (natAt payload 2 2) (payload.drop 8)) :
    takeFrame s k payload = if !oneVc ms || ms.any (fun m => m.vc ≠ 1 && (uplinkSlot s m.job).isSome) then s
      else pfcCheck (ms.foldl (takeIn k.val) s) k := by
  subst hms
  have hn : ¬ (natAt payload 0 1 ≠ 1 ∨ natAt payload 2 2 = 0 ∨ 8 < natAt payload 2 2 ∨
      natAt payload 6 2 ≠ s.fab.devId.toNat) := by omega
  simp only [takeFrame, if_neg hn, h5, Bool.false_eq_true, if_false]

theorem arbitrate_of_ctrl {s : State} {n : Fin 8} {w : Waiting} (h : w.msg.vc = 3) :
    arbitrate s n w = some ((portOf s n).drrTurn, (portOf s n).drrDeficit) := by
  simp [arbitrate, drrRow, h]

theorem arbitrate_behind_ctrl {s : State} {n : Fin 8} {w v : Waiting} (h : w.msg.vc ≠ 3) (hv : v ∈ s.fab.waiting)
    (hc : v.msg.vc = 3) (ho : (routeOf s v).out = some n) : arbitrate s n w = none := by
  have ha : (s.fab.waiting.filter (fun v => decide ((routeOf s v).out = some n))).any (fun v => decide (v.msg.vc = 3)) = true :=
    List.any_eq_true.2 ⟨v, List.mem_filter.2 ⟨hv, decide_eq_true ho⟩, decide_eq_true hc⟩
  unfold arbitrate
  split
  case h_1 hr =>
    have : w.msg.vc = 0 ∨ w.msg.vc = 1 ∨ w.msg.vc = 2 ∨ w.msg.vc = 3 := by revert h; generalize w.msg.vc = x; revert x; decide
    rcases this with h' | h' | h' | h' <;> simp_all [drrRow]
  case h_2 => rw [if_pos ha]

/-- Settles O38, by the route of the message. -/
theorem routerEvents : Obligations.router_events := by
  refine ⟨?forward, ?kind, ?arbitration, ?hold, ?resend, ?frame, ?clear⟩
  case forward =>
    intro i s w hi hv hk hm
    have he : ∀ r, routeOf s w = r → exec (.messageForward i) s = .next (forwardBy s i w r) :=
      fun r hr => congrArg Host.Outcome.next (forward_of_route hi hv hk hm hr)
    refine ⟨fun n cls esc dl hr => ⟨fun d hd => ?_, fun hd => ?_⟩, fun u dev up hr => ⟨fun d hd => ?_, fun hd => ?_⟩,
      fun hr hc => ?_, fun hr hc => ?_, fun hr hc => ?_, fun esc hr => he _ hr, fun esc hr => he _ hr⟩ <;> rw [he _ hr, forwardBy]
    · rw [hd]
    · rw [hd]
    · rw [hd]
    · rw [hd]
    · rw [if_neg (by simp [hc])]
    · rw [if_pos hc]
    · rw [refuseWay, if_neg hc]
  case kind =>
    intro i s w hi hv
    refine ⟨fun hk => congrArg Host.Outcome.next (forward_of_bad_kind hi hv hk), fun hk hp hm he => ⟨fun hd => ?_, fun hd => ?_⟩⟩
    · exact congrArg Host.Outcome.next ((forward_of_own_mcast hi hv hk hp hm he).trans (if_neg (not_not.2 hd)))
    · exact congrArg Host.Outcome.next ((forward_of_own_mcast hi hv hk hp hm he).trans (if_pos hd))
  case arbitration => exact fun s n w => ⟨arbitrate_of_ctrl, fun h ⟨v, hv, hc, ho⟩ => arbitrate_behind_ctrl h hv hc ho⟩
  case hold =>
    intro i s w b hi hb
    refine ⟨fun esc hd hr hv => ?_, fun hd => ?_⟩ <;> rw [exec_noRouteHold, execNoRouteHold_of_blocked hi hb]
    · rw [if_pos (by simp [hd, hr, Route1.isBlocked]), refuseWay, if_neg hv]
    · rw [if_neg (by simp [hd])]
  case resend =>
    intro i s r hi
    obtain ⟨h1, h2, h3⟩ := execResendTimeout_of_copy hi
    refine ⟨h1, fun hd hs => ⟨_, h2 hd hs, rfl, rfl, rfl, rfl⟩, fun hd hs => ?_⟩
    obtain ⟨part, core, body, h⟩ := h3 hd hs
    refine ⟨_, h, ?_⟩
    rw [record_fab]
    exact ⟨rfl, rfl, rfl⟩
  case frame =>
    intro u x s w k hk hs hw
    obtain ⟨h1, h2, h3⟩ := execEthernetFrameReceive_of_up hk hs hw
    refine ⟨fun h => ?_, fun payload hb hv ho => h3 payload hb hv ho⟩
    rcases h with h | h | h
    · exact h1 (.inl h)
    · exact h1 (.inr h)
    · by_cases hb : x.bad = 0
      · cases hv : s.fab.idValid
        · exact h1 (.inr hv)
        · exact h2 hb hv h
      · exact h1 (.inl hb)
  case clear =>
    intro s k payload ms p1 p2 p3 p4 p5 hms
    refine ⟨fun ho hu => ?_, fun h => ?_⟩ <;> rw [takeFrame_of_clear p1 p2 p3 p4 p5 hms]
    · refine if_neg ?_
      simp only [ho, Bool.not_true, Bool.false_or, Bool.not_eq_true, List.any_eq_false]
      intro m hm
      by_cases hv : m.vc = 1
      · rw [decide_eq_false (not_not.2 hv), Bool.false_and]
      · rw [hu m hm hv, Option.isSome_none, Bool.and_false]
    · refine if_pos ?_
      rcases h with h | ⟨m, hm, hv, hu⟩
      · rw [h]
        rfl
      · rw [Bool.or_eq_true]
        exact .inr (List.any_eq_true.2 ⟨m, hm, Bool.and_eq_true_iff.2 ⟨decide_eq_true hv, hu⟩⟩)

/-! ### What a landing leaves of the partitions -/

/-- `t` differs from `s` at most in cores, memory, poison and telemetry. -/
def OnlyTrace (s t : State) : Prop := ∃ cores mem poison tel, t = { s with
  cores := cores, mem := mem, poison := poison, tel := tel }

theorem OnlyTrace.refl (s : State) : OnlyTrace s s := ⟨_, _, _, _, rfl⟩

theorem OnlyTrace.trans {s t u : State} (h : OnlyTrace s t) (g : OnlyTrace t u) : OnlyTrace s u := by
  obtain ⟨_, _, _, _, rfl⟩ := h
  obtain ⟨_, _, _, _, rfl⟩ := g
  exact ⟨_, _, _, _, rfl⟩

theorem OnlyTrace.ite {s t u : State} {c : Prop} [Decidable c] (h : OnlyTrace s t) (g : OnlyTrace s u) :
    OnlyTrace s (if c then t else u) := by
  split
  exacts [h, g]

theorem OnlyTrace.foldl {α : Type} {f : State → α → State} (h : ∀ s a, OnlyTrace s (f s a)) (l : List α) (s : State) :
    OnlyTrace s (l.foldl f s) := by
  induction l generalizing s with
  | nil => exact .refl s
  | cons a l ih => exact (h s a).trans (ih _)

theorem OnlyTrace.fab {s t : State} (h : OnlyTrace s t) : t.fab = s.fab := by
  obtain ⟨_, _, _, _, rfl⟩ := h
  rfl

theorem modCore_onlyTrace (s : State) (c : Fin 96) (f : Core → Core) : OnlyTrace s (s.modCore c f) := ⟨_, _, _, _, rfl⟩
theorem write_onlyTrace (s : State) (a : Nat) (bs : List Byte) (p : Bool) : OnlyTrace s (s.write a bs p) := ⟨_, _, _, _, rfl⟩
theorem record_onlyTrace (s : State) (code part core : Nat) (body : List Byte) : OnlyTrace s (record s code part core body) := by
  unfold record
  split <;> exact ⟨_, _, _, _, rfl⟩

theorem fbStore_onlyTrace (s : State) (c : Fin 96) (n : Nat) (bs : List Byte) : OnlyTrace s (fbStore s c n bs) :=
  write_onlyTrace _ _ _ _

theorem fbAppend_onlyTrace (s : State) (c : Fin 96) (bs : List Byte) : OnlyTrace s (fbAppend s c bs) := by
  unfold fbAppend
  exact (fbStore_onlyTrace _ _ _ _).trans (modCore_onlyTrace _ _ _)

theorem fbRemove_onlyTrace (s : State) (c : Fin 96) (w d : Nat) : OnlyTrace s (fbRemove s c w d) :=
  .foldl (fun _ _ => fbStore_onlyTrace _ _ _ _) _ s

theorem fbJudge_onlyTrace (s : State) (c : Fin 96) (p : Fin 4) (bs : List Byte) : OnlyTrace s (fbJudge s c p bs) := by
  unfold fbJudge
  extract_lets f lose n u q v
  have hl : OnlyTrace s lose := modCore_onlyTrace _ _ _
  have hm : ∀ {t : State} (f : FieldBook → FieldBook), OnlyTrace s t → OnlyTrace s (modFb t c f) :=
    fun f h => h.trans (modCore_onlyTrace _ _ _)
  refine .ite hl (.ite (.ite (fbAppend_onlyTrace _ _ _) (hm _ (fbAppend_onlyTrace _ _ _)))
    (.ite (.ite (fbAppend_onlyTrace _ _ _) (hm _ hl)) (.ite
      (.ite (.ite (hm _ (fbStore_onlyTrace _ _ _ _)) hl) (.ite hl (hm _ (fbStore_onlyTrace _ _ _ _))))
      (.ite (fbAppend_onlyTrace _ _ _) (.ite hl ?_)))))
  split
  · exact hl
  · exact (hm _ (fbRemove_onlyTrace _ _ _ _)).trans (fbAppend_onlyTrace _ _ _)

theorem fbPut_onlyTrace (s : State) (c : Fin 96) (kind eng : Nat) (bs : List Byte) : OnlyTrace s (fbPut s c kind eng bs) := by
  unfold fbPut
  extract_lets f top u ln w v
  have hu : OnlyTrace s u := .ite (.refl s) ((fbJudge_onlyTrace _ _ _ _).trans (modCore_onlyTrace _ _ _))
  have hv : OnlyTrace s v := .ite hu ((hu.trans (modCore_onlyTrace _ _ _)).trans (fbJudge_onlyTrace _ _ _ _))
  exact .ite (.refl s) (hv.trans (fbJudge_onlyTrace _ _ _ _))

/-- `t` differs from `s` at most in cores, memory, poison, telemetry, fabric, memory system and the free values drawn. -/
def OnlyData (s t : State) : Prop := ∃ cores mem poison tel fab ms freeCtr, t = { s with
  cores := cores, mem := mem, poison := poison, tel := tel, fab := fab, ms := ms, freeCtr := freeCtr }

theorem OnlyData.refl (s : State) : OnlyData s s := ⟨_, _, _, _, _, _, _, rfl⟩

theorem OnlyData.trans {s t u : State} (h : OnlyData s t) (g : OnlyData t u) : OnlyData s u := by
  obtain ⟨_, _, _, _, _, _, _, rfl⟩ := h
  obtain ⟨_, _, _, _, _, _, _, rfl⟩ := g
  exact ⟨_, _, _, _, _, _, _, rfl⟩

theorem OnlyData.ite {s t u : State} {c : Prop} [Decidable c] (h : OnlyData s t) (g : OnlyData s u) :
    OnlyData s (if c then t else u) := by
  split
  exacts [h, g]

theorem OnlyData.foldl {α : Type} {f : State → α → State} (h : ∀ s a, OnlyData s (f s a)) (l : List α) (s : State) :
    OnlyData s (l.foldl f s) := by
  induction l generalizing s with
  | nil => exact .refl s
  | cons a l ih => exact (h s a).trans (ih _)

theorem OnlyTrace.onlyData {s t : State} (h : OnlyTrace s t) : OnlyData s t := by
  obtain ⟨_, _, _, _, rfl⟩ := h
  exact ⟨_, _, _, _, _, _, _, rfl⟩

theorem OnlyData.parts {s t : State} (h : OnlyData s t) : t.parts = s.parts := by
  obtain ⟨_, _, _, _, _, _, _, rfl⟩ := h
  rfl

theorem modCore_onlyData (s : State) (c : Fin 96) (f : Core → Core) : OnlyData s (s.modCore c f) := ⟨_, _, _, _, _, _, _, rfl⟩
theorem write_onlyData (s : State) (a : Nat) (bs : List Byte) (p : Bool) : OnlyData s (s.write a bs p) :=
  ⟨_, _, _, _, _, _, _, rfl⟩
theorem mark_onlyData (s : State) (a n : Nat) : OnlyData s (s.mark a n) := ⟨_, _, _, _, _, _, _, rfl⟩
theorem modFab_onlyData (s : State) (f : Fabric → Fabric) : OnlyData s (s.modFab f) := ⟨_, _, _, _, _, _, _, rfl⟩

theorem record_onlyData (s : State) (code part core : Nat) (body : List Byte) : OnlyData s (record s code part core body) :=
  (record_onlyTrace _ _ _ _ _).onlyData

theorem fbPut_onlyData (s : State) (c : Fin 96) (kind eng : Nat) (bs : List Byte) : OnlyData s (fbPut s c kind eng bs) :=
  (fbPut_onlyTrace _ _ _ _ _).onlyData

theorem sramHit_onlyData (s : State) (c : Fin 96) (o : Nat) : OnlyData s (sramHit s c o) :=
  (mark_onlyData _ _ _).trans (record_onlyData _ _ _ _ _)

theorem meetErrs_onlyData (s : State) (rs : List Range) : OnlyData s (meetErrs s rs) := by
  unfold meetErrs
  refine .ite (.refl s) (.trans (t := { s with ms := _ }) ⟨_, _, _, _, _, _, _, rfl⟩ (.foldl (fun s u => ?_) _ _))
  split
  · exact sramHit_onlyData _ _ _
  · exact .refl s

theorem landBytes_onlyData (s : State) (a : Nat) (bs : List Byte) (off poison : Nat) :
    OnlyData s (landBytes s a bs off poison) :=
  (write_onlyData s a bs false).trans (.foldl (fun s _ => .ite (mark_onlyData s _ _) (.refl s)) _ _)

theorem addChunk_onlyData (s : State) (c : Fin 96) (g a : Nat) (bs : List Byte) (po : Nat → Bool) :
    OnlyData s (addChunk s c g a bs po) := by
  unfold addChunk
  extract_lets u k t n xs elems v w z
  have hu : OnlyData s u := .ite (.refl s) (meetErrs_onlyData s _)
  have hw : OnlyData v w := .foldl (fun s _ => .ite (mark_onlyData s _ _) (.refl s)) _ v
  exact (hu.trans (write_onlyData u _ _ _)).trans (hw.trans (modCore_onlyData _ _ _))

theorem nextRankOf_onlyData (s : State) (c : Fin 96) (g : Nat) : OnlyData s (nextRankOf s c g) :=
  (modCore_onlyData s c _).trans (modCore_onlyData _ c _)

theorem landTokens_onlyData (s : State) (c : Fin 96) (m : Msg) : OnlyData s (landTokens s c m) := by
  unfold landTokens
  extract_lets g data sc ret hb cap lo n u v r0 w j pc nb u' v' w'
  refine .ite ?_ ?_
  · exact (((write_onlyData _ _ _ _).trans (write_onlyData _ _ _ _)).trans (write_onlyData _ _ _ _)).trans
      (modCore_onlyData _ _ _)
  · have hw : OnlyData v' w' := .ite (write_onlyData _ _ _ _) (.refl _)
    exact (((landBytes_onlyData _ _ _ _ _).trans (landBytes_onlyData _ _ _ _ _)).trans hw).trans (modCore_onlyData _ _ _)

/-- XC_ATTEMPT of every partition. -/
def State.attempts (s : State) : Vector (BitVec 4 × BitVec 4) 12 := s.parts.map (fun q => (q.xc.attempt0, q.xc.attempt1))

/-- `t` has the ATTEMPTs of `s`. -/
def SameAttempts (s t : State) : Prop := t.attempts = s.attempts

theorem SameAttempts.refl (s : State) : SameAttempts s s := rfl

theorem SameAttempts.trans {s t u : State} (h : SameAttempts s t) (g : SameAttempts t u) : SameAttempts s u := Eq.trans g h

theorem OnlyData.sameAttempts {s t : State} (h : OnlyData s t) : SameAttempts s t := by
  rw [SameAttempts, State.attempts, h.parts]
  rfl

theorem map_vset {α β : Type} {n : Nat} (f : α → β) (v : Vector α n) (i : Fin n) (x : α) :
    (vset v i x).map f = vset (v.map f) i (f x) := by
  simp only [vset, Vector.map_set]

theorem modXc_sameAttempts (s : State) (p : Fin 12) {f : Xc → Xc}
    (h : ∀ x, (f x).attempt0 = x.attempt0 ∧ (f x).attempt1 = x.attempt1) : SameAttempts s (modXc s p f) := by
  have hp : (modXc s p f).parts = vset s.parts p { s.part p with xc := f (s.part p).xc } := rfl
  rw [SameAttempts, State.attempts, hp, map_vset, (h _).1, (h _).2]
  exact (congrArg (vset _ p) (vget_map s.parts _ p).symm).trans (vset_vget _ p)

theorem SameAttempts.foldl {α : Type} {f : State → α → State} (h : ∀ s a, SameAttempts s (f s a)) (l : List α) (s : State) :
    SameAttempts s (l.foldl f s) := by
  induction l generalizing s with
  | nil => exact .refl s
  | cons a l ih => exact (h s a).trans (ih _)

theorem advanceRank_sameAttempts (c : Fin 96) (p : Fin 12) (g total : Nat) (n : Nat) (s : State) :
    SameAttempts s (advanceRank c p g total n s) := by
  induction n generalizing s total with
  | zero => exact .refl s
  | succ n ih =>
    unfold advanceRank
    extract_lets t u xc mine due
    have hu : SameAttempts s u := (nextRankOf_onlyData _ _ _).sameAttempts
    split
    · exact .refl s
    split
    · exact hu
    · have hx : ∀ t, SameAttempts t (modXc t p (fun x => { x with staged := x.staged.filter (fun h => !mine h) })) :=
        fun t => modXc_sameAttempts t p fun _ => ⟨rfl, rfl⟩
      refine ((hu.trans (OnlyData.sameAttempts (.foldl (fun s h => ?_) due u))).trans (hx _)).trans (ih _ _)
      exact addChunk_onlyData _ _ _ _ _ _

/-- A landing leaves the ATTEMPTs. -/
def Land.Keeps (s : State) : Land → Prop
  | .landed t => SameAttempts s t
  | .refused t _ => SameAttempts s t

theorem Land.Keeps.ite {s : State} {l k : Land} {c : Prop} [Decidable c] (h : l.Keeps s) (g : k.Keeps s) :
    (if c then l else k).Keeps s := by
  split
  exacts [h, g]

theorem SameAttempts.modXc {s t : State} {p : Fin 12} {f : Xc → Xc} (h : SameAttempts s t)
    (hf : ∀ x, (f x).attempt0 = x.attempt0 ∧ (f x).attempt1 = x.attempt1) : SameAttempts s (modXc t p f) :=
  h.trans (modXc_sameAttempts t p hf)

theorem SameAttempts.onlyData {s t u : State} (h : SameAttempts s t) (g : OnlyData t u) : SameAttempts s u :=
  h.trans g.sameAttempts

theorem exchDrop_onlyData (s : State) (p : Fin 12) (m : Msg) (cause : Nat) : OnlyData s (exchDrop s p m cause) :=
  record_onlyData _ _ _ _ _

theorem recvRecord_onlyData (s : State) (c : Fin 96) (m : Msg) (dup : Bool) : OnlyData s (recvRecord s c m dup) :=
  fbPut_onlyData _ _ _ _ _

theorem modTally_onlyData (s : State) (c : Fin 96) (g : Nat) (f : Tally → Tally) : OnlyData s (modTally s c g f) :=
  modCore_onlyData _ _ _

theorem landReduction_keepsAttempts (s : State) (c : Fin 96) (p : Fin 12) (m : Msg) : (landReduction s c p m).Keeps s := by
  unfold landReduction
  extract_lets g t limit r total u v x
  refine .ite ?late (.ite ?again (.ite ?due ?early))
  case late =>
    refine SameAttempts.onlyData ?_ (exchDrop_onlyData _ _ _ _)
    exact SameAttempts.modXc (.refl s) fun _ => ⟨rfl, rfl⟩
  case again => exact SameAttempts.modXc (.refl s) fun _ => ⟨rfl, rfl⟩
  case due =>
    exact SameAttempts.trans (t := v) (.onlyData (t := u) (modTally_onlyData _ _ _ _).sameAttempts
      (addChunk_onlyData _ _ _ _ _ _)) (advanceRank_sameAttempts _ _ _ _ _ _)
  case early =>
    clear_value x
    cases (List.range x.slots.toNat).find? (fun i => x.staged.all (fun h => decide (h.slot ≠ i))) with
    | none => exact SameAttempts.modXc (.refl s) fun _ => ⟨rfl, rfl⟩
    | some i =>
      refine .ite ?_ ?_
      · exact SameAttempts.modXc (.onlyData (t := modTally s c g _) (modTally_onlyData _ _ _ _).sameAttempts
          (landBytes_onlyData _ _ _ _ _)) fun _ => ⟨rfl, rfl⟩
      · exact SameAttempts.modXc (.refl s) fun _ => ⟨rfl, rfl⟩

theorem Land.Keeps.after {s t : State} {l : Land} (h : l.Keeps t) (g : SameAttempts s t) : l.Keeps s := by
  cases l <;> exact SameAttempts.trans g h

theorem xiLand_keepsAttempts (s : State) (p : Fin 12) (m : Msg) : (xiLand s p m).Keeps s := by
  have hb : ∀ a, SameAttempts s (landBytes s a m.data 0 m.poison.toNat) :=
    fun a => (landBytes_onlyData _ _ _ _ _).sameAttempts
  unfold xiLand
  cases coreOf? m.dstCore.toNat with
  | none => exact Land.Keeps.ite (l := .refused s rABSENT) (.refl s) (hb _)
  | some c =>
    refine .ite ((hb _).onlyData (recvRecord_onlyData _ _ _ _)) ?_
    extract_lets g t s1 l
    have h1 : SameAttempts s s1 := (modTally_onlyData _ _ _ _).sameAttempts
    have hl : l.Keeps s1 := .ite (landReduction_keepsAttempts _ _ _ _) (.ite (landTokens_onlyData _ _ _).sameAttempts
      ((landBytes_onlyData s1 _ _ _ _).sameAttempts.onlyData (modTally_onlyData _ _ _ _)))
    refine .ite ?_ ?_
    · refine SameAttempts.onlyData ?_ (exchDrop_onlyData _ _ _ _)
      exact SameAttempts.modXc (.refl s) fun _ => ⟨rfl, rfl⟩
    · clear_value l
      cases l with
      | landed t => exact (h1.trans hl).onlyData (recvRecord_onlyData _ _ _ _)
      | refused t r => exact (h1.trans hl).onlyData (modCore_onlyData _ _ _)

theorem injectAt_onlyData (s : State) (port : Nat) (m : Msg) : OnlyData s (injectAt s port m) := by
  unfold injectAt
  exact modFab_onlyData _ _

theorem answer_onlyData (s : State) (m : Msg) (reason : Nat) : OnlyData s (answer s m reason) := by
  unfold answer
  exact injectAt_onlyData _ _ _

theorem refuse_onlyData (s : State) (m : Msg) (reason : Nat) : OnlyData s (refuse s m reason) :=
  (modFab_onlyData _ _).trans (answer_onlyData _ _ _)

theorem ack_onlyData (s : State) (m : Msg) : OnlyData s (ack s m) := .ite (answer_onlyData _ _ _) (.refl s)

theorem stepSeq_onlyData (s : State) (k : SeqKey) : OnlyData s (stepSeq s k) := by
  unfold stepSeq
  exact modFab_onlyData _ _

theorem acceptMsg_sameAttempts (s : State) (p : Fin 12) (m : Msg) : SameAttempts s (acceptMsg s p m).1 := by
  have h := xiLand_keepsAttempts s p m
  unfold acceptMsg
  cases hl : xiLand s p m with
  | landed t =>
    rw [hl] at h
    exact SameAttempts.onlyData (t := dupMark t m) (SameAttempts.onlyData h (modFab_onlyData _ _)) (ack_onlyData _ _)
  | refused t r =>
    rw [hl] at h
    exact SameAttempts.onlyData h (refuse_onlyData _ _ _)

theorem dropStale_sameAttempts (s : State) (p : Fin 12) : SameAttempts s (dropStale s p) :=
  modXc_sameAttempts s p fun _ => ⟨rfl, rfl⟩

theorem releaseHeld_sameAttempts (k : SeqKey) (n : Nat) (s : State) : SameAttempts s (releaseHeld k n s) := by
  induction n generalizing s with
  | zero => exact .refl s
  | succ n ih =>
    have hs : ∀ {t : State}, SameAttempts s t → SameAttempts s (releaseHeld k n (stepSeq t k)) :=
      fun h => (h.onlyData (stepSeq_onlyData _ _)).trans (ih _)
    have ha : ∀ u p m, SameAttempts s u → SameAttempts s (match acceptMsg u p m with
        | (t, true) => releaseHeld k n (stepSeq t k)
        | (t, false) => t) := by
      intro u p m h
      have ht := h.trans (acceptMsg_sameAttempts u p m)
      generalize acceptMsg u p m = r at ht ⊢
      obtain ⟨t, b⟩ := r
      cases b
      · exact ht
      · exact hs ht
    unfold releaseHeld
    extract_lets e
    split
    · exact hs (modFab_onlyData _ _).sameAttempts
    split
    · exact .refl s
    split
    · exact .refl s
    have hu : ∀ f, SameAttempts s (s.modFab f) := fun f => (modFab_onlyData _ f).sameAttempts
    split
    · exact hs (hu _)
    split
    · exact hs ((hu _).trans (dropStale_sameAttempts _ _))
    · exact ha _ _ _ (hu _)

theorem passSeq_sameAttempts (s : State) (m : Msg) : SameAttempts s (passSeq s m) := by
  unfold passSeq
  extract_lets k
  split
  · exact .refl s
  split
  · exact (stepSeq_onlyData _ _).sameAttempts.trans (releaseHeld_sameAttempts _ _ _)
  · exact (modFab_onlyData _ _).sameAttempts

theorem routerSend_onlyData (s : State) (port : Nat) (src : BitVec 7) (m : Msg) : OnlyData s (routerSend s port src m).1 := by
  unfold routerSend
  refine OnlyData.trans ?_ (injectAt_onlyData _ _ _)
  exact modFab_onlyData _ _

theorem sendOne_onlyData (s : State) (c : Fin 96) (m : Msg) : OnlyData s (sendOne s c m) :=
  ((modCore_onlyData _ _ _).trans (routerSend_onlyData _ _ _ _)).trans (fbPut_onlyData _ _ _ _ _)

theorem sendMsgs_onlyData (c : Fin 96) (ms : List Msg) (s : State) : OnlyData s (sendMsgs c s ms).1 := by
  induction ms generalizing s with
  | nil => exact .refl s
  | cons m ms ih =>
    unfold sendMsgs
    split
    · exact (sendOne_onlyData _ _ _).trans (ih _)
    · exact .refl s

theorem pumpFw_onlyData (n : Nat) (s : State) : OnlyData s (pumpFw n s) := by
  induction n generalizing s with
  | zero => exact .refl s
  | succ n ih =>
    unfold pumpFw
    split
    · exact .refl s
    · exact .ite (((modFab_onlyData _ _).trans (routerSend_onlyData _ _ _ _)).trans (ih _)) (.refl s)

theorem pumpCore_onlyData (s : State) (c : Fin 96) : OnlyData s (pumpCore s c) := by
  unfold pumpCore
  split
  · exact .refl s
  · exact (sendMsgs_onlyData _ _ _).trans (modCore_onlyData _ _ _)

theorem pumpSends_onlyData (s : State) : OnlyData s (pumpSends s) :=
  (pumpFw_onlyData _ _).trans (.foldl (fun s c => pumpCore_onlyData s c) _ _)

theorem sendOne_held (s : State) (c : Fin 96) (m : Msg) : (sendOne s c m).fab.held = s.fab.held := by
  unfold sendOne
  refine (congrArg Fabric.held (fbPut_onlyTrace _ _ _ _ _).fab).trans ?_
  rfl

theorem sendMsgs_held (c : Fin 96) (ms : List Msg) (s : State) : (sendMsgs c s ms).1.fab.held = s.fab.held := by
  induction ms generalizing s with
  | nil => rfl
  | cons m ms ih =>
    unfold sendMsgs
    split
    · exact (ih _).trans (sendOne_held _ _ _)
    · rfl

theorem pumpFw_held (n : Nat) (s : State) : (pumpFw n s).fab.held = s.fab.held := by
  induction n generalizing s with
  | zero => rfl
  | succ n ih =>
    unfold pumpFw
    split
    · rfl
    · split
      · exact ih _
      · rfl

theorem pumpCore_held (s : State) (c : Fin 96) : (pumpCore s c).fab.held = s.fab.held := by
  unfold pumpCore
  split
  · rfl
  · exact sendMsgs_held _ _ _

theorem foldl_pumpCore_held (l : List (Fin 96)) (s : State) : (l.foldl pumpCore s).fab.held = s.fab.held := by
  induction l generalizing s with
  | nil => rfl
  | cons c l ih => exact (ih _).trans (pumpCore_held _ _)

theorem pumpSends_held (s : State) : (pumpSends s).fab.held = s.fab.held := by
  unfold pumpSends
  exact (foldl_pumpCore_held _ _).trans (pumpFw_held _ _)

/-! ### ATTEMPT -/

/-- R325: the partition's exchange context with the ATTEMPT of one parity set. -/
def Xc.withAttempt (x : Xc) (odd : Bool) (v : BitVec 4) : Xc :=
  { x with
    attempt0 := if odd then x.attempt0 else v
    attempt1 := if odd then v else x.attempt1
    staged := x.staged.filter (fun h => decide (h.parity ≠ odd)) }

theorem attempts_vget (s : State) (p : Fin 12) : vget s.attempts p = ((s.part p).xc.attempt0, (s.part p).xc.attempt1) :=
  vget_map _ _ _

/-- R325: before the messages that are now stale give up their places, only the partition has changed its context. -/
theorem setAttempt_stages (s : State) (p : Fin 12) (odd : Bool) (v : BitVec 4) : ∃ (u : State) (stale : List (Msg × DWord)),
    OnlyData (modXc s p (fun x => x.withAttempt odd v)) u ∧ (s.fab.held = [] → stale = [] ∧ u.fab.held = []) ∧
    setAttempt s p odd v = pumpSends (stale.foldl (fun s h => passSeq (dropStale s p) h.1) u) := by
  unfold setAttempt
  extract_lets job u w gone stale x
  have hw : OnlyTrace u w := .foldl (fun s c => modCore_onlyTrace s c _) _ u
  refine ⟨x, stale, ?_, fun h => ?_, rfl⟩
  · exact hw.onlyData.trans (modFab_onlyData _ _)
  · have hheld : w.fab.held = [] := (congrArg Fabric.held hw.fab).trans h
    have hstale : stale = [] := by
      unfold stale
      rw [hheld, List.filter_nil]
    refine ⟨hstale, ?_⟩
    show List.filter _ w.fab.held = []
    rw [hheld, List.filter_nil]

theorem setAttempt_attempts (s : State) (p : Fin 12) (odd : Bool) (v : BitVec 4) :
    vget (setAttempt s p odd v).attempts p = (if odd then (s.part p).xc.attempt0 else v,
      if odd then v else (s.part p).xc.attempt1) := by
  obtain ⟨u, stale, hu, -, he⟩ := setAttempt_stages s p odd v
  have hs : SameAttempts u (setAttempt s p odd v) := by
    rw [he]
    exact (SameAttempts.foldl (fun s h => (dropStale_sameAttempts s p).trans (passSeq_sameAttempts _ _)) stale u).onlyData
      (pumpSends_onlyData _)
  have hp : (modXc s p (fun x => x.withAttempt odd v)).part p =
      { s.part p with xc := (s.part p).xc.withAttempt odd v } := State.part_modPart _ _ _
  rw [show (setAttempt s p odd v).attempts = _ from hs, show u.attempts = _ from hu.sameAttempts, attempts_vget, hp]
  rfl

theorem setAttempt_of_none_held {s : State} (h : s.fab.held = []) (p : Fin 12) (odd : Bool) (v : BitVec 4) :
    (setAttempt s p odd v).fab.held = [] ∧ ∀ q, q ≠ p → (setAttempt s p odd v).part q = s.part q := by
  obtain ⟨u, stale, hu, hn, he⟩ := setAttempt_stages s p odd v
  obtain ⟨hstale, hheld⟩ := hn h
  rw [he, hstale, List.foldl_nil]
  refine ⟨(pumpSends_held u).trans hheld, fun q hq => ?_⟩
  have hparts : (pumpSends u).parts = _ := (pumpSends_onlyData u).parts.trans hu.parts
  exact (congrArg (vget · q) hparts).trans (State.part_modPart_of_ne _ _ _ _ hq.symm)

/-- XC_ATTEMPT of partition `p`, one parity after the other. -/
theorem execXcAttempt_facts (p : Fin 12) (even odd : BitVec 4) (s : State) : ∃ t, execXcAttempt p even odd s = .next t ∧
    (t.part p).xc.attempt0 = even ∧ (t.part p).xc.attempt1 = odd ∧
    (s.fab.held = [] → ∀ q, q ≠ p → t.part q = s.part q) ∧
    ((s.part p).xc.attempt0 = even → (s.part p).xc.attempt1 = odd → t = s) := by
  unfold execXcAttempt
  extract_lets x u
  have hu : (u.part p).xc.attempt0 = even ∧ (u.part p).xc.attempt1 = (s.part p).xc.attempt1 ∧
      (s.fab.held = [] → u.fab.held = [] ∧ ∀ q, q ≠ p → u.part q = s.part q) := by
    by_cases h : x.attempt0 = even
    · rw [show u = s from if_pos h]
      exact ⟨h, rfl, fun hh => ⟨hh, fun _ _ => rfl⟩⟩
    · rw [show u = setAttempt s p false even from if_neg h]
      have ha := (attempts_vget _ p).symm.trans (setAttempt_attempts s p false even)
      obtain ⟨h0, h1⟩ := Prod.mk.inj ha
      exact ⟨h0, h1, fun hh => setAttempt_of_none_held hh _ _ _⟩
  obtain ⟨h0, h1, hq⟩ := hu
  refine ⟨_, rfl, ?_⟩
  split
  case isTrue h =>
    exact ⟨h0, h1.trans h, fun hh => (hq hh).2, fun he _ => if_pos he⟩
  case isFalse h =>
    have ha := (attempts_vget _ p).symm.trans (setAttempt_attempts u p true odd)
    obtain ⟨ha0, ha1⟩ := Prod.mk.inj ha
    refine ⟨ha0.trans h0, ha1, fun hh q hp => ?_, fun _ ho => absurd ho h⟩
    exact ((setAttempt_of_none_held (hq hh).1 _ _ _).2 q hp).trans ((hq hh).2 q hp)

/-! ### Messages at their target -/

theorem kindOk_of_data {m : Msg} (hl : m.data.length ≤ 1024) (hv : m.vc = 0 ∨ m.vc = 2) (h1 : 1 ≤ m.kind.toNat)
    (h5 : m.kind.toNat ≤ 5) : kindOk m = true := by
  rcases hv with h | h <;> simp [kindOk, Nat.not_lt.2 hl, h1, h5, h]

theorem kindOk_of_rsp {m : Msg} (hl : m.data.length ≤ 1024) (hv : m.vc = 1) (hk : m.kind = 0x10 ∨ m.kind = 0x11) :
    kindOk m = true := by
  rcases hk with h | h <;> simp [kindOk, Nat.not_lt.2 hl, hv, h]

theorem kindOk_of_ctrl {m : Msg} (hl : m.data.length ≤ 1024) (hv : m.vc = 3) (hk : m.kind = 0x20 ∨ m.kind = 0x21) :
    kindOk m = true := by
  rcases hk with h | h <;> simp [kindOk, Nat.not_lt.2 hl, hv, h]

theorem stalls_of_step {s : State} {m : Msg} (hv : m.vc = 0 ∨ m.vc = 2) (h : s.ms.mstepTo.isSome = true) :
    stalls s m = true := by
  rcases hv with hv | hv <;> simp [stalls, hv, h]

theorem stalls_of_idle {s : State} (h : s.ms.mstepTo = none) (hw : s.ms.waiting = []) (m : Msg) : stalls s m = false := by
  simp [stalls, h, hw]

theorem stalls_of_other {m : Msg} (h0 : m.vc ≠ 0) (h2 : m.vc ≠ 2) (s : State) : stalls s m = false := by
  simp only [stalls, beq_eq_false_iff_ne.2 h0, beq_eq_false_iff_ne.2 h2, Bool.or_self, Bool.false_and]

theorem arriveKind_of_stalled {kind : BitVec 8} {m : Msg} {s : State} (port : Nat) (hk : m.kind = kind)
    (hv : s.fab.idValid = true) (ho : kindOk m = true) (hs : stalls s m = true) : arriveKind kind port m s = .next { s with
      fab := { s.fab with waiting := s.fab.waiting ++ [{ Waiting.of s.fab port 0 m with land := true }] } } := by
  rw [arriveKind, if_pos ⟨hk, hv⟩, if_pos (by rw [hs, ho]; rfl)]
  rfl

theorem arriveKind_of_free {kind : BitVec 8} {m : Msg} {s : State} (port : Nat) (hk : m.kind = kind)
    (hv : s.fab.idValid = true) (hs : stalls s m = false) : arriveKind kind port m s = .next (arrive s port m) := by
  rw [arriveKind, if_pos ⟨hk, hv⟩, hs, Bool.false_and, if_neg Bool.false_ne_true]

theorem arrive_data {m : Msg} (ho : kindOk m = true) (hv : m.vc = 0 ∨ m.vc = 2) (s : State) (port : Nat) :
    arrive s port m = arriveData s m := by
  have h1 : m.vc ≠ 1 := by rcases hv with h | h <;> rw [h] <;> decide
  have h3 : m.vc ≠ 3 := by rcases hv with h | h <;> rw [h] <;> decide
  rw [arrive, ho, if_neg (by decide), if_neg h1, if_neg h3]

/-- R295, R297 to R299: the checks of a data message whose partition is known, up to the landing. -/
theorem arriveData_of_part {s : State} {m : Msg} {p : Fin 12} (hc : m.crc = m.e2e) (hp : partOfJob s m.job = some p) :
    ((s.part p).underReset = true → arriveData s m = refuse s m rRESET) ∧
    ((s.part p).underReset = false → (s.part p).xc.attempt m.parity ≠ m.attempt →
      arriveData s m = passSeq (dropStale s p) m) ∧
    ((s.part p).underReset = false → (s.part p).xc.attempt m.parity = m.attempt → landCheck s p m = none →
      m.tracked = false → arriveData s m = if m.ordered then placeOrdered s p m else (acceptMsg s p m).1) := by
  refine ⟨fun hr => ?_, fun hr ha => ?_, fun hr ha hl ht => ?_⟩
  · simp only [arriveData, hc, ne_eq, not_true_eq_false, if_false, hp, hr, if_true]
  · have hs : staleMsg s p m = true := decide_eq_true ha
    simp only [arriveData, hc, ne_eq, not_true_eq_false, if_false, hp, hr, Bool.false_eq_true, hs, if_true]
  · have hs : staleMsg s p m = false := decide_eq_false (not_not.2 ha)
    simp [arriveData, hc, hp, hr, hs, hl, ht]

/-- A message constructor of a data kind runs the arrival of that kind at port 8. -/
theorem arriveKind_data {kind : BitVec 8} {m : Msg} {s : State} (hk : m.kind = kind) (h1 : 1 ≤ kind.toNat)
    (h5 : kind.toNat ≤ 5) (hv : m.vc = 0 ∨ m.vc = 2) (hl : m.data.length ≤ 1024) (hi : s.fab.idValid = true) :
    (stalls s m = true → arriveKind kind 8 m s = .next { s with
      fab := { s.fab with waiting := s.fab.waiting ++ [{ Waiting.of s.fab 8 0 m with land := true }] } }) ∧
    (stalls s m = false → arriveKind kind 8 m s = .next (arriveData s m)) := by
  have ho : kindOk m = true := kindOk_of_data hl hv (hk ▸ h1) (hk ▸ h5)
  exact ⟨arriveKind_of_stalled 8 hk hi ho, fun hs => (arriveKind_of_free 8 hk hi hs).trans
    (congrArg _ (arrive_data ho hv s 8))⟩

theorem arriveKind_answer {kind : BitVec 8} {m : Msg} {s : State} {a : Answer} (hk : m.kind = kind)
    (hr : kind = 0x10 ∨ kind = 0x11) (hv : m.vc = 1) (hl : m.data.length ≤ 1024) (hi : s.fab.idValid = true)
    (ha : m.answers = [a]) : arriveKind kind 8 m s = .next (pumpSends (takeAnswer m.srcDev s a)) := by
  have hs : stalls s m = false := stalls_of_other (by rw [hv]; decide) (by rw [hv]; decide) s
  rw [arriveKind_of_free 8 hk hi hs, arrive, kindOk_of_rsp hl hv (hk ▸ hr), if_neg (by decide), if_pos hv, ha]
  rfl

/-- Settles O39, by the checks of R285 in order. -/
theorem messagesArrive : Obligations.messages_arrive := by
  refine ⟨?data, fun s m hv => ⟨stalls_of_step hv, fun h hw => stalls_of_idle h hw m⟩, ?passes,
    fun port m s hk hm hi hs => congrArg Host.Outcome.next (if_pos ⟨hk, hm, hi, hs⟩), ?ack, ?refused⟩
  case data =>
    intro k hk m s hkind hv hl hi
    have hx : k.1 m = k.1 m → exec (k.1 m) s = arriveKind k.2 8 m s ∧ 1 ≤ k.2.toNat ∧ k.2.toNat ≤ 5 := by
      intro _
      simp only [List.mem_cons, List.not_mem_nil, or_false] at hk
      rcases hk with rfl | rfl | rfl | rfl <;> exact ⟨rfl, by decide, by decide⟩
    obtain ⟨hx, h1, h5⟩ := hx rfl
    obtain ⟨hstall, hfree⟩ := arriveKind_data hkind h1 h5 hv hl hi
    rw [hx]
    refine ⟨hstall, fun hs hc => ?_, fun hs hc hp => ?_, fun p hs hc hp => ?_⟩
    · rw [hfree hs, arriveData, if_pos hc]
    · rw [hfree hs, arriveData, if_neg (not_not.2 hc), hp]
    · obtain ⟨hreset, hstale, hland⟩ := arriveData_of_part hc hp
      rw [hfree hs]
      refine ⟨fun hr => by rw [hreset hr], fun hr ha => by rw [hstale hr ha]; rfl, fun hr ha hl ht ho => ?_,
        fun hr ha hl ht ho => ?_⟩
      · rw [hland hr ha hl ht, if_neg (by simp [ho])]
      · rw [hland hr ha hl ht, if_pos ho]
  case passes => exact fun s m ho => by simp [passSeq, ho]
  case ack =>
    intro m s a hk hv hl hi ha hr
    refine (exec_ackMessage m s).trans ((arriveKind_answer hk (.inl rfl) hv hl hi ha).trans ?_)
    rw [takeAnswer, if_pos hr]
    rfl
  case refused =>
    intro m s a hk hv hl hi ha hr hf
    refine (exec_refuseMessage m s).trans ((arriveKind_answer hk (.inr rfl) hv hl hi ha).trans ?_)
    simp only [takeAnswer, if_neg hr, hf, Bool.false_eq_true, if_false, decide_eq_true_eq]
    rfl

/-! ### Barriers, groups and gaps -/

/-- R308: a barrier message of the context's JOB that passes the check of R285. -/
theorem arriveKind_barrier {kind : BitVec 8} {m : Msg} {s : State} {i : Fin 16} {port : Nat} (hk : m.kind = kind)
    (hr : kind = 0x20 ∨ kind = 0x21) (hv : m.vc = 3) (hl : m.data.length ≤ 1024) (hi : s.fab.idValid = true)
    (hc : m.crc = m.e2e) (ht : m.tracked = false) (hb : barOf s m.job = some i) : arriveKind kind port m s =
      .next (if m.kind = 0x20 then barArrive (dupMark s m) i (BitVec.ofNat 16 (m.op 0 16)) (fun b =>
          if port < 6 then { b with fromPorts := b.fromPorts ||| BitVec.ofNat 6 (2 ^ port) }
          else if b.rootDevs.contains m.srcDev then b
          else { b with rootDevs := b.rootDevs ++ [m.srcDev], fromTracts := b.fromTracts + 1 })
        else if (vget s.fab.bars i).failed ≠ 0 then dupMark s m
        else if BitVec.ofNat 16 (m.op 0 16) ≠ (vget s.fab.bars i).gen then barFail (dupMark s m) i 1
        else barRelease (dupMark s m) i) := by
  have hs : stalls s m = false := stalls_of_other (by rw [hv]; decide) (by rw [hv]; decide) s
  have ho : kindOk m = true := kindOk_of_ctrl hl hv (hk ▸ hr)
  have h1 : m.vc ≠ 1 := by rw [hv]; decide
  have hb' : barOf (dupMark s m) m.job = some i := hb
  rw [arriveKind_of_free port hk hi hs, arrive, ho, if_neg (by decide), if_neg h1, if_pos hv]
  simp only [arriveBarrier, ht, Bool.false_and, Bool.false_eq_true, if_false, hc, ne_eq, not_true_eq_false,
    Nat.reduceEqDiff, ack, hb']
  rfl

theorem barFail_facts (s : State) (i : Fin 16) (status : Nat) : (vget (barFail s i status).fab.bars i).failed = status ∧
    (∀ j, j ≠ i → vget (barFail s i status).fab.bars j = vget s.fab.bars j) ∧
    barFail s i status = { s with fab := (barFail s i status).fab, tel := (barFail s i status).tel } := by
  obtain ⟨tel, ht⟩ := record_only s 0x0403 (match partOfJob s (vget s.fab.bars i).job with | some p => p.val | none => 15) 0x7F
    (leBytes 1 i.val ++ leBytes 2 (vget s.fab.bars i).gen.toNat ++ leBytes 1 status)
  have hr : barRecord s i status = { s with tel := tel } := ht
  rw [barFail, hr]
  refine ⟨?_, fun j hj => vget_vset_of_ne _ _ _ _ hj.symm, rfl⟩
  exact congrArg Barrier.failed (vget_vset_self _ _ _)

theorem xiOf_group {k : Core} {g i : Nat} {x : XiWait} (h : xiOf k g = some (i, x)) : x.group = g := by
  have hm := List.mem_of_mem_head? h
  obtain ⟨⟨f, j⟩, -, hf⟩ := List.mem_filterMap.1 hm
  revert hf
  simp only
  split
  · split
    case isTrue hx => exact fun h => by cases h; exact hx.1
    case isFalse => exact fun h => by simp at h
  · exact fun h => by simp at h

theorem groupComplete_of_wait {u : State} {c : Fin 96} {g i : Nat} {x : XiWait} {f : Flight}
    (hx : xiOf (u.core c) g = some (i, x)) (hf : xiFlight u c i = some f) : groupComplete u c g =
      if groupDone ((u.core c).tally g) x && stackFree u (f.reads ++ f.writes) then drainXi c 8 (endGroup u c i f x) else u := by
  simp only [groupComplete, hx, hf]

theorem heldTimeout_of_none {s : State} (h : s.fab.held = []) (c : Fin 96) (g : Nat) (counted : Bool) :
    heldTimeout s c g counted = s := by
  simp only [heldTimeout, h, List.any_nil, Bool.false_eq_true, if_false]

theorem gapRecord_flight (u : State) (c : Fin 96) (g i : Nat) : xiFlight (gapRecord u c g) c i = xiFlight u c i := by
  have h : (gapRecord u c g).cores = u.cores := by
    unfold gapRecord recordCore record
    dsimp only
    split <;> rfl
  simp only [xiFlight, State.core, h]

/-- R320, R323: the gap timer of a group whose instruction waits, with no message held. -/
theorem gapTimeout_of_wait {u : State} {c : Fin 96} {g i : Nat} {x : XiWait} {f : Flight} {t : DWord}
    (hm : u.ms.mstepTo = none) (hh : u.fab.held = []) (hx : xiOf (u.core c) g = some (i, x)) (hf : xiFlight u c i = some f)
    (ht : ((u.core c).tally g).since = some t) :
    (groupDone ((u.core c).tally g) x = false → u.fab.gapUs * usTicks ≤ u.since t → gapTimeout u c g =
      heldTimeout (drainXi c 8 (closeGroup (gapRecord u c g) c i f x)) c g false) ∧
    (groupDone ((u.core c).tally g) x = true ∨ u.since t < u.fab.gapUs * usTicks → gapTimeout u c g = u) := by
  have hgap : gapStart u c g = some t := by simp only [gapStart, ht]
  have hx' : gapTimeout u c g = heldTimeout (if !groupDone ((u.core c).tally g) x && gapDue u t then
      drainXi c 8 (closeNow u c i x) else u) c g false := by
    simp only [gapTimeout, hm, Option.isSome_none, Bool.false_eq_true, if_false, hx, hgap]
  refine ⟨fun hd hl => ?_, fun h => ?_⟩
  · have hc : closeNow u c i x = closeGroup (gapRecord u c g) c i f x := by
      simp only [closeNow, hh, List.any_nil, Bool.false_eq_true, if_false, xiOf_group hx, gapRecord_flight, hf]
    rw [hx', hd, gapDue, decide_eq_true hl, hc]
    rfl
  · have hn : (!groupDone ((u.core c).tally g) x && gapDue u t) = false := by
      rcases h with h | h
      · rw [h]
        rfl
      · rw [gapDue, decide_eq_false (Nat.not_le.2 h), Bool.and_false]
    rw [hx', hn, if_neg Bool.false_ne_true, heldTimeout_of_none hh]

/-- Settles O40, by the state of the context or of the group. -/
theorem barrierAndGroupEvents : Obligations.barrier_and_group_events := by
  refine ⟨?message, fun i gen s hu hj => congrArg Host.Outcome.next (if_pos ⟨hu, hj⟩), ?timeout, ?group, ?gap,
    fun s c g counted h => heldTimeout_of_none h c g counted, fun p even odd s => execXcAttempt_facts p even odd s⟩
  case message =>
    intro port m s u i hv hl hi hc ht hb hu
    subst hu
    refine ⟨fun hk hf hg => ?_, fun hk hf hg => ?_, fun hk hp => ?_⟩
    · rw [exec_barReleaseMessage, execBarReleaseMessage, arriveKind_barrier hk (.inr rfl) hv hl hi hc ht hb,
        if_neg (by rw [hk]; decide), if_neg (not_not.2 hf), if_neg (not_not.2 hg)]
    · rw [exec_barReleaseMessage, execBarReleaseMessage, arriveKind_barrier hk (.inr rfl) hv hl hi hc ht hb,
        if_neg (by rw [hk]; decide), if_neg (not_not.2 hf), if_pos hg]
    · rw [exec_barArriveMessage, execBarArriveMessage, arriveKind_barrier hk (.inl rfl) hv hl hi hc ht hb, if_pos hk]
      simp only [if_pos hp]
  case timeout =>
    intro i s hu ha hf
    obtain ⟨h1, h2, h3⟩ := barFail_facts s i 2
    exact ⟨fun hd => ⟨_, congrArg Host.Outcome.next (if_pos ⟨hu, ha, hf, hd⟩), h1, h2, h3⟩,
      fun hd => congrArg Host.Outcome.next (if_neg fun ⟨_, _, _, h⟩ => by omega)⟩
  case group =>
    intro c g gap s u i x f hu hx hf
    subst hu
    refine ⟨fun hd hs => ?_, fun h => ?_, fun hm hh t ht => ⟨fun hd hl => ⟨_, rfl, ?_, ?_⟩, fun h => ?_⟩⟩
    · rw [exec_groupComplete, execGroupComplete, groupComplete_of_wait hx hf, if_pos (by rw [hd, hs]; rfl)]
    · rw [exec_groupComplete, execGroupComplete, groupComplete_of_wait hx hf]
      exact congrArg _ (if_neg (by rcases h with h | h <;> simp [h]))
    · exact (gapRecord_flight _ _ _ _).trans hf
    · exact congrArg Host.Outcome.next ((gapTimeout_of_wait hm hh hx hf ht).1 hd hl)
    · exact congrArg Host.Outcome.next ((gapTimeout_of_wait hm hh hx hf ht).2 h)
  case gap =>
    intro c g gap s u hu
    subst hu
    refine ⟨fun hm => congrArg Host.Outcome.next (if_pos hm), fun hm hx => ?_⟩
    simp only [exec_gapTimeout, execGapTimeout, gapTimeout, hm, Option.isSome_none, Bool.false_eq_true, if_false, hx]

end Sys2Proof.Machine
end

section
namespace Sys2Proof.Machine

/-! ### The step, the state after reset, rounding and memory -/

theorem sparePass_only (s : State) (n : Fin 6) : sparePass s n =
    { s with ms := (sparePass s n).ms, freeCtr := (sparePass s n).freeCtr } := by
  unfold sparePass
  split <;> rfl

theorem sparePass_of_idle {s : State} {n : Fin 6} (h : (s.stk n).sparing = false) : sparePass s n = s := by
  rw [sparePass, h, Bool.false_and, if_neg Bool.false_ne_true]

theorem foldl_sparePass_only (l : List (Fin 6)) (s : State) : l.foldl sparePass s =
    { s with ms := (l.foldl sparePass s).ms, freeCtr := (l.foldl sparePass s).freeCtr } := by
  induction l generalizing s with
  | nil => rfl
  | cons n l ih =>
    rw [List.foldl_cons, ih (sparePass s n), sparePass_only s n]

theorem foldl_sparePass_of_idle {s : State} (h : ∀ n, (s.stk n).sparing = false) (l : List (Fin 6)) :
    l.foldl sparePass s = s := by
  induction l with
  | nil => rfl
  | cons n l ih => rw [List.foldl_cons, sparePass_of_idle (h n), ih]

theorem holdRounds_only (s : State) (n : DWord) : holdRounds s n = { s with serv := (holdRounds s n).serv } := by
  unfold holdRounds
  dsimp only
  split <;> rfl

theorem watchWait_only (s : State) (c : Fin 96) : watchWait s c = { s with serv := (watchWait s c).serv } := by
  unfold watchWait
  dsimp only
  split <;> rfl

theorem tcore_watchWait (s : State) (c : Fin 96) : ∃ w l, tcore (watchWait s c) c = { tcore s c with wait := w, waitLens := l } := by
  unfold watchWait
  dsimp only
  split
  · exact ⟨_, _, rfl⟩
  · exact ⟨_, _, (vget_vmod _ _ _ _).trans (if_pos rfl)⟩

/-- Settles O49, by what the timers and the scheduler of a tick touch. -/
theorem stepRunsTheFrontCommand : Obligations.step_runs_the_front_command := by
  refine ⟨step_cons, fun s h => ?_, fun s c hl ho hv => ?_⟩
  · have hh := holdRounds_only { s with ts := s.ts + 64 } 64
    have hs := foldl_sparePass_only (List.finRange 6) (holdRounds { s with ts := s.ts + 64 } 64)
    refine ⟨_, step_nil s h, ?_, ?_, fun hi => ?_⟩
    · rw [hs, hh]
    · rw [hs, hh]
    · rw [foldl_sparePass_of_idle (by rw [hh]; exact hi), hh]
      exact ⟨rfl, rfl⟩
  · have hw : serveCore s c = watchWait s c := by
      obtain ⟨w, l, ht⟩ := tcore_watchWait s c
      have hg : goOn (watchWait s c) c = watchWait s c := if_neg fun h => hv (by rw [ht] at h; exact h.1)
      simp only [serveCore, hl, ho, Bool.false_eq_true, if_false, hg, ite_self]
    rw [hw]
    exact watchWait_only s c

/-- Settles O50, by evaluation of the reset state. -/
theorem resetState : Obligations.reset_state :=
  ⟨⟨rfl, rfl, rfl, Nat.zero_le _, Nat.zero_le _⟩, rfl, rfl, rfl, rfl, by decide, rfl, rfl, rfl, by decide, fun c => by
    rw [State.core, State.reset]; exact congrArg Core.fetching (Vector.getElem_replicate _)⟩

theorem Marks.at_set (p : Marks) (a n x : Nat) : Marks.at (p.set a n) x = true ↔
    Marks.at p x = true ∨ (0 < n ∧ a / 32 ≤ x / 32 ∧ x / 32 ≤ (a + n - 1) / 32) := by
  unfold Marks.set
  split
  case isTrue h => simp [h]
  case isFalse h =>
    have hd : a / 32 ≤ (a + n - 1) / 32 := Nat.div_le_div_right (by omega)
    simp only [Marks.at, List.contains_iff_mem, List.mem_append, List.mem_filter, decide_eq_true_eq, upFrom_mem]
    by_cases hp : x / 32 ∈ p <;> simp only [hp, true_and, false_and, false_or, or_false, true_or, iff_true] <;> omega

/-- Settles O58, by the laws of the byte memory and of the marks. -/
theorem writesOfMemory : Obligations.writes_of_memory := by
  intro s a bs pois x
  refine ⟨fun n hn => ?_, fun hx => ?_, ?_, ?_, ⟨_, rfl, rfl⟩⟩
  · rw [show (s.write a bs pois).mem = s.mem.write a bs from rfl, Mem.read_write, if_pos (by omega),
      Nat.add_sub_cancel_left]
  · rw [show (s.write a bs pois).mem = s.mem.write a bs from rfl, Mem.read_write, if_neg (by omega)]
  · rw [← List.length_pos_iff]
    exact Marks.at_set _ _ _ _
  · show Marks.at (s.poison.clearWhole a bs.length) x = true ↔ _
    simp only [Marks.at, Marks.clearWhole, List.contains_iff_mem, List.mem_filter, Bool.not_eq_true', decide_eq_false_iff_not]

/-- Settles O56, by the whole part and the remainder of N/D. -/
theorem roundingModes : Obligations.rounding_modes := by
  intro neg N D hD
  have hN := Nat.div_add_mod' N D
  have hr := Nat.mod_lt N hD
  unfold roundUnits
  generalize N / D = q, N % D = t at hN hr ⊢
  simp only [Bool.not_true, Bool.not_false, Bool.and_true, Bool.and_false, Bool.false_eq_true, if_false, forall_eq,
    decide_eq_true_eq, Bool.or_eq_true, Bool.and_eq_true, beq_iff_eq, true_and]
  refine ⟨?nearest, ⟨by omega, by rw [Nat.succ_mul]; omega⟩, fun d => ?sr, ?up, ?down, ?away, fun r h => ?whole⟩
  case nearest =>
    split
    case isTrue hu =>
      rw [Nat.succ_mul q]
      refine ⟨by omega, by omega, fun ht => ?_⟩
      rcases hu with hu | ⟨-, hq⟩
      · omega
      · exact Nat.succ_mod_two_eq_zero_iff.2 hq
    · exact ⟨by omega, by omega, fun _ => by omega⟩
  case sr => split <;> rfl
  case whole =>
    refine if_neg fun hu => ?_
    revert hu
    rw [h]
    cases r <;> simp <;> omega
  all_goals
    split
    · rw [Nat.succ_mul q]
      omega
    · omega

end Sys2Proof.Machine
end

section
/-! The management plane (19): what its commands leave unchanged. -/

namespace Sys2Proof.Machine

/-- At most the parts that belong to the management plane differ. -/
def OnlyMgmt (s t : State) : Prop :=
  t = { s with tel := t.tel, sec := t.sec, kci := t.kci, pw := t.pw, serv := t.serv, mg := t.mg }

theorem OnlyMgmt.refl (s : State) : OnlyMgmt s s := rfl

theorem OnlyMgmt.trans {s t u : State} (h : OnlyMgmt s t) (g : OnlyMgmt t u) : OnlyMgmt s u := by
  rw [OnlyMgmt] at h g ⊢
  rw [g, h]

theorem OnlyMgmt.ite {s t u : State} {c : Prop} [Decidable c] (h : OnlyMgmt s t) (g : OnlyMgmt s u) :
    OnlyMgmt s (if c then t else u) := by
  split
  exacts [h, g]

theorem OnlyMgmt.foldl {α : Type} {s : State} {f : State → α → State} (h : ∀ t a, OnlyMgmt t (f t a)) (l : List α) :
    OnlyMgmt s (l.foldl f s) := by
  induction l generalizing s with
  | nil => exact .refl s
  | cons a l ih => exact (h s a).trans ih

theorem OnlyMgmt.pair_ite {α : Type} {s : State} {a b : State × α} {c : Prop} [Decidable c] (h : OnlyMgmt s a.1)
    (g : OnlyMgmt s b.1) : OnlyMgmt s (if c then a else b).1 := by
  split
  exacts [h, g]

theorem modPw_onlyMgmt (s : State) (f : Power → Power) : OnlyMgmt s (s.modPw f) := rfl

theorem modKci_onlyMgmt (s : State) (f : Kci → Kci) : OnlyMgmt s (s.modKci f) := rfl

theorem modMg_onlyMgmt (s : State) (f : Mgmt → Mgmt) : OnlyMgmt s (s.modMg f) := rfl

theorem record_onlyMgmt (s : State) (code part core : Nat) (body : List Byte) : OnlyMgmt s (record s code part core body) := by
  unfold record
  split <;> rfl

theorem askMstep_onlyMgmt (s : State) (m : Bool) : OnlyMgmt s (askMstep s m) := .ite rfl (.ite rfl rfl)

theorem applyMstepPolicy_onlyMgmt (s : State) : OnlyMgmt s (applyMstepPolicy s) :=
  .ite (askMstep_onlyMgmt s false) (.ite (askMstep_onlyMgmt s true) rfl)

theorem takeSteps_onlyMgmt (s : State) (ceil : Nat) : OnlyMgmt s (takeSteps s ceil) :=
  (modPw_onlyMgmt s _).trans (applyMstepPolicy_onlyMgmt _)

theorem moveDeed_onlyMgmt (s : State) (r : Fin 5) (dest plane : BitVec 2) : OnlyMgmt s (moveDeed s r dest plane) := by
  unfold moveDeed
  extract_lets d e t u
  refine .trans ?_ (record_onlyMgmt u _ _ _ _)
  exact .trans (rfl : OnlyMgmt s t) (.ite rfl rfl)

theorem readBoard_onlyMgmt (s : State) : OnlyMgmt s (readBoard s) := rfl

theorem becomePrimary_onlyMgmt (s : State) (i : Fin 2) (old : BitVec 2) : OnlyMgmt s (becomePrimary s i old) := by
  unfold becomePrimary
  extract_lets e t
  have ht : OnlyMgmt s t := .foldl (fun u _ => modMg_onlyMgmt u _) _
  exact ht.trans ((modMg_onlyMgmt t _).trans (readBoard_onlyMgmt _))

theorem limitsTook_onlyMgmt (s : State) : OnlyMgmt s (limitsTook s) := rfl

theorem deedClaim_onlyMgmt (s : State) (w : Writer) (r : Fin 5) : OnlyMgmt s (deedClaim s w r).1 := by
  unfold deedClaim
  split
  · rfl
  · extract_lets h ceil t u
    split
    · rfl
    · have hu : OnlyMgmt t u := by
        cases hw : writerAgent w with
        | none => simpa only [u, hw] using .ite (applyMstepPolicy_onlyMgmt t) rfl
        | some i => simpa only [u, hw] using .ite (becomePrimary_onlyMgmt t i h) (.ite (takeSteps_onlyMgmt t ceil) rfl)
      exact (moveDeed_onlyMgmt s r _ _).trans (hu.trans (.ite (limitsTook_onlyMgmt u) (.refl u)))

theorem standDown_onlyMgmt (s : State) (i : Fin 2) : OnlyMgmt s (standDown s i) := rfl

theorem deedRelease_onlyMgmt (s : State) (w : Writer) (r : Fin 5) (epoch : Word) : OnlyMgmt s (deedRelease s w r epoch).1 := by
  unfold deedRelease
  extract_lets d down t u v
  have hd : ∀ a, OnlyMgmt a (down a) := fun a => by
    cases hw : writerAgent w <;> simp only [down, hw] <;> rfl
  split
  · exact .ite (hd s) rfl
  · split
    · rfl
    · exact (moveDeed_onlyMgmt s r _ _).trans ((OnlyMgmt.ite (hd t) (.refl t)).trans
        ((OnlyMgmt.ite ((modPw_onlyMgmt u _).trans (applyMstepPolicy_onlyMgmt _)) (.refl u)).trans (.ite (limitsTook_onlyMgmt v) (.refl v))))

theorem agentDrops_onlyMgmt (s : State) (i : Fin 2) (r : Fin 5) : OnlyMgmt s (agentDrops s i r) := deedRelease_onlyMgmt _ _ _ _

theorem sbCancel_onlyMgmt (s : State) : OnlyMgmt s (sbCancel s) := .ite rfl rfl

theorem thermalWatch_onlyMgmt (s : State) : OnlyMgmt s (thermalWatch s) := by
  unfold thermalWatch
  split
  · rfl
  · split
    · exact (modMg_onlyMgmt s _).trans ((deedClaim_onlyMgmt _ _ _).trans (deedClaim_onlyMgmt _ _ _))
    · exact .ite rfl rfl

theorem inheritStage_onlyMgmt (s : State) (i : Fin 2) : OnlyMgmt s (inheritStage s i) :=
  .ite ((deedClaim_onlyMgmt s _ 3).trans ((sbCancel_onlyMgmt _).trans rfl)) rfl

theorem claimPrimary_onlyMgmt (s : State) (i : Fin 2) : OnlyMgmt s (claimPrimary s i) :=
  (deedClaim_onlyMgmt s (agentWriter i) 4).trans
    (.ite ((inheritStage_onlyMgmt _ i).trans (thermalWatch_onlyMgmt _)) rfl)

theorem say_onlyMgmt (s : State) (ep : Fin 3) (bs : List Byte) : OnlyMgmt s (say s ep bs) := rfl

theorem respond_onlyMgmt (s : State) (ep : Fin 3) (code : Nat) (bs : List Byte) : OnlyMgmt s (respond s ep code bs) := rfl

theorem tellAlerts_onlyMgmt (s : State) (i : Fin 2) : OnlyMgmt s (tellAlerts s i) := by
  unfold tellAlerts
  extract_lets now new
  split
  · rfl
  · exact .trans (.foldl (fun t _ => .ite (say_onlyMgmt t _ _) (.refl t)) _) (modMg_onlyMgmt _ _)

theorem dropLimits_onlyMgmt (s : State) (i : Fin 2) : OnlyMgmt s (dropLimits s i) :=
  (modMg_onlyMgmt s _).trans ((agentDrops_onlyMgmt _ i 0).trans (agentDrops_onlyMgmt _ i 1))

theorem updateOver_onlyMgmt (s : State) (k : Fin 2) (failed : Bool) : OnlyMgmt s (updateOver s k failed) := by
  unfold updateOver
  refine (modMg_onlyMgmt s _).trans (.ite (.ite (deedRelease_onlyMgmt _ _ _ _) rfl) ?_)
  split
  · exact .ite (agentDrops_onlyMgmt _ _ _) rfl
  · rfl

theorem commitLimits_onlyMgmt (s : State) (i : Fin 2) (f : Limits → Limits) : OnlyMgmt s (commitLimits s i f) :=
  .ite rfl rfl

theorem setEffecter_onlyMgmt (s : State) (i : Fin 2) (id v : Nat) : OnlyMgmt s (setEffecter s i id v).1 := by
  have hl : ∀ t f, OnlyMgmt t (commitLimits t i f, true).1 := fun t f => commitLimits_onlyMgmt t i f
  unfold setEffecter
  extract_lets w t u
  refine .pair_ite (.pair_ite ?_ (.refl s)) (.pair_ite (.pair_ite ?_ (.pair_ite ?_ (.refl s)))
    (.pair_ite (.pair_ite ?_ (.refl s)) (.pair_ite (.pair_ite ?_ (.pair_ite ?_ (.refl s))) (.refl s))))
  · exact hl s _
  · exact .trans (rfl : OnlyMgmt s t) (.ite (.refl t) (dropLimits_onlyMgmt t i))
  · exact .pair_ite ((deedClaim_onlyMgmt s w 0).trans ((modMg_onlyMgmt _ _).trans (hl _ _))) (deedClaim_onlyMgmt s w 0)
  · exact hl s _
  · exact .trans (rfl : OnlyMgmt s u) (.ite (agentDrops_onlyMgmt u i 1) (.refl u))
  · exact (modMg_onlyMgmt s _).trans ((deedClaim_onlyMgmt _ w 1).trans (takeSteps_onlyMgmt _ v))

theorem activatePack_onlyMgmt (s : State) (i : Fin 4) : OnlyMgmt s (activatePack s i).1 := by
  unfold activatePack
  extract_lets k low
  split <;> rfl

theorem sbOpen_onlyMgmt (s : State) (comp : BitVec 8) (slot : BitVec 2) : OnlyMgmt s (sbOpen s comp slot) := .ite rfl rfl

theorem beginActivation_onlyMgmt (s : State) : OnlyMgmt s (beginActivation s) := rfl

/-- The outcome is a next state in which at most the parts of the management plane differ. -/
def ManagementOut (s : State) (o : Out) : Prop := ∃ t, o = .next t ∧ OnlyMgmt s t

theorem OnlyMgmt.out {s t : State} (h : OnlyMgmt s t) : ManagementOut s (.next t) := ⟨t, rfl, h⟩

theorem atEp_management {f : State → State} (s : State) (ep : Fin 3) (h : OnlyMgmt s (f s)) : ManagementOut s (atEp s ep f) :=
  (OnlyMgmt.ite h (.refl s)).out

theorem atP5_management {f : State → State} (s : State) (ep : Fin 3) (h : OnlyMgmt s (f s)) : ManagementOut s (atP5 s ep f) :=
  atEp_management s ep (.ite rfl h)

theorem inState_management {f : State → State} (s : State) (ep : Fin 3) (l : List Nat) (h : OnlyMgmt s (f s)) :
    ManagementOut s (inState s ep l f) := atP5_management s ep (.ite h rfl)

theorem atSpdm_management {f : State → State} (s : State) (ep : Fin 3) (least : Nat) (h : OnlyMgmt s (f s)) :
    ManagementOut s (atSpdm s ep least f) := atEp_management s ep (.ite rfl h)

theorem portOutcome_onlyMgmt (s : State) (w : Writer) (o : Nat) : OnlyMgmt s (portOutcome s w o) := rfl

/-- Settles O60, by the constructors of `managementOnly`. -/
theorem managementCommandsLeaveTheDataPlane : Obligations.management_commands_leave_the_data_plane := by
  intro i s hi
  show ManagementOut s (exec i s)
  cases i
  case deedReqClaim w r => exact ((deedClaim_onlyMgmt s w r).trans (portOutcome_onlyMgmt _ w _)).out
  case deedReqRelease w r epoch =>
    exact (OnlyMgmt.trans (modKci_onlyMgmt s _) ((deedRelease_onlyMgmt _ w r epoch).trans (portOutcome_onlyMgmt _ w _))).out
  case agentHeartbeat i =>
    refine OnlyMgmt.out (.ite (.refl s) ((modMg_onlyMgmt s _).trans (.ite ((modMg_onlyMgmt _ _).trans (.ite ?_ (.refl _)))
      (.ite (tellAlerts_onlyMgmt _ i) (standDown_onlyMgmt _ i)))))
    exact claimPrimary_onlyMgmt _ i
  case agentClaimTimer i => exact OnlyMgmt.out (.ite (.refl s) (.ite (claimPrimary_onlyMgmt s i) (.refl s)))
  case thermalReleaseTimer =>
    unfold exec execThermalReleaseTimer
    refine OnlyMgmt.out ?_
    split
    · exact .ite (dropLimits_onlyMgmt s _) (.refl s)
    · exact .refl s
  case fwStageIdleTimeout =>
    unfold exec execFwStageIdleTimeout
    refine OnlyMgmt.out ?_
    split
    · exact .ite ((sbCancel_onlyMgmt s).trans (updateOver_onlyMgmt _ 0 false)) (.refl s)
    · exact .refl s
  case setdasa stat dyn => exact OnlyMgmt.out (.ite rfl (.ite rfl rfl))
  case setEndpointId ep eid =>
    rw [exec_setEndpointId, execSetEndpointId]
    exact atEp_management s ep ((modMg_onlyMgmt s _).trans (respond_onlyMgmt _ ep _ _))
  case getEndpointId ep =>
    rw [exec_getEndpointId, execGetEndpointId]
    exact atEp_management s ep (respond_onlyMgmt s ep _ _)
  case getEndpointUuid ep =>
    rw [exec_getEndpointUuid, execGetEndpointUuid]
    exact atEp_management s ep (respond_onlyMgmt s ep _ _)
  case getMctpVersionSupport ep _ =>
    rw [exec_getMctpVersionSupport, execGetMctpVersionSupport]
    exact atEp_management s ep (.ite (respond_onlyMgmt s ep _ _) (respond_onlyMgmt s ep _ _))
  case getMessageTypeSupport ep =>
    rw [exec_getMessageTypeSupport, execGetMessageTypeSupport]
    exact atEp_management s ep (respond_onlyMgmt s ep _ _)
  case getTid ep =>
    rw [exec_getTid, execGetTid]
    exact atEp_management s ep (respond_onlyMgmt s ep _ _)
  case getPldmVersion ep _ =>
    rw [exec_getPldmVersion, execGetPldmVersion]
    exact atEp_management s ep (.ite (respond_onlyMgmt s ep _ _) (respond_onlyMgmt s ep _ _))
  case getPldmTypes ep =>
    rw [exec_getPldmTypes, execGetPldmTypes]
    exact atEp_management s ep (respond_onlyMgmt s ep _ _)
  case getPldmCommands ep _ =>
    rw [exec_getPldmCommands, execGetPldmCommands]
    exact atEp_management s ep (.ite (respond_onlyMgmt s ep _ _) (respond_onlyMgmt s ep _ _))
  case getPdr ep _ =>
    rw [exec_getPdr, execGetPdr]
    exact atEp_management s ep (respond_onlyMgmt s ep _ _)
  case getSensorReading ep id =>
    rw [exec_getSensorReading, execGetSensorReading]
    refine atEp_management s ep ?_
    cases sensorReading s id.toNat <;> exact respond_onlyMgmt s ep _ _
  case getStateSensorReadings ep id =>
    rw [exec_getStateSensorReadings, execGetStateSensorReadings]
    refine atEp_management s ep ?_
    cases stateReading s id.toNat <;> exact respond_onlyMgmt s ep _ _
  case setNumericEffecterValue ep id v =>
    rw [exec_setNumericEffecterValue, execSetNumericEffecterValue]
    refine atEp_management s ep ?_
    cases primaryEp s ep with
    | none => exact respond_onlyMgmt s ep _ _
    | some i => exact (setEffecter_onlyMgmt s i id.toNat v).trans (respond_onlyMgmt _ ep _ _)
  case getNumericEffecterValue ep id =>
    rw [exec_getNumericEffecterValue, execGetNumericEffecterValue]
    refine atEp_management s ep ?_
    cases primaryEp s ep with
    | none => exact respond_onlyMgmt s ep _ _
    | some i => cases effecterValue s id.toNat <;> exact respond_onlyMgmt s ep _ _
  case setEventReceiver ep eid =>
    rw [exec_setEventReceiver, execSetEventReceiver]
    exact atEp_management s ep ((modMg_onlyMgmt s _).trans (respond_onlyMgmt _ ep _ _))
  case platformEventAck n => exact OnlyMgmt.out (.ite (.refl s) (modMg_onlyMgmt s _))
  case queryDeviceIdentifiers ep =>
    rw [exec_queryDeviceIdentifiers, execQueryDeviceIdentifiers]
    exact atP5_management s ep (respond_onlyMgmt s ep _ _)
  case getFirmwareParameters ep =>
    rw [exec_getFirmwareParameters, execGetFirmwareParameters]
    exact atP5_management s ep (respond_onlyMgmt s ep _ _)
  case requestUpdate ep =>
    rw [exec_requestUpdate, execRequestUpdate]
    exact inState_management s ep _ ((deedClaim_onlyMgmt s (epWriter ep) 3).trans
      (.ite ((modMg_onlyMgmt _ _).trans (respond_onlyMgmt _ ep _ _)) (respond_onlyMgmt _ ep _ _)))
  case passComponentTable ep =>
    rw [exec_passComponentTable, execPassComponentTable]
    exact inState_management s ep _ ((modMg_onlyMgmt _ _).trans (respond_onlyMgmt _ ep _ _))
  case updateComponent ep id size =>
    rw [exec_updateComponent, execUpdateComponent]
    refine inState_management s ep _ (.ite (respond_onlyMgmt s ep _ _) ?_)
    exact .trans (.ite (sbOpen_onlyMgmt s _ _) (.refl s)) ((modMg_onlyMgmt _ _).trans (respond_onlyMgmt _ ep _ _))
  case verifyComplete ep =>
    rw [exec_verifyComplete, execVerifyComplete]
    exact inState_management s ep _ (.ite (respond_onlyMgmt s ep _ _) ((modMg_onlyMgmt s _).trans (respond_onlyMgmt _ ep _ _)))
  case applyComplete ep =>
    rw [exec_applyComplete, execApplyComplete]
    refine inState_management s ep _ ?_
    exact .trans (.ite ((modMg_onlyMgmt s _).trans (readBoard_onlyMgmt _)) (.refl s))
      ((modMg_onlyMgmt _ _).trans (respond_onlyMgmt _ ep _ _))
  case activateFirmware ep pack =>
    rw [exec_activateFirmware, execActivateFirmware]
    refine inState_management s ep _ ?_
    cases pack with
    | some i =>
      exact (activatePack_onlyMgmt s i).trans (.trans (.ite (updateOver_onlyMgmt _ _ _) (.refl _)) (respond_onlyMgmt _ ep _ _))
    | none =>
      exact .ite (.ite ((beginActivation_onlyMgmt s).trans ((modMg_onlyMgmt _ _).trans (respond_onlyMgmt _ ep _ _)))
        (respond_onlyMgmt s ep _ _)) ((updateOver_onlyMgmt s _ _).trans (respond_onlyMgmt _ ep _ _))
  case getStatus ep =>
    rw [exec_getStatus, execGetStatus]
    exact atP5_management s ep (respond_onlyMgmt s ep _ _)
  case cancelUpdate ep =>
    rw [exec_cancelUpdate, execCancelUpdate]
    exact inState_management s ep _ ((sbCancel_onlyMgmt s).trans ((updateOver_onlyMgmt _ _ _).trans (respond_onlyMgmt _ ep _ _)))
  case getVersion ep =>
    rw [exec_getVersion, execGetVersion]
    exact atSpdm_management s ep _ ((modMg_onlyMgmt s _).trans (respond_onlyMgmt _ ep _ _))
  case getCapabilities ep =>
    rw [exec_getCapabilities, execGetCapabilities]
    exact atSpdm_management s ep _ ((modMg_onlyMgmt s _).trans (respond_onlyMgmt _ ep _ _))
  case negotiateAlgorithms ep =>
    rw [exec_negotiateAlgorithms, execNegotiateAlgorithms]
    exact atSpdm_management s ep _ ((modMg_onlyMgmt s _).trans (respond_onlyMgmt _ ep _ _))
  case getDigests ep =>
    rw [exec_getDigests, execGetDigests]
    exact atSpdm_management s ep _ (respond_onlyMgmt s ep _ _)
  case getCertificate ep _ _ _ =>
    rw [exec_getCertificate, execGetCertificate]
    exact atSpdm_management s ep _ (.ite (respond_onlyMgmt s ep _ _) (respond_onlyMgmt s ep _ _))
  case challenge ep _ _ =>
    rw [exec_challenge, execChallenge]
    exact atSpdm_management s ep _ (.ite (respond_onlyMgmt s ep _ _) (respond_onlyMgmt s ep _ _))
  case getMeasurements ep _ _ =>
    rw [exec_getMeasurements, execGetMeasurements]
    exact atSpdm_management s ep _ (.ite (respond_onlyMgmt s ep _ _) (respond_onlyMgmt s ep _ _))
  all_goals exact absurd hi Bool.false_ne_true

end Sys2Proof.Machine
end

section
/-! The floating-point formats of O57: what decoding gives, by the exponent field, and that encoding undoes it. -/

namespace Sys2Proof.Machine

/-- R36: the exponent range of a format whose exponent field is `w - p` bits wide, with infinities and NaN on top. -/
def FFmt.Standard (f : FFmt) : Prop :=
  1 < f.p ∧ f.p < f.w ∧ f.emin = 1 - f.emax ∧ (2 * f.emax + 1).toNat = 2 ^ (f.w - f.p) - 1 ∧ 0 ≤ f.emax

/-- What the sign contributes to the bits. -/
def FFmt.sign (f : FFmt) (n : Bool) : Nat := if n then 2 ^ (f.w - 1) else 0

theorem encodeFloat_fin (f : FFmt) (n : Bool) {m : Nat} (hm : m ≠ 0) (e : Int) : encodeFloat f (.fin n m e) =
    if (Nat.log2 m : Int) + e < f.emin then
      f.sign n + (if f.emin - ((f.p - 1 : Nat) : Int) ≤ e then m * 2 ^ (e - (f.emin - ((f.p - 1 : Nat) : Int))).toNat
        else m / 2 ^ (f.emin - ((f.p - 1 : Nat) : Int) - e).toNat)
    else
      f.sign n + ((Nat.log2 m : Int) + e + f.emax).toNat * 2 ^ (f.p - 1) +
        ((if (Nat.log2 m : Int) + e - ((f.p - 1 : Nat) : Int) ≤ e then
          m * 2 ^ (e - ((Nat.log2 m : Int) + e - ((f.p - 1 : Nat) : Int))).toNat
        else m / 2 ^ ((Nat.log2 m : Int) + e - ((f.p - 1 : Nat) : Int) - e).toNat) - 2 ^ (f.p - 1)) := by
  cases m with
  | zero => exact absurd rfl hm
  | succ m => rfl

/-- A subnormal number keeps its fraction. -/
theorem encodeFloat_subnormal {f : FFmt} (n : Bool) {fr : Nat} (h : fr < 2 ^ (f.p - 1)) :
    encodeFloat f (.fin n fr (f.emin - ((f.p - 1 : Nat) : Int))) = f.sign n + fr := by
  by_cases h0 : fr = 0
  · rw [h0]
    rfl
  · have hl : Nat.log2 fr < f.p - 1 := (Nat.log2_lt h0).2 h
    rw [encodeFloat_fin f n h0, if_pos (by omega), if_pos (Int.le_refl _), Int.sub_self, Int.toNat_zero, pow_zero, Nat.mul_one]

/-- A normal number keeps its exponent field and its fraction. -/
theorem encodeFloat_normal {f : FFmt} (hf : f.Standard) (n : Bool) {ex fr : Nat} (hx : 0 < ex) (h : fr < 2 ^ (f.p - 1)) :
    encodeFloat f (.fin n (2 ^ (f.p - 1) + fr) ((ex : Int) - f.emax - ((f.p - 1 : Nat) : Int))) =
      f.sign n + ex * 2 ^ (f.p - 1) + fr := by
  obtain ⟨-, -, hmin, -, -⟩ := hf
  have hl : Nat.log2 (2 ^ (f.p - 1) + fr) = f.p - 1 :=
    (Nat.log2_eq_iff (by positivity)).2 ⟨by omega, by rw [Nat.pow_succ]; omega⟩
  rw [encodeFloat_fin f n (by positivity), hl, if_neg (by omega), if_pos (by omega),
    show (((f.p - 1 : Nat) : Int) + ((ex : Int) - f.emax - ((f.p - 1 : Nat) : Int)) + f.emax).toNat = ex by omega,
    show ((ex : Int) - f.emax - ((f.p - 1 : Nat) : Int) -
      (((f.p - 1 : Nat) : Int) + ((ex : Int) - f.emax - ((f.p - 1 : Nat) : Int)) - ((f.p - 1 : Nat) : Int))).toNat = 0 by omega,
    pow_zero, Nat.mul_one, Nat.add_sub_cancel_left]

/-- Sign, exponent field and fraction make up the bits. -/
theorem FFmt.fields {f : FFmt} (hf : f.Standard) {b : Nat} (hb : b < 2 ^ f.w) :
    f.sign (bit b (f.w - 1)) + field b (f.p - 1) (f.w - f.p) * 2 ^ (f.p - 1) + b % 2 ^ (f.p - 1) = b := by
  obtain ⟨hp, hw, -⟩ := hf
  have hd : b / 2 ^ (f.p - 1) / 2 ^ (f.w - f.p) = b / 2 ^ (f.w - 1) := by
    rw [Nat.div_div_eq_div_mul, ← Nat.pow_add, show f.p - 1 + (f.w - f.p) = f.w - 1 by omega]
  have hs : f.sign (bit b (f.w - 1)) = b / 2 ^ (f.w - 1) * 2 ^ (f.w - f.p) * 2 ^ (f.p - 1) := by
    have hlt : b / 2 ^ (f.w - 1) < 2 := by
      rw [Nat.div_lt_iff_lt_mul (by positivity), ← Nat.pow_succ', show (f.w - 1).succ = f.w by omega]
      exact hb
    rw [Nat.mul_assoc, ← Nat.pow_add, show f.w - f.p + (f.p - 1) = f.w - 1 by omega, FFmt.sign, bit,
      Nat.testBit_eq_decide_div_mod_eq, Nat.mod_eq_of_lt hlt]
    rcases Nat.lt_succ_iff_lt_or_eq.1 hlt with h | h
    · simp [Nat.lt_one_iff.1 h]
    · simp [h]
  rw [hs, field, Nat.shiftRight_eq_div_pow, ← hd, ← Nat.add_mul, Nat.div_add_mod', Nat.div_add_mod']

/-- Settles O57, by the exponent field: all ones, zero, or a normal number. -/
theorem floatBitsComeBack : Obligations.float_bits_come_back := by
  have key : ∀ f : FFmt, f.Standard → ∀ b : Nat, b < 2 ^ f.w →
      ((decodeFloat f b).isNan = false → encodeFloat f (decodeFloat f b) = b) ∧
      ((decodeFloat f b).isNan = true →
        encodeFloat f (decodeFloat f b) = (2 ^ (f.w - f.p) - 1) * 2 ^ (f.p - 1) + 2 ^ (f.p - 2)) := by
    intro f hf b hb
    have hb' := FFmt.fields hf hb
    have hr : b % 2 ^ (f.p - 1) < 2 ^ (f.p - 1) := Nat.mod_lt _ (by positivity)
    obtain ⟨hp, hw, hmin, hmax, hpos⟩ := id hf
    unfold decodeFloat
    dsimp only
    split
    case isTrue hx =>
      split
      case isTrue hz =>
        refine ⟨fun _ => ?_, fun h => absurd h Bool.false_ne_true⟩
        rw [hx, hz, Nat.add_zero] at hb'
        rw [encodeFloat, hmax]
        exact hb'
      case isFalse hz =>
        refine ⟨fun h => absurd h.symm Bool.false_ne_true, fun _ => ?_⟩
        rw [encodeFloat, hmax]
        rfl
    case isFalse hx =>
      split
      case isTrue hz =>
        refine ⟨fun _ => ?_, fun h => absurd h Bool.false_ne_true⟩
        rw [encodeFloat_subnormal _ hr]
        rwa [hz, Nat.zero_mul, Nat.add_zero] at hb'
      case isFalse hz =>
        refine ⟨fun _ => ?_, fun h => absurd h Bool.false_ne_true⟩
        rwa [encodeFloat_normal hf _ (Nat.pos_of_ne_zero hz) hr]
  have hf : ∀ f ∈ [f32, fbf16, ff16, f64], f.Standard := by
    unfold FFmt.Standard
    decide
  exact fun f h => key f (hf f h)

end Sys2Proof.Machine
end

section
/-! What element-wise work writes (O59): the length of what is packed, the frame of a stored run, and of each kind of work. -/

namespace Sys2Proof.Machine

/-! ### Lengths -/

theorem chunksFuel_length_le {α : Type} {k : Nat} : ∀ (n m : Nat) (xs : List α), xs.length ≤ k * m →
    (chunksFuel k n xs).length ≤ m := by
  intro n
  induction n with
  | zero => exact fun m xs _ => Nat.zero_le m
  | succ n ih =>
    intro m xs h
    cases xs with
    | nil => exact Nat.zero_le m
    | cons x xs =>
      cases m with
      | zero => exact absurd h (by simp)
      | succ m =>
        have hd : ((x :: xs).drop k).length ≤ k * m := by
          rw [List.length_drop]
          rw [Nat.mul_succ] at h
          omega
        simpa only [chunksFuel, List.length_cons, Nat.add_le_add_iff_right] using ih m _ hd

theorem chunks_length_le {α : Type} {k m : Nat} {xs : List α} (h : xs.length ≤ k * m) : (chunks k xs).length ≤ m := by
  unfold chunks
  split
  · exact Nat.zero_le m
  · exact chunksFuel_length_le _ m xs h

theorem length_of_mem_chunksFuel {α : Type} {k : Nat} {c : List α} : ∀ (n : Nat) (xs : List α), c ∈ chunksFuel k n xs →
    c.length ≤ k := by
  intro n
  induction n with
  | zero => exact fun xs h => absurd h List.not_mem_nil
  | succ n ih =>
    intro xs h
    cases xs with
    | nil => exact absurd h List.not_mem_nil
    | cons x xs =>
      rcases List.mem_cons.1 h with rfl | h
      · exact List.length_take_le _ _
      · exact ih _ h

theorem length_of_mem_chunks {α : Type} {k : Nat} {xs c : List α} (h : c ∈ chunks k xs) : c.length ≤ k := by
  unfold chunks at h
  split at h
  · exact absurd h List.not_mem_nil
  · exact length_of_mem_chunksFuel _ xs h

theorem sum_length_chunksFuel_le {α : Type} {k : Nat} : ∀ (n : Nat) (xs : List α),
    ((chunksFuel k n xs).map List.length).sum ≤ xs.length := by
  intro n
  induction n with
  | zero => exact fun xs => Nat.zero_le _
  | succ n ih =>
    intro xs
    cases xs with
    | nil => exact Nat.zero_le _
    | cons x xs =>
      have hd := ih ((x :: xs).drop k)
      rw [List.length_drop] at hd
      rw [chunksFuel, List.map_cons, List.sum_cons, List.length_take]
      · omega
      · exact List.cons_ne_nil _ _

theorem sum_length_chunks_le {α : Type} (k : Nat) (xs : List α) : ((chunks k xs).map List.length).sum ≤ xs.length := by
  unfold chunks
  split
  · exact Nat.zero_le _
  · exact sum_length_chunksFuel_le _ xs

theorem le_mul_ceilDiv (n : Nat) {k : Nat} (hk : 0 < k) : n ≤ k * ceilDiv n k := by
  have h := Nat.div_add_mod (n + k - 1) k
  have hr := Nat.mod_lt (n + k - 1) hk
  rw [ceilDiv, if_neg (by omega)]
  omega

theorem chunks_length_le_ceilDiv {α : Type} {k n : Nat} {xs : List α} (hk : 0 < k) (h : xs.length ≤ n) :
    (chunks k xs).length ≤ ceilDiv n k := chunks_length_le (h.trans (le_mul_ceilDiv n hk))

theorem length_leBytes (n k : Nat) : (leBytes n k).length = n := by
  induction n generalizing k with
  | zero => rfl
  | succ n ih => rw [leBytes, List.length_cons, ih]

theorem length_bytesAt (bs : List Byte) (off n : Nat) : (bytesAt bs off n).length = n := by
  rw [bytesAt, List.length_append, List.length_replicate, List.length_take]
  omega

theorem ceilDiv_eight (n : Nat) : ceilDiv n 8 = (n + 7) / 8 := rfl

/-- R38: packed elements take no more bytes than their bits need. -/
theorem length_packElems_le (f : Fmt) {codes : List Nat} {n : Nat} (h : codes.length ≤ n) :
    (packElems f.width codes).length ≤ ceilDiv (n * f.width) 8 := by
  unfold packElems
  split
  case isTrue h8 =>
    rw [List.length_flatMap, List.map_congr_left (g := fun _ => f.width / 8) fun c _ => length_leBytes _ c, List.map_const',
      List.sum_replicate, smul_eq_mul]
    have hw : f.width = 8 * (f.width / 8) := by cases f <;> revert h8 <;> decide
    have hm : codes.length * (f.width / 8) ≤ n * (f.width / 8) := Nat.mul_le_mul_right _ h
    have hn : n * f.width = 8 * (n * (f.width / 8)) := by rw [Nat.mul_left_comm, ← hw]
    rw [ceilDiv_eight, hn]
    omega
  case isFalse h8 =>
    rw [List.length_map]
    have hw : 8 = f.width * (8 / f.width) := by cases f <;> revert h8 <;> decide
    refine chunks_length_le (h.trans ?_)
    have hb := le_mul_ceilDiv (n * f.width) (k := 8) (by decide)
    refine Nat.le_of_mul_le_mul_left (c := f.width) ?_ (by cases f <;> decide)
    rw [← Nat.mul_assoc, ← hw, Nat.mul_comm]
    exact hb

theorem Lay.runSpan_covers (l : Lay) (r : Nat) : ceilDiv (l.n0 * l.fmt.width) 8 ≤ (l.runSpan r).2 := by
  simp only [Lay.runSpan, Lay.lead, ceilDiv_eight, Nat.add_mul]
  generalize l.start0 * l.fmt.width = a, l.n0 * l.fmt.width = b
  omega

theorem Lay.count_eq (l : Lay) : l.count = l.n0 * l.runs := by
  rw [Lay.count, Lay.runs, Nat.mul_assoc, Nat.mul_assoc, Nat.mul_assoc]

/-! ### Runs that fit their layout -/

/-- A converted run has no more elements and scales than a run of the layout. -/
def RunOut.Fits (l : Lay) (o : RunOut) : Prop := o.codes.length ≤ l.n0 ∧ (l.fmt.isBq = true → o.scales.length ≤ ceilDiv l.n0 32)

/-- The address lies in no range of the layout. -/
def Lay.Misses (l : Lay) (a : Nat) : Prop := ∀ r ∈ l.ranges, a < r.addr ∨ r.addr + r.len ≤ a

theorem Lay.Misses.span {l : Lay} {a r : Nat} (h : l.Misses a) (hr : r < l.runs) :
    a < (l.runSpan r).1 ∨ (l.runSpan r).1 + (l.runSpan r).2 ≤ a :=
  h ⟨_, _⟩ (List.mem_map_of_mem (List.mem_append_left _ (List.mem_map_of_mem (List.mem_range.2 hr))))

theorem Lay.Misses.scale {l : Lay} {a r : Nat} (h : l.Misses a) (hr : r < l.runs) (hq : l.fmt.isBq = true) :
    a < l.scaleAddr r 0 ∨ l.scaleAddr r 0 + ceilDiv l.n0 32 ≤ a := by
  have hs : (l.scaleAddr r 0, ceilDiv l.n0 32) ∈ l.spans := by
    rw [Lay.spans, if_pos hq]
    exact List.mem_append_right _ (List.mem_map_of_mem (List.mem_range.2 hr))
  exact h ⟨_, _⟩ (List.mem_map_of_mem hs)

theorem read_write_of_outside {s : State} {a b : Nat} {bs : List Byte} {p : Bool} (h : a < b ∨ b + bs.length ≤ a) :
    (s.write b bs p).mem.read a = s.mem.read a := by
  rw [show (s.write b bs p).mem = s.mem.write b bs from rfl, Mem.read_write, if_neg (by omega)]

theorem foldl_mem {α : Type} {g : State → α → State} (h : ∀ s x, (g s x).mem = s.mem) (l : List α) (s : State) :
    (l.foldl g s).mem = s.mem := by
  induction l generalizing s with
  | nil => rfl
  | cons x l ih => rw [List.foldl_cons, ih, h]

theorem storeRun_frame {s : State} {l : Lay} {r a : Nat} {o : RunOut} (hr : r < l.runs) (ho : o.Fits l) (ha : l.Misses a) :
    (storeRun s l r o).mem.read a = s.mem.read a := by
  unfold storeRun
  have h1 := ha.span hr
  have h2 := (length_packElems_le l.fmt ho.1).trans (l.runSpan_covers r)
  generalize l.runSpan r = sp at h1 h2 ⊢
  cases sp with | mk b n
  dsimp -zeta only at h1 h2 ⊢
  extract_lets t u
  have ht : t.mem.read a = s.mem.read a :=
    read_write_of_outside (by omega)
  have hu : u.mem.read a = s.mem.read a := by
    by_cases hq : l.fmt.isBq = true
    · rw [show u = _ from if_pos hq, read_write_of_outside, ht]
      have h1 := ha.scale hr hq
      have h2 := ho.2 hq
      rw [List.length_map]
      omega
    · rw [show u = t from if_neg hq, ht]
  rw [foldl_mem, hu]
  rintro v ⟨p, i⟩
  dsimp only
  split
  · split <;> rfl
  · rfl

theorem storeAll_frame {l : Lay} {a : Nat} (ha : l.Misses a) {os : List RunOut} (hl : os.length ≤ l.runs)
    (ho : ∀ o ∈ os, o.Fits l) (s : State) : (storeAll s l os).mem.read a = s.mem.read a := by
  have key : ∀ (ps : List (RunOut × Nat)), (∀ p ∈ ps, p.2 < l.runs ∧ p.1.Fits l) → ∀ s : State,
      (ps.foldl (fun s p => storeRun s l p.2 p.1) s).mem.read a = s.mem.read a := by
    intro ps
    induction ps with
    | nil => exact fun _ _ => rfl
    | cons p ps ih =>
      intro hp s
      obtain ⟨hr, hf⟩ := hp p List.mem_cons_self
      rw [List.foldl_cons, ih (fun q hq => hp q (List.mem_cons_of_mem _ hq)), storeRun_frame hr hf ha]
  refine key _ (fun p hp => ?_) s
  obtain ⟨-, h2, h3⟩ := List.mem_zipIdx hp
  exact ⟨by omega, ho _ (h3 ▸ List.getElem_mem _)⟩

theorem length_toBlock_le (f : Fmt) (t : Option Int) (sat : Bool) (rs : List Rnd) (xs : List Num) :
    (toBlock f t sat rs xs).2.1.length ≤ xs.length := by
  unfold toBlock
  extract_lets mag base e qs ev
  split
  · rw [List.length_map]
  · split
    · rw [List.length_map]
    · have hq : qs.length ≤ xs.length := by
        rw [List.length_map, List.length_zip]
        exact Nat.min_le_left _ _
      split
      · rw [List.length_map]
      · rwa [List.length_map]

/-! ### Conversions fit their destination -/

theorem convRun_fits (l : Lay) (m : CvtMode) (e0 : Nat) {xs : List (Num × Bool)} (h : xs.length ≤ l.n0) :
    RunOut.Fits l (convRun l.fmt m e0 xs).1 := by
  unfold convRun
  extract_lets rnd blocks os
  split
  case isTrue hq =>
    refine ⟨?_, fun _ => ?_⟩
    · calc
        _ = (((chunks 32 xs).zipIdx).map fun p => (toBlock l.fmt m.tens m.sat
              ((List.range p.1.length).map fun i => rnd (32 * p.2 + i)) (p.1.map Prod.fst)).2.1.length).sum := by
            rw [List.length_flatMap, List.map_map]
            rfl
        _ ≤ (((chunks 32 xs).zipIdx).map fun p => p.1.length).sum :=
            List.sum_le_sum fun p _ => (length_toBlock_le _ _ _ _ _).trans_eq (List.length_map _)
        _ = ((chunks 32 xs).map List.length).sum := by
            conv_rhs => rw [← List.zipIdx_map_fst 0 (chunks 32 xs), List.map_map]
            rfl
        _ ≤ l.n0 := (sum_length_chunks_le 32 xs).trans h
    · rw [List.length_map, List.length_map, List.length_zipIdx]
      exact chunks_length_le_ceilDiv (by decide) h
  case isFalse hq =>
    refine ⟨?_, fun hq' => absurd hq' hq⟩
    rw [List.length_map, List.length_map, List.length_zipIdx]
    exact h

theorem convAll_fits (l : Lay) (m : CvtMode) {xs : List (Num × Bool)} (h : xs.length ≤ l.count) :
    (convAll l.fmt m l.n0 xs).1.length ≤ l.runs ∧ ∀ o ∈ (convAll l.fmt m l.n0 xs).1, o.Fits l := by
  unfold convAll
  extract_lets rs
  refine ⟨?_, fun o ho => ?_⟩
  · rw [List.length_map, List.length_map, List.length_zipIdx]
    exact chunks_length_le (h.trans_eq l.count_eq)
  · obtain ⟨r, hr, rfl⟩ := List.mem_map.1 ho
    obtain ⟨⟨x, i⟩, hx, rfl⟩ := List.mem_map.1 hr
    exact convRun_fits l m _ (length_of_mem_chunks (List.fst_mem_of_mem_zipIdx hx))

theorem copyRuns_fits (l : Lay) {es : List Elem} (h : es.length ≤ l.count) :
    (copyRuns l.fmt l.n0 es).length ≤ l.runs ∧ ∀ o ∈ copyRuns l.fmt l.n0 es, o.Fits l := by
  unfold copyRuns
  refine ⟨?_, fun o ho => ?_⟩
  · rw [List.length_map]
    exact chunks_length_le (h.trans_eq l.count_eq)
  · obtain ⟨r, hr, rfl⟩ := List.mem_map.1 ho
    have hn := length_of_mem_chunks hr
    refine ⟨by rwa [List.length_map], fun hq => ?_⟩
    rw [if_pos hq, List.length_map]
    exact chunks_length_le_ceilDiv (by decide) hn

theorem moveRuns_fits (src dst : Lay) (t : Bool) (m : CvtMode) {es : List Elem} (h : es.length ≤ dst.count) :
    (moveRuns src dst t m es).1.length ≤ dst.runs ∧ ∀ o ∈ (moveRuns src dst t m es).1, o.Fits dst := by
  unfold moveRuns
  split
  · exact copyRuns_fits dst h
  · exact convAll_fits dst m (by rwa [List.length_map])

theorem length_loadRun_le (s : State) (l : Lay) (r : Nat) : (loadRun s l r).length ≤ l.n0 := by
  unfold loadRun elemsOf
  dsimp only
  rw [List.length_map, List.length_zipIdx]
  exact List.length_take_le _ _

theorem length_loadAll_le (s : State) (l : Lay) : (loadAll s l).length ≤ l.count := by
  rw [loadAll, List.length_flatMap, l.count_eq]
  refine (List.sum_le_card_nsmul _ l.n0 fun n hn => ?_).trans_eq ?_
  · obtain ⟨r, -, rfl⟩ := List.mem_map.1 hn
    exact length_loadRun_le s l r
  · rw [List.length_map, List.length_range, smul_eq_mul, Nat.mul_comm]

/-! ### The frame of each kind of work -/

/-- The address lies outside the delayed-scaling entry that the descriptor names. -/
def MissesEntry (s : State) (c : Fin 96) (d a : Nat) : Prop :=
  ∀ b, dHasDs d = true → dsBaseOf s c = some b → a < b + 64 * dDs d ∨ b + 64 * dDs d + 64 ≤ a

theorem length_dsBytes (old : List Byte) (tag : Nat) (tensor : Bool) (elems : Nat) (ev : Ev) :
    (dsBytes old tag tensor elems ev).length = 64 := by
  unfold dsBytes
  simp only [List.length_append, apply_ite List.length, length_bytesAt, length_leBytes, ite_self]

theorem dsUpdate_frame {s t : State} {c : Fin 96} {d a : Nat} (ha : MissesEntry s c d a) {tag : Word} {tensor : Bool}
    {elems : Nat} {ev : Ev} (h : dsUpdate s c d tag tensor elems ev = some t) : t.mem.read a = s.mem.read a := by
  unfold dsUpdate at h
  split at h
  case isTrue => rw [← Option.some.inj h]
  case isFalse hd =>
    cases hb : dsBaseOf s c with
    | none => simp [hb] at h
    | some b =>
      simp only [hb] at h
      split at h
      · exact absurd h (by simp)
      · rw [← Option.some.inj h]
        refine read_write_of_outside (p := false) ?_
        rw [length_dsBytes]
        exact ha b (by revert hd; cases dHasDs d <;> simp) hb

theorem noteTern_mem (s : State) (c : Fin 96) (es : List Elem) : (noteTern s c es).mem = s.mem := by
  unfold noteTern
  split <;> rfl

theorem moveWork_frame {s : State} {c : Fin 96} {w d a : Nat} {o : DWord} {src : Lay} (hd : (absT c d).Misses a)
    (he : MissesEntry s c d a) (hc : src.count = (absT c d).count) :
    (moveWork s c w d o src (absT c d)).st.mem.read a = s.mem.read a := by
  unfold moveWork
  split
  case h_1 => rfl
  case h_2 =>
    obtain ⟨hl, hf⟩ := moveRuns_fits src (absT c d) (insTensor w) (cvtMode s c w d o 64)
      ((length_loadAll_le s src).trans_eq hc)
    dsimp only
    split
    case h_1 => rfl
    case h_2 t ht => exact (congrArg (Mem.read · a) (noteTern_mem _ c _)).trans ((storeAll_frame hd hl hf t).trans (dsUpdate_frame he ht))

theorem vxOut_frame {s : State} {c : Fin 96} {w a : Nat} {o : DWord} {reads extra : List Range} {vals : List (Num × Bool)}
    {fl : Fl} (hd : (absT c (descOf s c (insDst w))).Misses a) (he : MissesEntry s c (descOf s c (insDst w)) a)
    (hv : vals.length ≤ (absT c (descOf s c (insDst w))).count) :
    (vxOut s c w o reads extra vals fl).st.mem.read a = s.mem.read a := by
  unfold vxOut
  obtain ⟨hl, hf⟩ := convAll_fits (absT c (descOf s c (insDst w))) (cvtMode s c w (descOf s c (insDst w)) o 64) hv
  dsimp only
  split
  case h_1 => rfl
  case h_2 t ht => exact (storeAll_frame hd hl hf t).trans (dsUpdate_frame he ht)

theorem workFill_frame {s : State} {c : Fin 96} {w slot a : Nat} {o : DWord}
    (hd : (absT c (descOf s c (insDst w))).Misses a) : (workFill s c w slot o).st.mem.read a = s.mem.read a :=
  storeAll_frame hd (List.length_replicate.le) (fun r hr => by
    rw [List.eq_of_mem_replicate hr]
    exact ⟨List.length_replicate.le, fun _ => Nat.zero_le _⟩) s

theorem workRandU_frame {s : State} {c : Fin 96} {w slot a : Nat} {o : DWord}
    (hd : (absT c (descOf s c (insDst w))).Misses a) (he : MissesEntry s c (descOf s c (insDst w)) a) :
    (workRandU s c w slot o).st.mem.read a = s.mem.read a := by
  refine vxOut_frame hd he ?_
  rw [List.length_map, List.length_range]

section
variable {s : State} {c : Fin 96} {w slot a : Nat} {o : DWord}
  (hd : (absT c (descOf s c (insDst w))).Misses a) (he : MissesEntry s c (descOf s c (insDst w)) a)
  (hc : (absT c (descOf s c (insA w))).count = (absT c (descOf s c (insDst w))).count)
include hd he hc

theorem workStore_frame : (workStore s c w slot o).st.mem.read a = s.mem.read a := moveWork_frame hd he hc

theorem workCopy_frame : (workCopy s c w slot o).st.mem.read a = s.mem.read a := moveWork_frame hd he hc

theorem workLoad_frame (hr : dSpace (descOf s c (insDst w)) ≠ 3) : (workLoad s c w slot o).st.mem.read a = s.mem.read a :=
  (congrArg (fun e : Eff => e.st.mem.read a) (if_neg hr)).trans (moveWork_frame hd he hc)

theorem workArith_frame (op : Nat) : (workArith op s c w slot o).st.mem.read a = s.mem.read a := by
  refine vxOut_frame hd he ?_
  have hl := (length_loadAll_le s (absT c (descOf s c (insA w)))).trans_eq hc
  simp only [List.length_map, List.length_zip]
  omega

theorem workUnary_frame (f : Nat → VIn → Num × Fl) : (workUnary f s c w slot o).st.mem.read a = s.mem.read a := by
  refine vxOut_frame hd he ?_
  have hl := (length_loadAll_le s (absT c (descOf s c (insA w)))).trans_eq hc
  simp only [List.length_map, List.length_zip]
  omega

theorem workDropout_frame : (workDropout s c w slot o).st.mem.read a = s.mem.read a := by
  refine vxOut_frame hd he ?_
  have hl := (length_loadAll_le s (absT c (descOf s c (insA w)))).trans_eq hc
  simp only [List.length_map, List.length_zip, List.length_zipIdx]
  omega

theorem workInt_frame (f : Bool → Int → Int → Int × Ev) : (workInt f s c w slot o).st.mem.read a = s.mem.read a := by
  unfold workInt
  extract_lets d dst la as bs ys rs
  have hy : ys.length ≤ dst.count := by
    have hl : as.length ≤ dst.count := (length_loadAll_le s la).trans_eq hc
    simp only [ys, List.length_map, List.length_zip]
    omega
  split
  case h_1 => rfl
  case h_2 t ht =>
    refine (storeAll_frame hd ?_ (fun r hr => ?_) t).trans (dsUpdate_frame he ht)
    · rw [List.length_map]
      exact chunks_length_le (hy.trans_eq (Lay.count_eq _))
    · obtain ⟨x, hx, rfl⟩ := List.mem_map.1 hr
      exact ⟨by rw [List.length_map]; exact length_of_mem_chunks hx, fun _ => Nat.zero_le _⟩

end

/-- Settles O59, by the number of elements that each kind of work stores. -/
theorem elementwiseInstructionsStoreInTheirDestination : Obligations.elementwise_instructions_store_in_their_destination := by
  intro s c w slot o d dst a hd' hdst' _ hc ha he
  subst hd' hdst'
  have hd : Lay.Misses _ a := ha
  refine ⟨fun k hk => ?_, workLoad_frame hd he hc⟩
  simp only [List.mem_cons, List.not_mem_nil, or_false] at hk
  have arith := fun op => workArith_frame (slot := slot) (o := o) hd he hc op
  have unary := fun f => workUnary_frame (slot := slot) (o := o) hd he hc f
  have int := fun f => workInt_frame (slot := slot) (o := o) hd he hc f
  rcases hk with rfl | rfl | rfl | rfl | rfl | rfl | rfl | rfl | rfl | rfl | rfl | rfl | rfl | rfl | rfl | rfl | rfl | rfl | rfl |
    rfl | rfl | rfl | rfl
  · exact workFill_frame hd
  · exact workStore_frame hd he hc
  · exact workCopy_frame hd he hc
  iterate 7 exact arith _
  iterate 4 exact unary _
  · exact workDropout_frame hd he hc
  · exact workRandU_frame hd he
  iterate 7 exact int _

end Sys2Proof.Machine
end

section
/-! The closure of a step (12) and the fingerprint pass (13): the obligations O41 and O42. -/

namespace Sys2Proof.Machine

/-! ### Slots and signals -/

@[simp] theorem slotAt_modSlot (s : State) (p : Fin 12) (i : Fin 2) (f : Slot → Slot) :
    slotAt (modSlot s p i f) p i = f (slotAt s p i) := by
  rw [slotAt, modSlot, modCl, State.part_modPart]
  exact (vget_vmod _ _ _ _).trans (if_pos rfl)

theorem slotAt_record (s : State) (code part core : Nat) (body : List Byte) (p : Fin 12) (i : Fin 2) :
    slotAt (record s code part core body) p i = slotAt s p i := by
  obtain ⟨t, ht⟩ := record_only s code part core body
  rw [ht]
  rfl

theorem slotAt_setStep (s : State) (p : Fin 12) (i : Fin 2) (st : BitVec 4) :
    slotAt (setStep s p i st) p i = { slotAt s p i with state := st } := by
  rw [setStep, slotAt_record, slotAt_modSlot]

/-- R352: the DONE signals of every step core bring an open step to REDUCED, with its turn for the digest (R355). -/
theorem tryReduced_of_open {s : State} {p : Fin 12} {i : Fin 2} (ho : (slotAt s p i).state = stOPEN)
    (hr : (slotAt s p i).replayPos = 0) (ht : (slotAt s p i).turn = 0) (hn : (slotAt s p (otherSlot i)).replayed = false)
    (hc : stepCores s p ≠ []) (hd : ∀ c ∈ stepCores s p, (slotAt s p i).done.contains c.val = true) :
    slotAt (tryReduced s p i) p i =
      { slotAt s p i with state := stREDUCED, turn := nextTurn s, reducedAt := s.ts } := by
  rw [tryReduced, if_pos, if_neg, slotAt_setStep, slotAt_modSlot]
  · rw [ho]
    decide
  · exact ⟨by simpa using hc, List.all_eq_true.2 hd, hr, ht, .inl ho, by rw [hn, Bool.and_false]; rfl⟩

theorem tryReduced_of_not_done {s : State} {p : Fin 12} {i : Fin 2} {c : Fin 96} (hc : c ∈ stepCores s p)
    (hd : (slotAt s p i).done.contains c.val = false) : tryReduced s p i = s :=
  if_neg fun h => by
    have := List.all_eq_true.1 h.2.1 c hc
    rw [hd] at this
    exact absurd this Bool.false_ne_true

theorem foldl_pair (g : State → Fin 2 → State) (s : State) : ([0, 1] : List (Fin 2)).foldl g s = g (g s 0) 1 := rfl

/-- R357: what the timeout of a suspect does with the slot of one parity. -/
def suspectLate (s : State) (p : Fin 12) (c : Fin 96) (i : Fin 2) : State :=
  match (slotAt s p i).suspects.find? (fun u => u.core == c.val && decide (u.status < 2)) with
  | some u =>
    if !fwRuns s ∨ ¬((slotAt s p i).state = stREDUCED ∨ (slotAt s p i).state = stCHECKED) ∨
        s.since (slotAt s p i).reducedAt < polNat s p 24 4 * msTicks then s
    else lateCheck (suspectFails (match u.buddy.bind coreOf? with | some b => haltCore s b | none => s) p i c.val) p i
  | none => s

theorem exec_suspectTimeout_of_owner {c : Fin 96} {s : State} {p : Fin 12} (hp : ownerOf s c = some p) :
    exec (.suspectTimeout c) s = .next (suspectLate (suspectLate s p c 0) p c 1) := by
  rw [exec_suspectTimeout, execSuspectTimeout, hp]
  rfl

theorem suspectLate_of_none {s : State} {p : Fin 12} {c : Fin 96} {i : Fin 2}
    (h : (slotAt s p i).suspects.find? (fun u => u.core == c.val && decide (u.status < 2)) = none) :
    suspectLate s p c i = s := by
  rw [suspectLate, h]

theorem suspectLate_of_early {s : State} {p : Fin 12} {c : Fin 96} {i : Fin 2}
    (h : s.since (slotAt s p i).reducedAt < polNat s p 24 4 * msTicks) : suspectLate s p c i = s := by
  unfold suspectLate
  split
  · exact if_pos (.inr (.inr h))
  · rfl

theorem suspectLate_of_due {s : State} {p : Fin 12} {c : Fin 96} {i : Fin 2} {u : Suspect} (hf : fwRuns s = true)
    (hu : (slotAt s p i).suspects.find? (fun u => u.core == c.val && decide (u.status < 2)) = some u) (hb : u.buddy = none)
    (hs : (slotAt s p i).state = stREDUCED ∨ (slotAt s p i).state = stCHECKED)
    (ht : polNat s p 24 4 * msTicks ≤ s.since (slotAt s p i).reducedAt) :
    suspectLate s p c i = lateCheck (suspectFails s p i c.val) p i := by
  have hn : ¬(!fwRuns s ∨ ¬((slotAt s p i).state = stREDUCED ∨ (slotAt s p i).state = stCHECKED) ∨
      s.since (slotAt s p i).reducedAt < polNat s p 24 4 * msTicks) := by
    rintro (h | h | h)
    · rw [hf] at h
      exact absurd h Bool.false_ne_true
    · exact h hs
    · omega
  simp only [suspectLate, hu, if_neg hn, hb, Option.bind_none]

/-- Settles O41, by the signal or the timer that each event takes. -/
theorem closureEvents : Obligations.closure_events := by
  refine ⟨?done, fun s p i ho hr ht hn => ⟨fun hc hd => ?reduced, fun ⟨c, hc, hd⟩ => tryReduced_of_not_done hc hd⟩, ?other, ?digest,
    ?due, ?noBuddy, ?buddy, ?late, ?early, ?close, ?poll, ?upd, ?eval⟩
  case reduced =>
    rw [tryReduced_of_open ho hr ht hn hc hd]
    exact ⟨rfl, rfl⟩
  case done =>
    intro c s u v p k hp hk hi hs hv
    have h : exec (.doneSignal c) s = .next (if !fwRuns v then v
        else checkStep (startWaiting (releaseDue v p) p (parOf k)) p (parOf k)) := by
      rw [exec_doneSignal, execDoneSignal, hp, hk, hv]
      exact congrArg Host.Outcome.next (if_pos ⟨hi, hs⟩)
    exact ⟨fun hf => h.trans (congrArg Host.Outcome.next (if_neg (by rw [hf]; decide))),
      fun hf => h.trans (congrArg Host.Outcome.next (if_pos (by rw [hf]; decide)))⟩
  case other =>
    intro c s u p k hp hk hn
    rw [exec_doneSignal, execDoneSignal, hp, hk]
    exact congrArg Host.Outcome.next (if_neg fun ⟨h1, h2⟩ => hn.elim (· h1) fun ⟨h3, h4⟩ => h2.elim h3 h4)
  case digest =>
    intro p s i n hd hf
    have h : exec (.digestComplete p) s = .next (if fwRuns s && digestTurn s n then
        tryEntry (if rangePoison s (shardOf s p) then found (modSlot s p i (fun y =>
          { y with digest := some (rangeDigest s (shardOf s p)) })) p i cPOISON 2
          else modSlot s p i (fun y => { y with digest := some (rangeDigest s (shardOf s p)) })) p i else s) := by
      rw [exec_digestComplete, execDigestComplete, hd]
      rfl
    refine ⟨fun hq => ⟨_, rfl, ?_⟩, fun ⟨q, j, m, hq, hm⟩ => ?_⟩
    · have ht : digestTurn s n = true := List.all_eq_true.2 fun q _ => by
        cases hq' : digestDue s q with
        | none => rfl
        | some x => exact decide_eq_true (hq q x.1 x.2 hq')
      exact h.trans (congrArg Host.Outcome.next (if_pos (by rw [hf, ht]; decide)))
    · have ht : digestTurn s n = false := List.all_eq_false.2 ⟨q, List.mem_finRange q, by rw [hq]; simpa using hm⟩
      exact h.trans (congrArg Host.Outcome.next (if_neg (by rw [ht, Bool.and_false]; decide)))
  case due =>
    intro p s i hc hs hk hd hr hh
    rw [digestDue, hc]
    exact if_pos ⟨hs, hk, hd, hr, hh⟩
  case noBuddy =>
    intro b s h
    rw [exec_buddyHalt, execBuddyHalt]
    cases hp : ownerOf s b with
    | none => rfl
    | some p =>
      refine congrArg Host.Outcome.next ?_
      dsimp only
      split
      · rfl
      next hs =>
        have hs' : (s.core b).stopped = true := by
          by_contra hn
          exact hs (.inl (by simpa using hn))
        rw [foldl_pair, h p hp hs' 0]
        dsimp only
        rw [h p hp hs' 1]
  case buddy =>
    intro b c s p u hp hs hf hu hc
    refine ⟨_, rfl, fun hn => ?_⟩
    rw [exec_buddyHalt, execBuddyHalt, hp]
    refine congrArg Host.Outcome.next ((if_neg (by simp [hs, hf])).trans ?_)
    rw [foldl_pair, hu]
    dsimp only
    rw [hc]
    dsimp only
    rw [hn]
  case late =>
    intro c s p u hp hf hu hb hs ht
    exact ⟨_, rfl, fun hn => by
      rw [exec_suspectTimeout_of_owner hp, suspectLate_of_due hf hu hb hs ht, suspectLate_of_none hn]⟩
  case early =>
    intro c s p hp ht
    rw [exec_suspectTimeout_of_owner hp, suspectLate_of_early (ht 0), suspectLate_of_early (ht 1)]
  case close =>
    intro p s i hc hf hs hst hh hp hr hcu he
    rw [exec_closeTimeout, execCloseTimeout, hc]
    exact ⟨fun ht => congrArg Host.Outcome.next (if_pos ⟨hf, hs, hst, hh, hp, hr, hcu, ht, he⟩),
      fun ht => congrArg Host.Outcome.next (if_neg fun ⟨_, _, _, _, _, _, _, h, _⟩ => by omega)⟩
  case poll =>
    intro p s
    have hpoll : (∀ i : Fin 2, (slotAt s p i).pos ≠ 2) → pollStep s p =
        if (s.part p).cl.evalWait ≠ 0 ∧ allIn s p (s.part p).cl.evalDone = true then commitSignal s p else lookAgain s p := by
      intro h
      have hn : ([0, 1] : List (Fin 2)).find? (fun i => decide ((slotAt s p i).pos = 2)) = none :=
        List.find?_eq_none.2 fun i _ => by simpa using h i
      rw [pollStep, hn]
    refine ⟨fun hf => ?_, fun hf h he => ?_, fun hf h he hd hc => ?_⟩
    · exact congrArg Host.Outcome.next (if_neg (by rw [hf]; exact Bool.false_ne_true))
    · rw [exec_mailboxPoll, execMailboxPoll, if_pos hf, hpoll h, if_neg fun h => h.1 he]
    · have ha : allIn s p (s.part p).cl.evalDone = true := by
        rw [allIn, Bool.and_eq_true]
        exact ⟨by simpa using hd, List.all_eq_true.2 hc⟩
      rw [exec_mailboxPoll, execMailboxPoll, if_pos hf, hpoll h, if_pos ⟨he, ha⟩]
  case upd =>
    intro c s u p k i hp hk hi
    rw [exec_updDoneSignal, execUpdDoneSignal, hp, hk]
    dsimp only
    rw [hi]
    refine ⟨_, rfl, fun hf hd => congrArg Host.Outcome.next (if_pos ⟨hf, List.all_eq_true.2 hd⟩), fun h =>
      congrArg Host.Outcome.next (if_neg fun ⟨hf, hd⟩ => ?_)⟩
    rcases h with h | ⟨d, hd', h⟩
    · exact absurd (h.symm.trans hf) Bool.false_ne_true
    · exact absurd (h.symm.trans (List.all_eq_true.1 hd d hd')) Bool.false_ne_true
  case eval =>
    intro c s u p k hp hk
    rw [exec_evalDoneSignal, execEvalDoneSignal, hp, hk]
    refine ⟨_, rfl, fun hf he hd => congrArg Host.Outcome.next (if_pos ⟨hf, he, List.all_eq_true.2 hd⟩), fun h =>
      congrArg Host.Outcome.next (if_neg fun ⟨hf, he, _⟩ => ?_)⟩
    rcases h with h | h
    · exact absurd (h.symm.trans hf) Bool.false_ne_true
    · exact he h

/-! ### The fingerprint pass -/

theorem fpNext_of_few {w : State} {p : Fin 12} (h : (w.part p).uc.groups.length ≤ 64) :
    fpNext w p = endPass (modUc w p (fun u => { u with groups := [] })) p := by
  have hd : modUc w p (fun u => { u with groups := u.groups.drop 64 }) = modUc w p (fun u => { u with groups := [] }) := by
    simp only [modUc, State.modPart, List.drop_eq_nil_of_le h]
  rw [fpNext, hd, fpGo, if_pos]
  rw [modUc, State.part_modPart]
  rfl

/-- Settles O42, by the state of the pass. -/
theorem fingerprintEvents : Obligations.fingerprint_events := by
  refine ⟨fun p s hs hf => ⟨_, rfl, ?digests⟩, ?agree, ?leaves, fun p w h => fpNext_of_few h, ?block, ?timeout, fun p b s hf => ?held⟩
  case digests => exact congrArg Host.Outcome.next (if_neg (by simp [hs, hf]))
  case agree =>
    intro p s hs ht hf hr hl hb he
    have hb' : (fpEntries s p).all (fun e => !bit (natAt e.2 7 1) 0) = true :=
      List.all_eq_true.2 fun e h => by rw [hb e h]; rfl
    refine congrArg Host.Outcome.next ((if_neg (by simp [hs, ht, hf, hl])).trans ((if_pos hr).trans (if_pos ?_)))
    rw [hb', Bool.and_true]
    cases hes : fpEntries s p with
    | nil => rfl
    | cons f fs =>
      rw [hes] at he
      exact List.all_eq_true.2 fun e h => beq_iff_eq.2 (he e h f List.mem_cons_self)
  case leaves =>
    intro p s hs ht hf hr hl
    have h : exec (.fpRootsComplete p) s = .next (match fpResolve s p ((fpEntries s p).map (fun e => natAt e.2 5 1)) with
        | none => endRevert s p
        | some s => if (s.part p).uc.blocks.isEmpty then fpNext s p else modUc s p (fun u => { u with state := 3 })) :=
      congrArg Host.Outcome.next ((if_neg (by simp [hs, ht, hf, hl])).trans (if_neg hr))
    rw [h]
    refine ⟨fun hn => by rw [hn], fun w hw => ?_⟩
    rw [hw]
    exact ⟨fun hb => congrArg Host.Outcome.next (if_pos (by rw [hb]; rfl)),
      fun hb => congrArg Host.Outcome.next (if_neg (by simpa using hb))⟩
  case block =>
    intro p b s w tries a c hf hx ha
    rw [exec_fpBlockReceived, execFpBlockReceived]
    dsimp only
    rw [if_neg (by rw [hf]; decide), hx, ha]
    refine ⟨fun hw ht => congrArg Host.Outcome.next ((if_neg hw).trans (if_pos ht)),
      fun hw ht => congrArg Host.Outcome.next ((if_neg hw).trans (if_neg (Nat.not_lt.2 ht))), fun hw hc => ⟨_, rfl, ?_⟩⟩
    dsimp only
    rw [if_pos hw, hc]
  case timeout =>
    intro p s hs hf hl
    refine ⟨fun ht => congrArg Host.Outcome.next (if_neg fun ⟨_, _, h, _⟩ => by omega),
      fun ht hc => congrArg Host.Outcome.next ((if_pos ⟨hs, hf, ht, hl⟩).trans (if_pos hc)), fun ht hc hh => ?_⟩
    refine congrArg Host.Outcome.next ((if_pos ⟨hs, hf, ht, hl⟩).trans ((if_neg (by rw [hc]; exact Bool.false_ne_true)).trans ?_))
    have hh' : holds (modUc s p (fun u => { u with timeout := true })) p ((s.part p).uc.commit + 1) = none := by
      rw [holds, slotAt, modUc, State.part_modPart]
      exact hh
    dsimp only
    rw [hh']
  case held =>
    have hn : (!fwRuns s) = true := by rw [hf]; rfl
    exact ⟨congrArg Host.Outcome.next (if_pos (.inr hn)), congrArg Host.Outcome.next (if_pos (.inr (.inr (.inl hn)))),
      congrArg Host.Outcome.next (if_pos hn), congrArg Host.Outcome.next (if_neg fun ⟨_, h, _⟩ => by
        rw [hf] at h; exact absurd h Bool.false_ne_true)⟩

end Sys2Proof.Machine
end

section
/-! The in-service tests (15): the obligation O43. -/

namespace Sys2Proof.Machine

@[simp] theorem tcore_modTc (s : State) (c : Fin 96) (f : Tcore → Tcore) : tcore (modTc s c f) c = f (tcore s c) :=
  (vget_vmod _ _ _ _).trans (if_pos rfl)

theorem tcore_modTc_of_ne (s : State) {c d : Fin 96} (f : Tcore → Tcore) (h : d ≠ c) : tcore (modTc s c f) d = tcore s d :=
  (vget_vmod _ _ _ _).trans (if_neg h.symm)

theorem roundAge_iff {c : Fin 96} {s : State} {n e : Nat} (h : interval s c = some n) :
    roundAge s c e = true ↔ e * n * secTicks ≤ 8 * s.since (tcore s c).lastRound := by
  rw [roundAge, h]
  exact decide_eq_true_iff

theorem nextKernel_of_due {s : State} {c : Fin 96} (hd : (tcore s c).due = true) (hl : (tcore s c).level ≠ 2) :
    nextKernel s c = force s c :=
  (if_neg fun h => hl h.1).trans (if_pos hd)

theorem nextKernel_of_quarantine {s : State} {c : Fin 96} {k : Kernel} {rest : List Kernel} (ht : (tcore s c).todo = k :: rest)
    (hl : (tcore s c).level = 2) (hr : (s.core c).retired = false) (hm : mayLaunch s c k = true) :
    nextKernel s c = launch s c k false none := by
  refine (if_pos ⟨hl, by rw [hr]; rfl⟩).trans ?_
  rw [ht]
  exact if_pos hm

theorem forceAwake_of_up {s : State} {c : Fin 96} (h : s.pw.wstate ≠ 1 ∨ s.th.tripped = true) : forceAwake s c = force s c :=
  if_neg fun ⟨h1, h2⟩ => h.elim (· h1) fun h3 => by
    rw [h3] at h2
    exact absurd h2 Bool.false_ne_true

theorem forceAwake_of_w1 {s : State} {c : Fin 96} (h : s.pw.wstate = 1) (ht : s.th.tripped = false) :
    forceAwake s c = { s with pw := { s.pw with exiting := true } } :=
  if_pos ⟨h, by rw [ht]; rfl⟩

theorem setAtRest_of_drained {s : State} {c : Fin 96} {k : Kernel}
    (h : ∀ e : Fin 10, bit k.engMask.toNat e.val = true → ((s.core c).engine e).flight = []) : setAtRest s c k = true := by
  refine List.all_eq_true.2 fun e _ => ?_
  cases hb : bit k.engMask.toNat e.val with
  | false => rfl
  | true => rw [h e hb]; rfl

/-- Settles O43, by the time that each event waits for. -/
theorem inServiceTestEvents : Obligations.in_service_test_events := by
  refine ⟨fun c s n e h => roundAge_iff h, fun c s => ⟨fun h => congrArg Host.Outcome.next (if_pos h),
      fun h => congrArg Host.Outcome.next (if_neg (by rw [h]; exact Bool.false_ne_true))⟩, ?opens, ?launch, ?run, ?due, ?notDue,
    ?resume, ?loopback, ?quarantine, ?window⟩
  case opens =>
    intro c s ha ho hk hw
    exact if_neg (by simp only [ha, ho, hk]; simp; omega)
  case launch =>
    intro c s k rest ht
    refine ⟨fun hd hl => ?_, fun hd hl => ?_, fun hl hr hm => ?_⟩
    · have h : exec (.kernelLaunch c) s = .next (if mayLaunch s c k && fitsWait s c k then launch s c k false none else s) := by
        refine congrArg Host.Outcome.next ((if_neg ?_).trans ?_)
        · rw [hd]
          exact fun h => h.elim Bool.false_ne_true hl
        · rw [ht]
      exact ⟨fun hm hf => h.trans (congrArg Host.Outcome.next (if_pos (by rw [hm, hf]; rfl))), fun hn =>
        h.trans (congrArg Host.Outcome.next (if_neg (by rcases hn with hn | hn <;> simp [hn])))⟩
    · exact congrArg Host.Outcome.next ((if_pos (.inl hd)).trans (nextKernel_of_due hd hl))
    · exact congrArg Host.Outcome.next ((if_pos (.inr hl)).trans (nextKernel_of_quarantine ht hl hr hm))
  case run =>
    intro c s r hr
    have hset : exec (.kernelSetHeld c) s = .next (if !r.held ∧ setAtRest s c r.kernel ∧ s.pw.wstate = 0 then
        enterKernel (modTc s c (fun t => { t with run := some { r with held := true, launched := s.ts } })) c r.kernel
        else s) := by
      rw [exec_kernelSetHeld, execKernelSetHeld, holdSet, hr]
    have hacq : exec (.setAcquireTimeout c) s = .next (if !r.held ∧ !r.forced ∧ r.secondFor = none ∧ (tcore s c).level ≠ 2 ∧
        20 * usTicks ≤ s.since r.launched then returnEngines (modTc s c (fun t => { t with run := none })) c else s) := by
      rw [exec_setAcquireTimeout, execSetAcquireTimeout, hr]
    have hover : exec (.kernelOverrun c) s = .next (if 4 * kernelTicks s r.kernel ≤ s.since r.launched then
        kernelEnds c none s else s) := by
      rw [exec_kernelOverrun, execKernelOverrun, hr]
    refine ⟨fun hh hw he => hset.trans (congrArg Host.Outcome.next (if_pos ⟨by rw [hh]; rfl, setAtRest_of_drained he, hw⟩)),
      fun hn => hset.trans (congrArg Host.Outcome.next (if_neg fun ⟨h1, _, h3⟩ => hn.elim
        (fun h => by rw [h] at h1; exact absurd h1 Bool.false_ne_true) (· h3))),
      fun hh hf h2 hl => ⟨fun ht => hacq.trans (congrArg Host.Outcome.next
        (if_pos ⟨by rw [hh]; rfl, by rw [hf]; rfl, h2, hl, ht⟩)),
        fun ht => hacq.trans (congrArg Host.Outcome.next (if_neg fun ⟨_, _, _, _, h⟩ => by omega))⟩,
      fun result => rfl, fun ht => hover.trans (congrArg Host.Outcome.next (if_pos ht)),
      fun ht => hover.trans (congrArg Host.Outcome.next (if_neg (Nat.not_le.2 ht))),
      fun hh h2 => ⟨_, _, rfl, rfl, fun result => ?_⟩, fun k hk => if_neg (by rw [hk]; exact Bool.false_ne_true)⟩
    unfold kernelEnds
    rw [hr]
    dsimp only
    rw [if_neg (by rw [hh]; decide), h2]
  case due =>
    intro c s ha hw ho
    refine ⟨_, rfl, ?_⟩
    have hopen : openRound s c = s := if_pos (.inr (.inl ho))
    have h : exec (.roundDue c) s = .next (forceAwake (modTc s c (fun t => { t with due := true })) c) := by
      rw [exec_roundDue, execRoundDue, if_neg (by rw [ha]; simp; omega)]
      dsimp only
      rw [hopen, if_pos ho]
    rw [h]
    exact ⟨fun h0 => congrArg Host.Outcome.next (forceAwake_of_up (.inl (by
      show s.pw.wstate ≠ 1
      rw [h0]
      decide))), fun h1 ht => congrArg Host.Outcome.next (forceAwake_of_w1 h1 ht)⟩
  case notDue =>
    intro c s ha
    exact congrArg Host.Outcome.next (if_pos (.inl (by rw [ha]; rfl)))
  case resume =>
    intro c s hc
    exact ⟨fun h => congrArg Host.Outcome.next ((if_pos hc).trans (forceAwake_of_up h)),
      fun h ht => congrArg Host.Outcome.next ((if_pos hc).trans (forceAwake_of_w1 h ht))⟩
  case loopback =>
    intro s t ht
    rw [exec_loopbackSuspendEnd, execLoopbackSuspendEnd, ht]
    exact ⟨fun h => congrArg Host.Outcome.next (if_neg (Nat.not_lt.2 h)), fun h => congrArg Host.Outcome.next (if_pos h)⟩
  case quarantine =>
    intro c s hl hr
    refine ⟨_, rfl, fun ha hq => congrArg Host.Outcome.next
      (if_pos ⟨hl, by rw [hr]; rfl, by rw [ha]; rfl, decide_eq_true hq⟩),
      fun h => congrArg Host.Outcome.next (if_neg fun ⟨_, _, h3, h4⟩ => ?_)⟩
    rcases h with h | h
    · rw [h] at h3
      exact absurd h3 Bool.false_ne_true
    · exact absurd (of_decide_eq_true h4) (Nat.not_le.2 h)
  case window =>
    intro c s
    exact ⟨_, rfl, rfl, congrArg Tcore.fails (tcore_modTc s c _), fun d hd => tcore_modTc_of_ne s _ hd⟩

end Sys2Proof.Machine
end

section
/-! Deeds and agents, the endpoints, firmware update and attestation (16, 19): the obligations O44 to O46. -/

namespace Sys2Proof.Machine

/-! ### Deeds -/

theorem askMstep_kci (s : State) (m : Bool) : (askMstep s m).kci = s.kci := by
  unfold askMstep
  split
  · rfl
  · split <;> rfl

theorem applyMstepPolicy_kci (s : State) : (applyMstepPolicy s).kci = s.kci := by
  unfold applyMstepPolicy
  dsimp only
  split
  · exact askMstep_kci _ _
  · split
    · exact askMstep_kci _ _
    · rfl

theorem takeSteps_kci (s : State) (ceil : Nat) : (takeSteps s ceil).kci = s.kci := applyMstepPolicy_kci _

theorem becomePrimary_kci (s : State) (i : Fin 2) (old : BitVec 2) : (becomePrimary s i old).kci = s.kci := by
  have key : ∀ (l : List (Fin 2)) (f : Fin 2 → Agent → Agent) (t : State),
      (l.foldl (fun u j => u.modAgent j (f j)) t).kci = t.kci := by
    intro l f
    induction l with
    | nil => exact fun _ => rfl
    | cons j l ih => exact fun t => (List.foldl_cons ..) ▸ (ih _).trans rfl
  exact key _ _ s

/-- R470: the deed that moves is given to its new holder under the next epoch. -/
theorem moveDeed_kci (s : State) (r : Fin 5) (dest plane : BitVec 2) : (moveDeed s r dest plane).kci =
    { s.kci with deeds := vset s.kci.deeds r { vget s.kci.deeds r with
        holder := dest, lastBy := plane, epoch := (vget s.kci.deeds r).epoch + 1
        chain := if dest = 0 then (vget s.kci.deeds r).chain else s.chain } } := by
  unfold moveDeed
  dsimp only
  rw [record_kci]
  split <;> rfl

theorem moveDeed_facts {s t : State} {r : Fin 5} {dest plane : BitVec 2}
    (h : t.kci.deeds = (moveDeed s r dest plane).kci.deeds) : vget t.kci.deeds r = { vget s.kci.deeds r with
        holder := dest, lastBy := plane, epoch := (vget s.kci.deeds r).epoch + 1
        chain := if dest = 0 then (vget s.kci.deeds r).chain else s.chain } ∧
    ∀ q, q ≠ r → vget t.kci.deeds q = vget s.kci.deeds q := by
  rw [h, moveDeed_kci]
  exact ⟨vget_vset_self _ _ _, fun q hq => vget_vset_of_ne _ _ _ _ hq.symm⟩

theorem deedClaim_refused {s : State} {w : Writer} {r : Fin 5} (h : claimOk s w r = false) : deedClaim s w r = (s, false) :=
  if_pos (by rw [h]; rfl)

theorem deedClaim_again {s : State} {w : Writer} {r : Fin 5} (h : claimOk s w r = true)
    (hh : (vget s.kci.deeds r).holder = writerCode w) (hr : r ≠ 4) : deedClaim s w r = (s, true) :=
  (if_neg (by rw [h]; decide)).trans (if_pos ⟨hh, hr⟩)

theorem deedClaim_granted {s : State} {w : Writer} {r : Fin 5} (h : claimOk s w r = true)
    (hh : (vget s.kci.deeds r).holder ≠ writerCode w ∨ r = 4) : (deedClaim s w r).2 = true ∧
    (deedClaim s w r).1.kci = (moveDeed s r (writerCode w) (writerCode w)).kci := by
  unfold deedClaim
  rw [if_neg (by rw [h]; decide)]
  extract_lets o ceil t u
  have hu : u.kci = t.kci := by
    cases hw : writerAgent w with
    | none =>
      simp only [u, hw]
      split
      exacts [applyMstepPolicy_kci t, rfl]
    | some i =>
      simp only [u, hw]
      split
      · exact becomePrimary_kci t i o
      · split
        exacts [takeSteps_kci t ceil, rfl]
  rw [if_neg fun hn => hh.elim (· hn.1) hn.2]
  refine ⟨rfl, ?_⟩
  dsimp only
  split
  exacts [hu, hu]

theorem deedRelease_granted {s : State} {w : Writer} {r : Fin 5} {e : Word} (he : (vget s.kci.deeds r).epoch = e)
    (hh : (vget s.kci.deeds r).holder = writerCode w) : (deedRelease s w r e).2 = 1 ∧
    (deedRelease s w r e).1.kci = (moveDeed s r 0 (writerCode w)).kci := by
  unfold deedRelease
  extract_lets d down t u v
  rw [if_neg (not_not.2 he), if_neg (not_not.2 hh)]
  have hd : ∀ a, (down a).kci = a.kci := fun a => by
    cases hw : writerAgent w with
    | none => simp only [down, hw]
    | some i => simp only [down, hw]; rfl
  have hu : u.kci = t.kci := by
    simp only [u]
    split
    exacts [hd t, rfl]
  have hv : v.kci = t.kci := by
    simp only [v]
    split
    exacts [(applyMstepPolicy_kci _).trans hu, hu]
  refine ⟨rfl, ?_⟩
  dsimp only
  split
  exacts [hv, hv]

theorem deedRelease_foreign {s : State} {w : Writer} {r : Fin 5} {e : Word} (he : (vget s.kci.deeds r).epoch = e)
    (hh : (vget s.kci.deeds r).holder ≠ writerCode w) : deedRelease s w r e = (s, 2) := by
  unfold deedRelease
  extract_lets d down t u v
  rw [if_neg (not_not.2 he), if_pos hh]

theorem deedRelease_stale {s : State} {w : Writer} {r : Fin 5} {e : Word} (he : (vget s.kci.deeds r).epoch ≠ e) :
    (deedRelease s w r e).2 = 3 ∧ (deedRelease s w r e).1.kci = s.kci := by
  unfold deedRelease
  extract_lets d down t u v
  rw [if_pos he]
  refine ⟨rfl, ?_⟩
  dsimp only
  split
  · cases hw : writerAgent w with
    | none => simp only [down, hw]
    | some i => simp only [down, hw]; rfl
  · rfl

theorem writerCode_ne_zero (w : Writer) : writerCode w ≠ 0 := by
  cases w <;> decide

theorem portOutcome_outcome (s : State) (w : Writer) (o : Nat) :
    (vget (portOutcome s w o).kci.deedPorts (writerPort w)).outcome = BitVec.ofNat 2 o := by
  exact congrArg DeedPort.outcome ((vget_vmod _ _ _ _).trans (if_pos rfl))

@[simp] theorem agent_modAgent (s : State) (i : Fin 2) (f : Agent → Agent) : (s.modAgent i f).agent i = f (s.agent i) :=
  (vget_vmod _ _ _ _).trans (if_pos rfl)

theorem agent_modAgent_of_ne (s : State) {i j : Fin 2} (f : Agent → Agent) (h : j ≠ i) :
    (s.modAgent i f).agent j = s.agent j :=
  (vget_vmod _ _ _ _).trans (if_neg h.symm)

/-- A writer's release names an epoch in its deed port. -/
def namesEpoch (s : State) (w : Writer) (e : Word) : State :=
  s.modKci (fun k => { k with deedPorts := vmod k.deedPorts (writerPort w) (fun p => { p with epoch := e }) })

theorem exec_deedReqClaim_eq (w : Writer) (r : Fin 5) (s : State) : exec (.deedReqClaim w r) s =
    .next (portOutcome (deedClaim s w r).1 w (if (deedClaim s w r).2 then 1 else 2)) := rfl

theorem exec_deedReqRelease_eq (w : Writer) (r : Fin 5) (e : Word) (s : State) : exec (.deedReqRelease w r e) s =
    .next (portOutcome (deedRelease (namesEpoch s w e) w r e).1 w (deedRelease (namesEpoch s w e) w r e).2) := rfl

/-- Settles O44, by who holds the deed and under which epoch. -/
theorem deedAndAgentCommands : Obligations.deed_and_agent_commands := by
  refine ⟨?watchdog, ?claim, ?release, ?heartbeat, ?claimTimer, ?thermal, ?idle, ?ack⟩
  case watchdog =>
    intro i s t hp hr hb
    have h : exec (.agentWatchdog i) s = .next (if s.rst.por ∨ (s.agent i).role = 3 ∨ !decide (20 * msTicks ≤ s.since t) then s
        else (((s.modAgent i (fun a => { Agent.reset with lastHb := a.lastHb })).modMg (fun m => { m with
          ends := vset m.ends (agentEp i) .reset
          p5 := if (vget s.kci.deeds 4).holder = agentCode i then vset m.p5 0 .reset else m.p5 })).modRst (fun r =>
            if i.val = 0 then { r with causeE := true } else { r with causeW := true }))) := by
      rw [exec_agentWatchdog, execAgentWatchdog, hb]
      rfl
    refine ⟨fun ht => h.trans (congrArg Host.Outcome.next (if_pos (.inr (.inr (by
      rw [decide_eq_false (Nat.not_le.2 ht)]; rfl))))), fun ht => ⟨_, h.trans (congrArg Host.Outcome.next (if_neg ?_)), ?_, ?_, ?_,
      rfl, rfl, rfl⟩⟩
    · rw [hp, decide_eq_true ht]
      rintro (h | h | h)
      exacts [Bool.false_ne_true h, hr h, absurd h (by decide)]
    · exact (agent_modAgent s i _).trans (by rw [hb])
    · exact fun j hj => agent_modAgent_of_ne s _ hj
    · simp only [Fin.ext_iff]
      rfl
  case claim =>
    intro w r s
    refine ⟨fun h => ?_, fun h hh hr => ?_, fun h hh => ⟨_, exec_deedReqClaim_eq w r s, ?_⟩⟩
    · rw [exec_deedReqClaim, execDeedReqClaim, deedClaim_refused h]
      rfl
    · rw [exec_deedReqClaim, execDeedReqClaim, deedClaim_again h hh hr]
      rfl
    · obtain ⟨h1, h2⟩ := deedClaim_granted h hh
      obtain ⟨hr, ho⟩ := moveDeed_facts (congrArg Kci.deeds h2)
      refine ⟨congrArg Deed.holder hr, congrArg Deed.epoch hr, (congrArg Deed.chain hr).trans (if_neg (writerCode_ne_zero w)),
        ?_, ho⟩
      refine (portOutcome_outcome _ w _).trans ?_
      rw [h1]
      rfl
  case release =>
    intro w r e s
    refine ⟨fun he hh => ⟨_, exec_deedReqRelease_eq w r e s, ?_⟩,
      fun he hh => ⟨_, exec_deedReqRelease_eq w r e s, ?_⟩, fun he => ⟨_, exec_deedReqRelease_eq w r e s, ?_⟩⟩
    · obtain ⟨h1, h2⟩ := deedRelease_granted (s := namesEpoch s w e) he hh
      obtain ⟨hr, ho⟩ := moveDeed_facts (congrArg Kci.deeds h2)
      refine ⟨congrArg Deed.holder hr, (congrArg Deed.epoch hr).trans (congrArg (· + 1) he), ?_, ho⟩
      refine (portOutcome_outcome _ w _).trans ?_
      rw [h1]
      rfl
    · rw [deedRelease_foreign (s := namesEpoch s w e) he hh]
      exact ⟨rfl, portOutcome_outcome _ w _⟩
    · obtain ⟨h1, h2⟩ := deedRelease_stale (w := w) (s := namesEpoch s w e) he
      have hd : (deedRelease (namesEpoch s w e) w r e).1.kci.deeds = (namesEpoch s w e).kci.deeds := congrArg Kci.deeds h2
      refine ⟨hd, (portOutcome_outcome _ w _).trans ?_⟩
      rw [h1]
      rfl
  case heartbeat =>
    intro i s
    refine ⟨_, _, rfl, rfl, fun h => congrArg Host.Outcome.next (if_pos h), fun hr hp hs => ?_, fun hr hp hs => ?_⟩
    · refine congrArg Host.Outcome.next ((if_neg (by rw [hp]; exact fun h => h.elim hr Bool.false_ne_true)).trans
        ((if_pos (by rw [hs]; rfl)).trans ?_))
      simp only [Fin.ext_iff]
      rfl
    · exact congrArg Host.Outcome.next ((if_neg (by rw [hp]; exact fun h => h.elim hr Bool.false_ne_true)).trans
        (if_neg (by rw [hs]; decide)))
  case claimTimer =>
    intro i s hs hr hp
    have h : exec (.agentClaimTimer i) s = .next (if ((vget s.kci.deeds 4).holder = 0 ∧
        (i.val = 0 ∨ 50 * msTicks ≤ s.since (s.agent i).startAt)) ∨ holderLate s (vget s.kci.deeds 4).holder then
        claimPrimary s i else s) :=
      congrArg Host.Outcome.next (if_neg (by
        rw [hs, hp]
        rintro (h | h | h)
        exacts [absurd h (by decide), hr h, absurd h (by decide)]))
    refine ⟨_, rfl, fun hc => h.trans (congrArg Host.Outcome.next (if_pos ?_)), fun h0 hl =>
      h.trans (congrArg Host.Outcome.next (if_neg ?_))⟩
    · exact hc.imp_left fun ⟨h0, h1⟩ => ⟨h0, h1.imp_left (congrArg Fin.val)⟩
    · rw [hl]
      exact fun h => h.elim (fun h => h0 h.1) Bool.false_ne_true
  case thermal =>
    intro s i t hp hc ht hk he
    rw [exec_thermalReleaseTimer, execThermalReleaseTimer, hp, hc]
    exact ⟨fun h => congrArg Host.Outcome.next (if_pos ⟨ht, by rw [hk]; rfl, he, h⟩),
      fun h => congrArg Host.Outcome.next (if_neg fun ⟨_, _, _, h'⟩ => by omega)⟩
  case idle =>
    intro s i hp hd hs
    rw [exec_fwStageIdleTimeout, execFwStageIdleTimeout, hp]
    exact ⟨fun h => congrArg Host.Outcome.next (if_pos ⟨hd, hs, h⟩),
      fun h => congrArg Host.Outcome.next (if_neg fun ⟨_, _, h'⟩ => by omega)⟩
  case ack =>
    intro n s hp hb
    refine ⟨_, congrArg Host.Outcome.next (if_neg ?_), rfl, ?_, ?_, ?_, fun hn => if_neg (Nat.not_le.2 hn)⟩
    · cases hq : primary? s with
      | none => rw [hq] at hp; exact absurd hp Bool.false_ne_true
      | some i => rw [hb]; exact fun h => h.elim Bool.false_ne_true Bool.false_ne_true
    all_goals simp only [ne_eq, Fin.ext_iff]; rfl

/-! ### Endpoints -/

theorem atEp_of_up {s : State} {ep : Fin 3} (h : epUp s ep = true) (f : State → State) : atEp s ep f = .next (f s) :=
  congrArg Host.Outcome.next (if_pos h)

theorem atEp_of_down {s : State} {ep : Fin 3} (h : epUp s ep = false) (f : State → State) : atEp s ep f = .next s :=
  congrArg Host.Outcome.next (if_neg (by rw [h]; exact Bool.false_ne_true))

theorem exec_of_up {i : Instr} {s : State} {ep : Fin 3} {f : State → State} (h : exec i s = atEp s ep f)
    (hu : epUp s ep = true) : exec i s = .next (f s) := h.trans (atEp_of_up hu f)

theorem answers_of_atEp {i : Instr} {s : State} {ep : Fin 3} {bs : List Byte} {f : State → State}
    (h : exec i s = atEp s ep f) (hf : f s = say s ep bs) : Answers i s ep bs :=
  ⟨fun hu => h.trans ((atEp_of_up hu f).trans (congrArg Host.Outcome.next hf)), fun hu => h.trans (atEp_of_down hu f)⟩

theorem leBytes_one (b : Byte) : leBytes 1 b.toNat = [b] := by
  rw [leBytes, leBytes, BitVec.ofNat_toNat, BitVec.setWidth_eq]

theorem respond_byte (s : State) (ep : Fin 3) (b : Byte) : respond s ep 0 (leBytes 1 b.toNat) = say s ep [0, b] := by
  rw [leBytes_one]
  rfl

/-- An endpoint that answers a byte it knows with the byte, and another with an error code. -/
theorem respond_known {p q : Prop} [Decidable p] [Decidable q] (h : p ↔ q) (s : State) (ep : Fin 3) (b : Byte) (code : Nat) :
    (if p then respond s ep 0 (leBytes 1 b.toNat) else respond s ep code []) =
      say s ep (if q then [0, b] else [BitVec.ofNat 8 code]) := by
  by_cases hp : p
  · rw [if_pos hp, if_pos (h.1 hp), respond_byte]
  · rw [if_neg hp, if_neg (fun hq => hp (h.2 hq))]
    rfl

theorem mem_pldmTypes (type : BitVec 8) : pldmTypes.contains type.toNat = true ↔ type ∈ ([0, 2, 5] : List (BitVec 8)) := by
  simp only [pldmTypes, List.contains_iff_mem, List.mem_cons, List.not_mem_nil, or_false, BitVec.toNat_eq]
  rfl

theorem setEffecter_limit (s : State) (i : Fin 2) (v : Nat) : setEffecter s i 0x100 v =
    if 150 ≤ v ∧ v ≤ 350 then (commitLimits s i (fun l => { l with plSust := BitVec.ofNat 9 v }), true) else (s, false) := rfl

theorem setEffecter_th1 (s : State) (i : Fin 2) (v : Nat) : setEffecter s i 0x102 v =
    if 70 ≤ v ∧ v ≤ 95 then (commitLimits s i (fun l => { l with th1 := BitVec.ofNat 7 v }), true) else (s, false) := rfl

/-- Settles O45, by whether the endpoint is up. -/
theorem endpointCommands : Obligations.endpoint_commands := by
  refine ⟨fun dyn s => ⟨rfl, rfl, fun q h1 h2 => congrArg Host.Outcome.next ((if_neg h1).trans (if_neg h2))⟩, ?store, ?answers,
    ?sensors, ?effecters, ?ranges⟩
  case store =>
    intro ep s eid hu
    refine ⟨⟨_, exec_of_up (exec_setEndpointId ep eid s) hu, ?_, ?_, rfl, fun q hq => ?_⟩,
      ⟨_, exec_of_up (exec_setEventReceiver ep eid s) hu, ?_, rfl, rfl, fun q hq => ?_⟩⟩
    · exact congrArg Endpoint.eid ((vget_vmod _ _ _ _).trans (if_pos rfl))
    · rw [leBytes_one]
      rfl
    · exact (vget_vmod _ _ _ _).trans (if_neg hq.symm)
    · exact congrArg Endpoint.receiver ((vget_vmod _ _ _ _).trans (if_pos rfl))
    · exact (vget_vmod _ _ _ _).trans (if_neg hq.symm)
  case answers =>
    intro ep s type id handle
    refine ⟨answers_of_atEp (exec_getEndpointId ep s) ?_, answers_of_atEp (exec_getEndpointUuid ep s) rfl,
      answers_of_atEp (exec_getMctpVersionSupport ep type s) ?_, answers_of_atEp (exec_getMessageTypeSupport ep s) rfl,
      answers_of_atEp (exec_getTid ep s) ?_, answers_of_atEp (exec_getPldmVersion ep type s) ?_,
      answers_of_atEp (exec_getPldmTypes ep s) rfl, answers_of_atEp (exec_getPldmCommands ep type s) ?_,
      answers_of_atEp (exec_getPdr ep handle s) rfl, answers_of_atEp (exec_getSensorReading ep id s) ?_,
      answers_of_atEp (exec_getStateSensorReadings ep id s) ?_⟩
    · exact respond_byte s ep _
    · exact respond_known (by simp only [List.mem_cons, List.not_mem_nil, or_false]) s ep type 0x80
    · exact respond_byte s ep _
    · exact respond_known (mem_pldmTypes type) s ep type 0x83
    · exact respond_known (mem_pldmTypes type) s ep type 0x83
    · cases sensorReading s id.toNat <;> rfl
    · cases stateReading s id.toNat <;> rfl
  case sensors =>
    intro s
    refine ⟨rfl, rfl, fun n => ?_, rfl, rfl, rfl, fun n hn => ?_⟩
    · have hn := n.isLt
      rw [sensorReading, if_neg (by omega), if_neg (by omega), dif_pos (by omega)]
      exact congrArg (fun k => some ((s.stk k).temp.toNat : Int)) (Fin.ext (Nat.add_sub_cancel_left 3 n.val))
    · rw [sensorReading, if_neg (by omega), if_neg (by omega), dif_neg (by omega), if_neg (by omega), if_neg (by omega),
        if_neg (by omega), if_neg (by omega)]
  case effecters =>
    intro ep s id v hu
    have hs := exec_of_up (exec_setNumericEffecterValue ep id v s) hu
    have hg := exec_of_up (exec_getNumericEffecterValue ep id s) hu
    refine ⟨fun hp => ?_, fun i hi => ?_⟩
    · rw [hp] at hs hg
      exact ⟨hs, hg⟩
    · rw [hi] at hs hg
      exact ⟨hs, hg⟩
  case ranges =>
    intro s i v
    refine ⟨fun h1 h2 => (setEffecter_limit s i v).trans (if_pos ⟨h1, h2⟩), fun h => (setEffecter_limit s i v).trans
      (if_neg (by omega)), fun h1 h2 => (setEffecter_th1 s i v).trans (if_pos ⟨h1, h2⟩),
      fun h => (setEffecter_th1 s i v).trans (if_neg (by omega)), fun id h0 h1 h2 h3 => ?_⟩
    rw [setEffecter, if_neg h0, if_neg h1, if_neg h2, if_neg h3]

/-! ### Firmware update and attestation -/

theorem atP5_of_serves {s : State} {ep : Fin 3} (h : servesUpdate s ep = true) (f : State → State) :
    atP5 s ep f = .next (f s) := by
  obtain ⟨hu, hp⟩ := (Bool.and_eq_true _ _).mp h
  refine (atEp_of_up hu _).trans (congrArg Host.Outcome.next (if_neg fun ⟨h2, hn⟩ => ?_))
  rcases (Bool.or_eq_true _ _).mp hp with h3 | h3
  · exact absurd (of_decide_eq_true h3) (by omega)
  · rw [Option.isNone_iff_eq_none.1 hn] at h3
    exact Bool.false_ne_true h3

theorem inState_of_inUpdate {s : State} {ep : Fin 3} {l : List Nat} (h : InUpdate s ep l) (f : State → State) :
    inState s ep l f = .next (f s) :=
  (atP5_of_serves h.1 _).trans (congrArg Host.Outcome.next (if_pos (List.contains_iff_mem.2 h.2)))

/-- R539, R545: a command that goes through the session check is turned away outside its states. -/
theorem turnedAway_of_inState {i : Fin 3 → Instr} {l : List Nat} {f : Fin 3 → State → State}
    (h : ∀ ep s, exec (i ep) s = inState s ep l (f ep)) : UpdateTurnedAway i l := by
  intro ep s
  rw [h, inState]
  refine ⟨fun hu => atEp_of_down hu _, fun hu h2 hp => (atEp_of_up hu _).trans (congrArg Host.Outcome.next (if_pos ⟨h2, hp⟩)),
    fun hs hl => (atP5_of_serves hs _).trans (congrArg Host.Outcome.next (if_neg ?_))⟩
  rwa [List.contains_iff_mem]

theorem exec_of_inUpdate {i : Instr} {s : State} {ep : Fin 3} {l : List Nat} {f : State → State}
    (h : exec i s = inState s ep l f) (hu : InUpdate s ep l) : exec i s = .next (f s) := h.trans (inState_of_inUpdate hu f)

theorem atSpdm_of_ready {s : State} {ep : Fin 3} {least : Nat} (h : spdmReady s ep least = true) (f : State → State) :
    atSpdm s ep least f = .next (f s) := by
  simp only [spdmReady, Bool.and_eq_true, Bool.not_eq_true', Bool.and_eq_false_iff, decide_eq_false_iff_not,
    decide_eq_true_eq] at h
  obtain ⟨⟨hu, he⟩, hl⟩ := h
  refine (atEp_of_up hu _).trans (congrArg Host.Outcome.next (if_neg ?_))
  rintro (⟨h2, h3⟩ | h4)
  · exact he.elim (· h2) fun h5 => by
      rw [h5] at h3
      exact Bool.false_ne_true h3
  · omega

theorem atSpdm_of_not_ready {s : State} {ep : Fin 3} {least : Nat} (hu : epUp s ep = true) (h : spdmReady s ep least = false)
    (f : State → State) : atSpdm s ep least f = .next (respond s ep 0x7F []) := by
  refine (atEp_of_up hu _).trans (congrArg Host.Outcome.next (if_pos ?_))
  by_contra hn
  rw [not_or, not_and, Nat.not_lt] at hn
  have ht : spdmReady s ep least = true := by
    simp only [spdmReady, Bool.and_eq_true, Bool.not_eq_true', Bool.and_eq_false_iff, decide_eq_false_iff_not,
      decide_eq_true_eq]
    refine ⟨⟨hu, ?_⟩, hn.2⟩
    by_cases h2 : ep.val = 2
    · exact .inr (Bool.not_eq_true _ |>.mp (hn.1 h2))
    · exact .inl h2
  rw [h] at ht
  exact Bool.false_ne_true ht

theorem exec_of_ready {i : Instr} {s : State} {ep : Fin 3} {least : Nat} {f : State → State}
    (h : exec i s = atSpdm s ep least f) (hr : spdmReady s ep least = true) : exec i s = .next (f s) :=
  h.trans (atSpdm_of_ready hr f)

/-- Settles O46, by the state of the session or of the responder. -/
theorem updateAndAttestationCommands : Obligations.update_and_attestation_commands := by
  refine ⟨?away, ?queries, ?request, ?table, ?component, ?data, ?verify, ?apply, ?activate, ?cancel, ?spdm, ?attest⟩
  case away =>
    intro id size data pack
    exact ⟨turnedAway_of_inState fun _ _ => rfl, turnedAway_of_inState fun _ _ => rfl, turnedAway_of_inState fun _ _ => rfl,
      turnedAway_of_inState fun _ _ => rfl, turnedAway_of_inState fun _ _ => rfl, turnedAway_of_inState fun _ _ => rfl,
      turnedAway_of_inState fun _ _ => rfl, turnedAway_of_inState fun _ _ => rfl, turnedAway_of_inState fun _ _ => rfl⟩
  case queries =>
    intro ep s hs
    exact ⟨(exec_queryDeviceIdentifiers ep s).trans (atP5_of_serves hs _),
      ⟨_, (exec_getFirmwareParameters ep s).trans (atP5_of_serves hs _)⟩,
      (exec_getStatus ep s).trans (atP5_of_serves hs _)⟩
  case request =>
    intro ep s hu
    have h := exec_of_inUpdate (exec_requestUpdate ep s) hu
    dsimp only at h
    refine ⟨fun hc => ?_, fun hc => ?_⟩
    · rw [h, hc, if_neg Bool.false_ne_true]
    · rw [h, hc, if_pos rfl]
  case table => exact fun ep s hu => exec_of_inUpdate (exec_passComponentTable ep s) hu
  case component =>
    intro ep s id size hu
    have h := exec_of_inUpdate (exec_updateComponent ep id size s) hu
    exact ⟨fun hc => h.trans (congrArg Host.Outcome.next (if_pos hc)), fun h1 h4 h2 => ⟨_, rfl,
      h.trans (congrArg Host.Outcome.next (if_neg (by omega)))⟩⟩
  case data =>
    intro ep s data p hu hp
    subst hp
    exact ⟨_, _, rfl, rfl, exec_of_inUpdate (exec_requestFirmwareData ep data s) hu,
      exec_of_inUpdate (exec_transferComplete ep s) hu⟩
  case verify =>
    intro ep s p hu hp
    subst hp
    have h := exec_of_inUpdate (exec_verifyComplete ep s) hu
    dsimp only at h
    refine ⟨fun hc hb => h.trans (congrArg Host.Outcome.next (if_pos ⟨hc, hb⟩)), fun hok => ?_, fun hbad => ?_⟩
    · rcases hok with ⟨hc, hb⟩ | ⟨hc, hb⟩
      · rw [h, if_neg fun hn => hn.1 hc, if_pos hc, hb]
        rfl
      · rw [h, if_neg (by rw [hb]; exact fun hn => absurd hn.2 (by decide)), if_neg hc, hb]
        rfl
    · rcases hbad with ⟨hc, hb⟩ | ⟨hc, h2, h3⟩
      · rw [h, if_neg fun hn => hn.1 hc, if_pos hc, hb]
        rfl
      · rw [h, if_neg fun hn => h2 hn.2, if_neg hc, decide_eq_false h3]
        rfl
  case apply =>
    intro ep s p hu hp
    subst hp
    exact ⟨_, rfl, exec_of_inUpdate (exec_applyComplete ep s) hu⟩
  case activate =>
    intro ep s hu
    have h := exec_of_inUpdate (exec_activateFirmware ep none s) hu
    refine ⟨fun i u ok ha => ?_, fun hc hm => ?_, fun hc hm => ?_, fun hc => ?_⟩
    · refine (exec_of_inUpdate (exec_activateFirmware ep (some i) s) hu).trans ?_
      dsimp only
      rw [ha]
    · exact h.trans (congrArg Host.Outcome.next ((if_pos hc).trans (if_pos hm)))
    · exact h.trans (congrArg Host.Outcome.next ((if_pos hc).trans (if_neg (by rw [hm]; exact Bool.false_ne_true))))
    · exact h.trans (congrArg Host.Outcome.next (if_neg hc))
  case cancel => exact fun ep s hu => exec_of_inUpdate (exec_cancelUpdate ep s) hu
  case spdm =>
    intro ep s
    exact ⟨exec_of_ready (exec_getVersion ep s), exec_of_ready (exec_getCapabilities ep s),
      exec_of_ready (exec_negotiateAlgorithms ep s),
      fun hu hr => (exec_getCapabilities ep s).trans (atSpdm_of_not_ready hu hr _),
      fun hu hr => (exec_negotiateAlgorithms ep s).trans (atSpdm_of_not_ready hu hr _)⟩
  case attest =>
    intro ep s slot a n nonce hr
    have hc := fun slot => exec_of_ready (exec_getCertificate ep slot a n s) hr
    have hch := fun slot => exec_of_ready (exec_challenge ep slot nonce s) hr
    refine ⟨exec_of_ready (exec_getDigests ep s) hr, hc 0, fun hs => ⟨(hc slot).trans (congrArg Host.Outcome.next (if_neg hs)),
      (hch slot).trans (congrArg Host.Outcome.next (if_pos (.inl hs)))⟩, fun k hk => ⟨⟨_, rfl, ?_⟩, fun i m hi hm => ⟨_, rfl, ?_⟩⟩⟩
    · refine (hch 0).trans (congrArg Host.Outcome.next ((if_neg ?_).trans ?_))
      · rw [hk]
        exact fun h => h.elim (· rfl) Bool.false_ne_true
      · simp only [spdmSign, hk]
    · have h := exec_of_ready (exec_getMeasurements ep i nonce s) hr
      dsimp only at h
      rw [h, if_neg hi]
      simp only [spdmSign, hk, hm, leBytes_one, List.any_cons, List.any_nil, List.flatMap_cons, List.flatMap_nil,
        List.append_nil, Option.isNone_some, Bool.or_false, Bool.false_eq_true, or_self, if_false, Option.getD_some,
        List.singleton_append]

end Sys2Proof.Machine
end

section
/-! The control domain, the staging buffer, power loss and the resets (19, 21): the obligations O47 and O48. -/

namespace Sys2Proof.Machine

/-! ### Boot -/

theorem bitVec_one_of_fin (k : Fin 2) : (if BitVec.ofNat 1 k.val = 0 then (0 : Fin 2) else 1) = k := by
  revert k
  decide

theorem bank_of_ne : ∀ k m : Fin 2, k ≠ m → (if m = 0 then (1 : Fin 2) else 0) = k := by
  decide

theorem bootRom_of_bank {s : State} {k : Fin 2} (h : (if bankOk s (if s.sec.bootActive = 0 then 0 else 1) then
      some (if s.sec.bootActive = 0 then (0 : Fin 2) else 1)
      else if bankOk s (if (if s.sec.bootActive = 0 then (0 : Fin 2) else 1) = 0 then 1 else 0) then
        some (if (if s.sec.bootActive = 0 then (0 : Fin 2) else 1) = 0 then (1 : Fin 2) else 0) else none) = some k) :
    (bootRom s true).rst.stage = 2 ∧ (bootRom s true).sec.running = vget s.sec.banks k ∧
      (bootRom s true).sec.bank = BitVec.ofNat 1 k.val := by
  unfold bootRom
  rw [if_neg (by decide)]
  extract_lets v a b
  have h' : (if bankOk v a then some a else if bankOk v b then some b else none) = some k := h
  rw [h']
  exact ⟨rfl, rfl, rfl⟩

/-- R599: the boot ROM takes the active bank where it verifies. -/
theorem bootRom_of_active {s : State} {k : Fin 2} (hb : s.sec.bootActive = BitVec.ofNat 1 k.val) (hk : bankOk s k = true) :
    (bootRom s true).rst.stage = 2 ∧ (bootRom s true).sec.running = vget s.sec.banks k ∧
      (bootRom s true).sec.bank = BitVec.ofNat 1 k.val :=
  bootRom_of_bank (by rw [hb, bitVec_one_of_fin, if_pos hk])

/-- R599: and the other one where only that verifies. -/
theorem bootRom_of_other {s : State} {k m : Fin 2} (hn : k ≠ m) (hb : s.sec.bootActive = BitVec.ofNat 1 m.val)
    (hm : bankOk s m = false) (hk : bankOk s k = true) :
    (bootRom s true).rst.stage = 2 ∧ (bootRom s true).sec.running = vget s.sec.banks k ∧
      (bootRom s true).sec.bank = BitVec.ofNat 1 k.val := by
  exact bootRom_of_bank (by rw [hb, bitVec_one_of_fin, if_neg (by rw [hm]; exact Bool.false_ne_true),
    bank_of_ne k m hn, if_pos hk])

theorem bootRom_of_none {s : State} (h0 : bankOk s 0 = false) (h1 : bankOk s 1 = false) : bootRom s true =
    (s.modSec (fun x => { x with selftestOk := true })).modRst (fun r => { r with stage := 3 }) := by
  have hb : ∀ k : Fin 2, bankOk s k = false := fun k => by
    fin_cases k
    exacts [h0, h1]
  unfold bootRom
  rw [if_neg (by decide)]
  extract_lets v a b
  have h' : (if bankOk v a then some a else if bankOk v b then some b else none) = none := by
    rw [if_neg, if_neg]
    · exact (hb b).symm ▸ Bool.false_ne_true
    · exact (hb a).symm ▸ Bool.false_ne_true
  rw [h']

/-- What the boot ROM never touches. -/
theorem bootRom_only (s : State) (b : Bool) : bootRom s b = { s with
    sec := (bootRom s b).sec
    rst := { s.rst with stage := (bootRom s b).rst.stage, bank := (bootRom s b).rst.bank } } := by
  unfold bootRom
  split
  · rfl
  · extract_lets v a b
    split <;> rfl

theorem dataReady_facts {s : State} (h : s.rst.stage = 4) : (dataReady s).kci.cpFault = s.kci.cpFault ∧
    (dataReady s).kci.fns = s.kci.fns ∧ 4 ≤ (dataReady s).rst.stage.toNat := by
  unfold dataReady
  extract_lets t
  have ht : t.kci = s.kci := by
    simp only [t]
    split <;> rfl
  have hc : t.kci.cpFault = s.kci.cpFault := congrArg Kci.cpFault ht
  have hf : t.kci.fns = s.kci.fns := congrArg Kci.fns ht
  split
  · exact ⟨hc, hf, by show 4 ≤ (5 : BitVec 3).toNat; decide⟩
  · exact ⟨rfl, rfl, by rw [h]; decide⟩

theorem Func.ring0_ready (x : Func) : x.ring0.ready = x.ready := by
  unfold Func.ring0
  split <;> rfl

/-- R600: the functions are READY, with ring 0 where one is enabled, before the data plane is looked at. -/
def firmwareStarts (s : State) : State :=
  ((installBase (afterControlReset s)).modKci (fun k => { k with
    cpFault := false, fns := k.fns.map (fun x => { x with ready := true }.ring0) })).modRst (fun r => { r with stage := 4 })

theorem exec_ctrlFirmwareStart_of_booted {s : State} (hu : s.rst.ctlUp = true) (hs : s.rst.stage = 2)
    (ht : s.th.tripped = false) : exec .ctrlFirmwareStart s = .next (dataReady (firmwareStarts s)) :=
  congrArg Host.Outcome.next (if_neg (by
    rw [hu, hs, ht]
    decide))

theorem firmwareStarts_ready (s : State) (f : Fin 13) : (vget (firmwareStarts s).kci.fns f).ready = true :=
  (congrArg Func.ready (vget_map _ _ f)).trans (Func.ring0_ready _)

/-- R601: what a reset of the control domain keeps and clears. -/
theorem controlReset_facts (s : State) (link : Bool) : (controlReset s link).cores = s.cores ∧
    (controlReset s link).mem = s.mem ∧ (controlReset s link).ms = s.ms ∧ (controlReset s link).kci.live = [] ∧
    (controlReset s link).kci.txns = [] ∧ (controlReset s link).rst =
      { s.rst with stage := 0, ctlCount := satAdd s.rst.ctlCount 1 } ∧ (controlReset s link).sec.running = .none ∧
    (controlReset s link).sec.aak = none ∧ (controlReset s link).kci.fns = s.kci.fns.map (fun x =>
      if link then { Func.reset with msixMask := x.msixMask, msixAddr := x.msixAddr, msixData := x.msixData } else Func.reset) :=
  ⟨rfl, rfl, rfl, rfl, rfl, rfl, rfl, rfl, rfl⟩

/-! ### Staging, activation and power loss -/

theorem stageEpoch_modSb (s : State) (w : Writer) (e : Word) (f : Staging → Staging) :
    stageEpoch (s.modSb f) w e = true ↔ (vget s.kci.deeds 3).holder = writerCode w ∧ (vget s.kci.deeds 3).epoch = e :=
  decide_eq_true_iff

theorem linkDown_only (s : State) (n : Fin 8) : ∃ fab tel, linkDown s n = { s with fab := fab, tel := tel } := by
  have key : ∀ (u : State) (c : Prop) [Decidable c] (f : Fabric → Fabric), ∃ fab tel,
      linkRecord (if c then u.modFab f else u) n = { u with fab := fab, tel := tel } := by
    intro u c _ f
    split
    · obtain ⟨tel, ht⟩ := record_only (u.modFab f) _ _ _ _
      exact ⟨_, tel, ht⟩
    · obtain ⟨tel, ht⟩ := record_only u _ _ _ _
      exact ⟨_, tel, ht⟩
  exact key _ _ _

/-- R568: the ports that are up go down, and that leaves everything but the fabric and the trace. -/
theorem foldl_linkDown_only (l : List (Fin 8)) (s : State) : ∃ fab tel,
    l.foldl (fun s n => if (portOf s n).state = 1 then linkDown s n else s) s = { s with fab := fab, tel := tel } := by
  induction l generalizing s with
  | nil => exact ⟨_, _, rfl⟩
  | cons n l ih =>
    obtain ⟨fab, tel, h⟩ : ∃ fab tel, (if (portOf s n).state = 1 then linkDown s n else s) = { s with fab := fab, tel := tel } := by
      split
      exacts [linkDown_only s n, ⟨_, _, rfl⟩]
    rw [List.foldl_cons, h]
    exact ih _

/-- R568: what the loss of power has done before its links go down. -/
def shedsLoad (s : State) (mv : Nat) : State :=
  let u := { s with rst := { s.rst with pwrLoss := true, pwrClear := none } }
  let e := eMeasOf u (holdupV u mv)
  writeVlog ((u.modMg (fun m => { m with
    shed := true, eMeas := e, eInt := e, eStart := e, senseOor := false, disagree := false })).modClk (fun c =>
      { c with gated := true })) 500

theorem exec_pwrLossNAssert_of_up {s : State} {mv : Nat} (hl : s.rst.pwrLoss = false) (hp : s.rst.por = false) :
    exec (.pwrLossNAssert mv) s = .next (((List.finRange 8).foldl (fun s n => if (portOf s n).state = 1 then linkDown s n else s)
      (shedsLoad s mv)).modSec (fun x => { x with
        flush := some 0, gaspArea := 1 - x.gaspArea, gasp := x.gasp.filter (fun g => decide (g.area = x.gaspArea)) })) :=
  congrArg Host.Outcome.next ((if_neg (by rw [hl]; exact Bool.false_ne_true)).trans
    (if_neg (by show ¬ s.rst.por = true; rw [hp]; exact Bool.false_ne_true)))

/-- R568: the telemetry records of page `n` of a flush, the newest page first. -/
def flushedRecords (s : State) (n : Nat) : List Byte :=
  (upFrom (s.tel.nextSeq.toNat - min s.tel.nextSeq.toNat (64 * (n + 1)))
    (min s.tel.nextSeq.toNat (64 * (n + 1)) - min s.tel.nextSeq.toNat (64 * n))).flatMap (ringSlot s)

/-- The page that holds them. -/
def flushedPage (s : State) (n : Nat) : GaspPage :=
  ⟨s.sec.gaspArea, s.sec.gaspSeq, n, BitVec.ofNat 64 (natAt (flushedRecords s n) 0 8), padTo (flushedRecords s n) 4096⟩

theorem exec_flushPage_of_running {s : State} {n : Nat} (hf : s.sec.flush = some n) (hn : n < 16)
    (hs : s.pw.flushStop = false) : exec .flushPage s = .next { s with sec := { s.sec with
      gasp := s.sec.gasp ++ [flushedPage s n], gaspSeq := s.sec.gaspSeq + 1
      flush := if n = 15 ∧ s.rst.pwrLoss = false then none else some (n + 1) } } := by
  have hlo : s.tel.nextSeq.toNat - min s.tel.nextSeq.toNat (64 * n) -
      (s.tel.nextSeq.toNat - min s.tel.nextSeq.toNat (64 * (n + 1))) =
      min s.tel.nextSeq.toNat (64 * (n + 1)) - min s.tel.nextSeq.toNat (64 * n) := by omega
  rw [exec_flushPage, execFlushPage, hf]
  dsimp only
  rw [if_neg (by rw [hs]; exact fun h => h.elim (by omega) Bool.false_ne_true), hlo]
  by_cases h : n = 15 ∧ s.rst.pwrLoss = false
  · rw [if_pos h, if_pos ⟨h.1, by show (!s.rst.pwrLoss) = true; rw [h.2]; rfl⟩]
    rfl
  · rw [if_neg h, if_neg fun ⟨h1, h2⟩ => h ⟨h1, by simpa using h2⟩]
    rfl

theorem controlRecord_only (s : State) (k : Byte) : ∃ tel n, controlRecord s (some k) = { s with tel := tel, freeCtr := n } := by
  obtain ⟨tel, ht⟩ := record_only (s.freshBytes 4).2 0x0702 15 0x7F ([k] ++ (s.freshBytes 4).1)
  exact ⟨tel, _, ht⟩

/-- R568: what the end of a loss of power gives back before it is recorded. -/
def lossEnds (s : State) : State :=
  let u := { s with
    rst := { s.rst with pwrClear := none }, mg := { s.mg with shed := false }, sec := { s.sec with flush := none } }
  if s.th.tripped ∨ s.clk.relocking ∨ s.clk.failed then u
  else writeVlog (u.modClk (fun c => { c with gated := false })) (vlogRequest u u.pw.pstep.toNat)

theorem lossEnds_facts (s : State) : (lossEnds s).rst = { s.rst with pwrClear := none } ∧
    (lossEnds s).mg = { s.mg with shed := false } ∧ (lossEnds s).sec = { s.sec with flush := none } ∧
    (s.th.tripped = false → s.clk.relocking = false → s.clk.failed = false → (lossEnds s).clk.gated = false) := by
  unfold lossEnds
  dsimp only
  split
  next h =>
    refine ⟨rfl, rfl, rfl, fun h1 h2 h3 => ?_⟩
    rw [h1, h2, h3] at h
    exact absurd h (by decide)
  next => exact ⟨rfl, rfl, rfl, fun _ _ _ => rfl⟩

theorem exec_pwrLossRecovery_of_due {s : State} {t : DWord} (ht : s.rst.pwrClear = some t) (hp : s.rst.por = false)
    (hl : 100 * msTicks ≤ s.since t) : exec .pwrLossRecovery s = .next (controlRecord (lossEnds s) (some 4)) := by
  rw [exec_pwrLossRecovery, execPwrLossRecovery, ht]
  exact congrArg Host.Outcome.next (if_neg (by rw [hp]; exact fun h => h.elim Bool.false_ne_true (Nat.not_lt.2 hl)))

theorem exec_holdupTick_of_agreeing {s : State} {mv : Nat} {i : Fin 2} {v e : Rat} (hi : primary? s = some i)
    (hsh : s.mg.shed = true) (hf : s.sec.flush.isSome = true) (hv : v = holdupV s mv) (he : e = eMeasOf s v)
    (h1 : (s.mg.huVmin.toNat : Rat) / 20 ≤ v) (h2 : v ≤ 5 / 4 * ((s.mg.huVnom.toNat : Rat) / 10))
    (h3 : s.mg.eInt - s.pw.est / 10 / ((s.mg.huEff.toNat : Rat) / 100) = e) (hd : (vget s.kci.deeds 4).holder = agentCode i) :
    exec (.holdupTick mv) s = .next { s with
      mg := { s.mg with eMeas := e, eInt := e }
      pw := { s.pw with flushStop := decide (e < 6 / 5 * (s.pw.est / ((s.mg.huEff.toNat : Rat) / 100))) } } := by
  have hn : ¬(!s.mg.shed ∨ s.sec.flush.isNone) := by
    rw [hsh, Option.isNone_eq_false_iff.2 hf]
    decide
  have hm : ¬ max (s.mg.eStart / 10) 50 < (0 : Rat) := not_lt.2 ((by norm_num : (0 : Rat) ≤ 50).trans (le_max_right _ _))
  rw [exec_holdupTick, execHoldupTick, hi]
  dsimp only
  rw [if_neg hn, ← hv, ← he, h3]
  simp only [decide_eq_false (not_lt.2 h1), decide_eq_false (not_lt.2 h2), lt_irrefl, if_false, sub_self, Bool.or_false,
    Bool.not_false, Bool.true_and, decide_eq_false hm, Bool.false_eq_true]
  exact congrArg Host.Outcome.next (if_pos hd)

theorem zeroiseStore_part (s : State) (p : Fin 12) : (zeroiseStore s).part p =
    { s.part p with srk := none, srkCert := [], kwk := none } := vget_map _ _ _

/-- Settles O47, by the bank, the epoch or the time that each event looks at. -/
theorem stagingActivationAndPowerLossEvents : Obligations.staging_activation_and_power_loss_events := by
  refine ⟨?boot, ?start, ?fault, ?recovery, ?staging, ?verified, ?notVerifying, ?accept, ?commit, ?unlock, ?loss, ?again, ?flush,
    ?holdup, ?back⟩
  case boot =>
    intro s
    refine ⟨_, rfl, rfl, fun h0 h1 => bootRom_of_none h0 h1, fun k hb hk => bootRom_of_active hb hk, fun k m hn hb hm hk => ?_⟩
    obtain ⟨h1, h2, -⟩ := bootRom_of_other hn hb hm hk
    exact ⟨h1, h2⟩
  case start =>
    intro s hu hs ht
    obtain ⟨h1, h2, h3⟩ := dataReady_facts (s := firmwareStarts s) rfl
    refine ⟨_, exec_ctrlFirmwareStart_of_booted hu hs ht, h1, fun f => ?_, h3⟩
    rw [State.fn, h2]
    exact firmwareStarts_ready s f
  case fault =>
    intro b s hu
    refine ⟨_, congrArg Host.Outcome.next (if_neg (by rw [hu]; decide)), ?_⟩
    rw [bootRom_only]
    exact ⟨rfl, rfl, rfl, rfl, rfl, rfl⟩
  case recovery =>
    intro b s hs h2 hc
    have h : exec (.bootRecovery b) s = .next (match imageFault s s.sec.sb.image with
        | some r => sbReject s r
        | none => bootRom (controlReset (s.modSec (fun x => { x with
          banks := vset x.banks 0 (imageOfBytes s.sec.sb.image), bootActive := 0, bootPending := false
          bootSeq := x.bootSeq + 1 })) true) b) := by
      refine (exec_bootRecovery b s).trans (congrArg Host.Outcome.next ((if_neg ?_).trans rfl))
      rintro (h | h | h)
      exacts [h hs, h h2, h hc]
    exact ⟨fun r hr => by rw [h, hr], fun hr => ⟨_, rfl, by rw [h, hr]⟩⟩
  case staging =>
    intro w e s b comp slot h len hb
    subst hb
    refine ⟨fun h1 h2 => ?_, fun hn => ?_⟩
    · have hs := (stageEpoch_modSb s w e (fun x => { x with epoch := e })).2 ⟨h1, h2⟩
      exact ⟨congrArg Host.Outcome.next (if_pos hs), congrArg Host.Outcome.next (if_pos hs),
        congrArg Host.Outcome.next (if_pos hs), congrArg Host.Outcome.next (if_pos hs),
        congrArg Host.Outcome.next (if_neg (by rw [hs]; decide))⟩
    · have hs : stageEpoch (s.modSb (fun x => { x with epoch := e })) w e ≠ true := fun h =>
        have h' := (stageEpoch_modSb s w e (fun x => { x with epoch := e })).1 h
        hn.elim (· h'.1) (· h'.2)
      exact ⟨congrArg Host.Outcome.next (if_neg hs), congrArg Host.Outcome.next (if_neg hs),
        congrArg Host.Outcome.next (if_neg hs), congrArg Host.Outcome.next (if_neg hs),
        congrArg Host.Outcome.next (if_pos (by simpa using hs))⟩
  case verified =>
    intro flash s u h2 h3 hu
    subst hu
    refine congrArg Host.Outcome.next ((if_neg (fun h => h.elim (· h2) h3)).trans ?_)
    simp only [decide_eq_true_eq]
  case notVerifying => exact fun flash s h => congrArg Host.Outcome.next (if_pos (.inl h))
  case accept =>
    intro s a ha hn
    refine ⟨fun h => ⟨_, _, rfl, rfl, ?_⟩, fun h => ?_, ⟨_, rfl, ?_⟩⟩
    · rw [exec_newCodeAccept, execNewCodeAccept, ha]
      exact congrArg Host.Outcome.next (if_neg (by rw [hn]; exact fun h' => h'.elim Bool.false_ne_true (Nat.not_lt.2 h)))
    · rw [exec_newCodeAccept, execNewCodeAccept, ha]
      exact congrArg Host.Outcome.next (if_pos (.inr h))
    · rw [exec_activationFallback, execActivationFallback, ha]
      exact congrArg Host.Outcome.next (if_neg (by rw [hn]; exact Bool.false_ne_true))
  case commit =>
    intro s a t ha ht
    rw [exec_activationCommit, execActivationCommit, ha]
    dsimp only
    rw [ht]
    exact ⟨fun h => congrArg Host.Outcome.next (if_pos h), fun h => congrArg Host.Outcome.next (if_neg (Nat.not_lt.2 h))⟩
  case unlock =>
    intro s body sig ht hs hl
    have hb : (body ++ sig).take ((body ++ sig).length - 96) = body := by
      rw [List.length_append, hl, Nat.add_sub_cancel, List.take_left']
      rfl
    have hg : (body ++ sig).drop ((body ++ sig).length - 96) = sig := by
      rw [List.length_append, hl, Nat.add_sub_cancel, List.drop_left']
      rfl
    rw [exec_debugUnlock, execDebugUnlock, hb, hg]
    refine ⟨fun h => congrArg Host.Outcome.next (if_pos (.inr (.inr (.inr (by rw [h]; rfl))))), fun h => ⟨_,
      congrArg Host.Outcome.next (if_neg ?_), rfl, rfl, rfl, rfl, rfl, fun p => ?_⟩⟩
    · rw [ht, hs, h, List.length_append, hl]
      rintro (h | h | h | h)
      exacts [Bool.false_ne_true h, Bool.false_ne_true h, by omega, absurd h (by decide)]
    · have hp := zeroiseStore_part s p
      exact ⟨congrArg Part.srk hp, congrArg Part.kwk hp⟩
  case loss =>
    intro mv s hl
    refine ⟨fun hp => congrArg Host.Outcome.next ((if_neg (by rw [hl]; exact Bool.false_ne_true)).trans (if_pos hp)),
      fun hp => ⟨_, exec_pwrLossNAssert_of_up hl hp, ?_⟩⟩
    obtain ⟨fab, tel, h⟩ := foldl_linkDown_only (List.finRange 8) (shedsLoad s mv)
    rw [h]
    refine ⟨rfl, rfl, rfl, rfl, rfl, fun g hg => ?_⟩
    obtain ⟨h1, h2⟩ := List.mem_filter.1 hg
    exact ⟨h1, of_decide_eq_true h2⟩
  case again => exact fun mv s h => congrArg Host.Outcome.next (if_pos h)
  case flush =>
    intro s n hf hn hs
    exact ⟨_, flushedPage s n, exec_flushPage_of_running hf hn hs, rfl, rfl, rfl, rfl⟩
  case holdup =>
    intro mv s i v e hi hsh hf hv he h1 h2 h3 hd
    exact ⟨_, exec_holdupTick_of_agreeing hi hsh hf hv he h1 h2 h3 hd, rfl, rfl, rfl, rfl, rfl⟩
  case back =>
    intro s
    refine ⟨fun h => congrArg Host.Outcome.next (if_neg (by rw [h]; decide)),
      fun h => congrArg Host.Outcome.next (if_pos (by rw [h]; rfl)), fun t ht hp hl => ?_, fun t ht hp hl => ?_⟩
    · rw [exec_pwrLossRecovery, execPwrLossRecovery, ht]
      exact congrArg Host.Outcome.next (if_pos (.inr hl))
    · refine ⟨_, exec_pwrLossRecovery_of_due ht hp hl, ?_⟩
      obtain ⟨tel, n, hr⟩ := controlRecord_only (lossEnds s) 4
      rw [hr]
      obtain ⟨h1, h2, h3, h4⟩ := lossEnds_facts s
      exact ⟨h1, h2, h3, h4⟩

end Sys2Proof.Machine
end

section
/-! The reset inputs (21): the obligation O48. -/

namespace Sys2Proof.Machine

theorem avsRequest_congr {s t : State} {r : Nat} (hr : r ≠ 0) : avsRequest s r = avsRequest t r := by
  rw [avsRequest, avsRequest, if_neg hr, if_neg hr]

theorem foldl_sendAvs (l : List Nat) (key : Nat → Nat) (r : Nat → Nat) (hr : ∀ n ∈ l, r n ≠ 0) (s u : State) :
    l.foldl (fun t n => sendAvs t (key n) (avsRequest t (r n))) s =
      s.modPw (fun w => { w with avsSent := w.avsSent ++ l.map (fun n => (key n, avsRequest u (r n))) }) := by
  induction l generalizing s with
  | nil => simp only [List.foldl_nil, List.map_nil, List.append_nil]; rfl
  | cons n l ih =>
    rw [List.foldl_cons, ih (fun m hm => hr m (List.mem_cons_of_mem _ hm)), avsRequest_congr (t := u) (hr n List.mem_cons_self)]
    simp only [sendAvs, State.modPw, List.map_cons, List.append_assoc, List.singleton_append]

theorem foldl_sendAvs_pair (l : List Nat) (s u : State) :
    l.foldl (fun t n => sendAvs (sendAvs t (48 + n) (avsRequest t 7)) (54 + n) (avsRequest t 8)) s =
      s.modPw (fun w => { w with avsSent := w.avsSent ++ l.flatMap (fun n =>
        [(48 + n, avsRequest u 7), (54 + n, avsRequest u 8)]) }) := by
  induction l generalizing s with
  | nil => simp only [List.foldl_nil, List.flatMap_nil, List.append_nil]; rfl
  | cons n l ih =>
    rw [List.foldl_cons, ih, avsRequest_congr (t := u) (by decide), avsRequest_congr (r := 8) (t := u) (by decide)]
    simp only [sendAvs, State.modPw, List.flatMap_cons, List.append_assoc, List.cons_append, List.nil_append]

theorem clockP4_unless_sys (u : State) : (if u.rst.sys then u else clockP4 u) = { u with
    clk := { u.clk with cur := if u.rst.sys then u.clk.cur else 4 }
    pw := { u.pw with pstep := if u.rst.sys then u.pw.pstep else 4, target := if u.rst.sys then u.pw.target else 4 } } := by
  cases h : u.rst.sys with
  | true => rfl
  | false => rfl

/-- R604: what the start of a cold boot sends and starts. -/
theorem coldStart_eq (s : State) : coldStart s = { s with
    clk := { s.clk with locked := true, refOk := true, gated := s.rst.pwrLoss, cur := if s.rst.sys then s.clk.cur else 4 }
    pw := { s.pw with
      avsSent := s.pw.avsSent ++ [(16, avsRequest s 1), (17, avsRequest s 2), (32, avsRequest s 3), (33, avsRequest s 4)] ++
        (List.range 6).flatMap (fun n => [(48 + n, avsRequest s 7), (54 + n, avsRequest s 8)])
      pstep := if s.rst.sys then s.pw.pstep else 4
      target := if s.rst.sys then s.pw.target else 4 }
    kci := { s.kci with dpBusy := true } } := by
  unfold coldStart
  dsimp only
  rw [foldl_sendAvs [1, 2, 3, 4] (fun r => [0, 16, 17, 32, 33].getD r 0) (fun r => r) (by decide) _ s,
    foldl_sendAvs_pair _ _ s, clockP4_unless_sys]
  have hl : [1, 2, 3, 4].map (fun r => ([0, 16, 17, 32, 33].getD r 0, avsRequest s r)) =
      [(16, avsRequest s 1), (17, avsRequest s 2), (32, avsRequest s 3), (33, avsRequest s 4)] := rfl
  rw [hl]
  simp only [State.modPw, State.modKci, State.modClk]
  rfl

theorem controlRecord_rst (s : State) (k : Option Byte) : (controlRecord s k).rst = s.rst := by
  cases k with
  | some k =>
    obtain ⟨tel, n, h⟩ := controlRecord_only s k
    rw [h]
  | none =>
    obtain ⟨tel, h⟩ := record_only ((s.freshBytes 1).2.freshBytes 4).2 0x0702 15 0x7F
      ((s.freshBytes 1).1 ++ ((s.freshBytes 1).2.freshBytes 4).1)
    have hr : controlRecord s none = _ := h
    rw [hr]
    rfl

/-- R596: what the reset of the data plane leaves of the command interface's registers and of the reset block. -/
theorem dataReset_facts (s : State) : (dataReset s).cores = Vector.replicate 96 .reset ∧
    (∀ p, ((dataReset s).part p).made = Part.reset.made) ∧ (dataReset s).kci.dpBusy = true ∧
    (dataReset s).clk.failed = s.clk.failed ∧ (dataReset s).rst.sys = s.rst.sys ∧ (dataReset s).rst.dpUp = false ∧
    (dataReset s).rst.sysCount = s.rst.sysCount := by
  unfold dataReset
  extract_lets tied u v
  have hu : OnlyKci s u := OnlyKci.foldl _ (fun t x => by
    split
    exacts [endTxn_onlyKci _ _ _ _ _ _, .refl t]) _ s
  have hv : OnlyKci s v := hu.trans (OnlyKci.foldl _ (fun _ _ => finish_onlyKci _ _ _ _ _) _ u)
  obtain ⟨hr, hc⟩ : v.rst = s.rst ∧ v.clk = s.clk := by
    rw [hv]
    exact ⟨rfl, rfl⟩
  have hsys : v.rst.sys = s.rst.sys := congrArg Rst.sys hr
  have hcount : v.rst.sysCount = s.rst.sysCount := congrArg Rst.sysCount hr
  have hfail : v.clk.failed = s.clk.failed := congrArg Clk.failed hc
  refine ⟨rfl, fun p => ?_, rfl, hfail, hsys, rfl, hcount⟩
  rw [State.part, vget_map]

/-- R540: the removal of one half of VAON: that agent is gone, and its copy of the deeds does not vote. -/
def vaonHalfOff (s : State) (i : Fin 2) : State :=
  ((s.modAgent i (fun a => { Agent.reset with role := 3, lastHb := a.lastHb })).modMg (fun m => { m with
    ends := vset m.ends (agentEp i) .reset })).modKci (fun k => { k with deeds := k.deeds.map (fun d => { d with
      agree := d.agree &&& (7 ^^^ BitVec.ofNat 3 (2 ^ (if i.val = 0 then 0 else 2))) }) })

/-- R620: PERST_N resets the control domain and clears its fault. -/
def perstReset (s : State) : State :=
  ((controlReset (s.modRst (fun r => { r with perst := true })) false).modKci (fun k => { k with cpFault := false })).modRst
    (fun r => { r with causePerst := true, ctlUp := false })

theorem exec_perstN_of_up {s : State} (hp : s.rst.por = false) : exec .perstN s = .next (perstReset s) :=
  congrArg Host.Outcome.next (if_neg (by
    show ¬ s.rst.por = true
    rw [hp]
    exact Bool.false_ne_true))

/-- R596: the data plane after SYS_RST_N, with a failed relock begun again. -/
def sysReset (s : State) : State :=
  let u := dataReset (s.modRst (fun r => { r with sys := true }))
  let v := if u.clk.failed then u.modClk (fun c => { c with
      failed := false, relocking := true, locked := false, gated := true, tries := 0, checked := false }) else u
  v.modRst (fun r => { r with causeSys := true, sysCount := satAdd r.sysCount 1 })

theorem exec_sysRstN_of_up {s : State} (hp : s.rst.por = false) : exec .sysRstN s = .next (sysReset s) :=
  congrArg Host.Outcome.next (if_neg (by
    show ¬ s.rst.por = true
    rw [hp]
    exact Bool.false_ne_true))

/-- R604: POR_N ends: the straps are latched, and reserved ones are recorded. -/
def strapped (s : State) (straps : BitVec 8) : State :=
  let u := { s with rst := { s.rst with por := false, straps := straps.zeroExtend 16 } }
  if field straps.toNat 5 3 = 0 then u else controlRecord u none

theorem strapped_perst (s : State) (straps : BitVec 8) : (strapped s straps).rst.perst = s.rst.perst := by
  unfold strapped
  dsimp only
  split
  · rfl
  · rw [controlRecord_rst]

theorem exec_porNDeassert_of_cool {s : State} (straps : BitVec 8) (b : Bool) (hp : s.rst.por = true)
    (ht : s.th.tripped = false) : exec (.porNDeassert straps b) s = .next (
      if (coldStart (strapped s straps)).rst.perst then coldStart (strapped s straps)
      else bootRom ((coldStart (strapped s straps)).modRst (fun r => { r with ctlUp := true })) b) := by
  rw [exec_porNDeassert, execPorNDeassert, if_neg (by rw [hp]; decide)]
  dsimp only
  rw [if_neg (by show ¬ s.th.tripped = true; rw [ht]; exact Bool.false_ne_true), ite_not]
  rfl

/-- Settles O48, by what each input clears. -/
theorem resetEvents : Obligations.reset_events := by
  refine ⟨fun a s => rfl, fun s => ⟨_, rfl, ?por⟩, ?porEnds, coldStart_eq, ?perst, ?perstEnds, ?sys, ?sysEnds, ?vaon⟩
  case por => exact ⟨rfl, rfl, rfl, rfl, rfl, rfl, rfl, rfl, rfl, rfl, rfl, rfl, rfl, rfl, rfl, rfl⟩
  case porEnds =>
    intro straps b s
    refine ⟨fun h => congrArg Host.Outcome.next (if_pos (by rw [h]; rfl)),
      fun h ht => congrArg Host.Outcome.next ((if_neg (by rw [h]; decide)).trans (if_pos ht)), fun h ht => ⟨_, _, rfl, rfl, ?_⟩⟩
    have hx := exec_porNDeassert_of_cool straps b h ht
    have hr : (coldStart (strapped s straps)).rst = (strapped s straps).rst := by rw [coldStart_eq]
    have hp : (strapped s straps).rst.perst = s.rst.perst := strapped_perst s straps
    refine ⟨fun h1 => hx.trans (congrArg Host.Outcome.next (if_pos ?_)), fun h1 =>
      hx.trans (congrArg Host.Outcome.next ((if_neg ?_).trans ?_))⟩
    · rw [hr, hp, h1]
    · rw [hr, hp, h1]
      exact Bool.false_ne_true
    · rw [State.modRst, hr]
      rfl
  case perst =>
    intro s hp
    refine ⟨_, exec_perstN_of_up hp, ?_⟩
    obtain ⟨hco, hme, hms, hli, htx, hrst, hrun, haak, hfns⟩ :=
      controlReset_facts (s.modRst (fun r => { r with perst := true })) false
    unfold perstReset
    generalize controlReset (s.modRst (fun r => { r with perst := true })) false = u at *
    refine ⟨congrArg Rst.perst hrst, rfl, rfl, congrArg Rst.stage hrst, congrArg Rst.ctlCount hrst, hli,
      htx, rfl, fun f => ?_, hrun, haak, hco, hme, hms⟩
    exact (congrArg (vget · f) hfns).trans (vget_map _ _ f)
  case perstEnds =>
    intro b s
    refine ⟨fun h => congrArg Host.Outcome.next (if_pos (by rw [h]; rfl)), fun h hp ht hc =>
      congrArg Host.Outcome.next ((if_neg (by rw [h]; decide)).trans (if_neg ?_)), fun h hn =>
      congrArg Host.Outcome.next ((if_neg (by rw [h]; decide)).trans (if_pos hn))⟩
    show ¬(s.rst.por = true ∨ s.th.tripped = true ∨ s.rst.ctlUp = true)
    rw [hp, ht, hc]
    decide
  case sys =>
    intro s hp
    refine ⟨_, exec_sysRstN_of_up hp, ?_⟩
    obtain ⟨h1, h2, h3, h4, h5, h6, h7⟩ := dataReset_facts (s.modRst (fun r => { r with sys := true }))
    unfold sysReset
    extract_lets u v
    obtain ⟨hr, hco, hpa, hk⟩ : v.rst = u.rst ∧ v.cores = u.cores ∧ v.parts = u.parts ∧ v.kci = u.kci := by
      simp only [v]
      split
      exacts [⟨rfl, rfl, rfl, rfl⟩, ⟨rfl, rfl, rfl, rfl⟩]
    have hcount : satAdd v.rst.sysCount 1 = satAdd s.rst.sysCount 1 := by
      rw [hr]
      exact congrArg (satAdd · 1) h7
    have hmade : ∀ p, (v.part p).made = Part.reset.made := fun p => by
      rw [State.part, hpa]
      exact h2 p
    have hclk : s.clk.failed = true → v.clk.relocking = true ∧ v.clk.failed = false := fun hf => by
      have hv : v = _ := if_pos (h4.trans hf)
      rw [hv]
      exact ⟨rfl, rfl⟩
    exact ⟨(congrArg Rst.sys hr).trans h5, (congrArg Rst.dpUp hr).trans h6, rfl, hcount, (congrArg Kci.dpBusy hk).trans h3,
      hco.trans h1, hmade, hclk⟩
  case sysEnds =>
    intro s
    refine ⟨fun h => congrArg Host.Outcome.next (if_pos (by rw [h]; rfl)), fun h hp ht =>
      congrArg Host.Outcome.next ((if_neg (by rw [h]; decide)).trans (if_neg ?_)), fun h hn =>
      congrArg Host.Outcome.next ((if_neg (by rw [h]; decide)).trans (if_pos hn))⟩
    show ¬(s.rst.por = true ∨ s.th.tripped = true)
    rw [hp, ht]
    decide
  case vaon =>
    intro s
    refine ⟨⟨_, rfl, rfl, rfl, rfl, rfl⟩, fun i => ⟨vaonHalfOff s i, rfl, rfl, ?_, fun j hj => agent_modAgent_of_ne s _ hj,
      fun r => ?_⟩⟩
    · exact congrArg Agent.role (agent_modAgent s i _)
    · have hd : vget (vaonHalfOff s i).kci.deeds r = _ := vget_map _ _ r
      rw [hd]
      exact ⟨rfl, rfl⟩

end Sys2Proof.Machine
end
